-- ==== Sys2Proof/Word.lean ====
section
/-! DEFINITION. The words of the block: bytes, register words (32 bits, spec 00 "Registers") and 64-bit quantities. -/

namespace Sys2Proof

/-- One byte of a descriptor, a frame or host memory. -/
abbrev Byte := BitVec 8

/-- One register, one lane-memory word, one descriptor operand. -/
abbrev Word := BitVec 32

/-- A word read as a signed number (a Qm.n raw value). -/
def sgn (w : Word) : Int := w.toInt

/-- The word of a signed number, modulo 2^32. -/
def ofInt (x : Int) : Word := BitVec.ofInt 32 x

/-- The word of a natural number, modulo 2^32. -/
def ofNat (x : Nat) : Word := BitVec.ofNat 32 x

end Sys2Proof
end

