-- ==== Sys2Proof/Syntax.lean ====
section
/-! DEFINITION. The commands of the block: one constructor per row of spec/opcode_table.json, with the operands the
spec gives the row. A host command carries its source and its descriptor (Table 2.13); a command that reads host
memory also carries what the read returned (`none`: the read failed); an event carries what the outside supplies. -/

namespace Sys2Proof

/-- Where a descriptor came from: a submission ring, or the command port of customer hart 2 or 3 (R525). -/
inductive Src where
  | ring (r : Fin 32)
  | port (h : Fin 2)
  deriving DecidableEq, Repr

/-- A descriptor but for its opcode (Table 2.13). -/
structure Desc where
  flags : Byte
  target : BitVec 16
  tag : Word
  op0 : Word
  op1 : Word
  op2 : Word
  op3 : Word
  op4 : Word
  op5 : Word
  deriving DecidableEq, Repr

/-- The descriptor at the head of a submission ring, as host memory holds it. -/
structure Head where
  ring : Fin 32
  opcode : Byte
  desc : Desc
  deriving DecidableEq, Repr

/-- Who accesses a register: the host through BAR0, or a hart (R506). -/
inductive Agent where
  | host
  | hart (h : Fin 4)
  deriving DecidableEq, Repr

/-- Where an access goes: the registers (BAR0, or a hart's register space), or for the host BAR2, BAR4 or configuration space
(R51, R52). -/
inductive Space where
  | regs | bar2 | bar4 | config
  deriving DecidableEq, Repr

/-- The alias windows of BAR0 (R54). -/
inductive Win where
  | normal | set | clr | mask
  deriving DecidableEq, Repr

/-- The ring a source counts as (R525: a command port counts as ring 3). -/
def Src.ringNo : Src → Nat
  | .ring r => r.val
  | .port _ => 3

/-- TARGET as a number. -/
def Desc.tgt (d : Desc) : Nat := d.target.toNat

/-- FLAGS.COMP, FENCE, URGENT and AT_CYCLE (Table 2.13). -/
def Desc.comp (d : Desc) : Bool := d.flags.getLsbD 0
def Desc.fence (d : Desc) : Bool := d.flags.getLsbD 1
def Desc.urgent (d : Desc) : Bool := d.flags.getLsbD 2
def Desc.atCycle (d : Desc) : Bool := d.flags.getLsbD 3

/-- The start ordered set of a frame (Table 3.1). -/
inductive StartSet where
  | sail | berth | dyn
  deriving DecidableEq, Repr

/-- A frame on an uplink: start-of-frame in ns from the boundary of the current cycle at the star's receive pins,
its start ordered set, whether a code violation was seen, and header, payload and CRC bytes. -/
structure RxFrame where
  t : Int
  set : StartSet
  cv : Bool
  bytes : List Byte
  deriving DecidableEq, Repr

/-- A CAN frame on the bus: IDW of Table 15.7, LEN (the DLC of a remote frame), RTR, ESI, data bytes, and network time and
cycle number at the sample point of its start-of-frame bit. -/
structure CanBits where
  idw : Word
  len : Fin 65
  rtr : Bool
  esi : Bool
  data : List Byte
  ts : Word
  cyc : Word
  deriving DecidableEq, Repr

/-- What a bus error is, by its effect on the error counters (ISO 11898-1): a receiver's error; a dominant bit after a
receiver's error flag; an error of the own attempt; a bit error in the data field of a frame that has won arbitration; an
own error that leaves TEC; a further TEC + 8 while the error flag is sent. -/
inductive CanErr where
  | rx | rxDominant | tx | txData | txQuiet | txDominant
  deriving DecidableEq, Repr

/-- A manifest instruction but for its opcode (Table 6.5; bits [45:44] are 0). LDK's constant is XM and YM together,
REP's length field is DST, SA and the upper two bits of SB. -/
structure LaneWord where
  dst : BitVec 4
  sa : BitVec 4
  sb : BitVec 4
  imm : BitVec 12
  xm : BitVec 16
  ym : BitVec 16
  deriving DecidableEq, Repr

/-- A memory error that a read of a lane's pass finds (R236): manifest (0), X (1) or Y (2) memory, the word's address, and whether it
cannot be corrected. -/
structure LaneErr where
  mem : Fin 3
  addr : BitVec 14
  fatal : Bool
  deriving DecidableEq, Repr


/-- The commands of the block, in the order of the opcode table but for the end: compiled Lean builds a constructor with operands only
up to place 243, so eighteen CAN commands and then the commands without operands come last. -/
inductive Instr where
  /-- NOP (R94). -/
  | nop (src : Src) (d : Desc)
  /-- REG_WRITE (R94). -/
  | regWrite (src : Src) (d : Desc)
  /-- REG_READ (R94). -/
  | regRead (src : Src) (d : Desc)
  /-- WAIT_CYCLE (R91). -/
  | waitCycle (src : Src) (d : Desc)
  /-- REGISTER_WRITE (R624). A write in the NORMAL window with its byte enables, or a write of the host in another space of the function. -/
  | registerWrite (agent : Agent) (off : BitVec 22) (value : Word) (be : BitVec 4) (space : Space)
  /-- ALIAS_SET_WRITE (R54). -/
  | aliasSetWrite (agent : Agent) (off : BitVec 22) (value : Word) (be : BitVec 4)
  /-- ALIAS_CLR_WRITE (R54). -/
  | aliasClrWrite (agent : Agent) (off : BitVec 22) (value : Word) (be : BitVec 4)
  /-- ALIAS_MASK_WRITE (R54). -/
  | aliasMaskWrite (agent : Agent) (off : BitVec 22) (value : Word) (be : BitVec 4)
  /-- LOW_WORD_READ (R17). A read in any window, or a read of the host in another space of the function. -/
  | lowWordRead (agent : Agent) (off : BitVec 24) (space : Space)
  /-- RC_FIELD_READ (R19). -/
  | rcFieldRead (agent : Agent) (off : BitVec 24)
  /-- DOORBELL_WRITE (R82). -/
  | doorbellWrite (ring : Fin 32) (value : Word)
  /-- RING_RESET (R84). -/
  | ringReset (ring : Fin 32)
  /-- RING_DISABLE (R84). -/
  | ringDisable (ring : Fin 32)
  /-- RING_RESIZE_REQUEST (R85). -/
  | ringResizeRequest (ring : Fin 32) (log2size : BitVec 5)
  /-- CMD_PAUSE_WRITE (R92). -/
  | cmdPauseWrite (on : Bool)
  /-- MSIX_VECTOR_UNMASK (R96). The entry's message address and data come with its mask bit. -/
  | msixVectorUnmask (vector : Fin 64) (addr : BitVec 64) (data : Word)
  /-- RING_IRQ_UNMASK (R99). -/
  | ringIrqUnmask (ring : Fin 32)
  /-- REPORT_RING_WRITE (R80). -/
  | reportRingWrite (ring : Fin 32)
  /-- RING_IRQ_HOLD_EXPIRY (R98). -/
  | ringIrqHoldExpiry (ring : Fin 32)
  /-- COMPLETION_RING_STALL (R90). Ring 4, or ring 5. -/
  | completionRingStall (second : Bool)
  /-- RING_DMA_ERROR (R83). -/
  | ringDmaError (ring : Fin 32)
  /-- DESCRIPTOR_TAKE (R92). What host memory holds at the heads of the rings. -/
  | descriptorTake (heads : List Head)
  /-- CYCLE_BOUNDARY (R147). What the pin reference inputs have measured, and their levels. -/
  | cycleBoundary (refs : List (Nat × Bool))
  /-- MANIFEST_WORD_STORE (R241). -/
  | manifestWordStore (hi : Word)
  /-- LANE_SLIST_WRITE (R242). -/
  | laneSlistWrite (list : Fin 64) (pair : Fin 4) (value : Word)
  /-- LANE_ENTRY_WRITE (R242). -/
  | laneEntryWrite (set : Fin 16) (word : Fin 4) (value : Word)
  /-- LIST_CHECK_DONE (R242). -/
  | listCheckDone (list : Fin 64)
  /-- PORT_CFG_WRITE (R108). -/
  | portCfgWrite (port : Fin 16) (value : Word)
  /-- NET_BOOM (R174). -/
  | netBoom (src : Src) (d : Desc)
  /-- NET_NODE_QUERY (R178). -/
  | netNodeQuery (src : Src) (d : Desc)
  /-- NET_NODE_RESET (R179). -/
  | netNodeReset (src : Src) (d : Desc)
  /-- NET_WORKER_PARAM (R144). `image` is what the host-memory read returned. -/
  | netWorkerParam (src : Src) (d : Desc) (image : Option (List Byte))
  /-- NET_WORKER_FW (R144). `image` is what the host-memory read returned. -/
  | netWorkerFw (src : Src) (d : Desc) (image : Option (List Byte))
  /-- NET_PORT_TEST (R581). -/
  | netPortTest (src : Src) (d : Desc)
  /-- TIME_SET (R150). -/
  | timeSet (src : Src) (d : Desc)
  /-- TUNNEL_TX (R145). `frame` is what the host-memory read returned. -/
  | tunnelTx (src : Src) (d : Desc) (frame : Option (List Byte))
  /-- BERTH_UP (R124). -/
  | berthUp (port : Fin 16) (f : RxFrame)
  /-- GUARDIAN_OVERRUN (R169). The bytes that arrived before the cut. -/
  | guardianOverrun (port : Fin 16) (f : RxFrame)
  /-- SAIL_RING_RETURN (R113). -/
  | sailRingReturn (port : Fin 16) (f : RxFrame)
  /-- HELM_SAIL_CONFLICT (R563). -/
  | helmSailConflict (port : Fin 16) (f : RxFrame)
  /-- AUTO_JOIN_BOOM_OPEN (R163). -/
  | autoJoinBoomOpen (node : Fin 4096)
  /-- NODE_ABSENT (R161). -/
  | nodeAbsent (node : Fin 4096)
  /-- DOWNLINK_BERTH_SEND (R131). -/
  | downlinkBerthSend (node : Fin 4096) (part : Bool)
  /-- DYN_SEGMENT_DOWNLINK (R140). -/
  | dynSegmentDownlink (branch : Fin 16)
  /-- JOIN_REQ (R161). -/
  | joinReq (port : Fin 16) (f : RxFrame)
  /-- DATA_ACK (R144). -/
  | dataAck (port : Fin 16) (f : RxFrame)
  /-- ECHO_RSP (R164). -/
  | echoRsp (port : Fin 16) (f : RxFrame)
  /-- CART_RSP (R409). -/
  | cartRsp (port : Fin 16) (f : RxFrame)
  /-- NODE_INFO (R178). -/
  | nodeInfo (port : Fin 16) (f : RxFrame)
  /-- TUNNEL_UP_FRAGMENT (R146). -/
  | tunnelUpFragment (port : Fin 16) (f : RxFrame)
  /-- TUNNEL_REASSEMBLY_TIMEOUT (R146). -/
  | tunnelReassemblyTimeout (node : Fin 4096)
  /-- TRANSFER_BLOCK_RESEND (R144). -/
  | transferBlockResend (node : Fin 4096)
  /-- ECHO_SCHEDULE (R164). -/
  | echoSchedule (node : Fin 4096)
  /-- NET_BOOM_TIMEOUT (R174). -/
  | netBoomTimeout (node : Fin 4096)
  /-- NODE_RESET_TIMEOUT (R179). -/
  | nodeResetTimeout (node : Fin 4096)
  /-- NODE_QUERY_TIMEOUT (R178). -/
  | nodeQueryTimeout (node : Fin 4096)
  /-- UPLINK_FRAME_REJECTED (R168). -/
  | uplinkFrameRejected (port : Fin 16) (f : RxFrame)
  /-- PORT_SYNC_CHANGE (R106). -/
  | portSyncChange (port : Fin 16) (sync : Bool) (pins : BitVec 3)
  /-- GRANT_MISS (R200). -/
  | grantMiss (node : Fin 4096)
  /-- PPS_IN_EDGE (R149). `stamp` is the network time of the marking edge, ns. -/
  | ppsInEdge (stamp : BitVec 64)
  /-- PPS_OUT_PULSE (R151). The rise at a whole second, or the fall 100 µs later. -/
  | ppsOutPulse (high : Bool)
  /-- PLAN_PREPARE (R194). -/
  | planPrepare (src : Src) (d : Desc)
  /-- PLAN_COMMIT (R196). -/
  | planCommit (src : Src) (d : Desc)
  /-- PLAN_ABORT (R195). -/
  | planAbort (src : Src) (d : Desc)
  /-- PLAN_REPORT (R204). -/
  | planReport (src : Src) (d : Desc)
  /-- PLAN_LOAD_RECEIVE (R194). The plan tables as they arrive over CHAIN. -/
  | planLoadReceive (body : List Word)
  /-- PASS_START (R30). `errs` are the memory errors that reads of the pass find (R236), `t` is the actual start in CK_CORE cycles from the boundary of the pass's own cycle. -/
  | passStart (lane : Fin 16) (axis : Fin 256) (t : Int) (errs : List LaneErr)
  /-- PASS_START_MISSING (R31). -/
  | passStartMissing (lane : Fin 16) (axis : Fin 256) (t : Int) (errs : List LaneErr)
  /-- PASS_END (R233). -/
  | passEnd (lane : Fin 16)
  /-- LANE_NOP (R221). -/
  | laneNop (lane : Fin 16) (w : LaneWord)
  /-- END (R238). -/
  | laneEnd (lane : Fin 16) (w : LaneWord)
  /-- REP (R226). -/
  | laneRep (lane : Fin 16) (w : LaneWord)
  /-- LDK (R221). -/
  | laneLdk (lane : Fin 16) (w : LaneWord)
  /-- AGP (R221). -/
  | laneAgp (lane : Fin 16) (w : LaneWord)
  /-- AGM (R221). -/
  | laneAgm (lane : Fin 16) (w : LaneWord)
  /-- AGL (R221). -/
  | laneAgl (lane : Fin 16) (w : LaneWord)
  /-- AGR (R221). -/
  | laneAgr (lane : Fin 16) (w : LaneWord)
  /-- ADD (R221). -/
  | laneAdd (lane : Fin 16) (w : LaneWord)
  /-- ADDC (R221). -/
  | laneAddc (lane : Fin 16) (w : LaneWord)
  /-- SUB (R221). -/
  | laneSub (lane : Fin 16) (w : LaneWord)
  /-- SUBC (R221). -/
  | laneSubc (lane : Fin 16) (w : LaneWord)
  /-- ADDS (R221). -/
  | laneAdds (lane : Fin 16) (w : LaneWord)
  /-- SUBS (R221). -/
  | laneSubs (lane : Fin 16) (w : LaneWord)
  /-- NEGS (R221). -/
  | laneNegs (lane : Fin 16) (w : LaneWord)
  /-- ABSS (R221). -/
  | laneAbss (lane : Fin 16) (w : LaneWord)
  /-- MIN (R221). -/
  | laneMin (lane : Fin 16) (w : LaneWord)
  /-- MAX (R221). -/
  | laneMax (lane : Fin 16) (w : LaneWord)
  /-- CLAMP (R221). -/
  | laneClamp (lane : Fin 16) (w : LaneWord)
  /-- CLAMP2 (R221). -/
  | laneClamp2 (lane : Fin 16) (w : LaneWord)
  /-- SEL (R221). -/
  | laneSel (lane : Fin 16) (w : LaneWord)
  /-- BLEND (R221). -/
  | laneBlend (lane : Fin 16) (w : LaneWord)
  /-- ASL (R221). -/
  | laneAsl (lane : Fin 16) (w : LaneWord)
  /-- ASR (R221). -/
  | laneAsr (lane : Fin 16) (w : LaneWord)
  /-- LSR (R221). -/
  | laneLsr (lane : Fin 16) (w : LaneWord)
  /-- AND (R221). -/
  | laneAnd (lane : Fin 16) (w : LaneWord)
  /-- OR (R221). -/
  | laneOr (lane : Fin 16) (w : LaneWord)
  /-- XOR (R221). -/
  | laneXor (lane : Fin 16) (w : LaneWord)
  /-- FLAGC (R221). -/
  | laneFlagc (lane : Fin 16) (w : LaneWord)
  /-- LDIX (R221). -/
  | laneLdix (lane : Fin 16) (w : LaneWord)
  /-- MPY (R223). -/
  | laneMpy (lane : Fin 16) (w : LaneWord)
  /-- MAC (R223). -/
  | laneMac (lane : Fin 16) (w : LaneWord)
  /-- MSU (R223). -/
  | laneMsu (lane : Fin 16) (w : LaneWord)
  /-- DMPY (R221). -/
  | laneDmpy (lane : Fin 16) (w : LaneWord)
  /-- DMAC (R221). -/
  | laneDmac (lane : Fin 16) (w : LaneWord)
  /-- FTAP (R224). -/
  | laneFtap (lane : Fin 16) (w : LaneWord)
  /-- LDA (R221). -/
  | laneLda (lane : Fin 16) (w : LaneWord)
  /-- STA (R223). -/
  | laneSta (lane : Fin 16) (w : LaneWord)
  /-- ACLR (R221). -/
  | laneAclr (lane : Fin 16) (w : LaneWord)
  /-- AADD (R221). -/
  | laneAadd (lane : Fin 16) (w : LaneWord)
  /-- LRD (R227). -/
  | laneLrd (lane : Fin 16) (w : LaneWord)
  /-- LWR (R227). -/
  | laneLwr (lane : Fin 16) (w : LaneWord)
  /-- LIFE (R221). -/
  | laneLife (lane : Fin 16) (w : LaneWord)
  /-- AXIS_SET_MODE (R268). -/
  | axisSetMode (src : Src) (d : Desc)
  /-- AXIS_PARAM_WRITE (R290). -/
  | axisParamWrite (src : Src) (d : Desc)
  /-- AXIS_PARAM_READ (R291). -/
  | axisParamRead (src : Src) (d : Desc)
  /-- AXIS_ADAPT_LOCK (R286). -/
  | axisAdaptLock (src : Src) (d : Desc)
  /-- AXIS_LEARN_RESET (R295). -/
  | axisLearnReset (src : Src) (d : Desc)
  /-- AXIS_INJECT (R275). -/
  | axisInject (src : Src) (d : Desc)
  /-- AXIS_CLEAR_FAULT (R294). -/
  | axisClearFault (src : Src) (d : Desc)
  /-- ID_BLOCK (R280). -/
  | idBlock (axis : Fin 256)
  /-- FREEZE_DETECT (R316). -/
  | freezeDetect (axis : Fin 256)
  /-- FEEDBACK_RECOVERY (R300). -/
  | feedbackRecovery (axis : Fin 256)
  /-- FEEDBACK_PERSIST_LATCH (R300). -/
  | feedbackPersistLatch (axis : Fin 256)
  /-- CATCH_TMO_EXPIRY (R351). -/
  | catchTmoExpiry (axis : Fin 256)
  /-- OBS_RELOCK_EXPIRY (R355). -/
  | obsRelockExpiry (axis : Fin 256)
  /-- TQ_RAMP_COMPLETE (R356). -/
  | tqRampComplete (axis : Fin 256)
  /-- LEDGER_COMPUTE (R365). -/
  | ledgerCompute (group : Fin 32)
  /-- AX_PVAL_LO_WRITE (R293). -/
  | axPvalLoWrite (axis : Fin 256) (value : Word)
  /-- AX_PVAL_HI_WRITE (R293). -/
  | axPvalHiWrite (axis : Fin 256) (value : Word)
  /-- FLT_TRIP (R329). -/
  | fltTrip (input : Fin 8)
  /-- LOCAL_FLT_LATCH_CLEAR (R329). Ones written to LATCH, and the inputs then at their active level. -/
  | localFltLatchClear (value active : Byte)
  /-- ADC_TRIGGER (R330). ns from the boundary, and the level of the open input. -/
  | adcTrigger (lx : Fin 8) (t : Nat) (open_ : Bool)
  /-- ADC_CONVERSION_DONE (R330). -/
  | adcConversionDone (lx : Fin 8) (ia ib vb : BitVec 14)
  /-- ADC_SCAN_CONVERSION (R332). -/
  | adcScanConversion (channel : Fin 24) (code : BitVec 14)
  /-- SSI_BURST (R315). The clocked bits, the last one in bit 0. -/
  | ssiBurst (lx : Fin 8) (word : BitVec 64)
  /-- PWM_UPDATE_POINT (R327). -/
  | pwmUpdatePoint (lx : Fin 8) (t : Nat)
  /-- STEP_PULSE (R337). -/
  | stepPulse (lx : Fin 8) (t : Nat)
  /-- EMU_EDGE (R321). -/
  | emuEdge (emulator : Fin 4) (t : Nat)
  /-- REF_INPUT_LOSS (R335). -/
  | refInputLoss (input : Fin 4)
  /-- REF_LOST_CLEAR (R403). -/
  | refLostClear (input : Fin 4)
  /-- LOCAL_FEEDBACK_EDGE (R302). New filtered levels of A, B, Z, H1, H2, H3. -/
  | localFeedbackEdge (lx : Fin 8) (levels : BitVec 6) (t : Nat)
  /-- PROBE_PULSE_END (R344). -/
  | probePulseEnd (lx : Fin 8) (t : Nat) (ia ib : BitVec 14)
  /-- MOVE_SEG (R378). -/
  | moveSeg (src : Src) (d : Desc)
  /-- MOVE_START_GROUP (R387). -/
  | moveStartGroup (src : Src) (d : Desc)
  /-- MOVE_STOP (R390). -/
  | moveStop (src : Src) (d : Desc)
  /-- MOVE_RESUME (R391). -/
  | moveResume (src : Src) (d : Desc)
  /-- HOME_START (R397). -/
  | homeStart (src : Src) (d : Desc)
  /-- GROUP_SET (R386). -/
  | groupSet (src : Src) (d : Desc)
  /-- GROUP_START (R387). -/
  | groupStart (group : Fin 32)
  /-- LIMIT_RAW_EDGE (R394). New raw level of the positive or negative source. -/
  | limitRawEdge (axis : Fin 256) (neg level : Bool) (t : Nat)
  /-- LIMIT_DEBOUNCE (R393). -/
  | limitDebounce (axis : Fin 256) (neg : Bool)
  /-- HOME_STALL_DETECT (R400). -/
  | homeStallDetect (axis : Fin 256)
  /-- CART_AUTH (R428). -/
  | cartAuth (src : Src) (d : Desc)
  /-- CART_READ (R428). -/
  | cartRead (src : Src) (d : Desc)
  /-- CART_WRITE (R428). `data` is what the host-memory read returned. -/
  | cartWrite (src : Src) (d : Desc) (data : Option (List Byte))
  /-- CART_POLICY (R425). `table` is what the host-memory read returned. -/
  | cartPolicy (src : Src) (d : Desc) (table : Option (List Byte))
  /-- CART_FLUSH (R422). -/
  | cartFlush (src : Src) (d : Desc)
  /-- TAG_RESPONSE (R408). -/
  | tagResponse (axis : Fin 256) (msg : List Byte)
  /-- TAG_TIMEOUT (R410). -/
  | tagTimeout (axis : Fin 256)
  /-- TAG_PRESENCE_CHANGE (R429). -/
  | tagPresenceChange (axis : Fin 256) (present : Bool)
  /-- REMOVAL_WARNING (R423). -/
  | removalWarning (node : Fin 4096)
  /-- WRITEBACK_SCHEDULED (R422). -/
  | writebackScheduled (axis : Fin 256)
  /-- SAFE_CONFIG_LOAD (R440). `image` is what the host-memory read returned. -/
  | safeConfigLoad (src : Src) (d : Desc) (image : Option (List Byte))
  /-- SAFE_STATUS (R471). -/
  | safeStatus (src : Src) (d : Desc)
  /-- SAFETY_CYCLE_START (R434). The channel, its raw input samples and the SOFB levels. -/
  | safetyCycleStart (stbd : Bool) (inputs : BitVec 16) (sofb : Byte)
  /-- SAFETY_INPUT_FILTER_CHANGE (R446). -/
  | safetyInputFilterChange (stbd : Bool) (input : Fin 16) (level : Bool)
  /-- TEST_PULSE (R448). Samples before the pulse, and the inputs that read low in its last 100 µs. -/
  | testPulse (source : Fin 4) (before lows : BitVec 16)
  /-- DISCREPANCY_TIMEOUT (R447). -/
  | discrepancyTimeout (stbd : Bool) (pair : Fin 8)
  /-- ACK_ACCEPT (R452). -/
  | ackAccept (stbd : Bool)
  /-- ACK_STUCK (R452). -/
  | ackStuck (stbd : Bool)
  /-- ACK_SPLIT (R454). -/
  | ackSplit (stbd : Bool)
  /-- SS1_DELAY_EXPIRY (R450). -/
  | ss1DelayExpiry (stbd : Bool) (func : Fin 16)
  /-- READBACK_TIMEOUT (R456). -/
  | readbackTimeout (stbd : Bool) (output : Fin 4)
  /-- DARK_TEST (R457). Whether the readback went low within the pulse. -/
  | darkTest (stbd : Bool) (output : Fin 4) (fell : Bool)
  /-- SAFETY_SELFTEST_DONE (R435). -/
  | safetySelftestDone (stbd pass : Bool)
  /-- STO_REPORT_CHECK (R465). -/
  | stoReportCheck (group : Fin 16)
  /-- SAFETY_INTERNAL_FAULT (R469). 0 SELFTEST, 1 ECC, 2 PARTNER by its period. -/
  | safetyInternalFault (stbd : Bool) (code : Fin 3)
  /-- LOG_CONFIG (R475). `list` is what the host-memory read returned. -/
  | logConfig (src : Src) (d : Desc) (list : Option (List Byte))
  /-- LOG_START (R491). -/
  | logStart (src : Src) (d : Desc)
  /-- LOG_STOP (R492). -/
  | logStop (src : Src) (d : Desc)
  /-- LOG_MASK_LOAD (R484). `table` is what the host-memory read returned. -/
  | logMaskLoad (src : Src) (d : Desc) (table : Option (List Byte))
  /-- LOG_TRIGGER (R481). -/
  | logTrigger (src : Src) (d : Desc)
  /-- SOUND_FIRE (R495). -/
  | soundFire (src : Src) (d : Desc)
  /-- SNAP_DUMP (R500). -/
  | snapDump (src : Src) (d : Desc)
  /-- LOG_SAMPLE (R478). -/
  | logSample (stream : Fin 8)
  /-- LOG_REARM (R483). -/
  | logRearm (stream : Fin 8)
  /-- LOG_RESIZE_GAP (R490). -/
  | logResizeGap (stream : Fin 8)
  /-- SOUNDING_LATCH (R498). Skew of the 8 domains, then of the 18 receivers. -/
  | soundingLatch (skews : List Byte)
  /-- XDSP_PREEMPT (R518). -/
  | xdspPreempt (hart : Fin 4)
  /-- XDSP_YIELD (R518). -/
  | xdspYield (hart : Fin 4)
  /-- XDSP_WAIT (R518). -/
  | xdspWait (hart : Fin 4)
  /-- XDSP_STOP (R518). -/
  | xdspStop (hart : Fin 4)
  /-- XDSP_DISPATCH (R519). -/
  | xdspDispatch (hart : Fin 4)
  /-- XEVTCLAIM (R527). -/
  | xevtclaim (hart : Fin 4)
  /-- XWDT (R509). -/
  | xwdt (hart : Fin 4)
  /-- XNTIMEL (R510). -/
  | xntimel (hart : Fin 4)
  /-- TOKEN_MATCH (R515). core: the hart that executes an instruction on this CK_CPU edge. -/
  | tokenMatch (core : Option (Fin 4))
  /-- DSP_START (R518). -/
  | dspStart (value : Word)
  /-- DSP_STOP (R521). -/
  | dspStop (value : Word)
  /-- SEMAPHORE_POST (R524). -/
  | semaphorePost (agent : Agent) (n : Fin 256) (value : Word)
  /-- MAILBOX_APPEND (R524). -/
  | mailboxAppend (agent : Agent) (m : Fin 64) (value : Word)
  /-- THREAD_BLOCK_WRITE (R521). -/
  | threadBlockWrite (agent : Agent) (thread : Fin 256) (word : Fin 16) (value : Word)
  /-- COMMAND_PORT_SUBMIT (R525). -/
  | commandPortSubmit (port : Fin 2) (value : Word)
  /-- CPU_HRST_WRITE (R509). -/
  | cpuHrstWrite (value : Word)
  /-- CUSTOMER_HART_WATCHDOG (R509). -/
  | customerHartWatchdog (h : Fin 2)
  /-- CAN_TX (R546). `data` is what the host-memory read returned. -/
  | canTx (src : Src) (d : Desc) (data : Option (List Byte))
  /-- CAN_RECOVER (R552). -/
  | canRecover (src : Src) (d : Desc)
  /-- CAN_SLEEP (R554). -/
  | canSleep (src : Src) (d : Desc)
  /-- HELM_HANDOVER (R574). -/
  | helmHandover (src : Src) (d : Desc)
  /-- HELM_RELAY_GRANT (R578). -/
  | helmRelayGrant (src : Src) (d : Desc)
  /-- TEST_LANE (R581). -/
  | testLane (src : Src) (d : Desc)
  /-- TEST_HART (R581). -/
  | testHart (src : Src) (d : Desc)
  /-- TEST_MEMORY (R582). -/
  | testMemory (src : Src) (d : Desc)
  /-- PD_SWITCH (R597). -/
  | pdSwitch (src : Src) (d : Desc)
  /-- KEEL_PROGRAM (R604). -/
  | keelProgram (src : Src) (d : Desc)
  /-- FW_STAGE (R596). `image` is what the host-memory read returned. -/
  | fwStage (src : Src) (d : Desc) (image : Option (List Byte))
  /-- PARTNER_HELM_CHANGE (R576). -/
  | partnerHelmChange (level : Bool)
  /-- SELF_DIAGNOSIS_FAIL (R573). `code` of Table 16.3. -/
  | selfDiagnosisFail (code : Fin 12)
  /-- HEARTBEAT_RECEIVE (R566). -/
  | heartbeatReceive (hstate : Fin 5) (hsync : Fin 5) (cycle : Word) (ntime : BitVec 64)
  /-- CHAIN_LANE_CHANGE (R566). -/
  | chainLaneChange (lane : Fin 2) (up : Bool)
  /-- RELAY_GRANT_MESSAGE (R579). -/
  | relayGrantMessage (branch : Fin 16) (grant : Bool)
  /-- RELAY_FRAME (R579). -/
  | relayFrame (branch : Fin 16) (up : Bool) (start : BitVec 32) (bytes : List Byte)
  /-- CABLE_BREAK (R577). `pos` is the first position beyond the break. -/
  | cableBreak (branch : Fin 16) (pos : Fin 25)
  /-- RESYNC_CHECK (R580). -/
  | resyncCheck (prole : BitVec 2) (pvariant : BitVec 2) (pmgr : Byte) (pver : BitVec 16) (digestEq : Bool)
  /-- RESYNC_BULK_DONE (R580). The snapshot of Table 16.6: registers, plan and mirror tables, slot words, learning and life words, PROF states. -/
  | resyncBulkDone (regs : List (Nat × Word)) (plan : List Word) (mirror : List Word) (slots : List (Fin 256 × Byte × Word)) (mem : List (Nat × Word)) (profs : List (Fin 256 × List Int))
  /-- IN_SERVICE_TEST_DONE (R581). -/
  | inServiceTestDone (opcode : Byte) (target : BitVec 16) (result : Word)
  /-- POR_RELEASE (R589). -/
  | porRelease (bootsel : BitVec 2) (vpp : Bool)
  /-- PCIE_LINK_UP (R53). -/
  | pcieLinkUp (speed : Fin 4) (width : Fin 5)
  /-- SUPERVISOR_WATCHDOG_RESET (R586). -/
  | supervisorWatchdogReset (hart : Fin 2)
  /-- CHIP_RESET (R585). The word written to TOP_RSTCTL. -/
  | chipReset (value : Word)
  /-- PER_DOMAIN_RESET (R585). The word written to TOP_PDRST. -/
  | perDomainReset (value : Word)
  /-- PD_SWITCH_DONE (R597). -/
  | pdSwitchDone (code : Fin 8)
  /-- PLL_RELOCK (R590). -/
  | pllRelock (isN : Bool)
  /-- CLOCK_MONITOR_FAULT (R590). 0 CK_STBD, 1 CK_REF, 2 CK_CORE. -/
  | clockMonitorFault (which : Fin 3)
  /-- SUPPLY_MONITOR_TRIP (R615). -/
  | supplyMonitorTrip (rail : Fin 8)
  /-- SUPPLY_RAIL_RETURN (R615). -/
  | supplyRailReturn (rail : Fin 8)
  /-- THERMAL_CROSSING (R606). -/
  | thermalCrossing (tj : BitVec 8)
  /-- IMAGE_VERIFY (R593). The flash slot and what reading it gave (`none`: read error). -/
  | imageVerify (slotB : Bool) (image : Option (List Byte))
  /-- KEEL_PROGRAM_DONE (R604). The true-side and complement-side fuses found set. -/
  | keelProgramDone (t : Word) (c : Word)
  /-- FW_STAGE_DONE (R596). Whether the image read back verifies. -/
  | fwStageDone (readback : Bool)
  /-- MEMORY_ECC_ERROR (R508). -/
  | memoryEccError (mem : Fin 8) (bank : BitVec 16) (word : BitVec 19) (correctable : Bool) (hart : Option (Fin 4))
  /-- BOUNDARY_RECORD_RECEIVE (R567). Writes as offset, bits and values; commands as opcode and descriptor. -/
  | boundaryRecordReceive (cycle : Word) (planAct : Byte) (writes : List (Nat × Word × Word)) (cmds : List (Byte × Desc)) (missing : List (Fin 256))
  /-- AXIS_STATE_RECEIVE (R37). -/
  | axisStateReceive (axis : Fin 256) (cycle : BitVec 16) (axflags : BitVec 16) (carry : List Word)
  /-- SWEEP_RECEIVE (R570). Word address and words of learning and life memory. -/
  | sweepReceive (pos : BitVec 18) (words : List Word)
  /-- CAN_INIT_LEAVE (R538). -/
  | canInitLeave (ctl : Fin 4) (value : Word)
  /-- CAN_MB_LOCK (R543). -/
  | canMbLock (ctl : Fin 4) (value : Word)
  /-- CAN_MB_REL (R543). -/
  | canMbRel (ctl : Fin 4) (value : Word)
  /-- CAN_MB_ABORT (R549). -/
  | canMbAbort (ctl : Fin 4) (value : Word)
  /-- CAN_INTEGRATION_DONE (R538). -/
  | canIntegrationDone (ctl : Fin 4)
  /-- CAN_FRAME_RECEIVED (R541). -/
  | canFrameReceived (ctl : Fin 4) (f : CanBits)
  /-- CAN_RX_TO_RING (R545). -/
  | canRxToRing (ctl : Fin 4)
  /-- CAN_FRAME_SENT (R549). -/
  | canFrameSent (ctl : Fin 4) (ts cyc : Word) (delay : BitVec 7)
  /-- CAN_ARBITRATION_LOST (R549). -/
  | canArbitrationLost (ctl : Fin 4)
  /-- CAN_BUS_ERROR (R550). -/
  | canBusError (ctl : Fin 4) (e : CanErr)
  /-- CAN_BUS_OFF (R552). -/
  | canBusOff (ctl : Fin 4)
  /-- CAN_RECOVERY_COMPLETE (R552). -/
  | canRecoveryComplete (ctl : Fin 4)
  /-- CAN_BACKOFF_END (R553). -/
  | canBackoffEnd (ctl : Fin 4) (b : Fin 64)
  /-- CAN_SLEEP_ENTRY (R554). -/
  | canSleepEntry (ctl : Fin 4)
  /-- CAN_EDGE_WAKE (R555). -/
  | canEdgeWake (ctl : Fin 4)
  /-- CAN_WAKE_FRAME (R556). -/
  | canWakeFrame (ctl : Fin 4) (f : CanBits)
  /-- CAN_HELM_MODE_SWITCH (R534). -/
  | canHelmModeSwitch (ctl : Fin 4)
  /-- CAN_PROTOCOL_EXCEPTION (R532). -/
  | canProtocolException (ctl : Fin 4)
  /-- CYC_HOLD_RELEASE (R67). -/
  | cycHoldRelease
  /-- SAIL_FREEZE (R29). -/
  | sailFreeze
  /-- NETWORK_START (R154). -/
  | networkStart
  /-- PPS_TIMEOUT (R149). -/
  | ppsTimeout
  /-- HOLDOVER_EXPIRY (R149). -/
  | holdoverExpiry
  /-- TIME_STEP (R150). -/
  | timeStep
  /-- TIME_SET_TIMEOUT (R150). -/
  | timeSetTimeout
  /-- SLEW_END (R150). -/
  | slewEnd
  /-- PLAN_COMPUTED (R194). -/
  | planComputed
  /-- PLAN_PREPARED (R194). -/
  | planPrepared
  /-- AUTO_PLAN_PREPARE (R193). -/
  | autoPlanPrepare
  /-- PLAN_SWITCH (R197). -/
  | planSwitch
  /-- PLAN_RELEASE (R199). -/
  | planRelease
  /-- ADAPT_SCHEDULE (R283). -/
  | adaptSchedule
  /-- DISPATCH_TICK (R523). -/
  | dispatchTick
  /-- HELM_CLAIM (R563). -/
  | helmClaim
  /-- HELM_CONTEND (R563). -/
  | helmContend
  /-- HELM_QUIET_EXPIRY (R563). -/
  | helmQuietExpiry
  /-- HELM_QUIET_YIELD (R563). -/
  | helmQuietYield
  /-- HELM_TAKE (R563). -/
  | helmTake
  /-- HELM_READBACK_FAIL (R563). -/
  | helmReadbackFail
  /-- GIVE_UP (R574). -/
  | giveUp
  /-- HELM_FORCED_RESET (R585). -/
  | helmForcedReset
  /-- HEARTBEAT_SEND (R566). -/
  | heartbeatSend
  /-- HEARTBEAT_LOSS (R579). -/
  | heartbeatLoss
  /-- RESYNC_SYNCED (R580). -/
  | resyncSynced
  /-- POWER_ON_RESET (R585). -/
  | powerOnReset
  /-- RESET_N (R585). -/
  | resetN
  /-- PERST (R585). -/
  | perst
  /-- FLR (R585). -/
  | flr
  /-- PCIE_LINK_LOSS (R585). -/
  | pcieLinkLoss
  /-- PLL_N_LOCK_LOSS (R590). -/
  | pllNLockLoss
  /-- PLL_C_LOCK_LOSS (R590). -/
  | pllCLockLoss
  /-- SWEEP_TRANSFER (R566). -/
  | sweepTransfer
  deriving DecidableEq, Repr

end Sys2Proof
end

