-- ==== Sys2Proof/WellFormed.lean ====
section
/-! DEFINITION. Well-formed commands: the operands of a row are ones the outside can present. A source ring is a submission
ring (Table 2.12), a register offset is that of a 32-bit word (R16), frames and payloads have the lengths of their formats. The
step does not rely on it: an ill-formed command has a meaning too. -/

namespace Sys2Proof

/-- The submission rings of Table 2.12. -/
def isSubmissionNo (r : Nat) : Bool := r ≤ 3 || (6 ≤ r && r ≤ 9) || (18 ≤ r && r ≤ 21) || r == 29

/-- The report rings of Table 2.12. -/
def isReportNo (r : Nat) : Bool := r < 32 && !isSubmissionNo r

/-- A descriptor comes from a submission ring or a command port. -/
def srcOk : Src → Bool
  | .ring r => isSubmissionNo r.val
  | .port _ => true

/-- Register accesses are 32-bit words (R16). -/
def aligned (off : Nat) : Bool := off % 4 == 0

/-- Heads of different submission rings, with at most one descriptor each (R88). -/
def headsOk : List Head → Bool
  | [] => true
  | h :: r => isSubmissionNo h.ring.val && r.all (fun k => k.ring.val != h.ring.val) && headsOk r

/-- The longest frame: 8 header, 96 payload and 4 CRC bytes (Table 3.9). A frame that a rule rejects may be longer. -/
def frameOk (f : RxFrame) : Bool := f.bytes.length ≤ 108

/-- Payload lengths of Table 15.7: a remote frame carries no data, another as many bytes as LEN. -/
def canOk (f : CanBits) : Bool := if f.rtr then f.data.isEmpty else f.data.length == f.len.val

/-- A tag message: CMD, LEN of 0 to 90, then LEN body bytes (R408). -/
def tagMsgOk (m : List Byte) : Bool :=
  match m with
  | _ :: n :: b => n.toNat ≤ 90 && b.length == n.toNat
  | _ => false

/-- A command the outside can present. -/
def wellFormed : Instr → Bool
  | .nop src _ => srcOk src
  | .regWrite src _ => srcOk src
  | .regRead src _ => srcOk src
  | .waitCycle src _ => srcOk src
  | .registerWrite _ off _ _ _ => aligned off.toNat
  | .aliasSetWrite _ off _ _ => aligned off.toNat
  | .aliasClrWrite _ off _ _ => aligned off.toNat
  | .aliasMaskWrite _ off _ _ => aligned off.toNat
  | .lowWordRead _ off _ => aligned off.toNat
  | .rcFieldRead _ off => aligned off.toNat
  | .doorbellWrite _ _ => true
  | .ringReset _ => true
  | .ringDisable _ => true
  | .ringResizeRequest _ _ => true
  | .cmdPauseWrite _ => true
  | .msixVectorUnmask _ addr _ => aligned addr.toNat
  | .ringIrqUnmask _ => true
  | .reportRingWrite ring => isReportNo ring.val
  | .ringIrqHoldExpiry _ => true
  | .completionRingStall _ => true
  | .ringDmaError _ => true
  | .descriptorTake heads => headsOk heads
  | .cycleBoundary refs => (refs.length ≤ 4)
  | .manifestWordStore _ => true
  | .laneSlistWrite _ _ _ => true
  | .laneEntryWrite _ _ _ => true
  | .listCheckDone _ => true
  | .portCfgWrite _ _ => true
  | .netBoom src _ => srcOk src
  | .netNodeQuery src _ => srcOk src
  | .netNodeReset src _ => srcOk src
  | .netWorkerParam src _ _ => srcOk src
  | .netWorkerFw src _ _ => srcOk src
  | .netPortTest src _ => srcOk src
  | .timeSet src _ => srcOk src
  | .tunnelTx src _ _ => srcOk src
  | .berthUp _ f => frameOk f
  | .guardianOverrun _ _ => true
  | .sailRingReturn _ f => frameOk f
  | .helmSailConflict _ f => frameOk f
  | .autoJoinBoomOpen _ => true
  | .nodeAbsent _ => true
  | .downlinkBerthSend _ _ => true
  | .dynSegmentDownlink _ => true
  | .joinReq _ f => frameOk f
  | .dataAck _ f => frameOk f
  | .echoRsp _ f => frameOk f
  | .cartRsp _ f => frameOk f
  | .nodeInfo _ f => frameOk f
  | .tunnelUpFragment _ f => frameOk f
  | .tunnelReassemblyTimeout _ => true
  | .transferBlockResend _ => true
  | .echoSchedule _ => true
  | .netBoomTimeout _ => true
  | .nodeResetTimeout _ => true
  | .nodeQueryTimeout _ => true
  | .uplinkFrameRejected _ _ => true
  | .portSyncChange _ _ _ => true
  | .grantMiss _ => true
  | .ppsInEdge _ => true
  | .ppsOutPulse _ => true
  | .planPrepare src _ => srcOk src
  | .planCommit src _ => srcOk src
  | .planAbort src _ => srcOk src
  | .planReport src _ => srcOk src
  | .planLoadReceive _ => true
  | .passStart _ _ _ _ => true
  | .passStartMissing _ _ _ _ => true
  | .passEnd _ => true
  | .laneNop _ _ => true
  | .laneEnd _ _ => true
  | .laneRep _ _ => true
  | .laneLdk _ _ => true
  | .laneAgp _ _ => true
  | .laneAgm _ _ => true
  | .laneAgl _ _ => true
  | .laneAgr _ _ => true
  | .laneAdd _ _ => true
  | .laneAddc _ _ => true
  | .laneSub _ _ => true
  | .laneSubc _ _ => true
  | .laneAdds _ _ => true
  | .laneSubs _ _ => true
  | .laneNegs _ _ => true
  | .laneAbss _ _ => true
  | .laneMin _ _ => true
  | .laneMax _ _ => true
  | .laneClamp _ _ => true
  | .laneClamp2 _ _ => true
  | .laneSel _ _ => true
  | .laneBlend _ _ => true
  | .laneAsl _ _ => true
  | .laneAsr _ _ => true
  | .laneLsr _ _ => true
  | .laneAnd _ _ => true
  | .laneOr _ _ => true
  | .laneXor _ _ => true
  | .laneFlagc _ _ => true
  | .laneLdix _ _ => true
  | .laneMpy _ _ => true
  | .laneMac _ _ => true
  | .laneMsu _ _ => true
  | .laneDmpy _ _ => true
  | .laneDmac _ _ => true
  | .laneFtap _ _ => true
  | .laneLda _ _ => true
  | .laneSta _ _ => true
  | .laneAclr _ _ => true
  | .laneAadd _ _ => true
  | .laneLrd _ _ => true
  | .laneLwr _ _ => true
  | .laneLife _ _ => true
  | .axisSetMode src _ => srcOk src
  | .axisParamWrite src _ => srcOk src
  | .axisParamRead src _ => srcOk src
  | .axisAdaptLock src _ => srcOk src
  | .axisLearnReset src _ => srcOk src
  | .axisInject src _ => srcOk src
  | .axisClearFault src _ => srcOk src
  | .idBlock _ => true
  | .freezeDetect _ => true
  | .feedbackRecovery _ => true
  | .feedbackPersistLatch _ => true
  | .catchTmoExpiry _ => true
  | .obsRelockExpiry _ => true
  | .tqRampComplete _ => true
  | .ledgerCompute _ => true
  | .axPvalLoWrite _ _ => true
  | .axPvalHiWrite _ _ => true
  | .fltTrip _ => true
  | .localFltLatchClear _ _ => true
  | .adcTrigger _ _ _ => true
  | .adcConversionDone _ _ _ _ => true
  | .adcScanConversion _ _ => true
  | .ssiBurst _ _ => true
  | .pwmUpdatePoint _ _ => true
  | .stepPulse _ _ => true
  | .emuEdge _ _ => true
  | .refInputLoss _ => true
  | .refLostClear _ => true
  | .localFeedbackEdge _ _ _ => true
  | .probePulseEnd _ _ _ _ => true
  | .moveSeg src _ => srcOk src
  | .moveStartGroup src _ => srcOk src
  | .moveStop src _ => srcOk src
  | .moveResume src _ => srcOk src
  | .homeStart src _ => srcOk src
  | .groupSet src _ => srcOk src
  | .groupStart _ => true
  | .limitRawEdge _ _ _ _ => true
  | .limitDebounce _ _ => true
  | .homeStallDetect _ => true
  | .cartAuth src _ => srcOk src
  | .cartRead src _ => srcOk src
  | .cartWrite src _ _ => srcOk src
  | .cartPolicy src _ _ => srcOk src
  | .cartFlush src _ => srcOk src
  | .tagResponse _ msg => tagMsgOk msg
  | .tagTimeout _ => true
  | .tagPresenceChange _ _ => true
  | .removalWarning _ => true
  | .writebackScheduled _ => true
  | .safeConfigLoad src _ _ => srcOk src
  | .safeStatus src _ => srcOk src
  | .safetyCycleStart _ _ _ => true
  | .safetyInputFilterChange _ _ _ => true
  | .testPulse _ _ _ => true
  | .discrepancyTimeout _ _ => true
  | .ackAccept _ => true
  | .ackStuck _ => true
  | .ackSplit _ => true
  | .ss1DelayExpiry _ _ => true
  | .readbackTimeout _ _ => true
  | .darkTest _ _ _ => true
  | .safetySelftestDone _ _ => true
  | .stoReportCheck _ => true
  | .safetyInternalFault _ _ => true
  | .logConfig src _ _ => srcOk src
  | .logStart src _ => srcOk src
  | .logStop src _ => srcOk src
  | .logMaskLoad src _ _ => srcOk src
  | .logTrigger src _ => srcOk src
  | .soundFire src _ => srcOk src
  | .snapDump src _ => srcOk src
  | .logSample _ => true
  | .logRearm _ => true
  | .logResizeGap _ => true
  | .soundingLatch skews => skews.length == 26
  | .xdspPreempt _ => true
  | .xdspYield _ => true
  | .xdspWait _ => true
  | .xdspStop _ => true
  | .xdspDispatch _ => true
  | .xevtclaim _ => true
  | .xwdt _ => true
  | .xntimel _ => true
  | .tokenMatch _ => true
  | .dspStart _ => true
  | .dspStop _ => true
  | .semaphorePost _ _ _ => true
  | .mailboxAppend _ _ _ => true
  | .threadBlockWrite _ _ _ _ => true
  | .commandPortSubmit _ _ => true
  | .cpuHrstWrite _ => true
  | .customerHartWatchdog _ => true
  | .canTx src _ _ => srcOk src
  | .canRecover src _ => srcOk src
  | .canSleep src _ => srcOk src
  | .helmHandover src _ => srcOk src
  | .helmRelayGrant src _ => srcOk src
  | .testLane src _ => srcOk src
  | .testHart src _ => srcOk src
  | .testMemory src _ => srcOk src
  | .pdSwitch src _ => srcOk src
  | .keelProgram src _ => srcOk src
  | .fwStage src _ _ => srcOk src
  | .partnerHelmChange _ => true
  | .selfDiagnosisFail _ => true
  | .heartbeatReceive _ _ _ _ => true
  | .chainLaneChange _ _ => true
  | .relayGrantMessage _ _ => true
  | .relayFrame _ _ _ bytes => (bytes.length ≤ 108)
  | .cableBreak _ _ => true
  | .resyncCheck _ _ _ _ _ => true
  | .resyncBulkDone regs _ _ _ _ _ => regs.all (fun w => w.1 < 0x400000 && aligned w.1)
  | .inServiceTestDone _ _ _ => true
  | .porRelease _ _ => true
  | .pcieLinkUp _ _ => true
  | .supervisorWatchdogReset _ => true
  | .chipReset _ => true
  | .perDomainReset _ => true
  | .pdSwitchDone _ => true
  | .pllRelock _ => true
  | .clockMonitorFault _ => true
  | .supplyMonitorTrip _ => true
  | .supplyRailReturn _ => true
  | .thermalCrossing _ => true
  | .imageVerify _ _ => true
  | .keelProgramDone _ _ => true
  | .fwStageDone _ => true
  | .memoryEccError _ _ _ _ _ => true
  | .boundaryRecordReceive _ _ writes _ _ => writes.all (fun w => w.1 < 0x400000 && aligned w.1)
  | .axisStateReceive _ _ _ carry => carry.length == 12
  | .sweepReceive pos words => (words.length ≤ 262144 - pos.toNat)
  | .canInitLeave _ _ => true
  | .canMbLock _ _ => true
  | .canMbRel _ _ => true
  | .canMbAbort _ _ => true
  | .canIntegrationDone _ => true
  | .canFrameReceived _ f => canOk f
  | .canRxToRing _ => true
  | .canFrameSent _ _ _ _ => true
  | .canArbitrationLost _ => true
  | .canBusError _ _ => true
  | .canBusOff _ => true
  | .canRecoveryComplete _ => true
  | .canBackoffEnd _ _ => true
  | .canSleepEntry _ => true
  | .canEdgeWake _ => true
  | .canWakeFrame _ f => canOk f
  | .canHelmModeSwitch _ => true
  | .canProtocolException _ => true
  | .cycHoldRelease => true
  | .sailFreeze => true
  | .networkStart => true
  | .ppsTimeout => true
  | .holdoverExpiry => true
  | .timeStep => true
  | .timeSetTimeout => true
  | .slewEnd => true
  | .planComputed => true
  | .planPrepared => true
  | .autoPlanPrepare => true
  | .planSwitch => true
  | .planRelease => true
  | .adaptSchedule => true
  | .dispatchTick => true
  | .helmClaim => true
  | .helmContend => true
  | .helmQuietExpiry => true
  | .helmQuietYield => true
  | .helmTake => true
  | .helmReadbackFail => true
  | .giveUp => true
  | .helmForcedReset => true
  | .heartbeatSend => true
  | .heartbeatLoss => true
  | .resyncSynced => true
  | .powerOnReset => true
  | .resetN => true
  | .perst => true
  | .flr => true
  | .pcieLinkLoss => true
  | .pllNLockLoss => true
  | .pllCLockLoss => true
  | .sweepTransfer => true

end Sys2Proof
end

