-- ==== Sys2Proof/Config.lean ====
section
/-! DEFINITION. What the spec leaves to the implementation: free values, constants without a body, so that nothing
can evaluate them or prove a value of them. A free value that may differ from one use to the next is applied to the
counter `State.free`. -/

namespace Sys2Proof

/-- A word the spec does not state, by the counter of values drawn (assumption log 2). -/
opaque Config.freeWord : Nat → Word

/-- A number the spec does not state, signed. -/
opaque Config.freeInt : Nat → Int

/-- A number below a bound that the spec states without stating the number. -/
def Config.freeBelow (b k : Nat) : Nat := (Config.freeWord k).toNat % (b + 1)

/-- Words of the standard manifest whose code the spec does not list (Table 6.10), by address. -/
opaque Config.romWord : Nat → Nat

/-- Standard manifest constants in X memory (key k) and Y memory (key 0x4000 + k), whose values the spec does not give. -/
opaque Config.romData : Nat → Word

/-- What LDIX delivers while YP3 is linear, by Bm and the shifted operand. -/
opaque Config.ldixLinear : Nat → Word

/-- Words of the supervisor ROM, by word address; the spec does not list them (R504). -/
opaque Config.supRom : Nat → Nat

end Sys2Proof
end

