-- ==== Sys2Proof/Machine/Fixed.lean ====
section
/-! DEFINITION. Exact fixed-point arithmetic on integers: rounding to nearest with ties away from zero and
saturation (R13), field extraction, byte order, the integer square root and the sine table. -/

namespace Sys2Proof.Machine

/-- Bits [hi:lo] of a natural number. -/
def field (w hi lo : Nat) : Nat := (w >>> lo) % 2 ^ (hi + 1 - lo)

/-- Bits [hi:lo] of a word. -/
def bits (w : Word) (hi lo : Nat) : Nat := field w.toNat hi lo

/-- Bit n of a word. -/
def bit (w : Word) (n : Nat) : Bool := w.getLsbD n

/-- A word with bits [hi:lo] replaced. -/
def putBits (w : Word) (hi lo v : Nat) : Word :=
  let m : Word := ofNat ((2 ^ (hi + 1 - lo) - 1) <<< lo)
  (w &&& ~~~m) ||| (ofNat ((v % 2 ^ (hi + 1 - lo)) <<< lo))

/-- A word with bit n replaced. -/
def putBit (w : Word) (n : Nat) (b : Bool) : Word := putBits w n n (if b then 1 else 0)

/-- 1 for true, 0 for false. -/
def b2n (b : Bool) : Nat := if b then 1 else 0

/-- Bits [hi:lo] of a word read as a signed number. -/
def sbits (w : Word) (hi lo : Nat) : Int :=
  let v := bits w hi lo
  if v < 2 ^ (hi - lo) then (v : Int) else (v : Int) - 2 ^ (hi + 1 - lo)

/-- Quotient rounded to nearest, ties away from zero (R13). `d` is positive. -/
def divRnd (n d : Int) : Int :=
  if 0 ≤ n then (2 * n + d) / (2 * d) else - ((2 * (-n) + d) / (2 * d))

/-- Division by 2^k rounded to nearest, ties away from zero. -/
def shrRnd (n : Int) (k : Nat) : Int := divRnd n (2 ^ k)

/-- Quotient truncated toward zero. -/
def divTrunc (n d : Int) : Int := Int.tdiv n d

/-- Saturation to [lo, hi]. -/
def clampI (lo hi x : Int) : Int := if x < lo then lo else if hi < x then hi else x

/-- Saturation to a signed number of n bits (R13). -/
def sat (n : Nat) (x : Int) : Int := clampI (-(2 ^ (n - 1))) (2 ^ (n - 1) - 1) x

/-- Saturation to an unsigned number of n bits. -/
def satU (n : Nat) (x : Int) : Int := clampI 0 (2 ^ n - 1) x

/-- Counters that saturate at a maximum. -/
def satAdd (mx a b : Nat) : Nat := min mx (a + b)

/-- Product of two Q1.31 values, rounded and saturated to Q1.31. -/
def mulQ31 (a b : Int) : Int := sat 32 (shrRnd (a * b) 31)

/-- Product of a value and a Q8.24 gain, rounded and saturated to 32 bits. -/
def mulQ24 (a g : Int) : Int := sat 32 (shrRnd (a * g) 24)

/-- A signed number reduced modulo 2^n into the signed range (wrapping arithmetic). -/
def wrapS (n : Nat) (x : Int) : Int :=
  let m : Int := x % 2 ^ n
  if m < 2 ^ (n - 1) then m else m - 2 ^ n

/-- Absolute value. -/
def absI (x : Int) : Int := if x < 0 then -x else x

/-- Sign as −1, 0 or 1. -/
def signI (x : Int) : Int := if x < 0 then -1 else if x = 0 then 0 else 1

/-- Integer square root by bits, from bit k down. -/
def isqrtAux (n : Nat) : Nat → Nat → Nat
  | 0, r => if (r + 1) * (r + 1) ≤ n then r + 1 else r
  | k + 1, r => isqrtAux n k (if (r + 2 ^ (k + 1)) * (r + 2 ^ (k + 1)) ≤ n then r + 2 ^ (k + 1) else r)

/-- Largest r with r² ≤ n, for n below 2^192. -/
def isqrt (n : Nat) : Nat := isqrtAux n 95 0

/-- Square root rounded to nearest. -/
def sqrtRnd (n : Nat) : Nat :=
  let r := isqrt n
  if r * r + r < n then r + 1 else r

/-- The low `n` bytes of a number, least significant first. -/
def leBytes : Nat → Nat → List Byte
  | 0, _ => []
  | n + 1, v => BitVec.ofNat 8 v :: leBytes n (v / 256)

/-- The number that bytes spell, least significant first. -/
def ofLE : List Byte → Nat
  | [] => 0
  | b :: r => b.toNat + 256 * ofLE r

/-- The number that bytes spell, most significant first. -/
def ofBE (l : List Byte) : Nat := ofLE l.reverse

/-- The low `n` bytes of a number, most significant first. -/
def beBytes (n v : Nat) : List Byte := (leBytes n v).reverse

/-- `n` bytes of a list from an offset, zero where the list ends. -/
def slice (l : List Byte) (off n : Nat) : List Byte :=
  let t := (l.drop off).take n
  t ++ List.replicate (n - t.length) 0

/-- Little-endian number of `n` bytes at an offset. -/
def leAt (l : List Byte) (off n : Nat) : Nat := ofLE (slice l off n)

/-- π · 2^60, as an integer (used only to evaluate the sine table). -/
def pi60 : Int := 3622009729038561421

/-- Taylor sum of sin x with x scaled by 2^60: term, x² and remaining terms. -/
def sinSeries (x2 : Int) : Nat → Nat → Int → Int
  | 0, _, _ => 0
  | f + 1, k, t => t + sinSeries x2 f (k + 2) (-(t * x2 / 2 ^ 60) / ((k + 1 : Int) * (k + 2)))

/-- sin(2π·num/den) in Q1.31, rounded to nearest, by quadrant reduction and the Taylor series. -/
def sinQ31 (num den : Int) : Int :=
  let a := (4 * num) % (4 * den)
  let q := a / den
  let r := a % den
  let base (y : Int) : Int :=
    let x := pi60 * y / (2 * den)
    sinSeries (x * x / 2 ^ 60) 14 1 x
  let v := if q = 0 then base r else if q = 1 then base (den - r) else if q = 2 then -(base r) else -(base (den - r))
  sat 32 (shrRnd v 29)

end Sys2Proof.Machine
end

