-- ==== Sys2Proof/Machine/Tab.lean ====
section
/-! DEFINITION. Sparse tables: a list of (key, value) pairs in one canonical form, keys strictly rising and no
entry equal to the default its reader supplies. Registers, memories and per-unit states are such tables. -/

namespace Sys2Proof.Machine

/-- A sparse table. What an unlisted key reads as is the reader's default. -/
abbrev Tab (α : Type) := List (Nat × α)

/-- The value at a key, `d` where none is listed. -/
def Tab.get {α : Type} (d : α) (t : Tab α) (k : Nat) : α :=
  match t.find? (fun e => e.1 == k) with
  | some e => e.2
  | none => d

/-- The table with the value at a key replaced; a value equal to the default removes the entry. -/
def Tab.set {α : Type} [DecidableEq α] (d : α) (t : Tab α) (k : Nat) (v : α) : Tab α :=
  t.filter (fun e => e.1 < k) ++
    (if v = d then t.filter (fun e => k < e.1) else (k, v) :: t.filter (fun e => k < e.1))

/-- The value at a key changed by a function. -/
def Tab.upd {α : Type} [DecidableEq α] (d : α) (t : Tab α) (k : Nat) (f : α → α) : Tab α :=
  Tab.set d t k (f (Tab.get d t k))

/-- All entries whose key lies in [lo, hi) removed: they read as the default again. -/
def Tab.clearRange {α : Type} (t : Tab α) (lo hi : Nat) : Tab α :=
  t.filter (fun e => e.1 < lo || hi ≤ e.1)

/-- Canonical form: keys strictly rising. -/
def Tab.rising {α : Type} : Tab α → Bool
  | [] => true
  | [_] => true
  | a :: b :: r => decide (a.1 < b.1) && Tab.rising (b :: r)

/-- Canonical form of a table whose default may depend on the key. -/
def Tab.wf {α : Type} [DecidableEq α] (d : Nat → α) (t : Tab α) : Bool :=
  Tab.rising t && t.all (fun e => decide (e.2 ≠ d e.1))

end Sys2Proof.Machine
end

