-- ==== Sys2Proof/Machine/Regs.lean ====
section
/-! DEFINITION. What a register description says: fields with access code, reset value and commit class
(R19, R20, Table 0.6, Table 0.7), and the HOST, EVT and CPU register tables (Tables 2.5 to 2.11, 14.3, 14.5, 14.6). -/

namespace Sys2Proof.Machine

/-- Access codes of Table 0.6. -/
inductive Acc where
  | rw | ro | wo | w1c | w1s | rc | rwh
  deriving DecidableEq, Repr

/-- Commit classes of Table 0.7; `fixed` is the dash (constant or reserved). -/
inductive Cls where
  | imm | cyc | plan | keel | fixed
  deriving DecidableEq, Repr

/-- One field of a register. `legal` lists the encodings an enumerated field admits (R24); none: every value. -/
structure Fld where
  hi : Nat
  lo : Nat
  acc : Acc
  reset : Nat := 0
  cls : Cls := .imm
  legal : Option (List Nat) := none
  /-- smallest and largest value of a number whose text gives a range (R24). -/
  min : Nat := 0
  max : Nat := 0xFFFFFFFF
  /-- only even values are encodings. -/
  evenOnly : Bool := false
  deriving DecidableEq, Repr

/-- One register, or a row of `cnt` like registers `stride` apart, at offset `off` of its block. -/
structure RegRow where
  off : Nat
  fields : List Fld
  cnt : Nat := 1
  stride : Nat := 4
  deriving DecidableEq, Repr

def rw (hi lo : Nat) (reset : Nat := 0) : Fld := { hi := hi, lo := lo, acc := .rw, reset := reset }
def ro (hi lo : Nat) (reset : Nat := 0) : Fld := { hi := hi, lo := lo, acc := .ro, reset := reset }
def wo (hi lo : Nat) : Fld := { hi := hi, lo := lo, acc := .wo }
def rwh (hi lo : Nat) (reset : Nat := 0) : Fld := { hi := hi, lo := lo, acc := .rwh, reset := reset }
def rc (hi lo : Nat) : Fld := { hi := hi, lo := lo, acc := .rc }
def w1s (hi lo : Nat) : Fld := { hi := hi, lo := lo, acc := .w1s }
def w1c (n : Nat) : Fld := { hi := n, lo := n, acc := .w1c }
/-- Sticky flags W1C in bits [hi:lo]. -/
def w1cs (hi lo : Nat) : Fld := { hi := hi, lo := lo, acc := .w1c }
/-- A RW field of commit class CYC. -/
def cyc (hi lo : Nat) (reset : Nat := 0) : Fld := { hi := hi, lo := lo, acc := .rw, reset := reset, cls := .cyc }
/-- A RW field of commit class PLAN. -/
def plan (hi lo : Nat) (reset : Nat := 0) : Fld := { hi := hi, lo := lo, acc := .rw, reset := reset, cls := .plan }
/-- A field limited to some encodings (R24). -/
def Fld.only (f : Fld) (l : List Nat) : Fld := { f with legal := some l }

/-- A number field limited to a range (R24). -/
def Fld.even (f : Fld) : Fld := { f with evenOnly := true }
def Fld.within (f : Fld) (a b : Nat) : Fld := { f with min := a, max := b }

/-- The reset word of a row's fields. -/
def resetOf : List Fld → Word
  | [] => 0
  | f :: r => putBits (resetOf r) f.hi f.lo f.reset

/-- The row of a table that holds a block offset. -/
def findRow (t : List RegRow) (o : Nat) : Option RegRow :=
  t.find? (fun r => r.off ≤ o && (o - r.off) % r.stride == 0 && (o - r.off) / r.stride < r.cnt)

/-- HOST block, Tables 2.5 to 2.11. -/
def regsHost : List RegRow := [
  { off := 0x0000, fields := [ro 15 0 0x0102] },
  { off := 0x0004, fields := [rw 0 0, rw 1 1] },
  { off := 0x0008, fields := [ro 0 0, ro 1 1 1, ro 12 2] },
  { off := 0x000C, fields := [w1cs 5 0] },
  { off := 0x0010, fields := [ro 31 0] },
  { off := 0x0014, fields := [(rw 15 0 1000).within 1 65535] },
  { off := 0x0018, fields := [ro 8 0] },
  { off := 0x0400, cnt := 32, stride := 0x20, fields := [rw 31 6] },
  { off := 0x0404, cnt := 32, stride := 0x20, fields := [rw 31 0] },
  { off := 0x0408, cnt := 32, stride := 0x20, fields := [rw 31 3] },
  { off := 0x040C, cnt := 32, stride := 0x20, fields := [rw 31 0] },
  { off := 0x0410, cnt := 32, stride := 0x20,
    fields := [rw 0 0, wo 1 1, rw 8 4 4, (rw 11 9).only [0, 1, 2, 3, 4], rw 12 12] },
  { off := 0x0414, cnt := 32, stride := 0x20, fields := [ro 31 0] },
  { off := 0x0418, cnt := 32, stride := 0x20, fields := [ro 2 0, w1cs 7 3, rc 31 16] },
  { off := 0x041C, cnt := 32, stride := 0x20, fields := [rw 7 0 1, rw 23 8, rw 31 31] }]

/-- EVT block (R527, Table 14.6). -/
def regsEvt : List RegRow := [
  { off := 0x0000, fields := [w1cs 1 0] },
  { off := 0x0100, cnt := 256, fields := [rw 5 0, rw 6 6, rw 7 7 1, rw 11 8, rw 12 12 1, rw 13 13, rw 23 16] },
  { off := 0x0500, cnt := 8, fields := [w1cs 31 0] }]

/-- CPU block (Tables 14.3 and 14.5). -/
def regsCpu : List RegRow := [
  { off := 0x0000, fields := [ro 15 0] },
  { off := 0x0004, fields := [w1cs 8 0] },
  { off := 0x0008, cnt := 2, fields := [rw 23 0 0x2710, rw 31 31] },
  { off := 0x0010, fields := [w1s 3 2] },
  { off := 0x0100, cnt := 8, fields := [wo 31 0] },
  { off := 0x0120, cnt := 4, fields := [ro 31 0] },
  { off := 0x0130, fields := [ro 0 0, w1c 1] },
  { off := 0x0140, cnt := 8, fields := [wo 31 0] },
  { off := 0x0160, cnt := 4, fields := [ro 31 0] },
  { off := 0x0170, fields := [ro 0 0, w1c 1] },
  { off := 0x1000, cnt := 256, stride := 0x40, fields := [rw 4 0, rw 11 8, rw 12 12, rw 13 13] },
  { off := 0x1004, cnt := 256, stride := 0x40, fields := [rw 31 0] },
  { off := 0x1008, cnt := 256, stride := 0x40, fields := [rw 31 0] },
  { off := 0x100C, cnt := 256, stride := 0x40, fields := [rw 31 0] },
  { off := 0x1010, cnt := 256, stride := 0x40, fields := [ro 3 0] },
  { off := 0x1014, cnt := 256, stride := 0x40, fields := [ro 31 0] },
  { off := 0x1018, cnt := 256, stride := 0x40, fields := [rw 31 0] },
  { off := 0x1020, cnt := 256, stride := 0x40, fields := [rw 31 0] },
  { off := 0x1024, cnt := 256, stride := 0x40, fields := [rw 31 0] },
  { off := 0x1028, cnt := 256, stride := 0x40, fields := [rw 31 0] },
  { off := 0x102C, cnt := 256, stride := 0x40, fields := [rw 31 0] },
  { off := 0x1030, cnt := 256, stride := 0x40, fields := [rc 15 0] },
  { off := 0x6000, cnt := 256, fields := [wo 31 0] },
  { off := 0x6400, cnt := 64, fields := [wo 31 0] },
  { off := 0x6500, fields := [wo 7 0] },
  { off := 0x6504, fields := [wo 7 0] },
  { off := 0x8000, cnt := 1024, fields := [ro 31 0] }]

end Sys2Proof.Machine
end

