-- ==== Sys2Proof/Machine/TypesHost.lean ====
section
/-! DEFINITION. State of the host interface, the event block and the CPU cluster (spec 02 and 14). -/

namespace Sys2Proof.Machine

/-- What leaves the block: the model's own record of its outputs (assumption log 3). -/
inductive Emit where
  /-- A host-memory write. -/
  | dma (addr : Nat) (data : List Byte)
  /-- An MSI-X message of a vector. -/
  | msix (vec addr data : Nat)
  /-- A KymaLine frame sent on a port, starting at an instant (ns from the boundary). -/
  | frame (port start : Nat) (bytes : List Byte)
  /-- A CAN frame offered to the bus by a controller: identifier word, length word (LEN, RTR, ESI) as in Table 15.7, data. -/
  | can (ctl : Nat) (id flw : Nat) (data : List Byte)
  /-- A message over CHAIN. -/
  | chain (kind : Nat) (body : List Nat)
  /-- A write to the QSPI flash. -/
  | flash (addr : Nat) (data : List Byte)
  /-- A pin or output group driven to a value. -/
  | pin (grp idx : Nat) (val : Int)
  /-- The value a read returns to its agent (0 host, 1 + h hart h): a BAR0 offset, or 0x1000_0000 + a CSR number. -/
  | read (agent off value : Nat)
  deriving DecidableEq, Repr

/-- A command taken and not yet completed: its source, opcode and descriptor, and the completion ring whose slot it
holds (R88). -/
structure Taken where
  src : Src
  opcode : Nat
  desc : Desc
  cq : Nat
  deriving DecidableEq, Repr

/-- A write to fields of class CYC or PLAN in staging: register, written bits and their values (R64, R69). -/
structure Staged where
  off : Nat
  mask : Word
  val : Word
  /-- boundaries that must still pass before it may take effect (R64: 1 when staged late). -/
  defer : Nat
  /-- staged by a command: it applies after the other CYC writes of its boundary (R70). -/
  cmd : Bool := false
  /-- order in which PLAN writes were staged (R69). -/
  seq : Nat := 0
  deriving DecidableEq, Repr

/-- What a ring engine keeps besides the ring's registers. -/
structure RingX where
  doorbell : Nat := 0
  unsignalled : Nat := 0
  holdRun : Bool := false
  pendSize : Nat := 0
  deriving DecidableEq, Repr

/-- One MSI-X table entry (R96). -/
structure MsixV where
  addr : Nat := 0
  data : Nat := 0
  masked : Bool := true
  pba : Bool := false
  deriving DecidableEq, Repr

/-- A command or effect due at the boundary of a cycle (R91), with host-memory data already read. -/
structure Due where
  cyc : BitVec 32
  src : Src
  opc : Nat
  desc : Desc
  data : List Byte := []
  aux : Nat := 0
  deriving DecidableEq, Repr

structure HostSt where
  due : List Due := []
  rings : Tab RingX := []
  taken : List Taken := []
  /-- commands whose completion a host-side reset has lost (R203). -/
  lost : List Taken := []
  /-- PLAN writes staged so far. -/
  planSeq : Nat := 0
  cyc : List Staged := []
  /-- CYC writes held in the posted queue (R66). -/
  cycHeld : List Staged := []
  plan : List Staged := []
  /-- PLAN values used by the plan in preparation or prepared (R69). -/
  planUsed : List Staged := []
  /-- high words latched by a low-word read, by agent (0 host, 1 + h hart h) × 2^24 + offset (R17). -/
  latch : Tab Nat := []
  msix : Tab MsixV := []
  /-- MSI-X Enable and Function Mask of the function (R96), clear at reset (assumption log 7). -/
  msixEn : Bool := false
  msixMask : Bool := false
  /-- Max Payload Size and Max Read Request Size as the host has set them, 128 · 2^n bytes (Table 2.1). -/
  payload : Nat := 0
  readReq : Nat := 2
  linkUp : Bool := true
  /-- doorbells that wait behind earlier writes of the host (R70): ring and value. -/
  dbHeld : List (Nat × Word) := []
  deriving DecidableEq, Repr

/-- MSI-X messages may leave: enabled and not function-masked (R96). -/
def HostSt.msixOn (h : HostSt) : Bool := h.msixEn && !h.msixMask

structure EvtSt where
  /-- ring 26 records dropped since the last one written (R531). -/
  lost : Nat := 0
  /-- pending (hart, source) pairs (R527). -/
  hpend : List (Nat × Nat) := []
  /-- acquisition trigger lines driven in this cycle: (stream, source) (R528). -/
  acq : List (Nat × Nat) := []
  /-- sources that drove the sounding line and are not yet served (R496). -/
  sound : List Nat := []
  deriving DecidableEq, Repr

/-- A registered wait of a thread (R515). -/
structure Wait where
  thread : Nat
  toks : List Nat
  matched : List Bool
  any : Bool
  wake : Nat
  deriving DecidableEq, Repr

/-- A hart: its architectural state (R504) and the standard CSRs it holds; what the spec names no reset value for is 0 (assumption
log 69). -/
structure HartSt where
  pc : Word := 0
  x : Tab Word := []
  f : Tab Word := []
  /-- machine mode. -/
  machine : Bool := true
  mstatus : Word := 0
  mie : Word := 0
  mtvec : Word := 0
  mcounteren : Word := 0
  mscratch : Word := 0
  mepc : Word := 0
  mcause : Word := 0
  mtval : Word := 0
  /-- frm and fflags. -/
  fcsr : Word := 0
  mcycle : Nat := 0
  minstret : Nat := 0
  /-- word of CPU SRAM that LR has reserved. -/
  resv : Option Nat := none
  /-- the hart waits in WFI. -/
  wfi : Bool := false
  /-- instruction and data cache: 32-byte lines by address ÷ 32 with their words, the latest first. -/
  icache : List (Nat × List Nat) := []
  dcache : List (Nat × List Nat) := []
  deriving DecidableEq, Repr

structure CpuSt where
  /-- ready threads; within one priority the list order is the ready list (R518). -/
  ready : List Nat := []
  /-- waits in the order of their registration. -/
  waits : List Wait := []
  /-- running thread of a hart; 256: none. -/
  run : Tab Nat := []
  readyAt : Tab Nat := []
  sem : Tab Nat := []
  mbx : Tab (List Nat) := []
  /-- high word of network time latched per hart (XNTIMEH). -/
  ntLatch : Tab Nat := []
  /-- words written into the command ports, hart × 8 + word. -/
  cmdw : Tab Nat := []
  /-- commands submitted by a command port and not yet taken (R525). -/
  portQ : List (Nat × Nat × Desc) := []
  /-- harts that run, and harts under test. -/
  running : List Nat := []
  testing : List Nat := []
  /-- network time at which a customer hart's watchdog was last restarted. -/
  wdtAt : Tab Nat := []
  /-- a customer image has been verified (harts 2 and 3 may run). -/
  custImage : Bool := false
  /-- CPU SRAM, by word address (0x1000_0000 + 4·k). -/
  sram : Tab Nat := []
  harts : Tab HartSt := []
  deriving DecidableEq, Repr

end Sys2Proof.Machine
end

