-- ==== Sys2Proof/Machine/TypesNet.lean ====
section
/-! DEFINITION. State of the network, network time and the pilot, and their register tables (spec 03, 04 and 05). -/

namespace Sys2Proof.Machine

/-- NET block (Tables 3.2 to 3.7 and 4.8 to 4.11). -/
def regsNet : List RegRow := [
  { off := 0x0000, fields := [(plan 2 0 1).only [0, 1, 2, 3, 4], rw 15 8] },
  { off := 0x0004, fields := [ro 2 0 1, ro 9 4 24, ro 26 16 50] },
  { off := 0x0008, fields := [w1cs 1 0] },
  { off := 0x0100, cnt := 16, stride := 0x40,
    fields := [cyc 0 0, plan 2 1, plan 7 4, (rw 9 8).only [0, 1], rw 10 10, rw 11 11, rw 12 12] },
  { off := 0x0104, cnt := 16, stride := 0x40, fields := [ro 5 0, w1cs 8 6, ro 20 16] },
  { off := 0x0108, cnt := 16, stride := 0x40, fields := [rw 31 0] },
  { off := 0x010C, cnt := 16, stride := 0x40, fields := [rw 31 0] },
  { off := 0x0110, cnt := 16, stride := 0x40, fields := [rw 31 0] },
  { off := 0x0114, cnt := 16, stride := 0x40, fields := [rw 31 0] },
  { off := 0x0118, cnt := 16, stride := 0x40, fields := [rw 31 0] },
  { off := 0x0120, cnt := 16, stride := 0x40,
    fields := [rw 0 0 1, rw 1 1 1, rw 2 2 1,
      (rw 7 4 3).only [1, 2, 3, 4, 5, 6, 7, 8, 9, 10, 11, 12, 13, 14, 15],
      (rw 12 8 16).only [1, 2, 3, 4, 5, 6, 7, 8, 9, 10, 11, 12, 13, 14, 15, 16, 17, 18, 19, 20, 21, 22, 23, 24, 25, 26, 27, 28,
        29, 30, 31]] },
  { off := 0x0124, cnt := 16, stride := 0x40, fields := [rw 31 0] },
  { off := 0x0128, cnt := 16, stride := 0x40, fields := [ro 14 0, ro 23 16 0xFF, ro 31 24] },
  { off := 0x012C, cnt := 16, stride := 0x40, fields := [ro 15 0] },
  { off := 0x0130, cnt := 16, stride := 0x40, fields := [ro 24 1] },
  { off := 0x0134, cnt := 16, stride := 0x40, fields := [ro 3 0, ro 12 8, ro 20 16] },
  { off := 0x0138, cnt := 16, stride := 0x40, fields := [w1cs 6 0] },
  { off := 0x013C, cnt := 16, stride := 0x40, fields := [rc 15 0] }]

/-- TIME block (Tables 4.1 to 4.4). -/
def regsTime : List RegRow := [
  { off := 0x0000, fields := [ro 31 0] },
  { off := 0x0004, fields := [ro 31 0] },
  { off := 0x0008, fields := [ro 31 0] },
  { off := 0x000C, fields := [rw 0 0, rw 1 1, rw 2 2, rw 15 8 10] },
  { off := 0x0010, fields := [ro 6 0] },
  { off := 0x0014, fields := [ro 31 0] },
  { off := 0x0018, fields := [ro 31 0] },
  { off := 0x001C, fields := [ro 31 0] },
  { off := 0x0020, fields := [rw 15 0 20] },
  { off := 0x0024, fields := [w1cs 4 0] }]

/-- LOAD_PCT admits 50 to 90 (Table 5.3). -/
def loadPcts : List Nat := (List.range 41).map (fun n => n + 50)

/-- PILOT block (Tables 5.2 to 5.7). -/
def regsPilot : List RegRow := [
  { off := 0x0000, fields := [(plan 6 0 90).only loadPcts, rw 8 8] },
  { off := 0x0004, fields := [ro 19 0] },
  { off := 0x0008, fields := [w1cs 5 0] },
  { off := 0x000C, fields := [{ hi := 15, lo := 0, acc := .rwh, reset := 0xFFFF, cls := .plan }] },
  { off := 0x0010, fields := [plan 31 0 0x22222222] },
  { off := 0x0014, fields := [plan 31 0 0x22222222] },
  { off := 0x0018, fields := [ro 31 0] },
  { off := 0x001C, fields := [ro 31 0] },
  { off := 0x0020, fields := [ro 31 0] },
  { off := 0x0040, cnt := 16, fields := [ro 16 0, ro 25 20] },
  { off := 0x0800, cnt := 256, stride := 8,
    fields := [plan 3 0, plan 4 4, plan 6 5, plan 12 8, plan 31 16] },
  { off := 0x0804, cnt := 256, stride := 8,
    fields := [plan 11 0, plan 14 12, plan 15 15, plan 16 16, plan 31 19] }]

/-- The cartridge channel of a node (R132): chunks still to send, the chunk on the wire, and what has arrived. Both TOGs start
at 0, so the first chunk goes with TOG 1: the spec gives no start (DESIGN CHOICE, assumption log 79). -/
structure CartChan where
  txQ : List (Nat × List Byte) := []
  txTog : Bool := false
  rxTog : Bool := false
  rxBuf : List Byte := []
  deriving DecidableEq, Repr

/-- An echo on its way (R164): its number, T1 in 2^−16 ns, the path, and the cycle whose grant its answer has. -/
structure Echo where
  no : Nat
  t1 : Int
  tail : Bool
  granted : Option (BitVec 32) := none
  deriving DecidableEq, Repr

/-- A node of a branch, by its address (R161, R164, R169, Table 4.13). Delays and corrections are in 2^−4 ns. -/
structure Node where
  uid : Nat := 0
  /-- bytes 12 to 23 of the JOIN_REQ. -/
  join : List Byte := []
  /-- 0 none; 1 granted; 2 member; 3 lost; 4 isolated. -/
  state : Nat := 0
  tail : Bool := false
  upb : Nat := 255
  dnb : Nat := 255
  upb2 : Nat := 255
  dnb2 : Nat := 255
  dwake : Bool := false
  dwake2 : Bool := false
  sofs : Int := 0
  plan : Nat := 0
  start : BitVec 32 := 0
  /-- the grant is still to be sent in this many cycles. -/
  grantLeft : Nat := 0
  dEst : Int := 0
  dlyH : Int := 0
  dlyT : Int := 0
  dplan : Int := 0
  theta : Int := 0
  echoNo : Nat := 0
  echoAns : Nat := 0
  echoMiss : Nat := 0
  /-- start-up echoes answered through the head and through the tail: their number and their sum. -/
  cntH : Nat := 0
  sumH : Int := 0
  cntT : Nat := 0
  sumT : Int := 0
  /-- echoes on their way. -/
  echoOut : List Echo := []
  /-- at a standby: sum of the tail delays measured from the node's copies (R569), their number and the first cycle. -/
  tailSum : Int := 0
  tailN : Nat := 0
  tailFrom : BitVec 32 := 0
  tcorr : Int := 0
  devSum : Int := 0
  devN : Nat := 0
  /-- first cycle of the averaging window of R169. -/
  devFrom : BitVec 32 := 0
  /-- the axes bound to the address are not served until a plan places them (R161). -/
  bare : Bool := false
  /-- wake berths of the old plan still to be sent in the cycle of a COMMIT (R36): berth, through the tail. -/
  oldWake : Option (Nat × Bool) := none
  oldWake2 : Option (Nat × Bool) := none
  /-- cycle of the last admitted uplink berth frame; `seen` false before the first. -/
  lastSeen : BitVec 32 := 0
  seen : Bool := false
  admitted : Nat := 0
  allOk : Bool := true
  autoOpened : Bool := false
  cuts : Nat := 0
  lastCut : BitVec 32 := 0
  cutLog : List (BitVec 32) := []
  /-- uplink node block of the last admitted frame (Table 3.13). -/
  vbus : Nat := 0
  ibus : Int := 0
  temp0 : Int := 0
  temp1 : Int := 0
  chop : Nat := 0
  nstat : Nat := 0
  /-- NCMD bits to send once (Table 3.15). -/
  ncmd : Nat := 0
  cart : CartChan := {}
  deriving DecidableEq, Repr

/-- A queued downlink message of the dynamic segment, by class (R140). The body of an echo request is its number and SEQ. -/
structure DynMsg where
  cls : Nat
  addr : Nat
  tail : Bool
  body : List Byte
  deriving DecidableEq, Repr

/-- A boom command in the queue of a branch (R127); `cmd`: it is a NET_BOOM's. -/
structure BoomCmd where
  addr : Nat
  close : Bool
  left : Nat
  cmd : Bool := false
  deriving DecidableEq, Repr

/-- A node command in progress (R144, R174, R178, R179). -/
structure NetOp where
  src : Src
  opc : Nat
  desc : Desc
  addr : Nat
  /-- cycle of the first repeat or of the request; `sent` false before it. -/
  cyc0 : BitVec 32 := 0
  sent : Bool := false
  left : Nat := 0
  /-- transfer data, and its blocks in flight: (offset, sends, cycle of the last send, nodes that have to acknowledge). -/
  data : List Byte := []
  next : Nat := 0
  blocks : List (Nat × Nat × BitVec 32 × List Nat) := []
  activated : Bool := false
  /-- nodes of a broadcast transfer. -/
  nodes : List Nat := []
  deriving DecidableEq, Repr

/-- Reassembly of one uplink tunnel frame (R146). `dead`: the frame was discarded, and its further fragments are ignored. -/
structure Reasm where
  idx : Nat := 0
  bytes : List Byte := []
  start : BitVec 32 := 0
  active : Bool := false
  dead : Bool := false
  deriving DecidableEq, Repr

/-- The frozen content of the next SAIL frame (Table 3.12, R29). -/
structure Sail where
  cycle : BitVec 32 := 0
  ntime : Nat := 0
  planAct : Nat := 0
  planNew : Nat := 0
  commitIn : Nat := 0
  flags : Nat := 0
  soundAt : Nat := 0
  boom : Tab Nat := []
  pduP : List Byte := []
  pduS : List Byte := []
  deriving DecidableEq, Repr

/-- A join held back by R162 or R201. -/
structure HeldJoin where
  branch : Nat
  tail : Bool
  pos : Nat
  uid : Nat
  join : List Byte
  dEst : Int
  noBerth : Bool
  deriving DecidableEq, Repr

structure NetSt where
  nodes : Tab Node := []
  booms : Tab (List BoomCmd) := []
  dynQ : List DynMsg := []
  ops : List NetOp := []
  /-- by node address × 256 + SEQ. -/
  reasm : Tab Reasm := []
  /-- uplink grants of this cycle: (address, first minislot, length, frames seen). -/
  grants : List (Nat × Nat × Nat × Nat) := []
  /-- expected answers: (address, class 1 to 3 of R139, payload bytes). -/
  expect : List (Nat × Nat × Nat) := []
  /-- node served last, by branch × 4 + class. -/
  lastServed : Tab Nat := []
  sail : Sail := {}
  frozen : Bool := false
  /-- ports stopped by the isolation of a first node (R170): port, position. -/
  stopped : List (Nat × Nat) := []
  /-- consecutive cycles in which the ring's own SAIL came back, by head port. -/
  ringSeen : Tab Nat := []
  ringNow : List Nat := []
  /-- cycles since the last valid frame of a port. -/
  linkAge : Tab Nat := []
  held : List HeldJoin := []
  /-- berths whose frame was used in this cycle: (branch × 64 + berth). -/
  upUsed : List Nat := []
  /-- a tail copy that waits for the head copy of its berth (R112): port, address, frame. -/
  tailHeld : List (Nat × Nat × RxFrame) := []
  /-- ports whose join window has taken its frame in this cycle (R135). -/
  joinUsed : List Nat := []
  /-- nodes of which a berth frame was not admitted in this cycle (R163). -/
  refused : List Nat := []
  /-- nodes whose echo answer has a grant in this cycle before the request is sent (R139, R141). -/
  echoPre : List Nat := []
  /-- SFP side-band pins by port: [0] BPn_ABS_N, [1] BPn_LOS, [2] BPn_TXFLT (R103); no module at reset. -/
  sfp : Tab Nat := []
  /-- frames sent in this cycle on ports with LOOP = 1: port and bytes (Table 3.6). -/
  loopTx : List (Nat × List Byte) := []
  tunnelSeq : Tab Nat := []
  /-- berths of replaced occupants, unused until the next plan (R161): (branch × 64 + berth), uplink and downlink. -/
  keptUp : List Nat := []
  keptDn : List Nat := []
  deriving DecidableEq, Repr

structure TimeSt where
  /-- PLL_N offset held, in 0.001 ppm; and the remainder still to slew, ns. -/
  slew : Int := 0
  inBand : Nat := 0
  holdOn : Bool := false
  /-- a TIME_SET waiting for its edge: command and time of day. -/
  setCmd : Option (Src × Desc) := none
  /-- a step armed: cycles to wait, cycles k to step, remainder. -/
  step : Option (Nat × Int × Int) := none
  ppsOut : Bool := false
  deriving DecidableEq, Repr

/-- One axis of a plan. Instants are ps from the boundary. -/
structure PlanAxis where
  axis : Nat
  lane : Nat
  pos : Nat := 0
  start : Nat
  stop : Nat
  div : Nat
  phase : Nat
  isLocal : Bool
  node : Nat
  nslot : Nat
  mcyc : Nat
  lat : Nat := 0
  grp : Nat := 0
  learnBase : Nat := 0
  learnSize : Nat := 0
  trig : Nat := 0
  deriving DecidableEq, Repr

/-- One node of a plan: berths, wake marks, sampling offset (ns) and planned delay (2^−4 ns). -/
structure PlanNode where
  addr : Nat
  upb : Nat := 255
  dnb : Nat := 255
  upb2 : Nat := 255
  dnb2 : Nat := 255
  dwake : Bool := false
  dwake2 : Bool := false
  sofs : Int := 0
  d : Int := 0
  tail : Bool := false
  deriving DecidableEq, Repr

structure Plan where
  id : Nat := 0
  rate : Nat := 1
  axes : List PlanAxis := []
  nodes : List PlanNode := []
  /-- end past the boundary of each lane's last wake pass, ps. -/
  wake : Tab Nat := []
  pages : Tab Nat := []
  worst : Nat := 0
  deriving DecidableEq, Repr

/-- An isolation that asks for a plan: the nodes of a path beyond an address are to be served through the other end (R170, R577);
`boom`: the first of them closes its boom after the COMMIT. -/
structure IsoReq where
  addr : Nat
  tail : Bool
  boom : Bool
  deriving DecidableEq, Repr

structure PilotSt where
  act : Plan := {}
  new : Option Plan := none
  /-- the plan being computed or loaded. -/
  job : Option Plan := none
  old : Option Plan := none
  nextId : Nat := 1
  cmd : Option (Src × Desc) := none
  commitCmd : Option (Src × Desc) := none
  commitAt : BitVec 32 := 0
  /-- a PREPARE waits for its snapshot boundary. -/
  snapWait : Bool := false
  /-- a PLAN_ABORT stops the preparation at the next boundary (R195), and the commands that asked for it. -/
  stop : Bool := false
  stopReq : List (Src × Desc) := []
  /-- at the standby: the cycle of a COMMIT that CHAIN has brought (R203). -/
  chainAt : Option (BitVec 32) := none
  /-- the preparation runs by itself: AUTO_PLAN or isolation (R193, R202). -/
  autoCommit : Bool := false
  markerSent : Bool := false
  /-- outcome of the computation: rejection code and object. -/
  rej : Option (Nat × Nat) := none
  /-- cycles in which the grants of the plan being loaded are still to be sent. -/
  loadLeft : Nat := 0
  switched : Bool := false
  /-- cycle in which the plan in force took over (R34). -/
  since : BitVec 32 := 0
  /-- the plan whose slots the bank not in force holds (R211, R216). -/
  loaded : Option Plan := none
  /-- instants, ns, of the last software write of PILOT_LANE_EN and of the last bit that hardware cleared there (R72, R182). -/
  enSoft : Option Nat := none
  enHard : Option Nat := none
  /-- isolations that wait for a plan, and those of the plan being prepared or announced (R202). -/
  isoReq : List IsoReq := []
  isoRun : List IsoReq := []
  deriving DecidableEq, Repr

end Sys2Proof.Machine
end

