-- ==== Sys2Proof/Machine/TypesBoot.lean ====
section
/-! DEFINITION. State of the redundancy, boot, power and fuse logic and its register tables (spec 16 and 17). -/

namespace Sys2Proof.Machine

/-- TOP block (Tables 0.3, 17.4, 17.10, 17.11). TOP_ID's fused fields are read from the fuses. -/
def regsTop : List RegRow := [
  { off := 0x0000, fields := [ro 31 16 0x0256, ro 15 12 1, ro 11 8 1, ro 7 4] },
  { off := 0x0004, fields := [ro 3 0 1, { hi := 17, lo := 8, acc := .w1c, reset := 1 }, ro 31 24] },
  { off := 0x0008, fields := [wo 0 0, rw 15 8 10, wo 31 16] },
  { off := 0x000C, fields := [ro 31 0] },
  { off := 0x0010, fields := [ro 7 0] },
  { off := 0x0014, fields := [w1s 7 0] },
  { off := 0x0018, fields := [ro 4 0] },
  { off := 0x001C, fields := [ro 7 0, rw 15 8 100, rw 23 16 110, ro 25 24] },
  { off := 0x0020, fields := [ro 7 0] },
  { off := 0x0024, fields := [w1cs 3 0] }]

/-- KEEL block (Tables 17.7 to 17.9). -/
def regsKeel : List RegRow := [
  { off := 0x0000, fields := [ro 15 0] },
  { off := 0x0004, fields := [ro 0 0, ro 13 8, ro 23 16] },
  { off := 0x0008, fields := [w1cs 1 0] },
  { off := 0x000C, fields := [{ hi := 2, lo := 0, acc := .rw, cls := .keel }] },
  { off := 0x0010, fields := [{ hi := 24, lo := 0, acc := .rw, cls := .keel }] },
  { off := 0x0100, cnt := 64, fields := [ro 31 0] }]

/-- HELM block (Tables 16.8 to 16.10). -/
def regsHelm : List RegRow := [
  { off := 0x0000, fields := [rw 0 0 1, rw 1 1 1] },
  { off := 0x0004, fields := [ro 11 0] },
  { off := 0x0008, fields := [w1cs 5 0] },
  { off := 0x000C, fields := [ro 7 0, ro 31 16] },
  { off := 0x0010, fields := [ro 3 0, ro 15 8, ro 31 16] },
  { off := 0x0014, fields := [ro 15 0] },
  { off := 0x0018, fields := [rw 31 0] },
  { off := 0x001C, fields := [ro 7 0] }]

structure HelmSt where
  /-- partner's last heartbeat: helm state, sync state; `hbAlive` false after 2 µs without one. -/
  hbState : Nat := 0
  hbSync : Nat := 0
  hbAlive : Bool := false
  /-- a HELM_HANDOVER in progress and its cycle; a give-up armed by a failed check and its code. -/
  handover : Option (Src × Desc) := none
  giveUp : Option (BitVec 32 × Nat) := none
  mirror : Option Plan := none
  mirrorLeft : Nat := 0
  /-- the standby's matching cycles and completed sweep since BULK (Table 16.6). -/
  matchCnt : Nat := 0
  mismatch : Bool := false
  /-- next word of learning and life memory to sweep; words received since BULK. -/
  sweepPos : Nat := 0
  swept : Nat := 0
  peerKnown : Bool := false
  /-- boundary record received for the coming boundary: its cycle and plan, writes (offset, bits, values) and commands. -/
  rxCyc : Option (BitVec 32 × Nat) := none
  rxW : List (Nat × Word × Word) := []
  rxC : List (Nat × Desc) := []
  /-- state record received for an axis: cycle [15:0], AXFLAGS and the 12 words of CARRY. -/
  rxState : Tab (List Nat) := []
  /-- axes whose record was missing in the present cycle (the boundary record carries them). -/
  missed : List Nat := []
  deriving DecidableEq, Repr

/-- A test in progress (Table 16.7): opcode, target. -/
structure TestJob where
  src : Src
  opc : Nat
  desc : Desc
  deriving DecidableEq, Repr

structure BootSt where
  /-- BOOTSEL pins as sampled. -/
  bootsel : Nat := 0
  /-- image verifications failed since the boot began. -/
  tries : Nat := 0
  /-- true-side and complement-side fuse bits of each word (R600). -/
  fuseT : Tab Nat := []
  fuseC : Tab Nat := []
  /-- words as classified at the last reset that cleared KEEL (R602): 0 unprogrammed, 1 valid, 2 faulty; and values. -/
  kcls : Tab Nat := []
  kval : Tab Nat := []
  vpp : Bool := false
  /-- VPP was present at the last release of POR (R588). -/
  vppBoot : Bool := false
  keelJob : Option (Src × Desc) := none
  fwJob : Option (Src × Desc × List Byte) := none
  pdJobs : List (Src × Desc) := []
  tests : List TestJob := []
  /-- preferred slot (boot-control word): false A, true B. -/
  prefB : Bool := false
  hasFlash : Bool := true
  /-- image booted last (supervisor section reload, R586). -/
  booted : List Byte := []
  porHeld : Bool := true
  deriving DecidableEq, Repr

end Sys2Proof.Machine
end

