-- ==== Sys2Proof/Machine/TypesAxis.lean ====
section
/-! DEFINITION. State of the lanes, the axes, FB, PROF and LOCAL, and the register tables of the LANE, AXIS, FB, PROF
and LOCAL blocks (spec 06 to 10). -/

namespace Sys2Proof.Machine

open Sys2Proof

/-- LANE common block (Table 6.12) and bus groups (Table 9.6). -/
def regsLane : List RegRow := [
  { off := 0x0000, fields := [rw 15 0 0xFFFF] },
  { off := 0x0004, fields := [rw 12 0 0x1000] },
  { off := 0x0008, fields := [wo 31 0] },
  { off := 0x000C, fields := [wo 31 0] },
  { off := 0x0010, fields := [w1cs 3 0] },
  { off := 0x0014, fields := [ro 1 0] },
  { off := 0x0100, cnt := 4, fields := [ro 5 0, ro 13 8, ro 21 16, ro 29 24] },
  { off := 0x0110, cnt := 60, fields := [plan 5 0, plan 13 8, plan 21 16, plan 29 24] },
  { off := 0x0400, cnt := 64, fields := [ro 12 0, ro 15 15, ro 28 16, ro 31 31] },
  { off := 0x0500, cnt := 192, fields := [plan 12 0, plan 15 15, plan 28 16, plan 31 31] },
  { off := 0x0800, cnt := 64, fields := [ro 13 0, ro 19 16, ro 20 20] },
  { off := 0x1020, cnt := 31, stride := 0x20, fields := [cyc 0 0, cyc 1 1, cyc 2 2 1, cyc 31 16] },
  { off := 0x1024, cnt := 31, stride := 0x20, fields := [cyc 15 0, cyc 31 16] },
  { off := 0x1028, cnt := 31, stride := 0x20, fields := [cyc 15 0, (cyc 31 16 0x2000).within 0x400 0xFFFF] },
  { off := 0x102C, cnt := 31, stride := 0x20, fields := [cyc 15 0, cyc 31 16] },
  { off := 0x1030, cnt := 31, stride := 0x20, fields := [ro 18 0] },
  { off := 0x1034, cnt := 31, stride := 0x20, fields := [ro 31 0] },
  { off := 0x1038, cnt := 31, stride := 0x20, fields := [ro 31 0] },
  { off := 0x103C, cnt := 31, stride := 0x20, fields := [w1cs 3 0] }]

/-- Per-lane registers (Table 6.16). -/
def regsLaneN : List RegRow := [
  { off := 0x000, cnt := 16, stride := 0x1000, fields := [ro 2 0, ro 13 8, ro 23 16] },
  { off := 0x004, cnt := 16, stride := 0x1000, fields := [w1cs 5 0] },
  { off := 0x008, cnt := 16, stride := 0x1000, fields := [rw 31 0] },
  { off := 0x00C, cnt := 16, stride := 0x1000, fields := [rw 31 0] },
  { off := 0x010, cnt := 16, stride := 0x1000, fields := [rw 31 0] },
  { off := 0x014, cnt := 16, stride := 0x1000, fields := [rw 15 0, rw 31 16] },
  { off := 0x018, cnt := 16, stride := 0x1000, fields := [{ hi := 13, lo := 0, acc := .rc, reset := 0x3FFF }] }]

/-- AXIS registers (Table 7.14). -/
def regsAxis : List RegRow := [
  { off := 0x00, cnt := 256, stride := 0x100, fields := [ro 16 0] },
  { off := 0x04, cnt := 256, stride := 0x100, fields := [w1cs 4 0, w1cs 15 8] },
  { off := 0x08, cnt := 256, stride := 0x100, fields := [w1cs 4 0] },
  { off := 0x0C, cnt := 256, stride := 0x100, fields := [rw 16 0] },
  { off := 0x10, cnt := 256, stride := 0x100, fields := [rw 31 0] },
  { off := 0x14, cnt := 256, stride := 0x100, fields := [rw 31 0] },
  { off := 0x18, cnt := 256, stride := 0x100, fields := [ro 31 0] },
  { off := 0x1C, cnt := 256, stride := 0x100, fields := [ro 31 0] },
  { off := 0x20, cnt := 256, stride := 0x100, fields := [ro 31 0] },
  { off := 0x24, cnt := 256, stride := 0x100, fields := [ro 31 0] },
  { off := 0x28, cnt := 256, stride := 0x100, fields := [ro 31 0] },
  { off := 0x2C, cnt := 256, stride := 0x100, fields := [ro 31 0] },
  { off := 0x30, cnt := 256, stride := 0x100, fields := [ro 31 0] },
  { off := 0x34, cnt := 256, stride := 0x100, fields := [ro 31 0] },
  { off := 0x38, cnt := 256, stride := 0x100, fields := [ro 31 0] },
  { off := 0x3C, cnt := 256, stride := 0x100, fields := [ro 31 0] },
  { off := 0x40, cnt := 256, stride := 0x100, fields := [ro 31 0] },
  { off := 0x44, cnt := 256, stride := 0x100, fields := [ro 31 0] },
  { off := 0x48, cnt := 256, stride := 0x100, fields := [ro 31 0] },
  { off := 0x4C, cnt := 256, stride := 0x100, fields := [ro 2 0] },
  { off := 0x80, cnt := 256, stride := 0x100, fields := [ro 31 0] },
  { off := 0x84, cnt := 256, stride := 0x100, fields := [ro 31 0] },
  { off := 0x88, cnt := 256, stride := 0x100, fields := [ro 31 0] },
  { off := 0x8C, cnt := 256, stride := 0x100, fields := [ro 31 0] },
  { off := 0x90, cnt := 256, stride := 0x100, fields := [ro 31 0] },
  { off := 0x94, cnt := 256, stride := 0x100, fields := [ro 31 0] },
  { off := 0x98, cnt := 256, stride := 0x100, fields := [ro 31 0] },
  { off := 0x9C, cnt := 256, stride := 0x100, fields := [ro 31 0] }]

/-- FB block (Tables 8.6 and 8.7). -/
def regsFb : List RegRow := [
  { off := 0x0000, fields := [w1cs 1 0] },
  { off := 0x0100, cnt := 4, stride := 0x10, fields := [cyc 7 0, cyc 8 8, cyc 9 9] },
  { off := 0x0104, cnt := 4, stride := 0x10, fields := [(cyc 15 0 1).within 1 65535, (cyc 31 16 1).within 1 65535] },
  { off := 0x0108, cnt := 4, stride := 0x10, fields := [cyc 15 0, cyc 31 16] },
  { off := 0x010C, cnt := 4, stride := 0x10, fields := [w1cs 1 0] },
  { off := 0x1000, cnt := 256, stride := 0x10, fields := [rw 31 0] },
  { off := 0x1004, cnt := 256, stride := 0x10, fields := [rw 15 0, rw 31 16] },
  { off := 0x1008, cnt := 256, stride := 0x10, fields := [rw 15 0, rw 31 16] },
  { off := 0x100C, cnt := 256, stride := 0x10, fields := [ro 8 0] }]

/-- PROF block (Tables 10.6 to 10.10). -/
def regsProf : List RegRow := [
  { off := 0x0000, fields := [w1cs 0 0] },
  { off := 0x0004, fields := [rw 31 0] },
  { off := 0x0400, cnt := 256, fields := [ro 31 0] },
  { off := 0x0800, cnt := 32, stride := 0x10,
    fields := [cyc 0 0, cyc 2 1, cyc 3 3, (cyc 5 4 1).only [0, 1, 2]] },
  { off := 0x0804, cnt := 32, stride := 0x10, fields := [cyc 31 0] },
  { off := 0x0808, cnt := 32, stride := 0x10, fields := [ro 1 0, w1c 2, ro 4 3, ro 16 8] },
  { off := 0x080C, cnt := 32, stride := 0x10, fields := [ro 31 0] },
  { off := 0x1000, cnt := 256, stride := 0x10, fields := [ro 17 0] },
  { off := 0x1004, cnt := 256, stride := 0x10, fields := [w1cs 7 0] },
  { off := 0x1008, cnt := 256, stride := 0x10, fields := [rw 31 0] },
  { off := 0x100C, cnt := 256, stride := 0x10, fields := [ro 3 0, ro 11 8] }]

/-- LOCAL block (Tables 8.10 to 8.12). -/
def regsLocal : List RegRow := [
  { off := 0x0000, fields := [w1cs 7 0, ro 15 8, rw 23 16] },
  { off := 0x0004, cnt := 2, fields := [rw 31 0 0xFFFFFFFF] },
  { off := 0x000C, fields := [w1cs 3 0] },
  { off := 0x0010, fields := [rw 23 0] },
  { off := 0x0014, fields := [rw 31 0] },
  { off := 0x0100, cnt := 24, fields := [ro 13 0, ro 31 16] },
  { off := 0x0200, cnt := 24, stride := 8, fields := [cyc 13 0 0x2000] },
  { off := 0x0204, cnt := 24, stride := 8, fields := [cyc 31 0 0x01000000] },
  { off := 0x0400, cnt := 8, stride := 0x20,
    fields := [((plan 15 0 2500).within 250 65534).even, (plan 17 16 2).only [0, 1, 2], rw 18 18, rw 19 19] },
  { off := 0x0404, cnt := 8, stride := 0x20, fields := [(cyc 9 0 0x64).within 0 1000, (cyc 25 16).within 0 1000] },
  { off := 0x0408, cnt := 8, stride := 0x20, fields := [ro 15 0] },
  { off := 0x040C, cnt := 8, stride := 0x20,
    fields := [(plan 4 0).within 0 23, (plan 12 8 8).within 0 23, (plan 20 16 16).within 0 23] },
  { off := 0x0410, cnt := 8, stride := 0x20, fields := [(cyc 9 0 0x50).within 20 1000, (cyc 25 16 0x50).within 8 1000] },
  { off := 0x0414, cnt := 8, stride := 0x20, fields := [ro 0 0] },
  { off := 0x0418, cnt := 8, stride := 0x20, fields := [ro 31 0] },
  { off := 0x041C, cnt := 8, stride := 0x20, fields := [(cyc 4 0).within 0 23, cyc 7 7, cyc 31 16 0x0190] },
  { off := 0x0600, cnt := 4, stride := 0x10,
    fields := [cyc 1 0, (cyc 6 2).within 0 23, (cyc 15 8 0x0A).within 1 255, cyc 31 16 0x8000] },
  { off := 0x0604, cnt := 4, stride := 0x10, fields := [cyc 15 0, cyc 31 16 0x1000] },
  { off := 0x0608, cnt := 4, stride := 0x10, fields := [cyc 31 0 0x3FFF0000] },
  { off := 0x060C, cnt := 4, stride := 0x10, fields := [ro 31 0] },
  { off := 0x0700, cnt := 4, stride := 8,
    fields := [(cyc 15 0 0x64).within 10 1000, (cyc 23 16 0x14).within 1 64] },
  { off := 0x0704, cnt := 4, stride := 8, fields := [w1cs 0 0, ro 1 1] }]

/-! ### Lanes -/

/-- An address generator (Table 6.1). -/
structure AddrGen where
  p : Nat := 0
  m : Int := 1
  l : Nat := 0
  b : Nat := 0
  deriving DecidableEq, Repr

/-- A level of the repeat stack: first and last address of the block, iterations left after this one. -/
structure RepLevel where
  first : Nat
  last : Nat
  left : Nat
  deriving DecidableEq, Repr

structure LaneSt where
  d : Tab Word := []
  acc : Tab Int := []
  /-- accumulators as they stood before the last instruction (R222). -/
  accOld : Tab Int := []
  carry : Bool := false
  /-- generators 0 to 3 are XP0 to XP3, 4 to 7 are YP0 to YP3. -/
  ag : Tab AddrGen := []
  rep : List RepLevel := []
  miss : Bool := false
  moved : Bool := false
  isLocal : Bool := false
  /-- cycle to which the pass belongs (PCYC). -/
  pcyc : BitVec 32 := 0
  /-- a pass is running, and its axis. -/
  busy : Bool := false
  axis : Nat := 0
  /-- sections still to run after the present one. -/
  secs : List Nat := []
  /-- the sequencer executes instructions from manifest memory at `pc`. -/
  fetching : Bool := false
  pc : Nat := 0
  /-- CK_CORE cycles that the sections of this pass have taken. -/
  ran : Nat := 0
  /-- slot base, and the base of the old slot while R212 maps the state area. -/
  base : Nat := 0
  oldBase : Option Nat := none
  /-- cycles the plan gives the pass (MCYC), and whether a section was cut at their end (R233, R235). -/
  mcyc : Nat := 452
  late : Bool := false
  /-- LRD results in flight: cycle of the write, register, word (R222). -/
  lrd : List (Nat × Nat × Word) := []
  /-- an uncorrectable memory error occurred in this pass (R236). -/
  ecc : Bool := false
  /-- passes ended in the current cycle. -/
  ended : Nat := 0
  /-- last LWR of the pass: its cycle and bin (R227). -/
  lwrAt : Option (Nat × Nat) := none
  /-- the registers hold what standard code left that the spec does not list. -/
  stdRun : Bool := false
  x : Tab Word := []
  y : Tab Word := []
  man : Tab Nat := []
  deriving DecidableEq, Repr

/-! ### Axes -/

/-- What the standard manifest keeps of an axis besides the words the spec places (Tables 6.4, 7.7, 9.1): measured
and commanded quantities of the last pass, observer, commutation procedure, stall counters. -/
structure Ctl where
  run : Bool := false
  pos : Int := 0
  v : Int := 0
  th : Int := 0
  w : Int := 0
  ia : Int := 0
  ib : Int := 0
  vb : Int := 0
  pref : Int := 0
  vref : Int := 0
  aref : Int := 0
  vcmd : Int := 0
  ev : Int := 0
  iqff : Int := 0
  iqfr : Int := 0
  id : Int := 0
  iq : Int := 0
  ids : Int := 0
  iqs : Int := 0
  vd : Int := 0
  vq : Int := 0
  /-- voltage applied in αβ, and currents in αβ, of the last pass. -/
  va : Int := 0
  vbeta : Int := 0
  ial : Int := 0
  ibe : Int := 0
  voltLim : Bool := false
  gates : Bool := false
  /-- voltage and gates of the present pass, and whether it set VOLT_LIMIT. -/
  nva : Int := 0
  nvb : Int := 0
  ngate : Bool := false
  nvolt : Bool := false
  /-- a blend ran in the last pass (R272); the present pass has ended its OUT with the gates off. -/
  blending : Bool := false
  kill : Bool := false
  /-- observer: ê, WI, Ŵ, φ̂, θ̂, ε, lock and its counters (R345 to R347). -/
  ea : Int := 0
  eb : Int := 0
  wi : Int := 0
  wh : Int := 0
  phi : Int := 0
  thHat : Int := 0
  eps : Int := 0
  lock : Bool := false
  okCnt : Nat := 0
  badCnt : Nat := 0
  /-- terminal voltages of the record: v_ab, v_bc; `noTv` when absent (R343). -/
  vab : Int := 0
  vbc : Int := 0
  noTv : Bool := true
  /-- commutation: passes in the state, start of the state and of the loss (ns), direction, rest counter. -/
  cstN : Nat := 0
  cstT : Nat := 0
  lossT : Nat := 0
  reachT : Option Nat := none
  dir : Int := 1
  rest : Nat := 0
  neither : Nat := 0
  wBefore : Int := 0
  thF : Int := 0
  startB : Nat := 0
  startCmd : Option (Src × Desc) := none
  /-- the first pass of a start procedure is still to come (R349). -/
  fresh : Bool := false
  /-- handover in FORCED: passes blended; the loops take over in the next pass (R353); passes for which the lock has held. -/
  hand : Option Nat := none
  take : Bool := false
  lockN : Nat := 0
  /-- PINT, VINT, IDINT and IQINT as the pass found them (R354). -/
  ints : List Word := []
  /-- probe: attempt, step (0 width, 1 scan), width, scan index, currents by vector, a pulse awaits its current. -/
  att : Nat := 0
  pstep : Nat := 0
  pw : Nat := 0
  scan : Nat := 0
  isum : List Int := []
  pulse : Bool := false
  lsBrake : Bool := false
  /-- fallback: 0 none, 1 continue, 2 halt; velocity of the halt ramp, 24 fractional bits. -/
  fbk : Nat := 0
  fbkV : Int := 0
  coast : Bool := false
  /-- mode request left by the manifest (R342). -/
  req : Option Nat := none
  /-- freeze counters (R316), stall counter (R362), home stall counter. -/
  frzN : Nat := 0
  obsN : Nat := 0
  stallN : Nat := 0
  /-- blended output of the last pass (R272). -/
  blendOut : Int := 0
  /-- R261 held in the last ended pass; in the present one. -/
  learning : Bool := false
  learnNow : Bool := false
  /-- pass-raised causes of the last ended pass (R294): 1 OVERRUN, 2 ECC, 3 FOLLOW, 4 stall to FAULT, 5 stall to DEGRADED; those of
  the present pass. -/
  raised : List Nat := []
  raising : List Nat := []
  /-- emitted target and interval rate of STEP (R336). -/
  rate1 : Nat := 0
  /-- flags of this pass for R281. -/
  limited : Bool := false
  deriving DecidableEq, Repr

/-- An injection in progress (R275 to R278). -/
structure Inj where
  typ : Nat
  point : Nat
  amp : Int
  op2 : Nat
  op3 : Nat
  len : Nat
  /-- first cycle whose pass carries the signal. -/
  start : BitVec 32 := 0
  n : Nat := 0
  s : Int := 0
  deriving DecidableEq, Repr

structure FbSt where
  /-- a previous sample exists (R304); its raw POS, index and skip counters. -/
  seen : Bool := false
  praw : Int := 0
  raw : Int := 0
  idx : Nat := 0
  skp : Nat := 0
  /-- cycle for which the axis's record has arrived (R28, R230). -/
  arrivedAt : Option (BitVec 32) := none
  /-- feedback status (Table 0.8), cause, latched, remembered status and cause. -/
  st : Nat := 0
  cause : Nat := 0
  latched : Bool := false
  mem : Nat × Nat := (0, 0)
  trans : Nat := 0
  clean : Nat := 0
  /-- cause of the present sample (0: none); a cause decided by FBP for the next boundary. -/
  now : Nat := 0
  pend : Nat := 0
  onlyMissing : Bool := true
  win : Nat := 0
  winFrom : Int := 0
  idxValid : Bool := false
  idxHere : Bool := false
  cor : Int := 0
  /-- correction of a homing that sets the position, for the next sample, Q40.24 (R399). -/
  corPend : Int := 0
  /-- Hall: last valid state, last state, direction, time of the last edge, Ti (none: unknown), edges of one direction, bad
  samples. -/
  hst : Nat := 0
  hraw : Nat := 0
  hdir : Int := 0
  hedge : Int := 0
  hti : Option Int := none
  hcnt : Nat := 0
  hbad : Nat := 0
  hadj : Nat := 0
  /-- local axis: count, counts at the index events since the last trigger, skips since the last record (R303, R307). -/
  cnt : Int := 0
  zq : List Int := []
  sn : Nat := 0
  /-- correction of the last sample to the trigger instant (R315). -/
  comp : Int := 0
  /-- causes that came with a missing sample, for the pass that starts without it (R300). -/
  noted : List Nat := []
  /-- instants, ns, of the last host write of IDX_REF and of the last load of it (R72, R306). -/
  hostRef : Option Nat := none
  loadRef : Option Nat := none
  deriving DecidableEq, Repr

/-- A profile segment (Table 10.1). -/
structure Seg where
  kind : Nat
  p1 : Int
  v1 : Int
  t : Nat
  rel : Bool
  hold : Bool
  evt : Bool
  named : Option (BitVec 32) := none
  /-- REL counts from the reference at the start (the queue was empty, or a RAMP came before). -/
  relPr : Bool := false
  deriving DecidableEq, Repr

/-- PROF's state of an axis. Positions, velocities and accelerations carry 48 fractional bits (R382). -/
structure ProfSt where
  st : Nat := 0
  pr : Int := 0
  vr : Int := 0
  ar : Int := 0
  /-- segment in progress, its start point and elapsed cycles; end position of the last segment. -/
  seg : Option Seg := none
  p0 : Int := 0
  v0 : Int := 0
  t : Nat := 0
  lastEnd : Option Int := none
  q : List Seg := []
  /-- target velocity of a plain ramp; deceleration in force, Q8.24 (R385); a lower one is deferred. -/
  vt : Int := 0
  dec : Int := 0
  deferred : Bool := false
  /-- segment interrupted by PAUSE. -/
  paused : Option Seg := none
  group : Option Nat := none
  /-- safety stop: requested deceleration. -/
  safeDec : Int := 0
  safeReq : Bool := false
  /-- homing: state, code, method, dir, V1, V2, HOMEVAL, p_h, travel, recovery used, command. -/
  home : Nat := 0
  code : Nat := 0
  meth : Nat := 0
  neg : Bool := false
  hv1 : Int := 0
  hv2 : Int := 0
  hval : Int := 0
  ph : Int := 0
  travel : Int := 0
  recov : Bool := false
  /-- the stop of a failed homing is a QUICKSTOP. -/
  hquick : Bool := false
  stallN : Nat := 0
  iqSave : Bool := false
  hcmd : Option (Src × Desc) := none
  /-- limit sources, positive then negative: raw level, time of the last edge, debounced level, candidate and latched
  positions, edges within LIM_DEB. -/
  limRaw : List Bool := [false, false]
  limAt : List Nat := [0, 0]
  limDeb : List Bool := [false, false]
  limCand : List Int := [0, 0]
  limLatch : List Int := [0, 0]
  limEdges : List (List Nat) := [[], []]
  chatter : Bool := false
  /-- a member of a group whose start is due; stopped at this boundary (R389). -/
  stopped : Bool := false
  refOn : Bool := false
  /-- the host wrote TQCMD at this boundary (R402). -/
  tqHost : Bool := false
  deriving DecidableEq, Repr

/-- Identification and scheduling of an axis (R280 to R287). -/
structure SupSt where
  j : Int := 0
  fc : Int := 0
  fv : Int := 0
  /-- the recursion of R280: six entries of the information matrix and three of its right side, with 32 fractional bits; none before
  the first accepted block. -/
  rls : List Int := []
  /-- J lay within J_MIN to J_MAX at the last judgement. -/
  inRange : Bool := false
  jHist : List Int := []
  blocks : Nat := 0
  valid : Bool := false
  prevOk : Bool := false
  prevV : Option Int := none
  /-- block in progress: passes, Σ v, Σ (iq − IQRPC), acceptable. -/
  n : Nat := 0
  sumV : Int := 0
  sumI : Int := 0
  ok : Bool := true
  bw : Nat := 0
  /-- targets: (parameter id, value). -/
  targets : List (Nat × Int) := []
  lock : Bool := false
  /-- adapted parameters that the host has written at this boundary (R287). -/
  hostW : List Nat := []
  deriving DecidableEq, Repr

structure AxisSt where
  /-- OUT record transferred by the last pass (R233). -/
  outRec : List Byte := []
  /-- parameters held outside lane memory, by ID; and slot-held words while the axis has no pass (R289). -/
  par : Tab Word := []
  park : Tab Word := []
  health : Nat := 0
  /-- the health has become FAULT since the last boundary (R274). -/
  faulted : Bool := false
  ctl : Ctl := {}
  inj : Option Inj := none
  fb : FbSt := {}
  prof : ProfSt := {}
  sup : SupSt := {}
  /-- high word held for AX_PVAL (R293). -/
  pvalHi : Word := 0
  /-- writes of R215 held until the pass of the previous cycle has ended: X offset + 2^16 or parameter ID, value. -/
  wq : List (Nat × Word) := []
  /-- first pass in the current slot still to come, and the old slot base (R212). -/
  moved : Bool := false
  oldBase : Option Nat := none
  /-- the axis's last pass under the old plan has not ended: its entry of that plan, which holds until then (R36, R213). -/
  stay : Option PlanAxis := none
  /-- its learning table has moved: F becomes 0 in the new slot (R191, R265). -/
  newTable : Bool := false
  lastPass : BitVec 32 := 0
  /-- measured values of the last ended pass, the words of AX_POS_LO to AX_VDQ (R292). -/
  meas : List Word := []
  /-- TYPE and POINT of an injection that has ended since the last pass (R279). -/
  injEnd : Option (Nat × Nat) := none
  /-- cycle for which a pass has started. -/
  startedFor : Option (BitVec 32) := none
  deriving DecidableEq, Repr

/-! ### Local axes, ADC, references, emulators -/

structure LxSt where
  /-- OUT image in force (R327), waiting image, gate on-times per carrier period (AH, AL, BH, BL, CH, CL). -/
  img : List Byte := []
  wait : List Byte := []
  gates : List Nat := []
  /-- earliest instant at which the waiting image may apply, ps: 0.024 µs after the planned end of its pass (R327). -/
  waitFrom : Int := 0
  /-- emitted steps; rates at start and end of the interval, Q0.32 steps per CK_CORE cycle. -/
  steps : Int := 0
  rate0 : Nat := 0
  rate1 : Nat := 0
  /-- CK_CORE instants: start of the interval, end of the last step, last DIR change, timer expiry; DIR. -/
  from_ : Nat := 0
  stepEnd : Nat := 0
  dirAt : Nat := 0
  nextStep : Nat := 0
  dirNeg : Bool := false
  /-- trigger instant of the conversions in progress, ns; sampled open input. -/
  conv : Option Nat := none
  opened : Bool := false
  /-- currents at the end of a probe pulse for the next record (R344), or that record missing. -/
  probe : Option (Int × Int × Bool) := none
  probeMiss : Bool := false
  perErr : Bool := false
  /-- SSI word of the next record and whether its CRC failed. -/
  ssi : Option (Nat × Bool) := none
  /-- filtered levels of A, B, Z, H1, H2, H3. -/
  pins : Nat := 0
  /-- POS, AUX and Hall skips as sampled at the trigger; samples so far, for STATUS[15:12]. -/
  held : Nat × Nat × Nat := (0, 0, 0)
  samples : Nat := 0
  /-- index events of the sample, in counts from the count at the trigger (R307). -/
  zs : List Int := []
  deriving DecidableEq, Repr

/-- One encoder emulator (R320 to R322). -/
structure Emu where
  /-- output count, state of the A and B lines (0 to 3 in the order of a positive count), outputs driven, source LOST. -/
  out : Int := 0
  phase : Nat := 0
  on : Bool := false
  lost : Bool := false
  /-- interval in force: target, start and length in ps, edges to space, edges emitted. -/
  tgt : Int := 0
  start : Int := 0
  len : Nat := 0
  edges : Nat := 0
  sent : Nat := 0
  /-- target, start and length of the interval of the last pass that has ended, until it starts. -/
  next : Option (Int × Int × Nat) := none
  deriving DecidableEq, Repr

structure LocalSt where
  lx : Tab LxSt := []
  /-- instant until which each ADC core is busy, ns. -/
  busy : Tab Nat := []
  /-- instant of the last conversion of a channel, ns. -/
  scanAt : Tab Nat := []
  /-- last measurement of a pin reference input: duty in 2^−32, or frequency in Hz. -/
  refIn : Tab Nat := []
  /-- channel that each ADC core converted last in the background scan (R332). -/
  scanPtr : Tab Nat := []
  /-- end of the last burst of each SSI port, ns (R315). -/
  ssiAt : Tab (Option Int) := []
  emu : Tab Emu := []
  /-- local axes whose outputs an FLT input has tripped since the last boundary (R329). -/
  tripNow : List Nat := []
  deriving DecidableEq, Repr

/-- A LANE access that waits (R62, R242): agent, BAR0 offset with its window, and the word of a write; none: a read. -/
structure Posted where
  agent : Agent
  boff : Nat
  word : Option Word
  deriving DecidableEq, Repr

/-- Shared memories: learning bins, life counters (axis × 8 + counter), bank of the plan in force (R208). -/
structure MemSt where
  learn : Tab Word := []
  life : Tab Nat := []
  bank : Nat := 1
  /-- armed group starts (R387). -/
  starts : List (Nat × Src × Desc) := []
  /-- LANE accesses waiting while a section list is checked (R62, R242), oldest first. -/
  posted : List Posted := []
  /-- a LANE_ENTRY write whose lists are being checked (R242). -/
  entry : Option Posted := none
  /-- ledger results on their way to the slots (R365): cycle, axis, RGF, coast; and the cycle last computed by group. -/
  ledger : List (BitVec 32 × Nat × Word × Bool) := []
  ledAt : Tab Nat := []
  deriving DecidableEq, Repr

/-! ### Cartridges -/

/-- CART block (Tables 11.8 and 11.9). -/
def regsCart : List RegRow := [
  { off := 0x0000, fields := [rw 0 0 1, rw 1 1 1, (rw 15 8 10).within 1 60] },
  { off := 0x0004, fields := [w1cs 2 0] },
  { off := 0x1000, cnt := 256, stride := 0x10, fields := [ro 2 0 1, ro 6 4, ro 7 7, ro 8 8, ro 23 16 100, ro 31 24 100] },
  { off := 0x1004, cnt := 256, stride := 0x10, fields := [ro 31 0] },
  { off := 0x1008, cnt := 256, stride := 0x10, fields := [ro 31 0] },
  { off := 0x100C, cnt := 256, stride := 0x10, fields := [ro 31 0 0xFFFFFFFF] }]

/-- What a cartridge transaction is for. -/
inductive CartKind where
  | auth | writeBack | read | write
  deriving DecidableEq, Repr

/-- A transaction of a cartridge, with the host command it serves, its offset and its length or data. -/
structure CartJob where
  kind : CartKind
  cmd : Option (Src × Desc) := none
  off : Nat := 0
  len : Nat := 0
  data : List Byte := []
  deriving DecidableEq, Repr

/-- CART's state of an axis: life memory but for the counters (Table 11.10), the internal nonce, the transaction in
progress and those that wait. -/
structure CartAx where
  ident : List Byte := []
  seq : Nat := 0
  aft : List Nat := []
  held : List (List Byte) := []
  nonce : List Byte := []
  /-- the tag has passed authentication and is still present. -/
  auth : Bool := false
  job : Option CartJob := none
  /-- step of the transaction, request on its way, sends of it, node address and slot it goes to. -/
  step : Nat := 0
  msg : List Byte := []
  sends : Nat := 0
  addr : Nat := 0
  slot : Nat := 0
  /-- identity block, sequence and life blocks read so far; data read so far. -/
  gotId : List Byte := []
  gotSeq : Nat := 0
  gotA : List Byte := []
  got : List Byte := []
  queue : List CartJob := []
  /-- average rates of the counters, in 2^−16 CXM units an hour, counters and instant of the last write-back. -/
  rates : List Nat := []
  lastC : List Nat := []
  lastT : Option Nat := none
  /-- class that waits for a write-back (EXPIRED, R422). -/
  after : Option Nat := none
  /-- interval of the last scheduled write-back. -/
  wbDone : Option Nat := none
  deriving DecidableEq, Repr

/-- The policy table at reset (Table 11.7). -/
def policyReset : List Byte :=
  [0, 100, 100, 0, 0, 0, 0, 0, 1, 50, 50, 1, 0, 0, 0, 0, 2, 50, 50, 1, 0, 0, 0, 0, 0, 100, 100, 0, 0, 0, 0, 0,
   0, 100, 100, 1, 0, 0, 0, 0, 1, 80, 80, 1, 0, 0, 0, 0, 0x84, 0x03, 30, 0] ++ List.replicate 12 0

structure CartSt where
  policy : List Byte := policyReset
  ax : Tab CartAx := []
  /-- WB_MIN in force, and the network time at which a written one takes effect (R422). -/
  wbMin : Nat := 10
  wbEnd : Nat := 600000000000
  /-- flush commands: command, axes whose write-back has not ended, a write-back failed. -/
  flushes : List (Src × Desc × List Nat × Bool) := []
  /-- removal warnings: node, axes whose write-back has not ended. -/
  removals : List (Nat × List Nat) := []
  /-- slot words to be written at the next boundary (R419): axis, X offset, word. -/
  wr : List (Nat × Nat × Word) := []
  deriving DecidableEq, Repr

/-! ### Safety channels -/

/-- Safety channel registers (Tables 12.7 to 12.9). -/
def regsSafe : List RegRow := [
  { off := 0x0000, fields := [ro 3 0 1, ro 4 4, ro 5 5, ro 15 8, ro 31 16] },
  { off := 0x0004, cnt := 4, fields := [ro 31 0] },
  { off := 0x0014, fields := [w1cs 13 0] },
  { off := 0x0018, fields := [ro 31 0] },
  { off := 0x001C, fields := [w1cs 1 0] },
  { off := 0x0020, cnt := 8, fields := [ro 31 0] }]

/-- A result word (R458). Masks: inputs 16, pairs 8, functions 16, STO groups 16, outputs 4. -/
structure SafeWord where
  filt : Nat := 0
  pairs : Nat := 0
  pairF : Nat := 0
  outF : Nat := 0
  rel : Nat := 0
  wait : Nat := 0
  stog : Nat := 0
  outs : Nat := 0
  cyc : Nat := 0
  acks : Nat := 0
  digest : List Byte := []
  deriving DecidableEq, Repr

/-- One safety channel. -/
structure SafeCh where
  /-- image in force, and the one that takes effect at the next cycle start. -/
  img : List Byte := []
  newImg : Option (List Byte) := none
  /-- last raw samples, filtered levels, input image. -/
  raw : Nat := 0
  filt : Nat := 0
  image : Nat := 0
  cyc : Nat := 0
  /-- latched TESTFAIL by input, and those since whose pulse passed. -/
  testF : Nat := 0
  testOk : Nat := 0
  /-- latched DISCREP by pair, and those since that showed the demand state on both inputs. -/
  disc : Nat := 0
  discDem : Nat := 0
  outF : Nat := 0
  ackStuck : Bool := false
  ackLow : Bool := false
  rel : Nat := 0
  wait : Nat := 0
  /-- functions whose SS1 delay runs, and functions that request a stop of PROF. -/
  ss1 : Nat := 0
  stopF : Nat := 0
  side : Nat := 0
  stog : Nat := 0
  cnt : Nat := 0
  sofb : Nat := 0
  pairs : Nat := 0
  /-- latest result word. -/
  word : SafeWord := {}
  /-- cycles for which an item has differed, by item; cycles without an advance of the partner's count. -/
  diffs : Tab Nat := []
  stale : Nat := 0
  seen : Nat := 0
  /-- acknowledges accepted; the last one while the partner's is awaited: functions it served, partner's count then. -/
  acks : Nat := 0
  ackWait : Option (Nat × Nat) := none
  deriving DecidableEq, Repr

structure SafeSt where
  p : SafeCh := {}
  s : SafeCh := {}
  mbxP : List Byte := []
  mbxS : List Byte := []
  /-- on-chip queue of ring 27 (Table 2.12), oldest first. -/
  log : List (List Byte) := []
  load : Option (Src × Desc × List Byte) := none
  /-- STO groups newly in demand for the next boundary (R451). -/
  offG : Nat := 0
  deriving DecidableEq, Repr

/-! ### LOG streams and sounding -/

/-- ACQ block (Tables 13.5 to 13.7). -/
def regsAcq : List RegRow := [
  { off := 0x0000, fields := [w1cs 0 0] },
  { off := 0x0004, fields := [ro 6 0 64] },
  { off := 0x0010, cnt := 8, fields := [ro 5 0, ro 14 8, ro 16 16] },
  { off := 0x0100, cnt := 8, stride := 0x40, fields := [ro 6 0, ro 17 8] },
  { off := 0x0104, cnt := 8, stride := 0x40,
    fields := [cyc 0 0 1, cyc 1 1, cyc 2 2, (cyc 4 3).only [0, 1, 2], cyc 5 5, cyc 13 8] },
  { off := 0x0108, cnt := 8, stride := 0x40, fields := [cyc 31 0] },
  { off := 0x010C, cnt := 8, stride := 0x40, fields := [cyc 31 0] },
  { off := 0x0110, cnt := 8, stride := 0x40, fields := [cyc 15 0] },
  { off := 0x0114, cnt := 8, stride := 0x40, fields := [cyc 3 0, ro 4 4, cyc 11 8, ro 12 12] },
  { off := 0x0118, cnt := 8, stride := 0x40, fields := [ro 31 0] },
  { off := 0x011C, cnt := 8, stride := 0x40, fields := [rw 31 0] },
  { off := 0x0120, cnt := 8, stride := 0x40, fields := [rw 31 0] },
  { off := 0x0124, cnt := 8, stride := 0x40, fields := [rw 31 0] },
  { off := 0x0128, cnt := 8, stride := 0x40, fields := [w1cs 4 0] },
  { off := 0x012C, cnt := 8, stride := 0x40, fields := [ro 22 0] }]

/-- SOUND block (Table 13.10). -/
def regsSound : List RegRow := [
  { off := 0x0000, fields := [rw 0 0 1, rw 1 1 1] },
  { off := 0x0004, fields := [ro 2 0] },
  { off := 0x0008, cnt := 3, fields := [ro 31 0] },
  { off := 0x0014, fields := [w1cs 2 0] },
  { off := 0x0018, fields := [rw 31 0] },
  { off := 0x0100, cnt := 8, fields := [ro 8 0] },
  { off := 0x0140, cnt := 18, fields := [ro 8 0] }]

/-- A mark (Table 13.3): a LOG_TRIGGER has SRCMASK 1 and CODE 1. -/
structure LogMark where
  time : Nat
  code : Nat
  axis : Nat := 0xFFFF
  arg : Nat
  src : Nat := 0
  deriving DecidableEq, Repr

/-- What a cycle has brought a stream: its boundary, whether it is a sample cycle, the words once they are read with
NOVAL, marks in the order of their causes, the source of the trigger line, and whether the cycle has ended. -/
structure LogCyc where
  c : BitVec 32
  bnd : Nat
  sample : Bool
  words : Option (List Word × Bool) := none
  marks : List LogMark := []
  evt : Option Nat := none
  closed : Bool := false
  deriving DecidableEq, Repr

/-- A mask of a stream (R484): probe index and table; its window's point and whether it has seen a violation. -/
structure LogMask where
  loaded : Bool := false
  idx : Nat := 0
  table : List Byte := []
  win : Option Nat := none
  hit : Bool := false
  deriving DecidableEq, Repr

/-- One LOG stream. -/
structure LogSt where
  /-- probe words in list order: axis, Y slot, slot word, part of a two-word signal. -/
  list : List (Nat × Bool × Nat × Bool) := []
  dec : Nat := 0
  /-- 0 STOPPED, 1 STARTING, 2 RUNNING, 3 POST (Table 13.6). -/
  st : Nat := 0
  cs : BitVec 32 := 0
  cyc : List LogCyc := []
  prev : Option (List Word) := none
  armed : Bool := false
  trigAt : Nat := 0
  ignored : Nat := 0
  m0 : LogMask := {}
  m1 : LogMask := {}
  post : Nat := 0
  pages : List Nat := []
  /-- pages of the plan in force that it waits for (R490). -/
  next : Option (List Nat) := none
  staged : List (List Byte) := []
  /-- drops since the last record staged: samples, marks, boundary times of the first and last lost sample; reason of
  the gap to come (0 none, 1 FULL, 2 RESIZE). -/
  lostN : Nat := 0
  lostM : Nat := 0
  lostA : Nat := 0
  lostB : Nat := 0
  why : Nat := 0
  starts : List (Src × Desc) := []
  deriving DecidableEq, Repr

/-- A sounding accepted: its tick (ns), whether workers latch, the command. -/
structure Sounding where
  t : Nat
  workers : Bool
  cmd : Option (Src × Desc)
  deriving DecidableEq, Repr

/-- A snapshot dump that waits for space in ring 31: what is still to be written, entries so far, the sounding it shows. -/
structure DumpJob where
  src : Src
  desc : Desc
  rest : List Byte
  n : Nat
  seq : Nat
  deriving DecidableEq, Repr

structure AcqSt where
  log : Tab LogSt := []
  sound : Option Sounding := none
  dumps : List DumpJob := []
  deriving DecidableEq, Repr

end Sys2Proof.Machine
end

