-- ==== Sys2Proof/Machine/TypesCan.lean ====
section
/-! DEFINITION. State of the CAN controllers and their register table (spec 15). -/

namespace Sys2Proof.Machine

/-- Registers of one controller, at its own 4 KiB, and the buffer windows of all four (Tables 15.2 to 15.7). -/
def regsCan : List RegRow := [
  { off := 0x000, fields := [rw 0 0 1, rw 1 1, rw 2 2, rw 3 3, rw 4 4 1, rw 5 5, rw 6 6, rw 7 7, rw 8 8, (rw 31 16 100).within 1 65535] },
  { off := 0x004, fields := [ro 12 0, ro 23 16] },
  { off := 0x008, fields := [rw 7 0 0x01, (rw 15 8 0x3E).within 1 255, rw 22 16 0x0F, rw 30 24 0x0F] },
  { off := 0x00C, fields := [rw 4 0, rw 12 8 0x0E, rw 19 16 3, rw 27 24 3] },
  { off := 0x010, fields := [rw 0 0, rw 14 8] },
  { off := 0x014, fields := [ro 8 0, ro 23 16] },
  { off := 0x018, fields := [w1cs 9 0] },
  { off := 0x01C, cnt := 4, fields := [rw 31 0] },
  { off := 0x030, fields := [rw 29 0] },
  { off := 0x034, fields := [rw 28 0 0x1FFFFFFF] },
  { off := 0x038, cnt := 4, fields := [rw 31 0] },
  { off := 0x048, fields := [(rw 7 0 0x0F).within 5 255, (rw 11 8).within 0 8] },
  { off := 0x050, fields := [wo 5 0] },
  { off := 0x054, fields := [wo 5 0] },
  { off := 0x058, fields := [wo 5 0] },
  { off := 0x100, cnt := 64, stride := 0x10, fields := [rw 0 0, rw 1 1, rw 2 2, rw 3 3, (rw 5 4).only [0, 1, 2]] },
  { off := 0x104, cnt := 64, stride := 0x10, fields := [rw 29 0] },
  { off := 0x108, cnt := 64, stride := 0x10, fields := [rw 28 0] },
  { off := 0x10C, cnt := 64, stride := 0x10, fields := [ro 5 0, w1cs 7 6, ro 15 8, rw 23 16] },
  { off := 0x4000, cnt := 8192, fields := [ro 31 0] }]

/-- A frame as a buffer or a ring record holds it (Table 15.7). -/
structure CanFrame where
  idw : Nat := 0
  len : Nat := 0
  rtr : Bool := false
  esi : Bool := false
  wake : Bool := false
  ts : Nat := 0
  cyc : Nat := 0
  data : List Byte := []
  deriving DecidableEq, Repr

/-- A frame held for transmission (R546 to R549). -/
structure CanTx where
  src : Src
  desc : Desc
  idw : Nat
  len : Nat
  rtr : Bool
  single : Bool
  data : List Byte
  att : Nat := 0
  /-- an abort waits for the current attempt to end. -/
  abort : Bool := false
  active : Bool := false
  deriving DecidableEq, Repr

structure CanBuf where
  front : Option CanFrame := none
  shadow : Option CanFrame := none
  locked : Bool := false
  tx : Option CanTx := none
  /-- collisions since the last success or back-off (R553). -/
  colls : Nat := 0
  backoff : Bool := false
  deriving DecidableEq, Repr

structure CanCtl where
  bufs : Tab CanBuf := []
  /-- REC as ISO 11898-1 counts it; CAN_ECNT shows at most 127 and RP. -/
  recv : Nat := 0
  /-- CAN_SLEEP waiting for bus idle: command and wake mode. -/
  sleep : Option (Src × Desc × Bool) := none
  /-- CAN_RECOVER waiting for the end of recovery. -/
  recover : Option (Src × Desc) := none
  /-- records lost since the last one written to the receive ring. -/
  lostRec : Nat := 0
  deriving DecidableEq, Repr

structure CanSt where
  ctl : Tab CanCtl := []
  deriving DecidableEq, Repr

end Sys2Proof.Machine
end

