-- ==== Sys2Proof/Machine/RegMap.lean ====
section
/-! DEFINITION. The register map: which description a BAR0 offset has, and its reset value (Table 1.1, R74, R527). -/

namespace Sys2Proof.Machine

/-- BAR0 offset of a block. -/
abbrev TOP_B : Nat := 0
abbrev NET_B : Nat := 0x30000
abbrev TIME_B : Nat := 0x40000
abbrev PILOT_B : Nat := 0x50000
abbrev KEEL_B : Nat := 0x130000
abbrev HELM_B : Nat := 0x140000
abbrev HOST_B : Nat := 0x10000
abbrev LANE_B : Nat := 0x60000
abbrev LANEN_B : Nat := 0x70000
abbrev AXIS_B : Nat := 0x80000
abbrev FB_B : Nat := 0x90000
abbrev PROF_B : Nat := 0xA0000
abbrev LOCAL_B : Nat := 0xB0000
abbrev CART_B : Nat := 0x110000
abbrev SAFEP_B : Nat := 0xF0000
abbrev SAFES_B : Nat := 0x100000
abbrev ACQ_B : Nat := 0xC0000
abbrev SOUND_B : Nat := 0xD0000
abbrev CAN_B : Nat := 0xE0000
abbrev EVT_B : Nat := 0x20000
abbrev CPU_B : Nat := 0x120000

/-- The register table of a block number (BAR0 offset ÷ 0x1_0000). -/
def blockTable : Nat → List RegRow
  | 0x01 => regsHost
  | 0x02 => regsEvt
  | 0x12 => regsCpu
  | 0x00 => regsTop
  | 0x03 => regsNet
  | 0x04 => regsTime
  | 0x05 => regsPilot
  | 0x06 => regsLane
  | 0x07 => regsLaneN
  | 0x08 => regsAxis
  | 0x09 => regsFb
  | 0x0A => regsProf
  | 0x0B => regsLocal
  | 0x0C => regsAcq
  | 0x0D => regsSound
  | 0x0E => regsCan
  | 0x0F => regsSafe
  | 0x10 => regsSafe
  | 0x11 => regsCart
  | 0x13 => regsKeel
  | 0x14 => regsHelm
  | _ => []

/-- A word of a snapshot window (R499): block offset 0xF000 up, but in LANE per-lane and AXIS. -/
def isSnap (off : Nat) : Bool :=
  off % 4 == 0 && 0xF000 ≤ off % 0x10000 && off / 0x10000 ≤ 0x14 && off / 0x10000 != 7 && off / 0x10000 != 8

/-- Offset inside a block's table: the four CAN controllers share one (R539). -/
def rowOff (off : Nat) : Nat :=
  let o := off % 0x10000
  if off / 0x10000 = 0x0E && o < 0x4000 then o % 0x1000 else o

/-- Fields of the register at a NORMAL-window offset; none where no register lies (R18). -/
def regFields (off : Nat) : List Fld :=
  match findRow (blockTable (off / 0x10000)) (rowOff off) with
  | some r => r.fields
  | none => if isSnap off then [ro 31 0] else []

/-- Entry-size code after reset of a ring (Table 2.12). -/
def esizeReset (r : Nat) : Nat :=
  if r < 4 then 1 else if r < 6 then 0 else if r < 10 then 1 else if r < 18 then 2 else if r < 22 then 1
  else if r < 26 then 3 else if r = 26 then 0 else if r = 27 then 1 else if r = 28 then 2 else if r = 29 then 1
  else if r = 30 then 2 else 4

/-- Completion-ring choice after reset of a ring (Table 2.12). -/
def cqReset (r : Nat) : Nat :=
  if r = 2 || r = 3 || (6 ≤ r && r ≤ 9) || (18 ≤ r && r ≤ 21) || r = 29 then 1 else 0

/-- Start and cycles of the standard sections FBP, FBM, PRF, POS, VEL, CUR, SVM, OBS, RPC, OFFO, STP, STP2, PRB, FBK
(Table 6.10). -/
def stdSections : List (Nat × Nat) :=
  [(0x000, 64), (0x080, 48), (0x100, 40), (0x140, 36), (0x180, 32), (0x1C0, 96), (0x240, 60), (0x280, 56), (0x2C0, 68), (0x300, 12),
   (0x310, 30), (0x340, 60), (0x380, 24), (0x3A0, 40)]

/-- Section starts of standard list i (Table 6.11). -/
def stdList (i : Nat) : List Nat :=
  let fb := if 8 ≤ i then 0x080 else 0x000
  match i % 8 with
  | 0 => [fb, 0x280, 0x300]
  | 1 => [fb, 0x100, 0x1C0, 0x240, 0x280, 0x2C0]
  | 2 => [fb, 0x100, 0x180, 0x1C0, 0x240, 0x280, 0x2C0]
  | 3 => [fb, 0x100, 0x140, 0x180, 0x1C0, 0x240, 0x280, 0x2C0]
  | 4 => [fb, 0x100, 0x310]
  | 5 => [fb, 0x100, 0x340, 0x240, 0x280]
  | 6 => [fb, 0x380]
  | _ => [fb, 0x3A0, 0x1C0, 0x240, 0x280]

/-- Cycles of a standard section. -/
def stdCycles (a : Nat) : Nat := ((stdSections.find? (fun e => e.1 == a)).map (fun e => e.2)).getD 0

/-- A half of LANE_SLIST: section start and valid bit. -/
def slistHalf : Option Nat → Nat
  | some a => a + 0x8000
  | none => 0

/-- Reset value of a register: its fields' reset values, but for the registers whose reset depends on their number. -/
def resetWord (off : Nat) : Word :=
  let base := resetOf (regFields off)
  if off / 0x10000 = 0x01 && 0x10400 ≤ off && off < 0x10800 && (off - 0x10400) % 0x20 = 0x10 then
    let r := (off - 0x10400) / 0x20
    putBits (putBits base 11 9 (esizeReset r)) 12 12 (cqReset r)
  else if 0x20100 ≤ off && off < 0x20500 then
    let src := (off - 0x20100) / 4
    if src ≤ 31 then putBits (putBits (putBits base 5 0 src) 6 6 1) 7 7 0
    else putBits base 5 0 (32 + (src - 32) / 8)
  else if 0x60100 ≤ off && off < 0x60200 then
    let j := (off - 0x60100) / 4 % 4
    ofNat (4 * j + (4 * j + 1) * 2 ^ 8 + (4 * j + 2) * 2 ^ 16 + (4 * j + 3) * 2 ^ 24)
  else if 0x60400 ≤ off && off < 0x60500 then
    let l := stdList ((off - 0x60400) / 0x10)
    let j := (off - 0x60400) / 4 % 4
    ofNat (slistHalf l[2 * j]? + slistHalf l[2 * j + 1]? * 2 ^ 16)
  else if 0x60800 ≤ off && off < 0x60900 then
    let l := (off - 0x60800) / 4
    if l < 16 then ofNat ((stdList l).map stdCycles).sum else 0xF0000
  else base

end Sys2Proof.Machine
end

