-- ==== Sys2Proof/Machine/State.lean ====
section
/-! DEFINITION. The state of the block, its state after reset, and the reasons a step can stop. -/

namespace Sys2Proof.Machine

open Sys2Proof

/-- Why a step stops with a fault: nothing in this block does, since the spec gives every command an effect. -/
inductive Fault where
  /-- Raised by no command. Safe: a stop only takes behaviour away. -/
  | none
  deriving DecidableEq, Repr

/-- Why a step has no meaning. -/
inductive Refusal where
  /-- Raised by an arm of `exec` whose command has no meaning yet. Safe: a stop only takes behaviour away. -/
  | notModelled (mnemonic : String)
  deriving DecidableEq, Repr

/-- The whole block. -/
structure State where
  /-- commands waiting, first in first out. -/
  pending : List Instr
  /-- the model's own counter of free values drawn (assumption log 2). -/
  free : Nat
  /-- the model's own record of outputs, in order (assumption log 3). -/
  out : List Emit
  /-- every BAR0 register whose value differs from its reset value, by NORMAL-window offset. -/
  regs : Tab Word
  host : HostSt
  evt : EvtSt
  cpu : CpuSt
  net : NetSt
  tim : TimeSt
  pilot : PilotSt
  helm : HelmSt
  boot : BootSt
  lanes : Tab LaneSt
  mem : MemSt
  axes : Tab AxisSt
  loc : LocalSt
  cart : CartSt
  safe : SafeSt
  acq : AcqSt
  can : CanSt
  /-- current network-cycle number (R15, R147). -/
  cycle : BitVec 32
  /-- network time of the last cycle boundary, and now, ns. -/
  bnd : Nat
  ntime : Nat
  deriving DecidableEq, Repr

/-- The fuses of a part as shipped (assumption log 5): VARIANT IC and TRIM 0, each locked; the rest
unprogrammed. -/
def fusesT : Tab Nat := [(0x00, 1), (0x30, 0x4C4F434B), (0x37, 0x4C4F434B)]
def fusesC : Tab Nat := [(0x00, 0xFFFFFFFE), (0x20, 0xFFFFFFFF), (0x21, 0xFFFFFFFF), (0x22, 0xFFFFFFFF),
  (0x23, 0xFFFFFFFF), (0x24, 0xFFFFFFFF), (0x25, 0xFFFFFFFF), (0x26, 0xFFFFFFFF), (0x27, 0xFFFFFFFF), (0x30, 0xB3B0BCB4),
  (0x37, 0xB3B0BCB4)]
def fusesCls : Tab Nat := [(0x00, 1), (0x20, 1), (0x21, 1), (0x22, 1), (0x23, 1), (0x24, 1), (0x25, 1), (0x26, 1),
  (0x27, 1), (0x30, 1), (0x37, 1)]

/-- The machine right after power-on reset. -/
def State.reset : State where
  pending := []
  free := 0
  out := []
  regs := []
  host := {}
  evt := {}
  cpu := {}
  net := {}
  tim := {}
  pilot := {}
  helm := {}
  boot := { fuseT := fusesT, fuseC := fusesC, kcls := fusesCls, kval := fusesT }
  lanes := []
  mem := {}
  axes := []
  loc := {}
  cart := {}
  safe := {}
  acq := {}
  can := {}
  cycle := 0
  bnd := 0
  ntime := 0

end Sys2Proof.Machine
end

