-- ==== Sys2Proof/Machine/Ops.lean ====
section
/-! DEFINITION. Named operations over the state: registers, outputs, free values, event routing (R527 to R531),
the dispatcher's token matching (R515 to R517), ring records and ring events (R79 to R81, R98) and completions (R88, R89). -/

namespace Sys2Proof.Machine

open Sys2Proof

/-! ### Registers and outputs -/

/-- The stored value of the register at a NORMAL-window offset. -/
def State.rg (s : State) (off : Nat) : Word := Tab.get (resetWord off) s.regs off

/-- A register loaded whole by hardware. -/
def State.setRg (s : State) (off : Nat) (w : Word) : State :=
  { s with regs := Tab.set (resetWord off) s.regs off w }

/-- Bits [hi:lo] of a register. -/
def State.fld (s : State) (off hi lo : Nat) : Nat := bits (s.rg off) hi lo

/-- Bits [hi:lo] of a register loaded by hardware. -/
def State.setFld (s : State) (off hi lo v : Nat) : State := s.setRg off (putBits (s.rg off) hi lo v)

/-- Bit n of a register. -/
def State.flag (s : State) (off n : Nat) : Bool := bit (s.rg off) n

/-- Bit n of a register set by hardware. -/
def State.setFlag (s : State) (off n : Nat) : State := s.setFld off n n 1

/-- Bit n of a register cleared by hardware. -/
def State.clrFlag (s : State) (off n : Nat) : State := s.setFld off n n 0

/-- Bit n of a register driven by hardware. -/
def State.putFlag (s : State) (off n : Nat) (b : Bool) : State := s.setFld off n n (b2n b)

/-- A counter field incremented by hardware, saturating at its largest value. -/
def State.incFld (s : State) (off hi lo i : Nat) : State :=
  s.setFld off hi lo (satAdd (2 ^ (hi + 1 - lo) - 1) (s.fld off hi lo) i)

/-- An output recorded. -/
def State.emit (s : State) (e : Emit) : State := { s with out := s.out ++ [e] }

/-- The next free value is drawn: the counter advances (the value is Config's function of the old counter). -/
def State.draw (s : State) : State := { s with free := s.free + 1 }

/-! ### Cycle numbers -/

/-- R15: a named cycle lies in the future of the current one. -/
def isFuture (n c : BitVec 32) : Bool := 1 ≤ (n - c).toNat && (n - c).toNat < 2 ^ 31

/-! ### The dispatcher's lists (R514 to R518) -/

/-- Configuration word of a thread block (Table 14.3). -/
abbrev thCfg (t : Nat) : Nat := CPU_B + 0x1000 + t % 256 * 0x40

def State.prio (s : State) (t : Nat) : Nat := s.fld (thCfg t) 4 0
def State.thEn (s : State) (t : Nat) : Bool := s.flag (thCfg t) 13

/-- Hart h may run thread t: HARTS bit and the pair of its block (Table 14.3, R512). -/
def State.thOn (s : State) (t h : Nat) : Bool :=
  bit (s.rg (thCfg t)) (8 + h) && (if t < 128 then h < 2 else 2 ≤ h)

/-- The dispatcher tick (R523). -/
def State.tick (s : State) : Nat := (s.ntime / 1000) % 2 ^ 32

/-- A thread enters its ready list, at the head or the tail (R518). -/
def State.makeReady (s : State) (t : Nat) (head : Bool) : State :=
  if s.thEn t then
    let r := s.cpu.ready.filter (fun x => x != t)
    { s with cpu := { s.cpu with ready := if head then t :: r else r ++ [t], readyAt := Tab.set 0 s.cpu.readyAt t s.ntime } }
  else s

def tokKind (k : Nat) : Nat := k / 4096 % 16
def tokIdx (k : Nat) : Nat := k % 256

/-- R514: a wait that stops its thread. -/
def waitInvalid (t : Nat) (toks : List Nat) : Bool :=
  toks.any (fun k => 4 < tokKind k) ||
  (1 < (toks.filter (fun k => tokKind k == 3)).length) ||
  (128 ≤ t && toks.any (fun k => (tokKind k == 2 && tokIdx k < 128) || (tokKind k == 3 && tokIdx k < 32)))

/-- What a token match on one edge sees: the occurring event source, if any, and the tick. -/
structure Edge where
  ev : Option Nat
  tick : Nat
  deriving DecidableEq, Repr

/-- Working data of one wait's match: semaphores, mailboxes, delivered word. -/
structure MatchAcc where
  sem : Tab Nat
  mbx : Tab (List Nat)
  msg : Option Nat
  deriving DecidableEq, Repr

/-- Event, timer and mailbox tokens of a wait on an edge (R515). -/
def matchPlain (e : Edge) (wake : Nat) : List Nat → List Bool → MatchAcc → List Bool × MatchAcc
  | k :: ks, m :: ms, a =>
    let hitNow : Bool × MatchAcc :=
      if m then (true, a)
      else match tokKind k with
        | 1 => (e.ev == some (tokIdx k), a)
        | 4 => (!(isFuture (ofNat wake) (ofNat e.tick)), a)
        | 3 => match Tab.get [] a.mbx (tokIdx k) with
          | w :: r => (true, { a with mbx := Tab.set [] a.mbx (tokIdx k) r, msg := some w })
          | [] => (false, a)
        | _ => (false, a)
    let rest := matchPlain e wake ks ms hitNow.2
    (hitNow.1 :: rest.1, rest.2)
  | _, _, a => ([], a)

/-- One unit taken for every semaphore token not yet matched, where the count allows (ANY waits). -/
def matchSems : List Nat → List Bool → MatchAcc → List Bool × MatchAcc
  | k :: ks, m :: ms, a =>
    let c := Tab.get 0 a.sem (tokIdx k)
    let hit := !m && tokKind k == 2 && 1 ≤ c
    let a' := if hit then { a with sem := Tab.set 0 a.sem (tokIdx k) (c - 1) } else a
    let rest := matchSems ks ms a'
    ((m || hit) :: rest.1, rest.2)
  | _, _, a => ([], a)

/-- The matched flags of the tokens that are not KIND none are all set, or one is (Table 14.3, ANY). -/
def waitDone (any : Bool) (toks : List Nat) (ms : List Bool) : Bool :=
  let l := (toks.zip ms).filter (fun p => tokKind p.1 != 0)
  if any then l.any (fun p => p.2) || l.isEmpty else l.all (fun p => p.2)

/-- R515, R516: one wait on one edge. Answers the wait with its new flags, the counts, and whether it is complete. -/
def matchWait (e : Edge) (w : Wait) (a : MatchAcc) : Wait × MatchAcc × Bool :=
  let p := matchPlain e w.wake w.toks w.matched a
  if w.any then
    let q := matchSems w.toks p.1 p.2
    ({ w with matched := q.1 }, q.2, waitDone true w.toks q.1)
  else
    let q := matchSems w.toks p.1 p.2
    if waitDone false w.toks q.1 then ({ w with matched := q.1 }, q.2, true)
    else ({ w with matched := p.1 }, p.2, false)

/-- The delivered word and the flags of a completed wait go to its block (RESULT, MSG, CNT_WAIT, CNT_TMO). -/
def State.finishWait (s : State) (w : Wait) : State :=
  let b := thCfg w.thread
  let res := (w.matched.zipIdx.filter (fun p => p.1 && tokKind (w.toks.getD p.2 0) != 0)).foldl (fun n p => n + 2 ^ p.2) 0
  let timerOnly := w.any && (w.toks.zip w.matched).all (fun p => !p.2 || tokKind p.1 == 4 || tokKind p.1 == 0) &&
    (w.toks.zip w.matched).any (fun p => p.2 && tokKind p.1 == 4)
  let s := (s.setFld (b + 0x10) 3 0 res).incFld (b + 0x28) 31 0 1
  if timerOnly then s.incFld (b + 0x2C) 31 0 1 else s

/-- Insertion by a strict order. -/
def insertBy {α : Type} (lt : α → α → Bool) (x : α) : List α → List α
  | [] => [x]
  | y :: r => if lt x y then x :: y :: r else y :: insertBy lt x r

/-- Stable sort by a strict order. -/
def sortBy {α : Type} (lt : α → α → Bool) (l : List α) : List α := l.foldl (fun a x => insertBy lt x a) []

/-- Every registered wait tried on one edge, in the order of R517; completed threads become ready in ascending
block number. -/
def State.tokenEdge (s : State) (ev : Option Nat) : State :=
  let e : Edge := { ev := ev, tick := s.tick }
  let order := sortBy (fun a b => decide (s.prio a.1.thread < s.prio b.1.thread)) s.cpu.waits.zipIdx
  let r := order.foldl (fun (st : List (Wait × Nat × Bool) × MatchAcc × List (Nat × Nat)) w =>
      let q := matchWait e w.1 { st.2.1 with msg := none }
      (st.1 ++ [(q.1, w.2, q.2.2)], q.2.1, match q.2.1.msg with | some m => st.2.2 ++ [(w.1.thread, m)] | none => st.2.2))
    (([], { sem := s.cpu.sem, mbx := s.cpu.mbx, msg := none }, []) : List (Wait × Nat × Bool) × MatchAcc × List (Nat × Nat))
  let all := sortBy (fun a b => decide (a.2.1 < b.2.1)) r.1
  let kept := (all.filter (fun x => !x.2.2)).map (fun x => x.1)
  let fin := sortBy (fun (a b : Wait) => decide (a.thread < b.thread)) ((all.filter (fun x => x.2.2)).map (fun x => x.1))
  let s := { s with cpu := { s.cpu with waits := kept, sem := r.2.1.sem, mbx := r.2.1.mbx } }
  let s := r.2.2.foldl (fun s m => s.setRg (thCfg m.1 + 0x14) (ofNat m.2)) s
  fin.foldl (fun s w => (s.finishWait w).makeReady w.thread false) s

/-! ### Rings -/

abbrev rBase (r : Nat) : Nat := HOST_B + 0x400 + r * 0x20
abbrev rCfg (r : Nat) : Nat := rBase r + 0x10
abbrev rIdx (r : Nat) : Nat := rBase r + 0x14
abbrev rStat (r : Nat) : Nat := rBase r + 0x18
abbrev rIrq (r : Nat) : Nat := rBase r + 0x1C

/-- Rings 4, 5, 10 to 17, 22 to 28, 30 and 31 report to the host (Table 2.12). -/
def isReport (r : Nat) : Bool :=
  r == 4 || r == 5 || (10 ≤ r && r ≤ 17) || (22 ≤ r && r ≤ 28) || r == 30 || r == 31

def isSubmission (r : Nat) : Bool := !isReport r && r < 32

def State.ringX (s : State) (r : Nat) : RingX := Tab.get {} s.host.rings r
def State.setRingX (s : State) (r : Nat) (x : RingX) : State :=
  { s with host := { s.host with rings := Tab.set {} s.host.rings r x } }

def State.ringEn (s : State) (r : Nat) : Bool := s.flag (rCfg r) 0
def State.ringSize (s : State) (r : Nat) : Nat := 2 ^ s.fld (rCfg r) 8 4
def State.esize (s : State) (r : Nat) : Nat := 16 * 2 ^ s.fld (rCfg r) 11 9
def State.hostIdx (s : State) (r : Nat) : Nat := s.fld (rIdx r) 15 0
def State.cxmIdx (s : State) (r : Nat) : Nat := s.fld (rIdx r) 31 16
def State.ringAddr (s : State) (r : Nat) : Nat := (s.rg (rBase r)).toNat + 2 ^ 32 * (s.rg (rBase r + 4)).toNat
def State.wbAddr (s : State) (r : Nat) : Nat := (s.rg (rBase r + 8)).toNat + 2 ^ 32 * (s.rg (rBase r + 12)).toNat

/-- Producer and consumer index: the host produces on a submission ring, the CXM on a report ring (R75). -/
def State.prodIdx (s : State) (r : Nat) : Nat := if isReport r then s.cxmIdx r else s.hostIdx r
def State.consIdx (s : State) (r : Nat) : Nat := if isReport r then s.hostIdx r else s.cxmIdx r

/-- Entries held. -/
def State.ringCount (s : State) (r : Nat) : Nat :=
  (s.prodIdx r + s.ringSize r - s.consIdx r % s.ringSize r) % s.ringSize r

def State.resizing (s : State) (r : Nat) : Bool := s.flag (rStat r) 1

/-- R86: a new producer index that a pending resize forbids. -/
def State.resizeBlocks (s : State) (r p : Nat) : Bool :=
  s.resizing r && p < s.consIdx r && min (s.ringSize r) (2 ^ (s.ringX r).pendSize) ≤ p + 1

/-- A report ring that can take one more entry now. -/
def State.ringRoom (s : State) (r : Nat) : Bool :=
  s.ringEn r && s.flag (rStat r) 0 && s.ringCount r + 1 < s.ringSize r &&
    !s.resizeBlocks r ((s.prodIdx r + 1) % s.ringSize r)

/-- RING_STAT.FULL follows the indices (Table 2.10). -/
def State.ringRefresh (s : State) (r : Nat) : State :=
  s.putFlag (rStat r) 2 (s.ringCount r + 1 == s.ringSize r)

/-- R85: the pending size applies when the consumer index wraps to 0; `old`: the index before it moved. -/
def State.applyResize (s : State) (r old : Nat) : State :=
  if s.resizing r && decide (s.consIdx r < old) then
    ((s.setFld (rCfg r) 8 4 (s.ringX r).pendSize).clrFlag (rStat r) 1)
  else s

/-- The writeback of a ring's CXM-side index (R79). -/
def State.writeback (s : State) (r : Nat) : State :=
  s.emit (.dma (s.wbAddr r) (leBytes 4 (s.cxmIdx r) ++ leBytes 4 s.cycle.toNat))

/-! ### Events -/

abbrev evtRoute (src : Nat) : Nat := EVT_B + 0x100 + src * 4

def State.msixV (s : State) (v : Nat) : MsixV := Tab.get {} s.host.msix v

/-- R96: a vector's message is sent, or its PBA bit set while it is masked. -/
def State.sendMsix (s : State) (v : Nat) : State :=
  let m := s.msixV v
  if m.masked || !s.host.msixOn then
    { s with host := { s.host with msix := Tab.set {} s.host.msix v { m with pba := true } } }
  else s.emit (.msix v m.addr m.data)

/-- Sorted insertion of a (hart, source) pair, once. -/
def addPair (p : Nat × Nat) (l : List (Nat × Nat)) : List (Nat × Nat) :=
  if l.contains p then l else insertBy (fun a b => decide (a.1 < b.1 ∨ (a.1 = b.1 ∧ a.2 < b.2))) p l

/-- R527 and R528 but for the ring 26 record: EVT_PEND, harts, dispatcher, acquisition and sounding lines, MSI-X. -/
def State.routeEvent (s : State) (src : Nat) : State :=
  let route := s.rg (evtRoute src)
  let s := s.setFlag (EVT_B + 0x500 + src / 32 * 4) (src % 32)
  let hp := [0, 1, 2, 3].foldl (fun l h => if bit route (8 + h) then addPair (h, src) l else l) s.evt.hpend
  let aq := [0, 1, 2, 3, 4, 5, 6, 7].foldl (fun l n => if bit route (16 + n) then addPair (n, src) l else l) s.evt.acq
  let sn := if bit route 13 then s.evt.sound ++ [src] else s.evt.sound
  let s := { s with evt := { s.evt with hpend := hp, acq := aq, sound := sn } }
  let s := if bit route 6 then s.sendMsix (bits route 5 0) else s
  if bit route 12 then s.tokenEdge (some src) else s

/-- One more unsignalled entry or consumption of a ring; answers whether RING_IRQ.COUNT is reached (R98). -/
def State.countRing (s : State) (r : Nat) : State × Bool :=
  let x := s.ringX r
  let n := x.unsignalled + 1
  let c := s.fld (rIrq r) 7 0
  (s.setRingX r { x with unsignalled := n, holdRun := true }, decide (c ≠ 0 ∧ c ≤ n))

/-- One record appended to a report ring with room, then the writeback (R77, R80). -/
def State.append (s : State) (r : Nat) (recd : List Byte) : State :=
  let a := s.ringAddr r + s.prodIdx r * s.esize r
  let s := s.emit (.dma a recd)
  ((s.setFld (rIdx r) 31 16 ((s.prodIdx r + 1) % s.ringSize r)).ringRefresh r).writeback r

/-- The ring event of a ring that is not masked, without a ring 26 record of its own. -/
def State.ringEventBare (s : State) (r : Nat) : State :=
  if s.flag (rIrq r) 31 then s
  else (s.setRingX r { s.ringX r with unsignalled := 0, holdRun := false }).routeEvent r

/-- A ring flag set by hardware raises the ring's event when it was 0 (R98). -/
def State.ringFlagBare (s : State) (r n : Nat) : State :=
  if s.flag (rStat r) n then s else (s.setFlag (rStat r) n).ringEventBare r

/-- R529, R531: the ring 26 record of an occurrence, or its loss. -/
def State.eventRecord (s : State) (src arg : Nat) : State :=
  if s.ringRoom 26 then
    let recd := leBytes 2 src ++ leBytes 2 (min s.evt.lost 0xFFFF) ++ leBytes 4 s.cycle.toNat ++ leBytes 4 arg ++ leBytes 4 s.ntime
    let s := (s.append 26 recd)
    let s := { s with evt := { s.evt with lost := 0 } }
    let p := s.countRing 26
    if p.2 then p.1.ringEventBare 26 else p.1
  else
    let s := { s with evt := { s.evt with lost := s.evt.lost + 1 } }
    let s := (s.setFlag EVT_B 1).incFld (rStat 26) 31 16 1
    s.ringFlagBare 26 5

/-- R527: an occurrence of an event source with its ARG. -/
def State.raise (s : State) (src arg : Nat) : State :=
  let ring := bit (s.rg (evtRoute src)) 7
  let s := s.routeEvent src
  if ring then s.eventRecord src arg else s

/-- R98: the event of a ring, unless it is masked. -/
def State.ringEvent (s : State) (r : Nat) : State :=
  if s.flag (rIrq r) 31 then s
  else (s.setRingX r { s.ringX r with unsignalled := 0, holdRun := false }).raise r r

/-- A ring status flag changed by hardware from 0 to 1 raises the ring's event (R98). -/
def State.ringFlag (s : State) (r n : Nat) : State :=
  if s.flag (rStat r) n then s else (s.setFlag (rStat r) n).ringEvent r

/-- A record written into a report ring that has room (R80, R98). -/
def State.pushRing (s : State) (r : Nat) (recd : List Byte) : State :=
  let p := (s.append r recd).countRing r
  if p.2 then p.1.ringEvent r else p.1

/-- A record lost because a ring is full (Table 2.10: OVF, LOST). -/
def State.loseRing (s : State) (r : Nat) : State := (s.incFld (rStat r) 31 16 1).ringFlag r 5

/-! ### Completions (R88, R89, Tables 2.14 and 2.15) -/

/-- Completion status codes. -/
inductive St where
  | ok | badOpcode | badTarget | badOperand | reservedPosition | cyclePast | accessDenied | busy | timeout | pdOff
  | notHelm | planRejected | authFail | dmaFail
  deriving DecidableEq, Repr

def St.code : St → Nat
  | .ok => 0 | .badOpcode => 1 | .badTarget => 2 | .badOperand => 3 | .reservedPosition => 4 | .cyclePast => 5
  | .accessDenied => 6 | .busy => 7 | .timeout => 8 | .pdOff => 9 | .notHelm => 10 | .planRejected => 11
  | .authFail => 12 | .dmaFail => 13

/-- The 16 bytes of a completion. -/
def complBytes (tag : Word) (opc : Nat) (st : St) (srcRing : Nat) (lo hi : Nat) : List Byte :=
  leBytes 4 tag.toNat ++ leBytes 1 opc ++ leBytes 1 st.code ++ leBytes 1 srcRing ++ [0] ++ leBytes 4 lo ++ leBytes 4 hi

/-- Completion ring of a submission ring (RING_CFG.CQ). -/
def State.cqOf (s : State) (r : Nat) : Nat := if s.flag (rCfg r) 12 then 5 else 4

/-- The completion ring whose slot a command in progress holds; a command delivered without DESCRIPTOR_TAKE uses
its ring's present choice. -/
def State.slotOf (s : State) (src : Src) (opc : Nat) (d : Desc) : Nat :=
  match s.host.taken.find? (fun t => t.src == src && t.opcode == opc && t.desc == d) with
  | some t => t.cq
  | none => s.cqOf src.ringNo

/-- The command is no longer in progress: its slot is released (R89). -/
def State.release (s : State) (src : Src) (opc : Nat) (d : Desc) : State :=
  let rest := s.host.taken.eraseP (fun t => t.src == src && t.opcode == opc && t.desc == d)
  { s with host := { s.host with taken := rest } }

/-- A host-side reset came while the command was in progress: its completion is lost (R203). -/
def State.isLost (s : State) (src : Src) (opc : Nat) (d : Desc) : Bool :=
  s.host.lost.any (fun t => t.src == src && t.opcode == opc && t.desc == d)

/-- A command whose completion was lost has ended. -/
def State.forget (s : State) (src : Src) (opc : Nat) (d : Desc) : State :=
  { s with host := { s.host with lost := s.host.lost.eraseP (fun t => t.src == src && t.opcode == opc && t.desc == d) } }

abbrev cPort (h : Nat) : Nat := CPU_B + 0x100 + h * 0x40

/-- A completion ring takes entries: it is enabled and no DMA error has stopped it (R83). -/
def State.ringAlive (s : State) (q : Nat) : Bool := s.ringEn q && s.flag (rStat q) 0

/-- A command ends: its completion is written when it failed or FLAGS.COMP is 1 (R89); a command port always gets it (R525). It is
lost where a host-side reset came in between (R203), and where a write of EN = 0 or a DMA error (R83) has stopped its completion ring
since its slot was reserved (DESIGN CHOICE, assumption log 77: for these two the spec does not say what becomes of it). -/
def State.complete (s : State) (src : Src) (opc : Nat) (d : Desc) (st : St) (lo : Nat := 0) (hi : Nat := 0) : State :=
  match src with
  | .ring r =>
    let q := s.slotOf src opc d
    let lost := s.isLost src opc d
    let s := s.release src opc d
    if lost then s.forget src opc d
    else if (st != .ok || d.flags.getLsbD 0) && s.ringAlive q then
      let p := (s.append q (complBytes d.tag opc st r.val lo hi)).countRing q
      if p.2 || d.flags.getLsbD 2 then p.1.ringEvent q else p.1
    else s
  | .port h =>
    let b := cPort h.val
    let s := s.release src opc d
    let s := s.setRg (b + 0x20) d.tag
    let s := s.setRg (b + 0x24) (ofNat (opc + st.code * 0x100 + 3 * 0x10000))
    let s := (s.setRg (b + 0x28) (ofNat lo)).setRg (b + 0x2C) (ofNat hi)
    ((s.setFlag (b + 0x30) 1).clrFlag (b + 0x30) 0).raise 249 (h.val + 2)

end Sys2Proof.Machine
end

