-- ==== Sys2Proof/Machine/Flags.lean ====
section
/-! DEFINITION. Sticky flags with their events (R63, R530). The bits themselves are set, cleared and counted by `State.setFlag`,
`State.clrFlag`, `State.putFlag` and `State.incFld` of Ops. -/

namespace Sys2Proof.Machine

open Sys2Proof

/-- R63 and R530: a sticky flag of a register is set, and its event raised when the flag was 0. -/
def State.flagEvent (s : State) (off n src arg : Nat) : State :=
  if s.flag off n then s else (s.setFlag off n).raise src (arg % 0x10000 + 2 ^ n % 0x10000 * 0x10000)

end Sys2Proof.Machine
end

