-- ==== Sys2Proof/Machine/Operands.lean ====
section
/-! DEFINITION. Operand forms of a descriptor: 64-bit operands, node positions (R10), and what the opcode alone decides
(Table 2.16, R59, R91, R94, R95). -/

namespace Sys2Proof.Machine

open Sys2Proof

/-- A 64-bit operand, low word first. -/
def op64 (lo hi : Word) : Nat := lo.toNat + 2 ^ 32 * hi.toNat

/-- R10: positions 25 to 254 are reserved. -/
def reservedPos (addr : Nat) : Bool := 25 ≤ addr % 256 && addr % 256 ≤ 254

/-- Rings that accept an opcode (Table 2.16). -/
def opcodeOnRing (opc r : Nat) : Bool :=
  match opc with
  | 0x00 => isSubmission r
  | 0x40 => 6 ≤ r && r ≤ 9
  | 0x42 => r ≤ 3 || (6 ≤ r && r ≤ 9)
  | 0x43 => r ≤ 3 || (6 ≤ r && r ≤ 9)
  | 0x60 => 18 ≤ r && r ≤ 21
  | 0xB0 => r == 29
  | _ => r ≤ 3

/-- The opcodes of Table 2.16. -/
def opcodes : List Nat :=
  [0x00, 0x01, 0x02, 0x03, 0x10, 0x11, 0x12, 0x13, 0x14, 0x15, 0x16, 0x20, 0x21, 0x22, 0x23, 0x30, 0x31, 0x32, 0x33, 0x34,
   0x35, 0x36, 0x40, 0x41, 0x42, 0x43, 0x44, 0x45, 0x50, 0x51, 0x52, 0x53, 0x54, 0x55, 0x56, 0x60, 0x61, 0x62, 0x70, 0x71,
   0x72, 0x73, 0x74, 0x80, 0x81, 0x90, 0x91, 0x92, 0x93, 0x94, 0x95, 0xA0, 0xA1, 0xB0]

/-- Opcodes that need the helm (R95). -/
def needsHelm (opc : Nat) : Bool :=
  (0x30 ≤ opc && opc ≤ 0x34) || (0x40 ≤ opc && opc ≤ 0x44) || opc == 0x60 || opc == 0x71 || opc == 0x72 || opc == 0x91 || opc == 0xB0

/-- Blocks of the access map an opcode writes (R59): 0 SAFE_P, 1 SAFE_S, 2 KEEL, 3 HELM, 4 CART. -/
def guardedBy (opc : Nat) : List Nat :=
  match opc with
  | 0x80 => [0, 1]
  | 0xA0 => [2]
  | 0x90 => [3]
  | 0x91 => [3]
  | 0x70 => [4]
  | 0x72 => [4]
  | 0x73 => [4]
  | 0x74 => [4]
  | _ => []

/-- Opcodes marked "named cycle" in Table 2.16. -/
def namedCycle (opc : Nat) : Bool := opc == 0x03 || opc == 0x21 || opc == 0x41 || opc == 0x90

end Sys2Proof.Machine
end

