-- ==== Sys2Proof/Machine/Cmd.lean ====
section
/-! DEFINITION. What every host command shares: reserved flags, the helm (R95), the KEEL
access map (R59), named cycles (R15, R91), and deferral to a boundary. -/

namespace Sys2Proof.Machine

open Sys2Proof

abbrev NET_CYC : Nat := NET_B + 0x0
abbrev NET_STAT : Nat := NET_B + 0x4
abbrev NET_FLAGS : Nat := NET_B + 0x8
abbrev pCfg (p : Nat) : Nat := NET_B + 0x100 + p * 0x40
abbrev pStat (p : Nat) : Nat := pCfg p + 0x04
abbrev TIME_CFG : Nat := TIME_B + 0xC
abbrev TIME_STAT : Nat := TIME_B + 0x10
abbrev TIME_STEER : Nat := TIME_B + 0x14
abbrev TIME_FLAGS : Nat := TIME_B + 0x24
abbrev PILOT_CFG : Nat := PILOT_B
abbrev PILOT_STAT : Nat := PILOT_B + 0x4
abbrev PILOT_FLAGS : Nat := PILOT_B + 0x8
abbrev HELM_CFG : Nat := HELM_B
abbrev HELM_STAT : Nat := HELM_B + 0x4
abbrev HELM_FLAGS : Nat := HELM_B + 0x8
abbrev HOST_CTL : Nat := HOST_B + 0x4
abbrev HOST_ERR : Nat := HOST_B + 0xC
abbrev HOST_ERR_ADDR : Nat := HOST_B + 0x10
abbrev KEEL_ACCESS : Nat := KEEL_B + 0x10
abbrev TOP_RSTCAUSE : Nat := TOP_B + 0x4
abbrev TOP_PDSTAT : Nat := TOP_B + 0x10
abbrev TOP_CLK : Nat := TOP_B + 0x18

/-- A fused two-bit identity: VARIANT (word 0) or ROLE (word 1), 0b11 when faulty (R7, R602). -/
def State.fuse2 (s : State) (w : Nat) : Nat :=
  if Tab.get 0 s.boot.kcls w = 2 then 3 else Tab.get 0 s.boot.kval w % 4

def State.variant (s : State) : Nat := s.fuse2 0
def State.role (s : State) : Nat := s.fuse2 1
/-- The unit is a CXM-256-IC. -/
def State.isIC (s : State) : Bool := s.variant == 1
def State.roleA (s : State) : Bool := s.role == 1

/-- R8 allows transmission and asserting HELM. -/
def State.identOk (s : State) : Bool := (s.variant == 1 || s.variant == 2) && (s.role == 1 || s.role == 2)

def State.mgrId (s : State) : Nat := s.fld NET_CYC 15 8
/-- R107: a valid zone identity. -/
def State.mgrOk (s : State) : Bool := 1 ≤ s.mgrId && s.mgrId ≤ 0xFE

def State.helmState (s : State) : Nat := s.fld HELM_STAT 2 0
/-- The unit holds the helm (Table 16.1). -/
def State.holder (s : State) : Bool := s.helmState == 3
/-- The unit may originate frames: helm, R8, R107. -/
def State.mayOriginate (s : State) : Bool := s.holder && s.identOk && s.mgrOk

/-- The domain of a code of Table 17.4a is powered. -/
def State.powered (s : State) (c : Nat) : Bool := s.flag TOP_PDSTAT c

/-! ### Fuses (R600) -/

def lockMagic : Nat := 0x4C4F434B

/-- Class of a fuse word by its two sides: 0 unprogrammed, 1 valid, 2 faulty (R600). -/
def fuseClass (t c : Nat) : Nat :=
  if t = 0 && c = 0 then 0 else if t + c = 2 ^ 32 - 1 && t &&& c = 0 then 1 else 2

def State.wordClass (s : State) (w : Nat) : Nat := fuseClass (Tab.get 0 s.boot.fuseT w) (Tab.get 0 s.boot.fuseC w)
def State.wordVal (s : State) (w : Nat) : Nat := if s.wordClass w = 1 then Tab.get 0 s.boot.fuseT w else 0

/-- Words of a group (Table 17.5). -/
def groupWords (g : Nat) : List Nat :=
  match g with
  | 0 => [0x00]
  | 1 => [0x01]
  | 2 => [0x02]
  | 3 => [0x03]
  | 4 => (List.range 8).map (fun k => 0x08 + k)
  | 5 => (List.range 4).map (fun k => 0x10 + k)
  | 6 => (List.range 8).map (fun k => 0x18 + k)
  | 7 => (List.range 8).map (fun k => 0x20 + k)
  | _ => []

/-- Group of a data word or of a lock word. -/
def groupOf (w : Nat) : Option Nat :=
  (List.range 8).find? (fun g => (groupWords g).contains w || w == 0x30 + g)

/-- Group state: 0 unprogrammed, 1 programmed, 2 locked, 3 faulty (R600, Table 17.9). -/
def State.groupState (s : State) (g : Nat) : Nat :=
  let lw := 0x30 + g
  let locked := s.wordClass lw == 2 || (s.wordClass lw == 1 && s.wordVal lw == lockMagic)
  if (groupWords g).any (fun w => s.wordClass w == 2) then 3
  else if locked then 2
  else if (groupWords g).all (fun w => s.wordClass w == 1) then 1 else 0

/-! ### Checks of a descriptor -/

/-- The access map denies writes to block g from column c (0 BAR0, 1 + r ring r; Table 17.8). -/
def State.mapDenies (s : State) (g c : Nat) : Bool := s.flag KEEL_ACCESS (5 * g + c)

/-- The checks every command passes before its own: the first that fails gives the status. PLAN_COMMIT, MOVE_SEG and
CAN_TX test their named cycle themselves (R196, R380, R547). -/
def State.precheck (s : State) (src : Src) (opc : Nat) (d : Desc) : Option St :=
  if !opcodeOnRing opc src.ringNo then some .badOpcode
  else if 0x10 ≤ d.flags.toNat then some .badOperand
  else if needsHelm opc && !s.mayOriginate then some .notHelm
  else if (guardedBy opc).any (fun g => s.mapDenies g (1 + src.ringNo)) then some .accessDenied
  else if opc == 0x21 || opc == 0x40 || opc == 0x60 then none
  else if namedCycle opc && !d.atCycle then some .badOperand
  else if d.atCycle && !isFuture d.op5 s.cycle then some .cyclePast
  else none

/-- A command that passes the shared checks runs its body; one that fails completes with the status. -/
def State.cmd (s : State) (src : Src) (opc : Nat) (d : Desc) (body : State → State) : State :=
  match s.precheck src opc d with
  | some st => s.complete src opc d st
  | none => body s

/-- The cycle at whose boundary a command takes effect (R91). -/
def State.effCycle (s : State) (d : Desc) : BitVec 32 := if d.atCycle then d.op5 else s.cycle + 1

/-- A command waits for a boundary. -/
def State.defer (s : State) (x : Due) : State := { s with host := { s.host with due := s.host.due ++ [x] } }

/-- A command with a per-cycle effect waits for its boundary. -/
def State.atBoundary (s : State) (src : Src) (opc : Nat) (d : Desc) (data : List Byte := []) (aux : Nat := 0) : State :=
  s.defer { cyc := s.effCycle d, src := src, opc := opc, desc := d, data := data, aux := aux }

/-- A command without a per-cycle effect runs at once, or at its named boundary, where this runs its body (R91). -/
def State.soon (s : State) (src : Src) (opc : Nat) (d : Desc) (data : List Byte) (body : State → State) : State :=
  if d.atCycle && isFuture d.op5 s.cycle then s.atBoundary src opc d data else body s

/-- A command with data from host memory: a failed read ends it at once, else it runs now or at its named boundary (R91). -/
def State.soonData (s : State) (src : Src) (opc : Nat) (d : Desc) (data : Option (List Byte)) (body : State → State) : State :=
  match data with
  | none => body s
  | some l => s.soon src opc d l body

/-- R587: a reset of a source of Table 17.1 is recorded: cause, history, count, event 251. -/
def State.recordReset (s : State) (code : Nat) : State :=
  let s := (s.setFld TOP_RSTCAUSE 3 0 code).setFlag TOP_RSTCAUSE (7 + code)
  (s.incFld TOP_RSTCAUSE 31 24 1).raise 251 code

end Sys2Proof.Machine
end

