-- ==== Sys2Proof/Machine/Axis.lean ====
section
/-! DEFINITION. Axes and their slots: lane memory (R207, R208, R209), per-axis parameters (R288 to R290, Tables 7.13,
8.5, 9.8, 10.5), health, mode word and flags (R228, R267, R301), slots across a migration (R211 to R214). -/

namespace Sys2Proof.Machine

open Sys2Proof

/-! ### Cycle length -/

/-- T_cycle in ns by rate code (Table 3.8). -/
def tCycle (rate : Nat) : Nat := 15625 * 2 ^ rate
def State.rate (s : State) : Nat := s.fld NET_STAT 2 0
def State.tCyc (s : State) : Nat := tCycle s.rate

/-- Entry of an axis in the plan in force. -/
def State.actAxis (s : State) (a : Nat) : Option PlanAxis := s.pilot.act.axes.find? (fun p => p.axis == a)

def State.axis (s : State) (a : Nat) : AxisSt := Tab.get {} s.axes a

/-- Entry by which the axis's next pass runs: that of the old plan while its last pass under it has not ended (R36). -/
def State.planAxis (s : State) (a : Nat) : Option PlanAxis :=
  match (s.axis a).stay with
  | some p => some p
  | none => s.actAxis a

/-- Rate divisor k_r of a placed axis. -/
def State.kr (s : State) (a : Nat) : Nat := ((s.planAxis a).map (fun p => p.div)).getD 1

/-! ### Lane memory -/

/-- What an unwritten X word reads as: standard constants below 0x100 (values not given), else 0. -/
def xDef (k : Nat) : Word := if k < 0x100 then Config.romData k else 0

/-- What an unwritten Y word reads as: the sine table (Table 6.3), standard constants, else 0. -/
def yDef (k : Nat) : Word :=
  if k < 0x200 then ofInt (sinQ31 k 512) else if k < 0x300 then Config.romData (0x4000 + k) else 0

def State.lane (s : State) (l : Nat) : LaneSt := Tab.get {} s.lanes l
def State.setLane (s : State) (l : Nat) (x : LaneSt) : State := { s with lanes := Tab.set {} s.lanes l x }
def LaneSt.rdX (n : LaneSt) (k : Nat) : Word := Tab.get (xDef (k % 0x4000)) n.x (k % 0x4000)
def LaneSt.rdY (n : LaneSt) (k : Nat) : Word := Tab.get (yDef (k % 0x4000)) n.y (k % 0x4000)
def LaneSt.wrX (n : LaneSt) (k : Nat) (w : Word) : LaneSt :=
  { n with x := Tab.set (xDef (k % 0x4000)) n.x (k % 0x4000) w }
def LaneSt.wrY (n : LaneSt) (k : Nat) (w : Word) : LaneSt :=
  { n with y := Tab.set (yDef (k % 0x4000)) n.y (k % 0x4000) w }

/-- R208: base of slot k of bank b. -/
def slotBase (b k : Nat) : Nat := 0x400 + b * 0x1E00 + k * 0x80

/-- Lane and slot base of an axis. -/
def State.place (s : State) (a : Nat) : Option (Nat × Nat) :=
  match (s.axis a).stay with
  | some p => some (p.lane, slotBase (1 - s.mem.bank) p.pos)
  | none => (s.actAxis a).map (fun p => (p.lane, slotBase s.mem.bank p.pos))

def State.setAxis (s : State) (a : Nat) (x : AxisSt) : State := { s with axes := Tab.set {} s.axes a x }
def State.ctl (s : State) (a : Nat) : Ctl := (s.axis a).ctl
def State.setCtl (s : State) (a : Nat) (c : Ctl) : State := s.setAxis a { s.axis a with ctl := c }
def State.fb (s : State) (a : Nat) : FbSt := (s.axis a).fb
def State.setFb (s : State) (a : Nat) (c : FbSt) : State := s.setAxis a { s.axis a with fb := c }
def State.prof (s : State) (a : Nat) : ProfSt := (s.axis a).prof
/-- POS of the axis's last ended pass, Q40.24, and its v (R292). -/
def State.endedPos (s : State) (a : Nat) : Int :=
  wrapS 64 (((s.axis a).meas.getD 0 0).toNat + 2 ^ 32 * ((s.axis a).meas.getD 1 0).toNat)
def State.endedV (s : State) (a : Nat) : Int := sgn ((s.axis a).meas.getD 2 0)
def State.setProf (s : State) (a : Nat) (c : ProfSt) : State := s.setAxis a { s.axis a with prof := c }

/-! ### Parameters -/

/-- Where a parameter is held: an X or Y slot word, or a block of its own (FB, PROF, PILOT, the supervisor). -/
inductive Loc where
  | x (o : Nat)
  | y (o : Nat)
  | held
  deriving DecidableEq, Repr

/-- A parameter: ID, place, range (signed), default, access code and commit class. -/
structure ParRow where
  id : Nat
  loc : Loc
  lo : Int
  hi : Int
  dflt : Nat := 0
  acc : Acc := .rw
  cls : Cls := .cyc
  deriving DecidableEq, Repr

/-- Control-law parameters (Table 7.13). -/
def parsControl : List ParRow := [
  { id := 0x000, loc := .x 0x38, lo := 0, hi := 2130706432 },
  { id := 0x001, loc := .x 0x39, lo := 0, hi := 16777216 },
  { id := 0x002, loc := .x 0x3A, lo := 0, hi := 2130706432 },
  { id := 0x003, loc := .x 0x3B, lo := 0, hi := 16777216 },
  { id := 0x004, loc := .x 0x3C, lo := 0, hi := 2146435072 },
  { id := 0x005, loc := .x 0x3D, lo := 0, hi := 2146435072 },
  { id := 0x006, loc := .x 0x3E, lo := 0, hi := 2146435072 },
  { id := 0x007, loc := .x 0x3F, lo := (-2147483648), hi := 0 },
  { id := 0x008, loc := .x 0x40, lo := 0, hi := 2130706432, acc := .rwh },
  { id := 0x009, loc := .x 0x41, lo := 0, hi := 16777216, acc := .rwh },
  { id := 0x00A, loc := .x 0x42, lo := 0, hi := 2147483647 },
  { id := 0x00B, loc := .x 0x43, lo := 0, hi := 2147418112 },
  { id := 0x00C, loc := .x 0x44, lo := 0, hi := 16777216 },
  { id := 0x00D, loc := .x 0x45, lo := 0, hi := 16777216 },
  { id := 0x00E, loc := .x 0x46, lo := 0, hi := 2130706432 },
  { id := 0x00F, loc := .x 0x47, lo := 0, hi := 2147483647, dflt := 0x40000000 },
  { id := 0x010, loc := .x 0x48, lo := (-2147483648), hi := 2147483647 },
  { id := 0x011, loc := .x 0x49, lo := (-2147483648), hi := 2147483647 },
  { id := 0x012, loc := .x 0x4A, lo := (-2147483648), hi := 2147483647, dflt := 0x40000000 },
  { id := 0x013, loc := .x 0x4B, lo := (-2147483648), hi := 2147483647 },
  { id := 0x014, loc := .x 0x4C, lo := (-2147483648), hi := 2147483647 },
  { id := 0x015, loc := .x 0x4D, lo := (-2147483648), hi := 2147483647 },
  { id := 0x016, loc := .x 0x4E, lo := (-2147483648), hi := 2147483647 },
  { id := 0x017, loc := .x 0x4F, lo := (-2147483648), hi := 2147483647, dflt := 0x40000000 },
  { id := 0x018, loc := .x 0x50, lo := (-2147483648), hi := 2147483647 },
  { id := 0x019, loc := .x 0x51, lo := (-2147483648), hi := 2147483647 },
  { id := 0x01A, loc := .x 0x52, lo := 1239850262, hi := 1367130551, dflt := 0x49E69D16 },
  { id := 0x01B, loc := .x 0x53, lo := 65536, hi := 65536000, dflt := 0x300000 },
  { id := 0x01C, loc := .x 0x54, lo := 6554, hi := 32768000, dflt := 0xA0000 },
  { id := 0x01D, loc := .x 0x55, lo := 107374183, hi := 2147483647, dflt := 0xCCCCCCD },
  { id := 0x01E, loc := .x 0x56, lo := 0, hi := 2130706432, acc := .ro, cls := .plan },
  { id := 0x01F, loc := .x 0x57, lo := (-2147483648), hi := 2147483647 },
  { id := 0x020, loc := .x 0x58, lo := 0, hi := 2130706432, acc := .rwh },
  { id := 0x021, loc := .x 0x59, lo := 0, hi := 2147483647, acc := .rwh },
  { id := 0x022, loc := .x 0x5A, lo := 0, hi := 2130706432, acc := .rwh },
  { id := 0x023, loc := .x 0x5B, lo := 0, hi := 7, dflt := 0x3 },
  { id := 0x024, loc := .x 0x5C, lo := 0, hi := 2147418112 },
  { id := 0x025, loc := .x 0x5D, lo := 0, hi := 7 },
  { id := 0x026, loc := .held, lo := 0, hi := 5, cls := .plan },
  { id := 0x027, loc := .x 0x5E, lo := 2, hi := 2147483647, dflt := 0x1000 },
  { id := 0x028, loc := .x 0x5F, lo := 0, hi := 1073741824, dflt := 0x28F5C29 },
  { id := 0x029, loc := .x 0x60, lo := 1932735284, hi := 2147483647, dflt := 0x7FDF3B64 },
  { id := 0x02A, loc := .x 0x61, lo := 0, hi := 536870912, dflt := 0xCCCCCCD },
  { id := 0x02B, loc := .x 0x62, lo := (-128), hi := 127 },
  { id := 0x02C, loc := .x 0x63, lo := 0, hi := 2147418112, dflt := 0x8000 },
  { id := 0x02D, loc := .x 0x64, lo := 0, hi := 2147483647, dflt := 0xCCCCCCD },
  { id := 0x030, loc := .held, lo := 0, hi := 7, dflt := 0x1 },
  { id := 0x031, loc := .held, lo := 1, hi := 2000, dflt := 0x32 },
  { id := 0x032, loc := .held, lo := 1, hi := 2000, dflt := 0xA },
  { id := 0x033, loc := .held, lo := 1, hi := 2000, dflt := 0xC8 },
  { id := 0x034, loc := .held, lo := 0, hi := 2130706432 },
  { id := 0x035, loc := .held, lo := 0, hi := 2130706432, dflt := 0x8000000 },
  { id := 0x036, loc := .held, lo := 0, hi := 2130706432, dflt := 0x28F5C },
  { id := 0x037, loc := .held, lo := 0, hi := 2130706432, dflt := 0x7F000000 },
  { id := 0x038, loc := .held, lo := 2, hi := 32, dflt := 0x4 },
  { id := 0x039, loc := .held, lo := 4, hi := 12, dflt := 0x8 },
  { id := 0x03A, loc := .held, lo := 2126008812, hi := 2147483647, dflt := 0x7FDF3B64 },
  { id := 0x03B, loc := .held, lo := 0, hi := 2130706432, dflt := 0x4189 },
  { id := 0x040, loc := .held, lo := 0, hi := 15, cls := .plan }]

/-- Feedback parameters (Table 8.5). -/
def parsFeedback : List ParRow := [
  { id := 0x100, loc := .held, lo := 0, hi := 63, cls := .plan },
  { id := 0x101, loc := .x 0x65, lo := 4, hi := 2147483647, dflt := 0x1000 },
  { id := 0x102, loc := .x 0x66, lo := 1, hi := 64, dflt := 0x1 },
  { id := 0x103, loc := .x 0x67, lo := 0, hi := 4294967295 },
  { id := 0x104, loc := .x 0x68, lo := 8388608, hi := 2147483647, dflt := 0x7FFFFFFF },
  { id := 0x105, loc := .held, lo := 0, hi := 15, dflt := 0x2 },
  { id := 0x106, loc := .held, lo := 0, hi := 255 },
  { id := 0x107, loc := .held, lo := 0, hi := 7, dflt := 0x3 },
  { id := 0x108, loc := .held, lo := 0, hi := 4294967295, acc := .rwh },
  { id := 0x109, loc := .held, lo := 0, hi := 255, dflt := 0x4 },
  { id := 0x10A, loc := .held, lo := 0, hi := 262143, dflt := 0x1D850 },
  { id := 0x10B, loc := .held, lo := 1, hi := 65535, dflt := 0x2710 },
  { id := 0x10C, loc := .held, lo := 2, hi := 16, dflt := 0xA, cls := .plan },
  { id := 0x10D, loc := .held, lo := 1024, hi := 32767, dflt := 0x4000 },
  { id := 0x10E, loc := .held, lo := 0, hi := 4294967295, dflt := 0x5C2928F6 },
  { id := 0x10F, loc := .held, lo := 0, hi := 67108863, dflt := 0x19, cls := .plan },
  { id := 0x110, loc := .held, lo := 0, hi := 4294967295 },
  { id := 0x111, loc := .x 0x69, lo := 0, hi := 2147483647, dflt := 0x6666666 },
  { id := 0x112, loc := .x 0x6A, lo := 0, hi := 2147418112, dflt := 0x4000 },
  { id := 0x113, loc := .x 0x6B, lo := 1, hi := 255, dflt := 0x8 },
  { id := 0x114, loc := .x 0x6C, lo := 0, hi := 4294967295, dflt := 0x15555555 },
  { id := 0x115, loc := .held, lo := 1, hi := 255, dflt := 0x4 },
  { id := 0x116, loc := .held, lo := 1, hi := 255, dflt := 0x10 },
  { id := 0x117, loc := .held, lo := 0, hi := 127 }]

/-- Commutation, stepper and fallback parameters (Table 9.8). -/
def parsComm : List ParRow := [
  { id := 0x200, loc := .y 0x0, lo := 0, hi := 63, dflt := 0x36, cls := .plan },
  { id := 0x201, loc := .y 0x1, lo := 0, hi := 2130706432 },
  { id := 0x202, loc := .y 0x2, lo := 0, hi := 2130706432 },
  { id := 0x203, loc := .y 0x3, lo := 8388608, hi := 2147483647, dflt := 0x20000000 },
  { id := 0x204, loc := .y 0x4, lo := 0, hi := 16777216, dflt := 0xCCCCD },
  { id := 0x205, loc := .y 0x5, lo := 0, hi := 16777216, dflt := 0x4189 },
  { id := 0x206, loc := .y 0x6, lo := 0, hi := 536870912, dflt := 0x418937 },
  { id := 0x207, loc := .y 0x7, lo := 107374183, hi := 2147483647, dflt := 0x40000000 },
  { id := 0x208, loc := .y 0x8, lo := 107374183, hi := 2147483647, dflt := 0x40000000 },
  { id := 0x209, loc := .y 0x9, lo := 1, hi := 1000, dflt := 0x32 },
  { id := 0x20A, loc := .y 0xA, lo := 1, hi := 65535, dflt := 0x100 },
  { id := 0x20B, loc := .y 0xB, lo := 4, hi := 255, dflt := 0x10 },
  { id := 0x20C, loc := .y 0xC, lo := 0, hi := 536870912, dflt := 0x10624E },
  { id := 0x20D, loc := .y 0xD, lo := 1, hi := 65535, dflt := 0x7D0 },
  { id := 0x20E, loc := .y 0xE, lo := 107374183, hi := 2147483647, dflt := 0x26666666 },
  { id := 0x20F, loc := .y 0xF, lo := 0, hi := 4294967295, dflt := 0x9C4007D },
  { id := 0x210, loc := .y 0x10, lo := 1, hi := 16, dflt := 0x4 },
  { id := 0x211, loc := .y 0x11, lo := 0, hi := 2147483647, dflt := 0x6666666 },
  { id := 0x212, loc := .y 0x12, lo := 0, hi := 2147483647, dflt := 0x1999999A },
  { id := 0x213, loc := .y 0x13, lo := 0, hi := 2147483647, dflt := 0x26666666 },
  { id := 0x214, loc := .y 0x14, lo := 0, hi := 255, dflt := 0x20 },
  { id := 0x215, loc := .y 0x15, lo := 0, hi := 65535 },
  { id := 0x216, loc := .y 0x16, lo := 0, hi := 1 },
  { id := 0x217, loc := .y 0x17, lo := 0, hi := 3, dflt := 0x2 },
  { id := 0x218, loc := .y 0x18, lo := 1, hi := 256, dflt := 0x10, cls := .plan },
  { id := 0x219, loc := .y 0x19, lo := 0, hi := 2147483647, dflt := 0x40000000 },
  { id := 0x21A, loc := .y 0x1A, lo := 0, hi := 2147483647, dflt := 0x20000000 },
  { id := 0x21B, loc := .y 0x1B, lo := 0, hi := 2147483647, dflt := 0x40000000 },
  { id := 0x21C, loc := .y 0x1C, lo := 67108864, hi := 1073741824, dflt := 0x30000000 },
  { id := 0x21D, loc := .y 0x1D, lo := 1, hi := 255, dflt := 0x8 },
  { id := 0x220, loc := .x 0x2D, lo := 0, hi := 4294967295, acc := .ro, cls := .imm },
  { id := 0x221, loc := .x 0x2E, lo := 0, hi := 4294967295, acc := .w1c, cls := .imm }]

/-- Profile, limit and homing parameters (Table 10.5). -/
def parsProf : List ParRow := [
  { id := 0x300, loc := .held, lo := 1, hi := 2130706432, dflt := 0x4189 },
  { id := 0x301, loc := .held, lo := 1, hi := 2130706432, dflt := 0x4189 },
  { id := 0x302, loc := .held, lo := 0, hi := 2147483647 },
  { id := 0x303, loc := .held, lo := 1, hi := 2130706432, dflt := 0x28F5C },
  { id := 0x304, loc := .held, lo := 0, hi := 2147483647 },
  { id := 0x305, loc := .held, lo := 1, hi := 2147418112, dflt := 0x40000 },
  { id := 0x306, loc := .held, lo := 0, hi := 131071 },
  { id := 0x307, loc := .held, lo := 0, hi := 65535, dflt := 0x3E8 },
  { id := 0x308, loc := .held, lo := 0, hi := 1 },
  { id := 0x309, loc := .held, lo := 0, hi := 4294967295 },
  { id := 0x30A, loc := .held, lo := 0, hi := 2147483647, dflt := 0x1999999A },
  { id := 0x30B, loc := .held, lo := 0, hi := 2147418112, dflt := 0xCCD },
  { id := 0x30C, loc := .held, lo := 1, hi := 255, dflt := 0x20 },
  { id := 0x30D, loc := .held, lo := 0, hi := 2147483647, dflt := 0x400 }]

/-- The parameter with an ID. -/
def parRow (id : Nat) : Option ParRow :=
  (if id < 0x100 then parsControl else if id < 0x200 then parsFeedback else if id < 0x300 then parsComm else parsProf).find?
    (fun r => r.id == id)

def ParRow.defWord (r : ParRow) : Word := ofNat r.dflt

/-- Default of a slot word while the axis has no pass: the default of the parameter that lies there, ELEC of
CPR 4,096 and POLES 1, CART's words of an axis without a tag (Table 11.6), else 0. Y words have keys from 0x80. -/
def parkDef (k : Nat) : Word :=
  if k = 0x75 then 0x1000
  else if k = 0x6E then 0x6464
  else if k = 0x6F then 0x7FFFFFFF
  else if k = 0x73 then 0xC80000
  else
    let t := if k < 0x65 then parsControl else if k < 0x80 then parsFeedback else parsComm
    match t.find? (fun r => r.loc == (if k < 0x80 then Loc.x k else Loc.y (k - 0x80))) with
    | some r => r.defWord
    | none => 0

/-- X word at an offset of the axis's slot; PILOT's copy while the axis has no pass (R289). -/
def State.xw (s : State) (a o : Nat) : Word :=
  match s.place a with
  | some p => (s.lane p.1).rdX (p.2 + o)
  | none => Tab.get (parkDef o) (s.axis a).park o
def State.yw (s : State) (a o : Nat) : Word :=
  match s.place a with
  | some p => (s.lane p.1).rdY (p.2 + o)
  | none => Tab.get (parkDef (o + 0x80)) (s.axis a).park (o + 0x80)
def State.setXw (s : State) (a o : Nat) (w : Word) : State :=
  match s.place a with
  | some p => s.setLane p.1 ((s.lane p.1).wrX (p.2 + o) w)
  | none => s.setAxis a { s.axis a with park := Tab.set (parkDef o) (s.axis a).park o w }
def State.setYw (s : State) (a o : Nat) (w : Word) : State :=
  match s.place a with
  | some p => s.setLane p.1 ((s.lane p.1).wrY (p.2 + o) w)
  | none => s.setAxis a { s.axis a with park := Tab.set (parkDef (o + 0x80)) (s.axis a).park (o + 0x80) w }

/-- X and Y words as signed numbers, and set from signed numbers. -/
def State.xi (s : State) (a o : Nat) : Int := sgn (s.xw a o)
def State.setXi (s : State) (a o : Nat) (v : Int) : State := s.setXw a o (ofInt v)
def State.yi (s : State) (a o : Nat) : Int := sgn (s.yw a o)
def State.setYi (s : State) (a o : Nat) (v : Int) : State := s.setYw a o (ofInt v)

/-- Active value of a parameter. -/
def State.par (s : State) (a id : Nat) : Word :=
  match parRow id with
  | none => 0
  | some r => match r.loc with
    | .x o => s.xw a o
    | .y o => s.yw a o
    | .held => Tab.get r.defWord (s.axis a).par id
def State.pn (s : State) (a id : Nat) : Nat := (s.par a id).toNat
def State.pz (s : State) (a id : Nat) : Int := sgn (s.par a id)

/-! Life memory (R421). -/

/-- A life counter of an axis, saturating at 2^64 − 1. -/
def State.addLife (s : State) (a k x : Nat) : State :=
  { s with mem := { s.mem with life := Tab.upd 0 s.mem.life (a * 8 + k) (fun v => min (2 ^ 64 - 1) (v + x)) } }

/-- CART folds counter 0 into revolutions with the old CPR before a CPR write takes effect (R420): the revolutions
stay as they are under the new CPR. -/
def State.foldRevs (s : State) (a old new : Nat) : State :=
  { s with mem := { s.mem with life := Tab.upd 0 s.mem.life (a * 8) (fun v => min (2 ^ 64 - 1) (v * new / max old 1)) } }

/-- LVSTART, the speed of 0.01 rev/s: 0.01 × CPR × T_cycle (ns) ÷ 1 s, Q16.16. -/
def lvStart (cpr tcyc : Nat) : Int := sat 32 (divRnd (cpr * tcyc * 65536) 100000000000)

/-- ELEC = POLES × 2^32 ÷ CPR, unsigned Q40.24 (R298). -/
def elecOf (poles cpr : Nat) : Int := divRnd (poles * 2 ^ 56) (max cpr 1)
def State.elec (s : State) (a : Nat) : Int := (s.xw a 0x74).toNat + 2 ^ 32 * (s.xw a 0x75).toNat

/-- The words of a parameter that takes a value; ELEC follows POLES and CPR (R298), LVSTART follows CPR. -/
def State.putPar (s : State) (a id : Nat) (w : Word) : State :=
  match parRow id with
  | none => s
  | some r =>
    let s := match r.loc with
      | .x o => s.setXw a o w
      | .y o => s.setYw a o w
      | .held => s.setAxis a { s.axis a with par := Tab.set r.defWord (s.axis a).par id w }
    let s := if id = 0x101 then s.setXi a 0x70 (lvStart w.toNat s.tCyc) else s
    if id = 0x101 || id = 0x102 then
      let e := elecOf (s.pn a 0x102) (s.pn a 0x101)
      (s.setXi a 0x74 (e % 2 ^ 32)).setXi a 0x75 (e / 2 ^ 32)
    else s

/-- A parameter takes a value. -/
def State.setPar (s : State) (a id : Nat) (w : Word) : State :=
  (if id = 0x101 then s.foldRevs a (s.pn a 0x101) w.toNat else s).putPar a id w

/-! ### Staged values (R64, R69) -/

/-- A register value with staged writes applied in order. -/
def applyStaged (l : List Staged) (off : Nat) (w : Word) : Word :=
  l.foldl (fun w x => if x.off = off then (w &&& ~~~x.mask) ||| (x.val &&& x.mask) else w) w

/-- The value of a register as the plan in preparation uses it. -/
def State.planReg (s : State) (off : Nat) : Word := applyStaged s.host.planUsed off (s.rg off)

def State.planFld (s : State) (off hi lo : Nat) : Nat := bits (s.planReg off) hi lo

/-- Address under which a staged write of a per-axis parameter is held. -/
def parOff (a id : Nat) : Nat := 0x10000000 + a * 0x1000 + id

/-- A staged write takes effect: a per-axis parameter, or the fields of a register. -/
def State.applyWrite (s : State) (x : Staged) : State :=
  if 0x10000000 ≤ x.off then s.setPar ((x.off - 0x10000000) / 0x1000) (x.off % 0x1000) x.val
  else s.setRg x.off (((s.rg x.off) &&& ~~~x.mask) ||| (x.val &&& x.mask))

/-- A parameter as the plan in preparation uses it. -/
def State.planPar (s : State) (a id : Nat) : Word := applyStaged s.host.planUsed (parOff a id) (s.par a id)

/-! ### The pilot's flags -/

/-- A PILOT_FLAGS bit is set; event 39 (Table 14.7). -/
def State.pilotFlag (s : State) (n : Nat) : State := (s.setFlag PILOT_FLAGS n).raise 39 (2 ^ n * 0x10000)

/-- A PLAN write is staged for the next PLAN_PREPARE (R69). -/
def State.stagePlan (s : State) (x : Staged) : State :=
  { s with host := { s.host with plan := s.host.plan ++ [{ x with seq := s.host.planSeq }], planSeq := s.host.planSeq + 1 } }

/-- R182: hardware clears a bit of the pending value of PILOT_LANE_EN. A software write of the same instant stands (R72). -/
def State.dropLane (s : State) (n : Nat) : State :=
  let t := if s.pilot.enSoft = some s.ntime then s.setFlag PILOT_FLAGS 0
    else s.stagePlan { off := PILOT_B + 0xC, mask := ofNat (2 ^ n), val := 0, defer := 0 }
  { t with pilot := { t.pilot with enHard := some s.ntime } }.pilotFlag 2

/-- A software write has reached the register at an offset: PILOT_LANE_EN keeps its instant, and OVR says that hardware has cleared
a bit there in the same one (R72, R182). -/
def State.enWritten (s : State) (off : Nat) : State :=
  if off = PILOT_B + 0xC then
    let t := if s.pilot.enHard = some s.ntime then s.setFlag PILOT_FLAGS 0 else s
    { t with pilot := { t.pilot with enSoft := some s.ntime } }
  else s

/-! ### Mode word, flags, health -/

abbrev axReg (a o : Nat) : Nat := AXIS_B + a * 0x100 + o
abbrev laneReg (l o : Nat) : Nat := LANEN_B + l * 0x1000 + o
abbrev fbReg (a o : Nat) : Nat := FB_B + 0x1000 + a * 0x10 + o
abbrev prReg (a o : Nat) : Nat := PROF_B + 0x1000 + a * 0x10 + o
abbrev lxReg (n o : Nat) : Nat := LOCAL_B + 0x400 + n * 0x20 + o

def State.mode (s : State) (a : Nat) : Nat := bits (s.xw a 0x30) 2 0

/-- MODEW after a mode change with blend length B (R267): FIRST, PREV, BLEN, BCNT; INJ is 0 (R278). -/
def modeWord (old m b : Nat) : Word := ofNat (m + 8 + old * 16 + b % 256 * 256)

/-- An AXFLAGS bit is set (Table 6.8). -/
def State.axFlag (s : State) (a n : Nat) : State := s.setXw a 0x36 (putBit (s.xw a 0x36) n true)

/-- MFLAG bit FOLLOW raises event 82 when it goes from 0 to 1; the other MFLAG bits raise none. -/
def State.mflag (s : State) (a n : Nat) : State :=
  let old := bit (s.xw a 0x36) (8 + n)
  let s := s.axFlag a (8 + n)
  if n = 3 && !old then s.raise 82 (a + 2 ^ 3 * 0x10000) else s

/-- An AX_XFLAGS bit is set; ADAPT_RANGE and ADAPT_LIMIT raise event 83, MODE_DROPPED event 88 (Table 14.7). -/
def State.xflag (s : State) (a n : Nat) : State :=
  if n = 2 || n = 3 then s.flagEvent (axReg a 8) n 83 a
  else if n = 1 then (s.setFlag (axReg a 8) 1).raise 88 a
  else s.setFlag (axReg a 8) n

/-- A COMM_FLAGS bit is set (Table 9.2), event 84. -/
def State.commFlag (s : State) (a n : Nat) : State :=
  let w := s.xw a 0x2E
  if bit w n then s else (s.setXw a 0x2E (putBit w n true)).raise 84 (a + 2 ^ n * 0x10000)

/-- A LANE_FLAGS bit is set, event 64 + lane with the slot. -/
def State.laneFlag (s : State) (l n : Nat) : State := s.flagEvent (laneReg l 4) n (64 + l) (s.fld (laneReg l 0) 13 8)

/-- Axis health changes (Table 0.8), events 80 and 81. -/
def State.setHealth (s : State) (a h : Nat) : State :=
  if (s.axis a).health = h then s
  else
    let s := s.setAxis a { s.axis a with health := h, faulted := (s.axis a).faulted || h == 2 }
    if h = 2 then s.raise 80 a else if h = 1 then s.raise 81 a else s

/-- Health becomes at least as bad as a cause makes it. -/
def State.worsen (s : State) (a h : Nat) : State := if (s.axis a).health < h then s.setHealth a h else s

/-! ### Writes between passes (R215, R35) -/

/-- The axis's pass of the previous cycle, of a length in ns, is a wake pass that has not ended, or is running. -/
def State.wakeDue (s : State) (tcyc a : Nat) : Bool :=
  match s.actAxis a with
  | some p =>
    let n := s.lane p.lane
    let prev := s.cycle - 1
    (n.busy && n.axis == a && n.pcyc == prev) ||
      (decide (tcyc * 1000 < p.stop) && prev.toNat % p.div == p.phase && (s.axis a).lastPass != prev)
  | none => false

/-- The pass of the previous cycle has not ended; in the cycle in which a plan takes over only old passes are still due (R36). -/
def State.outstanding (s : State) (a : Nat) : Bool :=
  (s.axis a).stay.isSome || (s.cycle != s.pilot.since && s.wakeDue s.tCyc a)

/-- Cycle to which a record belongs that arrives now: the cycle before while its pass of that cycle still waits for a record
(R28). -/
def State.recCycle (s : State) (a : Nat) : BitVec 32 :=
  let prev := s.cycle - 1
  if s.outstanding a && (s.axis a).startedFor != some prev && (s.fb a).arrivedAt != some prev then prev else s.cycle

/-! The bank not in force (R211, R216): while a plan is prepared or announced it holds the slots of that plan. -/

def State.planState (s : State) : Nat := s.fld PILOT_STAT 18 16

/-- Entry of an axis in the plan whose slots the other bank holds. -/
def State.newEntry (s : State) (a : Nat) : Option PlanAxis := s.pilot.loaded.bind (fun p => p.axes.find? (fun q => q.axis == a))

/-- The same operation on the axis's slot of another plan entry: of the plan in force (none), or of the bank not in force. -/
def State.inSlot (s : State) (a : Nat) (q : Option PlanAxis) (f : State → State) : State :=
  let keep := (s.axis a).stay
  let t := f (s.setAxis a { s.axis a with stay := q })
  t.setAxis a { t.axis a with stay := keep }

/-- At the boundary of a COMMIT a write goes only to the new bank: to an axis that has still to leave its old slot, and to one that
the announced plan places (R216). -/
def State.goesNew (s : State) (a : Nat) : Bool :=
  if s.pilot.switched then (s.axis a).stay.isSome && (s.actAxis a).isSome
  else s.planState == 4 && s.cycle == s.pilot.commitAt && (s.newEntry a).isSome

/-- Entry whose slot such a write goes to: the plan in force once it has switched. -/
def State.newHome (s : State) (a : Nat) : Option PlanAxis := if s.pilot.switched then none else s.newEntry a

/-- One write of R215: key a parameter ID, an X offset + 2^16, a Y offset + 2^17, or 2^18 for MODEW.INJ alone. -/
def State.slotWrite (s : State) (a k : Nat) (w : Word) : State :=
  if k < 2 ^ 16 then s.setPar a k w
  else if k < 2 ^ 17 then s.setXw a (k - 2 ^ 16) w
  else if k < 2 ^ 18 then s.setYw a (k - 2 ^ 17) w
  else s.setXw a 0x30 (putBit (s.xw a 0x30) 7 (w != 0))

/-- The same words in the prepared bank too (R216). -/
def State.copyWrite (s : State) (a k : Nat) (w : Word) : State :=
  match s.newEntry a with
  | some q => s.inSlot a (some q) (fun s => if k < 2 ^ 16 then s.putPar a k w else s.slotWrite a k w)
  | none => s

/-- A write that takes effect at the present boundary (R215, R216): in the new bank alone at the boundary of a COMMIT, else at once or
when the wake pass has ended. -/
def State.axWrite (s : State) (a k : Nat) (w : Word) : State :=
  if s.goesNew a then s.inSlot a (s.newHome a) (fun s => s.slotWrite a k w)
  else if s.outstanding a then s.setAxis a { s.axis a with wq := (s.axis a).wq ++ [(k, w)] }
  else (s.slotWrite a k w).copyWrite a k w

/-- The axis with the writes that have taken effect at a boundary in its slot already (R35, R291). -/
def State.upToDate (s : State) (a : Nat) : State :=
  if s.goesNew a then s.setAxis a { s.axis a with stay := s.newHome a }
  else (s.axis a).wq.foldl (fun s e => s.slotWrite a e.1 e.2) s

/-- The mode in force, a change that the slot has still to take included. -/
def State.modeNow (s : State) (a : Nat) : Nat := bits ((s.upToDate a).xw a 0x30) 2 0

/-- Active value of a parameter, a write that the slot has still to take included (R291). -/
def State.parNow (s : State) (a id : Nat) : Word := (s.upToDate a).par a id

/-- SETP of the cycle (R373), as a write of R215, in cycles in which the axis's pass runs. -/
def State.writeSetp (s : State) (a : Nat) : State :=
  match s.actAxis a with
  | some q =>
    if s.cycle.toNat % q.div = q.phase then
      let p := s.prof a
      let pr := sat 64 (shrRnd p.pr 24)
      let s := s.axWrite a (2 ^ 16 + 8) (ofInt pr)
      let s := s.axWrite a (2 ^ 16 + 9) (ofInt (pr / 2 ^ 32))
      let s := s.axWrite a (2 ^ 16 + 10) (ofInt (sat 32 (shrRnd p.vr 32)))
      s.axWrite a (2 ^ 16 + 11) (ofInt (sat 32 (shrRnd p.ar 24)))
    else s
  | none => s

/-- The held writes of an axis are applied when its pass has ended. -/
def State.flushWrites (s : State) (a : Nat) : State :=
  let l := (s.axis a).wq
  l.foldl (fun s e => (s.slotWrite a e.1 e.2).copyWrite a e.1 e.2) (s.setAxis a { s.axis a with wq := [] })

/-- MODEW after a pass: FIRST 0, BCNT one higher (Table 7.8). -/
def passMode (w : Word) : Word := putBits (putBit w 3 false) 23 16 (min 255 (bits w 23 16 + 1))

/-- What a pass has written to MODEW and AXFLAGS comes into the slot of another plan entry: AXFLAGS is sticky, and MODEW follows
unless a mode change has gone to that slot alone (DESIGN CHOICE, assumption log 80). -/
def State.bringFlags (s : State) (a : Nat) (q : Option PlanAxis) (m f : Word) : State :=
  s.inSlot a q (fun s =>
    let s := s.setXw a 0x36 (s.xw a 0x36 ||| f)
    if putBit (passMode (s.xw a 0x30)) 7 false = putBit m 7 false then s.setXw a 0x30 (putBit m 7 (s.axis a).inj.isSome) else s)

/-- A pass has ended: the prepared bank follows. -/
def State.flagsToNew (s : State) (a : Nat) : State :=
  match s.newEntry a with
  | some q => s.bringFlags a (some q) (s.xw a 0x30) (s.xw a 0x36)
  | none => s

/-- The host clears AXFLAGS bits, in the prepared bank too. -/
def State.clearFlags (s : State) (a : Nat) (v : Word) : State :=
  let s := s.setXw a 0x36 (s.xw a 0x36 &&& ~~~v)
  match (s.axis a).stay, s.newEntry a with
  | some _, _ => s.inSlot a none (fun s => s.setXw a 0x36 (s.xw a 0x36 &&& ~~~v))
  | none, some q => s.inSlot a (some q) (fun s => s.setXw a 0x36 (s.xw a 0x36 &&& ~~~v))
  | none, none => s

/-! ### Slots across a migration (R211 to R214) and clearing -/

/-- Slot-held words that R211 copies: MODEW, AXFLAGS, XPAR; YPAR. -/
def keptX : List Nat := 0x30 :: 0x36 :: (List.range 0x48).map (fun k => k + 0x38)
def keptY : List Nat := List.range 0x40

/-- The words that an axis keeps, read from wherever they lie: key, word. -/
def State.keptWords (s : State) (a : Nat) : List (Nat × Word) :=
  keptX.map (fun o => (o, s.xw a o)) ++ keptY.map (fun o => (o + 0x80, s.yw a o))

/-- The 100 words of the state area (R209): CARRY, XSTATE, YSTATE. -/
def State.stateWords (s : State) (a : Nat) : List (Nat × Word) :=
  (List.range 0x24).map (fun k => (k + 0x0C, s.xw a (k + 0x0C))) ++ (List.range 0x40).map (fun k => (k + 0xC0, s.yw a (k + 0x40)))

/-- A word of a slot by key: X offset, or Y offset + 0x80. -/
def State.setSlot (s : State) (a : Nat) (e : Nat × Word) : State :=
  if e.1 < 0x80 then s.setXw a e.1 e.2 else s.setYw a (e.1 - 0x80) e.2

/-- F of the repetitive controller becomes 0, in the slot and where R212 maps it. -/
def State.clearF (s : State) (a : Nat) : State :=
  match (s.axis a).stay, (s.axis a).oldBase, s.place a with
  | some _, _, _ => s.setAxis a { s.axis a with newTable := true }
  | none, some ob, some p => (s.setLane p.1 ((s.lane p.1).wrX (ob + 0x16) 0)).setXw a 0x16 0
  | none, _, _ => s.setXw a 0x16 0

/-- LOADING of one axis into its slot of the bank not in force (R211): the words that come along, zero in the state area, and the
parameters of class PLAN that are pending over them. -/
def State.loadSlot (s : State) (q : PlanAxis) : State :=
  let a := q.axis
  let kept := s.keptWords a
  let st := (s.stateWords a).map (fun e => (e.1, (0 : Word)))
  let pars := s.host.planUsed.filter (fun x => 0x10000000 ≤ x.off && (x.off - 0x10000000) / 0x1000 == a && (parRow (x.off % 0x1000)).any (fun r => r.loc != .held))
  s.inSlot a (some q) (fun s =>
    let s := (kept ++ st).foldl (fun s e => s.setSlot a e) s
    pars.foldl (fun s x => s.putPar a (x.off % 0x1000) x.val) s)

/-- The slots of a plan are written to the bank not in force (R211). -/
def State.loadBank (s : State) (p : Plan) : State :=
  let s := p.axes.foldl State.loadSlot s
  { s with pilot := { s.pilot with loaded := some p } }

/-- The prepared slots are given up. -/
def State.dropBank (s : State) : State := { s with pilot := { s.pilot with loaded := none } }

/-- An axis whose plan no longer places it keeps its parameters in PILOT, and the writes that its slot had still to take (R289). -/
def State.parkAxis (s : State) (a : Nat) (kept : List (Nat × Word)) : State :=
  let s := s.setAxis a { s.axis a with moved := false, oldBase := none, outRec := [], newTable := false }
  (kept.map (fun e => if e.1 = 0x30 then (e.1, (0 : Word)) else e)).foldl (fun s e => s.setSlot a e) s

/-- Whether two slots (lane, slot number) lie on one lane: only then does the new slot read its state words from the old (R212). -/
def sameLane : Option (Nat × Nat) → Option (Nat × Nat) → Bool
  | some q, some p => q.1 == p.1
  | _, _ => false

/-- The axis takes its slot of the plan in force, whose words LOADING has brought (R211): its state area is copied when it changes
lane (R213), else it is mapped to the old slot (R212). -/
def State.enterSlot (s : State) (a : Nat) (old : Option (Nat × Nat)) (st : List (Nat × Word)) : State :=
  let same := sameLane old (s.place a)
  let s := if same || old.isNone then s else st.foldl (fun s e => s.setSlot a e) s
  let s := s.setAxis a { s.axis a with moved := true, oldBase := if same then old.map (fun q => q.2) else none, park := [] }
  if (s.axis a).newTable then (s.setAxis a { s.axis a with newTable := false }).clearF a else s

/-- An axis is placed anew: its Hall edges count from here (R311). -/
def State.hallStart (s : State) (a : Nat) : State := s.setFb a { s.fb a with hti := none, hcnt := 0, hdir := 0 }

/-- The axis leaves its slot of the old plan: its last pass there has ended. -/
def State.moveAxis (s : State) (a : Nat) : State :=
  if (s.actAxis a).isSome then
    let t := s.bringFlags a none (s.xw a 0x30) (s.xw a 0x36)
    (t.setAxis a { t.axis a with stay := none }).enterSlot a (s.place a) (s.stateWords a)
  else
    let s := s.flushWrites a
    (s.setAxis a { s.axis a with stay := none }).parkAxis a (s.keptWords a)

/-- The plan in force changes from `old` to `new`: banks alternate (R208); each axis moves at once, or when its wake pass under
the old plan, of a cycle length in ns, has ended (R36, R213). `s` already holds the new plan. -/
def State.moveLanes (s : State) (old new : Plan) : State :=
  let was : State := { s with pilot := { s.pilot with act := old } }
  let was := if was.pilot.loaded = some new then was else was.loadBank new
  let s := { was with mem := { was.mem with bank := 1 - was.mem.bank }, pilot := { was.pilot with act := new, loaded := none, since := was.cycle } }
  let s := old.axes.foldl (fun s p => s.setAxis p.axis { s.axis p.axis with stay := some p }) s
  let s := new.axes.foldl (fun s p =>
    if old.axes.any (fun q => q.axis == p.axis) then s else (s.hallStart p.axis).enterSlot p.axis none []) s
  old.axes.foldl (fun s p => if was.wakeDue (tCycle old.rate) p.axis then s else s.moveAxis p.axis) s

/-- The axis's wake pass under the old plan has ended, or did not come: it moves, and the held writes follow. -/
def State.endStay (s : State) (a : Nat) : State :=
  if (s.axis a).stay.isSome then s.moveAxis a else s

/-- Lanes lo to hi − 1 return to their reset state (R587). -/
def State.clearLanes (s : State) (lo hi : Nat) : State := { s with lanes := Tab.clearRange s.lanes lo hi }

/-- Bins of an axis's learning table by RPC_N (Table 7.13). -/
def binsOf (n : Nat) : Nat := if n = 0 then 0 else 32 * 2 ^ n

/-! ### Local axes -/

/-- Local axis number of a placed local axis; the axis bound to LXn in the plan in force. -/
def State.lxOf (s : State) (a : Nat) : Option Nat :=
  match s.planAxis a with
  | some p => if p.isLocal then some p.nslot else none
  | none => none
def State.axisOfLx (s : State) (n : Nat) : Option Nat :=
  (s.pilot.act.axes.find? (fun p => p.isLocal && p.nslot == n)).map (fun p => p.axis)
def State.isLocalAxis (s : State) (a : Nat) : Bool := (s.lxOf a).isSome

end Sys2Proof.Machine
end

