-- ==== Sys2Proof/Machine/Acq.lean ====
section
/-! DEFINITION. LOG streams: probe lists, samples, marks, triggers, masks, staging and gaps (R475 to R493), and the
scheduling of soundings (R495 to R497). -/

namespace Sys2Proof.Machine

open Sys2Proof

abbrev logReg (n o : Nat) : Nat := ACQ_B + 0x100 + n * 0x40 + o
abbrev SOUND_CFG : Nat := SOUND_B
abbrev SOUND_STAT : Nat := SOUND_B + 0x4
abbrev SOUND_SEQ : Nat := SOUND_B + 0x10
abbrev SOUND_FLAGS : Nat := SOUND_B + 0x14

def State.log (s : State) (n : Nat) : LogSt := Tab.get {} s.acq.log n
def State.setLog (s : State) (n : Nat) (l : LogSt) : State := { s with acq := { s.acq with log := Tab.set {} s.acq.log n l } }

/-! ### Probe lists (R475, R476) -/

/-- Slot words of a signal of Table 13.1. -/
def sigWords (g : Nat) : List Nat :=
  match g with
  | 0x01 => [0x18, 0x19] | 0x02 => [0x1A] | 0x03 => [0x08, 0x09] | 0x04 => [0x0A] | 0x05 => [0x0B] | 0x06 => [0x0F]
  | 0x07 => [0x1B] | 0x08 => [0x1C] | 0x09 => [0x1D] | 0x0A => [0x1E] | 0x0B => [0x1F] | 0x0C => [0x20] | 0x0D => [0x21]
  | 0x0E => [0x13] | 0x0F => [0x02] | 0x10 => [0x04] | 0x11 => [0x07] | 0x12 => [0x36] | 0x13 => [0x30] | 0x14 => [0x31]
  | 0x15 => [0x2F] | 0x16 => [0x2A] | 0x17 => [0x22] | 0x18 => [0x23]
  | _ => []

/-- The words of an entry; none where it is reserved. -/
def probeEntry (w : Nat) : Option (List (Nat × Bool × Nat × Bool)) :=
  let a := w % 256
  let g := w / 256 % 256
  if 2 ≤ w / 65536 then none
  else if w / 65536 = 1 then (if g < 0x80 then some [(a, true, g, false)] else none)
  else if 0x80 ≤ g then some [(a, false, g - 0x80, false)]
  else match sigWords g with
    | [] => none
    | [o] => some [(a, false, o, false)]
    | l => some (l.map (fun o => (a, false, o, true)))

/-- The probe words of a list in memory; none when an entry is reserved. -/
def probeList : Nat → List Byte → Option (List (Nat × Bool × Nat × Bool))
  | 0, _ => some []
  | f + 1, l =>
    let w := leAt l 0 4
    if w / 256 % 512 = 0 then (if w / 2 ^ 17 = 0 then some [] else none)
    else match probeEntry w, probeList f (l.drop 4) with
      | some x, some r => some (x ++ r)
      | _, _ => none

/-- A probe index that names a one-word signal of the list. -/
def oneWord (l : LogSt) (i : Nat) : Bool := match l.list[i]? with | some e => !e.2.2.2 | none => false

/-! ### Records (Tables 13.2 and 13.3) -/

def recHead (kind sfl len : Nat) (c : BitVec 32) : List Byte := leBytes 1 kind ++ leBytes 1 sfl ++ leBytes 2 len ++ leBytes 4 c.toNat
def padTo (n : Nat) (l : List Byte) : List Byte := l ++ List.replicate (n - l.length) 0

def markRec (n : Nat) (c : BitVec 32) (m : LogMark) : List Byte :=
  padTo 32 (recHead 2 n 32 c ++ leBytes 8 m.time ++ leBytes 2 m.code ++ leBytes 2 m.axis ++ leBytes 4 m.arg ++ leBytes 1 m.src)

/-! ### Registers -/

/-- LOG_STAT, LOG_MASKCFG.LOADED, ACQ_PAGES and ACQ_FREE follow the streams. -/
def State.logRegs (s : State) (n : Nat) : State :=
  let l := s.log n
  let pt := match l.m0.win with | some k => k | none => l.m1.win.getD 0
  let w := l.st + 4 * b2n (l.dec != 0) + 8 * b2n l.armed + 16 * b2n l.m0.win.isSome + 32 * b2n l.m1.win.isSome +
    64 * b2n (l.why == 1) + 256 * min pt 1023
  let s := s.setRg (logReg n 0) (ofNat w)
  let s := (s.putFlag (logReg n 0x14) 4 l.m0.loaded).putFlag (logReg n 0x14) 12 l.m1.loaded
  let s := s.setRg (ACQ_B + 0x10 + 4 * n) (ofNat (l.pages.headD 0 + l.pages.length * 256 + b2n l.next.isSome * 65536))
  let held := (List.range 8).map (fun k => (s.log k).pages ++ ((s.log k).next).getD [])
  s.setRg (ACQ_B + 4) (ofNat ((List.range 64).filter (fun p => !held.any (fun x => x.contains p))).length)

/-! ### Staging (R479, R488, R489) -/

def logUsed (l : LogSt) : Nat := (l.staged.map (fun r => r.length)).foldl (· + ·) 0
def logFree (l : LogSt) : Nat := l.pages.length * 16384 - logUsed l

/-- Entries of a record in a ring. -/
def chunks (e : Nat) : Nat → List Byte → List (List Byte)
  | 0, _ => []
  | f + 1, l => if l.isEmpty then [] else padTo e (l.take e) :: chunks e f (l.drop e)

/-- Room for k more entries of a report ring. -/
def State.ringRoomN (s : State) (r k : Nat) : Bool := s.ringRoom r && s.ringCount r + k < s.ringSize r

/-- Staged records move to the stream's ring in order, each as a whole. -/
def State.logDrain (s : State) (n : Nat) : Nat → State
  | 0 => s
  | f + 1 =>
    let l := s.log n
    match l.staged with
    | r :: rest =>
      let es := chunks (s.esize (10 + n)) 64 r
      if s.ringRoomN (10 + n) es.length then
        let s := es.foldl (fun s e => s.pushRing (10 + n) e) s
        (s.setLog n { s.log n with staged := rest }).logDrain n f
      else s
    | [] => s

/-- Event source 192 + stream. -/
def State.logEvent (s : State) (n : Nat) : State := s.raise (192 + n) n

/-- The GAP that precedes the first record after drops or a change of pages (R489, R490). -/
def gapRec (n : Nat) (l : LogSt) (c : BitVec 32) : List Byte :=
  padTo 32 (recHead 3 n 32 c ++ leBytes 8 l.lostA ++ leBytes 8 l.lostB ++ leBytes 4 l.lostN ++ leBytes 2 (min l.lostM 0xFFFF) ++ leBytes 1 l.why)

/-- A record is staged, after the GAP that is due. -/
def State.stageRec (s : State) (n : Nat) (c : BitVec 32) (r : List Byte) : State :=
  let l := s.log n
  let s := if l.why = 0 then s.setLog n { l with staged := l.staged ++ [r] }
    else
      let s := s.setLog n { l with staged := l.staged ++ [gapRec n l c, r], lostN := 0, lostM := 0, lostA := 0, lostB := 0, why := 0 }
      let first := !s.flag (logReg n 0x28) 0
      let s := (s.incFld (logReg n 0x24) 31 0 1).setFlag (logReg n 0x28) 0
      if first then s.logEvent n else s
  s.logDrain n 4096

/-- A MARK or VIOLATION is dropped only without space (R489), or while the stream waits for its pages (R490). -/
def State.stageMark (s : State) (n : Nat) (c : BitVec 32) (r : List Byte) : State :=
  let l := s.log n
  let need := if l.why = 0 then 32 else 64
  if l.next.isSome || logFree l < need then s.setLog n { l with lostM := l.lostM + 1, why := if l.why = 0 then 1 else l.why }
  else s.stageRec n c r

/-- A SAMPLE is dropped with less than 1,024 bytes besides its length (R489). -/
def State.stageSample (s : State) (n : Nat) (x : LogCyc) (ws : List Word) (noval : Bool) : State :=
  let l := s.log n
  let len := 8 + 4 * ws.length
  if l.next.isSome || logFree l < 1024 + len then
    (s.setLog n { l with lostN := l.lostN + 1, lostA := if l.lostN = 0 then x.bnd else l.lostA, lostB := x.bnd,
                         why := if l.why = 0 then 1 else l.why }).incFld (logReg n 0x20) 31 0 1
  else
    (s.stageRec n x.c (recHead 1 (n + 8 * b2n noval) len x.c ++ (ws.map (fun w => leBytes 4 w.toNat)).flatten)).incFld (logReg n 0x1C) 31 0 1

/-! ### Marks of a cycle -/

/-- A mark joins the present cycle of a stream. -/
def State.logMark (s : State) (n : Nat) (c : BitVec 32) (m : LogMark) : State :=
  let l := s.log n
  if l.cyc.any (fun x => x.c == c) then
    s.setLog n { l with cyc := l.cyc.map (fun x => if x.c = c then { x with marks := x.marks ++ [m] } else x) }
  else s.setLog n { l with cyc := l.cyc ++ [{ c := c, bnd := s.bnd, sample := false, marks := [m] }] }

/-- Streams that run (RUNNING or POST). -/
def State.running (s : State) : List Nat := (List.range 8).filter (fun n => 2 ≤ (s.log n).st)

/-- Marks of an injection's start and end in every started stream whose list names the axis (R279). -/
def State.injMark (s : State) (a code typ point : Nat) : State :=
  let st := s.running.filter (fun n => (s.log n).list.any (fun e => e.1 == a))
  let c := match s.planAxis a with | some p => (s.lane p.lane).pcyc | none => s.cycle
  st.foldl (fun s n => s.logMark n c { time := s.ntime, code := code, axis := a, arg := typ + point * 256 }) s

/-- An injection ends (R278). -/
def State.endInj (s : State) (a : Nat) : State :=
  let x := s.axis a
  match x.inj with
  | some i => s.setAxis a { x with inj := none, injEnd := if i.n = 0 then x.injEnd else some (i.typ, i.point) }
  | none => s

/-! ### Sounding requests (R495 to R497) -/

def ceil8 (t : Nat) : Nat := (t + 7) / 8 * 8

/-- First cycle whose SAIL frame is not yet frozen, as its distance from the present cycle. -/
def State.nextFree (s : State) : Nat := if s.net.frozen then 2 else 1

/-- B′ of the boundary k cycles ahead. -/
def State.bPrime (s : State) (k : Nat) : Nat := ceil8 (s.bnd + k * s.tCyc)

/-- A sounding is accepted. -/
def State.acceptSound (s : State) (x : Sounding) : State :=
  let s := { s with acq := { s.acq with sound := some x } }
  let s := (s.setRg (SOUND_B + 8) (ofNat x.t)).setRg (SOUND_B + 12) (ofNat (x.t / 2 ^ 32))
  s.setFld SOUND_STAT 2 0 (1 + 2 * b2n x.workers)

/-- A hardware request: dropped while a sounding is pending (R496). -/
def State.soundRequest (s : State) : State :=
  match s.acq.sound with
  | some _ => ((s.incFld (SOUND_B + 0x18) 31 0 1).setFlag SOUND_FLAGS 1).raise 201 0
  | none => s.acceptSound { t := s.bPrime (s.nextFree + 1), workers := s.flag SOUND_CFG 0 && s.holder, cmd := none }

/-- The requests that EVT's sounding line has brought since they were last served. -/
def State.serveSound (s : State) : State :=
  let l := s.evt.sound
  let s := { s with evt := { s.evt with sound := [] } }
  l.foldl (fun s _ => s.soundRequest) s

/-- SOUND_AT for the SAIL frame of the cycle whose boundary lies at `b` (R497). -/
def State.soundAt (s : State) (b : Nat) : Option Nat :=
  match s.acq.sound with
  | some x =>
    let b1 := ceil8 (b + s.tCyc)
    if x.workers && decide (b1 ≤ x.t) && decide (x.t < ceil8 (b + 2 * s.tCyc)) then some ((x.t - b1) / 8) else none
  | none => none

/-! ### Masks (R484 to R486) -/

def LogSt.mask (l : LogSt) (k : Nat) : LogMask := if k = 0 then l.m0 else l.m1
def LogSt.setMask (l : LogSt) (k : Nat) (m : LogMask) : LogSt := if k = 0 then { l with m0 := m } else { l with m1 := m }
def State.maskBit (s : State) (n k b : Nat) : Bool := s.flag (logReg n 0x14) (8 * k + b)

/-- A trigger starts or restarts the windows of the enabled, loaded masks. -/
def State.startWindows (s : State) (n : Nat) : State :=
  [0, 1].foldl (fun s k =>
    let l := s.log n
    let m := l.mask k
    if s.maskBit n k 0 && m.loaded then
      (s.setLog n (l.setMask k { m with win := some 0, hit := false })).setFld (logReg n 0x18) (16 * k + 15) (16 * k) 0
    else s) s

/-- The stream stops by a mask (R486): at once, or after LOG_POST samples. -/
def State.maskStop (s : State) (n : Nat) : State :=
  let l := s.log n
  if l.st ≠ 2 then s
  else
    let post := s.fld (logReg n 0x10) 15 0
    let s := (s.setFlag (logReg n 0x28) 3).logEvent n
    if post ≠ 0 then s.setLog n { s.log n with st := 3, post := post }
    else
      let l := s.log n
      let l : LogSt := { l with st := 0, armed := false, cyc := l.cyc.map (fun x => if x.closed then x else { x with sample := false }) }
      (s.setLog n l).logMark n s.cycle { time := s.ntime, code := 0x31, arg := 2 }

/-- One mask against a sample (R485, R486). -/
def State.maskTest (s : State) (n k : Nat) (x : LogCyc) (ws : List Word) : State :=
  let l := s.log n
  let m := l.mask k
  match m.win with
  | none => s
  | some p =>
    let v := sgn (ws.getD m.idx 0)
    let lo := wrapS 32 (leAt m.table (8 * p) 4)
    let hi := wrapS 32 (leAt m.table (8 * p + 4) 4)
    let bad := decide (v < lo) || decide (hi < v)
    let m' : LogMask := { m with win := if 1023 ≤ p then none else some (p + 1), hit := m.hit || bad }
    let s := s.setLog n (l.setMask k m')
    if !bad then s
    else
      let s := s.incFld (logReg n 0x18) (16 * k + 15) (16 * k) 1
      if m.hit then s
      else
        let r := padTo 32 (recHead 4 (n + 8 * k) 32 x.c ++ leBytes 8 x.bnd ++ leBytes 2 p ++ leBytes 1 m.idx ++ [0] ++
          leBytes 4 (v % 2 ^ 32).toNat ++ leBytes 4 (lo % 2 ^ 32).toNat ++ leBytes 4 (hi % 2 ^ 32).toNat)
        let s := (s.stageMark n x.c r).setFlag (logReg n 0x28) (1 + k)
        let s := if s.maskBit n k 2 then s.soundRequest else s
        let s := if s.maskBit n k 3 then s.logEvent n else s
        if s.maskBit n k 1 then s.maskStop n else s

/-! ### One cycle of a stream (R480 to R483) -/

/-- A level crossing between two samples (R482). -/
def State.crossing (s : State) (n : Nat) (ws : List Word) : Bool :=
  let l := s.log n
  let i := s.fld (logReg n 4) 13 8
  match l.prev with
  | some pw =>
    let a := sgn (pw.getD i 0)
    let b := sgn (ws.getD i 0)
    let t := sgn (s.rg (logReg n 8))
    let up := decide (a < t) && decide (t ≤ b)
    let dn := decide (b < t) && decide (t ≤ a)
    let e := s.fld (logReg n 4) 4 3
    if e = 0 then up else if e = 1 then dn else up || dn
  | none => false

/-- The marks of a cycle with its trigger (R481): marks in order, whether the stream was triggered, ignored conditions. -/
def State.cycleMarks (s : State) (n : Nat) (x : LogCyc) (lvl : Bool) : List LogMark × Bool × Nat :=
  let l := s.log n
  let w := s.rg (logReg n 4)
  let host := bit w 0 && x.marks.any (fun m => m.src == 1)
  let evt := bit w 1 && x.evt.isSome
  let trig := l.armed && 2 ≤ l.st && (host || evt || lvl)
  let src := 128 + b2n host + 2 * b2n evt + 4 * b2n lvl
  let ign := if trig || !(host || evt) then 0 else 1
  if !trig then (x.marks, false, ign)
  else if host then
    let r := x.marks.foldl (fun (p : List LogMark × Bool) m =>
      if m.src = 1 && !p.2 then (p.1 ++ [{ m with src := src, time := x.bnd }], true) else (p.1 ++ [m], p.2)) ([], false)
    (r.1, true, 0)
  else
    let code := if evt then 2 else 3
    let arg := if evt then x.evt.getD 0 else bits w 13 8
    (x.marks ++ [{ time := x.bnd, code := code, arg := arg, src := src }], true, 0)

/-- A closed cycle's records: marks, sample, violations. -/
def State.logCycle (s : State) (n : Nat) (x : LogCyc) : State :=
  let w := s.rg (logReg n 4)
  let lvlBad := bit w 2 && !oneWord (s.log n) (bits w 13 8)
  let s := if lvlBad && x.sample then s.setFlag (logReg n 0x28) 4 else s
  let lvl := match x.words with | some p => bit w 2 && !lvlBad && (s.log n).armed && s.crossing n p.1 | none => false
  let r := s.cycleMarks n x lvl
  let l := s.log n
  let s := s.setLog n { l with armed := l.armed && !r.2.1, trigAt := if r.2.1 then x.bnd else l.trigAt,
                               ignored := if r.2.1 then 0 else l.ignored + r.2.2 }
  let s := if r.2.1 then s.startWindows n else s
  let s := r.1.foldl (fun s m => s.stageMark n x.c (markRec n x.c m)) s
  match x.words with
  | some p =>
    let post := (s.log n).st == 3
    let s := s.stageSample n x p.1 p.2
    let s := (s.maskTest n 0 x p.1).maskTest n 1 x p.1
    let l := s.log n
    let s := s.setLog n { l with prev := some p.1 }
    if post then
      let l := s.log n
      if l.post ≤ 1 then
        let l : LogSt := { l with st := 0, post := 0, armed := false, cyc := l.cyc.map (fun x => if x.closed then x else { x with sample := false }) }
        (s.setLog n l).logMark n s.cycle { time := s.ntime, code := 0x31, arg := 2 }
      else s.setLog n { l with post := l.post - 1 }
    else s
  | none => s

/-- Closed cycles whose sample has been read leave in order. -/
def State.logFlush (s : State) (n : Nat) : Nat → State
  | 0 => s
  | f + 1 =>
    let l := s.log n
    match l.cyc with
    | x :: r => if x.closed && (!x.sample || x.words.isSome) then ((s.setLog n { l with cyc := r }).logCycle n x).logFlush n f else s
    | [] => s

/-- The words of a list as they stand; NOVAL for an axis without a pass or on a lane that is off (R477). -/
def State.probeWords (s : State) (l : LogSt) : List Word × Bool :=
  let ok (a : Nat) : Bool := match s.planAxis a with | some p => s.powered (p.lane / 8) | none => false
  (l.list.map (fun e => if ok e.1 then (if e.2.1 then s.yw e.1 e.2.2.1 else s.xw e.1 e.2.2.1) else 0), l.list.any (fun e => !ok e.1))

/-- LOG_SAMPLE: the words of the oldest sample cycle still to be read. -/
def State.logSample (s : State) (n : Nat) : State :=
  let l := s.log n
  match l.cyc.find? (fun x => x.sample && x.words.isNone) with
  | some x =>
    let ws := s.probeWords l
    let s := s.setLog n { l with cyc := l.cyc.map (fun y => if y.c = x.c then { y with words := some ws } else y) }
    (s.logFlush n 4).logRegs n
  | none => s

def execLogSample (stream : Fin 8) (s : State) : Host.Outcome State Fault Refusal := .next (s.logSample stream.val)

/-- LOG_REARM (R483): by time or by ignored conditions. -/
def State.logRearm (s : State) (n : Nat) : State :=
  let l := s.log n
  let h := (s.rg (logReg n 0xC)).toNat
  let ok := if s.flag (logReg n 4) 5 then decide (h ≤ l.ignored) else decide (l.trigAt + max (h * 1000) 1 ≤ s.bnd)
  if 2 ≤ l.st && !l.armed && ok then (s.setLog n { l with armed := true }).logRegs n else s

def execLogRearm (stream : Fin 8) (s : State) : Host.Outcome State Fault Refusal := .next (s.logRearm stream.val)

/-! ### Start, stop, pages (R490 to R493) -/

/-- Sampling begins at this boundary: start mark, completions (R491). -/
def State.logBegin (s : State) (n : Nat) : State :=
  let l := s.log n
  let x : LogCyc := { c := s.cycle, bnd := s.bnd, sample := true }
  let old := l.cyc.filter (fun y => y.c != s.cycle)
  let here := (l.cyc.filter (fun y => y.c == s.cycle)).map (fun y => { y with sample := true })
  let l : LogSt := { l with st := 2, cs := s.cycle, armed := true, ignored := 0, prev := none, starts := [] }
  let starts := (s.log n).starts
  let s := s.setLog n { l with cyc := old ++ (if here.isEmpty then [x] else here) }
  let s := (s.logMark n s.cycle { time := s.bnd, code := 0x30, arg := l.dec }).logRegs n
  starts.foldl (fun s c => s.complete c.1 0x51 c.2 .ok) s

/-- Pages held by no stream. -/
def State.freePages (s : State) : List Nat :=
  (List.range 64).filter (fun p => (List.range 8).all (fun k => !(s.log k).pages.contains p && !(((s.log k).next).getD []).contains p))

/-- LOG_START takes effect at a boundary (R491). -/
def State.dueLogStart (s : State) (src : Src) (d : Desc) : State :=
  let n := d.tgt
  let l := s.log n
  if l.dec = 0 then s.complete src 0x51 d .badOperand
  else if 2 ≤ l.st then s.complete src 0x51 d .ok
  else
    let s := s.setLog n { l with starts := l.starts ++ [(src, d)] }
    let l := s.log n
    if l.st = 1 then s
    else if !l.pages.isEmpty && l.next.isNone then s.logBegin n
    else
      let free := s.freePages
      if 2 ≤ free.length && l.next.isNone then (s.setLog n { l with pages := free.take 2 }).logBegin n
      else (s.setLog n { l with st := 1 }).logRegs n

/-- LOG_STOP takes effect at a boundary (R487, R492). -/
def State.dueLogStop (s : State) (src : Src) (d : Desc) : State :=
  let n := d.tgt
  let l := s.log n
  let pend := l.starts
  let l : LogSt := { l with starts := [], armed := false, post := 0 }
  let masked := l.cyc.any (fun x => x.c == s.cycle && x.marks.any (fun m => m.code == 0x31))
  let cyc := l.cyc.map (fun x => if x.c = s.cycle then { x with sample := false, marks := x.marks.map (fun m => if m.code = 0x31 then { m with arg := 1 } else m) } else x)
  let s := if 2 ≤ l.st then (s.setLog n { l with st := 0, cyc := cyc }).logMark n s.cycle { time := s.bnd, code := 0x31, arg := 1 }
    else if masked then s.setLog n { l with cyc := cyc }
    else s.setLog n { l with st := 0 }
  let s := pend.foldl (fun s c => s.complete c.1 0x51 c.2 .busy) s
  (s.logRegs n).complete src 0x52 d .ok

/-- The pages a stream waits for are free: no other stream holds them with records still staged. -/
def State.pagesFree (s : State) (n : Nat) (ps : List Nat) : Bool :=
  (List.range 8).all (fun k => k == n || (s.log k).pages.all (fun p => !ps.contains p) ||
    ((s.log k).staged.isEmpty && ((s.log k).next.isSome || (s.log k).st < 2)))

/-- A stream that has drained its old pages takes its new ones (R490). A stream in STARTING begins to sample. -/
def State.logResize (s : State) (n : Nat) : State :=
  let l := s.log n
  match l.next with
  | some ps =>
    if l.staged.isEmpty && s.pagesFree n ps then
      let s : State := (List.range 8).foldl (fun (s : State) k =>
        let o := s.log k
        if k ≠ n && o.st = 0 && o.pages.any (fun p => ps.contains p) then (s.setLog k { o with pages := [] }).logRegs k else s) s
      let s := s.setLog n { l with pages := ps, next := none, why := if l.st = 1 then l.why else 2 }
      if (s.log n).st = 1 then s.logBegin n else s.logRegs n
    else s
  | none => s

def execLogResizeGap (stream : Fin 8) (s : State) : Host.Outcome State Fault Refusal := .next (s.logResize stream.val)

/-- Pages of a plan: first page and count of each stream in stream order (R191). -/
def planPages (p : Plan) (n : Nat) : List Nat :=
  let first := ((List.range n).map (fun k => Tab.get 0 p.pages k)).foldl (· + ·) 0
  (List.range (Tab.get 0 p.pages n)).map (fun k => first + k)

/-- A COMMIT changes the pages of the streams of its plan; a stopped stream loses pages that another receives (R490, R492). -/
def State.acqSwitch (s : State) (p : Plan) : State :=
  let taken := ((List.range 8).map (planPages p)).flatten
  let s : State := (List.range 8).foldl (fun (s : State) n =>
    let l := s.log n
    let ps := planPages p n
    if ps.isEmpty then (if l.st = 0 && l.staged.isEmpty && l.pages.any (fun x => taken.contains x) then s.setLog n { l with pages := [] } else s)
    else if l.pages = ps then s
    else s.setLog n { l with next := some ps }) s
  (List.range 8).foldl (fun s n =>
    let l := s.log n
    if l.st = 1 || (l.next.isSome && l.pages.isEmpty) then (s.logResize n).logRegs n else s.logRegs n) s

/-- Started streams with the cycles between their records: the record rate is 1 in that many (Table 5.1, R191). -/
def State.streamRates (s : State) : List (Nat × Nat) :=
  ((List.range 8).filter (fun n => (s.log n).st != 0)).map (fun n => (n, max (s.log n).dec 1))

/-- The end of a cycle for every stream; `s` still holds the cycle that ends. The trigger line's lowest source counts (R528). -/
def State.acqClose (s : State) : State :=
  let lines := s.evt.acq
  (List.range 8).foldl (fun s n =>
    let l := s.log n
    let evs := (lines.filter (fun e => e.1 == n)).map (fun e => e.2)
    let ev := evs.foldl (fun m e => match m with | some x => some (min x e) | none => some e) (none : Option Nat)
    let s := s.setLog n { l with cyc := l.cyc.map (fun x => { x with closed := true, evt := if x.c = s.cycle then ev else x.evt }) }
    s) { s with evt := { s.evt with acq := [] } }

/-- The new cycle opens for the running streams, and closed ones leave; `s` holds the new cycle. -/
def State.acqOpen (s : State) : State :=
  (List.range 8).foldl (fun s n =>
    let l := s.log n
    if l.dec = 0 && l.cyc.isEmpty then s
    else
      let smp := 2 ≤ l.st && (s.cycle - l.cs).toNat % max l.dec 1 == 0
      let l : LogSt := if 2 ≤ l.st then { l with cyc := l.cyc ++ [{ c := s.cycle, bnd := s.bnd, sample := smp }] } else l
      ((s.setLog n l).logFlush n 4).logDrain n 4096 |>.logRegs n) s

/-! ### Commands -/

def execLogStart (src : Src) (d : Desc) (s : State) : Host.Outcome State Fault Refusal :=
  .next (s.cmd src 0x51 d fun s => if 8 ≤ d.tgt then s.complete src 0x51 d .badTarget else s.atBoundary src 0x51 d)

def execLogStop (src : Src) (d : Desc) (s : State) : Host.Outcome State Fault Refusal :=
  .next (s.cmd src 0x52 d fun s => if 8 ≤ d.tgt then s.complete src 0x52 d .badTarget else s.atBoundary src 0x52 d)

/-- A mask after a new list: unloaded when its index names no one-word signal; its window ends (R493). -/
def keepMask (l : LogSt) (m : LogMask) : LogMask := if m.loaded && oneWord l m.idx then { m with win := none } else {}

/-- LOG_CONFIG (R475, R478, R493). -/
def State.logConfig (s : State) (src : Src) (d : Desc) (mem : List Byte) : State :=
  s.soon src 0x50 d mem fun s =>
    let n := d.tgt
    if 8 ≤ n then s.complete src 0x50 d .badTarget
    else if (s.log n).st ≠ 0 then s.complete src 0x50 d .busy
    else match probeList 64 (slice mem 0 256) with
      | none => s.complete src 0x50 d .badOperand
      | some ws =>
        if 64 < ws.length || d.op2.toNat = 0 || 0xFFFF < d.op2.toNat then s.complete src 0x50 d .badOperand
        else
          let l : LogSt := { s.log n with list := ws, dec := d.op2.toNat, prev := none }
          let s := s.setLog n { l with m0 := keepMask l l.m0, m1 := keepMask l l.m1 }
          ((s.setRg (logReg n 0x2C) (ofNat (d.op2.toNat + ws.length * 65536))).logRegs n).complete src 0x50 d .ok

def execLogConfig (src : Src) (d : Desc) (list : Option (List Byte)) (s : State) : Host.Outcome State Fault Refusal :=
  .next (s.cmd src 0x50 d fun s => match list with
    | some m => s.logConfig src d m
    | none => s.complete src 0x50 d .dmaFail)

/-- LOG_MASK_LOAD (R484). -/
def State.logMaskLoad (s : State) (src : Src) (d : Desc) (mem : List Byte) : State :=
  s.soon src 0x53 d mem fun s =>
    let n := d.tgt
    let k := d.op2.toNat / 64 % 2
    let i := d.op2.toNat % 64
    if 8 ≤ n then s.complete src 0x53 d .badTarget
    else if 128 ≤ d.op2.toNat || !oneWord (s.log n) i then s.complete src 0x53 d .badOperand
    else if ((s.log n).mask k).win.isSome then s.complete src 0x53 d .busy
    else ((s.setLog n ((s.log n).setMask k { loaded := true, idx := i, table := slice mem 0 8192 })).logRegs n).complete src 0x53 d .ok

def execLogMaskLoad (src : Src) (d : Desc) (table : Option (List Byte)) (s : State) : Host.Outcome State Fault Refusal :=
  .next (s.cmd src 0x53 d fun s => match table with
    | some m => s.logMaskLoad src d m
    | none => s.complete src 0x53 d .dmaFail)

/-- LOG_TRIGGER (R481): its mark joins the present cycle. -/
def State.logTrigger (s : State) (src : Src) (d : Desc) : State :=
  if 8 ≤ d.tgt then s.complete src 0x54 d .badTarget
  else (s.logMark d.tgt s.cycle { time := s.ntime, code := 1, arg := d.op0.toNat % 65536, src := 1 }).complete src 0x54 d .ok

def execLogTrigger (src : Src) (d : Desc) (s : State) : Host.Outcome State Fault Refusal :=
  .next (s.cmd src 0x54 d fun s => s.soon src 0x54 d [] fun s => s.logTrigger src d)

/-- SOUND_FIRE (R495). -/
def State.soundFire (s : State) (src : Src) (d : Desc) : State :=
  let s := s.serveSound
  let t := op64 d.op0 d.op1
  let wk := bit d.op2 0 && s.holder
  if t % 8 ≠ 0 || decide (s.ntime + 1000000000 < t) then s.complete src 0x55 d .badOperand
  else if s.acq.sound.isSome then s.complete src 0x55 d .busy
  else if (if wk then decide (t < s.bPrime (s.nextFree + 1)) else decide (t < s.ntime + 1000)) then s.complete src 0x55 d .cyclePast
  else s.acceptSound { t := t, workers := wk, cmd := some (src, d) }

def execSoundFire (src : Src) (d : Desc) (s : State) : Host.Outcome State Fault Refusal :=
  .next (s.cmd src 0x55 d fun s => s.soon src 0x55 d [] fun s => s.soundFire src d)

end Sys2Proof.Machine
end

