-- ==== Sys2Proof/Machine/Crypto.lean ====
section
/-! DEFINITION. The cryptographic functions the spec names: SHA-256 (FIPS 180-4), AES-128 (FIPS 197), CMAC
(NIST SP 800-38B) and the verification of ECDSA P-256 signatures (FIPS 186-4). -/

namespace Sys2Proof.Machine

/-! ### SHA-256 -/

/-- The root of degree k of v, cut to an integer: acc with the bits that fit from bit n − 1 down. -/
def rootBits (k v : Nat) : Nat → Nat → Nat
  | 0, acc => acc
  | n + 1, acc => rootBits k v n (if (acc + 2 ^ n) ^ k ≤ v then acc + 2 ^ n else acc)

/-- First 32 bits of the fraction of the root of degree k of a number below 2^12. -/
def rootFraction (k v : Nat) : Word := ofNat (rootBits k (v * 2 ^ (32 * k)) 38 0)

/-- The first 64 primes: the numbers from 2 to 311 that no prime up to 17 divides but itself. -/
def shaPrimes : List Nat :=
  (List.range 312).filter (fun n => decide (2 ≤ n) && [2, 3, 5, 7, 11, 13, 17].all (fun d => n % d != 0 || n == d))

/-- Round constants: the cube roots of the first 64 primes. -/
def shaRoundConsts : List Word := shaPrimes.map (rootFraction 3)

/-- Initial hash value: the square roots of the first 8 primes. -/
def shaInit : List Word := (shaPrimes.take 8).map (rootFraction 2)

/-- Sum of three rotations of a word, the last a shift where `cut` says so. -/
def shaMix (w : Word) (i j k : Nat) (cut : Bool) : Word :=
  w.rotateRight i ^^^ w.rotateRight j ^^^ (if cut then w >>> k else w.rotateRight k)

/-- One block: each round takes the oldest of the sixteen schedule words in `win` and appends the next one. -/
def shaRun : List Word → List Word → List Word → List Word
  | k :: ks, win, [a, b, c, d, e, f, g, h] =>
    let at_ (i : Nat) : Word := win.getD i 0
    let new := at_ 0 + shaMix (at_ 1) 7 18 3 true + at_ 9 + shaMix (at_ 14) 17 19 10 true
    let x := h + shaMix e 6 11 25 false + (g ^^^ (e &&& (f ^^^ g))) + k + at_ 0
    let y := shaMix a 2 13 22 false + ((a &&& (b ||| c)) ||| (b &&& c))
    shaRun ks (win.drop 1 ++ [new]) [x + y, a, b, c, d + x, e, f, g]
  | _, _, st => st

/-- The hash value after n 64-byte blocks, big-endian words. -/
def shaChain : Nat → List Word → List Byte → List Word
  | 0, h, _ => h
  | n + 1, h, m =>
    let win := (List.range 16).map (fun i => ofNat (ofBE ((m.drop (4 * i)).take 4)))
    shaChain n (List.zipWith (· + ·) h (shaRun shaRoundConsts win h)) (m.drop 64)

/-- SHA-256 of bytes, as 32 bytes: a one bit, zeros and the length in bits fill the last block. -/
def sha256 (m : List Byte) : List Byte :=
  let blocks := (m.length + 72) / 64
  let tail := 0x80 :: List.replicate (64 * blocks - 9 - m.length) 0 ++ beBytes 8 (8 * m.length)
  (shaChain blocks shaInit (m ++ tail)).flatMap (fun w => beBytes 4 w.toNat)

/-! ### AES-128 and CMAC -/

/-- Multiplication by x in GF(2^8). -/
def xtime (a : Byte) : Byte := if a.getLsbD 7 then (a <<< 1) ^^^ 0x1B else a <<< 1

/-- Product in GF(2^8), from bit n − 1 of b down. -/
def gmul (a b : Byte) : Nat → Byte
  | 0 => 0
  | n + 1 => let r := xtime (gmul (a) (b >>> 1) n); if b.getLsbD 0 then r ^^^ a else r

/-- Inverse in GF(2^8) as the 254th power. -/
def ginv (a : Byte) : Byte :=
  let m (x y : Byte) : Byte := gmul x y 8
  let a2 := m a a
  let a4 := m a2 a2
  let a8 := m a4 a4
  let a16 := m a8 a8
  let a32 := m a16 a16
  let a64 := m a32 a32
  m (m a2 a4) (m (m a8 a16) (m (m a32 a64) (m a64 a64)))

/-- The AES substitution box. -/
def sbox (a : Byte) : Byte :=
  let b := ginv a
  b ^^^ b.rotateLeft 1 ^^^ b.rotateLeft 2 ^^^ b.rotateLeft 3 ^^^ b.rotateLeft 4 ^^^ 0x63

def xorBytes (a b : List Byte) : List Byte := List.zipWith (fun x y => x ^^^ y) a b

/-- Next 16-byte round key. -/
def nextKey (k : List Byte) (rcon : Byte) : List Byte :=
  let t := [sbox (k.getD 13 0) ^^^ rcon, sbox (k.getD 14 0), sbox (k.getD 15 0), sbox (k.getD 12 0)]
  let w0 := xorBytes (k.take 4) t
  let w1 := xorBytes ((k.drop 4).take 4) w0
  let w2 := xorBytes ((k.drop 8).take 4) w1
  let w3 := xorBytes (k.drop 12) w2
  w0 ++ w1 ++ w2 ++ w3

def shiftRows (s : List Byte) : List Byte :=
  [0, 5, 10, 15, 4, 9, 14, 3, 8, 13, 2, 7, 12, 1, 6, 11].map (fun i => s.getD i 0)

def mixCol (c : List Byte) : List Byte :=
  let a := c.getD 0 0
  let b := c.getD 1 0
  let d := c.getD 2 0
  let e := c.getD 3 0
  [xtime a ^^^ xtime b ^^^ b ^^^ d ^^^ e, a ^^^ xtime b ^^^ xtime d ^^^ d ^^^ e, a ^^^ b ^^^ xtime d ^^^ xtime e ^^^ e,
   xtime a ^^^ a ^^^ b ^^^ d ^^^ xtime e]

def mixColumns (s : List Byte) : List Byte :=
  mixCol (s.take 4) ++ mixCol ((s.drop 4).take 4) ++ mixCol ((s.drop 8).take 4) ++ mixCol (s.drop 12)

/-- The rounds after the first key addition. -/
def aesRounds : Nat → List Byte → Byte → List Byte → List Byte
  | 0, _, _, s => s
  | n + 1, k, rc, s =>
    let k' := nextKey k rc
    let t := shiftRows (s.map sbox)
    let t := if n = 0 then t else mixColumns t
    aesRounds n k' (xtime rc) (xorBytes t k')

/-- AES-128 encryption of one block. -/
def aes128 (key blk : List Byte) : List Byte := aesRounds 10 key 1 (xorBytes blk key)

/-- Doubling of a CMAC subkey. -/
def cmacDouble (l : List Byte) : List Byte :=
  let v := ofBE l
  let w := (2 * v) % 2 ^ 128
  beBytes 16 (if v / 2 ^ 127 = 1 then w ^^^ 0x87 else w)

def cmacChain (key : List Byte) : Nat → List Byte → List Byte → List Byte
  | 0, x, _ => x
  | n + 1, x, m => cmacChain key n (aes128 key (xorBytes x (m.take 16))) (m.drop 16)

/-- AES-128 CMAC of a message, 16 bytes. -/
def cmac (key m : List Byte) : List Byte :=
  let k1 := cmacDouble (aes128 key (List.replicate 16 0))
  let n := (m.length + 15) / 16
  let full := m.length != 0 && m.length % 16 == 0
  let blocks := if n = 0 then 1 else n
  let head := m.take (16 * (blocks - 1))
  let last := m.drop (16 * (blocks - 1))
  let last := if full then xorBytes last k1
    else xorBytes (last ++ [0x80] ++ List.replicate (15 - last.length) 0) (cmacDouble k1)
  cmacChain key blocks (List.replicate 16 0) (head ++ last)

/-! ### ECDSA P-256 -/

def p256P : Nat := 0xFFFFFFFF00000001000000000000000000000000FFFFFFFFFFFFFFFFFFFFFFFF
def p256N : Nat := 0xFFFFFFFF00000000FFFFFFFFFFFFFFFFBCE6FAADA7179E84F3B9CAC2FC632551
def p256B : Nat := 0x5AC635D8AA3A93E7B3EBBD55769886BC651D06B0CC53B0F63BCE3C3E27D2604B
def p256G : Nat × Nat :=
  (0x6B17D1F2E12C4247F8BCE6E563A440F277037D812DEB33A0F4A13945D898C296,
   0x4FE342E2FE1A7F9B8EE7EB4A7C0F9E162BCE33576B315ECECBB6406837BF51F5)

/-- a^e mod m over the low k bits of e, from the top. -/
def powMod (a e m : Nat) : Nat → Nat
  | 0 => 1
  | k + 1 => let h := powMod a (e / 2) m k; if e % 2 = 1 then h * h % m * a % m else h * h % m

/-- Inverse modulo a prime. -/
def invMod (a m : Nat) : Nat := powMod a (m - 2) m 256

/-- Point addition on P-256 in affine coordinates; none is the point at infinity. -/
def ecAdd (a b : Option (Nat × Nat)) : Option (Nat × Nat) :=
  match a, b with
  | none, q => q
  | q, none => q
  | some (x1, y1), some (x2, y2) =>
    if x1 = x2 && (y1 + y2) % p256P = 0 then none
    else
      let l := if x1 = x2 then (3 * (x1 * x1) + (p256P - 3)) % p256P * invMod (2 * y1 % p256P) p256P % p256P
        else (y2 + p256P - y1) % p256P * invMod ((x2 + p256P - x1) % p256P) p256P % p256P
      let x3 := (l * l + 2 * p256P - x1 - x2) % p256P
      some (x3, (l * (x1 + p256P - x3) + p256P - y1) % p256P)

/-- k times a point, over the low n bits of k. -/
def ecMul (q : Option (Nat × Nat)) (k : Nat) : Nat → Option (Nat × Nat)
  | 0 => none
  | n + 1 => let h := ecMul q (k / 2) n; let d := ecAdd h h; if k % 2 = 1 then ecAdd d q else d

/-- ECDSA P-256 verification of (r, s) over a 32-byte hash with public key (x, y). -/
def ecdsaVerify (hash : List Byte) (x y r s : Nat) : Bool :=
  let onCurve := (y * y) % p256P == (x * x * x + (p256P - 3) * x + p256B) % p256P
  if !(onCurve && x < p256P && y < p256P && 1 ≤ r && r < p256N && 1 ≤ s && s < p256N) then false
  else
    let w := invMod s p256N
    let u1 := ofBE hash * w % p256N
    let u2 := r * w % p256N
    match ecAdd (ecMul (some p256G) u1 256) (ecMul (some (x, y)) u2 256) with
    | some p => p.1 % p256N == r
    | none => false

end Sys2Proof.Machine
end

