-- ==== Sys2Proof/Machine/Life.lean ====
section
/-! DEFINITION. Derating (R426), the temperatures of local axes (R330, R333) and the life counters that section SVM
keeps (R416, R418, Table 11.5). -/

namespace Sys2Proof.Machine

open Sys2Proof

/-- x of R330: (code − OFS) × GAIN, GAIN in Q8.24. -/
def State.adcValue (s : State) (c code : Nat) : Int :=
  shrRnd (((code : Int) - s.fld (LOCAL_B + 0x200 + c * 8) 13 0) * sgn (s.rg (LOCAL_B + 0x204 + c * 8))) 24

/-- TEMP1 of LXn in 0.1 °C (R333). -/
def State.lxTemp (s : State) (n : Nat) : Int :=
  let w := s.rg (lxReg n 0x1C)
  if bit w 7 then s.adcValue (bits w 4 0) (s.fld (LOCAL_B + 0x100 + bits w 4 0 * 4) 13 0) else sbits w 31 16

/-! ### Derating (R426) -/

/-- IQMAX × TQ ÷ 100 and VCMAX, VMAX × SPD ÷ 100, with LDERATE in X+0x6E. -/
def State.derTq (s : State) (a : Nat) : Int := bits (s.xw a 0x6E) 7 0
def State.derSpd (s : State) (a : Nat) : Int := bits (s.xw a 0x6E) 15 8
/-- IQMAX, replaced in homing PRESS (R400). -/
def State.iqBase (s : State) (a : Nat) : Int := if (s.prof a).iqSave then min (s.xi a 0x42) (s.pz a 0x30A) else s.xi a 0x42
def State.iqMax (s : State) (a : Nat) : Int := divRnd (s.iqBase a * s.derTq a) 100
def State.vcMax (s : State) (a : Nat) : Int := divRnd (s.xi a 0x43 * s.derSpd a) 100
def State.vMax (s : State) (a : Nat) : Int := divRnd (s.pz a 0x305 * s.derSpd a) 100

/-! ### Life counters -/

def State.cax (s : State) (a : Nat) : CartAx := Tab.get {} s.cart.ax a
def State.setCax (s : State) (a : Nat) (c : CartAx) : State := { s with cart := { s.cart with ax := Tab.set {} s.cart.ax a c } }

/-- Pass period of an axis, ns. -/
def State.tPass (s : State) (a : Nat) : Nat := s.tCyc * s.kr a

/-- TEMP1 of an axis's node, or of its local axis, in 0.1 °C (R418). -/
def State.temp1 (s : State) (a : Nat) : Int :=
  match s.planAxis a with
  | some p =>
    if p.isLocal then s.lxTemp p.nslot else (Tab.get {} s.net.nodes p.node).temp1
  | none => 0

/-- Section SVM's share of the life accounting (R416, R418): θw, LSTATE and the five counters. -/
def State.lifePass (s : State) (a : Nat) : State :=
  let c := s.ctl a
  let th := s.xi a 0x2A
  let th := sat 32 (th + divRnd (s.xi a 0x71 * ((s.temp1 a * 65536 - 10 * th) * 2 ^ 62 + 10 * s.xi a 0x72 * (c.id * c.id + c.iq * c.iq)))
    (10 * 2 ^ 93))
  let k := (clampI 0 63 ((th - 20 * 65536) / (2 * 65536))).toNat
  let st := s.xw a 0x2B
  let v := absI c.v
  let lv := s.xi a 0x70
  let run := bit st 0
  let start := decide (lv ≤ v) && !run
  let run := if start then true else if 2 * v < lv then false else run
  let ltot := s.xi a 0x73
  let hot := bit st 1
  let hotNow := decide (ltot < th) && !hot
  let hot := if hotNow then true else if th < ltot - 5 * 65536 then false else hot
  let s := (s.setXi a 0x2A th).setXw a 0x2B (putBit (putBit st 0 run) 1 hot)
  let s := (s.addLife a 0 (v * s.kr a).toNat).addLife a 1 ((s.cax a).aft.getD k 0)
  let s := s.addLife a 2 (b2n start)
  let s := s.addLife a 3 (if s.xi a 0x6F < absI c.iq then (divRnd (s.tPass a * 256) 1000).toNat else 0)
  s.addLife a 4 (b2n hotNow)

/-! ### Ageing factor (R418) -/

/-- ln 2 · 2^96. -/
def ln2Q96 : Int := 54916777467707473351141471128

/-- Σ r^k/k! by terms: `t` is the present term, scaled by 2^96. -/
def expSeries (r : Int) : Nat → Int → Int → Int
  | 0, _, _ => 0
  | f + 1, k, t => t + expSeries r f (k + 1) (t * r / (2 ^ 96 * k))

/-- round((scale ÷ dv) · exp(num ÷ den)), saturating at `mx`. `den` and `dv` are positive. -/
def expScaled (num den scale dv : Int) (mx : Nat) : Nat :=
  let x := num * 2 ^ 96 / den
  let n := x / ln2Q96
  if 64 < n then mx
  else if n < -64 then 0
  else
    let m := expSeries (x % ln2Q96) 34 1 (2 ^ 96)
    min mx (divRnd (scale * m * 2 ^ (n + 64).toNat) (dv * 2 ^ 160)).toNat

/-- Entry k of AFT for TREF (°C), EA (meV) and a pass period (ns). -/
def aftEntry (tref ea tp k : Nat) : Nat :=
  let a : Int := 100 * tref + 27315
  let b : Int := 100 * (21 + 2 * k) + 27315
  if ea = 0 then min (2 ^ 32 - 1) (divRnd (tp * 256) 1000).toNat
  else expScaled (ea * 10000000 * (b - a)) (8617 * (a * b)) (tp * 256) 1000 (2 ^ 32 - 1)

def aftTable (tref ea tp : Nat) : List Nat := (List.range 64).map (aftEntry tref ea tp)

end Sys2Proof.Machine
end

