-- ==== Sys2Proof/Machine/Crc.lean ====
section
/-! DEFINITION. The cyclic redundancy checks: CRC-32 of IEEE 802.3 (R121), CRC-16 with polynomials 0x1021 and 0x8BB7. -/

namespace Sys2Proof.Machine

/-- One bit of the reflected CRC-32. -/
def crc32Bit (c : Word) : Word := if c.getLsbD 0 then (c >>> 1) ^^^ 0xEDB88320 else c >>> 1

/-- One byte of the reflected CRC-32. -/
def crc32Byte (c : Word) (b : Byte) : Word :=
  crc32Bit (crc32Bit (crc32Bit (crc32Bit (crc32Bit (crc32Bit (crc32Bit (crc32Bit (c ^^^ b.setWidth 32))))))))

/-- CRC-32 (IEEE 802.3) of bytes in sending order (R121). -/
def crc32 (l : List Byte) : Word := ~~~(l.foldl crc32Byte 0xFFFFFFFF)

/-- One bit of a 16-bit CRC, most significant bit first. -/
def crc16Bit (poly c : BitVec 16) : BitVec 16 := if c.getLsbD 15 then (c <<< 1) ^^^ poly else c <<< 1

def crc16Byte (poly c : BitVec 16) (b : Byte) : BitVec 16 :=
  let c := c ^^^ ((b.setWidth 16) <<< 8)
  crc16Bit poly (crc16Bit poly (crc16Bit poly (crc16Bit poly (crc16Bit poly (crc16Bit poly (crc16Bit poly (crc16Bit poly c)))))))

/-- A 16-bit CRC, most significant bit first, from a start value. -/
def crc16 (poly init : BitVec 16) (l : List Byte) : BitVec 16 := l.foldl (crc16Byte poly) init

end Sys2Proof.Machine
end

