-- ==== Sys2Proof/Machine/NetBase.lean ====
section
/-! DEFINITION. Frames, ports, nodes and queued messages (R110 to R123, R127, R140, R142): what the network and the
cartridges share. -/

namespace Sys2Proof.Machine

open Sys2Proof

/-! ### Timetable (Table 3.8), ns -/

def berthCount (rate : Nat) : Nat := if rate = 0 then 12 else if rate = 1 then 24 else 48
def tDyn (rate : Nat) : Nat := 500 + 1000 * berthCount rate
def minislots (rate : Nat) : Nat := (tCycle rate - tDyn rate - 256) / 128
def berthStart (k : Nat) : Nat := 500 + 1000 * k

/-- Code-group lag of a SAIL frame at boundary B (R105). -/
def sailLag (b : Nat) : Nat := (8 - b % 8) % 8
/-- Code-group lag of berth and dynamic frames of the cycle that begins at B (R105). -/
def berthLag (b : Nat) : Nat := (8 - (b + 500) % 8) % 8

/-! ### Frames -/

/-- The eight header bytes of Table 3.10. -/
def headerBytes (typ src dst len nax cyc slot dirn part zone : Nat) : List Byte :=
  leBytes 8 (typ + 0x10 + src * 2 ^ 8 + dst * 2 ^ 20 + len * 2 ^ 32 + nax * 2 ^ 37 + cyc % 256 * 2 ^ 40 + slot * 2 ^ 48 +
    dirn * 2 ^ 54 + part * 2 ^ 55 + zone * 2 ^ 56)

/-- Header, payload and CRC of a frame (R121). -/
def frameBytes (hdr payload : List Byte) : List Byte :=
  hdr ++ payload ++ leBytes 4 (crc32 (hdr ++ payload)).toNat

def hdrNum (l : List Byte) : Nat := leAt l 0 8
def hType (h : Nat) : Nat := field h 3 0
def hVer (h : Nat) : Nat := field h 7 4
def hSrc (h : Nat) : Nat := field h 19 8
def hLen (h : Nat) : Nat := field h 36 32
def hNax (h : Nat) : Nat := field h 39 37
def hCyc (h : Nat) : Nat := field h 47 40
def hSlot (h : Nat) : Nat := field h 53 48
def hPart (h : Nat) : Nat := field h 55 55
def hZone (h : Nat) : Nat := field h 63 56

/-- R123: a valid combination of TYPE, PART, NAX and LEN (Table 3.11). -/
def wellFormedHdr (h : Nat) : Bool :=
  let n := hNax h
  let l := hLen h
  match hType h with
  | 1 => hPart h == 0 && n == 0 && l == 10
  | 2 => (hPart h == 0 && n == 0 && l == 0) || (hPart h == 0 && 1 ≤ n && n ≤ 4 && l == 4 + 5 * n) ||
         (hPart h == 1 && 1 ≤ n && n ≤ 4 && l == 5 * n)
  | 3 => (hPart h == 0 && n == 0 && l == 0) || (hPart h == 0 && 1 ≤ n && n ≤ 4 && l == 4 + 5 * n) ||
         (hPart h == 1 && 1 ≤ n && n ≤ 4 && l == 5 * n)
  | 8 => hPart h == 0 && n == 0 && 1 ≤ l && l ≤ 24
  | 9 => hPart h == 0 && n == 0 && 1 ≤ l && l ≤ 24
  | _ => false

def crcOk (l : List Byte) : Bool :=
  12 ≤ l.length && leAt l (l.length - 4) 4 == (crc32 (l.take (l.length - 4))).toNat

def framePayload (l : List Byte) : List Byte := (l.drop 8).take (l.length - 12)

/-! ### Ports and branches -/

def State.portEn (s : State) (p : Nat) : Bool := s.flag (pCfg p) 0
def State.topo (s : State) (p : Nat) : Nat := s.fld (pCfg p) 2 1
def State.pairOf (s : State) (p : Nat) : Nat := s.fld (pCfg p) 7 4
/-- The branch a port serves: a ring tail serves its head's branch (R110). -/
def State.branchOf (s : State) (p : Nat) : Nat := if s.topo p = 2 then s.pairOf p else p
/-- The port of a branch on the head or the tail path (R111). -/
def State.portOf (s : State) (b : Nat) (tail : Bool) : Nat := if tail && s.topo b = 1 then s.pairOf b else b

def State.node (s : State) (a : Nat) : Node := Tab.get {} s.net.nodes a
def State.setNode (s : State) (a : Nat) (n : Node) : State :=
  { s with net := { s.net with nodes := Tab.set {} s.net.nodes a n } }
def State.updNode (s : State) (a : Nat) (f : Node → Node) : State := s.setNode a (f (s.node a))

/-- Nodes recorded on a branch, with their addresses. -/
def State.branchNodes (s : State) (b : Nat) : List (Nat × Node) :=
  s.net.nodes.filter (fun e => e.1 / 256 == b && e.2.state != 0)

/-- R161: a member whose berth frames were admitted within the last 16 cycles. -/
def State.present (s : State) (n : Node) : Bool := n.state == 2 && n.seen && decide ((s.cycle - n.lastSeen).toNat < 16)

/-- Absent at least 16 cycles. -/
def State.absent16 (s : State) (n : Node) : Bool := !n.seen || decide (16 ≤ (s.cycle - n.lastSeen).toNat)

def nodeNax (n : Node) : Nat := (leAt n.join 4 1) % 16
def nodeCaps (n : Node) : Nat := leAt n.join 5 1
def nodeTs (n : Node) : Nat := leAt n.join 6 2
def nodeTa (n : Node) : Nat := leAt n.join 8 2
def nodeHop (n : Node) : Nat := leAt n.join 10 1

/-- The delay that TIME holds for a node, in 2^−4 ns: estimated until the first answered echo (R164). -/
def nodeDelay (n : Node) : Int :=
  if n.tail then (if n.dlyT = 0 then n.dEst else n.dlyT) else (if n.dlyH = 0 then n.dEst else n.dlyH)

/-- PORT_STAT.NODES of a branch: its joined nodes (Table 3.7). -/
def State.countNodes (s : State) (b : Nat) : State :=
  s.setFld (pStat b) 20 16 (min 24 ((s.branchNodes b).filter (fun e => e.2.state == 2 || e.2.state == 4)).length)

/-- Table 3.6: the port's transmitted code groups loop back to its own receiver. -/
def State.looped (s : State) (p : Nat) : Bool := s.flag (pCfg p) 12

/-- A frame originated on a port: recorded and counted (R153: only with the helm and a valid identity). -/
def State.sendFrame (s : State) (p start : Nat) (bytes : List Byte) : State :=
  if s.mayOriginate && s.portEn p then
    let s := (s.emit (.frame p start bytes)).incFld (pCfg p + 0x18) 31 0 1
    if s.looped p then { s with net := { s.net with loopTx := s.net.loopTx ++ [(p, bytes)] } } else s
  else s

/-- What a port's receiver hears: with LOOP = 1 nothing but frames the port itself has sent in the cycle. -/
def State.hears (s : State) (p : Nat) (bytes : List Byte) : Bool := s.portEn p && (!s.looped p || s.net.loopTx.contains (p, bytes))

/-- BPn_TXDIS follows PORT_CFG.EN (R103): driven when EN has changed from `old`. -/
def State.driveTxDis (s : State) (p : Nat) (old : Bool) : State :=
  if s.portEn p == old then s else s.emit (.pin 15 p (b2n old))

/-- TIME_STAT.RUN falls when no enabled port is left to originate SAIL frames on (Table 4.3). -/
def State.runStops (s : State) : State :=
  if (List.range 16).any (fun p => s.portEn p) then s else s.clrFlag TIME_STAT 1

/-- PORT_STAT [5:3] follow the side-band pins (Table 3.7): MOD_PRESENT is BPn_ABS_N low, LOS and TX_FAULT the other two. -/
def State.sfpBits (s : State) (p : Nat) : Word :=
  let v := Tab.get 1 s.net.sfp p
  ofNat (8 * ((v + 1) % 2) + 16 * (v / 2 % 2) + 32 * (v / 4 % 2))

/-! ### Queued downlink messages -/

/-- Header and body of a dynamic-segment message (R142). SEQ is given. -/
def dynBody (msg seq param : Nat) (body : List Byte) : List Byte :=
  leBytes 1 msg ++ leBytes 1 seq ++ leBytes 2 param ++ body

def State.queueDyn (s : State) (m : DynMsg) : State := { s with net := { s.net with dynQ := s.net.dynQ ++ [m] } }

def State.queueDyns (s : State) (l : List DynMsg) : State := { s with net := { s.net with dynQ := s.net.dynQ ++ l } }

/-- A message to a node by class (R140). SEQ is unstated but for TUNNEL: a free value (assumption log 2). -/
def State.queueTo (s : State) (addr cls msg param : Nat) (body : List Byte) : State :=
  (s.queueDyn { cls := cls, addr := addr, tail := (s.node addr).tail,
                body := dynBody msg (Config.freeBelow 255 s.free) param body }).draw

/-- An answer the CXM expects, for the uplink grants of R139. -/
def State.expectFrom (s : State) (addr cls payload : Nat) : State :=
  { s with net := { s.net with expect := s.net.expect ++ [(addr, cls, payload)] } }

/-- BERTH_GRANT of a node (Table 3.20). ZFLAGS.RATE is the rate in force, also in a grant of a prepared plan: the spec does not
say which (DESIGN CHOICE, assumption log 79). -/
def State.grantBody (s : State) (addr : Nat) (n : Node) : List Byte :=
  let b := addr / 256
  let topo := s.topo b
  let zf := s.rate + (if s.isIC then 8 else 0) + (if topo = 1 || topo = 3 then 16 else 0) + (if n.tail then 32 else 0) +
    (if n.dwake then 64 else 0) + (if n.dwake2 then 128 else 0)
  leBytes 8 n.uid ++ leBytes 2 addr ++ leBytes 1 n.upb ++ leBytes 1 n.dnb ++ leBytes 1 n.upb2 ++ leBytes 1 n.dnb2 ++
    leBytes 1 zf ++ leBytes 1 n.plan ++ leBytes 4 n.start.toNat ++ leBytes 4 (n.sofs % 2 ^ 32).toNat ++ leBytes 4 0

/-! ### Booms (R127, R170, R174) -/

def State.queueBoom (s : State) (addr : Nat) (close cmd : Bool) : State :=
  let b := addr / 256
  let q := Tab.get [] s.net.booms b
  { s with net := { s.net with booms := Tab.set [] s.net.booms b (q ++ [{ addr := addr, close := close, left := 3, cmd := cmd }]) } }

def State.setOps (s : State) (l : List NetOp) : State := { s with net := { s.net with ops := l } }

/-- First operation in progress on a node with an opcode. -/
def State.opOn (s : State) (opc addr : Nat) : Option NetOp := s.net.ops.find? (fun o => o.opc == opc && o.addr == addr)

/-- An operation ends: it leaves the list and its command completes. -/
def State.endOp (s : State) (o : NetOp) (st : St) (lo : Nat := 0) : State :=
  (s.setOps (s.net.ops.erase o)).complete o.src o.opc o.desc st lo

/-- An operation replaced in place. -/
def State.updOp (s : State) (o o' : NetOp) : State := s.setOps (s.net.ops.map (fun x => if x = o then o' else x))

end Sys2Proof.Machine
end

