-- ==== Sys2Proof/Machine/Cart.lean ====
section
/-! DEFINITION. Drive cartridges: the berth channel (R132, R409), transactions (R410), authentication (R411 to R414),
load, write-back, end of life and policy (R417 to R427), records and events (R431, R432). -/

namespace Sys2Proof.Machine

open Sys2Proof

abbrev CART_CFG : Nat := CART_B
abbrev CART_FLAGS : Nat := CART_B + 0x4
abbrev cartReg (a o : Nat) : Nat := CART_B + 0x1000 + a * 0x10 + o

def State.cartClass (s : State) (a : Nat) : Nat := s.fld (cartReg a 0) 2 0
def State.cartPresent (s : State) (a : Nat) : Bool := s.flag (cartReg a 0) 7

/-! ### Channel -/

/-- The cartridge channel of an axis: node address and axis slot; none for class NONE (R424). Axis slots 4 and above
have no presence bit and no SLOT code: no channel (DEDUCED, assumption log 30). -/
def State.cartChan (s : State) (a : Nat) : Option (Nat × Nat) :=
  match s.actAxis a with
  | some p => if !p.isLocal && decide (p.nslot < 4) && bit (ofNat (nodeCaps (s.node p.node))) 1 then some (p.node, p.nslot) else none
  | none => none

/-- The chunks of a message: header bits [5:0] and data (Table 3.16, R409). -/
def chunksOf (slot : Nat) : Nat → Bool → List Byte → List (Nat × List Byte)
  | 0, _, _ => []
  | f + 1, som, l =>
    let d := l.take 3
    let r := l.drop 3
    (slot + d.length * 4 + b2n som * 16 + b2n r.isEmpty * 32, d) :: (if r.isEmpty then [] else chunksOf slot f false r)

/-- Bytes 12 to 15 of a downlink node block: the chunk on its way, or none, with the acknowledge (R132). -/
def cartChunkOut (n : Node) : List Byte :=
  let ack := b2n n.cart.rxTog * 128
  match n.cart.txQ with
  | c :: _ => leBytes 1 (c.1 + b2n (!n.cart.txTog) * 64 + ack) ++ slice c.2 0 3
  | [] => leBytes 1 (b2n n.cart.txTog * 64 + ack) ++ [0, 0, 0]

/-- The channel takes a chunk: the acknowledge frees the next chunk to send, new data is collected (R132). Answers
the message that is complete, with its slot. -/
def CartChan.accept (c : CartChan) (chunk : List Byte) : CartChan × Option (Nat × List Byte) :=
  let h := leAt chunk 0 1
  let cnt := h / 4 % 4
  let tog := h / 64 % 2 == 1
  let ack := h / 128 == 1
  let c : CartChan := if !c.txQ.isEmpty && ack != c.txTog then { c with txQ := c.txQ.drop 1, txTog := !c.txTog } else c
  if cnt = 0 || tog == c.rxTog then (c, none)
  else
    let buf := (if h / 16 % 2 = 1 then [] else c.rxBuf) ++ (chunk.drop 1).take cnt
    let c : CartChan := { c with rxTog := tog, rxBuf := buf }
    if h / 32 % 2 = 1 then ({ c with rxBuf := [] }, some (h % 4, buf)) else (c, none)

/-! ### Keys (R411 to R414) -/

def State.siteKeyOk (s : State) : Bool := [0x10, 0x11, 0x12, 0x13].all (fun w => Tab.get 0 s.boot.kcls w == 1)
def State.siteKey (s : State) : List Byte := ([0x10, 0x11, 0x12, 0x13].map (fun w => leBytes 4 (Tab.get 0 s.boot.kval w))).flatten

/-- K_c of a UID (R411). -/
def State.cartKey (s : State) (uid : List Byte) : List Byte :=
  cmac s.siteKey ([0x01, 0x43, 0x58, 0x4D, 0x4B, 0x00] ++ uid ++ [0x00, 0x80])

def State.axKey (s : State) (a : Nat) : List Byte := s.cartKey (slice (s.cax a).ident 0 8)

/-- A request with its MAC (R414). -/
def State.macMsg (s : State) (a cmd : Nat) (body : List Byte) : List Byte :=
  let mac := cmac (s.axKey a) (leBytes 1 cmd ++ (s.cax a).nonce ++ body)
  leBytes 1 cmd ++ leBytes 1 (body.length + 16) ++ body ++ mac

/-! ### Counters (Table 11.5, R417, R424) -/

/-- CXM units in a tag unit of each counter. -/
def State.cartUnits (s : State) (a : Nat) : List Nat := [max (s.pn a 0x101) 1 * 65536, 256000000, 1, 256000, 1]
def State.lifeOf (s : State) (a k : Nat) : Nat := Tab.get 0 s.mem.life (a * 8 + k)

/-- The five counters in tag units. -/
def State.tagCounters (s : State) (a : Nat) : List Nat := (s.cartUnits a).zipIdx.map (fun e => s.lifeOf a e.2 / e.1)

def ratedOf (ident : List Byte) (k : Nat) : Nat := leAt ident (12 + 8 * k) 8

/-- Remaining hours of each counter whose rate is known (R424). -/
def State.remaining (s : State) (a : Nat) : List Nat :=
  let x := s.cax a
  ((s.cartUnits a).zipIdx.filterMap (fun e =>
    let r := ratedOf x.ident e.2
    let rate := x.rates.getD e.2 0
    if r = 0 || rate = 0 then none else some ((r * e.1 - s.lifeOf a e.2) * 65536 / rate)))

def minOf : List Nat → Option Nat
  | [] => none
  | x :: r => match minOf r with | some y => some (min x y) | none => some x

def State.nearPct (s : State) : Nat := leAt s.cart.policy 48 2
def State.nearDays (s : State) : Nat := leAt s.cart.policy 50 2

/-- Class of an authenticated cartridge (R424): 3 GOOD, 4 NEAR_END, 5 EXPIRED. -/
def State.lifeClass (s : State) (a : Nat) : Nat :=
  let x := s.cax a
  let used := (s.cartUnits a).zipIdx.map (fun e => (ratedOf x.ident e.2 * e.1, s.lifeOf a e.2))
  let used := used.filter (fun e => e.1 != 0)
  if used.any (fun e => e.1 ≤ e.2) then 5
  else if used.any (fun e => s.nearPct * e.1 ≤ 1000 * e.2) then 4
  else match minOf (s.remaining a) with
    | some h => if h < s.nearDays * 24 then 4 else 3
    | none => 3

/-- CART_EOL follows the smallest remaining time (R424). -/
def State.setEol (s : State) (a : Nat) : State :=
  s.setRg (cartReg a 0xC) (match minOf (s.remaining a) with | some h => ofNat (min h 0xFFFFFFFE) | none => 0xFFFFFFFF)

/-- One step of a rate's exponential average, 2^−16 CXM units an hour; the first interval starts it. -/
def rateStep (old new : Nat) (first : Bool) : Nat :=
  if first then new else ((old : Int) + divRnd ((new : Int) - old) 1008).toNat

/-- The rates after a write-back (R424). -/
def State.updRates (s : State) (a : Nat) : State :=
  let x := s.cax a
  let now := (List.range 5).map (s.lifeOf a)
  let x' : CartAx := match x.lastT with
    | some t =>
      let dt := s.ntime - t
      if dt = 0 then x
      else
        let inst := (List.range 5).map (fun k => (now.getD k 0 - x.lastC.getD k 0) * 65536 * 3600000000000 / dt)
        { x with rates := (List.range 5).map (fun k => rateStep (x.rates.getD k 0) (inst.getD k 0) x.rates.isEmpty) }
    | none => x
  s.setCax a { x' with lastC := now, lastT := some s.ntime }

/-! ### Records (R431) -/

/-- A record waits in life memory while ring 28 is full; beyond nine it is lost. -/
def State.cartPush (s : State) (a : Nat) (recd : List Byte) : State :=
  let x := s.cax a
  if x.held.isEmpty && s.ringRoom 28 then s.pushRing 28 recd
  else if x.held.length < 9 then (s.setCax a { x with held := x.held ++ [recd] }).flagEvent CART_FLAGS 2 215 0
  else s.loseRing 28

/-- The held records of an axis go to ring 28 as far as it has room. -/
def State.cartDrain1 (s : State) (a : Nat) : Nat → State
  | 0 => s
  | f + 1 => match (s.cax a).held with
    | r :: l => if s.ringRoom 28 then State.cartDrain1 ((s.pushRing 28 r).setCax a { (s.pushRing 28 r).cax a with held := l }) a f else s
    | [] => s
def State.cartDrain (s : State) : State := (s.cart.ax.map (fun e => e.1)).foldl (fun s a => s.cartDrain1 a 9) s

/-- A ring 28 record: KIND, axis and status. An AUTH record names the tag that answered IDENT. -/
def State.cartRec (s : State) (a kind st : Nat) : State :=
  let uid := slice (if kind = 1 then (s.cax a).gotId else (s.cax a).ident) 0 8
  s.cartPush a (leBytes 1 kind ++ leBytes 1 (s.cartClass a) ++ leBytes 2 a ++ uid ++ leBytes 4 s.cycle.toNat ++
    ((s.tagCounters a).map (leBytes 8)).flatten ++ leBytes 4 (s.rg (cartReg a 0xC)).toNat ++ leBytes 1 st ++ [0, 0, 0])

/-! ### Class and policy (R424 to R427) -/

def State.policyAt (s : State) (c k : Nat) : Nat := leAt s.cart.policy (8 * c + k) 1

/-- TQ and SPD of a class (R426). -/
def State.derating (s : State) (c : Nat) : Nat × Nat :=
  if s.policyAt c 0 = 0 then (100, 100) else (s.policyAt c 1, s.policyAt c 2)

/-- A slot word to be written at the next boundary (R419). -/
def State.cartWord (s : State) (a o : Nat) (w : Word) : State :=
  { s with cart := { s.cart with wr := s.cart.wr ++ [(a, o, w)] } }

/-- LDERATE and the register follow the class and the policy. -/
def State.derate (s : State) (a : Nat) : State :=
  let c := s.cartClass a
  let d := s.derating c
  (s.putFlag (cartReg a 0) 8 (s.policyAt c 0 == 2)).cartWord a 0x6E (ofNat (d.1 + d.2 * 256))

/-- A class is entered: register, derating, and the class event when the policy's EVT bit asks for it (R432). -/
def State.setClass (s : State) (a c : Nat) (event : Bool) : State :=
  let s := (s.setFld (cartReg a 0) 2 0 c).derate a
  let src := if c = 2 then 208 else if c = 1 then 209 else if c = 4 then 210 else 211
  if event && c != 0 && c != 3 && s.policyAt c 3 % 2 == 1 then s.raise src a else s

/-- A refused axis that is OFF stays OFF (R427). -/
def State.cartRefused (s : State) (a : Nat) : Bool := s.flag (cartReg a 0) 8

/-- Slot words of Table 11.6 and the AFT table from the identity block of an authenticated tag, or for none.
LKTAU of an axis without a tag is not stated: a free value (assumption log 2). -/
def State.deriveLife (s : State) (a : Nat) : State :=
  let x := s.cax a
  let tag := x.auth
  let ir := leAt x.ident 52 2
  let ib := s.pn a 0x1C
  let tp := s.tPass a
  let tref := if tag then leAt x.ident 58 1 else 80
  let ea := if tag then leAt x.ident 56 2 else 0
  let liovl := if tag then sat 32 (divRnd (ir * 65536 * 2 ^ 31) (100 * max ib 1)) else 2 ^ 31 - 1
  let tau := max (leAt x.ident 55 1) 1
  let lktau := if tag then ofInt (sat 32 (divRnd (tp * 2 ^ 31) (tau * 1000000000))) else Config.freeWord s.free
  let s := if tag then s else s.draw
  let lkrth := if tag then sat 32 (divRnd (leAt x.ident 54 1 * 65536 * (100 * ib) ^ 2) (max (ir * 65536) 1 ^ 2)) else 0
  let ltot : Int := if tag then leAt x.ident 59 1 * 65536 else 200 * 65536
  let s := s.setCax a { s.cax a with aft := aftTable tref ea tp }
  let s := (s.cartWord a 0x6F (ofInt liovl)).cartWord a 0x70 (ofInt (lvStart (s.pn a 0x101) s.tCyc))
  ((s.cartWord a 0x71 lktau).cartWord a 0x72 (ofInt lkrth)).cartWord a 0x73 (ofInt ltot)

/-! ### Transactions -/

def State.cartState (s : State) (a n : Nat) : State := s.setFld (cartReg a 0) 6 4 n

/-- A request is sent on the path of R409. -/
def State.cartTx (s : State) (a : Nat) : State :=
  let x := s.cax a
  if x.msg.length ≤ 30 then
    s.updNode x.addr (fun n => { n with cart := { n.cart with txQ := n.cart.txQ ++ chunksOf x.slot 12 true x.msg } })
  else
    let body := x.msg ++ List.replicate ((4 - x.msg.length % 4) % 4) 0
    s.queueTo x.addr 4 0x09 x.slot body

/-- A new request of the transaction. -/
def State.cartAsk (s : State) (a step : Nat) (msg : List Byte) : State :=
  (s.setCax a { s.cax a with step := step, msg := msg, sends := 1 }).cartTx a

/-- A read of at most 64 bytes. -/
def readMsg (off n : Nat) : List Byte := [3, 3] ++ leBytes 2 off ++ leBytes 1 n

/-- The life block of a write-back (Table 11.4, R422). -/
def State.lifeBlock (s : State) (a : Nat) : List Byte :=
  let x := s.cax a
  let b := ((s.tagCounters a).map (leBytes 8)).flatten ++ leBytes 4 (x.seq + 1) ++ leBytes 4 0
  b ++ cmac (s.axKey a) (0x06 :: slice x.ident 0 8 ++ b)

/-- First request of a transaction. -/
def State.cartBegin (s : State) (a : Nat) (j : CartJob) : State :=
  match s.cartChan a with
  | none => s
  | some ch =>
    let x := s.cax a
    let s := s.setCax a { x with job := some j, addr := ch.1, slot := ch.2, got := [] }
    match j.kind with
    | .auth => (((s.setCax a { s.cax a with gotId := [] }).setClass a 1 false).cartState a 1).cartAsk a 0 [1, 0]
    | .writeBack => (s.cartState a 2).cartAsk a 0 (s.macMsg a 5 (s.lifeBlock a))
    | .read => (s.cartState a 3).cartAsk a 0 (readMsg j.off (min 64 j.len))
    | .write => (s.cartState a 3).cartAsk a 0 (s.macMsg a 4 (leBytes 2 j.off ++ j.data.take 64))

/-- Completion of a host command by its transaction. -/
def State.cartReply (s : State) (j : CartJob) (st : St) (lo : Nat) : State :=
  match j.cmd, j.kind with
  | some c, .auth => s.complete c.1 0x70 c.2 st lo
  | some c, .read => s.complete c.1 0x71 c.2 st lo
  | some c, .write => s.complete c.1 0x72 c.2 st lo
  | _, _ => s

/-- A transaction that cannot run any more when its turn comes: the channel is gone, or the tag is not authenticated. -/
def State.cartUnable (s : State) (a : Nat) (j : CartJob) : Option St :=
  if (s.cartChan a).isNone then some .badTarget
  else match j.kind with
    | .writeBack => if (s.cax a).auth then none else some .timeout
    | .write => if (s.cax a).auth then none else some .authFail
    | _ => none

/-- What waits for the write-back of an axis hears of its end: flushes (R428) and removal warnings (R423). -/
def State.wbEnded (s : State) (a : Nat) (ok : Bool) : State :=
  let fl := s.cart.flushes.map (fun f => if f.2.2.1.contains a then (f.1, f.2.1, f.2.2.1.erase a, f.2.2.2 || !ok) else f)
  let rm := s.cart.removals.map (fun r => (r.1, r.2.erase a))
  let s := { s with cart := { s.cart with flushes := fl.filter (fun f => !f.2.2.1.isEmpty), removals := rm.filter (fun r => !r.2.isEmpty) } }
  let s := (rm.filter (fun r => r.2.isEmpty)).foldl (fun s r =>
    s.updNode r.1 (fun n => { n with ncmd := if bit (ofNat n.ncmd) 1 then n.ncmd else n.ncmd + 2 })) s
  (fl.filter (fun f => f.2.2.1.isEmpty)).foldl (fun s f => s.complete f.1 0x74 f.2.1 (if f.2.2.2 then .timeout else .ok)) s

/-- A write-back has failed or cannot be made: WB_LOST, event 213 (R423). -/
def State.wbLost (s : State) (a st : Nat) : State := ((s.cartRec a 5 st).raise 213 a).wbEnded a false

/-- The next transaction of an idle cartridge starts; those that cannot run end. -/
def State.cartNext (s : State) (a : Nat) : Nat → State
  | 0 => s
  | f + 1 =>
    let x := s.cax a
    match x.job, x.queue with
    | none, j :: r =>
      let s := s.setCax a { x with queue := r }
      match s.cartUnable a j with
      | some st => State.cartNext (if j.kind = .writeBack then s.wbLost a 8 else s.cartReply j st (s.cartClass a)) a f
      | none => s.cartBegin a j
    | _, _ => s

/-- A transaction waits for its turn: automatic ones go before host commands (R428). Occasions of a write-back that
fall together make one (R422). -/
def State.cartEnqueue (s : State) (a : Nat) (j : CartJob) : State :=
  let x := s.cax a
  if j.kind = .writeBack && x.queue.any (fun q => q.kind == .writeBack) then s
  else
    let q := if j.cmd.isNone then x.queue.filter (fun q => q.cmd.isNone) ++ [j] ++ x.queue.filter (fun q => q.cmd.isSome) else x.queue ++ [j]
    (s.setCax a { x with queue := q }).cartNext a (q.length + 1)

/-- The transaction in progress ends. -/
def State.cartEnd (s : State) (a : Nat) : State :=
  let s := (s.setCax a { s.cax a with job := none, msg := [], sends := 0, gotA := [], got := [] }).cartState a 0
  s.cartNext a ((s.cax a).queue.length + 1)

/-- The axis has no authenticated tag any more: the words of Table 11.6 follow (R419). -/
def State.unAuth (s : State) (a : Nat) : State :=
  if (s.cax a).auth then (s.setCax a { s.cax a with auth := false }).deriveLife a else s

/-- An authentication run ends with a class: AUTH record, class event, completion (R413, R428, R431). -/
def State.authEnd (s : State) (a : Nat) (j : CartJob) (c : Nat) (st : St) (tag : Nat) : State :=
  let s := if c < 3 then s.unAuth a else s
  let s := (s.setClass a c true).cartRec a 1 tag
  (s.cartReply j st c).cartEnd a

/-- A write-back is asked for. -/
def State.askWb (s : State) (a : Nat) : State := s.cartEnqueue a { kind := .writeBack }

/-- The class that R424 gives; EXPIRED waits for a write-back that precedes it (R422). -/
def State.judge (s : State) (a : Nat) (afterWb : Bool) : State :=
  let c := s.lifeClass a
  let s := s.setEol a
  if c = s.cartClass a then s
  else if c = 5 && !afterWb then (s.setCax a { s.cax a with after := some 5 }).askWb a
  else (s.setClass a c true).cartRec a 4 0

/-- Life blocks read at authentication: the one that verifies with the SEQ of AUTH; counters and SEQ (R413 step 4). -/
def State.pickBlock (s : State) (id : List Byte) (seq : Nat) (ba bb : List Byte) : Option (List Nat × Nat) :=
  let key := s.cartKey (slice id 0 8)
  let good (b : List Byte) : Bool := b.drop 48 == cmac key (0x06 :: slice id 0 8 ++ b.take 48) && leAt b 40 4 == seq
  let cnt (b : List Byte) : List Nat := (List.range 5).map (fun k => leAt b (8 * k) 8)
  let blank (b : List Byte) : Bool := b.all (fun x => x == 0xFF)
  if good ba then some (cnt ba, seq)
  else if good bb then some (cnt bb, seq)
  else if blank ba && blank bb then some ([0, 0, 0, 0, 0], 0)
  else none

/-- Load of an authenticated tag (R417, R418, R419, R424). -/
def State.cartLoad (s : State) (a : Nat) (cnt : List Nat) (seq : Nat) : State :=
  let x := s.cax a
  let same := slice x.ident 0 8 == slice x.gotId 0 8 && !x.ident.isEmpty
  let life := (s.cartUnits a).zipIdx.foldl (fun t e =>
    let v := min (2 ^ 64 - 1) (cnt.getD e.2 0 * e.1)
    Tab.upd 0 t (a * 8 + e.2) (fun old => if same then max old v else v)) s.mem.life
  let x : CartAx := { x with ident := x.gotId, seq := seq, auth := true }
  let x : CartAx := if same then x else { x with rates := [], lastC := [], lastT := none }
  let s := { s with mem := { s.mem with life := life } }.setCax a x
  let s := (s.setRg (cartReg a 4) (ofNat (leAt x.ident 0 4))).setRg (cartReg a 8) (ofNat (leAt x.ident 4 4))
  (s.deriveLife a).setEol a

/-- Step by step through R413. -/
def State.authStep (s : State) (a : Nat) (j : CartJob) (step st : Nat) (body : List Byte) : State :=
  let x := s.cax a
  match step with
  | 0 =>
    let id := body.drop 1
    if st ≠ 0 || id.length ≠ 64 || leAt id 10 1 ≠ 1 then s.authEnd a j 1 .ok st
    else if !s.siteKeyOk then (s.flagEvent CART_FLAGS 1 214 0).authEnd a j 2 .authFail st
    else
      let n := ((List.range 4).map (fun k => leBytes 4 (Config.freeWord (s.free + k)).toNat)).flatten
      let s := { s with free := s.free + 4 }.setCax a { x with gotId := id, nonce := n }
      s.cartAsk a 1 ([2, 16] ++ n)
  | 1 =>
    let seq := (body.drop 1).take 4
    let mac := cmac (s.cartKey (slice x.gotId 0 8)) (0x02 :: x.nonce ++ x.gotId ++ seq)
    if st ≠ 0 || body.length ≠ 21 || body.drop 5 != mac then s.authEnd a j 2 .authFail st
    else (s.setCax a { x with gotSeq := leAt seq 0 4 }).cartAsk a 2 (readMsg 0x40 64)
  | 2 =>
    if st ≠ 0 || body.length ≠ 65 then s.authEnd a j 2 .authFail st
    else (s.setCax a { x with gotA := body.drop 1 }).cartAsk a 3 (readMsg 0x80 64)
  | _ =>
    if st ≠ 0 || body.length ≠ 65 then s.authEnd a j 2 .authFail st
    else match s.pickBlock x.gotId x.gotSeq x.gotA (body.drop 1) with
      | none => s.authEnd a j 2 .authFail st
      | some p =>
        let s := s.cartLoad a p.1 p.2
        let c := s.lifeClass a
        if c = 5 then
          let s := s.setCax a { s.cax a with after := some 5 }
          ((s.cartReply j .ok 5).cartRec a 1 st).askWb a |>.cartEnd a
        else s.authEnd a j c .ok st

/-- A status other than OK as a host completion; the spec names none (DESIGN CHOICE, assumption log 30). -/
def tagSt (n : Nat) : St := if n = 0 then .ok else if n = 1 || n = 2 then .badOperand else if n = 3 || n = 4 then .authFail else .busy

/-- The class that waited for a write-back is entered (R422). -/
def State.afterWb (s : State) (a : Nat) : State :=
  match (s.cax a).after with
  | some c => ((s.setCax a { s.cax a with after := none }).setClass a c true).cartRec a 4 0
  | none => s

/-- A response of the outstanding request. -/
def State.cartStep (s : State) (a : Nat) (j : CartJob) (body : List Byte) : State :=
  let st := leAt body 0 1
  let x := s.cax a
  match j.kind with
  | .auth => s.authStep a j x.step st body
  | .writeBack =>
    if st = 0 then
      let s := (s.setCax a { x with seq := x.seq + 1 }).updRates a
      let s := (s.setEol a).cartRec a 2 0
      let s := if (s.cax a).after.isSome then s.afterWb a else if (s.cax a).auth then s.judge a true else s
      (s.wbEnded a true).cartEnd a
    else ((s.afterWb a).wbLost a st).cartEnd a
  | .read =>
    let got := x.got ++ body.drop 1
    if st ≠ 0 || body.length ≤ 1 then (s.cartReply j (if st = 0 then .timeout else tagSt st) 0).cartEnd a
    else if j.len ≤ got.length then
      let s := match j.cmd with | some c => s.emit (.dma (op64 c.2.op2 c.2.op3) (got.take j.len)) | none => s
      (s.cartReply j .ok 0).cartEnd a
    else (s.setCax a { x with got := got }).cartAsk a 0 (readMsg (j.off + got.length) (min 64 (j.len - got.length)))
  | .write =>
    if st ≠ 0 then (s.cartReply j (tagSt st) 0).cartEnd a
    else
      let j' : CartJob := { j with off := j.off + 64, data := j.data.drop 64 }
      if j'.data.isEmpty then (s.cartReply j .ok 0).cartEnd a
      else (s.setCax a { x with job := some j' }).cartAsk a 0 (s.macMsg a 4 (leBytes 2 j'.off ++ j'.data.take 64))

/-- A tag's response arrives (R408): it answers the request on its way, or is ignored. -/
def State.tagResponse (s : State) (a : Nat) (msg : List Byte) : State :=
  let x := s.cax a
  match x.job with
  | some j =>
    let body := (msg.drop 2).take (leAt msg 1 1)
    if !x.msg.isEmpty && leAt msg 0 1 = leAt x.msg 0 1 + 0x80 && body.length = leAt msg 1 1 && !body.isEmpty then
      s.cartStep a j body
    else s
  | none => s

/-- The axis whose transaction goes to a node and slot. -/
def State.cartAxisAt (s : State) (addr slot : Nat) : Option Nat :=
  (s.cart.ax.find? (fun e => e.2.job.isSome && e.2.addr == addr && e.2.slot == slot)).map (fun e => e.1)

def State.cartMsg (s : State) (addr slot : Nat) (body : List Byte) : State :=
  match s.cartAxisAt addr slot with
  | some a => s.tagResponse a body
  | none => s

/-- The cartridge channel of an admitted uplink node block. -/
def State.cartChunk (s : State) (addr : Nat) (chunk : List Byte) : State :=
  let r := (s.node addr).cart.accept chunk
  let s := s.updNode addr (fun n => { n with cart := r.1 })
  match r.2 with
  | some m => s.cartMsg addr m.1 m.2
  | none => s

/-- A transaction fails for want of responses (R410, R413, R428). -/
def State.cartFail (s : State) (a : Nat) (j : CartJob) : State :=
  match j.kind with
  | .auth => s.authEnd a j (if (s.cax a).step = 0 then 1 else 2) .timeout 8
  | .writeBack => ((s.afterWb a).wbLost a 8).cartEnd a
  | _ => (s.cartReply j .timeout 0).cartEnd a

/-- 200 ms have passed without a response: repeat, or fail after 3 sends (R410). -/
def State.tagTimeout (s : State) (a : Nat) : State :=
  let x := s.cax a
  match x.job with
  | some j => if 3 ≤ x.sends then s.cartFail a j else (s.setCax a { x with sends := x.sends + 1 }).cartTx a
  | none => s

/-! ### Presence, removal, intervals -/

/-- The run in progress and those that wait end without the tag (R423, R429). -/
def State.cartAbort (s : State) (a : Nat) : State :=
  let x := s.cax a
  let jobs := (match x.job with | some j => [j] | none => []) ++ x.queue
  let s := (s.setCax a { x with job := none, queue := [], msg := [], sends := 0, after := none }).cartState a 0
  jobs.foldl (fun s j => if j.kind = .writeBack then s.wbLost a 8 else s.cartReply j .timeout 1) s

/-- A tag's presence bit changes (R429, R423). -/
def State.tagPresence (s : State) (a : Nat) (on : Bool) : State :=
  if s.cartPresent a == on then s
  else
    let s := s.putFlag (cartReg a 0) 7 on
    if on then
      if s.flag CART_CFG 0 && s.holder then s.cartEnqueue a { kind := .auth } else s
    else
      let s := (s.cartAbort a).unAuth a
      (s.setClass a 1 false).cartRec a 3 0

/-- Axes of a node whose tag is authenticated. -/
def State.authAxes (s : State) (addr : Nat) : List Nat :=
  (s.pilot.act.axes.filter (fun p => !p.isLocal && p.node == addr && (s.cax p.axis).auth)).map (fun p => p.axis)

/-- A removal warning (R423): event 212 for each axis with a tag there (Table 14.7, DEDUCED, assumption log 30), write-backs,
NCMD[1] when the last has ended. -/
def State.removalWarning (s : State) (addr : Nat) : State :=
  let here := (s.pilot.act.axes.filter (fun p => !p.isLocal && p.node == addr && s.cartPresent p.axis)).map (fun p => p.axis)
  let s := here.foldl (fun s a => s.raise 212 a) s
  if !s.holder then s
  else
    let l := s.authAxes addr
    if l.isEmpty then s.updNode addr (fun n => { n with ncmd := if bit (ofNat n.ncmd) 1 then n.ncmd else n.ncmd + 2 })
    else
      let s := s.updNode addr (fun n => { n with ncmd := if bit (ofNat n.ncmd) 1 then n.ncmd - 2 else n.ncmd })
      let s := { s with cart := { s.cart with removals := s.cart.removals ++ [(addr, l)] } }
      l.foldl (fun s a => s.askWb a) s

/-- Interval of WB_MIN minutes in which the network time lies. -/
def State.wbIval (s : State) : Nat := s.ntime / (max s.cart.wbMin 1 * 60000000000)

/-- The scheduled write-back of an axis in an interval (R422); an axis without a tag gets its record (R431). -/
def State.wbScheduled (s : State) (a : Nat) : State :=
  let x := s.cax a
  if !s.flag CART_CFG 1 || x.wbDone = some s.wbIval then s
  else
    let s := s.setCax a { x with wbDone := some s.wbIval }
    if x.auth then (if s.holder then s.askWb a else s)
    else if s.cartPresent a then s
    else s.cartRec a 2 0

/-- Boundary: CART's slot words (R419), the write-back interval (R422), held records (R431). -/
def State.cartBoundary (s : State) : State :=
  let l := s.cart.wr
  let s := { s with cart := { s.cart with wr := [] } }
  let s : State := l.foldl (fun (s : State) e =>
    let s := s.axWrite e.1 (e.2.1 + 2 ^ 16) e.2.2
    if e.2.1 = 0x6E then (s.setFld (cartReg e.1 0) 23 16 (bits e.2.2 7 0)).setFld (cartReg e.1 0) 31 24 (bits e.2.2 15 8) else s) s
  let m := s.fld CART_CFG 15 8
  let s := if s.cart.wbEnd ≤ s.ntime then
      { s with cart := { s.cart with wbMin := m, wbEnd := (s.ntime / (max m 1 * 60000000000) + 1) * (max m 1 * 60000000000) } }
    else s
  s.cartDrain

/-- Axes whose binding a plan ends or moves to another node or slot are written back before its COMMIT (R422). -/
def State.cartUnbind (s : State) (new : Plan) : State :=
  if !s.holder then s
  else s.pilot.act.axes.foldl (fun s p =>
    let kept := new.axes.any (fun q => q.axis == p.axis && q.isLocal == p.isLocal && q.node == p.node && q.nslot == p.nslot)
    if !kept && (s.cax p.axis).auth then s.askWb p.axis else s) s

/-- The axis's binding ends: what runs or waits ends with it, but for a write-back on its way. -/
def State.cartLoose (s : State) (a c : Nat) : State :=
  let s := match (s.cax a).job with | some j => if j.kind = CartKind.writeBack then s else s.cartAbort a | none => s
  let s := (s.setCax a { s.cax a with auth := false, after := none }).clrFlag (cartReg a 0) 7
  (s.setClass a c false).deriveLife a

/-- A COMMIT: axes newly bound take class NONE or UNKNOWN and the presence their node reports; axes no longer bound
hold no tag; life values follow a changed pass period (R418). -/
def State.cartSwitch (s : State) (old new : Plan) : State :=
  let s := old.axes.foldl (fun (s : State) p => if new.axes.any (fun q => q.axis == p.axis) then s else s.cartLoose p.axis 1) s
  new.axes.foldl (fun s p =>
    let a := p.axis
    match old.axes.find? (fun q => q.axis == a && q.isLocal == p.isLocal && q.node == p.node && q.nslot == p.nslot) with
    | some q => if q.div = p.div && old.rate = new.rate then s else s.deriveLife a
    | none =>
      let chan := s.cartChan a
      let s := s.cartLoose a (if chan.isNone then 0 else 1)
      match chan with
      | some ch => s.tagPresence a (bit (ofNat (s.node ch.1).nstat) (8 + ch.2))
      | none => s) s

/-! ### Host commands -/

def execTagResponse (axis : Fin 256) (msg : List Byte) (s : State) : Host.Outcome State Fault Refusal := .next (s.tagResponse axis.val msg)
def execTagTimeout (axis : Fin 256) (s : State) : Host.Outcome State Fault Refusal := .next (s.tagTimeout axis.val)
def execTagPresenceChange (axis : Fin 256) (present : Bool) (s : State) : Host.Outcome State Fault Refusal :=
  .next (if (s.cartChan axis.val).isSome then s.tagPresence axis.val present else s)
def execRemovalWarning (node : Fin 4096) (s : State) : Host.Outcome State Fault Refusal := .next (s.removalWarning node.val)
def execWritebackScheduled (axis : Fin 256) (s : State) : Host.Outcome State Fault Refusal := .next (s.wbScheduled axis.val)

/-- CART_AUTH (R428). -/
def State.cartAuth (s : State) (src : Src) (d : Desc) : State :=
  s.soon src 0x70 d [] fun s =>
    if 256 ≤ d.tgt then s.complete src 0x70 d .badTarget
    else if !s.holder then s.complete src 0x70 d .ok (s.cartClass d.tgt)
    else if (s.cartChan d.tgt).isNone then s.complete src 0x70 d .badTarget
    else s.cartEnqueue d.tgt { kind := .auth, cmd := some (src, d) }

def execCartAuth (src : Src) (d : Desc) (s : State) : Host.Outcome State Fault Refusal := .next (s.cmd src 0x70 d fun s => s.cartAuth src d)

/-- CART_READ (R428): READ messages of at most 64 bytes. -/
def State.cartRead (s : State) (src : Src) (d : Desc) : State :=
  s.soon src 0x71 d [] fun s =>
    let n := d.op1.toNat
    if 256 ≤ d.tgt || (s.cartChan d.tgt).isNone then s.complete src 0x71 d .badTarget
    else if n < 1 || 1024 < n || 1024 < d.op0.toNat + n then s.complete src 0x71 d .badOperand
    else s.cartEnqueue d.tgt { kind := .read, cmd := some (src, d), off := d.op0.toNat, len := n }

def execCartRead (src : Src) (d : Desc) (s : State) : Host.Outcome State Fault Refusal := .next (s.cmd src 0x71 d fun s => s.cartRead src d)

/-- CART_WRITE (R428): the user area, by WRITE messages with their MAC. -/
def State.cartWrite (s : State) (src : Src) (d : Desc) (data : List Byte) : State :=
  s.soon src 0x72 d data fun s =>
    let n := d.op1.toNat
    if 256 ≤ d.tgt || (s.cartChan d.tgt).isNone then s.complete src 0x72 d .badTarget
    else if n < 1 || d.op0.toNat < 0xC0 || 0x400 < d.op0.toNat + n then s.complete src 0x72 d .badOperand
    else if !(s.cax d.tgt).auth then s.complete src 0x72 d .authFail
    else s.cartEnqueue d.tgt { kind := .write, cmd := some (src, d), off := d.op0.toNat, len := n, data := slice data 0 n }

def execCartWrite (src : Src) (d : Desc) (data : Option (List Byte)) (s : State) : Host.Outcome State Fault Refusal :=
  .next (s.cmd src 0x72 d fun s => match data with | some l => s.cartWrite src d l | none => s.complete src 0x72 d .dmaFail)

/-- A policy table that R425 accepts. -/
def policyOk (t : List Byte) : Bool :=
  (List.range 6).all (fun c => leAt t (8 * c) 1 ≤ 2 && leAt t (8 * c + 1) 1 ≤ 100 && leAt t (8 * c + 2) 1 ≤ 100) &&
    500 ≤ leAt t 48 2 && leAt t 48 2 ≤ 1000

/-- The policy table takes effect for all axes at the boundary (R425). -/
def State.dueCartPolicy (s : State) (src : Src) (d : Desc) (t : List Byte) : State :=
  let s := { s with cart := { s.cart with policy := slice t 0 64 } }
  (s.pilot.act.axes.foldl (fun s p => s.derate p.axis) s).complete src 0x73 d .ok

def execCartPolicy (src : Src) (d : Desc) (table : Option (List Byte)) (s : State) : Host.Outcome State Fault Refusal :=
  .next (s.cmd src 0x73 d fun s => match table with
    | some t => if policyOk (slice t 0 64) then s.atBoundary src 0x73 d (slice t 0 64) else s.complete src 0x73 d .badOperand
    | none => s.complete src 0x73 d .dmaFail)

/-- CART_FLUSH (R422, R428). -/
def State.cartFlush (s : State) (src : Src) (d : Desc) : State :=
  s.soon src 0x74 d [] fun s =>
    if 256 ≤ d.tgt && d.tgt ≠ 0xFFFF then s.complete src 0x74 d .badTarget
    else if !s.holder then s.complete src 0x74 d .ok
    else
      let l := ((s.cart.ax.filter (fun e => e.2.auth)).map (fun e => e.1)).filter (fun a => d.tgt == 0xFFFF || a == d.tgt)
      if l.isEmpty then s.complete src 0x74 d .ok
      else
        let s := { s with cart := { s.cart with flushes := s.cart.flushes ++ [(src, d, l, false)] } }
        l.foldl (fun s a => s.askWb a) s

def execCartFlush (src : Src) (d : Desc) (s : State) : Host.Outcome State Fault Refusal := .next (s.cmd src 0x74 d fun s => s.cartFlush src d)

end Sys2Proof.Machine
end

