-- ==== Sys2Proof/Machine/Lane.lean ====
section
/-! DEFINITION. The lane datapath: registers, address generators, moves, the encoding of instructions, the effect of
one instruction and the sequencer's next address (R205, R206, R218 to R228). -/

namespace Sys2Proof.Machine

open Sys2Proof

/-! ### Encoding (Tables 6.5 and 6.6) -/

/-- The 64-bit word of an instruction. -/
def encodeLane (op : Nat) (w : LaneWord) : Nat :=
  op * 2 ^ 58 + w.dst.toNat * 2 ^ 54 + w.sa.toNat * 2 ^ 50 + w.sb.toNat * 2 ^ 46 + w.imm.toNat * 2 ^ 32 +
    w.xm.toNat * 2 ^ 16 + w.ym.toNat

/-- The instruction of a 64-bit word: opcode and fields. -/
def decodeLane (n : Nat) : Nat × LaneWord :=
  (field n 63 58, { dst := BitVec.ofNat 4 (n >>> 54), sa := BitVec.ofNat 4 (n >>> 50), sb := BitVec.ofNat 4 (n >>> 46),
                    imm := BitVec.ofNat 12 (n >>> 32), xm := BitVec.ofNat 16 (n >>> 16), ym := BitVec.ofNat 16 n })

def repLen (w : LaneWord) : Nat := w.dst.toNat * 64 + w.sa.toNat * 4 + w.sb.toNat / 4 + 1
def ldkConst (w : LaneWord) : Word := w.xm ++ w.ym

/-- Fields of a move. -/
def mKind (m : BitVec 16) : Nat := field m.toNat 15 14
def mReg (m : BitVec 16) : Nat := field m.toNat 13 11
def mAg (m : BitVec 16) : Nat := field m.toNat 10 9
def mUpd (m : BitVec 16) : Nat := field m.toNat 8 7
def mOfs (m : BitVec 16) : Nat := field m.toNat 6 0

/-- Operand classes of a field: not used, data destination, data source, data register of a dual instruction,
accumulator, address generator. -/
inductive OpClass where
  | none | dd | ds | dual | acc | gen
  deriving DecidableEq, Repr

def OpClass.admits (c : OpClass) (k : BitVec 4) : Bool :=
  let n := k.toNat
  match c with
  | .none => true
  | .dd => n < 8 || 12 ≤ n
  | .ds => n < 8 || 12 ≤ n
  | .dual => n < 8
  | .acc => 8 ≤ n && n < 12
  | .gen => n < 8

/-- Operand classes of an opcode of Table 6.7: destination, first and second source, whether moves are allowed. -/
def opInfo (op : Nat) : Option (OpClass × OpClass × OpClass × Bool) :=
  match op with
  | 0x00 => some (.none, .none, .none, true)
  | 0x01 => some (.none, .none, .none, true)
  | 0x02 => some (.none, .none, .none, true)
  | 0x03 => some (.dd, .none, .none, false)
  | 0x04 => some (.gen, .none, .none, true)
  | 0x05 => some (.gen, .none, .none, true)
  | 0x06 => some (.gen, .none, .none, true)
  | 0x07 => some (.gen, .ds, .none, true)
  | 0x10 => some (.dd, .ds, .ds, true)
  | 0x11 => some (.dd, .ds, .ds, true)
  | 0x12 => some (.dd, .ds, .ds, true)
  | 0x13 => some (.dd, .ds, .ds, true)
  | 0x14 => some (.dd, .ds, .ds, true)
  | 0x15 => some (.dd, .ds, .ds, true)
  | 0x16 => some (.dd, .ds, .none, true)
  | 0x17 => some (.dd, .ds, .none, true)
  | 0x18 => some (.dd, .ds, .ds, true)
  | 0x19 => some (.dd, .ds, .ds, true)
  | 0x1A => some (.dd, .ds, .ds, true)
  | 0x1B => some (.dd, .ds, .ds, true)
  | 0x1C => some (.dd, .ds, .ds, true)
  | 0x1D => some (.dd, .ds, .ds, true)
  | 0x1E => some (.dd, .ds, .none, true)
  | 0x1F => some (.dd, .ds, .none, true)
  | 0x20 => some (.dd, .ds, .none, true)
  | 0x21 => some (.dd, .ds, .ds, true)
  | 0x22 => some (.dd, .ds, .ds, true)
  | 0x23 => some (.dd, .ds, .ds, true)
  | 0x24 => some (.none, .ds, .none, true)
  | 0x25 => some (.dd, .ds, .none, true)
  | 0x30 => some (.acc, .ds, .ds, true)
  | 0x31 => some (.acc, .ds, .ds, true)
  | 0x32 => some (.acc, .ds, .ds, true)
  | 0x33 => some (.acc, .dual, .dual, true)
  | 0x34 => some (.acc, .dual, .dual, true)
  | 0x35 => some (.acc, .none, .none, false)
  | 0x36 => some (.acc, .ds, .none, true)
  | 0x37 => some (.dd, .acc, .none, true)
  | 0x38 => some (.acc, .none, .none, true)
  | 0x39 => some (.acc, .acc, .none, true)
  | 0x3C => some (.dd, .ds, .none, true)
  | 0x3D => some (.none, .ds, .ds, true)
  | 0x3E => some (.none, .ds, .none, true)
  | _ => none

/-- Register an immediate selects in SEL and BLEND. -/
def immReg (w : LaneWord) : BitVec 4 := BitVec.ofNat 4 w.imm.toNat

/-- Check 0x4 of Table 6.15: opcode, register codes, move kinds, moves where none are allowed, reserved immediates. -/
def legalLane (op : Nat) (w : LaneWord) : Bool :=
  match opInfo op with
  | none => false
  | some (d, a, b, mv) =>
    d.admits w.dst && a.admits w.sa && b.admits w.sb &&
      (op == 0x03 || (mKind w.xm != 3 && mKind w.ym != 3)) &&
      (mv || op == 0x03 || (w.xm == 0 && w.ym == 0)) &&
      (if op == 0x1C || op == 0x1D then OpClass.ds.admits (immReg w) else true) &&
      (if op == 0x06 then w.imm.toNat != 1 else true) &&
      (if op == 0x3E then decide (w.imm.toNat % 8 ≤ 4) else true)

/-- Check 0x5 (R220): two writers of one register. -/
def twoWriters (op : Nat) (w : LaneWord) : Bool :=
  let dd := match opInfo op with | some (.dd, _, _, _) => decide (w.dst.toNat < 8) | _ => false
  let mv := op != 0x03
  let lx := mv && mKind w.xm == 1
  let ly := mv && mKind w.ym == 1
  (dd && lx && mReg w.xm == w.dst.toNat) || (dd && ly && mReg w.ym == w.dst.toNat) || (lx && ly && mReg w.xm == mReg w.ym)

/-! ### Registers and memory of a lane -/

def LaneSt.dreg (n : LaneSt) (k : Nat) : Word := Tab.get 0 n.d k

/-- PASSW (Table 6.2). -/
def LaneSt.passw (n : LaneSt) : Word := ofNat (b2n n.miss + 2 * b2n n.moved + 4 * b2n n.isLocal)

/-- A data source (Table 6.2). -/
def LaneSt.src (n : LaneSt) (k : BitVec 4) : Word :=
  if k.toNat < 8 then n.dreg k.toNat
  else if k = 0xD then 0x7FFFFFFF
  else if k = 0xE then n.pcyc
  else if k = 0xF then n.passw
  else 0

def LaneSt.setD (n : LaneSt) (k : Nat) (v : Word) : LaneSt := if k < 8 then { n with d := Tab.set 0 n.d k v } else n
def LaneSt.accu (n : LaneSt) (k : Nat) : Int := Tab.get 0 n.acc k
def LaneSt.setAcc (n : LaneSt) (k : Nat) (v : Int) : LaneSt := { n with acc := Tab.set 0 n.acc k v }
def LaneSt.gen (n : LaneSt) (k : Nat) : AddrGen := Tab.get {} n.ag k
def LaneSt.setGen (n : LaneSt) (k : Nat) (g : AddrGen) : LaneSt := { n with ag := Tab.set {} n.ag k g }

/-- Effective address (R219). -/
def AddrGen.ea (g : AddrGen) (ofs : Int) : Nat :=
  if g.l = 0 then ((g.p + ofs) % 16384).toNat else (g.b + ((g.p : Int) - g.b + ofs) % g.l).toNat % 16384

/-- A pointer update (R225): wraps within Bm to Bm + L − 1 when L is not 0. -/
def AddrGen.to (g : AddrGen) (p : Int) : AddrGen :=
  { g with p := if g.l = 0 then (p % 16384).toNat else (g.b + (p - g.b) % g.l).toNat % 16384 }

/-- The update of a move. -/
def AddrGen.upd (g : AddrGen) (u : Nat) : AddrGen :=
  match u with
  | 1 => g.to (g.p + 1)
  | 2 => g.to (g.p + g.m)
  | 3 => g.to (g.p - 1)
  | _ => g

/-- Reads with the state area mapped to the old slot in a MOVED pass (R212). -/
def LaneSt.readX (n : LaneSt) (k : Nat) : Word :=
  match n.oldBase with
  | some ob => if n.base + 0x0C ≤ k && k < n.base + 0x30 then n.rdX (ob + (k - n.base)) else n.rdX k
  | none => n.rdX k
def LaneSt.readY (n : LaneSt) (k : Nat) : Word :=
  match n.oldBase with
  | some ob => if n.base + 0x40 ≤ k && k < n.base + 0x80 then n.rdY (ob + (k - n.base)) else n.rdY k
  | none => n.rdY k

/-- What an instruction does besides its moves. -/
structure LaneEff where
  d : Option Word := none
  acc : List (Nat × Int) := []
  carry : Option Bool := none
  sat : Bool := false
  ovf : Bool := false
  mflag : Option Nat := none
  gen : List (Nat × AddrGen) := []
  yw : Option (Nat × Word) := none
  life : Option (Nat × Nat) := none
  lrd : Option Nat := none
  lwr : Option (Nat × Word) := none
  rep : Option (Nat × Nat) := none
  ends : Bool := false
  deriving DecidableEq, Repr

/-! ### The operations of Table 6.7 -/

/-- A saturating result. -/
def satEff (x : Int) : LaneEff := { d := some (ofInt (sat 32 x)), sat := decide (sat 32 x ≠ x) }

/-- An accumulator result, saturated to 80 bits (R223). -/
def accEff (k : BitVec 4) (x : Int) : LaneEff := { acc := [(k.toNat % 4, sat 80 x)], ovf := decide (sat 80 x ≠ x) }

/-- a + b + c with its carry out. -/
def addEff (a b : Word) (c : Nat) : LaneEff :=
  let x := a.toNat + b.toNat + c
  { d := some (ofNat x), carry := some (decide (2 ^ 32 ≤ x)) }

def opAdd (n : LaneSt) (w : LaneWord) : LaneEff := addEff (n.src w.sa) (n.src w.sb) 0
def opAddc (n : LaneSt) (w : LaneWord) : LaneEff := addEff (n.src w.sa) (n.src w.sb) (b2n n.carry)
def opSub (n : LaneSt) (w : LaneWord) : LaneEff := addEff (n.src w.sa) (~~~ n.src w.sb) 1
def opSubc (n : LaneSt) (w : LaneWord) : LaneEff := addEff (n.src w.sa) (~~~ n.src w.sb) (b2n n.carry)
def opAdds (n : LaneSt) (w : LaneWord) : LaneEff := satEff (sgn (n.src w.sa) + sgn (n.src w.sb))
def opSubs (n : LaneSt) (w : LaneWord) : LaneEff := satEff (sgn (n.src w.sa) - sgn (n.src w.sb))
def opNegs (n : LaneSt) (w : LaneWord) : LaneEff := satEff (-(sgn (n.src w.sa)))
def opAbss (n : LaneSt) (w : LaneWord) : LaneEff := satEff (absI (sgn (n.src w.sa)))
def opMin (n : LaneSt) (w : LaneWord) : LaneEff := { d := some (ofInt (min (sgn (n.src w.sa)) (sgn (n.src w.sb)))) }
def opMax (n : LaneSt) (w : LaneWord) : LaneEff := { d := some (ofInt (max (sgn (n.src w.sa)) (sgn (n.src w.sb)))) }
def opClamp (n : LaneSt) (w : LaneWord) : LaneEff :=
  let b := absI (sgn (n.src w.sb))
  { d := some (ofInt (min (max (sgn (n.src w.sa)) (-b)) b)) }
def opClamp2 (n : LaneSt) (w : LaneWord) : LaneEff :=
  { d := some (ofInt (min (max (sgn (n.src w.sa)) (sgn (n.src w.sb))) (sgn (n.src w.dst)))) }
def opSel (n : LaneSt) (w : LaneWord) : LaneEff :=
  { d := some (if (n.src (immReg w)).getLsbD 31 then n.src w.sb else n.src w.sa) }
def opBlend (n : LaneSt) (w : LaneWord) : LaneEff :=
  let a := sgn (n.src w.sa)
  satEff (shrRnd (a * 2 ^ 31 + (sgn (n.src w.sb) - a) * sgn (n.src (immReg w))) 31)
def opAsl (n : LaneSt) (w : LaneWord) : LaneEff := satEff (sgn (n.src w.sa) * 2 ^ (w.imm.toNat % 32))
def opAsr (n : LaneSt) (w : LaneWord) : LaneEff := { d := some ((n.src w.sa).sshiftRight (w.imm.toNat % 32)) }
def opLsr (n : LaneSt) (w : LaneWord) : LaneEff := { d := some (n.src w.sa >>> (w.imm.toNat % 32)) }
def opAnd (n : LaneSt) (w : LaneWord) : LaneEff := { d := some (n.src w.sa &&& n.src w.sb) }
def opOr (n : LaneSt) (w : LaneWord) : LaneEff := { d := some (n.src w.sa ||| n.src w.sb) }
def opXor (n : LaneSt) (w : LaneWord) : LaneEff := { d := some (n.src w.sa ^^^ n.src w.sb) }
def opFlagc (n : LaneSt) (w : LaneWord) : LaneEff :=
  { mflag := if n.src w.sa = 0 then none else some (w.imm.toNat % 8) }
/-- LDIX while YP3 is linear has no stated result (Table 6.15, check 0x7): a free value by the operands. -/
def opLdix (n : LaneSt) (w : LaneWord) : LaneEff :=
  let g := n.gen 7
  let k := (n.src w.sa).toNat / 2 ^ (w.imm.toNat % 32)
  { d := some (if g.l = 0 then Config.ldixLinear (g.b * 2 ^ 32 + k) else n.readY ((g.b + k % g.l) % 16384)) }
def opLdk (_n : LaneSt) (w : LaneWord) : LaneEff := { d := some (ldkConst w) }
def opAgp (n : LaneSt) (w : LaneWord) : LaneEff :=
  let p := w.imm.toNat % 2048 + (if w.imm.getLsbD 11 then n.base else 0)
  { gen := [(w.dst.toNat, { n.gen w.dst.toNat with p := p % 16384 })] }
def opAgm (n : LaneSt) (w : LaneWord) : LaneEff := { gen := [(w.dst.toNat, { n.gen w.dst.toNat with m := w.imm.toInt })] }
def opAgl (n : LaneSt) (w : LaneWord) : LaneEff :=
  { gen := [(w.dst.toNat, { n.gen w.dst.toNat with l := w.imm.toNat, b := (n.gen w.dst.toNat).p })] }
def opAgr (n : LaneSt) (w : LaneWord) : LaneEff :=
  { gen := [(w.dst.toNat, (n.gen w.dst.toNat).to ((n.src w.sa).toNat % 16384 : Nat))] }
def opMpy (n : LaneSt) (w : LaneWord) : LaneEff := accEff w.dst (sgn (n.src w.sa) * sgn (n.src w.sb))
def opMac (n : LaneSt) (w : LaneWord) : LaneEff :=
  accEff w.dst (n.accu (w.dst.toNat % 4) + sgn (n.src w.sa) * sgn (n.src w.sb))
def opMsu (n : LaneSt) (w : LaneWord) : LaneEff :=
  accEff w.dst (n.accu (w.dst.toNat % 4) - sgn (n.src w.sa) * sgn (n.src w.sb))
/-- The second product of a dual instruction. -/
def LaneSt.prod2 (n : LaneSt) (w : LaneWord) : Int := sgn (n.src (w.sa ^^^ 1)) * sgn (n.src (w.sb ^^^ 1))
def opDmpy (n : LaneSt) (w : LaneWord) : LaneEff :=
  { acc := [(w.dst.toNat % 4, sgn (n.src w.sa) * sgn (n.src w.sb)), ((w.dst ^^^ 1).toNat % 4, n.prod2 w)] }
def opDmac (n : LaneSt) (w : LaneWord) : LaneEff :=
  let x := n.accu (w.dst.toNat % 4) + sgn (n.src w.sa) * sgn (n.src w.sb)
  let y := n.accu ((w.dst ^^^ 1).toNat % 4) + n.prod2 w
  { acc := [(w.dst.toNat % 4, sat 80 x), ((w.dst ^^^ 1).toNat % 4, sat 80 y)], ovf := decide (sat 80 x ≠ x ∨ sat 80 y ≠ y) }
def opFtap (n : LaneSt) (w : LaneWord) : LaneEff :=
  let i := w.imm.toNat % 4
  let j := 4 + w.imm.toNat / 4 % 4
  let gx := n.gen i
  let gy := n.gen j
  let y := n.readY (gy.ea 0)
  let e := accEff w.dst (n.accu (w.dst.toNat % 4) + sgn (n.readX (gx.ea 0)) * sgn y)
  { e with yw := some (gy.ea 1, y), gen := [(i, gx.to (gx.p + 1)), (j, gy.to (gy.p - 1))] }
def opLda (n : LaneSt) (w : LaneWord) : LaneEff := { acc := [(w.dst.toNat % 4, sat 80 (sgn (n.src w.sa) * 2 ^ (w.imm.toNat % 64)))] }
/-- STA and AADD read their source accumulator one instruction late (R222). -/
def opSta (n : LaneSt) (w : LaneWord) : LaneEff := satEff (shrRnd (Tab.get 0 n.accOld (w.sa.toNat % 4)) (w.imm.toNat % 64))
def opAclr (_n : LaneSt) (w : LaneWord) : LaneEff := { acc := [(w.dst.toNat % 4, 0)] }
def opAadd (n : LaneSt) (w : LaneWord) : LaneEff :=
  accEff w.dst (n.accu (w.dst.toNat % 4) + Tab.get 0 n.accOld (w.sa.toNat % 4))
def opLrd (n : LaneSt) (w : LaneWord) : LaneEff := { lrd := some (n.src w.sa).toNat }
def opLwr (n : LaneSt) (w : LaneWord) : LaneEff := { lwr := some ((n.src w.sa).toNat, n.src w.sb) }
def opLife (n : LaneSt) (w : LaneWord) : LaneEff := { life := some (w.imm.toNat % 8, (n.src w.sa).toNat) }
def opRep (_n : LaneSt) (w : LaneWord) : LaneEff := { rep := some (repLen w, w.imm.toNat) }
def opNop (_n : LaneSt) (_w : LaneWord) : LaneEff := {}
def opEnd (_n : LaneSt) (_w : LaneWord) : LaneEff := { ends := true }

/-- The operation of an opcode (Table 6.7). -/
def laneOp (op : Nat) : LaneSt → LaneWord → LaneEff :=
  match op with
  | 0x01 => opEnd | 0x02 => opRep | 0x03 => opLdk | 0x04 => opAgp | 0x05 => opAgm | 0x06 => opAgl | 0x07 => opAgr
  | 0x10 => opAdd | 0x11 => opAddc | 0x12 => opSub | 0x13 => opSubc | 0x14 => opAdds | 0x15 => opSubs | 0x16 => opNegs | 0x17 => opAbss
  | 0x18 => opMin | 0x19 => opMax | 0x1A => opClamp | 0x1B => opClamp2 | 0x1C => opSel | 0x1D => opBlend | 0x1E => opAsl | 0x1F => opAsr
  | 0x20 => opLsr | 0x21 => opAnd | 0x22 => opOr | 0x23 => opXor | 0x24 => opFlagc | 0x25 => opLdix
  | 0x30 => opMpy | 0x31 => opMac | 0x32 => opMsu | 0x33 => opDmpy | 0x34 => opDmac | 0x35 => opFtap | 0x36 => opLda | 0x37 => opSta
  | 0x38 => opAclr | 0x39 => opAadd | 0x3C => opLrd | 0x3D => opLwr | 0x3E => opLife
  | _ => opNop

/-! ### One instruction on a lane -/

/-- A move of the X (`y` false) or Y memory: loads and stores of one instruction. `old` is the lane at the start of
the cycle, `n` the lane being built. -/
def LaneSt.move (old n : LaneSt) (y : Bool) (m : BitVec 16) : LaneSt :=
  let k := mAg m + (if y then 4 else 0)
  let g := old.gen k
  let a := g.ea (mOfs m)
  match mKind m with
  | 1 => (n.setD (mReg m) (if y then old.readY a else old.readX a)).setGen k (g.upd (mUpd m))
  | 2 =>
    let n := if y then n.wrY a (old.dreg (mReg m)) else n.wrX a (old.dreg (mReg m))
    n.setGen k (g.upd (mUpd m))
  | _ => n

/-- The sequencer's next address after the instruction at `pc` (R226): repeat levels that end here are run again or left. -/
def repNext (pc : Nat) : List RepLevel → Nat × List RepLevel
  | [] => (pc + 1, [])
  | r :: rest =>
    if r.last = pc then
      if r.left = 0 then repNext pc rest else (r.first, { r with left := r.left - 1 } :: rest)
    else (pc + 1, r :: rest)

/-- LRD results due by cycle c are written (R222). -/
def LaneSt.landed (n : LaneSt) (c : Nat) : LaneSt :=
  let due := n.lrd.filter (fun e => e.1 ≤ c)
  let n := { n with lrd := n.lrd.filter (fun e => c < e.1) }
  due.foldl (fun n e => n.setD e.2.1 e.2.2) n

/-- Moves, results and sequencing of one instruction within the lane (R220). AGM and AGL leave P to the moves. -/
def LaneSt.instr (n : LaneSt) (op : Nat) (w : LaneWord) (e : LaneEff) : LaneSt :=
  let m := if op = 0x03 || op = 0x35 then n else n.move (n.move n false w.xm) true w.ym
  let m := match e.yw with | some x => m.wrY x.1 x.2 | none => m
  let m := e.gen.foldl (fun m g => m.setGen g.1 (if op = 5 || op = 6 then { g.2 with p := (m.gen g.1).p } else g.2)) m
  let m := { e.acc.foldl (fun m g => m.setAcc g.1 g.2) m with accOld := n.acc }
  let m := match e.d with | some v => m.setD w.dst.toNat v | none => m
  let m := match e.carry with | some c => { m with carry := c } | none => m
  let m := m.landed n.ran
  let m := match e.rep with
    | some r => { m with pc := n.pc + 1, rep := { first := n.pc + 1, last := n.pc + r.1, left := r.2 } :: n.rep }
    | none => let q := repNext n.pc n.rep
              { m with pc := q.1, rep := q.2 }
  { m with ran := n.ran + 1 }

/-- Manifest word at an address (R237): the listing of section VEL, other standard words not given, customer words. -/
def velListing : List Nat := (([
  (0x15, 2, 0, 1, 0, 0x5841, 0), (0x30, 9, 2, 3, 0, 0x6040, 0), (0x30, 8, 2, 4, 0, 0x6810, 0), (0x37, 6, 9, 0, 9, 0x7842, 0),
  (0x14, 5, 5, 6, 0, 0, 0), (0x1A, 5, 5, 7, 0, 0, 0), (0x37, 6, 8, 0, 9, 0xA810, 0), (0x14, 6, 6, 5, 0, 0, 0),
  (0x04, 2, 0, 0, 0x848, 0, 0), (0x04, 6, 0, 0, 0x842, 0, 0), (0x05, 6, 0, 0, 6, 0, 0), (0x02, 0, 2, 0, 1, 0, 0),
  (0x38, 10, 0, 0, 0, 0x5C02, 0), (0x35, 10, 0, 0, 0xA, 0, 0), (0x35, 10, 0, 0, 0xA, 0, 0), (0x31, 10, 6, 3, 0, 0x5C80, 0xB501),
  (0x35, 10, 0, 0, 0xA, 0, 0), (0x35, 10, 0, 0, 0xA, 0, 0), (0x00, 0, 0, 0, 0, 0, 0), (0x37, 6, 10, 0, 30, 0, 0),
  (0x00, 0, 0, 0, 0, 0, 0xB501), (0x1A, 6, 6, 7, 0, 0, 0), (0x01, 0, 0, 0, 0, 0xB014, 0)] : List (Nat × Nat × Nat × Nat × Nat × Nat × Nat)).map
  (fun (o, d, a, b, i, x, y) => encodeLane o
    { dst := BitVec.ofNat 4 d, sa := BitVec.ofNat 4 a, sb := BitVec.ofNat 4 b, imm := BitVec.ofNat 12 i, xm := BitVec.ofNat 16 x,
      ym := BitVec.ofNat 16 y }))

def manDef (k : Nat) : Nat :=
  if 0x1000 ≤ k then 0
  else if 0x180 ≤ k && k < 0x197 then velListing.getD (k - 0x180) 0
  else Config.romWord k

def LaneSt.word (n : LaneSt) (k : Nat) : Nat := Tab.get (manDef k) n.man k

/-- The instructions from `pc` to the next END, at most `f` of them, within the lane: what they leave in its registers and memory. -/
def LaneSt.runTo (n : LaneSt) : Nat → LaneSt
  | 0 => n
  | f + 1 =>
    let w := decodeLane (n.word n.pc)
    let e := laneOp w.1 n w.2
    let m := n.instr w.1 w.2 e
    if e.ends then m else m.runTo f

/-- Registers of a lane: data registers, accumulators, carry and address generators, taken from another lane state. -/
def LaneSt.withRegs (n m : LaneSt) : LaneSt := { n with d := m.d, acc := m.acc, accOld := m.accOld, carry := m.carry, ag := m.ag }

/-! ### What standard code leaves in the registers (R238) -/

/-- An address generator that standard code has left in a state that the spec does not give: free values from k on. -/
def freeGen (k : Nat) : AddrGen :=
  { p := (Config.freeWord k).toNat % 16384, m := sbits (Config.freeWord (k + 1)) 13 0,
    l := (Config.freeWord (k + 2)).toNat % 4096, b := (Config.freeWord (k + 3)).toNat % 16384 }

/-- The registers after standard code whose listing the spec does not give: free values from k on, 45 of them. -/
def LaneSt.leftOver (n : LaneSt) (k : Nat) : LaneSt :=
  { n with d := (List.range 8).foldl (fun t i => Tab.set 0 t i (Config.freeWord (k + i))) [],
           acc := (List.range 4).foldl (fun t i => Tab.set 0 t i (Config.freeInt (k + 8 + i) % 2 ^ 78)) [],
           accOld := (List.range 4).foldl (fun t i => Tab.set 0 t i (Config.freeInt (k + 8 + i) % 2 ^ 78)) [],
           carry := (Config.freeWord (k + 12)).getLsbD 0,
           ag := (List.range 8).foldl (fun t i => Tab.set {} t i (freeGen (k + 13 + 4 * i))) [], stdRun := false }

/-- What section VEL finds on entry (its listing): the velocity command in D0, the measured velocity in D1, XP0 at the slot base,
and XP2 and YP2, which it sets, linear. -/
def LaneSt.velEntry (n : LaneSt) (cmd meas : Int) : LaneSt :=
  (((n.setD 0 (ofInt cmd)).setD 1 (ofInt meas)).setGen 0 { p := n.base }).setGen 2 { n.gen 2 with l := 0 } |>.setGen 6 { n.gen 6 with l := 0 }

/-- The registers after section VEL, by its listing. -/
def LaneSt.afterVel (n : LaneSt) : LaneSt := { n.withRegs ({ n with pc := 0x180, rep := [], oldBase := none }.runTo 64) with stdRun := false }

end Sys2Proof.Machine
end

