-- ==== Sys2Proof/Machine/Fb.lean ====
section
/-! DEFINITION. The feedback engine: decoding of records into INBOX (R296, R297, R304 to R317) and the feedback status
(R300, Tables 8.3 and 8.4). -/

namespace Sys2Proof.Machine

open Sys2Proof

/-- Feedback kind (FB_KIND), INV. -/
def State.fbKind (s : State) (a : Nat) : Nat := s.pn a 0x100 % 8
def State.fbSign (s : State) (a : Nat) : Int := if (s.par a 0x100).getLsbD 3 then -1 else 1

/-! ### Encoder emulation (R320 to R322) -/

abbrev emuReg (e o : Nat) : Nat := FB_B + 0x100 + e * 0x10 + o

def State.emu (s : State) (e : Nat) : Emu := Tab.get {} s.loc.emu e
def State.setEmu (s : State) (e : Nat) (x : Emu) : State := { s with loc := { s.loc with emu := Tab.set {} s.loc.emu e x } }

/-- Target count of an emulator from POS, Q40.24 (R320). -/
def State.emuTarget (s : State) (e : Nat) (pos : Int) : Int :=
  let n : Int := s.fld (emuReg e 4) 15 0
  let m : Int := max (s.fld (emuReg e 4) 31 16) 1
  let t := pos * n / (m * 2 ^ 24)
  if s.flag (emuReg e 0) 9 then -t else t

/-- EMU_STAT bit, event 112 + e. -/
def State.emuFlag (s : State) (e n : Nat) : State := s.flagEvent (emuReg e 0xC) n (112 + e) 0

/-- Level of EMUe_Z: the output count equals Z_OFS modulo Z_PER (R321). -/
def State.emuZ (s : State) (e : Nat) (cnt : Int) : Bool :=
  let per : Int := s.fld (emuReg e 8) 15 0
  per ≠ 0 && (cnt - s.fld (emuReg e 8) 31 16) % per = 0

/-- EMUe_A, EMUe_B and EMUe_Z are driven, low while EN is 0 (Table 8.7); A leads B in the positive direction. -/
def State.emuDrive (s : State) (e : Nat) : State :=
  let x := s.emu e
  let lv (k : Nat) (b : Bool) (s : State) : State := s.emit (.pin 11 (e * 4 + k) (b2n (x.on && b) : Nat))
  lv 2 (s.emuZ e x.out) (lv 1 (x.phase = 2 || x.phase = 3) (lv 0 (x.phase = 1 || x.phase = 2) s))

/-- Emulators whose source is an axis. -/
def State.emusOf (s : State) (a : Nat) : List Nat :=
  [0, 1, 2, 3].filter (fun e => (s.emu e).on && s.fld (emuReg e 0) 7 0 == a)

/-- The feedback status of an axis is LOST: its emulators hold their outputs (R322). -/
def State.emuHold (s : State) (a : Nat) : State :=
  (s.emusOf a).foldl (fun (s : State) e => (s.setEmu e { s.emu e with lost := true, next := none, edges := 0, sent := 0 }).emuFlag e 1) s

/-- The interval that waits comes into force: its edges, and LAG when they do not all fit at 40 ns (R321). -/
def State.emuBegin (s : State) (e : Nat) : State :=
  let x := s.emu e
  match x.next with
  | none => s
  | some (t, start, len) =>
    let n := (t - x.out).natAbs
    let s := s.setEmu e { x with tgt := t, start := start, len := len, edges := n, sent := 0, next := none }
    if len < n * 40000 then s.emuFlag e 0 else s

/-- One emulator of an axis whose pass has ended as planned at an instant (ps): a target to reach over the pass period from 0.128 µs
after it, or, after a loss, the new count without an edge (R321, R322). -/
def State.emuPass1 (s : State) (a e : Nat) (stop : Int) : State :=
  let t := s.emuTarget e (s.ctl a).pos
  if (s.fb a).st = 2 then s
  else if (s.emu e).lost then (s.setEmu e { s.emu e with lost := false, out := t, tgt := t }).emuDrive e
  else
    let s := s.emuBegin e
    s.setEmu e { s.emu e with next := some (t, stop + 128000, s.tCyc * s.kr a * 1000) }
def State.emuPass (s : State) (a : Nat) (stop : Int) : State :=
  let s := if (s.fb a).st = 2 then s.emuHold a else s
  (s.emusOf a).foldl (fun s e => s.emuPass1 a e stop) s

/-- EN of an emulator at a boundary: its outputs are driven, or low; a source that is LOST holds them from the start. -/
def State.emuBoundary (s : State) : State :=
  [0, 1, 2, 3].foldl (fun (s : State) e =>
    let en := s.powered 6 && s.flag (emuReg e 0) 8
    let x := s.emu e
    if en == x.on then s
    else
      let s := (s.setEmu e { x with on := en, next := none, edges := 0, sent := 0 }).emuDrive e
      let a := s.fld (emuReg e 0) 7 0
      if en && (s.fb a).st = 2 then s.emuHold a else s) s

/-! ### Status -/

/-- FB_AXSTAT mirrors the status. -/
def State.fbMirror (s : State) (a : Nat) : State :=
  let f := s.fb a
  s.setRg (fbReg a 0xC) (ofNat (f.st + f.cause * 4 + b2n f.latched * 128 + b2n f.idxValid * 256))

/-- The status changes; events 96 (LOST), 97 (DEGRADED), 98 (VALID). Leaving LOST makes Ti unknown (R311). -/
def State.fbSet (s : State) (a st cause : Nat) (latched : Bool) : State :=
  let f := s.fb a
  let f' : FbSt := { f with st := st, cause := cause, latched := latched }
  let f' : FbSt := if f.st = 2 && st != 2 then { f' with hti := none, hcnt := 0, hdir := 0 } else f'
  let s := (s.setFb a f').fbMirror a
  let s := if st = 2 then s.emuHold a else s
  if f.st = st then s else s.raise (if st = 2 then 96 else if st = 1 then 97 else 98) (a + cause * 0x10000)

def isTransient (c : Nat) : Bool := 1 ≤ c && c ≤ 3
def isLatching (c : Nat) : Bool := 8 ≤ c && c ≤ 0x0D
def isDegrading (c : Nat) : Bool := 0x10 ≤ c

/-- The cause that counts among those of one sample (R300): class, then lowest code. -/
def worstCause (l : List Nat) : Nat :=
  let low (p : Nat → Bool) : Option Nat := (l.filter p).foldl (fun m c => match m with | none => some c | some d => some (min c d)) none
  ((low isLatching).orElse (fun _ => (low isTransient).orElse (fun _ => low isDegrading))).getD 0

/-- One sample's causes act on the status (Table 8.4). Recovery and PERSIST are their own events. -/
def State.fbStatus (s : State) (a : Nat) (causes : List Nat) : State :=
  let c := worstCause causes
  let f := s.fb a
  let s := s.setFb a { f with now := c }
  let f := s.fb a
  if isLatching c then
    if f.st = 2 && f.latched then s
    else ((s.incFld (fbReg a 8) 31 16 1).setFb a { f with idxValid := false, onlyMissing := false }).fbSet a 2 c true
  else if isTransient c then
    if f.st = 2 then
      if f.latched then s
      else s.setFb a { f with trans := f.trans + 1, clean := 0, onlyMissing := f.onlyMissing && c == 1 }
    else ((s.incFld (fbReg a 8) 15 0 1).setFb a { f with mem := (f.st, f.cause), trans := 1, clean := 0, onlyMissing := c == 1 }).fbSet a 2 c false
  else if f.st = 2 then
    if f.latched then s
    else
      let mem := if isDegrading c && f.mem.1 = 0 then (1, c) else f.mem
      s.setFb a { f with trans := 0, clean := f.clean + 1, mem := mem }
  else if isDegrading c && f.st = 0 then s.fbSet a 1 c false
  else s

/-- FBS and CAUSE of word +0x07 are those after the sample (Table 8.2). -/
def State.fbShow (s : State) (a : Nat) : State :=
  let f := s.fb a
  s.setXw a 7 (putBits (s.xw a 7) 6 0 (f.st + (if f.st = 0 then 0 else f.cause) * 4))

/-- FB_RECOV clean samples restore the remembered status (FEEDBACK_RECOVERY). -/
def State.fbRecover (s : State) (a : Nat) : State :=
  let f := s.fb a
  if f.st = 2 && !f.latched && decide (s.pn a 0x115 ≤ f.clean) then (s.fbSet a f.mem.1 f.mem.2 false).fbShow a else s

/-- FB_LATCH consecutive transient causes latch the loss (FEEDBACK_PERSIST_LATCH). -/
def State.fbPersist (s : State) (a : Nat) : State :=
  let f := s.fb a
  if f.st = 2 && !f.latched && decide (s.pn a 0x116 ≤ f.trans) then
    (((s.incFld (fbReg a 8) 31 16 1).setFb a { f with idxValid := false }).fbSet a 2 0x0D true).fbShow a
  else s

/-- A pass starts without its record: cause MISSING, with what the record of the cycle reported although it held no sample (R300). -/
def State.fbMissing (s : State) (a : Nat) : State :=
  let l := (s.fb a).noted
  (s.setFb a { s.fb a with noted := [] }).fbStatus a (1 :: l)

/-! ### Index and skips -/

/-- A correction δ (Q40.24) reaches PROF (R377): reference, start point, hold position. -/
def State.profCorrect (s : State) (a : Nat) (dlt : Int) : State :=
  let p := s.prof a
  s.setProf a { p with pr := p.pr - dlt * 2 ^ 24, p0 := p.p0 - dlt * 2 ^ 24 }

/-- ((c − ref) mod CPR) in −CPR/2 to CPR/2 − 1 (R306). -/
def idxDev (c ref cpr : Int) : Int :=
  let m := (c - ref) % cpr
  if m < cpr - cpr / 2 then m else m - cpr

/-- An index event at count c: answers the state and the sample's causes and flags (INDEX, IDXMIS). A load of IDX_REF that meets a
host write of it leaves the host's value (R72). -/
def State.fbIndex (s : State) (a : Nat) (c : Int) : State × List Nat × Bool :=
  let s := s.incFld (fbReg a 4) 15 0 1
  let f := s.fb a
  let cfg := s.par a 0x107
  let cpr : Int := max (s.pn a 0x101) 1
  let s := s.setFb a { f with win := 0, winFrom := c, idxHere := true }
  let f := s.fb a
  if !bit cfg 0 then (s, [], false)
  else if bit cfg 1 && !f.idxValid then
    let s := if f.hostRef = some s.ntime then s.setFlag FB_B 0 else s.setPar a 0x108 (ofInt (c % cpr))
    ((s.setFb a { s.fb a with idxValid := true, loadRef := some s.ntime }).fbMirror a, [], false)
  else
    let dlt := idxDev c (s.pn a 0x108) cpr
    if absI dlt ≤ s.pn a 0x109 then
      let s := (s.setFb a { f with praw := f.praw - dlt * 2 ^ 24, cor := f.cor + dlt, winFrom := c - dlt }).profCorrect a (dlt * 2 ^ 24)
      let ok := f.st = 1 && (f.cause == 0x10 || f.cause == 0x11 || (f.cause == 0x12 && !bit cfg 1))
      (if ok then s.fbSet a 0 0 false else s, [], false)
    else ((s.incFld (fbReg a 4) 31 16 1).raise 99 a, [0x11], true)

/-- The index events of a sample, at counts from its position; a correction moves the later ones with it. -/
def State.fbIndexes (s : State) (a : Nat) (l : List Int) : State × List Nat × Bool :=
  l.foldl (fun r d =>
    let t := r.1.fbIndex a ((r.1.fb a).praw / 2 ^ 24 + d)
    (t.1, r.2.1 ++ t.2.1, r.2.2 || t.2.2)) (s, [], false)

/-- Skips in this sample: counted, and judged against QSKIP_ALLOW (R303, R305). -/
def State.fbSkips (s : State) (a n : Nat) : State × List Nat :=
  let f := s.fb a
  let cpr : Int := max (s.pn a 0x101) 1
  let here := f.praw / 2 ^ 24
  let reopen := !bit (s.par a 0x107) 0 && decide (cpr ≤ absI (here - f.winFrom))
  let f : FbSt := if reopen then { f with win := 0, winFrom := here } else f
  let f : FbSt := { f with win := f.win + n }
  let s := (s.incFld (fbReg a 0) 31 0 n).setFb a f
  (s, if n ≠ 0 && decide (s.pn a 0x106 < f.win) then [0x10] else [])

/-! ### Kinds -/

/-- Hall sector of a state 1 to 6 (HALL_MAP). -/
def State.hallSector (s : State) (a st : Nat) : Nat := field (s.pn a 0x10A) (3 * st - 1) (3 * st - 3)

/-- An adjacent Hall transition in a direction: count, run of adjacent transitions, and Ti, known from the second edge of one
direction on; the edge that changes the direction is not one of the two (R311). -/
def State.hallAdj (s : State) (a : Nat) (f f1 : FbSt) (dir : Int) : State × Int × Nat :=
  let k := if f.hdir = dir || f.hdir = 0 then f.hcnt + 1 else 0
  let f2 : FbSt := { f1 with hdir := dir, hcnt := k, hti := if 2 ≤ k then some (f1.hedge - f.hedge) else none,
                             hadj := if f.hdir == dir then f.hadj + 1 else 1 }
  (s.setFb a f2, dir, 0)

/-- One Hall state at an instant (ns): travel in counts and skips of a new one (R310, R311). -/
def State.hallEdge (s : State) (a st : Nat) (at_ : Int) : State × Int × Nat :=
  let f : FbSt := { s.fb a with hraw := st }
  if st = (s.fb a).hraw then (s, 0, 0)
  else if st = 0 || st = 7 then (s.setFb a { f with hadj := 0 }, 0, 1)
  else
    if f.hst = 0 then (s.setFb a { f with hst := st, hedge := at_ }, 0, 0)
    else
      let dlt := (s.hallSector a st + 6 - s.hallSector a f.hst) % 6
      let f1 : FbSt := { f with hst := st, hedge := at_ }
      let lostTi : FbSt := { f1 with hti := none, hcnt := 0, hadj := 0 }
      match dlt with
      | 0 => (s.setFb a { f with hst := st }, 0, 0)
      | 1 => s.hallAdj a f f1 1
      | 5 => s.hallAdj a f f1 (-1)
      | 2 => (s.setFb a lostTi, 2, 1)
      | 4 => (s.setFb a lostTi, -2, 1)
      | _ => (s.setFb a lostTi, 0, 1)

/-- Angle of (c, s) as a fraction of a turn in 2^−k units by bisection of the direction, from bit k − 1 down. -/
def atanBits (sn cs : Int) : Nat → Nat → Nat
  | 0, acc => acc
  | k + 1, acc =>
    let t := acc + 2 ^ k
    atanBits sn cs k (if 0 ≤ sn * sinQ31 (t + 65536) 262144 - cs * sinQ31 t 262144 && decide (t < 131072) then t else acc)

/-- atan2 as an unsigned fraction of a turn, 2^−16 units, nearest (R313). -/
def atan2Turn (sn cs : Int) : Nat :=
  let up := if 0 ≤ sn then atanBits sn cs 17 0 else 262144 - atanBits (-sn) cs 17 0
  ((up + 2) / 4) % 65536

/-- Gray code to binary over n bits, from the most significant. -/
def grayBits : Nat → Nat → Bool → Nat → Nat
  | 0, _, _, acc => acc
  | k + 1, w, b, acc =>
    let c := (w / 2 ^ k % 2 == 1) != b
    grayBits k w c (acc * 2 + b2n c)

/-- What one decoding gives: PRAW (Q40.24), raw position, skips, index events in counts from the position, causes. -/
structure Decoded where
  praw : Int
  raw : Int
  skips : Nat := 0
  idx : List Int := []
  causes : List Nat := []
  deriving DecidableEq, Repr

/-- Position of a record by feedback kind (R304, R313, R314). `aux`, `pos`, `ext` as in Table 3.14. -/
def State.fbPosition (s : State) (a : Nat) (pos aux ext status : Nat) : Decoded :=
  let f := s.fb a
  let sg := s.fbSign a
  let p32 := wrapS 32 pos
  match s.fbKind a with
  | 3 =>
    let sn := wrapS 16 aux
    let cs := wrapS 16 (aux / 2 ^ 16)
    let amp : Int := s.pn a 0x10D
    let r2 := (sn * sn + cs * cs) * 2 ^ 14
    let win := s.par a 0x10E
    let bad := decide (r2 < bits win 15 0 * (amp * amp)) || decide ((bits win 31 16 : Int) * (amp * amp) < r2)
    let ph := atan2Turn sn cs
    let q : Int := ph / 16384
    let d := (q - p32) % 4
    let q' := if d = 1 then p32 + 1 else if d = 3 then p32 - 1 else p32
    let u := (q' - q) * 2 ^ 14 + ph
    let k := 2 ^ (s.pn a 0x10C + 8)
    let base := if f.seen then f.praw + sg * wrapS 46 (u - f.raw) * k else sg * u * k
    { praw := base, raw := u, skips := if d = 2 then 1 else 0,
      causes := if bad then [0x09] else [] }
  | 4 =>
    let fmt := s.par a 0x10F
    let len := bits fmt 5 0
    let w0 := (pos + ext % 256 * 2 ^ 32) % 2 ^ len
    let w : Nat := if bit fmt 12 then grayBits len w0 false 0 else w0
    if bit (ofNat status) 5 then { praw := f.praw, raw := f.raw, causes := [2] }
    else if !f.seen then { praw := sg * w * 2 ^ 24, raw := w }
    else
      let d := wrapS len (w - f.raw)
      let mx : Int := s.pn a 0x110
      if mx ≠ 0 && decide (mx < absI d) then { praw := f.praw, raw := f.raw, causes := [3] }
      else { praw := f.praw + sg * d * 2 ^ 24, raw := w }
  | 0 => { praw := if s.isLocalAxis a then p32 * 2 ^ 24 else 0, raw := p32 }
  | k =>
    if !f.seen then { praw := sg * p32 * 2 ^ 24, raw := p32 }
    else
      let praw := f.praw + sg * wrapS 32 (p32 - f.raw) * 2 ^ 24
      if k = 1 then
        let skips := (aux / 2 ^ 24 + 256 - f.skp) % 256
        let hit := aux / 2 ^ 16 % 256 != f.idx
        { praw := praw, raw := p32, skips := skips, idx := if hit then [sg * wrapS 16 ((aux : Int) - pos)] else [] }
      else { praw := praw, raw := p32 }

/-- A sample is decoded and INBOX written (R296). `local_`: the record comes from LOCAL, whose edges are already decoded: its skips
and index events come beside it; `vbus` from the node block or the local conversion; `comp` refers an SSI position to the trigger
(R315). -/
def State.fbSample (s : State) (a : Nat) (r : List Byte) (vbus tofs : Nat) (local_ : Bool) (localSkips : Nat) (zs : List Int) (comp : Int) :
    State :=
  let pos := leAt r 0 4
  let aux := leAt r 4 4
  let status := leAt r 12 2
  let ext := leAt r 16 4
  let kind := s.fbKind a
  let cp := (s.fb a).corPend
  let comp0 := (s.fb a).comp
  let s := s.setFb a { s.fb a with cor := shrRnd cp 24, corPend := 0, praw := (s.fb a).praw - cp - (s.fb a).comp, idxHere := false }
  let s := if cp = 0 then s else s.profCorrect a cp
  let d := s.fbPosition a pos aux ext status
  let comp := if d.causes.isEmpty then comp else comp0
  let st := aux % 8
  let at_ : Int := s.bnd + wrapS 16 tofs - 8 * (aux / 2 ^ 16 : Nat)
  let hall := kind = 2 && !local_
  let h : State × Int × Nat := if hall then s.hallEdge a st at_ else (s, 0, 0)
  let s := h.1
  let f := s.fb a
  let first := !f.seen
  let hbad := if kind = 2 && (st = 0 || st = 7) then f.hbad + 1 else 0
  let badWord := kind = 4 && bit (ofNat status) 5
  let s := s.setFb a { f with seen := f.seen || !badWord, hbad := hbad, praw := d.praw + comp, comp := comp, raw := d.raw, idx := aux / 2 ^ 16 % 256,
                              skp := aux / 2 ^ 24, noted := [] }
  let ix := s.fbIndexes a (if first then [] else d.idx ++ zs.map (fun z => s.fbSign a * z))
  let n := if first then 0 else d.skips + h.2.2 + localSkips
  let sk := ix.1.fbSkips a n
  let s := sk.1
  let f := s.fb a
  let open_ := bit (ofNat status) 4
  let causes := d.causes ++ ix.2.1 ++ sk.2 ++ (if open_ then [0x08] else []) ++ (if bit (ofNat status) 5 then [2] else []) ++
    (if kind = 2 && decide (2 ≤ f.hbad) then [0x0A] else [])
  let s := s.fbStatus a causes
  let f := s.fb a
  let s := if kind = 2 && f.st = 1 && f.cause = 0x10 && decide (6 ≤ f.hadj) then s.fbSet a 0 0 false else s
  let f := s.fb a
  let hw := if kind = 2 then f.hst + (if f.hst = 0 then 0 else s.hallSector a f.hst) * 8 + aux / 2 ^ 16 * 2 ^ 16 else 0
  let stat := f.st + (if f.st = 0 then 0 else f.cause) * 4 + b2n f.idxHere * 128 + b2n ix.2.2 * 256 + b2n (n != 0) * 512 +
    (s.recCycle a).toNat % 256 * 2 ^ 16
  let s := (((s.setXi a 0 f.praw).setXi a 1 (f.praw / 2 ^ 32)).setXw a 2 (ofNat (leAt r 8 4))).setXw a 3 (ofNat hw)
  let s := (((s.setXw a 4 (ofNat (vbus % 2 ^ 16 + tofs % 2 ^ 16 * 2 ^ 16))).setXi a 5 f.cor).setXw a 6 (ofNat status)).setXw a 7 (ofNat stat)
  let s := s.setFb a { s.fb a with arrivedAt := some (s.recCycle a) }
  let none0 := kind = 0 && !local_
  let c := s.ctl a
  let tv := none0 && !(aux % 2 ^ 16 == 0x8000 && aux / 2 ^ 16 == 0x8000)
  s.setCtl a { c with vab := wrapS 16 aux, vbc := wrapS 16 (aux / 2 ^ 16), noTv := !tv }

/-- A remote axis record (R304). A record whose STATUS[0] is 0 carries no sample: nothing is written, the pass starts without its
record, and what STATUS[5:4] reports counts with the missing one (R300). -/
def State.fbRemote (s : State) (a : Nat) (r : List Byte) (vbus : Nat) : State :=
  let st := leAt r 12 1
  if st % 2 = 0 then s.setFb a { s.fb a with noted := (if st / 16 % 2 = 1 then [0x08] else []) ++ (if st / 32 % 2 = 1 then [2] else []) }
  else s.fbSample a r vbus (leAt r 14 2) false 0 [] 0

/-- Bins of the learning table an axis needs under the plan in preparation (RPC_N). -/
def State.learnSize (s : State) (a : Nat) : Nat := binsOf (s.planPar a 0x26).toNat

/-- Interval between update points of each local axis under the plan in preparation, and the first one after a
valley, ps (R327). -/
def State.updPeriods (s : State) : List (Nat × Nat) :=
  (List.range 8).map (fun n =>
    let w := s.planReg (lxReg n 0)
    let per := bits w 15 0 * 2500
    (if bits w 17 16 = 2 then per / 2 else per, if bits w 17 16 = 1 then per / 2 else 0))

/-- ADC cores of each local axis under the plan in preparation (LX_CH, Table 8.8). -/
def State.localCores (s : State) : List (List Nat) :=
  (List.range 8).map (fun n =>
    let w := s.planReg (lxReg n 0xC)
    [bits w 4 0 / 8, bits w 12 8 / 8, bits w 20 16 / 8])

/-- LXn + 1 of every LXn in STEPPER (R360). -/
def State.stepperHalves (s : State) : List Nat :=
  (s.pilot.act.axes.filter (fun p => p.isLocal && s.mode p.axis == 5)).map (fun p => p.nslot + 1)

/-- The learning table of an axis is cleared, F becomes 0 (R265). -/
def State.clearLearn (s : State) (a : Nat) : State :=
  match s.actAxis a with
  | some p =>
    let s := { s with mem := { s.mem with learn := Tab.clearRange s.mem.learn p.learnBase (p.learnBase + p.learnSize) } }
    (s.clearF a).xflag a 4
  | none => s

/-- A value on gate k of LXn (AH, AL, BH, BL, CH, CL): its on-time per carrier period or its level, and 2^20 more when its active
level is low (HPOL, LPOL, Table 8.11). -/
def State.gatePin (s : State) (n k v : Nat) : Emit := .pin 10 (n * 8 + k) ((v + b2n (s.flag (lxReg n 0) (18 + k % 2)) * 2 ^ 20 : Nat) : Int)

/-- What the pilot writes at a COMMIT: KTH (R254), cleared learning tables (R265), and for local axes the carrier phase
and the test of PER against the pass period (R325, R326). -/
def State.afterSwitch (s : State) (old new : Plan) : State :=
  new.axes.foldl (fun s p =>
    let s := s.axWrite p.axis 0x1E (ofInt (divRnd ((p.lat : Int) * 2 ^ 24) (tCycle new.rate) + (p.div : Int) * 2 ^ 23))
    let was := old.axes.find? (fun q => q.axis == p.axis)
    let same := match was with
      | some q => q.learnSize == p.learnSize && (q.learnBase == p.learnBase || p.learnSize == 0)
      | none => p.learnSize == 0
    let s := if same then s else s.clearLearn p.axis
    if p.isLocal then
      let n := p.nslot
      let per := max (s.fld (lxReg n 0) 15 0) 1
      let bad := decide ((tCycle new.rate * p.div * 2) % (5 * per) ≠ 0)
      let s := s.setFld (lxReg n 8) 15 0 (p.trig / 2500 % per)
      let s := { s with loc := { s.loc with lx := Tab.upd {} s.loc.lx n (fun (y : LxSt) => { y with perErr := bad }) } }
      if bad then
        let s := (List.range 6).foldl (fun (s : State) k => s.emit (s.gatePin n k 0)) s
        (s.flagEvent (LOCAL_B + 0xC) 1 116 0).worsen p.axis 2
      else s
    else s) s

/-- Every gate pin takes a value: −1 high impedance (R324), 0 inactive. -/
def State.gatesAll (s : State) (v : Int) : State :=
  (List.range 48).foldl (fun (s : State) k => s.emit (.pin 10 (k / 6 * 8 + k % 6) v)) s

/-- PD_LOCAL is reset (R587): local axes, ADC, references, emulators, CAN. The gate pins float meanwhile (R324). -/
def State.clearLocal (s : State) : State :=
  let s := s.gatesAll (-1)
  let s := { s with loc := {}, can := {}, regs := Tab.clearRange (Tab.clearRange s.regs LOCAL_B (LOCAL_B + 0x10000)) CAN_B (CAN_B + 0x10000) }
  { s with regs := Tab.clearRange s.regs (FB_B + 0x100) (FB_B + 0x200) }.gatesAll 0

def State.lx (s : State) (n : Nat) : LxSt := Tab.get {} s.loc.lx n
def State.setLx (s : State) (n : Nat) (x : LxSt) : State := { s with loc := { s.loc with lx := Tab.set {} s.loc.lx n x } }

/-- Instant t ns after the cycle boundary is reached; time never runs back. -/
def State.at_ (s : State) (t : Nat) : State := { s with ntime := max s.ntime (s.bnd + t) }

def State.localAxesPlaced (s : State) : Bool := s.pilot.act.axes.any (fun p => p.isLocal)
def State.emuOn (s : State) : Bool := [0, 1, 2, 3].any (fun e => s.flag (FB_B + 0x100 + e * 0x10) 8)

end Sys2Proof.Machine
end

