-- ==== Sys2Proof/Machine/Law.lean ====
section
/-! DEFINITION. The standard sections' arithmetic: FBP, FBM, PRF, POS, VEL, CUR, SVM, OBS, RPC, OFFO, FBK (spec 07,
08, 09): each result exact and rounded once by R13. -/

namespace Sys2Proof.Machine

open Sys2Proof

/-! ### Common quantities -/

/-- A clamp to ±limit. -/
def lim (x l : Int) : Int := clampI (-l) l x

/-- An angle modulo 2^32. -/
def ang (x : Int) : Int := x % 2 ^ 32

/-- Sine of a 32-bit angle from the lane's table, interpolated (R251). -/
def LaneSt.sinT (n : LaneSt) (th : Int) : Int :=
  let k := (ang th / 2 ^ 23).toNat
  let f := ang th % 2 ^ 23
  let t0 := sgn (n.rdY k)
  let t1 := sgn (n.rdY ((k + 1) % 512))
  sat 32 (shrRnd (t0 * 2 ^ 23 + (t1 - t0) * f) 23)
def LaneSt.cosT (n : LaneSt) (th : Int) : Int := n.sinT (th + 2 ^ 30)

def State.laneOf (s : State) (a : Nat) : LaneSt := s.lane (((s.planAxis a).map (fun p => p.lane)).getD 0)

/-- COMM_CFG bits (Table 9.8): 0 SLESS, 1 SPROBE, 2 CATCH, 3 REVSTOP, 4 FBK, 5 HALTOBS. -/
def State.cfg (s : State) (a n : Nat) : Bool := bit (s.par a 0x200) n
def State.sless (s : State) (a : Nat) : Bool := s.cfg a 0

def State.cst (s : State) (a : Nat) : Nat := bits (s.xw a 0x2D) 3 0
def State.target (s : State) (a : Nat) : Nat := bits (s.xw a 0x2D) 6 4

/-- CST changes: pass counter and entry time restart. -/
def State.setCst (s : State) (a v : Nat) : State :=
  let s := s.setXw a 0x2D (putBits (s.xw a 0x2D) 3 0 v)
  s.setCtl a { s.ctl a with cstN := 0, cstT := s.ntime, rest := 0, neither := 0 }

/-- The manifest leaves a mode request; one for OFF is kept (R342). -/
def State.request (s : State) (a m : Nat) : State :=
  let c := s.ctl a
  s.setCtl a { c with req := if c.req == some 0 then some 0 else some m }

/-- IQMAX in force: replaced in homing PRESS (R400), ramped in RAMP (R356). -/
def State.iqLim (s : State) (a : Nat) : Int :=
  let b := s.iqMax a
  if s.cst a = 5 then divRnd (b * min (s.ctl a).cstN (s.pn a 0x20A)) (max (s.pn a 0x20A) 1) else b

/-- AXFLAGS.SAT, LANE_FLAGS.SAT and LANE_SATCNT (R228). -/
def State.satFlag (s : State) (a : Nat) : State :=
  let l := ((s.planAxis a).map (fun p => p.lane)).getD 0
  ((s.axFlag a 0).laneFlag l 0).incFld (laneReg l 0xC) 31 0 1

/-- A value saturated to 32 bits, flagged when it saturates. -/
def State.satV (s : State) (a : Nat) (x : Int) : State × Int := (if sat 32 x = x then s else s.satFlag a, sat 32 x)

/-- Entry into RAMP of a sensorless axis preloads by R356, not by Table 7.9 (R349). -/
def State.rampEntry (s : State) (a : Nat) : Bool := s.sless a && s.cst a == 5

/-- The gates may be on in this pass: health, commutation state, coasting (R255, R354, R369). -/
def State.gateOk (s : State) (a : Nat) : Bool :=
  (s.axis a).health != 2 && s.cst a != 7 && s.cst a != 8 && !(s.ctl a).coast && !(s.ctl a).kill

/-- Mode word fields of the pass: FIRST, PREV, BLEN, BCNT (Table 7.8). -/
def State.mwFirst (s : State) (a : Nat) : Bool := bit (s.xw a 0x30) 3
def State.mwPrev (s : State) (a : Nat) : Nat := bits (s.xw a 0x30) 6 4
def State.mwB (s : State) (a : Nat) : Nat := bits (s.xw a 0x30) 15 8
def State.mwJ (s : State) (a : Nat) : Nat := bits (s.xw a 0x30) 23 16

/-- Blend factor c of the pass, Q1.31; none: 1 (R270). -/
def State.blendC (s : State) (a : Nat) : Option Int :=
  if s.mwB a ≤ s.mwJ a then none else some (divRnd ((s.mwJ a + 1) * 2 ^ 31) (s.mwB a + 1))

/-- The quantity a transition blends (Table 7.9): 1 iq*, 2 IQREF, 3 vcmd, 0 none. -/
def blendKind (prev mode : Nat) : Nat :=
  match mode with
  | 1 => if prev ≤ 3 || prev == 7 then 1 else 0
  | 2 => if prev == 3 then 3 else if prev == 0 || prev == 1 || prev == 7 then 2 else 0
  | 3 => if prev == 2 then 3 else if prev == 0 || prev == 1 || prev == 7 then 2 else 0
  | _ => 0

/-- The blended value of a quantity whose new value is l (R270); HELD is CARRY word +0x15. -/
def State.blend (s : State) (a kind : Nat) (l : Int) : State × Int :=
  if blendKind (s.mwPrev a) (s.mode a) = kind then
    match s.blendC a with
    | some c =>
      let h := s.xi a 0x15
      let q := sat 32 (shrRnd (h * 2 ^ 31 + (l - h) * c) 31)
      (s.setCtl a { s.ctl a with blendOut := q, blending := true }, q)
    | none => (s, l)
  else (s, l)

/-- First pass of a mode: the held value (Table 7.9). In a running blend it is the blended output of the last pass (R272): CARRY's
VCMD of a blended velocity command, else the blended current, and the last iq* where the blend was of vcmd. -/
def State.holdValue (s : State) (a : Nat) : State :=
  if s.mwFirst a then
    let c := s.ctl a
    let k := blendKind (s.mwPrev a) (s.mode a)
    let h := if s.mwPrev a = 0 then 0 else if k = 3 then s.xi a 0x0F else if c.blending && s.mwPrev a != 7 then c.blendOut else c.iqs
    let s := if k = 0 then s else s.setXi a 0x15 h
    let s := if s.mwPrev a = 0 then (s.setXi a 0x11 0).setXi a 0x12 0 else s
    s.setCtl a { s.ctl a with blending := false }
  else s.setCtl a { s.ctl a with blending := false }

/-- A preload with its clamp (R271). -/
def State.preload (s : State) (a o : Nat) (v l : Int) : State :=
  let s := if lim v l = v then s else s.mflag a 0
  s.setXi a o (lim v l)

/-! ### Feedback processing -/

/-- Hall angle (R311). -/
def State.hallAngle (s : State) (a : Nat) : Int :=
  let f := s.fb a
  let w := s.xw a 3
  let sec : Int := bits w 5 3
  let age : Int := bits w 31 16 * 8
  let eofs : Int := (s.xw a 0x67).toNat
  let mid := ang (eofs + divRnd ((2 * sec + 1) * 2 ^ 32) 12)
  match f.hti with
  | some ti =>
    if age ≤ s.pn a 0x10B * 1000 && decide (0 < ti) then
      let num := min age ti
      let fr := if f.hdir < 0 then ti - num else num
      ang (eofs + divRnd ((sec * ti + fr) * 2 ^ 32) (6 * ti))
    else mid
  | none => mid

/-- VREF × ELEC, and k_r times it, in the units of W, to the nearest (R13, R353). -/
def wRef (v elec : Int) (kr : Nat) : Int := divRnd (v * elec * kr) (2 ^ 40)

/-- W = v × ELEC, integer part modulo 2^32, signed (R298). -/
def wOf (v elec : Int) : Int := wrapS 32 (v * elec / 2 ^ 40)

/-- v̂ = Ŵ ÷ ELEC, Q16.16. -/
def vHat (wh elec : Int) : Int := if elec = 0 then 0 else sat 32 (divRnd (wh * 2 ^ 40) elec)

/-- Angle, speed and position of a sensorless axis (R348), or the forced angle in FORCED (R353). -/
def State.slessInputs (s : State) (a : Nat) : State :=
  let c := s.ctl a
  let kr := s.kr a
  let v := vHat c.wh (s.elec a)
  let obs := ang (c.thHat + c.wh * kr)
  let th := if s.cst a = 4 then
      match c.hand with
      | some j => ang (c.thF + divRnd (wrapS 32 (obs - c.thF) * min (j + 1) (c.startB + 1)) (c.startB + 1))
      | none => c.thF
    else obs
  s.setCtl a { c with th := th, w := c.wh, v := v, pos := c.pos + v * 256 * kr }

/-- Causes of health that are states of the feedback (R301), and the reaction to a loss (R357). -/
def State.lossReaction (s : State) (a : Nat) : State :=
  let f := s.fb a
  let c := s.ctl a
  if f.st = 1 then s.worsen a 1
  else if f.st = 2 then
    if f.cause = 1 && !f.latched then s.worsen a 1
    else if s.cst a = 9 then s.worsen a 1
    else if s.cst a = 6 && !s.sless a then
      let m := s.mode a
      let fast := c.lock && decide (s.pz a 0x206 ≤ absI c.wh)
      let onlyMiss := f.cause = 0x0D && f.onlyMissing
      let loop := m = 1 || m = 2 || m = 3
      let kind := if onlyMiss then 0
        else if s.cfg a 4 && fast && (m = 1 || m = 2) then 1
        else if fast && loop && (m = 3 || (!s.cfg a 4 && s.cfg a 5)) then 2
        else 0
      if kind = 0 then
        ((s.setCtl a { c with kill := true }).request a 0).worsen a 2
      else
        let s := s.setXw a 0x2D (putBits (s.xw a 0x2D) 6 4 m)
        let s := (((s.setCst a 9).request a 7).commFlag a 5).worsen a 1
        s.setCtl a { s.ctl a with fbk := kind, fbkV := vHat c.wh (s.elec a) * 2 ^ 8 }
    else s.worsen a 2
  else s

/-- Section FBP (R298, R316, R348). -/
def State.secFBP (s : State) (a : Nat) : State :=
  let c := s.ctl a
  let kr := s.kr a
  let stat := s.xw a 7
  let iab := s.xw a 2
  let busw := s.xw a 4
  let vbus := bits busw 15 0
  let vbase := (s.xw a 0x53).toNat
  let vb := max (sat 32 (divRnd (vbus * 2 ^ 47) (100 * max vbase 1))) (s.xi a 0x55)
  let s := if bit stat 8 then s.mflag a 5 else s
  let s := if bit stat 9 then s.mflag a 6 else s
  let c : Ctl := { c with ia := sbits iab 15 0 * 65536, ib := sbits iab 31 16 * 65536, vb := vb, kill := false, run := true }
  let s := if s.sless a then (s.setCtl a c).slessInputs a
    else
      let pos := wrapS 64 ((s.xw a 0).toNat + 2 ^ 32 * (s.xw a 1).toNat)
      let prev := if (s.ctl a).run then (s.ctl a).pos - s.xi a 5 * 2 ^ 24 else pos
      let v := sat 32 (divRnd (c.v * kr * 2 ^ 39 + s.xi a 0x68 * (pos - prev - kr * c.v * 256)) (kr * 2 ^ 39))
      let w := wOf v (s.elec a)
      let obs := ang (c.thHat + c.wh * kr)
      let th := if s.cst a = 9 then obs
        else if s.fbKind a = 2 then s.hallAngle a else ang ((s.xw a 0x67).toNat + pos * s.elec a / 2 ^ 48)
      let m := s.mode a
      let judged := m = 2 || m = 3
      let still := judged && pos / 2 ^ 24 = c.pos / 2 ^ 24 && (s.ctl a).run && decide (s.xi a 0x69 ≤ absI c.iq) &&
        decide (s.xi a 0x6A ≤ absI c.vcmd)
      let far := judged && c.lock && decide (((s.xw a 0x6C).toNat : Int) < absI (wrapS 32 (obs - th)))
      let c : Ctl := { c with pos := pos, v := v, th := th, w := w, frzN := if still then c.frzN + 1 else 0, obsN := if far then c.obsN + 1 else 0 }
      let s := s.setCtl a c
      if s.pn a 0x113 ≤ c.frzN || s.pn a 0x113 ≤ c.obsN then s.mflag a 7 else s
  let was9 := s.cst a = 9
  let s := s.lossReaction a
  let c := s.ctl a
  if s.cst a = 9 && !was9 then s.setCtl a { c with th := ang (c.thHat + c.wh * kr) } else s

/-- Section FBM (R299). -/
def State.secFBM (s : State) (a : Nat) : State :=
  let kr := s.kr a
  let c : Ctl := { s.ctl a with kill := false }
  let s := if s.sless a then (s.setCtl a c).slessInputs a
    else s.setCtl a { c with pos := c.pos + c.v * 256 * kr, th := ang (c.th + c.w * kr) }
  s.lossReaction a

/-! ### Test signals (R275 to R278) -/

/-- Taps of the PRBS generator (Table 7.12). -/
def prbsTaps : Nat → List Nat
  | 7 => [7, 6] | 8 => [8, 6, 5, 4] | 9 => [9, 5] | 10 => [10, 7] | 11 => [11, 9] | 12 => [12, 11, 10, 4]
  | 13 => [13, 12, 11, 8] | 14 => [14, 13, 12, 2] | 15 => [15, 14] | 16 => [16, 15, 13, 4] | 17 => [17, 14] | 18 => [18, 11]
  | 19 => [19, 18, 17, 14] | 20 => [20, 17] | 21 => [21, 19] | 22 => [22, 21] | 23 => [23, 18] | _ => []

/-- One step of the LFSR of r bits: bit t of Table 7.12 is bit t − 1 of the word, bit r is the output, and the
feedback enters at bit 1 (DEDUCED, assumption log 24). -/
def lfsrStep (r w : Nat) : Nat :=
  let fb := (prbsTaps r).foldl (fun x t => x != (w / 2 ^ (t - 1) % 2 == 1)) false
  (w * 2 + b2n fb) % 2 ^ r

/-- s[n] of an injection with its phase accumulator or LFSR (INJS), and INJS for the next pass (R277). A multisine that selects
no harmonic divides by K = 0: its value is the free value k. -/
def injSignal (i : Inj) (injs k : Nat) : Int × Nat :=
  match i.typ with
  | 0 => (if i.op2 ≤ i.n then i.amp else 0, injs)
  | 1 =>
    let inc := (i.op2 : Int) + divRnd (((i.op3 : Int) - i.op2) * i.n) (max i.len 1)
    (sat 32 (shrRnd (i.amp * sinQ31 injs (2 ^ 32)) 31), (ang (injs + inc)).toNat)
  | 2 =>
    let r := i.op2 % 32
    let h := i.op2 / 256 % 256 + 1
    (if injs / 2 ^ (r - 1) % 2 = 1 then i.amp else sat 32 (-i.amp), if (i.n + 1) % h = 0 then lfsrStep r injs else injs)
  | _ =>
    let hs := (List.range 16).filter (fun k => i.op3 / 2 ^ k % 2 == 1)
    let term (k : Nat) : Int :=
      let h : Int := k + 1
      sinQ31 (ang (h * injs) * 32 - h * (h - 1) * 2 ^ 32) (2 ^ 37)
    let sum := (hs.map term).foldl (· + ·) 0
    (if hs.isEmpty then wrapS 32 (Config.freeInt k) else sat 32 (divRnd (i.amp * sum) (hs.length * 2 ^ 31)), (ang (injs + i.op2)).toNat)

/-- The injected term at a point; 0 without an injection there. -/
def State.injAt (s : State) (a p : Nat) : Int :=
  match (s.axis a).inj with
  | some i => if i.point = p then i.s else 0
  | none => 0

/-- The pass's signal is formed (R277, R279); INJS starts from 0, or the seed of the LFSR. -/
def State.injPass (s : State) (a : Nat) : State :=
  match (s.axis a).inj with
  | none => s
  | some i =>
    if isFuture i.start (s.laneOf a).pcyc then s
    else
    let s := if i.n = 0 then s.injMark a 0x10 i.typ i.point else s
    let injs := if i.n = 0 then (if i.typ = 2 then i.op3 % 2 ^ (i.op2 % 32) else 0) else (s.xw a 0x17).toNat
    let r := injSignal i injs s.free
    let s := if i.typ = 3 && i.op3 % 2 ^ 16 = 0 then s.draw else s
    (s.setAxis a { s.axis a with inj := some { i with s := r.1, n := i.n + 1 } }).setXw a 0x17 (ofNat r.2)

/-- After OP4 passes the injection ends (R278). -/
def State.injDone (s : State) (a : Nat) : State :=
  match (s.axis a).inj with
  | some i => if i.len ≠ 0 && decide (i.len ≤ i.n) then (s.endInj a).setXw a 0x30 (putBit (s.xw a 0x30) 7 false) else s
  | none => s

/-! ### References -/

/-- Section PRF: SETP, index correction of PREF (R308), feedforward (R256), injection, held value. -/
def State.secPRF (s : State) (a : Nat) (miss : Bool) : State :=
  let s := (s.injPass a).holdValue a
  let c := s.ctl a
  let cor := if miss then 0 else s.xi a 5
  let pref := wrapS 64 ((s.xw a 8).toNat + 2 ^ 32 * (s.xw a 9).toNat) - cor * 2 ^ 24
  let vref := s.xi a 0xA
  let aref := s.xi a 0xB
  let en := s.xw a 0x5B
  let iqm := s.iqMax a
  let iqff := if bit en 1 then lim (shrRnd (s.xi a 0x58 * (aref + s.injAt a 4)) 17) iqm else 0
  let iqfr := if bit en 2 then sat 32 (shrRnd (s.xi a 0x59 * signI vref * 512 + s.xi a 0x5A * vref) 9) else 0
  s.setCtl a { c with pref := pref, vref := vref, aref := aref, iqff := iqff, iqfr := iqfr }

/-- VREF × FF_EN.VFF. -/
def State.vff (s : State) (a : Nat) : Int := if bit (s.xw a 0x5B) 0 then (s.ctl a).vref else 0

/-- Section POS (R248, R249), with the preloads of Table 7.9; the loop does not run in FORCED (R353). -/
def State.secPOS (s : State) (a : Nat) : State :=
  if s.cst a = 4 then s
  else
  let c := s.ctl a
  let e0 := s.satV a (shrRnd (c.pref + s.injAt a 3 * 256 - c.pos) 8)
  let s := e0.1
  let ep := e0.2
  let vcm := s.vcMax a
  let kpp := s.xi a 0x44
  let kip := s.xi a 0x45
  let fromVel := s.mwPrev a = 2 && !c.take
  let s := if c.take || (s.mwFirst a && s.mode a = 3 && s.mwPrev a != 3 && !s.rampEntry a) then
      let goal := if fromVel then s.xi a 0x15 - s.vff a else c.v
      ((s.preload a 0x0C (shrRnd (goal * 2 ^ 24 - (kpp + kip) * ep) 24) vcm).setXi a 0x0D 0).setXi a 0x0E ep
    else s
  let hold := !s.gateOk a
  let pint := if hold then s.xi a 0x0C else lim (s.xi a 0x0C + shrRnd (kip * ep) 24) vcm
  let df0 := s.xi a 0x0D
  let df := sat 32 (shrRnd (df0 * 2 ^ 55 + s.xi a 0x47 * (s.xi a 0x46 * (ep - s.xi a 0x0E) - df0 * 2 ^ 24)) 55)
  let l := lim (shrRnd (kpp * ep) 24 + pint + df + s.vff a + s.injAt a 2) vcm
  let s := ((s.setXi a 0x0C pint).setXi a 0x0D df).setXi a 0x0E ep
  let b := s.blend a 3 l
  let s := (b.1.setXi a 0x0F b.2).setCtl a { b.1.ctl a with vcmd := b.2 }
  let fm := s.xi a 0x5C
  if fm ≠ 0 && decide (fm < absI ep) then
    let s := (s.mflag a 3).worsen a 1
    s.setCtl a { s.ctl a with raising := 3 :: (s.ctl a).raising }
  else s

/-- One biquad on the slot words of section VEL: coefficients at X offset k, delay line at Y offset y (listing of VEL). -/
def State.biquad (s : State) (a k y : Nat) (x : Int) : State × Int :=
  let x1 := s.yi a (y + 1)
  let x2 := s.yi a (y + 2)
  let y1 := s.yi a (y + 5)
  let y2 := s.yi a (y + 6)
  let r := shrRnd (sat 80 (s.xi a k * x2 + s.xi a (k + 1) * x1 + s.xi a (k + 2) * x + s.xi a (k + 3) * y2 + s.xi a (k + 4) * y1)) 30
  let v := s.satV a r
  let s := (((v.1.setYi a (y + 3) x2).setYi a (y + 2) x1).setYi a (y + 1) x)
  ((((s.setYi a (y + 7) y2).setYi a (y + 6) y1).setYi a (y + 5) v.2), v.2)

/-- Both delay lines filled with one value (Table 7.9). -/
def State.fillBiquads (s : State) (a : Nat) (v : Int) : State :=
  [0x41, 0x42, 0x45, 0x46, 0x49, 0x4A, 0x4D, 0x4E].foldl (fun s o => s.setYi a o v) s

/-- What section VEL works on: the command and the measured velocity that a customer section before it has left in D0 and D1
(R238), or the standard ones; a first pass preloads (Table 7.9). -/
def State.velPrep (s : State) (a : Nat) (given : Option (Int × Int)) : State × Int × Int :=
  let s := match given with
    | some g => (s.setXi a 0x0F g.1).setCtl a { s.ctl a with vcmd := g.1 }
    | none =>
      if s.mode a = 2 then
        let c := s.ctl a
        let b := s.blend a 3 (lim (c.vref + s.injAt a 2) (s.vcMax a))
        (b.1.setXi a 0x0F b.2).setCtl a { b.1.ctl a with vcmd := b.2 }
      else s
  let c := s.ctl a
  let v := match given with | some g => g.2 | none => c.v
  let e := sat 32 (c.vcmd - v)
  let pv := s.mwPrev a
  let s := if c.take || (s.mwFirst a && (pv = 0 || pv = 1 || pv = 7) && !s.rampEntry a) then
      let h := s.xi a 0x15
      (s.preload a 0x10 (shrRnd (h * 2 ^ 9 - (s.xi a 0x40 + s.xi a 0x41) * e) 9) (s.iqLim a)).fillBiquads a h
    else s
  (s, c.vcmd, v)

/-- Section VEL (R250, listing); the loop does not run in FORCED (R353). -/
def State.secVEL (s : State) (a : Nat) (cmd meas : Int) : State :=
  let e := s.satV a (cmd - meas)
  let s := e.1
  let kpv := s.xi a 0x40
  let kiv := s.xi a 0x41
  let iqm := s.iqLim a
  let i := s.satV a (shrRnd (kiv * e.2) 9)
  let hold := !i.1.gateOk a
  let w := i.1.satV a (i.1.xi a 0x10 + i.2)
  let vint := if hold then w.1.xi a 0x10 else lim w.2 iqm
  let p := (w.1.setXi a 0x10 vint).satV a (shrRnd (kpv * e.2) 9)
  let u := p.1.satV a (p.2 + vint)
  let b1 := u.1.biquad a 0x48 0x40 u.2
  let b2 := b1.1.biquad a 0x4D 0x48 b1.2
  let q := b2.1.blend a 2 (lim b2.2 iqm)
  (q.1.setXi a 0x14 q.2).setCtl a { q.1.ctl a with ev := e.2 }

/-- Section FBK (R357): velocity PI or torque command on the observer. In its first pass the integrator is preloaded so that
iq* is that of the previous pass. -/
def State.secFBK (s : State) (a : Nat) : State :=
  let c := s.ctl a
  let kr := s.kr a
  let v := vHat c.wh (s.elec a)
  if c.fbk = 1 && s.target a = 1 then s.setXi a 0x14 (s.xi a 0x57)
  else
    let dec : Int := (s.pn a 0x301 : Int) * kr
    let rv := if c.fbk = 2 then (if c.fbkV < 0 then min 0 (c.fbkV + dec) else max 0 (c.fbkV - dec)) else s.xi a 0x0A * 2 ^ 8
    let e := s.satV a (shrRnd rv 8 - v)
    let pre := sat 32 (shrRnd (c.iqs * 2 ^ 9 - (e.1.xi a 0x40 + e.1.xi a 0x41) * e.2) 9)
    let e := if s.mwFirst a then (e.1.setXi a 0x10 pre, e.2) else e
    let vint := if e.1.gateOk a then lim (e.1.xi a 0x10 + shrRnd (e.1.xi a 0x41 * e.2) 9) (e.1.iqLim a) else e.1.xi a 0x10
    let u := lim (sat 32 (shrRnd (e.1.xi a 0x40 * e.2) 9 + vint)) (e.1.iqLim a)
    let u := if c.fbk = 2 then lim u (e.1.pz a 0x213) else u
    ((e.1.setXi a 0x10 vint).setXi a 0x14 u).setCtl a { e.1.ctl a with fbkV := rv, ev := e.2 }

/-! ### Current loop and modulation -/

/-- Bus group of the axis; 0: none. -/
def State.busGroup (s : State) (a : Nat) : Nat := ((s.planAxis a).map (fun p => p.grp)).getD 0
abbrev grpReg (g o : Nat) : Nat := LANE_B + 0x1000 + g * 0x20 + o

/-- iα and iβ (Table 7.4). -/
def alphaBeta (ia ib : Int) : Int × Int := (ia, sat 32 (divRnd ((ia + 2 * ib) * 577350) 1000000))

/-- An integrator of the current loop (R251, R252): hold, clamp. -/
def integ (old inc l : Int) (volt hold : Bool) : Int :=
  let n := lim (old + inc) l
  if hold then old else if volt && decide (absI old < absI n) then old else n

/-- IQREF as section CUR reads it: of the old slot in a MOVED pass on the same lane (R212). -/
def State.iqRef (s : State) (a : Nat) : Int :=
  match (s.laneOf a).oldBase with
  | some ob => sgn ((s.laneOf a).rdX (ob + 0x14))
  | none => s.xi a 0x14

/-- Section CUR (R246, R247, R251, R252, R367). -/
def State.secCUR (s : State) (a : Nat) : State :=
  let n := s.laneOf a
  let m := s.mode a
  let c := s.ctl a
  let iqrpc := s.xi a 0x13
  let raw := if m = 1 then s.xi a 0x57 + c.iqff + iqrpc + s.injAt a 1
    else if m = 7 then s.iqRef a
    else s.iqRef a + c.iqff + c.iqfr + iqrpc + s.injAt a 1
  let forced := s.cst a = 4 && s.sless a
  let r0 := if forced then (s, s.pz a 0x212 * c.dir) else s.satV a raw
  let s := r0.1
  let raw := r0.2
  let b := if forced then (s, raw) else s.blend a 1 raw
  let s := b.1
  let iqm := s.iqLim a
  let idr := if forced then 0 else s.xi a 0x3F + s.injAt a 0
  let iq1 := lim b.2 iqm
  let ids := lim idr iqm
  let g := s.busGroup a
  let brake := g != 0 && s.flag (grpReg g 0) 0 && signI iq1 != signI c.v && c.v != 0
  let iqs := if brake then lim iq1 (shrRnd (s.yi a 0x3E * s.iqBase a) 31) else iq1
  let limited := iq1 != b.2 || ids != idr || iqs != iq1
  let s := if limited then s.mflag a 1 else s
  let ab := alphaBeta c.ia c.ib
  let sn := n.sinT c.th
  let cs := n.cosT c.th
  let id := sat 32 (shrRnd (ab.1 * cs + ab.2 * sn) 31)
  let iq := sat 32 (shrRnd (ab.2 * cs - ab.1 * sn) 31)
  let sd := s.satV a (ids - id)
  let sq := sd.1.satV a (iqs - iq)
  let s := sq.1
  let ed := sd.2
  let eq := sq.2
  let vl := shrRnd (s.xi a 0x52 * c.vb) 31
  let hold := !s.gateOk a
  let di := integ (s.xi a 0x11) (shrRnd (s.xi a 0x39 * ed) 24) vl c.voltLim hold
  let qi := integ (s.xi a 0x12) (shrRnd (s.xi a 0x3B * eq) 24) vl c.voltLim hold
  let vd := s.satV a (shrRnd (s.xi a 0x38 * ed * 2 ^ 27 + di * 2 ^ 51 - s.xi a 0x3D * c.w * iq) 51)
  let vq := vd.1.satV a (shrRnd (s.xi a 0x3A * eq * 2 ^ 27 + qi * 2 ^ 51 + s.xi a 0x3C * c.w * id + s.xi a 0x3E * c.w * 2 ^ 31) 51)
  ((vq.1.setXi a 0x11 di).setXi a 0x12 qi).setCtl a
    { vq.1.ctl a with id := id, iq := iq, ids := ids, iqs := iqs, vd := vd.2, vq := vq.2, limited := limited,
                      blendOut := if blendKind (s.mwPrev a) m = 3 then iqs else (vq.1.ctl a).blendOut }

/-- A scaled value known to 16 bits (R253): the exact value within 2^−16 of its magnitude, the rest free. -/
def near16 (k : Nat) (x : Int) : Int :=
  let b := absI x / 65536
  x - b + (Config.freeInt k) % (2 * b + 1)

/-- One duty: clamp(0.5 + v ÷ VB, 0, 1) in 2^−16 units, at most 0xFFFF (R255). -/
def duty (v vb : Int) : Nat := (min 65535 (clampI 0 65536 (divRnd (65536 * (vb + 2 * v)) (2 * max vb 1)))).toNat

/-- The OUT image: 20 bytes in words +0x31 to +0x35 (R209). -/
def State.setOut (s : State) (a : Nat) (l : List Byte) : State :=
  [0, 1, 2, 3, 4].foldl (fun s k => s.setXw a (0x31 + k) (ofNat (leAt l (4 * k) 4))) s
def State.outBytes (s : State) (a : Nat) : List Byte :=
  ([0, 1, 2, 3, 4].map (fun k => leBytes 4 (s.xw a (0x31 + k)).toNat)).flatten

/-- Fallback fields of OUT: TLIM, FSP and FSP_VALID (R359). -/
def State.outTail (s : State) (a : Nat) (aflags pvec pwidth : Nat) : List Byte :=
  let en := bit (s.par a 0x216) 0
  leBytes 1 (aflags + 2 * b2n en) ++ leBytes 2 (s.pn a 0x215) ++ leBytes 1 pvec ++ [0] ++ leBytes 2 pwidth ++
    leBytes 4 (if en then (s.xw a 0x0A).toNat else 0) ++ [0, 0]

/-- PELEC and PBMAX, 0.1 W units (R364). -/
def State.power (s : State) (a : Nat) (vd vq : Int) : State :=
  let c := s.ctl a
  let vi : Int := (s.xw a 0x53).toNat * (s.xw a 0x54).toNat
  let pe := sat 32 (divRnd (15 * (vd * c.id + vq * c.iq) * vi) (2 ^ 94))
  let pb := sat 32 (divRnd (15 * (absI (s.xi a 0x3E * c.w) * s.iqBase a) * vi) (2 ^ 114))
  let s := (s.setXi a 0x2F pe).setXi a 0x2C pb
  s.setXw a 0x2D (putBit (s.xw a 0x2D) 8 (decide (pe < 0)))

/-- Section SVM (R253 to R255, R359, R361, R364). -/
def State.secSVM (s : State) (a : Nat) : State :=
  let s := s.lifePass a
  let c := s.ctl a
  let n := s.laneOf a
  let vl := shrRnd (s.xi a 0x52 * c.vb) 31
  let m := sqrtRnd (c.vd * c.vd + c.vq * c.vq).toNat
  let ovm := vl < m && s.mode a != 5
  let sd := divRnd (c.vd * vl) (max m 1)
  let sq := divRnd (c.vq * vl) (max m 1)
  let vd := if ovm then near16 s.free sd else c.vd
  let vq := if ovm then near16 (s.free + 1) sq else c.vq
  let s := if ovm then (s.draw.draw).mflag a 2 else s
  let gate := s.gateOk a
  let md := s.mode a + 8 * b2n gate
  if s.mode a = 5 then
    let half (v : Int) : Nat := (min 65535 (clampI 0 65536 (divRnd (65536 * (c.vb + v)) (2 * max c.vb 1)))).toNat
    let s := s.setOut a (leBytes 2 (half vd) ++ leBytes 2 (half vq) ++ [0, 0] ++ leBytes 1 md ++ s.outTail a 0 7 0)
    let s := s.power a vd vq
    s.setCtl a { s.ctl a with nva := vd, nvb := vq, ngate := gate, nvolt := false }
  else
    let th := ang (c.th + shrRnd (s.xi a 0x56 * c.w) 24)
    let sn := n.sinT th
    let cs := n.cosT th
    let al := sat 32 (shrRnd (vd * cs - vq * sn) 31)
    let be := sat 32 (shrRnd (vd * sn + vq * cs) 31)
    let va := al
    let vb := sat 32 (divRnd (-(500000 * al) + 866025 * be) 1000000)
    let vc := sat 32 (divRnd (-(500000 * al) - 866025 * be) 1000000)
    let off := -(divRnd (max va (max vb vc) + min va (min vb vc)) 2)
    let d (x : Int) : List Byte := leBytes 2 (duty (x + off) c.vb)
    let s := s.setOut a (d va ++ d vb ++ d vc ++ leBytes 1 md ++ s.outTail a 0 7 0)
    let s := s.power a vd vq
    s.setCtl a { s.ctl a with vd := vd, vq := vq, nva := al, nvb := be, ngate := gate, nvolt := ovm }

/-- Section OFFO: GATE_EN = 0; LS_BRAKE with GATE_EN while BRAKE shorts the motor (R351). -/
def State.secOFFO (s : State) (a : Nat) : State :=
  let br := (s.ctl a).lsBrake && s.cst a = 2
  let s := s.setOut a (List.replicate 6 0 ++ leBytes 1 (if br then 0x18 else 0) ++ s.outTail a 0 7 0)
  let s := s.setXi a 0x2F 0
  let s := s.setXw a 0x2D (putBit (s.xw a 0x2D) 8 false)
  s.setCtl a { s.ctl a with nva := 0, nvb := 0, ngate := br, nvolt := false, vd := 0, vq := 0 }

/-! ### Observer (R345 to R347) -/

/-- 2^60 ÷ √3. -/
def invSqrt3 : Int := 665645051646164019

/-- ê_raw from currents and applied voltage, or from terminal voltages. -/
def State.emfRaw (s : State) (a : Nat) (ial ibe : Int) : Int × Int :=
  let c := s.ctl a
  let kr : Int := s.kr a
  let vbase : Int := max (s.xw a 0x53).toNat 1
  if c.gates then
    let f (v i ip : Int) : Int :=
      sat 32 (divRnd (v * 2 ^ 24 * kr - s.pz a 0x201 * i * kr - s.pz a 0x202 * (i - ip)) (2 ^ 24 * kr))
    (f c.va ial c.ial, f c.vbeta ibe c.ibe)
  else if c.noTv then (0, 0)
  else (sat 32 (divRnd ((2 * c.vab + c.vbc) * 2 ^ 47) (60 * vbase)), sat 32 (divRnd (c.vbc * invSqrt3) (2 ^ 13 * 20 * vbase)))

/-- The third pass after a loss is the first of RELOCK: the observer is seeded again from the terminal voltages (R355, Table
9.4). With KE = 0 the speed is a free value. -/
def State.reseed (s : State) (a : Nat) : State :=
  let c := s.ctl a
  if s.cst a = 7 && decide (2 ≤ c.cstN) then
    let raw := s.emfRaw a c.ial c.ibe
    let mag : Int := sqrtRnd (raw.1 * raw.1 + raw.2 * raw.2).toNat
    let ke := s.xi a 0x3E
    let wi := if ke = 0 then wrapS 32 (Config.freeInt s.free) else sat 32 (signI c.wBefore * divRnd (mag * 2 ^ 20) ke)
    let s := (if ke = 0 then s.draw else s).setCst a 8
    s.setCtl a { s.ctl a with phi := atan2Turn raw.2 raw.1 * 65536, okCnt := 0, badCnt := 0, lock := false, lockN := 0, wi := wi }
  else s

/-- Section OBS. -/
def State.secOBS (s : State) (a : Nat) (miss : Bool) : State :=
  let s := if miss then s else s.reseed a
  let c := s.ctl a
  let n := s.laneOf a
  let kr := s.kr a
  if miss then
    let phi := ang (c.phi + c.wh * kr)
    s.setCtl a { c with phi := phi, thHat := ang (if 0 ≤ c.wh then phi - 2 ^ 30 else phi + 2 ^ 30) }
  else
    let ab := if s.mode a = 5 then (c.ia, c.ib) else alphaBeta c.ia c.ib
    let r := s.emfRaw a ab.1 ab.2
    let kef := s.pz a 0x203
    let ea := sat 32 (shrRnd (c.ea * 2 ^ 31 + kef * (r.1 - c.ea)) 31)
    let eb := sat 32 (shrRnd (c.eb * 2 ^ 31 + kef * (r.2 - c.eb)) 31)
    let mag : Int := sqrtRnd (ea * ea + eb * eb).toNat
    let eps := if mag = 0 then 0 else sat 32 (divRnd (eb * n.cosT c.phi - ea * n.sinT c.phi) mag)
    let wi := sat 32 (c.wi + shrRnd (s.pz a 0x205 * eps) 24)
    let wh := sat 32 (wi + shrRnd (s.pz a 0x204 * eps) 24)
    let phi := ang (c.phi + wh * kr)
    let kew := shrRnd (s.xi a 0x3E * absI wh) 20
    let bad := decide (s.pz a 0x207 < absI eps) || decide (shrRnd (s.pz a 0x208 * kew) 31 < absI (mag - kew))
    let fast := decide (s.pz a 0x206 ≤ absI wh)
    let ok := if fast && !bad then c.okCnt + 1 else 0
    let badCnt := if bad then c.badCnt + 1 else 0
    let lock := if c.lock then fast && decide (badCnt < 2) else decide (s.pn a 0x20B ≤ ok)
    let restN := if mag < shrRnd (s.xi a 0x3E * s.pz a 0x20C) 20 then c.rest + 1 else 0
    let s := s.setCtl a { c with ea := ea, eb := eb, eps := eps, wi := wi, wh := wh, phi := phi, ial := ab.1, ibe := ab.2,
                                 thHat := ang (if 0 ≤ wh then phi - 2 ^ 30 else phi + 2 ^ 30), okCnt := ok, badCnt := badCnt,
                                 lock := lock, lockN := if lock then c.lockN + 1 else 0, rest := restN }
    s.setXw a 0x2D (putBit (s.xw a 0x2D) 7 lock)

/-! ### Repetitive controller (R260 to R264) -/

/-- A bin of an axis's learning table: index in learning memory. -/
def State.learnBin (s : State) (a k : Nat) : Option Nat :=
  match s.planAxis a with
  | some p => if p.learnSize = 0 then none else some (p.learnBase + k % p.learnSize)
  | none => none
def State.rdBin (s : State) (a k : Nat) : Int :=
  match s.learnBin a k with | some i => sgn (Tab.get 0 s.mem.learn i) | none => 0
def State.wrBin (s : State) (a k : Nat) (v : Int) : State :=
  match s.learnBin a k with
  | some i => { s with mem := { s.mem with learn := Tab.set 0 s.mem.learn i (ofInt v) } }
  | none => s

/-- Section RPC. Without a table the fade factor follows its rule all the same, and the output is 0. -/
def State.secRPC (s : State) (a : Nat) (miss : Bool) : State :=
  let c := s.ctl a
  let cfg := s.xw a 0x5D
  let kr : Int := s.kr a
  let nb := ((s.planAxis a).map (fun p => p.learnSize)).getD 0
  let per : Int := max (if bit cfg 2 then (s.xw a 0x5E).toNat else (s.xw a 0x65).toNat) 1
  let f0 := (s.xw a 0x16).toNat
  let f : Int := if bit cfg 0 then min (f0 + divRnd (absI c.v * kr * 2 ^ 15) per) (2 ^ 31 - 1) else max ((f0 : Int) - 2 ^ 21) 0
  let m := s.mode a
  let ok := bit cfg 0 && bit cfg 1 && (m = 2 || m = 3) && decide (s.xi a 0x63 ≤ absI c.v) && (s.fb a).st = 0 &&
    (s.axis a).health = 0 && !miss && (s.axis a).inj.isNone
  let s := (s.setXi a 0x16 f).setCtl a { c with learnNow := ok }
  if nb = 0 then s.setXi a 0x13 0
  else
    let k := (c.pos / 2 ^ 24 % per * nb / per).toNat
    let lm := s.xi a 0x64
    let s := if ok then
        let sm := s.xi a 0x61
        let sum := sm * s.rdBin a (k + nb - 1) + (2 ^ 31 - 2 * sm) * s.rdBin a k + sm * s.rdBin a (k + 1)
        let eps := sat 32 (shrRnd (s.xi a 0x40 * c.ev) 9)
        let q := shrRnd (s.xi a 0x60 * sum + s.xi a 0x5F * eps * 2 ^ 31) 62
        let s := if lim q lm = q then s else s.mflag a 4
        s.wrBin a k (lim q lm)
      else s
    if bit cfg 0 || decide (0 < f) then
      let ko := ((k + s.xi a 0x62 + divRnd (c.v * kr * nb) (per * 2 ^ 16)) % nb).toNat
      let q := shrRnd (f * s.rdBin a ko) 31
      let s := if lim q lm = q then s else s.mflag a 4
      s.setXi a 0x13 (lim q lm)
    else s.setXi a 0x13 0

end Sys2Proof.Machine
end

