-- ==== Sys2Proof/Machine/Net.lean ====
section
/-! DEFINITION. The network: the star's and the guardian's checks (R124, R167 to R170), joins (R159 to R163), echoes
(R164), the dynamic segment (R135 to R146) and the node commands (R144, R174, R178, R179). -/

namespace Sys2Proof.Machine

open Sys2Proof

/-! ### Guardian (R167 to R170) -/

abbrev grd (p : Nat) : Nat := pCfg p + 0x20

/-- Flag n of GRD_FLAGS is set: the port's event, ARG naming the position (Table 14.7). -/
def State.grdFlag (s : State) (p n pos : Nat) : State :=
  (s.setFlag (grd p + 0x18) n).raise (40 + p) (pos + 2 ^ n * 0x10000)

/-- R170: isolation of a node, at the port of its path. In a two-port ring a plan is asked for. -/
def State.isolate (s : State) (addr : Nat) : State :=
  let pos := addr % 256
  let n := s.node addr
  let p := s.portOf (addr / 256) n.tail
  let path := (s.branchNodes (addr / 256)).filter (fun e => e.2.tail == n.tail)
  let nearer := path.filter (fun e => if n.tail then pos < e.1 % 256 else e.1 % 256 < pos)
  let s := match (if n.tail then nearer.head? else nearer.getLast?) with
    | some e => s.queueBoom e.1 true false
    | none => { s with net := { s.net with stopped := s.net.stopped ++ [(p, pos)] } }
  let beyond := path.filter (fun e => if n.tail then e.1 % 256 ≤ pos else pos ≤ e.1 % 256)
  let s := beyond.foldl (fun s e => (s.updNode e.1 (fun n => { n with state := 4 })).setFlag (grd p + 0x10) (e.1 % 256)) s
  let s := (s.grdFlag p 1 pos).raise 57 addr
  if s.topo (addr / 256) = 1 && !(s.pilot.isoReq ++ s.pilot.isoRun).any (fun r => r.addr == addr) then
    let r : IsoReq := { addr := addr, tail := n.tail, boom := true }
    { s with pilot := { s.pilot with isoReq := s.pilot.isoReq ++ [r] } }
  else s

/-- A cut attributed to a node: count, window, threshold (R170). -/
def State.attribute (s : State) (p addr : Nat) : State :=
  let n := s.node addr
  let win := s.fld (grd p) 12 8
  let log := (n.cutLog.filter (fun c => decide ((s.cycle - c).toNat < win))) ++ [s.cycle]
  let hit := decide (s.fld (grd p) 7 4 ≤ log.length)
  let s := s.setNode addr { n with cuts := n.cuts + 1, lastCut := s.cycle, cutLog := if hit then [] else log }
  if hit then
    let s := s.grdFlag p 5 (addr % 256)
    if s.flag (grd p) 0 && n.state != 4 then s.isolate addr else s
  else s

/-- R169: the node named by SRC is a member of the path on which a frame came. Berth frames of a ring take both paths (R112). -/
def State.onPath (s : State) (p seg addr : Nat) : Bool :=
  let n := s.node addr
  (n.state == 2 || n.state == 4) && addr / 256 == s.branchOf p && (seg == 0 || n.tail == (s.topo p == 2))

/-- A frame cut by the guardian (R169). `planned` is the node planned for the interval; `own`: the cut is attributed to it
whatever SRC says (R168). -/
def State.cut (s : State) (p rule idx seg : Nat) (dev : Int) (srcAddr : Nat) (planned : Option Nat) (own : Bool) : State :=
  let who := if !own && s.onPath p seg srcAddr then some srcAddr else planned
  let pos := match who with | some a => a % 256 | none => 0xFF
  let s := s.incFld (grd p + 0x04) 31 0 1
  let s := s.setRg (grd p + 0x08) (ofNat (idx % 2048 + seg * 2048 + rule * 4096 + pos * 2 ^ 16 + s.cycle.toNat % 256 * 2 ^ 24))
  let s := s.setFld (grd p + 0x0C) 15 0 (sat 16 dev % 65536).toNat
  let s := s.grdFlag p 0 pos
  match who with
  | some a =>
    let s := if rule = 1 || rule = 2 then s.updNode a (fun n => { n with tcorr := n.tcorr + dev * 8 }) else s
    s.attribute p a
  | none => s

/-! ### Star checks (R124) -/

def State.rxCount (s : State) (p off flag : Nat) : State := (s.incFld (pCfg p + off) 31 0 1).setFlag (pStat p) flag

/-- A valid frame was received on a port: PORT_RXOK, and LINK becomes UP (Table 3.7). -/
def State.rxValid (s : State) (p : Nat) : State :=
  let s := s.incFld (pCfg p + 0x08) 31 0 1
  let s := { s with net := { s.net with linkAge := Tab.set 16 s.net.linkAge p 0 } }
  if s.fld (pStat p) 1 0 = 1 then (s.setFld (pStat p) 1 0 2).raise (40 + p) 0 else s

/-- Outcome of the star's checks: none when the frame is good, else the counter and the flag. ZONE 0 is good only in a join
request (R124). -/
def State.starCheck (s : State) (f : RxFrame) (inStatic : Bool) : Option (Nat × Nat) :=
  let h := hdrNum f.bytes
  let join := !inStatic && hSrc h % 256 == 0xFF && leAt (framePayload f.bytes) 0 1 == 1
  let typ := if inStatic then 2 else 8
  let okFmt := hVer h == 1 && wellFormedHdr h && hType h == typ && 4 * hLen h + 12 == f.bytes.length &&
    (if inStatic then f.set == .berth else f.set == .dyn) && (hZone h == s.mgrId || (join && hZone h == 0))
  if f.cv then some (0x10, 6) else if !crcOk f.bytes then some (0x0C, 7) else if !okFmt then some (0x14, 8) else none

/-! ### Uplink berth frames -/

/-- The node that the plan in force places in an uplink berth of a branch (R167). -/
def State.plannedAt (s : State) (b k : Nat) : Option Nat :=
  ((s.branchNodes b).find? (fun e => e.2.upb == k || e.2.upb2 == k)).map (fun e => e.1)

/-- Axes served by a node in the plan in force, by node slot. -/
def State.nodeAxes (s : State) (addr : Nat) : List PlanAxis :=
  if (s.node addr).bare then [] else s.pilot.act.axes.filter (fun a => !a.isLocal && a.node == addr)

/-- Deviation of an admitted frame: the largest since the last read, and the node's average of 64 cycles (R169). -/
def State.admitDev (s : State) (p addr : Nat) (e : Int) : State :=
  let s := s.setFld (grd p + 0x1C) 15 0 (max (s.fld (grd p + 0x1C) 15 0) (absI e).toNat)
  s.updNode addr (fun n => { n with devSum := n.devSum + e, devN := n.devN + 1,
                                    devFrom := if n.devN = 0 then s.cycle else n.devFrom })

/-- At a boundary: the deviations of a node over 64 cycles are averaged; e / 2 is sent when the average exceeds 4 ns (R169). -/
def devAverage (cyc : BitVec 32) (n : Node) : Node :=
  if 0 < n.devN && decide (64 ≤ (cyc - n.devFrom).toNat) then
    { n with devSum := 0, devN := 0,
             tcorr := if 4 * (n.devN : Int) < absI n.devSum then n.tcorr + divRnd (n.devSum * 8) n.devN else n.tcorr }
  else n

/-- NET_BOOM completes when a counted frame shows the commanded state within 8 cycles after the last repeat (R174). -/
def State.boomSeen (s : State) (addr : Nat) (closed : Bool) : State :=
  match s.opOn 0x30 addr with
  | some o =>
    if o.sent && isFuture s.cycle o.cyc0 && decide ((s.cycle - o.cyc0).toNat ≤ 10) && closed == (o.desc.op0.toNat == 1) then s.endOp o .ok else s
  | none => s

/-- A berth frame of a node failed its checks (R163). -/
def State.refuse (s : State) (addr : Nat) : State := { s with net := { s.net with refused := addr :: s.net.refused } }
def State.refuseAt (s : State) (addr : Option Nat) : State :=
  match addr with
  | some a => s.refuse a
  | none => s

/-- An admitted uplink berth frame: membership, node block, cartridge chunk and axis records (R130, Tables 3.13, 3.14). -/
def State.admitBerth (s : State) (p addr : Nat) (f : RxFrame) : State :=
  let h := hdrNum f.bytes
  let pl := framePayload f.bytes
  let n := s.node addr
  let newMember := n.state != 2
  let n := { n with state := 2, seen := true, lastSeen := s.cycle,
                    admitted := n.admitted + (if hPart h = 0 then 1 else 0) }
  let n := if hPart h = 0 && hLen h != 0 then
      { n with vbus := leAt pl 0 2, ibus := wrapS 16 (leAt pl 2 2), temp0 := wrapS 16 (leAt pl 4 2),
               temp1 := wrapS 16 (leAt pl 6 2), chop := leAt pl 8 2, nstat := leAt pl 10 2 } else n
  let s := s.setNode addr n
  let s := if newMember then (s.raise 56 addr).countNodes (addr / 256) else s
  let s := s.clrFlag (grd p + 0x10) (addr % 256)
  let s := s.clrFlag (grd (s.portOf (addr / 256) n.tail) + 0x10) (addr % 256)
  let s := if hPart h = 0 && hLen h != 0 then (s.boomSeen addr (n.nstat % 2 == 1)).cartChunk addr (slice pl 12 4) else s
  let first := if hPart h = 1 then 4 else 0
  let base := if hPart h = 1 then 0 else 16
  (s.nodeAxes addr).foldl (fun s a =>
    if first ≤ a.nslot && a.nslot < first + hNax h then s.fbRemote a.axis (slice pl (base + 20 * (a.nslot - first)) 20) n.vbus else s) s

/-- The berth that a start in the static segment is judged against: the nearest, the earlier on a tie (R167). -/
def State.berthOf (s : State) (t : Int) : Nat := min (berthCount s.rate - 1) ((t - 500 + 499) / 1000).toNat

/-- Key of a berth of a branch in `upUsed`. -/
def State.berthKey (s : State) (p : Nat) (t : Int) : Nat := s.branchOf p * 64 + s.berthOf t

/-- The copy of a berth that is used (R112): the first of its berth. -/
def State.useBerth (s : State) (p addr : Nat) (f : RxFrame) : State :=
  let key := s.berthKey p f.t
  if s.net.upUsed.contains key then s
  else ({ s with net := { s.net with upUsed := s.net.upUsed ++ [key] } }).admitBerth p addr f

/-- R112: tail copies whose head copy has not come in time are used; `keep` names those still held. -/
def State.useTails (s : State) (keep : Nat → RxFrame → Bool) : State :=
  let go := s.net.tailHeld.filter (fun x => !keep x.1 x.2.2)
  go.foldl (fun (s : State) x => s.useBerth x.1 x.2.1 x.2.2)
    { s with net := { s.net with tailHeld := s.net.tailHeld.filter (fun x => keep x.1 x.2.2) } }

/-- Every held tail copy is used. -/
def State.useAllTails (s : State) : State := s.useTails (fun _ _ => false)

/-- A berth frame that passed every check: a tail copy waits for the head copy, whose good copy comes first (R112). -/
def State.takeCopy (s : State) (p addr : Nat) (f : RxFrame) : State :=
  if s.topo p = 2 then { s with net := { s.net with tailHeld := s.net.tailHeld ++ [(p, addr, f)] } } else s.useBerth p addr f

/-- An uplink frame whose start lies in the static segment (R167, R169, R124). -/
def State.rxStatic (s : State) (p : Nat) (f : RxFrame) : State :=
  let b := s.branchOf p
  let h := hdrNum f.bytes
  let k := s.berthOf f.t
  let e := f.t - berthStart k
  let planned := s.plannedAt b k
  let bad := s.refuseAt (if s.onPath p 0 (hSrc h) then some (hSrc h) else planned)
  if e < -48 then bad.cut p 1 k 0 e (hSrc h) planned false
  else if 48 < e then bad.cut p 2 k 0 e (hSrc h) planned false
  else if some (hSrc h) != planned then bad.cut p 4 k 0 e (hSrc h) planned false
  else if (976 : Int) < e + 8 * (f.bytes.length + 4) then bad.cut p 3 k 0 e (hSrc h) planned false
  else match s.starCheck f true with
    | some c => bad.rxCount p c.1 c.2
    | none => ((s.rxValid p).admitDev p (hSrc h) e).takeCopy p (hSrc h) f

/-- At a boundary: a node whose berth frame failed and no copy of which was admitted in the cycle that ends opens no boom by
itself (R163). -/
def State.judgeFirst (s : State) : State :=
  (s.net.refused.eraseDups).foldl (fun (s : State) a =>
    s.updNode a (fun n => if n.admitted < 16 && !(n.seen && n.lastSeen + 1 == s.cycle) then { n with allOk := false } else n))
    { s with net := { s.net with refused := [] } }

/-! ### A ring closed on the standby (R114, R569) -/

/-- Delay through the head path, in 2^−4 ns. -/
def headDelay (n : Node) : Int := if n.dlyH = 0 then n.dEst else n.dlyH

/-- R569: at the standby a copy arrives d_tail − d_p after its berth start, so no window of R167 applies to it there (DEDUCED,
assumption log 79): the header names node and berth, the star's checks decide, and the arrival gives the tail delay. -/
def State.rxShadow (s : State) (p : Nat) (f : RxFrame) : State :=
  let h := hdrNum f.bytes
  let a := hSrc h
  let n := s.node a
  let berth := if hPart h = 1 then n.upb2 else n.upb
  if n.state = 0 || a / 256 != s.branchOf p || hSlot h != berth then s
  else match s.starCheck f true with
    | some c => s.rxCount p c.1 c.2
    | none =>
      let d := 16 * (f.t - berthStart berth) + headDelay n
      let s := (s.rxValid p).updNode a (fun n =>
        { n with tailSum := n.tailSum + d, tailN := n.tailN + 1, tailFrom := if n.tailN = 0 then s.cycle else n.tailFrom })
      let key := s.branchOf p * 64 + berth
      if s.net.upUsed.contains key then s
      else ({ s with net := { s.net with upUsed := s.net.upUsed ++ [key] } }).admitBerth p a f

/-- At a boundary: tail delays of 64 cycles are averaged (R569). -/
def tailAverage (cyc : BitVec 32) (n : Node) : Node :=
  if 0 < n.tailN && decide (64 ≤ (cyc - n.tailFrom).toNat) then
    { n with tailSum := 0, tailN := 0, dlyT := divRnd n.tailSum n.tailN }
  else n

/-! ### Joins (R157 to R163) -/

/-- K of R157. -/
def joinK (rate : Nat) : Nat := tCycle rate / 64

/-- Uplink arrival R of a frame in berth k with n axis records (R186), ns; the second frame has no node block. -/
def arrivalNs (k n : Nat) (second : Bool) : Nat :=
  berthStart k + 48 + (14 + (if second then 20 * n else if n = 0 then 0 else 16 + 20 * n)) * 8 + 96

/-- Earliest free downlink berth at or after an instant, in this cycle or berths 0 to 2 of the next (R161). -/
def findDown (rate : Nat) (used : List Nat) (t : Nat) : Option (Nat × Bool) :=
  match (List.range (berthCount rate)).find? (fun k => t ≤ berthStart k && !used.contains k) with
  | some k => some (k, false)
  | none => match [0, 1, 2].find? (fun k => t ≤ tCycle rate + berthStart k && !used.contains k) with
    | some k => some (k, true)
    | none => none

/-- Lowest spare uplink berth with a fitting downlink berth (R161). -/
def findPair (rate : Nat) (usedUp usedDn : List Nat) (nax : Nat) (second : Bool) : Option (Nat × Nat × Bool) :=
  (List.range (berthCount rate)).findSome? (fun k =>
    if usedUp.contains k then none
    else match findDown rate usedDn (arrivalNs k nax second + 128) with
      | some d => some (k, d.1, d.2)
      | none => none)

def upsOf (l : List (Nat × Node)) : List Nat := (l.map (fun e => [e.2.upb, e.2.upb2])).flatten.filter (fun k => k != 255)
def dnsOf (l : List (Nat × Node)) : List Nat := (l.map (fun e => [e.2.dnb, e.2.dnb2])).flatten.filter (fun k => k != 255)

/-- Berths for a joiner from the spare berths of its branch; none when none fit. -/
def State.newBerths (s : State) (b nax : Nat) : Option ((Nat × Nat × Bool) × Option (Nat × Nat × Bool)) :=
  let l := s.branchNodes b
  let mine (k : List Nat) : List Nat := (k.filter (fun x => x / 64 == b)).map (fun x => x % 64)
  let ups := upsOf l ++ mine s.net.keptUp
  let dns := dnsOf l ++ mine s.net.keptDn
  match findPair s.rate ups dns (min 4 nax) false with
  | none => none
  | some x =>
    if nax ≤ 4 then some (x, none)
    else match findPair s.rate (x.1 :: ups) (x.2.1 :: dns) (nax - 4) true with
      | none => none
      | some y => some (x, some y)

/-- The grant of the plan in force that a node receives: START four cycles ahead, sent in three cycles (R161; log 12). -/
def State.sendGrant (s : State) (addr : Nat) : State :=
  s.updNode addr (fun n => { n with state := if n.state = 2 || n.state = 4 then n.state else 1, plan := s.pilot.act.id,
                                    start := s.cycle + 4, grantLeft := 3 })

/-- Positions recorded on a path of a branch. -/
def State.pathPos (s : State) (b : Nat) (tail : Bool) : List Nat :=
  ((s.branchNodes b).filter (fun e => e.2.tail == tail)).map (fun e => e.1 % 256)

/-- Positions that new nodes take next: after the last head-side one, below the lowest tail-side one (R161). -/
def State.nextHead (s : State) (b : Nat) : Nat := (s.pathPos b false).foldl max 0 + 1
def State.nextTail (s : State) (b : Nat) : Nat := (s.pathPos b true).foldl min 25 - 1

/-- GRD_JOIN of a branch's head port as it reads: join states and next positions (Table 4.8). -/
def State.joinWord (s : State) (b : Nat) : Word :=
  let heldH := s.net.held.any (fun j => j.branch == b && !j.tail)
  let heldT := s.net.held.any (fun j => j.branch == b && j.tail)
  ofNat ((if heldH then 2 else if s.portEn b then 1 else 0) +
    4 * (if heldT then 2 else if s.topo b = 1 && s.flag (grd b) 2 then 1 else 0) + (min (s.nextHead b) 31) * 256 +
    (min (s.nextTail b) 31) * 2 ^ 16)

/-- A joiner takes new berths at an address, or is recorded without a berth (R161, R162). `bare`: it replaces an occupant of
another kind, whose berths stay unused and whose axes stay unserved until the next plan. NAX is taken modulo 16: the spec gives
no reaction to one outside 1 to 8 (DESIGN CHOICE, assumption log 79). -/
def State.placeJoiner (s : State) (b pos : Nat) (tail : Bool) (uid : Nat) (join : List Byte) (dEst : Int) (bare : Bool) : State :=
  let addr := b * 256 + pos
  let nax := leAt join 4 1 % 16
  let berths := if s.pilot.act.id = 0 then none else s.newBerths b nax
  match berths with
  | some (x, y) =>
    let ts := leAt join 6 2
    let n : Node := { uid := uid, join := join, state := 1, tail := tail, upb := x.1, dnb := x.2.1, dwake := x.2.2,
                      dEst := dEst, dplan := dEst, sofs := berthStart x.1 - divRnd dEst 16 - ts, bare := bare }
    let n := match y with | some y => { n with upb2 := y.1, dnb2 := y.2.1, dwake2 := y.2.2 } | none => n
    let old := s.node addr
    let up := if bare then [old.upb, old.upb2].filter (fun k => k != 255) else []
    let dn := if bare then [old.dnb, old.dnb2].filter (fun k => k != 255) else []
    let s := { s with net := { s.net with keptUp := s.net.keptUp ++ up.map (fun k => b * 64 + k),
                                          keptDn := s.net.keptDn ++ dn.map (fun k => b * 64 + k) } }
    ((s.setNode addr n).sendGrant addr).countNodes b
  | none =>
    let h : HeldJoin := { branch := b, tail := tail, pos := pos, uid := uid, join := join, dEst := dEst, noBerth := true }
    let s := { s with net := { s.net with held := (s.net.held.filter (fun (j : HeldJoin) => j.uid != uid)) ++ [h] } }
    s.grdFlag (s.portOf b tail) 2 pos

/-- A recorded node is absent at least 16 cycles; a granted one counts from its START (R161). -/
def State.occupantGone (s : State) (n : Node) : Bool :=
  if n.state = 1 then !isFuture n.start s.cycle && decide (16 ≤ (s.cycle - n.start).toNat) && s.absent16 n else s.absent16 n

/-- R161: an admitted join is classified; the first case that applies decides. -/
def State.classifyJoin (s : State) (b : Nat) (tail : Bool) (pos uid : Nat) (join : List Byte) (dEst : Int) : State :=
  let l := s.branchNodes b
  match s.net.nodes.find? (fun e => e.2.uid == uid && e.2.state != 0) with
  | some e =>
    if s.present e.2 then s.grdFlag (s.portOf b tail) 3 (e.1 % 256)
    else if e.2.state = 1 then
      s.updNode e.1 (fun n => { n with grantLeft := 3, start := if isFuture n.start s.cycle then n.start else s.cycle + 4 })
    else ((s.updNode e.1 (fun n => { n with state := 1, join := join, dEst := dEst, dlyH := 0, dlyT := 0, echoAns := 0,
                                            cntH := 0, sumH := 0, cntT := 0, sumT := 0,
                                            echoMiss := 0, echoOut := [], admitted := 0, allOk := true,
                                            autoOpened := false })).sendGrant e.1).countNodes b
  | none =>
    match l.find? (fun e => e.1 % 256 == pos && s.occupantGone e.2) with
    | some e =>
      let s := s.grdFlag (s.portOf b tail) 4 pos
      if leAt e.2.join 0 2 = leAt join 0 2 && nodeNax e.2 = leAt join 4 1 % 16 then
        ((s.setNode e.1 { upb := e.2.upb, dnb := e.2.dnb, upb2 := e.2.upb2, dnb2 := e.2.dnb2, dwake := e.2.dwake,
                          dwake2 := e.2.dwake2, uid := uid, join := join, state := 1, tail := tail, dEst := dEst,
                          dplan := e.2.dplan, sofs := e.2.sofs, bare := e.2.bare }).sendGrant e.1).countNodes b
      else s.placeJoiner b pos tail uid join dEst true
    | none =>
      let pos := if tail then s.nextTail b else s.nextHead b
      let other := (l.filter (fun e => e.2.tail != tail)).map (fun e => e.1 % 256)
      let full := pos < 1 || 24 < pos || (if tail then other.any (fun q => pos ≤ q) else other.any (fun q => q ≤ pos))
      if full then s.grdFlag (s.portOf b tail) 6 pos else s.placeJoiner b pos tail uid join dEst false

/-- Joins are held while a plan is being prepared (R201). -/
def State.joinsHeld (s : State) : Bool := s.fld PILOT_STAT 18 16 != 0

/-- An admitted JOIN_REQ (R159, R161, R201). -/
def State.joinReq (s : State) (p : Nat) (f : RxFrame) : State :=
  let b := s.branchOf p
  let tail := s.topo p == 2
  let pl := framePayload f.bytes
  let k := leAt pl 2 2
  let uid := leAt pl 4 8
  let join := slice pl 12 12
  let path := (s.branchNodes b).filter (fun e => e.2.tail == tail && s.present e.2)
  let far := if tail then path.head? else path.getLast?
  let dN : Int := match far with | some e => nodeDelay e.2 | none => 0
  let T : Int := 16 * s.tCyc
  let x : Int := 16 * (tDyn s.rate : Int) - 16 * 64 * ((k % joinK s.rate : Nat) : Int)
  let two := 2 * dN + (16 * f.t - x - 2 * dN) % T
  let dEst := divRnd two 2
  let pos := match far with
    | some e => if tail then e.1 % 256 - 1 else e.1 % 256 + 1
    | none => if tail then 24 else 1
  if tail && !s.flag (grd b) 2 then s
  else if s.joinsHeld then
    let waits := s.net.held.any (fun (j : HeldJoin) => j.uid == uid && j.noBerth)
    let h : HeldJoin := { branch := b, tail := tail, pos := pos, uid := uid, join := join, dEst := dEst, noBerth := waits }
    ({ s with net := { s.net with held := (s.net.held.filter (fun (j : HeldJoin) => j.uid != uid)) ++ [h] } }).setFlag PILOT_STAT 19
  else s.classifyJoin b tail pos uid join dEst

/-- R201: the joins held back are answered from the plan then in force; those without a berth wait for a plan (R162). -/
def State.releaseHeld (s : State) : State :=
  let l := s.net.held.filter (fun h => !h.noBerth)
  let s := ({ s with net := { s.net with held := s.net.held.filter (fun h => h.noBerth) } }).clrFlag PILOT_STAT 19
  l.foldl (fun s h => s.classifyJoin h.branch h.tail h.pos h.uid h.join h.dEst) s

/-! ### Dynamic-segment answers -/

/-- A time stamp of 8 bytes ns and 2 bytes fraction, in 2^−16 ns. -/
def stampAt (l : List Byte) (off : Nat) : Int := leAt l off 8 * 65536 + leAt l (off + 8) 2

/-- ECHO_RSP (R164): delay, clock offset, correction and drift check. -/
def State.echoRsp (s : State) (addr : Nat) (t4 : Int) (pl : List Byte) : State :=
  let n := s.node addr
  match n.echoOut.find? (fun e => e.no % 65536 == leAt pl 2 2) with
  | none => s
  | some e =>
    let t2 := stampAt pl 4
    let t3 := stampAt pl 16
    let d := divRnd ((t4 - e.t1) - (t3 - t2)) (2 * 4096)
    let th := divRnd (t2 - e.t1) 4096 - d
    let old := if e.tail then n.dlyT else n.dlyH
    let sum := (if e.tail then n.sumT else n.sumH) + d
    let cnt := (if e.tail then n.cntT else n.cntH) + 1
    let new := if n.echoAns < 8 || old = 0 then divRnd sum cnt else old + divRnd (d - old) 8
    let n := { n with echoOut := n.echoOut.erase e, echoAns := n.echoAns + 1, echoMiss := 0, theta := th, tcorr := n.tcorr - th }
    let n := if e.tail then { n with dlyT := new, sumT := sum, cntT := cnt } else { n with dlyH := new, sumH := sum, cntH := cnt }
    let s := s.setNode addr n
    if 8 ≤ n.echoAns && (16 * (s.fld (TIME_B + 0x20) 15 0 : Int)) < absI (nodeDelay n - n.dplan) then
      (s.setFlag TIME_FLAGS 3).raise 36 (addr + 8 * 0x10000)
    else s

/-- An echo unanswered in the cycle of its answer's grant is missed; the third in a row sets ECHO_MISS (R164, Table 4.4). -/
def State.echoMissed (s : State) (addr : Nat) : State :=
  let n := s.node addr
  let late := n.echoOut.filter (fun e => e.granted.isSome && e.granted != some s.cycle)
  let m := n.echoMiss + late.length
  let s := s.setNode addr { n with echoMiss := m, echoOut := n.echoOut.filter (fun e => !late.contains e) }
  if n.echoMiss < 3 && 3 ≤ m then (s.setFlag TIME_FLAGS 4).raise 37 (addr + 16 * 0x10000) else s

/-- A block of a transfer as one message: to the node, or to the branch, once on each path that has nodes of the transfer. -/
def State.queueBlock (s : State) (o : NetOp) (msg param : Nat) (body : List Byte) : State :=
  if o.nodes.isEmpty then s.queueTo o.addr 6 msg param body
  else
    let paths := [false, true].filter (fun t => o.nodes.any (fun a => (s.node a).tail == t))
    (s.queueDyns (paths.map (fun t =>
      { cls := 6, addr := o.addr, tail := t, body := dynBody msg (Config.freeBelow 255 s.free) param body }))).draw

def NetOp.targets (o : NetOp) : List Nat := if o.nodes.isEmpty then [o.addr] else o.nodes

/-- A transfer's next block is queued: at most 4 unacknowledged, then FW_ACTIVATE (R144). -/
def State.pumpOne (s : State) (o : NetOp) : State :=
  if o.next < o.data.length && o.blocks.length < 4 then
    let blk := (o.data.drop o.next).take 88
    let pad := blk ++ List.replicate ((4 - blk.length % 4) % 4) 0
    let body := leBytes 4 o.next ++ pad
    let msg := if o.opc = 0x33 then 3 else 4
    (s.queueBlock o msg blk.length body).updOp o
      { o with next := o.next + blk.length, blocks := o.blocks ++ [(o.next, 1, s.cycle, o.targets)] }
  else if o.opc = 0x34 && o.blocks.isEmpty && !o.activated && o.data.length ≤ o.next then
    let body := leBytes 4 o.data.length ++ leBytes 4 (crc32 o.data).toNat ++ leBytes 4 o.desc.op4.toNat
    (s.queueBlock o 5 0 body).updOp o { o with activated := true, blocks := [(o.data.length, 1, s.cycle, o.targets)] }
  else s

/-- The transfer a node takes part in. -/
def State.transferOf (s : State) (addr : Nat) : Option NetOp :=
  s.net.ops.find? (fun o => (o.opc == 0x33 || o.opc == 0x34) && (o.addr == addr || o.nodes.contains addr))

/-- The window of 4 blocks is filled. -/
def State.pumpOp (s : State) (addr : Nat) : State :=
  (List.range 4).foldl (fun s _ => match s.transferOf addr with | some o => s.pumpOne o | none => s) s

/-- DATA_ACK (R144). -/
def State.dataAck (s : State) (addr : Nat) (pl : List Byte) : State :=
  let st := leAt pl 2 2 % 256
  let off := leAt pl 4 4
  match s.transferOf addr with
  | none => s
  | some o =>
    if st = 1 || st = 2 then s.endOp o .badOperand
    else if st = 3 then s.endOp o .authFail
    else if st != 0 then s
    else
      let bs := o.blocks.map (fun b => if b.1 = off then (b.1, b.2.1, b.2.2.1, b.2.2.2.filter (fun a => a != addr)) else b)
      let o' := { o with blocks := bs.filter (fun b => !b.2.2.2.isEmpty) }
      let s := s.updOp o o'
      let done := o'.blocks.isEmpty && o'.data.length ≤ o'.next && (o'.opc = 0x33 || o'.activated)
      if done then s.endOp o' .ok else s.pumpOp addr

/-- The 64-byte node record of Table 4.13. -/
def State.nodeRecord (s : State) (addr : Nat) : List Byte :=
  let n := s.node addr
  leBytes 8 n.uid ++ leBytes 2 addr ++ slice n.join 0 12 ++ leBytes 2 0 ++ leBytes 1 n.state ++ leBytes 1 (b2n n.tail) ++
    leBytes 1 n.upb ++ leBytes 1 n.dnb ++ leBytes 4 n.dlyH.toNat ++ leBytes 4 n.dlyT.toNat ++ leBytes 4 n.dplan.toNat ++
    leBytes 4 (n.theta % 2 ^ 32).toNat ++ leBytes 4 n.cuts ++ leBytes 4 n.lastCut.toNat ++ List.replicate 12 0

/-- NODE_INFO (R178). -/
def State.nodeInfo (s : State) (addr : Nat) (pl : List Byte) : State :=
  match s.opOn 0x31 addr with
  | none => s
  | some o =>
    let data := s.nodeRecord addr ++ pl.drop 4
    (s.emit (.dma (op64 o.desc.op0 o.desc.op1) data)).endOp o .ok data.length

/-- The bytes cut into entries of a size, the last one shorter; `f` bounds their number. -/
def entriesOf (size : Nat) : Nat → List Byte → List (List Byte)
  | 0, _ => []
  | f + 1, l => if l.isEmpty then [] else l.take size :: entriesOf size f (l.drop size)

/-- A report ring can take n more entries now. -/
def State.ringRooms (s : State) (r n : Nat) : Bool :=
  s.ringEn r && s.flag (rStat r) 0 && s.ringCount r + n < s.ringSize r &&
    (List.range n).all (fun i => !s.resizeBlocks r ((s.prodIdx r + i + 1) % s.ringSize r))

/-- A frame passed to ring 30, or dropped when it does not fit (Table 2.12): the node's address, the length and the bytes, in
as many consecutive entries as they need (assumption log 16). -/
def State.tunnelUp (s : State) (addr : Nat) (frame : List Byte) : State :=
  let l := entriesOf (s.esize 30) 128 (leBytes 2 addr ++ leBytes 2 frame.length ++ frame)
  if s.ringRooms 30 l.length then l.foldl (fun (s : State) e => s.pushRing 30 e) s else s.loseRing 30

/-- Key of the reassembly of one frame of a node. -/
def reasmKey (addr seq : Nat) : Nat := addr * 256 + seq

def State.setReasm (s : State) (key : Nat) (x : Reasm) : State :=
  { s with net := { s.net with reasm := Tab.set {} s.net.reasm key x } }

/-- An incomplete uplink frame is discarded: counted once in RING_STAT.LOST of ring 30 (R146); the rest of it is ignored. -/
def State.dropReasm (s : State) (key : Nat) : State := (s.setReasm key { dead := true }).incFld (rStat 30) 31 16 1

/-- One uplink TUNNEL fragment (R145, R146). -/
def State.tunnelFrag (s : State) (addr : Nat) (pl : List Byte) : State :=
  let param := leAt pl 2 2
  let idx := param % 32
  let last := param / 32 % 2 == 1
  let pad := param / 64 % 4
  let seq := leAt pl 1 1
  let data := (pl.drop 4).take (pl.length - 4 - (if last then pad else 0))
  let key := reasmKey addr seq
  let old := Tab.get {} s.net.reasm key
  let r : Reasm := if old.active then old else { start := s.cycle, active := true }
  if old.dead && idx != 0 then s
  else if r.idx != idx then s.dropReasm key
  else if last then (s.setReasm key {}).tunnelUp addr (r.bytes ++ data)
  else s.setReasm key { r with idx := idx + 1, bytes := r.bytes ++ data }

/-- A good dynamic-segment frame by its MSG (Table 3.18); a reserved MSG counts in PORT_RXFMT (R142). A message that only goes
down is taken as a reserved one, and both leave PORT_RXOK counted and set PORT_STAT.FMT (DESIGN CHOICE, assumption log 79). -/
def State.rxMsg (s : State) (p : Nat) (f : RxFrame) : State :=
  let h := hdrNum f.bytes
  let pl := framePayload f.bytes
  let addr := hSrc h
  let unaddr := addr % 256 == 0xFF
  let msg := leAt pl 0 1
  if unaddr != (msg == 1) && [1, 6, 8, 0x0A, 0x0B, 0x0D].contains msg then s
  else match msg with
  | 1 => s.joinReq p f
  | 6 => s.dataAck addr pl
  | 8 => s.echoRsp addr ((s.bnd + f.t) * 65536) pl
  | 0x0A => s.cartMsg addr (leAt pl 2 2) (pl.drop 4)
  | 0x0B => s.tunnelFrag addr pl
  | 0x0D => s.nodeInfo addr pl
  | _ => s.rxCount p 0x14 8

/-- A start with SRC position 0xFF in minislots 0 to 3 lies in the join window (R135, R168). -/
def inJoinWindow (td t : Int) (h : Nat) : Bool := hSrc h % 256 == 0xFF && decide (t < td + 512)

/-- An uplink frame whose start lies outside the static segment (R168, R169). The join window takes one frame in a cycle, with
SRC b:0xFF; another one there is cut by the SRC rule (DEDUCED, assumption log 79). -/
def State.rxDynamic (s : State) (p : Nat) (f : RxFrame) : State :=
  let b := s.branchOf p
  let h := hdrNum f.bytes
  let td : Int := tDyn s.rate
  let m := ((f.t - td) / 128).toNat
  let window := inJoinWindow td f.t h
  let inJoin := decide (absI (f.t - td) ≤ 48)
  let inDyn := decide (td - 48 ≤ f.t ∧ f.t < td + 128 * (minislots s.rate : Int))
  let mine := s.net.grants.filter (fun g => g.1 / 256 == b)
  let owner := match mine.find? (fun g => decide (td + 128 * (g.2.1 : Int) ≤ f.t ∧ f.t < td + 128 * ((g.2.1 + g.2.2.1 : Nat) : Int))) with
    | some g => some g
    | none => mine.find? (fun g => decide (td + 128 * (g.2.1 : Int) - 128 ≤ f.t ∧ f.t < td + 128 * ((g.2.1 + g.2.2.1 : Nat) : Int)))
  let take (s : State) : State := match s.starCheck f false with
    | some c => s.rxCount p c.1 c.2
    | none => (s.rxValid p).rxMsg p f
  if !inDyn then s.cut p 5 m 1 0 (hSrc h) none false
  else if window then
    if !inJoin then s.cut p 5 m 1 0 (hSrc h) none false
    else if s.net.joinUsed.contains p || hSrc h / 256 != b then s.cut p 4 m 1 (f.t - td) (hSrc h) none false
    else take { s with net := { s.net with joinUsed := p :: s.net.joinUsed } }
  else match owner with
    | none =>
      if inJoin then s.cut p 4 m 1 (f.t - td) (hSrc h) none false else s.cut p 5 m 1 0 (hSrc h) none false
    | some g =>
      let e := f.t - (td + 128 * (g.2.1 : Int))
      let first := g.2.2.2 == 0
      let stop := td + 128 * ((g.2.1 + g.2.2.1 : Nat) : Int)
      if first && e < -48 then s.cut p 1 m 1 e (hSrc h) (some g.1) true
      else if first && 48 < e then s.cut p 2 m 1 e (hSrc h) (some g.1) true
      else if hSrc h != g.1 then s.cut p 4 m 1 e (hSrc h) (some g.1) false
      else if stop - 24 < f.t + 8 * (f.bytes.length + 4) then s.cut p 3 m 1 e (hSrc h) (some g.1) false
      else
        let gs := s.net.grants.map (fun x => if x.1 == g.1 then (x.1, x.2.1, x.2.2.1, x.2.2.2 + 1) else x)
        let s := { s with net := { s.net with grants := gs } }
        take (if first && (s.starCheck f false).isNone then s.admitDev p g.1 e else s)

/-- R168 and R113: the CXM's own downlink frames on a closing port are excluded. -/
def State.ownFrame (s : State) (p : Nat) (f : RxFrame) : Bool :=
  let h := hdrNum f.bytes
  s.topo p != 0 && crcOk f.bytes && hSrc h % 256 == 0 && hZone h == s.mgrId

/-- R112: another berth's frame, or one after the static segment, shows that the head copies of earlier berths are over. -/
def State.tailsBefore (s : State) (t : Int) : State := s.useTails (fun _ g => decide (absI (g.t - t) ≤ 500))

/-- A frame arriving at a branch port: R113, then the guardian, then the star; at a standby's closing port R569. -/
def State.rxUplink (s : State) (p : Nat) (f : RxFrame) : State :=
  let s := s.tailsBefore f.t
  if !s.hears p f.bytes || s.net.stopped.any (fun x => x.1 == p) then s
  else if s.ownFrame p f then s
  else if s.topo p = 3 && !s.holder then
    if hType (hdrNum f.bytes) = 2 then s.rxShadow p f else s
  else
    let td : Int := tDyn s.rate
    let unaddr := hSrc (hdrNum f.bytes) % 256 == 0xFF
    if 452 ≤ f.t ∧ f.t < td ∧ ¬(td - 48 ≤ f.t ∧ unaddr = true) then s.rxStatic p f else s.rxDynamic p f

end Sys2Proof.Machine
end

