-- ==== Sys2Proof/Machine/Pass.lean ====
section
/-! DEFINITION. Passes: start, section lists, sections PRB, STP and STP2, the commutation procedure (R349 to R358) and
the end of a pass (R229 to R240). -/

namespace Sys2Proof.Machine

open Sys2Proof

/-! ### Stepper, step and probe sections -/

/-- Section STP (R336): TARGET and RATE1 of the interval (DEDUCED, assumption log 25). -/
def State.secSTP (s : State) (a : Nat) : State :=
  let c := s.ctl a
  let tgt := shrRnd c.pref 24
  let rate := divRnd (absI c.vref * 2 ^ 16 * 5) (2 * s.tCyc)
  let md := s.mode a + 8 * b2n (s.gateOk a)
  let s := s.setOut a (leBytes 4 (tgt % 2 ^ 32).toNat ++ [0, 0] ++ leBytes 1 md ++ List.replicate 7 0 ++
    leBytes 4 (min rate (2 ^ 32 - 1)).toNat ++ [0, 0])
  s.setCtl a { s.ctl a with ngate := s.gateOk a, nva := 0, nvb := 0, nvolt := false }

/-- Section STP2 (R361, R362, R363). -/
def State.secSTP2 (s : State) (a : Nat) : State :=
  let c := s.ctl a
  let n := s.laneOf a
  let fbk := s.fbKind a != 0
  let thc := if fbk then ang ((s.xw a 0x67).toNat + divRnd (c.pref * s.elec a) (2 ^ 48))
    else ang (divRnd (c.pref * 2 ^ 30) (s.pn a 0x218 * 2 ^ 24))
  let dl := wrapS 32 (thc - (if fbk then c.th else c.thHat))
  let irun := s.pz a 0x219
  let ihold := s.pz a 0x21A
  let m1 := bit (s.par a 0x217) 0
  let i := if m1 then (if c.vref = 0 then ihold else irun)
    else clampI ihold irun (ihold + shrRnd (s.pz a 0x21B * absI (n.sinT dl)) 31)
  let big := decide ((s.pn a 0x21C : Int) < absI dl)
  let hit := if m1 then big && c.lock else fbk && i == irun && big
  let sn := if hit then c.stallN + 1 else 0
  let ia := sat 32 (shrRnd (i * n.cosT thc) 31)
  let ib := sat 32 (shrRnd (i * n.sinT thc) 31)
  let ea := sat 32 (ia - c.ia)
  let eb := sat 32 (ib - c.ib)
  let vl := shrRnd (s.xi a 0x52 * c.vb) 31
  let hold := !s.gateOk a
  let di := integ (s.xi a 0x11) (shrRnd (s.xi a 0x39 * ea) 24) vl c.voltLim hold
  let qi := integ (s.xi a 0x12) (shrRnd (s.xi a 0x39 * eb) 24) vl c.voltLim hold
  let va := s.satV a (shrRnd (s.xi a 0x38 * ea + di * 2 ^ 24) 24)
  let vb := va.1.satV a (shrRnd (s.xi a 0x38 * eb + qi * 2 ^ 24) 24)
  let s := ((vb.1.setXi a 0x11 di).setXi a 0x12 qi).setCtl a
    { vb.1.ctl a with id := c.ia, iq := c.ib, ids := ia, iqs := ib, vd := va.2, vq := vb.2, stallN := sn }
  if sn = s.pn a 0x21D && sn ≠ 0 then
    let stop := bit (s.par a 0x217) 1
    let s := (s.commFlag a 6).worsen a (if stop then 2 else 1)
    s.setCtl a { s.ctl a with raising := (if stop then 4 else 5) :: (s.ctl a).raising }
  else if hit && decide (s.pn a 0x21D < sn) then
    s.setCtl a { s.ctl a with raising := (if bit (s.par a 0x217) 1 then 4 else 5) :: (s.ctl a).raising }
  else s

/-- The start procedure ends in IDLE: the command completes BUSY with COMM_FLAGS (R349). -/
def State.startFailed (s : State) (a : Nat) : State :=
  let c := s.ctl a
  let s := (s.setCst a 0).setCtl a { (s.setCst a 0).ctl a with startCmd := none, lsBrake := false }
  match c.startCmd with
  | some (src, d) => s.complete src 0x10 d .busy (s.xw a 0x2E).toNat
  | none => s

/-- CST reaches RAMP or RUN in the target mode: the command completes OK. -/
def State.startOk (s : State) (a : Nat) : State :=
  let c := s.ctl a
  let s := s.setCtl a { c with startCmd := none, lsBrake := false }
  match c.startCmd with
  | some (src, d) => s.complete src 0x10 d .ok
  | none => s

/-- Preloads on entry to RAMP (R356). A start in progress ends once the mode is the target (R349). -/
def State.enterRamp (s : State) (a : Nat) : State :=
  let s := (((s.setXi a 0x10 0).setXi a 0x11 0).setXi a 0x12 0).setCst a 5
  if s.mode a = s.target a then s.startOk a else s.setCtl a { s.ctl a with lsBrake := false }

/-- PROBE with SPROBE, FORCED from EOFS otherwise (Table 9.3). -/
def State.toForced (s : State) (a : Nat) (th0 : Int) : State :=
  let s := (s.setCst a 4).request a (s.target a)
  s.setCtl a { s.ctl a with thF := ang th0, hand := none, reachT := none, lsBrake := false }
def State.toProbe (s : State) (a : Nat) : State :=
  if s.cfg a 1 then
    let s := (s.setCst a 3).request a 6
    s.setCtl a { s.ctl a with att := 0, pstep := 0, pw := s.pn a 0x20F % 65536, scan := 0, isum := [0, 0, 0, 0, 0, 0],
                              pulse := false, lsBrake := false }
  else s.toForced a (s.xw a 0x67).toNat

/-- A probe attempt failed: restart at step 1; the third failure ends the procedure (R352). -/
def State.probeFail (s : State) (a : Nat) : State :=
  let c := s.ctl a
  if 2 ≤ c.att then (((s.commFlag a 3).worsen a 2).request a 0).startFailed a
  else s.setCtl a { c with att := c.att + 1, pstep := 0, pw := s.pn a 0x20F % 65536, scan := 0, isum := [0, 0, 0, 0, 0, 0], pulse := false }

/-- cos and sin of k·60° from the lane's table (R251), Q1.31. -/
def LaneSt.hex (n : LaneSt) (k : Nat) : Int × Int :=
  let th := divRnd ((k : Int) * 2 ^ 32) 6
  (n.cosT th, n.sinT th)

/-- Evaluation of a scan: Z, its angle and confidence. -/
def State.probeEval (s : State) (a : Nat) : State :=
  let c := s.ctl a
  let zi := c.isum.zipIdx
  let n := s.laneOf a
  let x := shrRnd ((zi.map (fun e => e.1 * (n.hex e.2).1)).foldl (· + ·) 0) 31
  let y := shrRnd ((zi.map (fun e => e.1 * (n.hex e.2).2)).foldl (· + ·) 0) 31
  let tot := c.isum.foldl (· + ·) 0
  let mag : Int := sqrtRnd (x * x + y * y).toNat
  if tot ≤ 0 || decide (mag * 2 ^ 31 < s.pz a 0x211 * tot) then s.probeFail a
  else
    let t := atan2Turn y x
    (s.setXw a 0x2D (putBits (s.xw a 0x2D) 31 16 t)).toForced a (t * 65536)

/-- A width beyond PWMAX, or the pass period less 2 µs (R352). -/
def State.tooWide (s : State) (a w : Nat) : Bool := s.pn a 0x20F / 65536 < w || (s.tCyc * s.kr a - 2000) / 8 < w

/-- The current of the last pulse is used (R344, R352). -/
def State.probeMeasure (s : State) (a : Nat) : State :=
  let c := s.ctl a
  let ab := alphaBeta c.ia c.ib
  if !c.pulse then s
  else if c.pstep = 0 then
    let mag : Int := sqrtRnd (ab.1 * ab.1 + ab.2 * ab.2).toNat
    if s.pz a 0x20E ≤ mag then s.setCtl a { c with pstep := 1, scan := 0, pulse := false }
    else
      let w := 2 * c.pw
      if s.tooWide a w then s.probeFail a
      else s.setCtl a { c with pw := w, pulse := false }
  else
    let k := c.scan % 6
    let h := (s.laneOf a).hex k
    let comp := shrRnd (ab.1 * h.1 + ab.2 * h.2) 31
    let c' : Ctl := { c with isum := c.isum.set k (c.isum.getD k 0 + comp), scan := c.scan + 1, pulse := false }
    let s := s.setCtl a c'
    if 6 * s.pn a 0x210 ≤ c'.scan then s.probeEval a else s

/-- Section PRB: one pulse per pass while CST is PROBE (R352, R133). A missing record repeats the pulse. -/
def State.secPRB (s : State) (a : Nat) (miss : Bool) : State :=
  let s := if s.cst a = 3 && !miss then s.probeMeasure a else s
  let wide := s.cst a = 3 && s.tooWide a (s.ctl a).pw
  let s := if wide then s.probeFail a else s
  let c := s.ctl a
  if s.cst a = 3 && !wide && s.gateOk a then
    let v := if c.pstep = 0 then 0 else c.scan % 6
    let s := s.setOut a (List.replicate 6 0 ++ leBytes 1 (6 + 8) ++ s.outTail a 1 v (min c.pw 65535))
    s.setCtl a { c with pulse := true, nva := 0, nvb := 0, ngate := true, nvolt := false }
  else
    let s := s.setOut a (List.replicate 6 0 ++ leBytes 1 6 ++ s.outTail a 0 7 0)
    s.setCtl a { c with nva := 0, nvb := 0, ngate := false, nvolt := false }

/-! ### Commutation (Table 9.3) -/

/-- The integrators are as the pass found them (R354). -/
def State.holdInts (s : State) (a : Nat) : State :=
  ([0x0C, 0x10, 0x11, 0x12].zip (s.ctl a).ints).foldl (fun s e => s.setXw a e.1 e.2) s

/-- GATE_EN of the OUT image forced to 0. -/
def State.gateOff (s : State) (a : Nat) : State :=
  let w := s.xw a 0x32
  (s.setXw a 0x32 (putBit w 19 false)).setCtl a { s.ctl a with ngate := false }

/-- VREF × ELEC in the units of W. -/
def State.wref (s : State) (a : Nat) : Int := wRef (s.ctl a).vref (s.elec a) 1

/-- The rotor is lost (R354). -/
def rotorLost (c : Ctl) : Bool := decide (2 ≤ c.badCnt)

/-- FALLBACK with the halt reference of R357 begins in BRAKE, from no current. -/
def State.brakeHalt (s : State) (a : Nat) : State :=
  let s := (((s.setXi a 0x10 0).setXi a 0x11 0).setXi a 0x12 0).request a 7
  s.setCtl a { s.ctl a with fbk := 2, fbkV := vHat (s.ctl a).wh (s.elec a) * 2 ^ 8, iqs := 0, lsBrake := false, neither := 0 }

/-- BRAKE begins: halt while the observer is locked, else CATCH_N passes of LS_BRAKE first (R351). -/
def State.toBrake (s : State) (a : Nat) : State :=
  let s := s.setCst a 2
  if (s.ctl a).lock then s.brakeHalt a else s.setCtl a { s.ctl a with lsBrake := true, neither := 1 }

/-- BRAKE ends at rest; while not locked LS_BRAKE and gates-off phases of CATCH_N passes alternate (R351). -/
def State.brakeStep (s : State) (a : Nat) : State :=
  let c := s.ctl a
  let n := max (s.pn a 0x20B) 1
  if n ≤ c.rest && !c.lsBrake && c.fbk = 0 then s.toProbe a
  else if c.lock then (if c.fbk = 2 then s else s.brakeHalt a)
  else if c.fbk = 2 then
    let s := if s.mode a = 7 then s.request a 0 else s
    s.setCtl a { s.ctl a with fbk := 0, lsBrake := true, neither := 1, rest := 0 }
  else s.setCtl a { c with lsBrake := decide (c.neither / n % 2 = 0), neither := c.neither + 1, rest := if c.lsBrake then 0 else c.rest }

/-- The handover of FORCED is complete: the loops take over in the next pass, from y_h = ISTART × direction (R353). -/
def State.takeOver (s : State) (a : Nat) : State :=
  let c := s.ctl a
  let s := ((s.setCtl a { c with hand := none, take := true }).setXi a 0x15 (s.pz a 0x212 * c.dir)).setCst a 6
  s.startOk a

/-- The commutation state's work at the end of a pass's sections. -/
def State.commStep (s : State) (a : Nat) : State :=
  let c0 := s.ctl a
  let s := if c0.fresh then
      let dir := if s.target a = 1 then s.pz a 0x1F else s.xi a 0x0A
      s.setCtl a { c0 with fresh := false, dir := if dir < 0 then -1 else 1, take := false }
    else s.setCtl a { c0 with take := false }
  let c := s.ctl a
  let n := s.pn a 0x20B
  let against := signI c.wh != c.dir
  match s.cst a with
  | 1 =>
    if n ≤ c.rest then s.toProbe a
    else if c.lock && !against then (s.request a (s.target a)).enterRamp a
    else if c.lock then
      let s := s.commFlag a 2
      if s.cfg a 3 then s.startFailed a else s.toBrake a
    else if n ≤ c.neither + 1 then s.toBrake a
    else s.setCtl a { c with neither := if c.rest = 0 then c.neither + 1 else 0 }
  | 2 => s.brakeStep a
  | 4 =>
    let wr := absI (s.wref a)
    let c : Ctl := { c with thF := ang (c.thF + wRef c.vref (s.elec a) (s.kr a)) }
    let wm := s.pz a 0x206
    let c : Ctl := if wm ≤ wr && c.reachT.isNone then { c with reachT := some s.ntime } else c
    match c.hand with
    | some j => if c.startB ≤ j + 1 then (s.setCtl a c).takeOver a else s.setCtl a { c with hand := some (j + 1) }
    | none =>
      if c.lock && decide (n ≤ c.lockN) && decide (wm ≤ wr) then
        (if c.startB = 0 then (s.setCtl a c).takeOver a else s.setCtl a { c with hand := some 0 })
      else s.setCtl a c
  | 6 =>
    if s.sless a then
      if rotorLost c then
        let w := c.wh
        let s := (((s.setCst a 7).commFlag a 0).gateOff a).holdInts a
        s.setCtl a { s.ctl a with wBefore := w, lossT := s.ntime }
      else if absI (s.wref a) < s.pz a 0x206 then (s.setCst a 4).setCtl a { (s.setCst a 4).ctl a with thF := c.th, hand := none, reachT := none }
      else s
    else s
  | 8 =>
    if c.noTv then (((s.commFlag a 1).worsen a 2).request a 0).startFailed a
    else if c.lock then s.enterRamp a
    else s
  | 9 =>
    if rotorLost c then ((((s.gateOff a).holdInts a).request a 0).worsen a 2).setCst a 0
    else if (s.fb a).st != 2 then
      let m := s.target a
      (s.setCst a 6).request a m
    else if c.fbk = 2 && decide (absI c.wh < s.pz a 0x206) then (s.request a 0).setCst a 0
    else s
  | _ => s

/-- Coasting commanded by the ledger (R369), word +0x3F of Y, as a pass begins: the gates go off, or the axis resumes through
RAMP; in FALLBACK, whose state stays, through the preload alone. -/
def State.coastStep (s : State) (a : Nat) : State :=
  let on := s.yw a 0x3F != 0
  let c := s.ctl a
  let m := s.mode a
  if on && !c.coast && m != 0 then (s.setCtl a { c with coast := true }).commFlag a 7
  else if c.coast && !on then
    let s := s.setCtl a { c with coast := false }
    if m = 1 || m = 2 || m = 3 then s.enterRamp a
    else if m = 7 then ((s.setXi a 0x10 0).setXi a 0x11 0).setXi a 0x12 0
    else s
  else s

/-! ### Running a pass -/

/-- State words of a MOVED pass brought from the old slot: X and Y offsets. -/
def LaneSt.bring (n : LaneSt) (xs ys : List Nat) : LaneSt :=
  match n.oldBase with
  | some ob =>
    let n := xs.foldl (fun n k => n.wrX (n.base + k) (n.rdX (ob + k))) n
    ys.foldl (fun n k => n.wrY (n.base + k) (n.rdY (ob + k))) n
  | none => n

def isStd (x : Nat) : Bool := stdSections.any (fun e => e.1 == x)

/-- State words that the standard manifest writes in every pass, so that a MOVED pass rewrites them from the old slot (R212, R214):
CARRY, the words of the power ledger and of the commutation, and both biquads where VEL runs (DESIGN CHOICE, assumption log 80). -/
def carriedX : List Nat := (List.range 12).map (· + 0x0C) ++ [0x2C, 0x2D, 0x2E, 0x2F]
def velY : List Nat := (List.range 16).map (· + 0x40)
def LaneSt.carryOver (n : LaneSt) (secs : List Nat) : LaneSt :=
  if secs.any isStd then n.bring carriedX (if secs.contains 0x180 then velY else []) else n

/-- State words that a standard section reads before it writes them: in a MOVED pass they come from the old slot, whatever a section
before has stored (R212). -/
def stdReads (x : Nat) : List Nat × List Nat :=
  match x with
  | 0x140 => ([0x0C, 0x0D, 0x0E], [])
  | 0x180 => ([0x10], velY)
  | 0x2C0 => ([0x16], [])
  | _ => ([], [])

/-- Section VEL of a pass. The registers that a customer section behind it finds follow from the listing (R238). -/
def State.runVel (s : State) (l a : Nat) (last : Bool) : State :=
  if s.cst a = 4 then (s.setCtl a { s.ctl a with ev := 0 }).setLane l { s.lane l with stdRun := true }
  else
    let n := s.lane l
    let r := s.velPrep a (if n.stdRun then none else some (sgn (n.dreg 0), sgn (n.dreg 1)))
    let t := r.1.secVEL a r.2.1 r.2.2
    if last then t.setLane l { t.lane l with stdRun := true }
    else
      let m := r.1.lane l
      let m := (if n.stdRun then m.leftOver t.free else m).velEntry r.2.1 r.2.2
      let t := if n.stdRun then { t with free := t.free + 45 } else t
      t.setLane l { (t.lane l).withRegs m.afterVel with stdRun := false }

/-- One standard section; `last`: no customer section follows it. -/
def State.runStd (s : State) (l a x : Nat) (miss last : Bool) : State :=
  let s := s.setLane l ((s.lane l).bring (stdReads x).1 (stdReads x).2)
  let s := match x with
    | 0x000 => s.secFBP a
    | 0x080 => s.secFBM a
    | 0x100 => s.secPRF a miss
    | 0x140 => s.secPOS a
    | 0x180 => s.runVel l a last
    | 0x1C0 => s.secCUR a
    | 0x240 => s.secSVM a
    | 0x280 => s.secOBS a miss
    | 0x2C0 => s.secRPC a miss
    | 0x300 => s.secOFFO a
    | 0x310 => s.secSTP a
    | 0x340 => s.secSTP2 a
    | 0x380 => s.secPRB a miss
    | 0x3A0 => s.secFBK a
    | _ => s
  let n := s.lane l
  s.setLane l { n with ran := n.ran + stdCycles x, stdRun := if x = 0x180 then n.stdRun else true }

/-- The upper 16 bits of a Q1.31 value, rounded (Q1.15). -/
def hi16 (v : Int) : Nat := ((sat 16 (shrRnd v 16)) % 65536).toNat

/-- The measured values of the pass as AX_POS_LO to AX_VDQ show them once it has ended (R292). -/
def State.measured (s : State) (a : Nat) : List Word :=
  let c := s.ctl a
  [ofInt c.pos, ofInt (c.pos / 2 ^ 32), ofInt c.v, ofInt c.id, ofInt c.iq, ofInt c.iqs, ofNat (hi16 c.vd + hi16 c.vq * 65536)]

/-- The probe area X+0x18 to X+0x23 that manifest set 0 writes in every pass (R214, Table 13.1). -/
def State.probeArea (s : State) (a : Nat) : State :=
  let c := s.ctl a
  let inj : Int := match (s.axis a).inj with | some i => i.s | none => 0
  let s := ((s.setXi a 0x18 c.pos).setXi a 0x19 (c.pos / 2 ^ 32)).setXi a 0x1A c.v
  let s := (((s.setXi a 0x1B c.id).setXi a 0x1C c.iq).setXi a 0x1D c.ids).setXi a 0x1E c.iqs
  let s := ((s.setXw a 0x1F (ofNat (hi16 c.vd + hi16 c.vq * 65536))).setXi a 0x20 c.th).setXi a 0x21 inj
  (s.setXi a 0x22 c.thHat).setXi a 0x23 c.wh

/-- The list's sections have all ended: procedures of the axis, mode word counters (R267), values of the pass. -/
def State.listDone (s : State) (l a : Nat) : State :=
  let n := s.lane l
  let s := s.setLane l { n with fetching := false, secs := [] }
  let s := s.commStep a
  let s := (if s.pn a 0x40 = 0 then s.probeArea a else s).injDone a
  let s := s.setXw a 0x30 (passMode (s.xw a 0x30))
  let c := s.ctl a
  s.setCtl a { c with va := c.nva, vbeta := c.nvb, gates := c.ngate, voltLim := c.nvolt }

/-- Standard sections run by their law; the first other section is fetched instruction by instruction. A standard section that
would run beyond MCYC is cut and has no effect (R235; DESIGN CHOICE, assumption log 80). -/
def State.runSecs (s : State) (l a : Nat) (miss : Bool) : List Nat → State
  | [] => s.listDone l a
  | x :: r =>
    let n := s.lane l
    if isStd x then
      if n.mcyc < n.ran + stdCycles x then s.setLane l { n with late := true, secs := [] }
      else (s.runStd l a x miss ((r.head?.map isStd).getD true)).runSecs l a miss r
    else
      let n' := if n.stdRun then n.leftOver s.free else n
      let s := if n.stdRun then { s with free := s.free + 45 } else s
      s.setLane l { n' with fetching := true, pc := x, secs := r }

/-- Section starts of a list, up to the first entry whose valid bit is 0 (R238). -/
def State.sections (s : State) (list : Nat) : List Nat :=
  ((List.range 8).map (fun k =>
    let w := s.rg (LANE_B + 0x400 + list * 0x10 + k / 2 * 4)
    if k % 2 = 0 then (bit w 15, bits w 12 0) else (bit w 31, bits w 28 16))).takeWhile (fun e => e.1) |>.map (fun e => e.2)

/-- The list that the entry table names for a set and an index (R239). -/
def State.entryList (s : State) (set i : Nat) : Nat :=
  s.fld (LANE_B + 0x100 + set * 0x10 + i / 4 * 4) (8 * (i % 4) + 5) (8 * (i % 4))

/-- Length in ns of the cycle to which an axis's next pass belongs: the old plan's while its last pass there is due. -/
def State.passLen (s : State) (a : Nat) : Nat :=
  match (s.axis a).stay, s.pilot.old with
  | some _, some o => tCycle o.rate
  | _, _ => s.tCyc

/-- Cycle of an axis's pass that starts t CK_CORE cycles after a boundary: beyond T_cycle it is a wake pass of the cycle
before. -/
def State.passCycle (s : State) (a : Nat) (t : Int) : BitVec 32 :=
  if (s.passLen a : Int) * 2 ≤ t * 5 then s.cycle - 1 else s.cycle

/-- The pass of the cycle before c of an axis is the next that it has to run. -/
def State.behind (s : State) (q : PlanAxis) (c : BitVec 32) : Bool :=
  (c - 1).toNat % q.div == q.phase && (s.axis q.axis).startedFor == some (c - 1 - BitVec.ofNat 32 q.div)

/-- Earlier passes of the lane's order in the cycle have started, and all of the cycle before, of the old plan too (R30, R34, R36). -/
def State.orderOk (s : State) (p : PlanAxis) (c : BitVec 32) : Bool :=
  let stays := (s.axis p.axis).stay.isSome
  let axes := if stays then ((s.pilot.old.map (fun o => o.axes)).getD []) else s.pilot.act.axes
  let old := ((s.pilot.old.map (fun o => o.axes)).getD []).filter (fun q => q.lane == p.lane)
  (stays || old.all (fun q => (s.axis q.axis).stay.isNone)) &&
  (stays || c == s.pilot.since || axes.all (fun q => !(q.lane == p.lane && s.behind q c))) &&
  axes.all (fun q => !(q.lane == p.lane && decide (q.pos < p.pos) && c.toNat % q.div == q.phase) ||
    (s.axis q.axis).startedFor == some c)

/-- The unit shadows its partner: SHADOW or SYNCED without the helm (R570). -/
def State.standby (s : State) : Bool := !s.holder && (s.fld HELM_STAT 10 8 == 2 || s.fld HELM_STAT 10 8 == 3)

/-- The standby adopts the holder's state of the axis's previous pass before its own pass of cycle c, comparing it with its own
result; a missing record is counted (R37, R568, R570). -/
def State.adoptState (s : State) (a : Nat) (c : BitVec 32) : State :=
  if !s.standby then s
  else
    let prev := c - BitVec.ofNat 32 (s.kr a)
    match Tab.get [] s.helm.rxState a with
    | n :: _ :: carry =>
      let rest := s.helm.rxState.filter (fun e => e.1 != a)
      let own := (List.range 12).map (fun k => (s.xw a (0x0C + k)).toNat)
      let s := { s with helm := { s.helm with rxState := rest } }
      if n = prev.toNat % 65536 then
        let bad := (s.axis a).lastPass == prev && own != carry
        let s := if bad then { s with helm := { s.helm with mismatch := true } } else s
        carry.zipIdx.foldl (fun (s : State) e => s.setXw a (0x0C + e.2) (ofNat e.1)) s
      else (s.incFld (HELM_B + 0x18) 31 0 1).raise 228 a
    | _ => (s.incFld (HELM_B + 0x18) 31 0 1).raise 228 a

/-- A memory error that a read of this pass finds (R236): corrected and counted, or the word is 0 until it is written again, and the
pass ends without its gates. Events 246 and 247 (R50); memory codes 8 to 10 are the manifest, X and Y memory, the bank is the lane. -/
def State.laneErr (s : State) (l a : Nat) (e : LaneErr) : State :=
  let arg := 8 + e.mem.val + l * 0x10000
  if e.fatal then
    let n := s.lane l
    let n := match e.mem with
      | 0 => { n with man := Tab.set (manDef (e.addr.toNat % 8192)) n.man (e.addr.toNat % 8192) 0 }
      | 1 => n.wrX e.addr.toNat 0
      | 2 => n.wrY e.addr.toNat 0
    let s := (s.setLane l { n with ecc := true }).incFld (laneReg l 0x14) 31 16 1
    ((s.laneFlag l 4).axFlag a 4).raise 247 arg
  else ((s.incFld (laneReg l 0x14) 15 0 1).laneFlag l 3).raise 246 arg

/-- A pass starts (R231, R232), with the memory errors that its reads find. -/
def State.beginPass (s : State) (p : PlanAxis) (c : BitVec 32) (t : Int) (miss : Bool) (errs : List LaneErr) : State :=
  let l := p.lane
  let a := p.axis
  let base := ((s.place a).map (fun q => q.2)).getD 0
  let s := s.adoptState a c
  let ax := s.axis a
  let n0 := s.lane l
  let gens : Tab AddrGen := [(0, { p := base }), (4, { p := base })]
  let n : LaneSt := { n0 with d := [], acc := [], accOld := [], carry := false, rep := [], lrd := [], ran := 0, miss := miss, lwrAt := none }
  let n : LaneSt := { n with moved := ax.moved, isLocal := p.isLocal, pcyc := c, busy := true, axis := a, base := base, ag := gens }
  let n : LaneSt := { n with oldBase := ax.oldBase, ecc := false, stdRun := false, mcyc := p.mcyc, late := false }
  let s := s.setLane l n
  let s := errs.foldl (fun s e => s.laneErr l a e) s
  let slack := ((p.start / 2500 : Nat) : Int) - t
  let s := (s.setFld (laneReg l 0) 13 8 p.pos).setFld (laneReg l 0) 1 1 1
  let s := s.setFld (laneReg l 0x18) 13 0 (min (s.fld (laneReg l 0x18) 13 0) slack.toNat)
  let s := if miss then { s with helm := { s.helm with missed := s.helm.missed ++ [a] } } else s
  let s := if miss then (((s.laneFlag l 2).incFld (laneReg l 0x10) 31 0 1).fbMissing a) else s
  let s := match (s.axis a).injEnd with
    | some e => (s.injMark a 0x11 e.1 e.2).setAxis a { (s.injMark a 0x11 e.1 e.2).axis a with injEnd := none }
    | none => s
  let s := s.setAxis a { s.axis a with startedFor := some c }
  let s := s.coastStep a
  let ctl := s.ctl a
  let s := s.setCtl a { ctl with raising := [], learnNow := false, cstN := ctl.cstN + 1, limited := false, ints := [0x0C, 0x10, 0x11, 0x12].map (s.xw a) }
  let secs := s.sections (s.entryList (s.pn a 0x40) (s.mode a + 8 * b2n miss))
  (s.setLane l ((s.lane l).carryOver secs)).runSecs l a miss secs

/-- PASS_START (R30) and PASS_START_MISSING (R31). -/
def State.passStart (s : State) (l a : Nat) (t : Int) (miss : Bool) (errs : List LaneErr) : State :=
  match s.planAxis a with
  | some p =>
    let c := s.passCycle a t
    let due := (s.axis a).stay.isNone || c != s.cycle
    let here := (s.fb a).arrivedAt == some c
    let ready := if miss then !here && decide ((p.start : Int) ≤ t * 2500) else here
    if p.lane = l && due && !(s.lane l).busy && c.toNat % p.div == p.phase && (s.axis a).startedFor != some c && ready && s.orderOk p c
    then s.beginPass p c t miss errs
    else s
  | none => s

/-- R112: a pass that starts uses what its node's tail copy brought, when no head copy came. -/
def State.useTailsFor (s : State) (a : Nat) : State :=
  match s.planAxis a with
  | some p => s.useTails (fun _ g => hSrc (hdrNum g.bytes) != p.node)
  | none => s

def execPassStart (lane : Fin 16) (axis : Fin 256) (t : Int) (errs : List LaneErr) (s : State) : Host.Outcome State Fault Refusal :=
  .next ((s.useTailsFor axis.val).passStart lane.val axis.val t false errs)
def execPassStartMissing (lane : Fin 16) (axis : Fin 256) (t : Int) (errs : List LaneErr) (s : State) :
    Host.Outcome State Fault Refusal :=
  .next ((s.useTailsFor axis.val).passStart lane.val axis.val t true errs)

/-- Identification's share of a pass (R280, R281): the block's sums and whether the pass is acceptable. -/
def State.idPass (s : State) (a : Nat) : State :=
  let x := s.axis a
  if !bit (s.par a 0x30) 0 then s
  else
    let c := x.ctl
    let m := s.mode a
    let ok := x.fb.st = 0 && x.health = 0 && (m = 1 || m = 2 || m = 3) && !c.blending && !c.limited && !c.nvolt
    let u := x.sup
    s.setAxis a { x with sup := { u with n := u.n + 1, sumV := u.sumV + c.v, sumI := u.sumI + c.iq - s.xi a 0x13, ok := u.ok && ok } }

/-- Passes in which homing's PRESS finds iq* at its limit and the axis at rest (Table 10.4). -/
def State.homePass (s : State) (a : Nat) : State :=
  let p := s.prof a
  if p.home = 4 then
    let c := s.ctl a
    let hit := decide (s.iqLim a ≤ absI c.iqs) && decide (absI c.v < s.pz a 0x30B)
    s.setProf a { p with stallN := if hit then p.stallN + 1 else 0 }
  else s

/-- Planned end of the axis's pass of cycle c, ps (R41). -/
def State.passStop (s : State) (a : Nat) (c : BitVec 32) : Int :=
  let stop := ((s.planAxis a).map (fun p => p.stop)).getD 0
  ((s.bnd : Int) - s.passLen a * (s.cycle - c).toNat) * 1000 + stop

/-- PASS_END (R233, R235, R236): transfers, flags, counters; the held writes follow (R215). -/
def State.passEnd (s : State) (l : Nat) : State :=
  let n := s.lane l
  if !n.busy then s
  else
    let a := n.axis
    let s := if n.fetching || n.late then
        let s := (((s.gateOff a).axFlag a 2).laneFlag l 1).worsen a 2
        s.setCtl a { s.ctl a with raising := 1 :: (s.ctl a).raising }
      else s
    let s := if n.ecc then
        let s := ((s.gateOff a).worsen a 2).dropLane l
        s.setCtl a { s.ctl a with raising := 2 :: (s.ctl a).raising }
      else s
    let s := s.setCtl a { s.ctl a with raised := (s.ctl a).raising, learning := (s.ctl a).learnNow }
    let img := s.outBytes a
    let carry := (List.range 12).map (fun k => (s.xw a (0x0C + k)).toNat)
    let kept := if s.standby then (s.axis a).outRec else img
    let s := s.setAxis a { s.axis a with outRec := kept, meas := s.measured a, lastPass := n.pcyc, moved := false, oldBase := none }
    let stop := s.passStop a n.pcyc
    let s := match (if s.standby then none else s.lxOf a) with
      | some x => { s with loc := { s.loc with lx := Tab.upd {} s.loc.lx x (fun (y : LxSt) => { y with wait := img, waitFrom := stop + 24000 }) } }
      | none => s
    let s := if s.holder && s.fld HELM_STAT 7 6 != 0 then s.emit (.chain 2 (a :: n.pcyc.toNat % 65536 :: (s.xw a 0x36).toNat % 65536 :: carry)) else s
    let s := if n.miss then s.axFlag a 3 else s
    let s := ((s.incFld (laneReg l 8) 31 0 1).idPass a).homePass a |>.emuPass a stop
    let n := s.lane l
    let s := s.setLane l { n with busy := false, fetching := false, ended := n.ended + 1 }
    let s := (s.setFld (laneReg l 0) 1 1 0).setFld (laneReg l 0) 23 16 (min 255 (n.ended + 1))
    ((s.flagsToNew a).endStay a).flushWrites a

def execPassEnd (lane : Fin 16) (s : State) : Host.Outcome State Fault Refusal := .next (s.passEnd lane.val)

end Sys2Proof.Machine
end

