-- ==== Sys2Proof/Machine/Prof.lean ====
section
/-! DEFINITION. Motion profiles: reference states, segments, the ramp generator, stops, limits and homing (spec 10). -/

namespace Sys2Proof.Machine

open Sys2Proof

abbrev axf (a : Nat) : Nat := prReg a 4

/-- Axis profile event 128 with its code (Table 14.7). -/
def State.profEvent (s : State) (a code : Nat) : State := s.raise 128 (a % 256 + code * 0x10000)

/-- PROF drives the axis (R374); the halt of a fallback (R376) also runs a ramp. -/
def State.driven (s : State) (a : Nat) : Bool :=
  let m := s.mode a
  m = 2 || m = 3 || m = 4 || m = 5 || (m = 7 && (s.ctl a).fbk = 1)

/-! ### Limits in force -/

/-- max(RGF, RGF_FLOOR) of the axis's bus group, Q1.31; 2^31 without a limit (R368). -/
def State.rgfFactor (s : State) (a : Nat) : Int :=
  let g := s.busGroup a
  if g != 0 && s.flag (grpReg g 0) 0 then max (sgn (s.rg (grpReg g 0x18))) (s.fld (grpReg g 8) 31 16 * 2 ^ 15) else 2 ^ 31

/-- What a ramp aims at. -/
structure RampGoal where
  /-- target velocity of a plain ramp, 48 fractional bits; or the target position of a POSRAMP. -/
  vt : Int := 0
  pos : Option Int := none
  vmax : Int := 0
  scaled : Bool := true
  quick : Bool := false
  deriving DecidableEq, Repr

/-- Distance added for jerk (R384). -/
def jerkDist (vr ad j : Int) : Int := if 0 < j then divRnd (absI vr * ad) (2 * j) else 0

/-- Deceleration in force of the running ramp, 48 fractional bits (R368, R384). -/
def State.decNow (s : State) (a : Nat) (g : RampGoal) : Int :=
  let d := (s.prof a).dec * 2 ^ 24
  if g.scaled && g.pos.isNone then divRnd (d * s.rgfFactor a) (2 ^ 31) else d

/-- One cycle of the ramp generator (R384): answers the profile and whether the ramp has arrived. -/
def State.rampStep (s : State) (a : Nat) (g : RampGoal) : ProfSt × Bool :=
  let p := s.prof a
  let ad := s.decNow a g
  let acc : Int := s.pn a 0x300 * 2 ^ 24
  let j : Int := s.pn a (if g.quick then 0x304 else 0x302) * 2 ^ 17
  let near := match g.pos with
    | some p1 => decide (absI (p1 - p.pr) ≤ ad) && decide (absI p.vr ≤ ad)
    | none => false
  if near then ({ p with pr := g.pos.getD p.pr, vr := 0, ar := 0 }, true)
  else
    let vt := match g.pos with
      | some p1 =>
        let d := p1 - p.pr
        let x := max (absI d - jerkDist p.vr ad j) 0
        signI d * min g.vmax (sqrtRnd (2 * ad * x).toNat)
      | none => g.vt
    let dv := vt - p.vr - (if 0 < j then divRnd (p.ar * absI p.ar) (2 * j) else 0)
    let lim_ := if signI dv = -(signI p.vr) then ad else acc
    let aw := signI dv * lim_
    let an := if 0 < j then p.ar + lim (aw - p.ar) j else aw
    let hit := decide (absI (vt - p.vr) ≤ absI an)
    let vn := if hit then vt else p.vr + an
    ({ p with pr := p.pr + divRnd (p.vr + vn) 2, vr := vn, ar := if hit then 0 else an }, g.pos.isNone && decide (vn = g.vt))

/-- The deceleration that a running ramp uses follows DEC or QDEC; a lower one is deferred while the ramp decelerates
(R385). -/
def State.decFollow (s : State) (a : Nat) (g : RampGoal) : State :=
  let p := s.prof a
  let want : Int := if p.st = 0xC then p.safeDec else s.pn a (if g.quick then 0x303 else 0x301)
  let slowing := p.vr != 0 && signI p.ar == -(signI p.vr)
  let fits := match g.pos with
    | some p1 =>
      let ad := want * 2 ^ 24
      let j : Int := s.pn a 0x302 * 2 ^ 17
      decide (p.vr * p.vr ≤ 2 * ad * (absI (p1 - p.pr) - jerkDist p.vr ad j))
    | none => false
  if p.dec ≤ want || !slowing || fits then s.setProf a { p with dec := want, deferred := false }
  else (if p.deferred then s else s.setFlag (axf a) 3).setProf a { p with deferred := true }

/-- A ramp starts: its deceleration is the present one. -/
def State.startRamp (s : State) (a st : Nat) (quick : Bool) : State :=
  s.setProf a { s.prof a with st := st, dec := s.pn a (if quick then 0x303 else 0x301), deferred := false }

/-- The queue is discarded (SEG_FLUSHED when it held segments). -/
def State.flushQueue (s : State) (a : Nat) : State :=
  let p := s.prof a
  let s := if p.q.isEmpty then s else s.setFlag (axf a) 1
  s.setProf a { p with q := [], seg := none, paused := none }

/-- HALT or QUICKSTOP (R390). -/
def State.startStop (s : State) (a : Nat) (quick : Bool) : State := (s.flushQueue a).startRamp a (if quick then 9 else 8) quick

/-! ### Segments (R381 to R383) -/

/-- A HERMITE segment at t cycles after its start (R382). -/
def hermite (p0 v0 p1 v1 : Int) (t tt : Nat) : Int × Int × Int :=
  let t : Int := t
  let n : Int := tt
  let h01 := -(2 * t * t * t) + 3 * t * t * n
  let pr := divRnd ((n * n * n - h01) * p0 + h01 * p1 + n * ((t * t * t - 2 * t * t * n + t * n * n) * v0 + (t * t * t - t * t * n) * v1)) (n * n * n)
  let vr := divRnd ((6 * t * n - 6 * t * t) * (p1 - p0) + n * ((3 * t * t - 4 * t * n + n * n) * v0 + (3 * t * t - 2 * t * n) * v1)) (n * n * n)
  let ar := divRnd ((6 * n - 12 * t) * (p1 - p0) + n * ((6 * t - 4 * n) * v0 + (6 * t - 2 * n) * v1)) (n * n * n)
  (pr, vr, ar)

/-- A segment starts at the present boundary. -/
def State.startSeg (s : State) (a : Nat) (g : Seg) : State :=
  let p := s.prof a
  let p1 := if g.rel then (if g.relPr then p.pr + g.p1 else (p.lastEnd.getD p.pr) + g.p1) else g.p1
  let s := match g.named with | some n => if n = s.cycle then s else s.setFlag (axf a) 2 | none => s
  let st := if g.kind = 0 then 2 else if g.kind = 1 then 3 else 4
  let s := s.startRamp a st false
  let le := if g.kind = 1 then none else some p1
  let ar := if g.kind = 0 then (hermite p.pr p.vr p1 g.v1 0 g.t).2.2 else p.ar
  s.setProf a { s.prof a with seg := some { g with p1 := p1 }, p0 := p.pr, v0 := p.vr, ar := ar, t := 0, lastEnd := le }

/-- The head of the queue may start now: not held, or its named cycle is here or past. -/
def State.headReady (s : State) (g : Seg) : Bool :=
  !g.hold && (match g.named with | some n => n == s.cycle || !isFuture n s.cycle | none => true)

/-- An axis between segments takes the head of its queue, or waits: idle, or cruising (R381, R383). -/
def State.nextSeg (s : State) (a : Nat) : State :=
  let p := s.prof a
  match p.q with
  | g :: r =>
    if s.headReady g then
      let g' : Seg := if p.lastEnd.isNone then { g with relPr := true } else g
      (s.setProf a { p with q := r }).startSeg a g'
    else s.setProf a { p with st := if p.vr = 0 && p.st != 3 then 1 else 3, seg := none, ar := 0 }
  | [] => s

/-- A segment has ended: count, event, underrun, what follows. -/
def State.endSeg (s : State) (a : Nat) : State :=
  let p := s.prof a
  match p.seg with
  | none => s
  | some g =>
    let s := if g.kind = 1 && g.t = 1 then s else s.incFld (prReg a 8) 31 0 1
    let s := if g.evt then s.profEvent a 1 else s
    let s := s.setProf a { s.prof a with seg := none, paused := none, lastEnd := if g.kind = 1 then none else p.lastEnd }
    if p.q.isEmpty then
      if g.kind = 0 && p.vr != 0 then ((s.setFlag (axf a) 0).profEvent a 2).startStop a (bit (s.par a 0x308) 0)
      else s.setProf a { s.prof a with st := if g.kind = 1 then 3 else 1 }
    else (s.setProf a { s.prof a with st := if g.kind = 1 then 3 else 1 }).nextSeg a

/-- The ramp goal of a segment or a replaced rest of one. -/
def State.segGoal (s : State) (a : Nat) (g : Seg) : RampGoal :=
  if g.kind = 1 then { vt := g.v1 } else { pos := some g.p1, vmax := s.vMax a * 2 ^ 32 }

/-! ### Homing (R397 to R401) -/

/-- LIM_CFG of a side: its 8 bits. -/
def State.limCfg (s : State) (a : Nat) (neg : Bool) : Nat := bits (s.par a 0x306) (if neg then 15 else 7) (if neg then 8 else 0)

/-- The limit of a side is enabled and its debounced level active (R393). -/
def State.limit (s : State) (a : Nat) (neg : Bool) : Bool :=
  let c := s.limCfg a neg
  c / 128 % 2 == 1 && (s.prof a).limDeb.getD (b2n neg) false == (c / 64 % 2 == 1)

/-- The homing failure (R401): code; the stop that goes with it is started by the caller. -/
def State.homeFail (s : State) (a code : Nat) : State :=
  let s := (s.setFlag (axf a) 7).raise 131 (a % 256 + code * 0x10000)
  s.setProf a { s.prof a with home := 8, code := code, hquick := false }

/-- Position set at a home point (R399): the correction waits for the next sample. -/
def State.setPosition (s : State) (a : Nat) (ph : Int) : State :=
  let p := s.prof a
  let s := s.setProf a { p with ph := ph }
  let f := s.fb a
  let s := s.setFb a { f with corPend := f.corPend + (ph - p.hval), idxValid := false, win := if f.st = 1 then 0 else f.win }
  let s := if f.st = 1 then s.fbSet a 0 0 false else s
  s.fbMirror a

/-- DIR × v, 48 fractional bits. -/
def ProfSt.dirV (p : ProfSt) (v : Int) : Int := if p.neg then -v else v

/-- Ramp goal of the homing state. -/
def State.homeGoal (s : State) (a : Nat) : RampGoal :=
  let p := s.prof a
  match p.home with
  | 1 => { vt := p.dirV p.hv1, scaled := false }
  | 2 => { vt := -(p.dirV p.hv2), scaled := false }
  | 3 => { vt := if p.recov then -(p.dirV p.hv2) else p.dirV p.hv2, scaled := false }
  | 4 => { vt := p.dirV p.hv2, scaled := false }
  | 5 => { pos := some p.p0, vmax := p.hv2 }
  | 8 => { vt := 0, quick := p.hquick }
  | _ => { vt := 0, scaled := false }

/-- The homing command ends (Table 10.4, last row). -/
def State.homeEnd (s : State) (a : Nat) : State :=
  let p := s.prof a
  let s := s.setProf a { p with home := 0, hcmd := none, iqSave := false, st := if p.st = 0 then 0 else 1, ar := 0, lastEnd := none }
  let s := if p.home = 7 then s.raise 130 a else s
  match p.hcmd with
  | none => s
  | some (src, d) =>
    if p.home = 7 then s.complete src 0x44 d .ok ((p.ph % 2 ^ 32).toNat) ((p.ph / 2 ^ 32 % 2 ^ 32).toNat)
    else s.complete src 0x44 d (if p.code = 1 then .timeout else .busy) p.code

/-- The transitions of one boundary (Table 10.4). -/
def State.homeCheck (s : State) (a : Nat) : State :=
  let p := s.prof a
  let f := s.fb a
  let inDir := s.limit a p.neg
  let moving := if p.vr < 0 then s.limit a true else if 0 < p.vr then s.limit a false else false
  let dmax : Int := s.pn a 0x309 * 2 ^ 48
  let live := 1 ≤ p.home && p.home ≤ 6
  if live && (f.st = 2 || (s.axis a).health = 2) then s.homeFail a 5
  else if 1 ≤ p.home && p.home ≤ 4 && dmax != 0 && decide (dmax < p.travel) then s.homeFail a 1
  else match p.home with
    | 1 => if inDir then s.setProf a { p with home := 2 }
           else if moving then s.homeFail a 3 else s
    | 2 =>
      if !inDir then
        if p.meth = 1 then (s.setPosition a (p.limLatch.getD (b2n p.neg) 0)).setProf a
            { (s.setPosition a (p.limLatch.getD (b2n p.neg) 0)).prof a with home := 6 }
        else s.setProf a { p with home := 3, recov := true }
      else if moving && decide (signI p.vr = -(if p.neg then -1 else 1)) then s.homeFail a 3
      else s
    | 3 =>
      if f.idxHere then
        let t := s.setPosition a (f.winFrom * 2 ^ 24)
        t.setProf a { t.prof a with home := 6 }
      else if p.meth = 0 && inDir && !p.recov then s.setProf a { p with recov := true }
      else if moving && decide (signI p.vr ≠ (if p.neg then -1 else 1)) then s.homeFail a 3
      else s
    | 4 => if inDir then s.homeFail a 6 else s
    | 7 => if p.vr = 0 then s.homeEnd a else s
    | 8 => if p.vr = 0 then s.homeEnd a else s
    | _ => s

/-- One cycle of homing motion. -/
def State.homeMove (s : State) (a : Nat) : State :=
  let p := s.prof a
  if p.home = 7 || p.home = 0 then
    let r := s.rampStep a { vt := 0, scaled := false }
    s.setProf a r.1
  else
    let r := s.rampStep a (s.homeGoal a)
    let q : ProfSt := { r.1 with travel := p.travel + absI (r.1.pr - p.pr) }
    let q : ProfSt := if p.home = 5 && r.2 then { q with home := 7, iqSave := false }
      else if p.home = 6 && q.vr = 0 then { q with home := 7 } else q
    s.setProf a q

/-! ### One boundary -/

/-- The reference advances by one cycle (R373), with the values in force before this boundary's writes. -/
def State.profAdvance (s : State) (a : Nat) : State :=
  let p := s.prof a
  match p.st with
  | 2 =>
    match p.seg with
    | some g =>
      let t := p.t + 1
      if g.t ≤ t then s.setProf a { p with pr := g.p1, vr := g.v1, ar := (hermite p.p0 p.v0 g.p1 g.v1 g.t g.t).2.2, t := t }
      else
        let r := hermite p.p0 p.v0 g.p1 g.v1 t g.t
        s.setProf a { p with pr := r.1, vr := r.2.1, ar := r.2.2, t := t }
    | none => s
  | 3 =>
    match p.seg with
    | some g => (s.decFollow a (s.segGoal a g)).setProf a ((s.decFollow a (s.segGoal a g)).rampStep a (s.segGoal a g)).1
    | none => s.setProf a { p with pr := p.pr + p.vr, ar := 0 }
  | 4 =>
    match p.seg with
    | some g => (s.decFollow a (s.segGoal a g)).setProf a ((s.decFollow a (s.segGoal a g)).rampStep a (s.segGoal a g)).1
    | none => s
  | 7 =>
    match p.seg with
    | some g => (s.decFollow a (s.segGoal a g)).setProf a ((s.decFollow a (s.segGoal a g)).rampStep a (s.segGoal a g)).1
    | none => s
  | 5 => (s.decFollow a { scaled := false }).setProf a ((s.decFollow a { scaled := false }).rampStep a { scaled := false }).1
  | 8 => (s.decFollow a {}).setProf a ((s.decFollow a {}).rampStep a {}).1
  | 9 => (s.decFollow a { quick := true }).setProf a ((s.decFollow a { quick := true }).rampStep a { quick := true }).1
  | 0xA => (s.decFollow a (s.homeGoal a)).homeMove a
  | 0xB => (s.decFollow a { vt := p.vt }).setProf a ((s.decFollow a { vt := p.vt }).rampStep a { vt := p.vt }).1
  | 0xC => (s.decFollow a { quick := true }).setProf a ((s.decFollow a { quick := true }).rampStep a { quick := true }).1
  | _ => s.setProf a { p with ar := 0 }

/-- The segment in progress has reached its end (R382 to R384). -/
def segDone (p : ProfSt) : Bool :=
  match p.seg with
  | some g => if p.st = 2 then decide (g.t ≤ p.t) else if g.kind = 1 then decide (p.vr = g.v1) else decide (p.pr = g.p1 ∧ p.vr = 0)
  | none => false

/-- POS, v of the last ended pass as a following reference (R374). -/
def State.followRef (s : State) (a : Nat) : State :=
  s.setProf a { s.prof a with pr := s.endedPos a * 2 ^ 24, vr := s.endedV a * 2 ^ 32, ar := 0 }

/-- An active limit stops motion toward it (R396). -/
def State.limitStop (s : State) (a : Nat) : State :=
  let p := s.prof a
  let hit := (0 < p.vr && s.limit a false) || (p.vr < 0 && s.limit a true)
  let quick := bit (s.par a 0x306) 16
  if hit && 2 ≤ p.st && (p.st != 8 || quick) && p.st != 9 && p.st != 0xA && p.st != 0xC then
    ((s.startStop a quick).setFlag (axf a) 4).raise 129 a
  else s

/-- PROF's decisions at a boundary, after the boundary's commands: following or driven, ends and starts of segments,
ends of stops, limits, homing (R374 to R377, R381, R383, R390, R396). -/
def State.profDecide (s : State) (a : Nat) : State :=
  let halt7 := s.mode a = 7 && (s.ctl a).fbk = 2
  let p := s.prof a
  let s := if p.chatter then
      let s := ((s.setProf a { p with chatter := false }).setFlag (axf a) 5).profEvent a 3
      if 1 ≤ p.home && p.home ≤ 6 then s.homeFail a 2 else s
    else s
  let p := s.prof a
  if halt7 && p.st != 8 && p.st != 9 && p.st != 0xC && !(p.st = 1 && p.vr = 0) then (s.startStop a false).limitStop a
  else if halt7 && p.st = 1 then s
  else if !halt7 && !s.driven a then
    if p.st = 0 then s.followRef a
    else
      let s := if 1 ≤ p.home && p.home ≤ 6 then (s.homeFail a 4).homeEnd a else if p.home = 0 then s else s.homeEnd a
      let s := s.flushQueue a
      (s.setProf a { s.prof a with st := 0 }).followRef a
  else if p.st = 0 then
    let s := s.setProf a { p with st := 1, lastEnd := none, seg := none }
    if p.vr = 0 then s else s.startSeg a { kind := 1, p1 := 0, v1 := 0, t := 0, rel := false, hold := false, evt := false }
  else
    let s := if p.st = 0xA then s.homeCheck a else s.limitStop a
    let p := s.prof a
    match p.st with
    | 1 => s.nextSeg a
    | 2 => if segDone p then s.endSeg a else s
    | 3 => if segDone p then s.endSeg a else if p.seg.isNone then s.nextSeg a else s
    | 4 => if segDone p then s.endSeg a else s
    | 7 => if segDone p then s.endSeg a else s
    | 5 => if p.vr = 0 then s.setProf a { p with st := 6, ar := 0 } else s
    | 8 => if p.vr = 0 then s.setProf a { p with st := 1, ar := 0, lastEnd := none } else s
    | 9 => if p.vr = 0 then s.setProf a { p with st := 1, ar := 0, lastEnd := none } else s
    | 0xC =>
      if p.safeReq then s
      else
        let s := s.setProf a { p with st := 1, ar := 0, lastEnd := none, seg := none }
        if p.vr = 0 then s else s.startSeg a { kind := 1, p1 := 0, v1 := 0, t := 0, rel := false, hold := false, evt := false }
    | _ => s

/-! ### Stops and resume by command (Table 10.2) -/

/-- MOVE_STOP with OP0 1 PAUSE, 2 HALT, 3 QUICKSTOP takes effect on an axis. -/
def State.stopAxis (s : State) (a op : Nat) : State :=
  let p := s.prof a
  let s := s.setProf a { p with stopped := true }
  let p := s.prof a
  if p.st = 0 then s
  else if p.st = 0xA then
    let s := if 1 ≤ p.home && p.home ≤ 6 then s.homeFail a 4 else s
    s.setProf a { s.prof a with dec := s.pn a (if op = 3 then 0x303 else 0x301), hquick := op = 3, deferred := false }
  else if op = 1 then
    if p.st = 1 || p.st = 2 || p.st = 3 || p.st = 4 || p.st = 7 then
      let g := if p.st = 3 && p.seg.isNone then some { kind := 1, p1 := 0, v1 := p.vr, t := 1, rel := false, hold := false, evt := false } else p.seg
      (s.startRamp a 5 false).setProf a { (s.startRamp a 5 false).prof a with paused := g, seg := none }
    else s
  else if op = 2 then (if p.st = 9 then s else if p.st = 8 then s.flushQueue a else s.startStop a false)
  else if p.st = 9 then s.flushQueue a else s.startStop a true

/-- MOVE_RESUME takes effect on an axis (R391). -/
def State.resumeAxis (s : State) (a : Nat) : State :=
  let p := s.prof a
  if p.st = 5 || p.st = 6 then
    match p.paused with
    | some g =>
      let g' : Seg := if g.kind = 1 then g else { g with kind := 2 }
      let s := s.startRamp a 7 false
      s.setProf a { s.prof a with seg := some g', paused := none }
    | none => (s.startRamp a 1 false)
  else s

end Sys2Proof.Machine
end

