-- ==== Sys2Proof/Machine/ProfCmd.lean ====
section
/-! DEFINITION. Motion commands and events (spec 10): MOVE_SEG, MOVE_STOP, MOVE_RESUME, MOVE_START_GROUP, HOME_START, GROUP_SET,
group starts, limit inputs, homing stalls and reference inputs. -/

namespace Sys2Proof.Machine

open Sys2Proof

abbrev pgReg (g o : Nat) : Nat := PROF_B + 0x800 + g * 0x10 + o

/-- Members of a motion group (R386). -/
def State.members (s : State) (g : Nat) : List Nat := (s.axes.filter (fun e => e.2.prof.group == some g)).map (fun e => e.1)

def State.hasPass (s : State) (a : Nat) : Bool := (s.actAxis a).isSome

/-! ### Segments -/

/-- States in which MOVE_SEG completes BUSY (R380). -/
def noSegState (st : Nat) : Bool := st = 0 || st = 8 || st = 9 || st = 0xA || st = 0xB || st = 0xC

/-- Room in an axis's queue (R379). -/
def State.segRoom (s : State) (a : Nat) : Bool := decide ((s.prof a).q.length < 16)

/-- The segment that a descriptor spells (Table 10.1). -/
def segOf (d : Desc) (relPr : Bool) : Seg :=
  { kind := bits d.op4 1 0, p1 := wrapS 64 (op64 d.op0 d.op1) * 2 ^ 24, v1 := sgn d.op2 * 2 ^ 32,
    t := if bits d.op4 1 0 = 0 then bits d.op3 23 0 else 0, rel := bit d.op4 2, hold := bit d.op4 3, evt := bit d.op4 4,
    named := if d.atCycle then some d.op5 else none, relPr := relPr }

/-- Errors of MOVE_SEG in the order of R380. -/
def State.segError (s : State) (d : Desc) : Option St :=
  let a := d.tgt
  let k := bits d.op4 1 0
  if !s.hasPass a then some .badTarget
  else if !s.driven a || noSegState (s.prof a).st then some .busy
  else if bits d.op3 31 24 ≠ 0 || bits d.op4 31 5 ≠ 0 || k = 3 || (k = 0 && bits d.op3 23 0 = 0) || (bit d.op4 3 && d.atCycle)
  then some .badOperand
  else if d.atCycle && !isFuture d.op5 s.cycle then some .cyclePast
  else none

/-- MOVE_SEG (R378 to R380). The engine takes it only when the queue has room (R379). -/
def State.moveSeg (s : State) (src : Src) (d : Desc) : State :=
  s.cmd src 0x40 d (fun s =>
    match s.segError d with
    | some e => s.complete src 0x40 d e
    | none =>
      let a := d.tgt
      let p := s.prof a
      if s.segRoom a then
        let fresh := p.q.isEmpty && (p.st = 1 || (p.st = 3 && p.seg.isNone))
        (s.setProf a { p with q := p.q ++ [segOf d fresh] }).complete src 0x40 d .ok
      else s)

def execMoveSeg (src : Src) (d : Desc) (s : State) : Host.Outcome State Fault Refusal := .next (s.moveSeg src d)

/-! ### Groups -/

/-- MOVE_START_GROUP arms a start (R387). -/
def State.moveStartGroup (s : State) (src : Src) (d : Desc) : State :=
  s.cmd src 0x41 d (fun s =>
    let g := d.tgt
    if 32 ≤ g || (s.members g).isEmpty then s.complete src 0x41 d .badTarget
    else if s.flag (pgReg g 8) 0 then s.complete src 0x41 d .busy
    else if bits d.op0 31 1 ≠ 0 || (bit d.op0 0 && !s.flag TIME_STAT 6) then s.complete src 0x41 d .badOperand
    else
      let s := ((s.setFlag (pgReg g 8) 0).putFlag (pgReg g 8) 1 (bit d.op0 0)).setRg (pgReg g 0xC) d.op5
      { s with mem := { s.mem with starts := s.mem.starts ++ [(g, src, d)] } })

def execMoveStartGroup (src : Src) (d : Desc) (s : State) : Host.Outcome State Fault Refusal := .next (s.moveStartGroup src d)

/-- One member at a group start (R387, R389). -/
def State.memberStart (s : State) (a : Nat) : State :=
  let p := s.prof a
  match p.q with
  | g :: r =>
    if g.hold && !p.stopped then
      if p.seg.isSome || !(p.st = 1 || p.st = 3) then s.setProf a { p with q := { g with hold := false, named := some s.cycle } :: r }
      else
        let g' : Seg := if p.lastEnd.isNone then { g with relPr := true } else g
        ((s.setProf a { p with q := r }).startSeg a g').writeSetp a
    else if p.stopped then s else s.setFlag (axf a) 6 |>.raise 133 a
  | [] => if p.stopped then s else s.setFlag (axf a) 6 |>.raise 133 a

/-- GROUP_START: the boundary of the armed cycle (R387, R388). -/
def State.groupStart (s : State) (g : Nat) : State :=
  if s.flag (pgReg g 8) 0 && s.rg (pgReg g 0xC) == s.cycle then
    let lost := s.flag (pgReg g 8) 1 && !s.flag TIME_STAT 6
    let s := if lost then (s.setFlag (pgReg g 8) 2).raise 134 g else s
    let s := (s.members g).foldl State.memberStart s
    let s := ((s.clrFlag (pgReg g 8) 0).clrFlag (pgReg g 8) 1).raise 132 g
    let mine := s.mem.starts.filter (fun e => e.1 == g)
    let s := { s with mem := { s.mem with starts := s.mem.starts.filter (fun e => e.1 != g) } }
    mine.foldl (fun s e => s.complete e.2.1 0x41 e.2.2 .ok (b2n lost)) s
  else s

def execGroupStart (group : Fin 32) (s : State) : Host.Outcome State Fault Refusal := .next (s.groupStart group.val)

/-- GROUP_SET (R386): target and operands are checked at once, membership at the boundary. -/
def State.groupSet (s : State) (src : Src) (d : Desc) : State :=
  s.cmd src 0x45 d (fun s =>
    if 32 ≤ d.tgt then s.complete src 0x45 d .badTarget
    else if 256 ≤ d.op0.toNat || 2 ≤ d.op1.toNat then s.complete src 0x45 d .badOperand
    else s.atBoundary src 0x45 d)

def execGroupSet (src : Src) (d : Desc) (s : State) : Host.Outcome State Fault Refusal := .next (s.groupSet src d)

/-- GROUP_SET takes effect. -/
def State.dueGroupSet (s : State) (src : Src) (d : Desc) : State :=
  let a := d.op0.toNat % 256
  let p := s.prof a
  let g := d.tgt
  if s.flag (pgReg g 8) 0 then s.complete src 0x45 d .busy
  else if d.op1 = 1 then
    if p.group.isSome && p.group != some g then s.complete src 0x45 d .badOperand
    else (s.setProf a { p with group := some g }).complete src 0x45 d .ok
  else if p.group = some g then (s.setProf a { p with group := none }).complete src 0x45 d .ok
  else s.complete src 0x45 d .ok

/-! ### Stops and resume (R390, R391) -/

/-- Axes a stop or resume acts on: an axis, or a group's members; none: no such target. -/
def State.moveTargets (s : State) (t : Nat) : Option (List Nat) :=
  if t < 256 then some [t] else if 0x8000 ≤ t && t < 0x8020 then some (s.members (t - 0x8000)) else none

def State.moveStop (s : State) (src : Src) (d : Desc) : State :=
  s.cmd src 0x42 d (fun s =>
    if (s.moveTargets d.tgt).isNone then s.complete src 0x42 d .badTarget
    else if d.op0.toNat < 1 || 3 < d.op0.toNat then s.complete src 0x42 d .badOperand
    else s.atBoundary src 0x42 d)
def State.moveResume (s : State) (src : Src) (d : Desc) : State :=
  s.cmd src 0x43 d (fun s =>
    if (s.moveTargets d.tgt).isNone then s.complete src 0x43 d .badTarget else s.atBoundary src 0x43 d)

def execMoveStop (src : Src) (d : Desc) (s : State) : Host.Outcome State Fault Refusal := .next (s.moveStop src d)
def execMoveResume (src : Src) (d : Desc) (s : State) : Host.Outcome State Fault Refusal := .next (s.moveResume src d)

/-- A stop takes effect: BUSY when one of the axes is in SAFESTOP (Table 10.2). -/
def State.dueStop (s : State) (src : Src) (d : Desc) : State :=
  let l := (s.moveTargets d.tgt).getD []
  let busy := l.any (fun a => (s.prof a).st == 0xC)
  let s := (l.filter (fun a => (s.prof a).st != 0xC)).foldl (fun s a => s.stopAxis a d.op0.toNat) s
  s.complete src 0x42 d (if busy then .busy else .ok)

/-- A resume takes effect: BUSY when one of the axes is stopping. -/
def State.dueResume (s : State) (src : Src) (d : Desc) : State :=
  let l := (s.moveTargets d.tgt).getD []
  let stopping (a : Nat) : Bool := let st := (s.prof a).st; st = 8 || st = 9 || st = 0xC
  let busy := l.any stopping
  let s := l.foldl (fun s a => s.resumeAxis a) s
  s.complete src 0x43 d (if busy then .busy else .ok)

/-! ### Homing -/

/-- Errors of HOME_START (R398). -/
def State.homeError (s : State) (d : Desc) : Option St :=
  let a := d.tgt
  let st := (s.prof a).st
  let m := bits d.op0 2 0
  let neg := bit d.op0 3
  if !s.hasPass a || s.mode a ≠ 3 then some .badTarget
  else if st = 0xA || st = 0xB || st = 0xC then some .busy
  else if bits d.op0 31 4 ≠ 0 || 5 ≤ m then some .badOperand
  else if (m = 0 || m = 2) && s.fbKind a ≠ 1 then some .badOperand
  else if (m = 1 || m = 2) && s.limCfg a neg < 128 then some .badOperand
  else if m = 4 && (s.fbKind a ≠ 4 || (s.fb a).st ≠ 0) then some .badOperand
  else if (d.op1.toNat = 0 && (m = 1 || m = 2)) || (d.op2.toNat = 0 && m ≠ 4) then some .badOperand
  else none

def State.homeStart (s : State) (src : Src) (d : Desc) : State :=
  s.cmd src 0x44 d (fun s =>
    match s.homeError d with
    | some e => s.complete src 0x44 d e
    | none => s.atBoundary src 0x44 d)

def execHomeStart (src : Src) (d : Desc) (s : State) : Host.Outcome State Fault Refusal := .next (s.homeStart src d)

/-- HOME_START takes effect (R397, first rows of Table 10.4). -/
def State.dueHome (s : State) (src : Src) (d : Desc) : State :=
  match s.homeError d with
  | some e => s.complete src 0x44 d e
  | none =>
    let a := d.tgt
    let m := bits d.op0 2 0
    let neg := bit d.op0 3
    let s := (s.flushQueue a).startRamp a 0xA false
    let first := if m = 0 then 3 else if m = 3 then 4 else if m = 4 then 7 else if s.limit a neg then 2 else 1
    let p : ProfSt := { s.prof a with meth := m, neg := neg, hv1 := (d.op1.toNat : Int) * 2 ^ 32, hv2 := (d.op2.toNat : Int) * 2 ^ 32 }
    let p : ProfSt := { p with hval := wrapS 64 (op64 d.op3 d.op4), travel := 0, recov := false, stallN := 0, hcmd := some (src, d) }
    let s := s.setProf a { p with home := first, iqSave := decide (first = 4) }
    let s := s.setFb a { s.fb a with idxHere := false }
    if m = 4 then s.setPosition a (s.endedPos a) else s

/-- HOME_STALL_DETECT: PRESS ends at the hard stop (Table 10.4). -/
def State.homeStall (s : State) (a : Nat) : State :=
  let p := s.prof a
  if p.st = 0xA && p.home = 4 && decide (s.pn a 0x30C ≤ p.stallN) then
    let s := s.setPosition a (s.endedPos a)
    let p := s.prof a
    s.setProf a { p with home := 5, p0 := p.pr - p.dirV ((s.pn a 0x30D : Int) * 2 ^ 48), stallN := 0 }
  else s

def execHomeStallDetect (axis : Fin 256) (s : State) : Host.Outcome State Fault Refusal := .next (s.homeStall axis.val)

/-! ### Limit inputs (R393 to R396) -/

/-- A raw edge of a limit source: candidate position, edges within LIM_DEB, chatter at the next boundary (R394, R395). -/
def State.rawEdge (s : State) (a : Nat) (neg level : Bool) : State :=
  let p := s.prof a
  let i := b2n neg
  if p.limRaw.getD i false == level then s
  else
    let deb := s.pn a 0x307 * 1000
    let l := ((p.limEdges.getD i []).filter (fun t => decide (s.ntime ≤ t + deb))) ++ [s.ntime]
    let p : ProfSt := { p with limRaw := p.limRaw.set i level, limAt := p.limAt.set i s.ntime, limCand := p.limCand.set i (s.endedPos a) }
    let chat := decide (deb ≠ 0 ∧ 4 < l.length)
    s.setProf a { p with limEdges := p.limEdges.set i (if chat then [] else l), chatter := p.chatter || chat }

def execLimitRawEdge (axis : Fin 256) (neg level : Bool) (t : Nat) (s : State) : Host.Outcome State Fault Refusal :=
  .next ((s.at_ t).rawEdge axis.val neg level)

/-- LIMIT_DEBOUNCE: at a boundary the debounced level follows a raw level held for LIM_DEB, and PROF reacts (R393, R396). -/
def State.debounce (s : State) (a : Nat) (neg : Bool) : State :=
  let p := s.prof a
  let i := b2n neg
  let raw := p.limRaw.getD i false
  if p.limDeb.getD i false != raw && decide (p.limAt.getD i 0 + s.pn a 0x307 * 1000 ≤ s.bnd) then
    let s := s.setProf a { p with limDeb := p.limDeb.set i raw, limLatch := p.limLatch.set i (p.limCand.getD i 0) }
    if (s.prof a).st = 0xA then s.homeCheck a else if s.driven a then s.limitStop a else s
  else s

def execLimitDebounce (axis : Fin 256) (neg : Bool) (s : State) : Host.Outcome State Fault Refusal :=
  .next (s.debounce axis.val neg)

/-- A write of PROF_VIN is a sample of every virtual source (R393). -/
def State.vinWritten (s : State) : State :=
  let v := s.rg (PROF_B + 4)
  s.axes.foldl (fun s e => [false, true].foldl (fun s neg =>
    let c := s.limCfg e.1 neg
    if c / 32 % 2 = 1 && c / 128 % 2 = 1 then s.rawEdge e.1 neg (bit v (c % 32)) else s) s) s

/-! ### Reference inputs as group commands (R402, R403) -/

abbrev refStat (r : Nat) : Nat := LOCAL_B + 0x704 + r * 8
abbrev refVal (r : Nat) : Nat := LOCAL_B + 0x60C + r * 0x10

/-- One member under a reference input. -/
def State.refMember (s : State) (g : Nat) (halted : Bool) (a : Nat) : State :=
  let c := s.rg (pgReg g 0)
  let p := s.prof a
  let s := if p.refOn then s else
    let s := s.flushQueue a
    s.setProf a { s.prof a with refOn := true }
  let p := s.prof a
  let v := sgn (s.rg (refVal (bits c 2 1)))
  let m := s.mode a
  if halted then s
  else if bit c 3 then
    if m ≠ 1 then s
    else if p.tqHost then s.xflag a 0
    else s.axWrite a 0x1F (ofInt (mulQ31 v (sgn (s.rg (pgReg g 4)))))
  else if (m = 2 || m = 3) && ((1 ≤ p.st && p.st ≤ 7) || p.st = 0xB) then
    let s := if p.st = 0xB then s else s.startRamp a 0xB false
    s.setProf a { s.prof a with vt := v * sgn (s.rg (pgReg g 4)) * 2, seg := none, paused := none, lastEnd := none }
  else s

/-- A group at a boundary: EN rising and falling, the input's value, its loss. -/
def State.refGroup (s : State) (g : Nat) : State :=
  let c := s.rg (pgReg g 0)
  let l := s.members g
  if bit c 0 then
    let lost := s.flag (refStat (bits c 2 1)) 0
    let how := bits c 5 4
    let halting := lost && how != 0 && !s.flag (pgReg g 8) 4
    let s := if halting then
        let s := (s.setFlag (pgReg g 8) 4).raise 135 g
        l.foldl (fun s a => if (s.prof a).st = 0xB then s.startStop a (how = 2) else s) s
      else s
    let s := s.putFlag (pgReg g 8) 3 (!s.flag (pgReg g 8) 4)
    let halted := s.flag (pgReg g 8) 4 || (lost && how = 0)
    l.foldl (fun s a => s.refMember g halted a) s
  else if s.flag (pgReg g 8) 3 || s.flag (pgReg g 8) 4 then
    let s := (s.clrFlag (pgReg g 8) 3).clrFlag (pgReg g 8) 4
    l.foldl (fun s a =>
      let s := if (s.prof a).st = 0xB then s.startStop a false else s
      s.setProf a { s.prof a with refOn := false }) s
  else s

/-- REF_LOST_CLEAR: the groups of an input leave REF_HALTED (R403). -/
def State.refCleared (s : State) (r : Nat) : State :=
  (List.range 32).foldl (fun s g =>
    let c := s.rg (pgReg g 0)
    if bits c 2 1 = r then s.clrFlag (pgReg g 8) 4 else s) s

end Sys2Proof.Machine
end

