-- ==== Sys2Proof/Machine/Cpu.lean ====
section
/-! DEFINITION. The CPU cluster's dispatcher, its CSRs, semaphores, mailboxes, command ports and customer watchdogs
(spec 14, R504 to R526). -/

namespace Sys2Proof.Machine

open Sys2Proof

abbrev CPU_FLAGS : Nat := CPU_B + 0x4

/-- The number of an agent: 0 the host, 1 + h hart h. -/
def agentNo : Agent → Nat
  | .host => 0
  | .hart h => 1 + h.val

/-- Harts 0 and 1 are never denied (R507, R513). -/
def isSuper : Agent → Bool
  | .host => false
  | .hart h => h.val < 2

/-- The flags a discarded access sets: same-named flags of HOST_ERR and CPU_FLAGS (R506). -/
inductive AccErr where
  | part | pdOff | denied | locked | cycFull | ovr
  deriving DecidableEq, Repr

def AccErr.hostBit : AccErr → Nat
  | .part => 0 | .pdOff => 1 | .denied => 2 | .locked => 3 | .cycFull => 4 | .ovr => 5

/-- Bit of CPU_FLAGS, none for LOCKED, which CPU_FLAGS does not have. -/
def AccErr.cpuBit : AccErr → Option Nat
  | .ovr => some 0 | .denied => some 1 | .pdOff => some 2 | .part => some 3 | .cycFull => some 4 | .locked => none

/-- An access sets its flag; a discarded host access also loads HOST_ERR_ADDR (Table 2.5, R59, R60). -/
def State.accessErr (s : State) (a : Agent) (e : AccErr) (off : Nat) : State :=
  match a with
  | .host =>
    let s := s.setFlag HOST_ERR e.hostBit
    if e = .cycFull || e = .ovr then s else s.setRg HOST_ERR_ADDR (ofNat off)
  | .hart _ => match e.cpuBit with
    | some n => s.setFlag CPU_FLAGS n
    | none => s

def State.hart (s : State) (h : Nat) : HartSt := Tab.get {} s.cpu.harts h
def State.setHart (s : State) (h : Nat) (x : HartSt) : State := { s with cpu := { s.cpu with harts := Tab.set {} s.cpu.harts h x } }

/-- A hart starts at an address: the rest of its state as after a reset (R504). -/
def State.hartAt (s : State) (h pc : Nat) : State := s.setHart h { pc := ofNat pc }

/-- Entry of a customer hart: CUST_ENTRY of the booted image in the customer part (R592). -/
def State.custEntry (s : State) : Nat := 0x10100000 + leAt s.boot.booted 24 4

/-- A hart takes a trap: mepc, mcause and mtval, the interrupt enable and the mode saved in mstatus, the pc at the handler, by cause
when mtvec is vectored and the trap an interrupt. -/
def HartSt.trap (x : HartSt) (irq : Bool) (cause : Nat) (tval : Word) : HartSt :=
  let mpp : Nat := if x.machine then 3 else 0
  let st := putBits (putBits (putBits x.mstatus 7 7 (bits x.mstatus 3 3)) 3 3 0) 12 11 mpp
  let base := x.mtvec &&& 0xFFFFFFFC
  { x with mepc := x.pc, mcause := ofNat (b2n irq * 2 ^ 31 + cause), mtval := tval, mstatus := st, machine := true, wfi := false,
           pc := if irq && bit x.mtvec 0 then base + ofNat (4 * cause) else base }
def State.hartTrap (s : State) (h cause : Nat) (tval : Word) : State := s.setHart h ((s.hart h).trap false cause tval)

/-- Running thread of a hart, 256: none (XRUN.VALID = 0). -/
def State.runOf (s : State) (h : Nat) : Nat := Tab.get 256 s.cpu.run h

def State.setRun (s : State) (h t : Nat) : State := { s with cpu := { s.cpu with run := Tab.set 256 s.cpu.run h t } }

/-- A hart the dispatcher serves: out of reset and not under test (R520). -/
def State.hartServed (s : State) (h : Nat) : Bool := s.cpu.running.contains h && !s.cpu.testing.contains h

/-- Threads running on some hart. -/
def State.isRunning (s : State) (t : Nat) : Bool := (List.range 4).any (fun h => s.runOf h == t)

/-- A thread leaves the ready lists and the waits (R521). -/
def State.unlist (s : State) (t : Nat) : State :=
  let rdy := s.cpu.ready.filter (fun x => x != t)
  let wts := s.cpu.waits.filter (fun w => w.thread != t)
  { s with cpu := { s.cpu with ready := rdy, waits := wts } }

/-- The four tokens of a block. -/
def State.tokens (s : State) (t : Nat) : List Nat :=
  let a := s.rg (thCfg t + 4)
  let b := s.rg (thCfg t + 8)
  [bits a 15 0, bits a 31 16, bits b 15 0, bits b 31 16]

/-- R514: the wait of a thread's tokens is registered; an invalid one stops the thread; four empty tokens complete at once. -/
def State.registerWait (s : State) (t : Nat) : State :=
  let toks := s.tokens t
  let w : Wait := { thread := t, toks := toks, matched := [false, false, false, false], any := s.flag (thCfg t) 12, wake := (s.rg (thCfg t + 0xC)).toNat }
  if waitInvalid t toks then s.setFlag CPU_FLAGS 5
  else if toks.all (fun k => tokKind k == 0) then (s.finishWait w).makeReady t false
  else
    let wts := s.cpu.waits ++ [w]
    ({ s with cpu := { s.cpu with waits := wts } }).tokenEdge none

/-- A write of XDSP with code [1:0] (R518, R521). -/
def State.xdspWrite (s : State) (h code : Nat) : State :=
  let t := s.runOf h
  if 256 ≤ t then s
  else
    let s := s.setRun h 256
    let s := if code = 0 then s.incFld (thCfg t + 0x24) 31 0 1 else s
    if !s.thEn t then s
    else match code with
      | 0 => s.makeReady t true
      | 1 => s.makeReady t false
      | 2 => s.registerWait t
      | _ => s

def execXdspPreempt (hart : Fin 4) (s : State) : Host.Outcome State Fault Refusal := .next (s.xdspWrite hart.val 0)
def execXdspYield (hart : Fin 4) (s : State) : Host.Outcome State Fault Refusal := .next (s.xdspWrite hart.val 1)
def execXdspWait (hart : Fin 4) (s : State) : Host.Outcome State Fault Refusal := .next (s.xdspWrite hart.val 2)
def execXdspStop (hart : Fin 4) (s : State) : Host.Outcome State Fault Refusal := .next (s.xdspWrite hart.val 3)

/-- The thread a hart would be given (R519): first of the best priority among the ready, enabled, eligible, not running. -/
def State.bestThread (s : State) (h : Nat) : Option Nat :=
  let l := s.cpu.ready.filter (fun t => s.thEn t && s.thOn t h && !s.isRunning t)
  (sortBy (fun a b => decide (s.prio a < s.prio b)) l).head?

/-- XRUN (Table 14.2). -/
def State.xrun (s : State) (h : Nat) : Nat :=
  let t := s.runOf h
  if 256 ≤ t then 0 else t + s.prio t * 256 + 2 ^ 31

/-- XDSPI of a hart (R520). -/
def State.xdspi (s : State) (h : Nat) : Bool :=
  s.hartServed h && (match s.bestThread h with
    | some t => decide (256 ≤ s.runOf h) || decide (s.prio t < s.prio (s.runOf h))
    | none => false)

/-- XEVTI of a hart (R527). -/
def State.xevti (s : State) (h : Nat) : Bool := s.evt.hpend.any (fun p => p.1 == h)

/-- A value returned to a hart by a CSR read. -/
def State.csrOut (s : State) (h csr v : Nat) : State := s.emit (.read (1 + h) (0x10000000 + csr) v)

/-- A read of XDSP (R519). -/
def State.dispatch (s : State) (h : Nat) : State :=
  if !s.hartServed h then s.csrOut h 0x7C0 0
  else match s.bestThread h with
    | none => s.csrOut h 0x7C0 0
    | some t =>
      let late := min 0xFFFF (s.ntime - Tab.get 0 s.cpu.readyAt t)
      let s := (s.unlist t).setRun h t
      let s := s.incFld (thCfg t + 0x20) 31 0 1
      let s := s.setFld (thCfg t + 0x30) 15 0 (max late (s.fld (thCfg t + 0x30) 15 0))
      s.csrOut h 0x7C0 (s.xrun h)

def execXdspDispatch (hart : Fin 4) (s : State) : Host.Outcome State Fault Refusal := .next (s.dispatch hart.val)

/-- A read of XEVTCLAIM (R527). -/
def State.evtClaim (s : State) (h : Nat) : State :=
  match s.evt.hpend.find? (fun p => p.1 == h) with
  | none => s.csrOut h 0x7C2 0
  | some p =>
    let rest := s.evt.hpend.filter (fun q => q != p)
    ({ s with evt := { s.evt with hpend := rest } }).csrOut h 0x7C2 (p.2 + 2 ^ 31)

def execXevtclaim (hart : Fin 4) (s : State) : Host.Outcome State Fault Refusal := .next (s.evtClaim hart.val)

/-- A write of XWDT (R509). -/
def State.wdtKick (s : State) (h : Nat) : State := { s with cpu := { s.cpu with wdtAt := Tab.set 0 s.cpu.wdtAt h s.ntime } }

def execXwdt (hart : Fin 4) (s : State) : Host.Outcome State Fault Refusal := .next (s.wdtKick hart.val)

/-- A read of XNTIMEL latches [63:32] for XNTIMEH (Table 14.2). -/
def State.ntimeRead (s : State) (h : Nat) : State :=
  let hi := s.ntime / 2 ^ 32 % 2 ^ 32
  ({ s with cpu := { s.cpu with ntLatch := Tab.set 0 s.cpu.ntLatch h hi } }).csrOut h 0xCC0 (s.ntime % 2 ^ 32)

def execXntimel (hart : Fin 4) (s : State) : Host.Outcome State Fault Refusal := .next (s.ntimeRead hart.val)

/-- The other custom CSRs (Table 14.2): XNTIMEH, XCYCLE, XTICK, XHARTCFG, XRUN. -/
def State.csr (s : State) (h n : Nat) : Nat :=
  match n with
  | 0xCC1 => Tab.get 0 s.cpu.ntLatch h
  | 0xCC2 => s.cycle.toNat
  | 0xCC3 => s.tick
  | 0xFC0 => h + (if 2 ≤ h then 4 else 0) + (if s.cpu.testing.contains h then 8 else 0)
  | 0x7C1 => s.xrun h
  | _ => 0

/-- DISPATCH_TICK: network time reaches the next multiple of 1,000 ns (R523). -/
def State.dispatchTick (s : State) : State := ({ s with ntime := (s.ntime / 1000 + 1) * 1000 }).tokenEdge none

def execDispatchTick (s : State) : Host.Outcome State Fault Refusal := .next s.dispatchTick

/-- A stopped thread: not ready, not waiting, not running. -/
def State.isStopped (s : State) (t : Nat) : Bool :=
  !s.cpu.ready.contains t && !s.cpu.waits.any (fun w => w.thread == t) && !s.isRunning t

/-- A write of DSP_START (R518). -/
def State.dspStart (s : State) (t : Nat) : State := if s.isStopped t then s.makeReady t false else s

def execDspStart (value : Word) (s : State) : Host.Outcome State Fault Refusal := .next (s.dspStart (bits value 7 0))

/-- A write of DSP_STOP (R521). -/
def execDspStop (value : Word) (s : State) : Host.Outcome State Fault Refusal := .next (s.unlist (bits value 7 0))

/-- R513, R524: words that only harts 0 and 1 write. -/
def State.ifSuper (s : State) (a : Agent) (guarded : Bool) (off : Nat) (k : State → State) : State :=
  if guarded && !isSuper a then s.accessErr a .denied off else k s

/-- A write to a semaphore (R524). A post on an edge counts before the takes of the edge (R517). -/
def State.semPost (s : State) (a : Agent) (n v : Nat) : State :=
  s.ifSuper a (n < 128) (CPU_B + 0x6000 + n * 4) fun s =>
    let c := Tab.get 0 s.cpu.sem n + v
    let s := if 65535 < c then s.setFlag CPU_FLAGS 6 else s
    ({ s with cpu := { s.cpu with sem := Tab.set 0 s.cpu.sem n (min 65535 c) } }).tokenEdge none

def execSemaphorePost (agent : Agent) (n : Fin 256) (value : Word) (s : State) : Host.Outcome State Fault Refusal :=
  .next (s.semPost agent n.val value.toNat)

/-- A write to a mailbox (R524). -/
def State.mbxAppend (s : State) (a : Agent) (m w : Nat) : State :=
  s.ifSuper a (m < 32) (CPU_B + 0x6400 + m * 4) fun s =>
    let q := Tab.get [] s.cpu.mbx m
    if 8 ≤ q.length then s.setFlag CPU_FLAGS 7
    else ({ s with cpu := { s.cpu with mbx := Tab.set [] s.cpu.mbx m (q ++ [w]) } }).tokenEdge none

def execMailboxAppend (agent : Agent) (m : Fin 64) (value : Word) (s : State) : Host.Outcome State Fault Refusal :=
  .next (s.mbxAppend agent m.val value.toNat)

/-- What a write to a block's CFG does to the lists (R521); `old` is CFG before it. -/
def State.afterCfg (s : State) (t : Nat) (old : Word) : State :=
  if !s.thEn t then s.unlist t
  else if bits old 4 0 != s.prio t && s.cpu.ready.contains t then
    let rdy := s.cpu.ready.filter (fun x => x != t) ++ [t]
    { s with cpu := { s.cpu with ready := rdy } }
  else s

/-- One token of a token word as written (Table 14.4): its reserved bits stay 0, and a reserved KIND keeps the old token (R18, R24). -/
def tokWrite (old new : Nat) : Nat := if tokKind new ≤ 4 then new / 4096 * 4096 + tokIdx new else old

/-- A token word written: two tokens, with OVR set where a KIND is reserved (R24). -/
def State.tokenWord (s : State) (off : Nat) (v : Word) : State :=
  let old := s.rg off
  let bad := 4 < tokKind (bits v 15 0) || 4 < tokKind (bits v 31 16)
  let s := if bad then s.setFlag CPU_FLAGS 0 else s
  s.setRg off (ofNat (tokWrite (bits old 15 0) (bits v 15 0) + tokWrite (bits old 31 16) (bits v 31 16) * 2 ^ 16))

/-- A write to word k of thread block t (Table 14.3, R513, R521). -/
def State.threadWrite (s : State) (a : Agent) (t k : Nat) (v : Word) : State :=
  let off := thCfg t + k * 4
  s.ifSuper a (t < 128) off fun s =>
    match k with
    | 0 => (s.setRg off (v &&& 0x3F1F)).afterCfg t (s.rg off)
    | 1 | 2 => s.tokenWord off v
    | 3 | 6 | 8 | 9 | 10 | 11 => s.setRg off v
    | _ => s

def execThreadBlockWrite (agent : Agent) (thread : Fin 256) (word : Fin 16) (value : Word) (s : State) : Host.Outcome State Fault Refusal :=
  .next (s.threadWrite agent thread.val word.val value)

/-- The descriptor in a command port's words. -/
def State.portDesc (s : State) (p : Nat) (last : Word) : Nat × Desc :=
  let w (k : Nat) : Word := ofNat (Tab.get 0 s.cpu.cmdw (p * 8 + k))
  let w0 := w 0
  (bits w0 7 0,
    { flags := BitVec.ofNat 8 (bits w0 15 8), target := BitVec.ofNat 16 (bits w0 31 16), tag := w 1, op0 := w 2, op1 := w 3, op2 := w 4,
      op3 := w 5, op4 := w 6, op5 := last })

/-- A write to CPU_CMD0 to CPU_CMD7 of a port (R525): the last one submits. -/
def State.portWrite (s : State) (p k : Nat) (v : Word) : State :=
  if s.flag (cPort p + 0x30) 0 then s.setFlag CPU_FLAGS 8
  else if k = 7 then
    let d := s.portDesc p v
    let q := s.cpu.portQ ++ [(p, d.1, d.2)]
    ({ s with cpu := { s.cpu with portQ := q } }).setFlag (cPort p + 0x30) 0
  else { s with cpu := { s.cpu with cmdw := Tab.set 0 s.cpu.cmdw (p * 8 + k) v.toNat } }

def execCommandPortSubmit (port : Fin 2) (value : Word) (s : State) : Host.Outcome State Fault Refusal :=
  .next (s.portWrite port.val 7 value)

/-- A customer hart is reset: it drops its running thread; with a verified image it runs again, which clears its CPU_HRST
bit and restarts its watchdog (R509, R587, Table 17.1 code 6). -/
def State.hartReset (s : State) (h : Nat) : State :=
  let s := ((s.setRun h 256).hartAt h s.custEntry).recordReset 6
  if s.cpu.custImage then ((s.clrFlag (CPU_B + 0x10) h).wdtKick h)
  else s

/-- A write of CPU_HRST (Table 14.5). -/
def State.hrstWrite (s : State) (v : Word) : State :=
  [2, 3].foldl (fun s h => if bit v h then (s.setFlag (CPU_B + 0x10) h).hartReset h else s) s

def execCpuHrstWrite (value : Word) (s : State) : Host.Outcome State Fault Refusal := .next (s.hrstWrite value)

/-- CUSTOMER_HART_WATCHDOG (R509): the hart alone is reset; event 248. -/
def State.custWatchdog (s : State) (h : Nat) : State :=
  if s.flag (CPU_B + 0x8 + (h - 2) * 4) 31 then (s.hartReset h).raise 248 h else s

def execCustomerHartWatchdog (h : Fin 2) (s : State) : Host.Outcome State Fault Refusal := .next (s.custWatchdog (2 + h.val))

end Sys2Proof.Machine
end

