-- ==== Sys2Proof/Machine/Stage.lean ====
section
/-! DEFINITION. Staging of CYC and PLAN writes (R64 to R70). -/

namespace Sys2Proof.Machine

open Sys2Proof

/-- R64: less than 0.200 µs is left before the coming boundary. -/
def State.stagedLate (s : State) : Bool := decide (s.bnd + s.tCyc < s.ntime + 200)

/-- A CYC write enters the staging buffer, or the posted queue when its 1,024 entries are in use (R64, R66). -/
def State.stageCyc (s : State) (a : Agent) (x : Staged) : State :=
  let x : Staged := { x with defer := b2n s.stagedLate }
  if s.host.cyc.length < 1024 && s.host.cycHeld.isEmpty then { s with host := { s.host with cyc := s.host.cyc ++ [x] } }
  else ({ s with host := { s.host with cycHeld := s.host.cycHeld ++ [x] } }).accessErr a .cycFull x.off

/-- The staging buffer empties when no entry is left: held writes move in, as many as it takes (R66). -/
def HostSt.refill (h : HostSt) : HostSt :=
  let n := 1024 - h.cyc.length
  { h with cyc := h.cyc ++ h.cycHeld.take n, cycHeld := h.cycHeld.drop n }

/-- R67: at the release of CYC_HOLD every staged write waits for the first boundary at least 0.200 µs away. -/
def State.releaseCyc (s : State) : State :=
  let d := b2n s.stagedLate
  let l := s.host.cyc.map (fun (x : Staged) => { x with defer := d })
  let l2 := s.host.cycHeld.map (fun (x : Staged) => { x with defer := d })
  { s with host := { s.host with cyc := l, cycHeld := l2 } }

end Sys2Proof.Machine
end

