-- ==== Sys2Proof/Machine/AxisCmd.lean ====
section
/-! DEFINITION. Axis commands and events (spec 07 and 09): modes, parameters, injection, health, identification, scheduling and the
bus-group ledger. -/

namespace Sys2Proof.Machine

open Sys2Proof

def isLoop (m : Nat) : Bool := m = 1 || m = 2 || m = 3

/-! ### Health (R294, R301) -/

/-- The local axis of a placed axis has a trip that maps to it (R329), or a PER that R326 rejects. -/
def State.localFault (s : State) (a : Nat) : Bool :=
  match s.lxOf a with
  | some n =>
    (s.loc.lx.find? (fun e => e.1 == n)).any (fun e => e.2.perErr) || s.loc.tripNow.contains n ||
      (List.range 8).any (fun i => s.flag LOCAL_B i && s.flag (LOCAL_B + 4 + i / 4 * 4) (8 * (i % 4) + n))
  | none => false

/-- What the feedback status and the local faults make of the health (R301, R326, R329). -/
def State.healthFloor (s : State) (a : Nat) : Nat :=
  let f := s.fb a
  let fbl := if f.st = 1 then 1
    else if f.st = 2 then
      if f.cause = 1 && !f.latched then 1 else if s.mode a = 7 || s.cst a = 9 then 1 else 2
    else 0
  max fbl (if s.localFault a then 2 else 0)

/-- Health that the causes raised by the last ended pass give. -/
def raisedLevel (l : List Nat) : Nat :=
  if l.any (fun c => c = 1 || c = 2 || c = 4) then 2 else if l.isEmpty then 0 else 1

/-- A latched loss is left when no cause persists (Table 8.4, AXIS_CLEAR_FAULT). -/
def State.clearLoss (s : State) (a : Nat) : State :=
  let f := s.fb a
  if f.st = 2 && f.latched && (f.now = 0 || isDegrading f.now) then
    let s := s.setFb a { f with trans := 0, clean := 0 }
    if s.fbKind a = 4 then s.fbSet a 0 0 false else s.fbSet a 1 0x12 false
  else s

/-- AXIS_CLEAR_FAULT takes effect (R294). -/
def State.dueClear (s : State) (src : Src) (d : Desc) : State :=
  let a := d.tgt
  let s := s.clearLoss a
  let s := s.setHealth a (max (s.healthFloor a) (raisedLevel (s.ctl a).raised))
  s.complete src 0x16 d .ok (s.axis a).health

def State.axisClearFault (s : State) (src : Src) (d : Desc) : State :=
  s.cmd src 0x16 d (fun s => if 256 ≤ d.tgt then s.complete src 0x16 d .badTarget else s.atBoundary src 0x16 d)

def execAxisClearFault (src : Src) (d : Desc) (s : State) : Host.Outcome State Fault Refusal := .next (s.axisClearFault src d)

/-! ### Modes (R267 to R274, R342, R349) -/

/-- Transitions of Table 7.9. -/
def allowedMode (from_ new : Nat) : Bool :=
  if new = 0 then true
  else if from_ = 0 then new ≤ 6
  else if from_ ≤ 3 || from_ = 7 then isLoop new
  else false

/-- STEP and STEPPER need a local axis, STEPPER an even one with a free neighbour (R336, R360). -/
def State.stepperOk (s : State) (a m : Nat) : Bool :=
  match s.lxOf a with
  | none => m ≠ 4 && m ≠ 5
  | some n => m ≠ 5 || (n % 2 == 0 && (s.axisOfLx (n + 1)).isNone)

/-- Errors of AXIS_SET_MODE against the mode `cur`; `.ok` for the mode already in force (R268). -/
def State.modeError (s : State) (a cur : Nat) (op0 : Word) : Option St :=
  let m := bits op0 2 0
  if 256 ≤ a || !s.hasPass a then some .badTarget
  else if bits op0 7 3 ≠ 0 || bits op0 31 16 ≠ 0 then some .badOperand
  else if m = cur then some .ok
  else if cur = 0 && s.cartRefused a then some .busy
  else if !allowedMode cur m || !s.stepperOk a m then some .badOperand
  else if (s.axis a).health = 2 && m ≠ 0 then some .busy
  else none

def State.axisSetMode (s : State) (src : Src) (d : Desc) : State :=
  s.cmd src 0x10 d (fun s => s.atBoundary src 0x10 d)

def execAxisSetMode (src : Src) (d : Desc) (s : State) : Host.Outcome State Fault Refusal := .next (s.axisSetMode src d)

/-- A mode comes into force at the boundary: MODEW, the commutation state of Table 9.3, the end of an injection. -/
def State.applyMode (s : State) (a m b : Nat) : State :=
  let old := s.modeNow a
  let s := (s.endInj a).axWrite a (2 ^ 16 + 0x30) (modeWord old m b)
  if m = 0 then
    let s := (s.setCst a 0).startFailed a
    s.setCtl a { s.ctl a with fbk := 0, coast := false }
  else if isLoop m && !s.sless a && old ≠ 7 && s.cst a = 0 then s.setCst a 6
  else if m = s.target a && (s.cst a = 5 || s.cst a = 6) then s.startOk a
  else s

/-- The mode returns to OFF within BRAKE, whose procedure goes on (R351). -/
def State.brakeOff (s : State) (a : Nat) : State := (s.endInj a).axWrite a (2 ^ 16 + 0x30) (modeWord (s.modeNow a) 0 0)

/-- The start procedure of a sensorless axis begins (R349); one already running ends first. -/
def State.startSless (s : State) (a m b : Nat) (src : Src) (d : Desc) : State :=
  let s := if (s.ctl a).startCmd.isSome then s.startFailed a else s
  let s := s.setXw a 0x2D (putBits (s.xw a 0x2D) 6 4 m)
  let s := s.setCtl a { s.ctl a with startB := b, startCmd := some (src, d), fresh := true }
  if s.cfg a 2 && !(s.ctl a).noTv then s.setCst a 1
  else (if s.cfg a 2 then s.commFlag a 4 else s).toProbe a

/-- A host mode change is dropped (R273). -/
def State.dropMode (s : State) (a : Nat) (src : Src) (d : Desc) : State :=
  ((s.xflag a 0).xflag a 1).complete src 0x10 d .busy

/-- What FB, a fault reaction or a mode request brings at the boundary: mode, blend, from a request (R273, R342). -/
def State.hwMode (s : State) (a : Nat) : Option (Nat × Nat × Bool) :=
  if (s.axis a).health = 2 || (s.axis a).faulted then (if s.modeNow a = 0 then none else some (0, 0, false))
  else match (s.ctl a).req with
    | some m => some (m, if s.modeNow a = 7 && isLoop m then s.pn a 0x214 % 256 else 0, true)
    | none => none

/-- One host change of an axis at the boundary. `hw`: the change by hardware that still stands. -/
def State.hostMode (s : State) (a : Nat) (hw : Option (Nat × Nat × Bool)) (src : Src) (d : Desc) : State × Option (Nat × Nat × Bool) :=
  let m := bits d.op0 2 0
  let b := bits d.op0 15 8
  match s.modeError a (s.modeNow a) d.op0, hw with
  | some .ok, _ => (s.complete src 0x10 d .ok, hw)
  | some .busy, some h => if h.1 = m then (s.complete src 0x10 d .ok, hw) else (s.dropMode a src d, hw)
  | some e, _ => (s.complete src 0x10 d e, hw)
  | none, some h =>
    if h.1 = m then (s.complete src 0x10 d .ok, hw)
    else if h.2.2 && m = 0 then ((s.applyMode a 0 0).complete src 0x10 d .ok, none)
    else (s.dropMode a src d, hw)
  | none, none =>
    if s.modeNow a = 0 && isLoop m && s.sless a then (s.startSless a m b src d, none)
    else
      let s := s.setXw a 0x2D (putBits (s.xw a 0x2D) 6 4 m)
      ((s.applyMode a m b).complete src 0x10 d .ok, none)

/-- The mode changes of an axis at a boundary, host changes in order. -/
def State.modeStep (s : State) (a : Nat) (sets : List (Src × Desc)) : State :=
  let hw := s.hwMode a
  let s := s.setCtl a { s.ctl a with req := none }
  let s := s.setAxis a { s.axis a with faulted := false }
  let r := sets.foldl (fun (p : State × Option (Nat × Nat × Bool)) e => p.1.hostMode a p.2 e.1 e.2) (s, hw)
  let s := match r.2 with
    | some h =>
      if r.1.modeNow a = h.1 then r.1
      else if h.2.2 && h.1 = 0 && r.1.cst a = 2 then r.1.brakeOff a
      else r.1.applyMode a h.1 h.2.1
    | none => r.1
  if (s.axis a).health = 2 && s.cst a ≠ 0 && s.modeNow a = 0 then s.startFailed a else s

/-! ### Parameters (R290, R291, R293) -/

/-- Sectors of HALL_MAP: each of 0 to 5 once. -/
def hallMapOk (v : Word) : Bool := (List.range 6).all (fun k => ((List.range 6).map (fun n => bits v (3 * n + 2) (3 * n))).contains k)

def isPow2 (n : Nat) : Bool := (List.range 9).any (fun k => 2 ^ k == n)

/-- A reserved encoding (R24): a feedback kind that does not exist, sin/cos of a local axis (R312); an RPC_N of no size. -/
def State.parReserved (s : State) (a id : Nat) (v : Word) : Bool :=
  if id = 0x100 then 4 < v.toNat % 8 || (v.toNat % 8 = 3 && (s.isLocalAxis a || bit (applyStaged s.host.plan (PILOT_B + 0x804 + a * 8) (s.rg (PILOT_B + 0x804 + a * 8))) 15)) else if id = 0x26 then 5 < v.toNat else false

/-- Limits of a value that a range of one number does not state (Tables 8.5, 9.8). -/
def State.parExtra (s : State) (a id : Nat) (v : Word) : Bool :=
  match id with
  | 0x108 => decide (v.toNat < s.pn a 0x101)
  | 0x10A => hallMapOk v
  | 0x10E => decide (bits v 15 0 < bits v 31 16)
  | 0x10F => decide (8 ≤ bits v 5 0 ∧ bits v 5 0 ≤ 40 ∧ bits v 24 21 ≤ 8)
  | 0x20F => bits v 15 0 ≠ 0 && bits v 31 16 ≠ 0
  | 0x218 => isPow2 v.toNat
  | 0x21A => decide (v.toNat ≤ s.pn a 0x219)
  | _ => true

/-- Outcome of a parameter write, with the side flags of its rule: AX_XFLAGS.OVR, HALLMAP_ERR. -/
def State.parCheck (s : State) (a id : Nat) (v : Word) : St × Bool × Bool :=
  match parRow id with
  | none => (.badOperand, false, false)
  | some r =>
    let n : Int := if r.lo < 0 then sgn v else v.toNat
    if a ≥ 256 then (.badTarget, false, false)
    else if r.acc = .ro then (.badOperand, false, false)
    else if s.parReserved a id v then (.badOperand, true, false)
    else if n < r.lo || r.hi < n then (.badOperand, false, id = 0x10A)
    else if !s.parExtra a id v then (.badOperand, false, id = 0x10A)
    else if id = 0x200 && bit v 0 != s.sless a && s.mode a ≠ 0 then (.busy, true, false)
    else (.ok, false, false)

/-- Commit class of a parameter; `fixed` for a reserved ID. -/
def parCls (id : Nat) : Cls := match parRow id with | some r => r.cls | none => .fixed

/-- The flags of a rejected parameter write. -/
def State.parFlags (s : State) (a : Nat) (ovr hall : Bool) : State :=
  let s := if ovr then s.xflag a 0 else s
  if hall then s.flagEvent FB_B 1 117 0 else s

/-- Parameters whose host write sets the adaptation lock (R287). -/
def adaptPars : List Nat := [0x08, 0x09, 0x20, 0x21, 0x22]

/-- A blend runs: of a quantity that Table 7.9 blends, or of the angle at the end of FORCED (R353). -/
def State.blendingMode (s : State) (a : Nat) : Bool :=
  (decide (s.mwJ a < s.mwB a) && blendKind (s.mwPrev a) (s.mode a) != 0) || (s.ctl a).hand.isSome

/-- R285: no target changes and no ramp moves. -/
def State.rampFrozen (s : State) (a : Nat) : Bool :=
  (s.axis a).sup.lock || (s.axis a).inj.isSome || s.blendingMode a || (s.axis a).health != 0

/-- A host write of a CYC parameter takes effect at the boundary (R287); one of IDX_REF stands over a load of it in the same instant
(R72, R306). -/
def State.hostPar (s : State) (a id : Nat) (v : Word) : State :=
  if adaptPars.contains id then
    let u := (s.axis a).sup
    let meets := !s.rampFrozen a && u.targets.any (fun t => t.1 == id && t.2 != sgn (s.parNow a id))
    let s := if meets then s.xflag a 0 else s
    (s.setAxis a { s.axis a with sup := { u with lock := true, hostW := id :: u.hostW } }).axWrite a id v
  else if id = 0x108 then
    let s := if (s.fb a).loadRef = some s.ntime then s.setFlag FB_B 0 else s
    (s.setFb a { s.fb a with hostRef := some s.ntime }).axWrite a id v
  else if id = 0x1F then (s.setProf a { s.prof a with tqHost := true }).axWrite a id v
  else s.axWrite a id v

/-- COMM_FLAGS is cleared by ones (R341). -/
def State.clearComm (s : State) (a : Nat) (v : Word) : State := s.setXw a 0x2E (s.xw a 0x2E &&& ~~~v)

/-- AXIS_PARAM_WRITE (R290). -/
def State.paramWrite (s : State) (src : Src) (d : Desc) : State :=
  let a := d.tgt
  let id := d.op0.toNat
  let c := if 256 ≤ a then (St.badTarget, false, false) else s.parCheck a id d.op1
  if c.1 != .ok then (s.parFlags a c.2.1 c.2.2).complete src 0x11 d c.1
  else match parCls id with
    | .cyc => s.atBoundary src 0x11 d
    | .plan =>
      let x : Staged := { off := parOff a id, mask := 0xFFFFFFFF, val := d.op1, defer := 0 }
      (s.stagePlan x).complete src 0x11 d .ok
    | _ => (s.clearComm a d.op1).complete src 0x11 d .ok

/-- A CYC-class write due at this boundary. -/
def State.dueParam (s : State) (src : Src) (d : Desc) : State :=
  (s.hostPar d.tgt d.op0.toNat d.op1).complete src 0x11 d .ok

/-- A parameter write with a named cycle waits for it when its class is not CYC (R91). -/
def State.axisParamWrite (s : State) (src : Src) (d : Desc) : State :=
  s.cmd src 0x11 d (fun s =>
    if d.atCycle && parCls d.op0.toNat != .cyc then s.atBoundary src 0x11 d [] 1 else s.paramWrite src d)

def execAxisParamWrite (src : Src) (d : Desc) (s : State) : Host.Outcome State Fault Refusal := .next (s.axisParamWrite src d)

/-- Pending value of a parameter (R291). -/
def State.parPending (s : State) (a id : Nat) : Word :=
  let v := applyStaged (s.host.planUsed ++ s.host.plan ++ s.host.cyc ++ s.host.cycHeld) (parOff a id) (s.parNow a id)
  (s.host.due.filter (fun x => x.opc == 0x11 && x.desc.tgt == a && x.desc.op0.toNat == id)).foldl (fun _ x => x.desc.op1) v

def State.paramRead (s : State) (src : Src) (d : Desc) : State :=
  let a := d.tgt
  let id := d.op0.toNat
  if 256 ≤ a then s.complete src 0x12 d .badTarget
  else if (parRow id).isNone || 2 ≤ d.op1.toNat then s.complete src 0x12 d .badOperand
  else s.complete src 0x12 d .ok (if d.op1 = 1 then s.parPending a id else s.parNow a id).toNat

def State.axisParamRead (s : State) (src : Src) (d : Desc) : State :=
  s.cmd src 0x12 d (fun s => s.soon src 0x12 d [] (fun s => s.paramRead src d))

def execAxisParamRead (src : Src) (d : Desc) (s : State) : Host.Outcome State Fault Refusal := .next (s.axisParamRead src d)

/-- A write of AX_PVAL_LO (R293): as AXIS_PARAM_WRITE, staged by class; a rejected write sets OVR. -/
def State.pvalWrite (s : State) (ag : Agent) (a : Nat) (v : Word) : State :=
  let id := s.fld (axReg a 0xC) 15 0
  let c := s.parCheck a id v
  if c.1 != .ok then (s.parFlags a true c.2.2)
  else
    let x : Staged := { off := parOff a id, mask := 0xFFFFFFFF, val := v, defer := 0 }
    match parCls id with
    | .cyc => s.stageCyc ag x
    | .plan => s.stagePlan x
    | _ => s.clearComm a v

def execAxPvalLoWrite (axis : Fin 256) (value : Word) (s : State) : Host.Outcome State Fault Refusal :=
  .next (s.pvalWrite .host axis.val value)

/-- A write of AX_PVAL_HI holds the high word (R293). -/
def State.pvalHold (s : State) (a : Nat) (v : Word) : State := s.setAxis a { s.axis a with pvalHi := v }

def execAxPvalHiWrite (axis : Fin 256) (value : Word) (s : State) : Host.Outcome State Fault Refusal :=
  .next (s.pvalHold axis.val value)

/-- A read of AX_PVAL_LO: the selected parameter in the selected view (R293). -/
def State.pvalRead (s : State) (a : Nat) : Word :=
  let id := s.fld (axReg a 0xC) 15 0
  if s.flag (axReg a 0xC) 16 then s.parPending a id else s.parNow a id

/-! ### Adaptation lock, learning reset -/

def State.axisAdaptLock (s : State) (src : Src) (d : Desc) : State :=
  s.cmd src 0x13 d (fun s =>
    if 256 ≤ d.tgt then s.complete src 0x13 d .badTarget
    else if 2 ≤ d.op0.toNat then s.complete src 0x13 d .badOperand
    else s.atBoundary src 0x13 d)
def State.dueLock (s : State) (src : Src) (d : Desc) : State :=
  let a := d.tgt
  (s.setAxis a { s.axis a with sup := { (s.axis a).sup with lock := d.op0 == 1 } }).complete src 0x13 d .ok

def execAxisAdaptLock (src : Src) (d : Desc) (s : State) : Host.Outcome State Fault Refusal := .next (s.axisAdaptLock src d)

/-- AXIS_LEARN_RESET (R295). -/
def State.axisLearnReset (s : State) (src : Src) (d : Desc) : State :=
  s.cmd src 0x14 d (fun s =>
    if 256 ≤ d.tgt || s.pn d.tgt 0x26 = 0 then s.complete src 0x14 d .badTarget else s.atBoundary src 0x14 d)
def State.dueLearn (s : State) (src : Src) (d : Desc) : State :=
  ((s.clearLearn d.tgt).xflag d.tgt 4).complete src 0x14 d .ok

def execAxisLearnReset (src : Src) (d : Desc) (s : State) : Host.Outcome State Fault Refusal := .next (s.axisLearnReset src d)

/-! ### Injection (R275, R276) -/

/-- A point that the mode uses (R276). -/
def State.pointOk (s : State) (a p : Nat) : Bool :=
  let m := s.modeNow a
  match p with
  | 0 => isLoop m
  | 1 => isLoop m
  | 2 => m = 2 || m = 3
  | 3 => m = 3
  | 4 => (m = 2 || m = 3) && bit (s.parNow a 0x23) 1
  | _ => false

/-- Shape operands of Table 7.11. -/
def shapeOk (d : Desc) : Bool :=
  match bits d.op0 2 0 with
  | 0 => d.op3 == 0
  | 1 => d.op4 != 0
  | 2 =>
    let r := bits d.op2 4 0
    7 ≤ r && r ≤ 23 && bits d.op2 7 5 = 0 && bits d.op2 31 16 = 0 && d.op3.toNat % 2 ^ r ≠ 0
  | 3 => bits d.op3 31 16 = 0
  | _ => false

def State.axisInject (s : State) (src : Src) (d : Desc) : State :=
  s.cmd src 0x15 d (fun s => s.atBoundary src 0x15 d)

def execAxisInject (src : Src) (d : Desc) (s : State) : Host.Outcome State Fault Refusal := .next (s.axisInject src d)

/-- AXIS_INJECT takes effect. -/
def State.dueInject (s : State) (src : Src) (d : Desc) : State :=
  let a := d.tgt
  let ty := bits d.op0 2 0
  let p := bits d.op0 10 8
  if 256 ≤ a || !s.hasPass a then s.complete src 0x15 d .badTarget
  else if bits d.op0 7 3 ≠ 0 || bits d.op0 31 11 ≠ 0 then s.complete src 0x15 d .badOperand
  else if ty = 7 then (if (s.axis a).inj.isSome then (s.endInj a).axWrite a (2 ^ 18) 0 else s).complete src 0x15 d .ok
  else if !shapeOk d || !s.pointOk a p || (s.axis a).inj.isSome then s.complete src 0x15 d .badOperand
  else
    let i : Inj := { typ := ty, point := p, amp := sgn d.op1, op2 := d.op2.toNat, op3 := d.op3.toNat, len := d.op4.toNat,
                     start := s.cycle }
    ((s.setAxis a { s.axis a with inj := some i }).axWrite a (2 ^ 18) 1).complete src 0x15 d .ok

/-! ### Identification and scheduling (R280 to R285) -/

/-- One step of the recursive least squares of R280 in its information form, with forgetting: entries 11, 12, 13, 22, 23, 33 of the
matrix and the three of the right side, each with 32 fractional bits; f is ID_FORGET, the regressors are 8 ÷ k_r times the change of
Σ v, its sign and Σ v, and y is Σ (iq − IQRPC). -/
def rlsStep (f : Int) (l : List Int) (x1 x2 x3 y : Int) : List Int :=
  (l.zip [x1 * x1, x1 * x2, x1 * x3, x2 * x2, x2 * x3, x3 * x3, x1 * y, x2 * y, x3 * y]).map
    (fun e => divRnd (f * e.1) (2 ^ 31) + e.2 * 2 ^ 32)

/-- Determinant of a 3 × 3 matrix by rows. -/
def det3 (a b c d e f g h i : Int) : Int := a * (e * i - f * h) - b * (d * i - f * g) + c * (d * h - e * g)

/-- J, FC and FV of the fit, in the formats of KAFF, FC and FV; none where the matrix is singular. -/
def rlsFit (l : List Int) : Option (Int × Int × Int) :=
  let r (k : Nat) : Int := l.getD k 0
  let d := det3 (r 0) (r 1) (r 2) (r 1) (r 3) (r 4) (r 2) (r 4) (r 5)
  let n1 := det3 (r 6) (r 1) (r 2) (r 7) (r 3) (r 4) (r 8) (r 4) (r 5)
  let n2 := det3 (r 0) (r 6) (r 2) (r 1) (r 7) (r 4) (r 2) (r 8) (r 5)
  let n3 := det3 (r 0) (r 1) (r 6) (r 1) (r 3) (r 7) (r 2) (r 4) (r 8)
  let q (n k : Int) : Int := sat 32 (divRnd (signI d * n * k) (8 * absI d))
  if d = 0 then none else some (q n1 (2 ^ 18), q n2 1, q n3 (2 ^ 12))

/-- What ID_BLOCK finds of J: ADAPT_RANGE when it has left its range (R282). -/
def State.judgeJ (s : State) (a : Nat) : State :=
  let u := (s.axis a).sup
  let now := decide (s.pz a 0x36 ≤ u.j ∧ u.j ≤ s.pz a 0x37)
  let t := s.setAxis a { s.axis a with sup := { u with inRange := now, valid := u.valid && now } }
  if u.inRange && !now then t.xflag a 2 else t

/-- The fit of an accepted block. Its start, which the spec does not give, is nine free values; where it has no solution the estimates
are free values too. -/
def State.idFit (s : State) (a : Nat) (x1 x2 x3 y : Int) : State :=
  let x := s.axis a
  let u := x.sup
  let l0 := if u.rls.isEmpty then (List.range 9).map (fun k => Config.freeInt (s.free + k)) else u.rls
  let s := if u.rls.isEmpty then { s with free := s.free + 9 } else s
  let l := rlsStep (s.pz a 0x3A) l0 x1 x2 x3 y
  let e := match rlsFit l with
    | some e => e
    | none => (wrapS 32 (Config.freeInt s.free), wrapS 32 (Config.freeInt (s.free + 1)), wrapS 32 (Config.freeInt (s.free + 2)))
  let s := if (rlsFit l).isNone then { s with free := s.free + 3 } else s
  let hist := (e.1 :: u.jHist).take 65
  let old := hist.getD 64 e.1
  let calm := hist.length = 65 && decide (absI (e.1 - old) * 50 < absI old)
  let good := decide (256 ≤ u.blocks + 1) && calm
  s.setAxis a { x with sup := { u with rls := l, j := e.1, fc := e.2.1, fv := e.2.2, jHist := hist, blocks := u.blocks + 1,
                                       valid := u.valid || good } }

/-- ID_BLOCK: a block of 8 passes is judged; an accepted one updates the fit (R280 to R282). -/
def State.idBlock (s : State) (a : Nat) : State :=
  let x := s.axis a
  let u := x.sup
  if u.n < 8 then s
  else
    let kr : Int := s.kr a
    let moving := decide (u.sumV ≠ 0)
    let accel := match u.prevV with
      | some p => u.prevOk || decide (s.pz a 0x3B * 64 * kr ≤ absI (u.sumV - p) * 256)
      | none => false
    let acc := u.ok && moving && accel && u.prevV.isSome
    let v := u.sumV
    let d := v - u.prevV.getD 0
    let i := u.sumI
    let s := s.setAxis a { x with sup := { u with n := 0, prevV := some v, prevOk := acc, sumV := 0, sumI := 0, ok := true } }
    (if acc then s.idFit a (d * (8 / kr)) (signI v) v i else s).judgeJ a

def execIdBlock (axis : Fin 256) (s : State) : Host.Outcome State Fault Refusal := .next (s.idBlock axis.val)

/-- Targets of one axis (R283). π is taken to 60 bits. -/
def State.scheduleAxis (s : State) (a : Nat) : State :=
  let x := s.axis a
  let u := x.sup
  let cfg := s.par a 0x30
  if !u.valid || !bit cfg 1 || s.rampFrozen a then s
  else
    let bw := clampI (s.pz a 0x32) (s.pz a 0x33) (s.pz a 0x31)
    let num : Int := 2 * pi60 * s.kr a * s.tCyc
    let den : Int := 2 ^ 60 * 1000000000
    let k := divRnd (u.j * bw * num) den
    let kp := clampI (s.pz a 0x34) (s.pz a 0x35) k
    let ki := sat 32 (divRnd (kp * bw * num) (den * max (s.pz a 0x38) 1))
    let t := [(0x08, kp), (0x09, ki)] ++ (if bit cfg 2 then [(0x20, u.j), (0x21, u.fc), (0x22, u.fv)] else [])
    let hz := if u.j ≤ 0 then 0 else (divRnd (kp * den) (u.j * num)).toNat
    let s := s.setAxis a { x with sup := { u with targets := t, bw := min hz 65535 } }
    if kp = k then s else s.xflag a 3

def execAdaptSchedule (s : State) : Host.Outcome State Fault Refusal :=
  .next (s.axes.foldl (fun s e => s.scheduleAxis e.1) s)

/-- One ramp step of a parameter toward its target (R284). -/
def rampTo (cur tgt : Int) (n : Nat) : Int :=
  let step := max (absI cur) (absI tgt) / 2 ^ n
  if absI (tgt - cur) ≤ step then tgt else if cur < tgt then cur + step else cur - step

/-- The ramps of an axis at a boundary (R284, R285). A value that the host has written at it stands (R287). -/
def State.adaptRamp (s : State) (a : Nat) : State :=
  let u := (s.axis a).sup
  let s := if u.hostW.isEmpty then s else s.setAxis a { s.axis a with sup := { u with hostW := [] } }
  if u.targets.isEmpty || s.rampFrozen a then s
  else u.targets.foldl (fun s t =>
    let cur := sgn (s.parNow a t.1)
    if cur = t.2 then s
    else if u.hostW.contains t.1 then s.xflag a 0
    else s.axWrite a t.1 (ofInt (rampTo cur t.2 (s.pn a 0x39)))) s

/-! ### Feedback and commutation events -/

/-- FREEZE_DETECT (R316): FBP's verdict takes effect in FB at the next boundary (R300). -/
def State.freezeDetect (s : State) (a : Nat) : State :=
  let c := s.ctl a
  let n := s.pn a 0x113
  if n ≤ c.frzN then s.setFb a { s.fb a with pend := 0x0B }
  else if n ≤ c.obsN then s.setFb a { s.fb a with pend := 0x0C }
  else s

def execFreezeDetect (axis : Fin 256) (s : State) : Host.Outcome State Fault Refusal := .next (s.freezeDetect axis.val)
def execFeedbackRecovery (axis : Fin 256) (s : State) : Host.Outcome State Fault Refusal := .next (s.fbRecover axis.val)
def execFeedbackPersistLatch (axis : Fin 256) (s : State) : Host.Outcome State Fault Refusal := .next (s.fbPersist axis.val)

/-- A verdict of FBP reaches the feedback status. -/
def State.fbBoundary (s : State) (a : Nat) : State :=
  let p := (s.fb a).pend
  if p = 0 then s
  else
    let now := (s.fb a).now
    let s := (s.setFb a { s.fb a with pend := 0 }).fbStatus a [p]
    s.setFb a { s.fb a with now := now }

/-- A time limit of a commutation state expires: RELOCK_FAIL, FAULT, IDLE. -/
def State.commExpired (s : State) (a : Nat) : State :=
  let s := ((s.gateOff a).commFlag a 1).worsen a 2
  (if s.mode a = 0 then s else s.request a 0).startFailed a

/-- CATCH_TMO_EXPIRY (R351). -/
def State.catchTmo (s : State) (a : Nat) : State :=
  if s.cst a = 2 && decide ((s.ctl a).cstT + s.pn a 0x20D * 1000000 ≤ s.ntime) then s.commExpired a else s

def execCatchTmoExpiry (axis : Fin 256) (s : State) : Host.Outcome State Fault Refusal := .next (s.catchTmo axis.val)

/-- OBS_RELOCK_EXPIRY (R353, R355). -/
def State.relockTmo (s : State) (a : Nat) : State :=
  let c := s.ctl a
  let lim_ := s.pn a 0x209 * 1000000
  let due := match s.cst a, c.reachT, c.hand with
    | 4, some t, none => decide (t + lim_ ≤ s.ntime)
    | 8, _, _ => decide (c.lossT + lim_ ≤ s.ntime)
    | _, _, _ => false
  if due then s.commExpired a else s

def execObsRelockExpiry (axis : Fin 256) (s : State) : Host.Outcome State Fault Refusal := .next (s.relockTmo axis.val)

/-- TQ_RAMP_COMPLETE (R356). -/
def State.tqRampDone (s : State) (a : Nat) : State :=
  if s.cst a = 5 && decide (s.pn a 0x20A ≤ (s.ctl a).cstN) then s.setCst a 6 else s

def execTqRampComplete (axis : Fin 256) (s : State) : Host.Outcome State Fault Refusal := .next (s.tqRampDone axis.val)

/-! ### The bus-group ledger (R364 to R369) -/

def State.groupAxes (s : State) (g : Nat) : List PlanAxis := s.pilot.act.axes.filter (fun p => p.grp == g)

/-- Coast state of an axis as last decided. -/
def State.coastState (s : State) (a : Nat) : Bool :=
  match (s.mem.ledger.filter (fun e => e.2.1 == a)).getLast? with
  | some e => e.2.2.2
  | none => s.yw a 0x3F != 0

def sumI (l : List Int) : Int := l.foldl (· + ·) 0

/-- RGF of a group (R365), powers in 0.01 W: Q1.31, one as the largest code. -/
def rgfOf (en : Bool) (padm pbmax : Int) : Int :=
  if !en || pbmax = 0 then 2 ^ 31 - 1 else clampI 0 (2 ^ 31 - 1) (divRnd (padm * 2 ^ 31) pbmax)

/-- The ledger's computation for the cycle c. -/
def State.ledgerRun (s : State) (g : Nat) (l : List PlanAxis) (c : BitVec 32) : State :=
  let cfg := s.rg (grpReg g 0)
  let pe (p : PlanAxis) : Int := s.xi p.axis 0x2F
  let mot := sumI ((l.map pe).filter (fun x => 0 < x)) * 10
  let braking := l.filter (fun p => decide (pe p < 0))
  let pbm := sumI (braking.map (fun p => s.xi p.axis 0x2C)) * 10
  let vmax := ((l.filter (fun p => bits (s.xw p.axis 7) 23 16 = c.toNat % 256)).map (fun p => bits (s.xw p.axis 4) 15 0)).foldl max 0
  let chop := l.any (fun p => !p.isLocal && ((Tab.get {} s.net.nodes p.node).chop / 4 % 4 != 0))
  let pch : Int := if bit cfg 1 && !chop then s.fld (grpReg g 0xC) 15 0 * 1000 else 0
  let vlim := s.fld (grpReg g 4) 15 0
  let trip := s.fld (grpReg g 4) 31 16
  let kc : Int := s.fld (grpReg g 0xC) 31 16
  let adm := max (mot + pch + (if vlim = 0 then 0 else kc * ((vlim : Int) - vmax))) 0
  let rgf := rgfOf (bit cfg 0) adm pbm
  let tripped := trip ≠ 0 && decide (trip < vmax)
  let resume := decide (vmax < s.fld (grpReg g 8) 15 0)
  let coastOf (p : PlanAxis) : Bool :=
    bit cfg 2 && ((tripped && decide (pe p < 0)) || (s.coastState p.axis && !resume))
  let coasts := l.map (fun p => (p, coastOf p))
  let limiting := decide (rgf < 2 ^ 31 - 1)
  let s := s.setRg (grpReg g 0x10) (ofNat (min vmax 65535 + b2n chop * 2 ^ 16 + b2n (coasts.any (fun e => e.2)) * 2 ^ 17 + b2n limiting * 2 ^ 18))
  let w10 (x : Int) : Nat := (clampI 0 65535 (divRnd x 1000)).toNat
  let s := (s.setRg (grpReg g 0x14) (ofNat (w10 mot + w10 pbm * 2 ^ 16))).setRg (grpReg g 0x18) (ofInt rgf)
  let s := if tripped then s.flagEvent (grpReg g 0x1C) 0 85 g else s
  let s := if chop then s.flagEvent (grpReg g 0x1C) 1 86 g else s
  let s := if limiting then s.flagEvent (grpReg g 0x1C) 2 86 g else s
  let new := coasts.map (fun e => (c + 2, e.1.axis, ofInt rgf, e.2))
  { s with mem := { s.mem with ledger := s.mem.ledger ++ new, ledAt := Tab.set 0 s.mem.ledAt g (c.toNat + 1) } }

/-- LEDGER_COMPUTE: once the last pass of the group's cycle has ended (R365). -/
def State.ledgerCompute (s : State) (g : Nat) : State :=
  let l := s.groupAxes g
  match l with
  | [] => s
  | p :: _ =>
    let c := (s.axis p.axis).lastPass
    let ended := l.all (fun q => (s.axis q.axis).lastPass == c && (s.axis q.axis).startedFor == some c)
    if g = 0 || !ended || Tab.get 0 s.mem.ledAt g = c.toNat + 1 then s else s.ledgerRun g l c

def execLedgerCompute (group : Fin 32) (s : State) : Host.Outcome State Fault Refusal := .next (s.ledgerCompute group.val)

/-- The ledger's words reach the slots at the boundary of cycle n + 2. -/
def State.ledgerBoundary (s : State) : State :=
  let due := s.mem.ledger.filter (fun e => !isFuture e.1 s.cycle)
  let s := { s with mem := { s.mem with ledger := s.mem.ledger.filter (fun e => isFuture e.1 s.cycle) } }
  due.foldl (fun s e => (s.axWrite e.2.1 (2 ^ 17 + 0x3E) e.2.2.1).axWrite e.2.1 (2 ^ 17 + 0x3F) (ofNat (b2n e.2.2.2))) s

end Sys2Proof.Machine
end

