-- ==== Sys2Proof/Machine/Can.lean ====
section
/-! DEFINITION. The CAN FD controllers CAN0 to CAN3 (spec 15, R532 to R559). -/

namespace Sys2Proof.Machine

open Sys2Proof

abbrev canReg (n o : Nat) : Nat := CAN_B + n * 0x1000 + o
abbrev canStat (n : Nat) : Nat := canReg n 4
abbrev canEcnt (n : Nat) : Nat := canReg n 0x14
abbrev canFlags (n : Nat) : Nat := canReg n 0x18
abbrev mbCfg (n b : Nat) : Nat := canReg n (0x100 + b * 0x10)
abbrev mbStat (n b : Nat) : Nat := canReg n (0x10C + b * 0x10)

def State.canC (s : State) (n : Nat) : CanCtl := Tab.get {} s.can.ctl n
def State.setCanC (s : State) (n : Nat) (c : CanCtl) : State := { s with can := { s.can with ctl := Tab.set {} s.can.ctl n c } }

/-- CAN_STAT.ACT: 0 INIT, 1 integrating, 2 idle, 3 receiving, 4 transmitting, 5 asleep, 6 recovering. -/
def State.canAct (s : State) (n : Nat) : Nat := s.fld (canStat n) 4 2
def State.setCanAct (s : State) (n v : Nat) : State := s.setFld (canStat n) 4 2 v
def State.canEst (s : State) (n : Nat) : Nat := s.fld (canStat n) 1 0
def State.canInit (s : State) (n : Nat) : Bool := s.flag (canReg n 0) 0

/-- CAN_CTL.INIT is 1 on CAN0 to CAN3 (Table 17.4a). -/
def State.canAllInit (s : State) : Bool := [0, 1, 2, 3].all (fun n => s.canInit n)

def State.canB (s : State) (n b : Nat) : CanBuf := Tab.get {} (s.canC n).bufs b

/-- A buffer is updated; CAN_MB_STAT follows it. -/
def State.setCanB (s : State) (n b : Nat) (x : CanBuf) : State :=
  let c := s.canC n
  let s := s.setCanC n { c with bufs := Tab.set {} c.bufs b x }
  let act := (x.tx.map (fun t => t.active)).getD false
  let full := x.front.isSome || x.tx.isSome
  let pend := x.tx.isSome && !act
  let w := b2n full + 2 * b2n x.shadow.isSome + 4 * b2n x.locked + 8 * b2n pend + 16 * b2n act + 32 * b2n x.backoff
  let att := (x.tx.map (fun t => t.att)).getD 0
  (s.setFld (mbStat n b) 5 0 w).setFld (mbStat n b) 15 8 (min 255 att)

/-- The bus monitoring mode a controller would run in (R534, CAN_CTL.LOM). -/
def State.canMonWant (s : State) (n : Nat) : Bool := s.flag (canReg n 0) 3 || !s.holder

/-- CAN_CFG_ERR. -/
def State.canCfgErr (s : State) (n : Nat) : State := s.setFlag (canFlags n) 1

/-! ### Error state (R550) -/

/-- TEC, REC and EST below bus-off follow the counts; a change of EST raises event 176 + 4n. -/
def State.canCount (s : State) (n tec recv : Nat) : State :=
  let c := s.canC n
  let s := s.setCanC n { c with recv := recv }
  let s := s.setRg (canEcnt n) (ofNat (min 511 tec + min 127 recv * 2 ^ 16 + b2n (decide (128 ≤ recv)) * 2 ^ 23))
  let est := if 128 ≤ tec || 128 ≤ recv then 1 else 0
  if s.canEst n = 2 || s.canEst n = est then s
  else
    let s := s.setFld (canStat n) 1 0 est
    let s := if est = 1 then s.setFlag (canFlags n) 2 else s
    s.raise (176 + 4 * n) est

def State.canTec (s : State) (n : Nat) : Nat := s.fld (canEcnt n) 8 0

/-! ### Transmission (R546 to R549) -/

/-- Order of arbitration on the bus: base identifier, RTR or SRR, IDE, the rest of an extended identifier, RTR. -/
def arbKey (t : CanTx) : Nat :=
  let base := field t.idw 28 18 * 2 ^ 21
  if field t.idw 29 29 = 0 then base + b2n t.rtr * 2 ^ 20 else base + 2 ^ 20 + 2 ^ 19 + field t.idw 17 0 * 2 + b2n t.rtr

/-- Held frames that may arbitrate: eligible (R547) and not in back-off (R553). -/
def State.canReady (s : State) (n : Nat) : List (Nat × CanTx) :=
  (s.canC n).bufs.filterMap (fun e => match e.2.tx with
    | some t => if e.2.backoff || (t.desc.atCycle && isFuture t.desc.op5 s.cycle) then none else some (e.1, t)
    | none => none)

/-- The frame that arbitrates next (R548, R552). -/
def State.canPick (s : State) (n : Nat) : Option (Nat × CanTx) :=
  let l := s.canReady n
  let first := if s.flag (canStat n) 6 then l.find? (fun e => e.1 == s.fld (canStat n) 12 7) else none
  match first with
  | some e => some e
  | none => (sortBy (fun (a b : Nat × CanTx) => decide (arbKey a.2 < arbKey b.2)) l).head?

/-- An idle controller in normal operation starts the next attempt; the frame goes to the bus. -/
def State.canKick (s : State) (n : Nat) : State :=
  if s.canAct n = 2 && s.canEst n != 2 && s.canTec n < 256 && !s.flag (canStat n) 5 && s.holder && (s.canC n).sleep.isNone then
    match s.canPick n with
    | some (b, t) =>
      let s := s.setCanB n b { s.canB n b with tx := some { t with active := true, att := min 255 (t.att + 1) } }
      (s.setCanAct n 4).emit (.can n t.idw (t.len + 128 * b2n t.rtr + 256 * b2n (field t.idw 30 30 == 1 && s.canEst n == 1)) t.data)
    | none => s
  else s

/-- The attempt or the reception in progress is over: INIT takes effect (Table 15.3), else the bus is idle. -/
def State.canIdle (s : State) (n : Nat) : State :=
  if s.canAct n = 3 || s.canAct n = 4 then
    if s.canInit n then s.setCanAct n 0 else (s.setCanAct n 2).canKick n
  else s

/-- A held frame ends: its buffer is empty again, a reservation for it ends, its command completes. -/
def State.canEnd (s : State) (n b : Nat) (st : St) (lo hi : Nat) : State :=
  match (s.canB n b).tx with
  | none => s
  | some t =>
    let s := s.setCanB n b { s.canB n b with tx := none, colls := if st = .ok then 0 else (s.canB n b).colls }
    let s := if s.flag (canStat n) 6 && s.fld (canStat n) 12 7 = b then s.setFld (canStat n) 12 6 0 else s
    s.complete t.src 0x60 t.desc st lo hi

/-- The buffer whose frame is on the bus. -/
def State.canActive (s : State) (n : Nat) : Option (Nat × CanTx) :=
  (s.canC n).bufs.findSome? (fun e => match e.2.tx with | some t => if t.active then some (e.1, t) else none | none => none)

/-- A current attempt that failed: SINGLE ends TIMEOUT with its cause, an abort ends BUSY, else the frame waits (R549, R551). -/
def State.canFailed (s : State) (n cause : Nat) : State :=
  match s.canActive n with
  | none => s
  | some (b, t) =>
    if t.single then s.canEnd n b .timeout 0 (cause * 2 ^ 28)
    else if t.abort then s.canEnd n b .busy 0 (2 ^ 31)
    else s.setCanB n b { s.canB n b with tx := some { t with active := false } }

/-- LEN of a frame with these flags (Table 15.8). -/
def canLenOk (fd : Bool) (len : Nat) : Bool := len ≤ 8 || (fd && [12, 16, 20, 24, 32, 48, 64].contains len)

/-- CAN_TX (R546, R547). A full buffer takes nothing. -/
def State.canTx (s : State) (src : Src) (d : Desc) (data : Option (List Byte)) : State :=
  let n := (src.ringNo - 18) % 4
  let b := d.tgt
  let fd := bit d.op0 30
  let brs := bit d.op0 31
  let len := bits d.op1 6 0
  let rtr := bit d.op1 7
  let addr := bit d.op1 8
  let badOp := bits d.op1 31 10 != 0 || (!bit d.op0 29 && bits d.op0 17 0 != 0) || !canLenOk fd len || (fd && !s.flag (canReg n 0) 1) ||
    (brs && (!fd || !s.flag (canReg n 0) 2)) || (rtr && fd) || (!addr && 16 < len) || (d.atCycle && !addr)
  if !s.powered 6 then s.complete src 0x60 d .pdOff
  else if 64 ≤ b || !s.flag (mbCfg n b) 0 || !s.flag (mbCfg n b) 1 then s.complete src 0x60 d .badTarget
  else if badOp then s.complete src 0x60 d .badOperand
  else if d.atCycle && !isFuture d.op5 s.cycle then s.complete src 0x60 d .cyclePast
  else if (s.canB n b).tx.isSome then s
  else
    let inl := leBytes 4 d.op2.toNat ++ leBytes 4 d.op3.toNat ++ leBytes 4 d.op4.toNat ++ leBytes 4 d.op5.toNat
    let bytes : Option (List Byte) := if addr && !rtr then data else some inl
    match bytes with
    | none => s.complete src 0x60 d .dmaFail
    | some l =>
      let x := { src := src, desc := d, idw := d.op0.toNat, len := len, rtr := rtr, single := bit d.op1 9, data := if rtr then [] else slice l 0 len : CanTx }
      (s.setCanB n b { s.canB n b with tx := some x }).canKick n

def execCanTx (src : Src) (d : Desc) (data : Option (List Byte)) (s : State) : Host.Outcome State Fault Refusal :=
  .next (s.cmd src 0x60 d fun s => s.canTx src d data)

/-- At a cycle boundary frames become eligible (R547) and controllers follow them. -/
def State.canBoundary (s : State) : State := [0, 1, 2, 3].foldl (fun s n => s.canKick n) s

/-! ### Reception (R541 to R545) -/

/-- Bytes of a ring record (Table 15.7, R545). -/
def canRecord (b lost : Nat) (f : CanFrame) : List Byte :=
  let n := (f.data.length + 3) / 4 * 4
  leBytes 4 f.idw ++ leBytes 2 (f.len + 128 * b2n f.rtr + 256 * b2n f.esi + 512 * b2n f.wake + 1024 * b) ++ leBytes 2 (min lost 0xFFFF) ++
    leBytes 4 f.ts ++ leBytes 4 f.cyc ++ padTo n f.data

/-- The front copy is given up; a full shadow becomes the front (R543). -/
def State.canPop (s : State) (n b : Nat) : State :=
  let x := s.canB n b
  s.setCanB n b { x with front := x.shadow, shadow := none, locked := false }

/-- Frames of RING buffers move to the receive ring while it has room, lowest buffer first (R545). -/
def State.canDrain (s : State) (n : Nat) : Nat → State
  | 0 => s
  | f + 1 =>
    match (s.canC n).bufs.find? (fun e => e.2.front.isSome && s.flag (mbCfg n e.1) 2) with
    | some (b, x) => match x.front with
      | some fr =>
        let es := chunks (s.esize (22 + n)) 16 (canRecord b (s.canC n).lostRec fr)
        if s.ringRoomN (22 + n) es.length then
          let s := s.setCanC n { s.canC n with lostRec := 0 }
          let s := es.foldl (fun s e => s.pushRing (22 + n) e) s
          (s.canPop n b).canDrain n f
        else s
      | none => s
    | none => s

/-- CAN_RX_TO_RING: the receive ring has room. -/
def execCanRxToRing (ctl : Fin 4) (s : State) : Host.Outcome State Fault Refusal := .next (s.canDrain ctl.val 128)

/-- A frame for a buffer is lost (R542): event 179 + 4n. -/
def State.canLose (s : State) (n b : Nat) : State :=
  let s := (s.incFld (canReg n 0x24) 31 0 1).incFld (mbStat n b) 23 16 1
  let s := if s.flag (mbCfg n b) 2 then s.setCanC n { s.canC n with lostRec := (s.canC n).lostRec + 1 } else s
  ((s.setFlag (mbStat n b) 7).setFlag (canFlags n) 4).raise (179 + 4 * n) b

/-- The buffer admits a frame (R541). -/
def State.canMatch (s : State) (n b : Nat) (f : CanFrame) : Bool :=
  let fmt := s.fld (mbCfg n b) 5 4
  let fd := field f.idw 30 30 == 1
  let id := (s.rg (mbCfg n b + 4)).toNat
  let m := (s.rg (mbCfg n b + 8)).toNat
  s.flag (mbCfg n b) 0 && !s.flag (mbCfg n b) 1 && field id 29 29 == field f.idw 29 29 &&
    (id ^^^ f.idw) &&& m % 2 ^ 29 == 0 && (fmt == 0 || (fmt == 1 && !fd) || (fmt == 2 && fd))

/-- A frame is stored in the first matching buffer, or lost (R541, R542). -/
def State.canStore (s : State) (n : Nat) (f : CanFrame) : State :=
  match (List.range 64).find? (fun b => s.canMatch n b f) with
  | none => s.setFlag (canFlags n) 9
  | some b =>
    let x := s.canB n b
    let ok (s : State) : State := (s.incFld (canReg n 0x20) 31 0 1).canDrain n 4
    if x.front.isNone then ok (s.setCanB n b { x with front := some f })
    else if x.shadow.isNone then ok (s.setCanB n b { x with shadow := some f })
    else if s.flag (mbCfg n b) 3 then ok ((s.setCanB n b { x with shadow := some f }).canLose n b)
    else s.canLose n b

def frameOf (f : CanBits) (wake : Bool) : CanFrame :=
  { idw := f.idw.toNat, len := f.len.val, rtr := f.rtr, esi := f.esi, wake := wake, ts := f.ts.toNat, cyc := f.cyc.toNat,
    data := if f.rtr then [] else slice f.data 0 f.len.val }

/-- REC after a successful reception (ISO 11898-1): one less, or a value from 119 to 127 that is not stated (log 2). -/
def State.canRxOk (s : State) (n : Nat) : State :=
  let r := (s.canC n).recv
  if s.flag (canStat n) 5 || r = 0 then s
  else if 128 ≤ r then (s.canCount n (s.canTec n) (119 + Config.freeBelow 8 s.free)).draw
  else s.canCount n (s.canTec n) (r - 1)

/-- CAN_FRAME_RECEIVED: the controller takes part in bus traffic, and FD frames need FDOE. -/
def State.canReceived (s : State) (n : Nat) (f : CanBits) : State :=
  let a := s.canAct n
  if s.powered 6 && (a == 2 || a == 3 || a == 4) && s.canEst n != 2 && (!bit f.idw 30 || s.flag (canReg n 0) 1) then
    let s := (s.canStore n (frameOf f false)).canRxOk n
    if a = 4 then s else (s.setCanAct n 3).canIdle n
  else s

def execCanFrameReceived (ctl : Fin 4) (f : CanBits) (s : State) : Host.Outcome State Fault Refusal :=
  .next (s.canReceived ctl.val f)

/-- CAN_MB_LOCK and CAN_MB_REL need a receive buffer without RING that holds a frame (R543). -/
def State.canMb (s : State) (n b : Nat) (k : State → State) : State :=
  if s.flag (mbCfg n b) 1 || s.flag (mbCfg n b) 2 || (s.canB n b).front.isNone then s.canCfgErr n else k s

def State.canLock (s : State) (n b : Nat) : State :=
  s.canMb n b fun s => s.setCanB n b { s.canB n b with locked := true }

def State.canRel (s : State) (n b : Nat) : State := s.canMb n b fun s => s.canPop n b

def execCanMbLock (ctl : Fin 4) (value : Word) (s : State) : Host.Outcome State Fault Refusal :=
  .next (if s.powered 6 then s.canLock ctl.val (bits value 5 0) else s)

def execCanMbRel (ctl : Fin 4) (value : Word) (s : State) : Host.Outcome State Fault Refusal :=
  .next (if s.powered 6 then s.canRel ctl.val (bits value 5 0) else s)

/-- CAN_MB_ABORT (R549). -/
def State.canAbort (s : State) (n b : Nat) : State :=
  match (s.canB n b).tx with
  | none => s
  | some t =>
    if t.active then s.setCanB n b { s.canB n b with tx := some { t with abort := true } }
    else s.canEnd n b .busy 0 (2 ^ 31)

def execCanMbAbort (ctl : Fin 4) (value : Word) (s : State) : Host.Outcome State Fault Refusal :=
  .next (if s.powered 6 then s.canAbort ctl.val (bits value 5 0) else s)

/-! ### Outcome of an attempt (R537, R549, R550, R553) -/

/-- CAN_FRAME_SENT: TS and cycle of its start, and the transmitter delay measured in the frame (R537). -/
def State.canSent (s : State) (n : Nat) (ts cyc : Word) (delay : Nat) : State :=
  match s.canActive n with
  | none => s
  | some (b, t) =>
    let fdBrs := 3 ≤ t.idw / 2 ^ 30
    let s := if fdBrs && s.flag (canReg n 0x10) 0 then
        let s := s.setFld (canStat n) 22 16 delay
        if 127 < delay + s.fld (canReg n 0x10) 14 8 then s.setFlag (canFlags n) 8 else s
      else s
    let s := s.incFld (canReg n 0x1C) 31 0 1
    let s := s.canCount n (s.canTec n - 1) (s.canC n).recv
    let esi := field t.idw 30 30 == 1 && s.canEst n == 1
    let f := { idw := t.idw, len := t.len, rtr := t.rtr, esi := esi, ts := ts.toNat, cyc := cyc.toNat, data := t.data : CanFrame }
    let s := if s.flag (canReg n 0) 8 then s.canStore n f else s
    (s.canEnd n b .ok ts.toNat (min 255 t.att)).canIdle n

def execCanFrameSent (ctl : Fin 4) (ts cyc : Word) (delay : BitVec 7) (s : State) : Host.Outcome State Fault Refusal :=
  .next (s.canSent ctl.val ts cyc delay.toNat)

/-- CAN_ARBITRATION_LOST: the controller receives the frame that won. -/
def State.canArbLost (s : State) (n : Nat) : State :=
  if (s.canActive n).isSome then (s.canFailed n 1).setCanAct n 3 else s

def execCanArbitrationLost (ctl : Fin 4) (s : State) : Host.Outcome State Fault Refusal := .next (s.canArbLost ctl.val)

/-- R553: a collision of the buffer whose frame is on the bus. -/
def State.canCollide (s : State) (n b : Nat) : State :=
  let x := s.canB n b
  let k := x.colls + 1
  let s := s.setCanB n b { x with colls := k }
  if k = 3 then
    let s := ((s.setFlag (mbStat n b) 6).setFlag (canFlags n) 5).raise (177 + 4 * n) b
    if s.flag (canReg n 0) 6 then s.setCanB n b { s.canB n b with backoff := true } else s
  else s

/-- CAN_BUS_ERROR (R550, R551): the counters as ISO 11898-1 has them; an error of the own attempt ends the attempt, unless the
controller is about to enter bus-off, where the frame on the bus is the one reserved (R552). -/
def State.canError (s : State) (n : Nat) (e : CanErr) : State :=
  let a := s.canAct n
  if !s.powered 6 || a == 0 || a == 5 || a == 6 || s.canEst n == 2 || (s.flag (canStat n) 5 && (e == .txDominant || e == .rxDominant)) then s
  else
    let own := e == .tx || e == .txData || e == .txQuiet
    if own && (s.canActive n).isNone then s
    else
      let s := if e = .rxDominant || e = .txDominant then s else s.incFld (canReg n 0x28) 31 0 1
      let tec := s.canTec n + (if e = .tx || e = .txData || e = .txDominant then 8 else 0)
      let r := (s.canC n).recv
      let r' := if s.flag (canStat n) 5 || 128 ≤ r then r else r + (if e = .rx then 1 else if e = .rxDominant then 8 else 0)
      let s := s.canCount n tec r'
      let s := match s.canActive n with
        | some (b, _) => if e = .txData then s.canCollide n b else s
        | none => s
      let s := if own && (tec < 256 || ((s.canActive n).map (fun p => p.2.single || p.2.abort)).getD false) then s.canFailed n 2 else s
      if tec < 256 && (own || (e == .rx && a == 3)) then s.canIdle n else s

def execCanBusError (ctl : Fin 4) (e : CanErr) (s : State) : Host.Outcome State Fault Refusal := .next (s.canError ctl.val e)

/-- A CAN_SLEEP that waits completes BUSY (R554). -/
def State.canDropSleep (s : State) (n : Nat) : State :=
  match (s.canC n).sleep with
  | some (src, d, _) => (s.setCanC n { s.canC n with sleep := none }).complete src 0x62 d .busy
  | none => s

/-- CAN_BUS_OFF (R552): TEC above 255. -/
def State.canBusOff (s : State) (n : Nat) : State :=
  if s.canTec n < 256 || s.canEst n = 2 then s
  else
    let keep : Option Nat := match s.canActive n with | some (b, _) => some b | none => (s.canPick n).map (fun e => e.1)
    let s := match s.canActive n with
      | some (b, t) => s.setCanB n b { s.canB n b with tx := some { t with active := false } }
      | none => s
    let s := match keep with
      | some b => (s.setFlag (canStat n) 6).setFld (canStat n) 12 7 b
      | none => s
    let s := (s.setFld (canStat n) 1 0 2).setFlag (canFlags n) 3
    let s := s.setCanAct n (if s.canInit n then 0 else if s.flag (canReg n 0) 4 then 6 else 2)
    (s.raise (176 + 4 * n) 2).canDropSleep n

def execCanBusOff (ctl : Fin 4) (s : State) : Host.Outcome State Fault Refusal := .next (s.canBusOff ctl.val)

/-- CAN_RECOVERY_COMPLETE (R552): 128 occurrences of 11 consecutive recessive bits. -/
def State.canRecovered (s : State) (n : Nat) : State :=
  if s.canAct n = 6 then
    let c := s.canC n
    let s := s.setCanC n { c with recv := 0, recover := none }
    let s := ((s.setRg (canEcnt n) 0).setFld (canStat n) 1 0 0).setCanAct n 2
    let s := s.raise (176 + 4 * n) 0
    let s := match c.recover with
      | some (src, d) => s.complete src 0x61 d .ok 0
      | none => s
    s.canKick n
  else s

def execCanRecoveryComplete (ctl : Fin 4) (s : State) : Host.Outcome State Fault Refusal := .next (s.canRecovered ctl.val)

/-- CAN_RECOVER (R552). -/
def State.canRecover (s : State) (src : Src) (d : Desc) : State :=
  let n := d.tgt
  if 4 ≤ n then s.complete src 0x61 d .badTarget
  else if !s.powered 6 then s.complete src 0x61 d .pdOff
  else if s.canAct n = 5 || s.canAct n = 6 || (s.canC n).recover.isSome then s.complete src 0x61 d .busy
  else if s.canEst n != 2 then s.complete src 0x61 d .ok (s.canEst n)
  else
    let s := s.setCanC n { s.canC n with recover := some (src, d) }
    if s.canInit n then s else s.setCanAct n 6

def execCanRecover (src : Src) (d : Desc) (s : State) : Host.Outcome State Fault Refusal :=
  .next (s.cmd src 0x61 d fun s => s.soon src 0x61 d [] fun s => s.canRecover src d)

/-- CAN_BACKOFF_END (R553): COLL_T ms have passed. -/
def State.canBackoffEnd (s : State) (n b : Nat) : State :=
  if (s.canB n b).backoff then (s.setCanB n b { s.canB n b with backoff := false, colls := 0 }).canKick n else s

def execCanBackoffEnd (ctl : Fin 4) (b : Fin 64) (s : State) : Host.Outcome State Fault Refusal := .next (s.canBackoffEnd ctl.val b.val)

/-! ### INIT, integration, helm and protocol exception (R532, R534, R538) -/

/-- The settings that allow INIT to be left (R538), with the FDOE being written. -/
def State.canTiming (s : State) (n : Nat) (fdoe : Bool) : Bool :=
  let nb := s.rg (canReg n 8)
  let db := s.rg (canReg n 0xC)
  let tseg2n := bits nb 22 16 + 1
  let tseg2d := bits db 19 16 + 1
  80 ≤ (bits nb 7 0 + 1) * (1 + (bits nb 15 8 + 1) + tseg2n) && 10 ≤ (bits db 4 0 + 1) * (1 + (bits db 12 8 + 1) + tseg2d) &&
    bits nb 30 24 + 1 ≤ tseg2n && bits db 27 24 + 1 ≤ tseg2d && (!s.flag (canReg n 0x10) 0 || (fdoe && bits db 4 0 + 1 ≤ 2))

/-- CANn_STB (R533): high only in edge-wake sleep with STB_SLEEP. -/
def State.canStb (s : State) (n : Nat) : State :=
  s.emit (.pin 14 n (b2n (s.canAct n == 5 && !s.flag (canStat n) 23 && s.flag (canReg n 0) 7)))

/-- A value written to CAN_CTL (Table 15.3, R538): a change of LBACK outside INIT discards the write; leaving INIT needs
valid settings; INIT takes effect at the end of the frame in progress. -/
def State.canCtlWrite (s : State) (n : Nat) (v : Word) : State :=
  let off := canReg n 0
  let v := v &&& 0xFFFF01FF
  let was := s.canInit n
  if !was && (bit v 8 != s.flag off 8) then s
  else
    let (ct, ovr) := if bits v 31 16 = 0 then (s.fld off 31 16, true) else (bits v 31 16, false)
    let v := putBits v 31 16 ct
    let s := if ovr then s.setFlag (canFlags n) 0 else s
    if was && !bit v 0 then
      if s.canTiming n (bit v 1) then
        let s := s.setRg off v
        let s := s.putFlag (canStat n) 5 (s.canMonWant n)
        let rcv := s.canEst n == 2 && (s.flag off 4 || (s.canC n).recover.isSome)
        if s.canAct n = 0 then s.setCanAct n (if rcv then 6 else if s.canEst n = 2 then 2 else 1) else s
      else (s.setRg off (putBits v 0 0 1)).canCfgErr n
    else if !was && bit v 0 then
      let s := s.setRg off v
      let s := s.canDropSleep n
      if s.canAct n = 3 || s.canAct n = 4 then s
      else ((s.setCanAct n 0).clrFlag (canStat n) 5).canStb n
    else
      let s := s.setRg off v
      if was then s
      else (s.putFlag (canStat n) 5 (s.flag off 3 || s.flag (canStat n) 5 && !s.holder)).canKick n

/-- CAN_INIT_LEAVE: the word written to CAN_CTL; its bit 0 is 0. -/
def execCanInitLeave (ctl : Fin 4) (value : Word) (s : State) : Host.Outcome State Fault Refusal :=
  .next (if s.powered 6 then s.canCtlWrite ctl.val (putBits value 0 0 0) else s)

/-- CAN_INTEGRATION_DONE (R538): 11 consecutive recessive bits. -/
def State.canIntegrated (s : State) (n : Nat) : State := if s.canAct n = 1 then (s.setCanAct n 2).canKick n else s

def execCanIntegrationDone (ctl : Fin 4) (s : State) : Host.Outcome State Fault Refusal := .next (s.canIntegrated ctl.val)

/-- CAN_HELM_MODE_SWITCH (R534): the first bus idle after the helm was taken or given up. -/
def State.canModeSwitch (s : State) (n : Nat) : State :=
  if s.canAct n = 0 then s else (s.putFlag (canStat n) 5 (s.canMonWant n)).canKick n

def execCanHelmModeSwitch (ctl : Fin 4) (s : State) : Host.Outcome State Fault Refusal := .next (s.canModeSwitch ctl.val)

/-- CAN_PROTOCOL_EXCEPTION (R532): with PXE the controller integrates; without it, an error frame. -/
def State.canException (s : State) (n : Nat) : State :=
  let a := s.canAct n
  if !(a == 2 || a == 3 || a == 4) || s.canEst n == 2 then s
  else if s.flag (canReg n 0) 5 then ((s.canFailed n 1).setFlag (canFlags n) 7).setCanAct n (if s.canInit n then 0 else 1)
  else (s.setCanAct n 3).canError n .rx

def execCanProtocolException (ctl : Fin 4) (s : State) : Host.Outcome State Fault Refusal := .next (s.canException ctl.val)

/-! ### Sleep and wake (R554 to R557) -/

/-- CAN_SLEEP (R554): OP0 [0] is the wake mode. -/
def State.canSleep (s : State) (src : Src) (d : Desc) : State :=
  let n := d.tgt
  if 4 ≤ n then s.complete src 0x62 d .badTarget
  else if !s.powered 6 then s.complete src 0x62 d .pdOff
  else if s.canAct n = 5 then s.complete src 0x62 d .ok
  else if s.canInit n || s.canAct n = 6 || s.canEst n = 2 || (s.canC n).sleep.isSome then s.complete src 0x62 d .busy
  else s.setCanC n { s.canC n with sleep := some (src, d, bit d.op0 0) }

def execCanSleep (src : Src) (d : Desc) (s : State) : Host.Outcome State Fault Refusal :=
  .next (s.cmd src 0x62 d fun s => s.soon src 0x62 d [] fun s => s.canSleep src d)

/-- CAN_SLEEP_ENTRY: the first bus idle after CAN_SLEEP. -/
def State.canAsleep (s : State) (n : Nat) : State :=
  match (s.canC n).sleep with
  | some (src, d, mode) =>
    if s.canAct n ≠ 2 then s
    else
      let s := s.setCanC n { s.canC n with sleep := none }
      (((s.setCanAct n 5).putFlag (canStat n) 23 mode).canStb n).complete src 0x62 d .ok
  | none => s

def execCanSleepEntry (ctl : Fin 4) (s : State) : Host.Outcome State Fault Refusal := .next (s.canAsleep ctl.val)

/-- R557: WAKE, event 178 + 4n, integration. -/
def State.canWake (s : State) (n : Nat) : State :=
  (((s.setFlag (canFlags n) 6).setCanAct n 1).canStb n).raise (178 + 4 * n) 0

/-- CAN_EDGE_WAKE (R555): CANn_RX dominant for WFILT. -/
def execCanEdgeWake (ctl : Fin 4) (s : State) : Host.Outcome State Fault Refusal :=
  .next (if s.canAct ctl.val = 5 && !s.flag (canStat ctl.val) 23 then s.canWake ctl.val else s)

/-- The wake conditions of R556; bytes a frame does not carry compare as 0. -/
def State.canWakes (s : State) (n : Nat) (f : CanBits) : Bool :=
  let id := (s.rg (canReg n 0x30)).toNat
  let m := (s.rg (canReg n 0x34)).toNat
  let dat := leAt (if f.rtr then [] else f.data.take f.len.val) 0 8
  let pat := op64 (s.rg (canReg n 0x38)) (s.rg (canReg n 0x3C))
  let msk := op64 (s.rg (canReg n 0x40)) (s.rg (canReg n 0x44))
  field id 29 29 == bits f.idw 29 29 && (id ^^^ f.idw.toNat) &&& m % 2 ^ 29 == 0 && s.fld (canReg n 0x48) 11 8 ≤ f.len.val &&
    (dat ^^^ pat) &&& msk == 0 && (!bit f.idw 30 || s.flag (canReg n 0) 1)

/-- CAN_WAKE_FRAME (R556, R557). -/
def State.canWakeFrame (s : State) (n : Nat) (f : CanBits) : State :=
  if s.canAct n = 5 && s.flag (canStat n) 23 && s.canWakes n f then (s.canWake n).canStore n (frameOf f true) else s

def execCanWakeFrame (ctl : Fin 4) (f : CanBits) (s : State) : Host.Outcome State Fault Refusal := .next (s.canWakeFrame ctl.val f)

/-! ### Register accesses -/

/-- PD_LOCAL goes off or is reset: held frames and waiting commands complete PD_OFF (R549). -/
def State.canFlush (s : State) : State :=
  [0, 1, 2, 3].foldl (fun s n =>
    let s := (s.canC n).bufs.foldl (fun (s : State) e => s.canEnd n e.1 .pdOff 0 0) s
    let c := s.canC n
    let s := s.setCanC n { c with sleep := none, recover := none }
    let s := match c.sleep with | some (src, d, _) => s.complete src 0x62 d .pdOff | none => s
    match c.recover with | some (src, d) => s.complete src 0x61 d .pdOff | none => s) s

/-- A write to CAN_MB_CFG of an enabled buffer, of the value v (R540): only clearing EN is accepted, for a receive buffer or an
empty transmit buffer. Answers whether the write stands. -/
def State.canMbCfgOk (s : State) (n b : Nat) (v : Word) : Bool :=
  let old := s.rg (mbCfg n b)
  !bit old 0 || v == old || (v == putBits old 0 0 0 && (!bit old 1 || (s.canB n b).tx.isNone))

/-- Frames of a buffer that is no longer enabled are discarded (R540). -/
def State.canMbCfgSet (s : State) (n b : Nat) (v : Word) : State :=
  let s := s.setRg (mbCfg n b) v
  if bit v 0 then s.canDrain n 4
  else s.setCanB n b { s.canB n b with front := none, shadow := none, locked := false }

/-- Word k (bytes 4k to 4k + 3) of buffer b's window (R544). -/
def State.canWindow (s : State) (n b k : Nat) : Nat :=
  let x := s.canB n b
  let f : Option CanFrame := match x.front, x.tx with
    | some f, _ => some f
    | none, some t => some { idw := t.idw, len := t.len, rtr := t.rtr, data := t.data }
    | none, none => none
  match f with
  | some f => leAt (canRecord b 0 f) (4 * k) 4
  | none => 0

end Sys2Proof.Machine
end

