-- ==== Sys2Proof/Machine/Pilot.lean ====
section
/-! DEFINITION. The pilot's planning procedure (R183 to R192), as one function of its inputs. Instants are ps. -/

namespace Sys2Proof.Machine

open Sys2Proof

/-- A member node as the pilot sees it (Table 5.1). Delay in 2^−4 ns. -/
structure PNode where
  addr : Nat
  nax : Nat
  ts : Nat
  ta : Nat
  d : Int
  tail : Bool
  deriving DecidableEq, Repr

/-- An enabled axis as the pilot sees it. -/
structure PAx where
  axis : Nat
  node : Nat
  slot : Nat
  isLocal : Bool
  div : Nat
  pinEn : Bool
  pin : Nat
  grp : Nat
  lmax : Nat
  mcyc : Nat
  learn : Nat
  deriving DecidableEq, Repr

/-- The inputs of a plan (R180). `upd` lists for each local axis the period of its PWM update points and the first one after a valley, ps. -/
structure PIn where
  rate : Nat
  nodes : List PNode
  axes : List PAx
  laneEn : Nat
  loadPct : Nat
  spare : List Nat
  /-- started LOG streams and the cycles between their records. -/
  streams : List (Nat × Nat)
  upd : List (Nat × Nat)
  /-- ADC cores of each local axis's channels (R331). -/
  cores : List (List Nat)
  /-- local axes LXn + 1 whose LXn is in STEPPER (R360). -/
  halves : List Nat
  act : Plan
  /-- arrival offset of a node's uplink copy, ns, by address: of a mirror plan (R571), or of the nodes that an isolation plan
reaches through the partner, 200 ns of CHAIN transfer each way (R577). -/
  shift : List (Nat × Int) := []
  deriving DecidableEq, Repr

/-- Rejection: code and object (Table 5.8). -/
abbrev Rej := Nat × Nat

/-! ### R183 -/

def PIn.nodeAt (i : PIn) (a : Nat) : Option PNode := i.nodes.find? (fun n => n.addr == a)
def PIn.branch (i : PIn) (b : Nat) : List PNode := i.nodes.filter (fun n => n.addr / 256 == b)
def PIn.spareOf (i : PIn) (b : Nat) : Nat := i.spare.getD b 0

/-- Second of two axes on one slot or one local axis. -/
def slotTwice : List PAx → Option Nat
  | [] => none
  | a :: r =>
    match r.find? (fun b => if a.isLocal then b.isLocal && a.slot == b.slot else !b.isLocal && a.node == b.node && a.slot == b.slot) with
    | some b => match slotTwice r with
      | some c => some (min b.axis c)
      | none => some b.axis
    | none => slotTwice r

def berthsNeeded (l : List PNode) : Nat := (l.map (fun n => if 4 < n.nax then 2 else 1)).foldl (· + ·) 0

def validate (i : PIn) : Option Rej :=
  let missing := i.axes.find? (fun a => !a.isLocal && (match i.nodeAt a.node with | some n => n.nax ≤ a.slot | none => true))
  let eighths := (i.axes.map (fun a => 8 / a.div)).foldl (· + ·) 0
  let badGrp := (List.range 32).find? (fun g => g != 0 &&
    (match i.axes.filter (fun a => a.grp == g) with | [] => false | a :: r => r.any (fun b => b.div != a.div)))
  let badBr := (List.range 16).find? (fun b => berthCount i.rate < berthsNeeded (i.branch b) + i.spareOf b)
  match missing with
  | some a => some (1, a.axis)
  | none => match (slotTwice i.axes).orElse (fun _ => (i.axes.find? (fun a => a.isLocal && i.halves.contains a.slot)).map (fun a => a.axis)) with
    | some a => some (2, a)
    | none =>
      if 8192000 * 8 * tCycle i.rate < eighths * 1000000000 then some (4, 0)
      else match badGrp with
        | some g => some (5, g)
        | none => match badBr with
          | some b => some (3, b)
          | none => none

/-! ### R184: uplink berths -/

/-- `last`: the latest berth given on each branch. -/
structure UpAcc where
  used : List (Nat × Nat)
  last : List (Nat × Nat)
  load : List Nat
  out : List (Nat × Nat × Bool)
  deriving DecidableEq, Repr

/-- Smallest load, earliest on a tie. -/
def leastLoaded (load : List Nat) (c : List Nat) : Option Nat :=
  c.foldl (fun best k => match best with
    | none => some k
    | some b => if load.getD k 0 < load.getD b 0 then some k else some b) none

/-- One frame of a node takes its uplink berth. -/
def takeUp (bc cap : Nat) (a : UpAcc) (addr nax : Nat) (second : Bool) : UpAcc :=
  let b := addr / 256
  let free := (List.range bc).filter (fun k => !a.used.contains (b, k))
  let lastK := (a.last.find? (fun x => x.1 == b)).map (fun x => x.2)
  let foll := free.filter (fun k => match lastK with | some l => l < k | none => true)
  let pick := match foll.find? (fun k => a.load.getD k 0 + nax ≤ cap) with
    | some k => some k
    | none => match leastLoaded a.load foll with
      | some k => some k
      | none => leastLoaded a.load free
  match pick with
  | none => a
  | some k => { used := (b, k) :: a.used, last := (b, max k (lastK.getD 0)) :: a.last.filter (fun x => x.1 != b),
                load := a.load.zipIdx.map (fun x => if x.2 = k then x.1 + nax else x.1), out := a.out ++ [(addr, k, second)] }

/-- Uplink berths of all nodes: (address, berth, second frame). -/
def uplinks (i : PIn) : List (Nat × Nat × Bool) :=
  let bc := berthCount i.rate
  let tot := (i.nodes.map (fun n => n.nax)).foldl (· + ·) 0
  let s := (List.range 16).foldl (fun m b => max m (i.spareOf b)) 0
  let room := bc - s
  let cap := if room = 0 then tot else (tot + room - 1) / room
  let order := sortBy (fun (x y : PNode) => decide (y.d < x.d ∨ (x.d = y.d ∧ x.addr < y.addr))) i.nodes
  (order.foldl (fun a n =>
    let a := takeUp bc cap a n.addr (min 4 n.nax) false
    if 4 < n.nax then takeUp bc cap a n.addr (n.nax - 4) true else a)
    { used := [], last := [], load := List.replicate bc 0, out := [] }).out

def upOf (u : List (Nat × Nat × Bool)) (addr : Nat) (second : Bool) : Nat :=
  match u.find? (fun x => x.1 == addr && x.2.2 == second) with
  | some x => x.2.1
  | none => 255

/-! ### R186, R187: lanes and phases -/

/-- Working state of the lane step: lane cycles by (lane × 8 + pattern), ends by the same key, group phases. -/
structure LaneAcc where
  load : List Nat
  ends : List Nat
  phases : List (Nat × Nat)
  out : List PlanAxis
  rej : Option Rej
  deriving DecidableEq, Repr

/-- Patterns in which a pass of rate 1/div and phase φ runs. -/
def patterns (div ph : Nat) : List Nat := (List.range 8).filter (fun c => c % div == ph)

/-- Heaviest pattern of a lane after adding a pass. -/
def heaviest (load : List Nat) (lane mcyc div ph : Nat) : Nat :=
  (List.range 8).foldl (fun m c => max m (load.getD (lane * 8 + c) 0 + (if c % div = ph then mcyc else 0))) 0

/-- Phase of a pass on a lane: the group's, or the one of smallest heaviest pattern, the lowest on a tie. -/
def phaseOn (a : LaneAcc) (x : PAx) (lane : Nat) : Nat :=
  match (if x.grp = 0 then none else a.phases.find? (fun p => p.1 == x.grp)) with
  | some p => p.2
  | none => (List.range x.div).foldl (fun b p =>
      if heaviest a.load lane x.mcyc x.div p < heaviest a.load lane x.mcyc x.div b then p else b) 0

/-- Lane-cycle limit of one network cycle. -/
def loadLimit (rate pct : Nat) : Nat := pct * (tCycle rate * 2 / 5) / 100

/-- R186 and R210: the lane's enable, the pin, at most 60 axes, and LOAD_PCT in every pattern. -/
def permitted (i : PIn) (a : LaneAcc) (x : PAx) (lane : Nat) : Bool :=
  field i.laneEn lane lane == 1 && (!x.pinEn || x.pin == lane) && decide ((a.out.filter (fun p => p.lane == lane)).length < 60) &&
    decide (heaviest a.load lane x.mcyc x.div (phaseOn a x lane) ≤ loadLimit i.rate i.loadPct)

/-- Instant before which a moved axis may not start (R186), ps. -/
def moveBound (i : PIn) (axis lane : Nat) : Nat :=
  match i.act.axes.find? (fun p => p.axis == axis) with
  | some p => if p.lane = lane then 0 else p.stop + 64000 - tCycle i.act.rate * 1000
  | none => 0

/-- A pass put on a lane from a start instant on. -/
def putPass (a : LaneAcc) (x : PAx) (lane start : Nat) (trig : Nat) : LaneAcc :=
  let ph := phaseOn a x lane
  let stop := start + x.mcyc * 2500
  let upd (l : List Nat) (f : Nat → Nat) : List Nat :=
    l.zipIdx.map (fun e => if e.2 / 8 = lane && (patterns x.div ph).contains (e.2 % 8) then f e.1 else e.1)
  { a with load := upd a.load (fun v => v + x.mcyc), ends := upd a.ends (fun _ => stop),
           phases := if x.grp = 0 || a.phases.any (fun p => p.1 == x.grp) then a.phases else a.phases ++ [(x.grp, ph)],
           out := a.out ++ [{ axis := x.axis, lane := lane, start := start, stop := stop, div := x.div, phase := ph,
                              isLocal := x.isLocal, node := x.node, nslot := x.slot, mcyc := x.mcyc, grp := x.grp,
                              learnSize := x.learn, trig := trig }] }

/-- Planned start of a pass on a lane. -/
def passStart (i : PIn) (w : Tab Nat) (a : LaneAcc) (x : PAx) (lane r : Nat) : Nat :=
  let e := (patterns x.div (phaseOn a x lane)).foldl (fun m c => max m (a.ends.getD (lane * 8 + c) 0)) 0
  max (max r e) (max (Tab.get 0 w lane) (moveBound i x.axis lane))

/-- One remote pass placed (R186). -/
def placePass (i : PIn) (w : Tab Nat) (a : LaneAcc) (xr : PAx × Nat) : LaneAcc :=
  if a.rej.isSome then a
  else
    let x := xr.1
    let lanes := (List.range 16).filter (fun l => permitted i a x l)
    match lanes.foldl (fun best l => match best with
        | none => some l
        | some b => if passStart i w a x l xr.2 < passStart i w a x b xr.2 then some l else some b) (none : Option Nat) with
    | none => { a with rej := some (6, x.axis) }
    | some l => putPass a x l (passStart i w a x l xr.2) 0

/-- Earliest gap of a length on a lane at or after an instant, given its busy intervals in rising order. -/
def findGap (len : Nat) : List (Nat × Nat) → Nat → Nat
  | [], t => t
  | (s, e) :: r, t => if t + len ≤ s then t else findGap len r (max t e)

/-- The earliest gap whose trigger, 0.248 µs before it, finds the axis's ADC cores free (R331). -/
def coreGap (len : Nat) (busy : List (Nat × Nat)) (trigs : List Nat) : Nat → Nat → Nat
  | 0, from_ => findGap len busy from_
  | f + 1, from_ =>
    let g := findGap len busy from_
    match trigs.find? (fun t => decide (g - 248000 < t + 200000) && decide (t < g - 248000 + 200000)) with
    | some t => coreGap len busy trigs f (t + 448000)
    | none => g

/-- One local axis placed (R188): trigger 0.248 µs before the gap start. -/
def placeLocal (i : PIn) (w : Tab Nat) (a : LaneAcc) (x : PAx) : LaneAcc :=
  if a.rej.isSome then a
  else
    let gap (l : Nat) : Nat :=
      let ph := phaseOn a x l
      let meets (p : PlanAxis) : Bool := (patterns p.div p.phase).any (fun c => (patterns x.div ph).contains c)
      let busy := (a.out.filter (fun p => p.lane == l && meets p)).map (fun p => (p.start, p.stop))
      let mine := i.cores.getD x.slot []
      let trigs := (a.out.filter (fun p => p.isLocal && meets p && (i.cores.getD p.nslot []).any (fun c => mine.contains c))).map (fun p => p.trig)
      coreGap (x.mcyc * 2500) (sortBy (fun (u v : Nat × Nat) => decide (u.1 < v.1)) busy) trigs 16
        (max 248000 (max (Tab.get 0 w l) (moveBound i x.axis l)))
    let lanes := (List.range 16).filter (fun l => permitted i a x l)
    match lanes.foldl (fun best l => match best with
        | none => some l
        | some b => if gap l < gap b then some l else some b) (none : Option Nat) with
    | none => { a with rej := some (6, x.axis) }
    | some l => putPass a x l (gap l) (gap l - 248000)

/-- Arrival R of a remote axis's record, ps (R186). -/
def arrivalPs (i : PIn) (u : List (Nat × Nat × Bool)) (x : PAx) : Nat :=
  let nax := match i.nodeAt x.node with | some n => n.nax | none => 1
  let second := decide (4 ≤ x.slot)
  let off : Int := match i.shift.find? (fun e => e.1 == x.node) with | some e => e.2 | none => 0
  (1000 * ((arrivalNs (upOf u x.node second) (if second then nax - 4 else min 4 nax) second : Nat) + off)).toNat

/-- Order of the lane step: arrival, place in the repair order (R190: the axis moved to the front last comes first), LMAX with 0
largest, branch, slot. -/
def laneOrder (i : PIn) (u : List (Nat × Nat × Bool)) (front : List Nat) : List (PAx × Nat) :=
  let lm (x : PAx) : Nat := if x.lmax = 0 then 0x10000 else x.lmax
  let fr (x : PAx) : Nat := front.idxOf x.axis
  let key (e : PAx × Nat) : List Nat := [e.2, fr e.1, lm e.1, e.1.node / 256, e.1.slot]
  sortBy (fun a b => decide (key a < key b)) ((i.axes.filter (fun x => !x.isLocal)).map (fun x => (x, arrivalPs i u x)))

def laneStep (i : PIn) (u : List (Nat × Nat × Bool)) (w : Tab Nat) (front : List Nat) : LaneAcc :=
  let a0 : LaneAcc := { load := List.replicate 128 0, ends := List.replicate 128 0, phases := [], out := [], rej := none }
  let a := (laneOrder i u front).foldl (placePass i w) a0
  (sortBy (fun (x y : PAx) => decide (x.slot < y.slot)) (i.axes.filter (fun x => x.isLocal))).foldl (placeLocal i w) a

/-! ### R189: downlink berths -/

structure DnAcc where
  used : List (Nat × Nat)
  out : List (Nat × Nat × Bool × Bool)
  rej : Option Rej
  deriving DecidableEq, Repr

/-- One downlink berth for a node frame whose passes end at E (ps): (address, berth, wake, second frame). -/
def takeDown (i : PIn) (a : DnAcc) (addr e : Nat) (second : Bool) : DnAcc :=
  if a.rej.isSome then a
  else
    let b := addr / 256
    let oldWake := ((i.act.nodes.filter (fun n => n.addr / 256 == b)).map (fun n =>
      (if n.dwake then [n.dnb] else []) ++ (if n.dwake2 then [n.dnb2] else []))).flatten
    let taken (k : Nat) : Bool := a.used.contains (b, k)
    let t := e + 128000 + (if i.shift.any (fun x => x.1 == addr) then 200000 else 0)
    match (List.range (berthCount i.rate)).find? (fun k => t ≤ 1000 * berthStart k && !taken k && !oldWake.contains k) with
    | some k => { a with used := (b, k) :: a.used, out := a.out ++ [(addr, k, false, second)] }
    | none => match [0, 1, 2].find? (fun k => t ≤ 1000 * (tCycle i.rate + berthStart k) && !taken k) with
      | some k => { a with used := (b, k) :: a.used, out := a.out ++ [(addr, k, true, second)] }
      | none => { a with rej := some (9, addr) }

/-- Arrival offset of a node's uplink copy, ns. -/
def PIn.delayOf (i : PIn) (addr : Nat) : Int :=
  match i.shift.find? (fun e => e.1 == addr) with | some e => e.2 | none => 0

/-- Planned end E of a node (R189), ps; `via`: what its uplink frame arrives later, ns. -/
def nodeEnd (via : Int) (u : List (Nat × Nat × Bool)) (ps : List PlanAxis) (n : PNode) : Nat :=
  match ps.filter (fun p => !p.isLocal && p.node == n.addr) with
  | [] => (1000 * ((arrivalNs (upOf u n.addr false) (min 4 n.nax) false : Nat) + via)).toNat
  | l => l.foldl (fun m p => max m p.stop) 0

def downlinks (i : PIn) (u : List (Nat × Nat × Bool)) (ps : List PlanAxis) : DnAcc :=
  let order := sortBy (fun (x y : Nat × PNode) => decide (x.1 < y.1 ∨ (x.1 = y.1 ∧ x.2.addr % 256 < y.2.addr % 256)))
    (i.nodes.map (fun n => (nodeEnd (i.delayOf n.addr) u ps n, n)))
  order.foldl (fun a e =>
    let a := takeDown i a e.2.addr e.1 false
    if 4 < e.2.nax then takeDown i a e.2.addr e.1 true else a) { used := [], out := [], rej := none }

/-! ### Latencies (R38, R41) -/

/-- Latency of a placed axis, ns. A local latency of half a nanosecond (an odd PER / 2) is cut: R41 names no rounding (DESIGN CHOICE,
assumption log 79). -/
def latencyOf (i : PIn) (u : List (Nat × Nat × Bool)) (dn : List (Nat × Nat × Bool × Bool)) (p : PlanAxis) : Nat :=
  if p.isLocal then
    let per := max 1 (i.upd.getD p.nslot (1, 0)).1
    let off := (i.upd.getD p.nslot (1, 0)).2
    let ready := p.stop + 24000 - p.trig
    (off + (ready - off + per - 1) / per * per) / 1000
  else match i.nodeAt p.node with
    | none => 0
    | some n =>
      let second := decide (4 ≤ p.nslot)
      let cnt := if second then n.nax - 4 else min 4 n.nax
      let pay := if second then 20 * cnt else 16 + 20 * cnt
      match dn.find? (fun x => x.1 == p.node && x.2.2.2 == second) with
      | none => 0
      | some x =>
        let D := berthStart x.2.1 + (if x.2.2.1 then tCycle i.rate else 0)
        (n.ts + divRnd (2 * n.d) 16 + (D : Int) - berthStart (upOf u p.node second) + (14 + pay) * 8 + n.ta).toNat

def lmaxOf (i : PIn) (axis : Nat) : Nat := match i.axes.find? (fun x => x.axis == axis) with | some x => x.lmax | none => 0

/-! ### R190: rounds -/

/-- End of a lane's last pass past the boundary, ps. -/
def wakeEnd (i : PIn) (ps : List PlanAxis) (lane : Nat) : Nat :=
  (ps.filter (fun p => p.lane == lane)).foldl (fun m p => max m p.stop) 0 - tCycle i.rate * 1000

/-- One round: placed axes with latencies, downlinks, and the first violation. -/
def roundOf (i : PIn) (u : List (Nat × Nat × Bool)) (w : Tab Nat) (front : List Nat) :
    Except Rej (List PlanAxis × List (Nat × Nat × Bool × Bool) × List Nat × List Nat) :=
  let a := laneStep i u w front
  match a.rej with
  | some r => .error r
  | none =>
    let dn := downlinks i u a.out
    match dn.rej with
    | some r => .error r
    | none =>
      let ps := a.out.map (fun p => { p with lat := latencyOf i u dn.out p })
      let lateLanes := (List.range 16).filter (fun l => Tab.get 0 w l < wakeEnd i ps l)
      let lateAxes := (ps.filter (fun p => lmaxOf i p.axis != 0 && lmaxOf i p.axis < p.lat)).map (fun p => p.axis)
      .ok (ps, dn.out, lateLanes, lateAxes)

def rounds (i : PIn) (u : List (Nat × Nat × Bool)) : Nat → Tab Nat → List Nat →
    Except Rej (List PlanAxis × List (Nat × Nat × Bool × Bool) × Tab Nat)
  | 0, _, _ => .error (8, 0)
  | f + 1, w, front =>
    match roundOf i u w front with
    | .error r => .error r
    | .ok (ps, dn, ll, la) =>
      if ll.isEmpty && la.isEmpty then .ok (ps, dn, w)
      else if f = 0 then
        match ll with
        | l :: _ => .error (8, l)
        | [] => .error (7, la.headD 0)
      else
        let w' := ll.foldl (fun t l => Tab.set 0 t l (wakeEnd i ps l)) w
        rounds i u f w' (la ++ front)

/-! ### R191: memory -/

/-- First-fit place of a table among occupied intervals. -/
def firstFit (size : Nat) (busy : List (Nat × Nat)) : Nat :=
  findGap size (sortBy (fun (u v : Nat × Nat) => decide (u.1 < v.1)) busy) 0

/-- Learning bins (R191): unchanged tables keep their place, the others first-fit in ascending axis order. -/
def placeLearn (i : PIn) (ps : List PlanAxis) : Except Rej (List PlanAxis) :=
  let keep (p : PlanAxis) : Option Nat := match i.act.axes.find? (fun q => q.axis == p.axis) with
    | some q => if q.learnSize = p.learnSize && p.learnSize != 0 then some q.learnBase else none
    | none => none
  let kept := ps.filterMap (fun p => (keep p).map (fun b => (b, b + p.learnSize)))
  let order := sortBy (fun (x y : PlanAxis) => decide (x.axis < y.axis)) ps
  let r := order.foldl (fun (st : List (Nat × Nat) × List (Nat × Nat) × Option Nat) p =>
      if p.learnSize = 0 then st
      else match keep p with
        | some b => (st.1, st.2.1 ++ [(p.axis, b)], st.2.2)
        | none =>
          let b := firstFit p.learnSize st.1
          if b + p.learnSize ≤ 131072 then ((b, b + p.learnSize) :: st.1, st.2.1 ++ [(p.axis, b)], st.2.2)
          else (st.1, st.2.1, match st.2.2 with | some x => some x | none => some p.axis))
    ((kept, [], none) : List (Nat × Nat) × List (Nat × Nat) × Option Nat)
  match r.2.2 with
  | some a => .error (10, a)
  | none => .ok (ps.map (fun p => { p with learnBase := match r.2.1.find? (fun x => x.1 == p.axis) with | some x => x.2 | none => 0 }))

/-- Acquisition pages (R191): two each, the rest in proportion to the record rates, remainders to the lowest streams. The rates
1/d are taken as whole numbers over their common denominator, so the proportions are exact. -/
def placePages (streams : List (Nat × Nat)) : Tab Nat :=
  let n := streams.length
  if n = 0 then []
  else
    let free := 64 - 2 * n
    let all := (streams.map (fun x => x.2)).foldl (· * ·) 1
    let tot := (streams.map (fun x => all / x.2)).foldl (· + ·) 0
    let share := streams.map (fun x => (x.1, 2 + free * (all / x.2) / tot))
    let given := (share.map (fun x => x.2)).foldl (· + ·) 0
    share.zipIdx.foldl (fun (t : Tab Nat) (x : (Nat × Nat) × Nat) => Tab.set 0 t x.1.1 (x.1.2 + (if x.2 < 64 - given then 1 else 0))) []

/-- Positions on the lanes: the order of the planned starts. -/
def lanePositions (ps : List PlanAxis) : List PlanAxis :=
  ps.map (fun p => { p with pos := (ps.filter (fun q => q.lane == p.lane && (q.start < p.start || (q.start == p.start && q.axis < p.axis)))).length })

/-- The plan of given inputs, or the rejection (R183 to R192). -/
def computePlan (i : PIn) (id : Nat) : Except Rej Plan :=
  match validate i with
  | some r => .error r
  | none =>
    let u := uplinks i
    match rounds i u 8 i.act.wake [] with
    | .error r => .error r
    | .ok (ps, dn, _) =>
      match placeLearn i (lanePositions ps) with
      | .error r => .error r
      | .ok ps =>
        let dnOf (a : Nat) (sec : Bool) : Nat × Bool := match dn.find? (fun x => x.1 == a && x.2.2.2 == sec) with
          | some x => (x.2.1, x.2.2.1)
          | none => (255, false)
        let nodes := i.nodes.map (fun n =>
          ({ addr := n.addr, upb := upOf u n.addr false, upb2 := upOf u n.addr true, dnb := (dnOf n.addr false).1,
             dwake := (dnOf n.addr false).2, dnb2 := (dnOf n.addr true).1, dwake2 := (dnOf n.addr true).2,
             sofs := divRnd (16 * berthStart (upOf u n.addr false) - n.d) 16 - n.ts, d := n.d, tail := n.tail } : PlanNode))
        .ok { id := id, rate := i.rate, axes := ps, nodes := nodes,
              wake := (List.range 16).foldl (fun t l => Tab.set 0 t l (wakeEnd i ps l)) [],
              pages := placePages i.streams, worst := ps.foldl (fun m p => max m p.lat) 0 }

/-! ### The mirror plan (R571) -/

/-- Downlink berth of a mirror plan: the earliest whose departure (ns) is at least 0.128 µs after E′ and 1.000 µs from
every departure placed on the branch, within the static segment of its cycle. -/
def mirrorBerth (i : PIn) (placed : List (Nat × Int)) (b : Nat) (e off : Int) : Option (Nat × Bool × Int) :=
  let T : Int := tCycle i.rate
  let td : Int := tDyn i.rate
  let ok (dep inCyc : Int) : Bool :=
    decide (e + 128 ≤ dep) && decide (500 ≤ inCyc) && decide (inCyc ≤ td) && !placed.any (fun p => p.1 == b && decide (absI (p.2 - dep) < 1000))
  match (List.range (berthCount i.rate)).find? (fun k => ok (berthStart k + off) (berthStart k + off)) with
  | some k => some (k, false, berthStart k + off)
  | none => match [0, 1, 2].find? (fun k => ok (T + berthStart k + off) (berthStart k + off)) with
    | some k => some (k, true, T + berthStart k + off)
    | none => none

/-- The mirror plan of the plan in force (R571), from the same inputs with the arrivals at the partner's port: nodes of
the given branches are served by the partner. -/
def mirrorPlan (i : PIn) (p : Plan) (closed : List Nat) (id : Nat) : Plan :=
  let u := (p.nodes.map (fun n => [(n.addr, n.upb, false)] ++ (if n.upb2 = 255 then [] else [(n.addr, n.upb2, true)]))).flatten
  let a := laneStep i u [] []
  let mine := p.nodes.filter (fun n => closed.contains (n.addr / 256))
  let order := sortBy (fun (x y : Nat × PlanNode) => decide (x.1 < y.1 ∨ (x.1 = y.1 ∧ x.2.addr % 256 < y.2.addr % 256)))
    (mine.map (fun n => (match i.nodeAt n.addr with | some pn => nodeEnd (i.delayOf n.addr) u a.out pn | none => 0, n)))
  let offOf (addr : Nat) : Int := match i.shift.find? (fun e => e.1 == addr) with | some e => -e.2 | none => 0
  let r := order.foldl (fun (st : List (Nat × Int) × List PlanNode) e =>
      match mirrorBerth i st.1 (e.2.addr / 256) (e.1 / 1000) (offOf e.2.addr) with
      | some k => (st.1 ++ [(e.2.addr / 256, k.2.2)], st.2 ++ [{ e.2 with dnb := k.1, dwake := k.2.1, tail := true }])
      | none => st) (([], []) : List (Nat × Int) × List PlanNode)
  { p with id := id, axes := lanePositions a.out, nodes := r.2,
           wake := (List.range 16).foldl (fun t l => Tab.set 0 t l (wakeEnd i a.out l)) [] }

end Sys2Proof.Machine
end

