-- ==== Sys2Proof/Machine/NetCmd.lean ====
section
/-! DEFINITION. Meanings of the network's commands and events (spec 03 and 04). -/

namespace Sys2Proof.Machine

open Sys2Proof

/-! ### Host commands on nodes -/

/-- A node that is a member; an isolated node counts as a member (R174). -/
def State.isMember (s : State) (addr : Nat) : Bool := (s.node addr).state == 2 || (s.node addr).state == 4

/-- Status for a node target: reserved position (R10), not a member. -/
def State.nodeStatus (s : State) (addr : Nat) : Option St :=
  if 0x1000 ≤ addr then some .badTarget
  else if reservedPos addr then some .reservedPosition
  else if !s.isMember addr then some .badTarget
  else none

def State.addOp (s : State) (o : NetOp) : State := s.setOps (s.net.ops ++ [o])

/-- The two resumption ways of R170: port stopped at its first node. -/
def State.resumePort (s : State) (addr : Nat) : State :=
  let p := s.portOf (addr / 256) (s.node addr).tail
  { s with net := { s.net with stopped := s.net.stopped.filter (fun x => !(x.1 == p && x.2 == addr % 256)) } }

/-- NET_BOOM (R174): queue the boom command; end a port isolation. -/
def State.netBoom (s : State) (src : Src) (d : Desc) : State :=
  let a := d.tgt
  match s.nodeStatus a with
  | some st => s.complete src 0x30 d st
  | none =>
    if 1 < d.op0.toNat then s.complete src 0x30 d .badOperand
    else
      let s := (s.queueBoom a (d.op0.toNat == 1) true).addOp { src := src, opc := 0x30, desc := d, addr := a }
      if d.op0.toNat = 0 then s.atBoundary src 0x30 { d with flags := 0 } else s

def execNetBoom (src : Src) (d : Desc) (s : State) : Host.Outcome State Fault Refusal :=
  .next (s.cmd src 0x30 d fun s => s.soon src 0x30 d [] fun s => s.netBoom src d)

/-- NET_NODE_QUERY (R178), of any node on record (Table 4.13). -/
def State.netQuery (s : State) (src : Src) (d : Desc) : State :=
  if 0x1000 ≤ d.tgt then s.complete src 0x31 d .badTarget
  else if reservedPos d.tgt then s.complete src 0x31 d .reservedPosition
  else if (s.node d.tgt).state = 0 then s.complete src 0x31 d .badTarget
  else (s.addOp { src := src, opc := 0x31, desc := d, addr := d.tgt, cyc0 := s.cycle, sent := true }).queueTo d.tgt 5 0x0C 0 []

def execNetNodeQuery (src : Src) (d : Desc) (s : State) : Host.Outcome State Fault Refusal :=
  .next (s.cmd src 0x31 d fun s => s.soon src 0x31 d [] fun s => s.netQuery src d)

/-- NET_NODE_RESET (R179): NODE_RESET in three consecutive cycles. -/
def State.netReset (s : State) (src : Src) (d : Desc) : State :=
  match s.nodeStatus d.tgt with
  | some st => s.complete src 0x32 d st
  | none => s.addOp { src := src, opc := 0x32, desc := d, addr := d.tgt, left := 3 }

def execNetNodeReset (src : Src) (d : Desc) (s : State) : Host.Outcome State Fault Refusal :=
  .next (s.cmd src 0x32 d fun s => s.soon src 0x32 d [] fun s => s.netReset src d)

/-- A worker transfer starts (R144). A branch broadcast names every member of the branch. It is busy while a node of it takes part
in another. The activation cycle in OP4 goes to the workers as it is: the spec does not say that R15's test of named cycles applies
to it, and the model does not test it (DESIGN CHOICE, assumption log 79). -/
def State.netTransfer (s : State) (src : Src) (opc : Nat) (d : Desc) (image : Option (List Byte)) : State :=
  let a := d.tgt
  let bcast := opc == 0x34 && a < 0x1000 && a % 256 == 0xFF
  let nodes := if bcast then (s.branchNodes (a / 256)).filterMap (fun e => if s.isMember e.1 then some e.1 else none) else []
  let st := if bcast then (if nodes.isEmpty then some St.badTarget else none) else s.nodeStatus a
  match st with
  | some st => s.complete src opc d st
  | none =>
    let who := if bcast then nodes else [a]
    if s.net.ops.any (fun o => (o.opc == 0x33 || o.opc == 0x34) && (o.addr == a || o.targets.any (fun x => who.contains x))) then s.complete src opc d .busy
    else if d.op2.toNat = 0 then s.complete src opc d .badOperand
    else match image with
      | none => s.complete src opc d .dmaFail
      | some l =>
        let o : NetOp := { src := src, opc := opc, desc := d, addr := a, data := slice l 0 (min d.op2.toNat l.length),
                           nodes := nodes }
        (s.addOp o).pumpOp a

def execNetWorkerParam (src : Src) (d : Desc) (image : Option (List Byte)) (s : State) : Host.Outcome State Fault Refusal :=
  .next (s.cmd src 0x33 d fun s => s.soonData src 0x33 d image fun s => s.netTransfer src 0x33 d image)

def execNetWorkerFw (src : Src) (d : Desc) (image : Option (List Byte)) (s : State) : Host.Outcome State Fault Refusal :=
  .next (s.cmd src 0x34 d fun s => s.soonData src 0x34 d image fun s => s.netTransfer src 0x34 d image)

/-- TUNNEL_TX fragments (R145): (index, last, pad, data). -/
def tunnelFrags : Nat → Nat → List Byte → List (Nat × Bool × Nat × List Byte)
  | 0, _, _ => []
  | f + 1, i, l =>
    if l.length ≤ 92 then [(i, true, (4 - l.length % 4) % 4, l)]
    else (i, false, 0, l.take 92) :: tunnelFrags f (i + 1) (l.drop 92)

/-- TUNNEL_TX (R145). -/
def State.tunnelTx (s : State) (src : Src) (d : Desc) (frame : Option (List Byte)) : State :=
  let a := d.tgt
  let n := d.op2.toNat
  match s.nodeStatus a with
  | some st => s.complete src 0xB0 d st
  | none =>
    if n < 64 || 1518 < n then s.complete src 0xB0 d .badOperand
    else match frame with
      | none => s.complete src 0xB0 d .dmaFail
      | some l =>
        let seq := Tab.get 0 s.net.tunnelSeq a
        let s := { s with net := { s.net with tunnelSeq := Tab.set 0 s.net.tunnelSeq a ((seq + 1) % 256) } }
        let s := (tunnelFrags 17 0 (slice l 0 n)).foldl (fun s fr =>
          s.queueDyn { cls := 7, addr := a, tail := (s.node a).tail,
                       body := dynBody 0x0B seq (fr.1 + (if fr.2.1 then 32 else 0) + 64 * fr.2.2.1)
                         (fr.2.2.2 ++ List.replicate fr.2.2.1 0) }) s
        s.complete src 0xB0 d .ok

def execTunnelTx (src : Src) (d : Desc) (frame : Option (List Byte)) (s : State) : Host.Outcome State Fault Refusal :=
  .next (s.cmd src 0xB0 d fun s => s.soonData src 0xB0 d frame fun s => s.tunnelTx src d frame)

/-! ### What the guardian and the ring see -/

/-- GUARDIAN_OVERRUN (R169): no end ordered set in time; the frame is cut, attributed to its SRC or the planned node. -/
def State.overrun (s : State) (p : Nat) (f : RxFrame) : State :=
  let s := s.tailsBefore f.t
  if !s.hears p f.bytes || (s.topo p = 3 && !s.holder) then s
  else
    let b := s.branchOf p
    let td : Int := tDyn s.rate
    let a := hSrc (hdrNum f.bytes)
    if f.t < td then
      let k := s.berthOf f.t
      let planned := s.plannedAt b k
      let s := s.refuseAt (if s.onPath p 0 a then some a else planned)
      s.cut p 3 k 0 (f.t - berthStart k) a planned false
    else
      let m := ((f.t - td) / 128).toNat
      let g := s.net.grants.find? (fun g => g.1 / 256 == b && decide (g.2.1 ≤ m + 1 ∧ m < g.2.1 + g.2.2.1))
      s.cut p 3 m 1 (f.t - (td + 128 * ((g.map (fun g => g.2.1)).getD m : Nat))) a (g.map (fun g => g.1)) false

/-- Head port of the ring that a port closes. -/
def State.ringHead (s : State) (p : Nat) : Nat := if s.topo p = 2 then s.pairOf p else p

/-- SAIL_RING_RETURN (R113): dropped; an own SAIL marks the ring head as seen in this cycle. -/
def State.sailReturn (s : State) (p : Nat) (f : RxFrame) : State :=
  if s.hears p f.bytes && (s.topo p = 2 || s.topo p = 3) && s.ownFrame p f && hType (hdrNum f.bytes) == 1 then
    { s with net := { s.net with ringNow := s.ringHead p :: s.net.ringNow.erase (s.ringHead p) } }
  else s

def execSailRingReturn (port : Fin 16) (f : RxFrame) (s : State) : Host.Outcome State Fault Refusal := .next (s.sailReturn port.val f)

/-- PORT_SYNC_CHANGE: the receiver gains or loses code-group synchronisation: LINK is UP when a valid frame came within the last
16 cycles (Table 3.7); a change raises the port's event (source 40 + p). `pins`: BPn_ABS_N, BPn_LOS and BPn_TXFLT as they stand. -/
def State.portSync (s : State) (p : Nat) (sync : Bool) (pins : Nat) : State :=
  let s := { s with net := { s.net with sfp := Tab.set 1 s.net.sfp p pins } }
  let now := if !sync then 0 else if Tab.get 16 s.net.linkAge p < 16 then 2 else 1
  if s.fld (pStat p) 1 0 = now then s else (s.setFld (pStat p) 1 0 now).raise (40 + p) 0

def execPortSyncChange (port : Fin 16) (sync : Bool) (pins : BitVec 3) (s : State) : Host.Outcome State Fault Refusal :=
  .next (s.portSync port.val sync pins.toNat)

/-! ### Timed events of the network -/

/-- AUTO_JOIN_BOOM_OPEN (R163). -/
def State.autoJoin (s : State) (a : Nat) : State :=
  let n := s.node a
  if s.flag (grd (a / 256)) 1 && 16 ≤ n.admitted && n.allOk && !n.autoOpened && n.state == 2 then
    (s.setNode a { n with autoOpened := true }).queueBoom a false false
  else s

def execAutoJoinBoomOpen (node : Fin 4096) (s : State) : Host.Outcome State Fault Refusal := .next (s.autoJoin node.val)

/-- NODE_ABSENT: a member without an admitted frame for 16 cycles is absent (R161); a NET_NODE_RESET whose node has
stopped completes OK (R179). -/
def State.nodeAbsent (s : State) (a : Nat) : State :=
  let n := s.node a
  if s.absent16 n then
    let s := if n.state = 2 then ((s.setNode a { n with state := 3 }).raise 57 a).countNodes (a / 256) else s
    match s.opOn 0x32 a with
    | some o => if o.left = 0 then s.endOp o .ok else s
    | none => s
  else s

def execNodeAbsent (node : Fin 4096) (s : State) : Host.Outcome State Fault Refusal := .next (s.nodeAbsent node.val)

/-- TUNNEL_REASSEMBLY_TIMEOUT (R146): every frame of the node that is 64 cycles old. -/
def State.tunnelTimeout (s : State) (a : Nat) : State :=
  (s.net.reasm.filter (fun e => e.1 / 256 == a && e.2.active && decide (64 ≤ (s.cycle - e.2.start).toNat))).foldl
    (fun (s : State) e => s.dropReasm e.1) s

def execTunnelReassemblyTimeout (node : Fin 4096) (s : State) : Host.Outcome State Fault Refusal := .next (s.tunnelTimeout node.val)

/-- TRANSFER_BLOCK_RESEND (R144): the oldest block without DATA_ACK for 16 cycles is resent; after 8 sends, TIMEOUT. -/
def State.blockResend (s : State) (a : Nat) : State :=
  match s.transferOf a with
  | none => s
  | some o =>
    match o.blocks.find? (fun b => decide (16 ≤ (s.cycle - b.2.2.1).toNat)) with
    | none => s
    | some b =>
      if 8 ≤ b.2.1 then s.endOp o .timeout
      else
        let act := decide (b.1 = o.data.length)
        let blk := (o.data.drop b.1).take 88
        let body := if act then leBytes 4 o.data.length ++ leBytes 4 (crc32 o.data).toNat ++ leBytes 4 o.desc.op4.toNat
          else leBytes 4 b.1 ++ blk ++ List.replicate ((4 - blk.length % 4) % 4) 0
        let msg := if act then 5 else if o.opc = 0x33 then 3 else 4
        let s := b.2.2.2.foldl (fun s n => s.queueTo n 6 msg (if act then 0 else blk.length) body) s
        s.updOp o { o with blocks := o.blocks.map (fun x => if x.1 = b.1 then (b.1, b.2.1 + 1, s.cycle, b.2.2.2) else x) }

def execTransferBlockResend (node : Fin 4096) (s : State) : Host.Outcome State Fault Refusal := .next (s.blockResend node.val)

/-- ECHO_SCHEDULE (R164): an echo request is queued to a member. T1 is set when it is sent; SEQ is a free value (assumption
log 2). -/
def State.echoSchedule (s : State) (a : Nat) : State :=
  let n := s.node a
  if n.state != 2 then s
  else
    let ring := s.topo (a / 256) == 1
    let via := if ring then n.echoNo % 2 == 1 else n.tail
    let s := s.setNode a { n with echoNo := (n.echoNo + 1) % 65536 }
    (s.queueDyn { cls := 3, addr := a, tail := via, body := leBytes 2 n.echoNo ++ leBytes 1 (Config.freeBelow 255 s.free) }).draw

def execEchoSchedule (node : Fin 4096) (s : State) : Host.Outcome State Fault Refusal := .next (s.echoSchedule node.val)

/-- NET_BOOM_TIMEOUT (R174): 8 cycles after the last repeat. -/
def State.boomTimeout (s : State) (a : Nat) : State :=
  match s.opOn 0x30 a with
  | some o => if o.sent && decide (2 + 8 < (s.cycle - o.cyc0).toNat) then s.endOp o .timeout else s
  | none => s

def execNetBoomTimeout (node : Fin 4096) (s : State) : Host.Outcome State Fault Refusal := .next (s.boomTimeout node.val)

/-- NODE_RESET_TIMEOUT (R179): the node still sends 64 cycles after the last NODE_RESET. -/
def State.resetTimeout (s : State) (a : Nat) : State :=
  match s.opOn 0x32 a with
  | some o =>
    if o.left = 0 && decide (64 ≤ (s.cycle - o.cyc0).toNat) then
      s.endOp o (if s.absent16 (s.node a) then .ok else .timeout)
    else s
  | none => s

def execNodeResetTimeout (node : Fin 4096) (s : State) : Host.Outcome State Fault Refusal := .next (s.resetTimeout node.val)

/-- NODE_QUERY_TIMEOUT (R178): the record alone is written. -/
def State.queryTimeout (s : State) (a : Nat) : State :=
  match s.opOn 0x31 a with
  | some o =>
    if decide (64 ≤ (s.cycle - o.cyc0).toNat) then
      (s.emit (.dma (op64 o.desc.op0 o.desc.op1) (s.nodeRecord a))).endOp o .timeout 64
    else s
  | none => s

def execNodeQueryTimeout (node : Fin 4096) (s : State) : Host.Outcome State Fault Refusal := .next (s.queryTimeout node.val)

/-! ### The SAIL frame -/

/-- BOOM field of a branch for the next cycle: the head of its queue, repeated in 3 cycles (R127). -/
def State.freezeBoom (s : State) (b : Nat) : State :=
  match Tab.get [] s.net.booms b with
  | [] => s
  | c :: r =>
    let word := c.addr + 4096 + (if c.close then 8192 else 0)
    let q := if c.left ≤ 1 then r else { c with left := c.left - 1 } :: r
    let ops := if c.left = 3 && c.cmd then
        match s.net.ops.find? (fun o => o.opc == 0x30 && o.addr == c.addr && !o.sent) with
        | some o => s.net.ops.map (fun x => if x = o then { o with sent := true, cyc0 := s.cycle + 1 } else x)
        | none => s.net.ops
      else s.net.ops
    { s with net := { s.net with booms := Tab.set [] s.net.booms b q, ops := ops,
                                 sail := { s.net.sail with boom := Tab.set 0 s.net.sail.boom b word } } }

/-- Plan bytes of the SAIL frame of a cycle (R126, R571): PLAN_ACT, PLAN_NEW, COMMIT_IN. -/
def State.sailPlan (s : State) (c : BitVec 32) : Nat × Nat × Nat :=
  let st := s.fld PILOT_STAT 18 16
  let newId := (s.pilot.new.map (fun p => p.id)).getD 0
  let mir := (s.helm.mirror.map (fun p => p.id)).getD 0
  if st = 4 then
    if c = s.pilot.commitAt then (newId, 0, 0)
    else
      let k := (s.pilot.commitAt - c).toNat
      (s.pilot.act.id, newId, if k ≤ 8 then k else 0)
  else if st = 3 then (s.pilot.act.id, if s.pilot.switched then mir else newId, 0)
  else (s.pilot.act.id, mir, 0)

/-- Network time the next SAIL frame carries: the boundary's time, a step included (R129). -/
def State.nextNtime (s : State) : Nat :=
  match s.tim.step with
  | some (1, k, _) => (s.bnd + s.tCyc + k * s.tCyc : Int).toNat
  | _ => s.bnd + s.tCyc

/-- Cycle length in force at the start of a cycle: the new plan's from the cycle of its COMMIT on (R126, R197). -/
def State.rateAt (s : State) (c : BitVec 32) : Nat :=
  match s.pilot.new with
  | some p => if s.fld PILOT_STAT 18 16 = 4 && c = s.pilot.commitAt then p.rate else s.rate
  | none => s.rate

/-- A descriptor as numbers, for the effect stream. -/
def descNats (d : Desc) : List Nat :=
  [d.flags.toNat, d.tgt, d.tag.toNat, d.op0.toNat, d.op1.toNat, d.op2.toNat, d.op3.toNat, d.op4.toNat, d.op5.toNat]

/-- Staged writes that take effect at the boundary of cycle c: CYC writes, and the PLAN values of a COMMIT there (R64, R67, R197). -/
def State.boundaryWrites (s : State) (c : BitVec 32) : List Staged :=
  let cy := if s.flag HOST_CTL 0 then [] else s.host.cyc.filter (fun x => x.defer == 0)
  let pl := if s.fld PILOT_STAT 18 16 = 4 && c = s.pilot.commitAt then s.host.planUsed else []
  cy.filter (fun x => !x.cmd) ++ pl ++ cy.filter (fun x => x.cmd)

/-- BOUNDARY_RECORD_SEND (R566, Table 16.2): SAIL content, cycle and NTIME, effect stream and missing-record bits. -/
def State.boundaryRecord (s : State) : State :=
  if s.holder && s.fld HELM_STAT 7 6 != 0 then
    let x := s.net.sail
    let ws := s.boundaryWrites x.cycle
    let cs := s.host.due.filter (fun e => e.cyc == x.cycle)
    let head := [x.cycle.toNat, x.ntime, x.planAct, x.planNew, x.commitIn, x.flags, x.soundAt]
    let pdu := (x.pduP ++ x.pduS).map (fun b => b.toNat)
    let wn := (ws.map (fun w => [w.off, w.mask.toNat, w.val.toNat])).flatten
    let cn := (cs.map (fun e => e.opc :: descNats e.desc)).flatten
    s.emit (.chain 1 (head ++ pdu ++ (ws.length :: wn) ++ (cs.length :: cn) ++ s.helm.missed))
  else s

/-- SAIL_FREEZE (R29, R125 to R128): the content of the next cycle's SAIL frame. -/
def State.sailFreeze (s : State) : State :=
  let s := s.serveSound
  let c := s.cycle + 1
  let pl := s.sailPlan c
  let site := s.flag TIME_STAT 6
  let snd := s.soundAt s.nextNtime
  let fl := b2n snd.isSome + (if s.isIC then 2 else 0) + (if site then 4 else 0) + 16 * s.rateAt c
  let sail : Sail := { cycle := c, ntime := s.nextNtime, planAct := pl.1, planNew := pl.2.1, commitIn := pl.2.2, flags := fl,
                       soundAt := snd.getD 0, boom := [],
                       pduP := if s.isIC then slice s.safe.mbxP 0 10 else List.replicate 10 0,
                       pduS := if s.isIC then slice s.safe.mbxS 0 10 else List.replicate 10 0 }
  let marker := s.fld PILOT_STAT 18 16 == 4 && 1 ≤ pl.2.2
  let s := { s with net := { s.net with sail := sail, frozen := true },
                    pilot := { s.pilot with markerSent := s.pilot.markerSent || marker } }
  ((List.range 16).foldl (fun s b => s.freezeBoom b) s).boundaryRecord

def execSailFreeze (s : State) : Host.Outcome State Fault Refusal := .next s.sailFreeze

/-- The 40 payload bytes of a branch's SAIL frame (Table 3.12). -/
def sailPayload (x : Sail) (b : Nat) : List Byte :=
  leBytes 4 x.cycle.toNat ++ leBytes 8 x.ntime ++ leBytes 1 x.planAct ++ leBytes 1 x.planNew ++ leBytes 1 x.commitIn ++
    leBytes 1 x.flags ++ leBytes 2 x.soundAt ++ leBytes 2 (Tab.get 0 x.boom b) ++ x.pduP ++ x.pduS

/-- SAIL frames leave on every enabled port at the boundary (R26, R105, R111); a ring tail carries its head's branch. -/
def State.sendSail (s : State) : State :=
  if s.flag TIME_STAT 1 then
    (List.range 16).foldl (fun s p =>
      if s.portEn p then
        let b := s.branchOf p
        let dirn := if s.topo p = 2 then 1 else 0
        let hdr := headerBytes 1 (b * 256) (b * 256 + 0xFF) 10 0 s.net.sail.cycle.toNat 0 dirn 0 s.mgrId
        s.sendFrame p (sailLag s.bnd) (frameBytes hdr (sailPayload s.net.sail b))
      else s) s
  else s

/-! ### Downlink berth frames -/

/-- The 20-byte record of a node slot: the axis's output image, or an OFF record (R131, R193). -/
def State.slotRecord (s : State) (axes : List PlanAxis) (i : Nat) : List Byte :=
  match axes.find? (fun a => a.nslot == i) with
  | some a => slice (Tab.get {} s.axes a.axis).outRec 0 20
  | none => List.replicate 20 0

/-- The grant of uplink minislots a node receives in this cycle (R136). -/
def State.grantOf (s : State) (addr : Nat) : Nat × Nat :=
  match s.net.grants.find? (fun g => g.1 == addr) with
  | some g => (g.2.1, g.2.2.1)
  | none => (0xFFFF, 0)

/-- VCHOP of a node: that of the lowest-numbered bus group of its axes, 0 without one (R370). -/
def State.nodeVchop (s : State) (addr : Nat) : Nat :=
  let gs := ((s.nodeAxes addr).map (fun p => p.grp)).filter (fun g => g != 0)
  match gs with
  | [] => 0
  | g :: r => s.fld (LANE_B + 0x1000 + r.foldl min g * 0x20) 31 16

/-- DOWNLINK_BERTH_SEND (R130, R131, Table 3.15): node block and one record per axis slot. TCORR and NCMD go once. In the
cycle of a COMMIT the old plan's wake berths carry the old cycle's results, and the new plan's carry nothing (R36). -/
def State.berthSend (s : State) (addr : Nat) (part : Bool) : State :=
  let s := s.useTails (fun _ g => hSrc (hdrNum g.bytes) != addr)
  let n := s.node addr
  let nax := nodeNax n
  let cnt := if part then nax - 4 else min 4 nax
  let old := if s.pilot.switched then (if part then n.oldWake2 else n.oldWake) else none
  let berth := match old with | some o => o.1 | none => if part then n.dnb2 else n.dnb
  let wake := old.isSome || (if part then n.dwake2 else n.dwake)
  let tail := match old with | some o => o.2 | none => n.tail
  let port := s.portOf (addr / 256) tail
  let early := n.state = 1 && isFuture n.start (if wake then s.cycle - 1 else s.cycle)
  let newWake := old.isNone && wake && s.pilot.switched
  if n.state = 0 || early || newWake || berth = 255 || cnt = 0 || s.net.stopped.any (fun x => x.1 == port) then s
  else
    let g := s.grantOf addr
    let tc := divRnd n.tcorr 1
    let blk := leBytes 4 (tc % 2 ^ 32).toNat ++ leBytes 2 (s.nodeVchop addr) ++ leBytes 2 n.ncmd ++ leBytes 2 g.1 ++ leBytes 2 g.2 ++ cartChunkOut n
    let axes := match old, s.pilot.old with
      | some _, some p => p.axes.filter (fun a => !a.isLocal && a.node == addr)
      | _, _ => s.nodeAxes addr
    let recs := ((List.range cnt).map (fun i => s.slotRecord axes (if part then 4 + i else i))).flatten
    let pl := if part then recs else blk ++ recs
    let cyc := if wake then s.cycle - 1 else s.cycle
    let hdr := headerBytes 3 (addr / 256 * 256) addr (pl.length / 4) cnt cyc.toNat berth (b2n tail) (b2n part) s.mgrId
    let n := if part then { n with oldWake2 := none } else { n with oldWake := none, tcorr := 0, ncmd := 0 }
    let s := s.setNode addr n
    s.sendFrame port (berthStart berth + berthLag s.bnd) (frameBytes hdr pl)

def execDownlinkBerthSend (node : Fin 4096) (part : Bool) (s : State) : Host.Outcome State Fault Refusal :=
  .next (s.berthSend node.val part)

/-! ### Dynamic segment -/

/-- Payload of a queued message; an echo request takes T1 from its start instant (R164). -/
def DynMsg.payload (m : DynMsg) (t1 : Nat) : List Byte :=
  if m.cls = 3 then dynBody 7 (leAt m.body 2 1) (leAt m.body 0 2) (leBytes 8 t1 ++ leBytes 4 0) else m.body

/-- Frames placed from a minislot on (R140): the rest of the queue, and (start ns, message) in order. 'Ends before the idle time
begins' is tested on the nominal start, without the code-group lag of up to 7 ns: the spec does not say (DESIGN CHOICE, assumption
log 79). -/
def placeDyn (td mlim lag : Nat) : List DynMsg → Nat → List (Nat × DynMsg) × List DynMsg
  | [], _ => ([], [])
  | m :: r, slot =>
    let len := (m.payload 0).length
    let stop := slot * 128 + (16 + len) * 8
    if stop ≤ mlim * 128 then
      let nxt := (stop + 104 + 127) / 128
      let q := placeDyn td mlim lag r nxt
      ((td + slot * 128 + lag, m) :: q.1, q.2)
    else ([], m :: r)

/-- Nodes that a message goes to: its addressee, or every member of the branch on its path. -/
def State.addressees (s : State) (m : DynMsg) : List Nat :=
  if m.addr % 256 = 0xFF then
    ((s.branchNodes (m.addr / 256)).filter (fun e => s.isMember e.1 && e.2.tail == m.tail)).map (fun e => e.1)
  else [m.addr]

/-- Answers to a sent request, by class of R139 (Table 3.18 gives the longest payload). -/
def State.expectAnswers (s : State) (m : DynMsg) : State :=
  let add (c n : Nat) : State := (s.addressees m).foldl (fun (s : State) a => s.expectFrom a c n) s
  match m.cls with
  | 4 => add 3 96
  | 5 => add 2 96
  | 6 => add 2 8
  | _ => s

/-- Order of the classes of R140: FW_ACTIVATE comes after every block of its class. -/
def DynMsg.rank (m : DynMsg) : Nat := 2 * m.cls + b2n (m.cls == 6 && leAt m.body 0 1 == 5)

/-- What a branch sends in its downlink dynamic segment (R140), by class; what is meant for a stopped port waits (R170). -/
def State.goesDown (s : State) (b : Nat) (m : DynMsg) : Bool :=
  m.addr / 256 == b && !s.net.stopped.any (fun x => x.1 == s.portOf b m.tail)

def State.dynMine (s : State) (b : Nat) : List DynMsg :=
  sortBy (fun (x y : DynMsg) => decide (x.rank < y.rank)) (s.net.dynQ.filter (s.goesDown b))

/-- First uplink minislot in which a node can answer a request that starts `x` ns into the dynamic segment (R141): 1.000 µs after
its end has arrived, d before the star sees the answer. -/
def answerSlot (n : Node) (x len : Nat) : Nat :=
  let d := max (nodeDelay n) (max n.dlyH n.dlyT)
  (x + (16 + len) * 8 + 1000 + (2 * divRnd d 16).toNat + 127) / 128

/-- An echo request leaves: on its way from now; its answer has the grant of this cycle where that comes late enough (R141),
else one is owed. -/
def State.echoSent (s : State) (m : DynMsg) (x t1 : Nat) : State :=
  let a := m.addr
  let ready := answerSlot (s.node a) x 16
  let pre := s.net.echoPre.contains a && s.net.grants.any (fun g => g.1 == a && decide (ready ≤ g.2.1))
  let e : Echo := { no := leAt m.body 0 2, t1 := (t1 : Int) * 65536, tail := m.tail, granted := if pre then some s.cycle else none }
  let s := s.updNode a (fun n => { n with echoOut := n.echoOut ++ [e] })
  if pre then { s with net := { s.net with echoPre := s.net.echoPre.erase a } } else s.expectFrom a 1 28

/-- DYN_SEGMENT_DOWNLINK (R140): the branch's queue by class, on minislot boundaries, until the idle time. What is meant for a
stopped port waits (R170). -/
def State.dynSend (s : State) (b : Nat) : State :=
  let mine := s.dynMine b
  let others := s.net.dynQ.filter (fun m => !s.goesDown b m)
  if !s.flag TIME_STAT 1 then s
  else
    let q := placeDyn (tDyn s.rate) (minislots s.rate) (berthLag s.bnd) mine 0
    let s := { s with net := { s.net with dynQ := others ++ q.2 } }
    q.1.foldl (fun s x =>
      let m := x.2
      let t1 := s.bnd + x.1
      let pl := m.payload t1
      let hdr := headerBytes 9 (b * 256) m.addr (pl.length / 4) 0 s.cycle.toNat 0 (b2n m.tail) 0 s.mgrId
      let s := s.sendFrame (s.portOf b m.tail) x.1 (frameBytes hdr pl)
      if m.cls = 3 then s.echoSent m (x.1 - tDyn s.rate) t1 else s.expectAnswers m) s

def execDynSegmentDownlink (branch : Fin 16) (s : State) : Host.Outcome State Fault Refusal := .next (s.dynSend branch.val)

/-- Minislots for k frames of given payloads (R138). -/
def grantLen (payloads : List Nat) : Nat :=
  ((payloads.map (fun p => (16 + p) * 8)).foldl (· + ·) 0 + (payloads.length - 1) * 104 + 72 + 127) / 128

/-- Fragments that fit a number of minislots: largest k ≤ want of full frames. -/
def fitFrags : Nat → Nat → Nat
  | 0, _ => 0
  | k + 1, room => if grantLen (List.replicate (k + 1) 96) ≤ room then k + 1 else fitFrags k room

/-- Addresses of a class in round-robin order by position after the one served last (R139). -/
def roundRobin (l : List Nat) (last : Nat) : List Nat :=
  l.filter (fun a => last < a % 256) ++ l.filter (fun a => a % 256 ≤ last)

/-- Most of the answers a node owes, first ones first, that fit a number of minislots. -/
def fitAnswers (l : List Nat) : Nat → Nat → Nat
  | 0, _ => 0
  | k + 1, room => if grantLen (l.take (k + 1)) ≤ room then k + 1 else fitAnswers l k room

/-- A grant: class of R139 (0: tunnel data), answers it serves, holder, first minislot, length; `pre`: for an echo request that
leaves in the same cycle. -/
structure GrantRow where
  cls : Nat
  cnt : Nat
  addr : Nat
  start : Nat
  len : Nat
  pre : Bool := false
  deriving DecidableEq, Repr

/-- One request granted when it fits and its node holds no grant yet: the grants of a branch, and the next free minislot. -/
def grantOne (m : Nat) (acc : List GrantRow × Nat) (cls cnt addr len : Nat) : List GrantRow × Nat :=
  if acc.1.any (fun g => g.addr == addr) || cnt = 0 || m < acc.2 + len then acc
  else (acc.1 ++ [{ cls := cls, cnt := cnt, addr := addr, start := acc.2, len := len }], acc.2 + len)

/-- Echo requests queued for a cycle: the answer of each is granted in the same cycle, from the first minislot in which the node can
give it (R139, R141, Table 4.7). -/
def State.preGrants (s : State) (rate b : Nat) (acc : List GrantRow × Nat) : List GrantRow × Nat :=
  let m := minislots rate
  let q := (placeDyn 0 m 0 (s.dynMine b) 0).1.filter (fun x => x.2.cls == 3)
  q.foldl (fun acc x =>
    let a := x.2.addr
    let at_ := max acc.2 (answerSlot (s.node a) x.1 16)
    let len := grantLen [28]
    if acc.1.any (fun g => g.addr == a) || m < at_ + len then acc
    else (acc.1 ++ [{ cls := 1, cnt := 0, addr := a, start := at_, len := len, pre := true }], at_ + len)) acc

/-- Uplink grants of a cycle on a branch (R135 to R139). -/
def State.branchGrants (s : State) (rate b : Nat) : List GrantRow :=
  let m := minislots rate
  let ex := s.net.expect.filter (fun e => e.1 / 256 == b)
  let step (acc : List GrantRow × Nat) (c : Nat) : List GrantRow × Nat :=
    let who := sortBy (fun (x y : Nat) => decide (x < y)) (((ex.filter (fun e => e.2.1 == c)).map (fun e => e.1)).eraseDups)
    (roundRobin who (Tab.get 0 s.net.lastServed (b * 4 + c))).foldl (fun acc a =>
      let l := (ex.filter (fun e => e.1 == a && e.2.1 == c)).map (fun e => e.2.2)
      let k := fitAnswers l l.length (m - acc.2)
      grantOne m acc c k a (grantLen (l.take k))) acc
  let acc := [2, 3].foldl step (s.preGrants rate b (step ([], 4) 1))
  let dyn := ((s.branchNodes b).filter (fun e => e.2.state == 2 && 0 < e.2.nstat / 4096)).map (fun e => e.1)
  let acc := (roundRobin dyn (Tab.get 0 s.net.lastServed (b * 4))).foldl (fun acc a =>
      let q := (s.node a).nstat / 4096
      let k := fitFrags ((q * 64 + 91) / 92) (m - acc.2)
      grantOne m acc 0 k a (grantLen (List.replicate k 96))) acc
  acc.1

/-- The first answers of a class that a node owes are granted: they leave the list. -/
def spend (addr cls : Nat) : Nat → List (Nat × Nat × Nat) → List (Nat × Nat × Nat)
  | 0, l => l
  | _ + 1, [] => []
  | k + 1, e :: r => if e.1 = addr ∧ e.2.1 = cls then spend addr cls k r else e :: spend addr cls (k + 1) r

/-- The first echoes of a node that wait for a grant have it in a cycle. -/
def grantFirst (c : BitVec 32) : Nat → List Echo → List Echo
  | 0, l => l
  | _ + 1, [] => []
  | k + 1, e :: r => if e.granted.isNone then { e with granted := some c } :: grantFirst c k r else e :: grantFirst c (k + 1) r

def Node.grantEchoes (c : BitVec 32) (k : Nat) (n : Node) : Node := { n with echoOut := grantFirst c k n.echoOut }

/-- At a boundary the grants of the cycle are drawn up; the answers they serve are no longer owed. -/
def State.drawGrants (s : State) : State :=
  let gs := ((List.range 16).map (fun b => s.branchGrants (s.rateAt s.cycle) b)).flatten
  let ex := gs.foldl (fun l g => if g.cls = 0 then l else spend g.addr g.cls g.cnt l) s.net.expect
  let ls := gs.foldl (fun t g => Tab.set 0 t (g.addr / 256 * 4 + g.cls) (g.addr % 256)) s.net.lastServed
  let pre := (gs.filter (fun g => g.pre)).map (fun g => g.addr)
  let s := { s with net := { s.net with grants := gs.map (fun g => (g.addr, g.start, g.len, 0)), expect := ex, lastServed := ls,
                                        echoPre := pre } }
  (gs.filter (fun g => g.cls == 1 && !g.pre)).foldl (fun (s : State) g => s.updNode g.addr (Node.grantEchoes s.cycle g.cnt)) s

/-- At a boundary: BERTH_GRANTs and NODE_RESETs still to repeat are queued, transfers continue (R161, R179, R144). -/
def State.netRepeat (s : State) : State :=
  let s := s.net.nodes.foldl (fun s e =>
    if 0 < e.2.grantLeft then
      ((s.queueTo e.1 1 2 0 (s.grantBody e.1 e.2)).updNode e.1 (fun n => { n with grantLeft := n.grantLeft - 1 }))
    else s) s
  s.net.ops.foldl (fun s o =>
    if o.opc = 0x32 && 0 < o.left then
      (s.queueTo o.addr 2 0x0E 0 (leBytes 8 (s.node o.addr).uid)).updOp o { o with left := o.left - 1, cyc0 := s.cycle, sent := true }
    else if o.opc = 0x33 || o.opc = 0x34 then s.pumpOp o.addr
    else s) s

/-- At a boundary: RING_OK needs own SAIL frames in each of 16 cycles (Table 3.7); a link without a valid frame for 16
cycles is SYNC. -/
def State.portAges (s : State) (p : Nat) : State :=
  let seen := if s.net.ringNow.contains p then min 16 (Tab.get 0 s.net.ringSeen p + 1) else 0
  let ok := decide (seen = 16)
  let s := { s with net := { s.net with ringSeen := Tab.set 0 s.net.ringSeen p seen } }
  let s := if ok == s.flag (pStat p) 2 then s else (s.putFlag (pStat p) 2 ok).raise 59 p
  let age := min 16 (Tab.get 16 s.net.linkAge p + 1)
  let s := { s with net := { s.net with linkAge := Tab.set 16 s.net.linkAge p age } }
  if age = 16 && s.fld (pStat p) 1 0 = 2 then (s.setFld (pStat p) 1 0 1).raise (40 + p) 0 else s

/-- The network's part of a cycle boundary. -/
def State.netBoundary (s : State) : State :=
  let s := (List.range 16).foldl (fun s p => s.portAges p) s.judgeFirst
  let s := (s.net.nodes.map (fun e => e.1)).foldl (fun (s : State) a =>
    (s.updNode a (fun n => tailAverage s.cycle (devAverage s.cycle n))).echoMissed a) s
  let s := { s with net := { s.net with ringNow := [], upUsed := [], joinUsed := [], loopTx := [], frozen := false } }
  let s := s.sendSail
  let s := s.netRepeat
  s.drawGrants

end Sys2Proof.Machine
end

