-- ==== Sys2Proof/Machine/Time.lean ====
section
/-! DEFINITION. Network time: PPS steering (R149), TIME_SET (R150), PPS_OUT (R151) and the start of the network (R154). -/

namespace Sys2Proof.Machine

open Sys2Proof

/-- SAIL FLAGS.SITE and TIME_STAT.SITE: locked, or in holdover that has not expired (R149). -/
def State.siteFlag (s : State) : State := s.putFlag TIME_STAT 6 (s.flag TIME_STAT 3 || (s.flag TIME_STAT 4 && s.tim.holdOn))

/-- SITE_LOCK driven; its change raises event 33 or 34, a loss also PPS_LOST. -/
def State.siteLock (s : State) (on : Bool) : State :=
  if on == s.flag TIME_STAT 3 then s
  else if on then (s.setFlag TIME_STAT 3).raise 33 0
  else ((s.clrFlag TIME_STAT 3).setFlag TIME_FLAGS 1).raise 34 (2 * 0x10000)

/-- Distance of an instant from the nearest whole second, ns. -/
def fromSecond (t : Nat) : Int := let r : Int := t % 1000000000; if r < 500000000 then r else r - 1000000000

/-- PPS_IN_EDGE (R149, R150): the edge is stamped; the steering value is not stated by the spec (assumption log 2). -/
def State.ppsEdge (s : State) (t : Nat) : State :=
  let s := s.setFlag TIME_STAT 2
  if !s.flag TIME_CFG 0 then s
  else
    let s := (s.setRg (TIME_B + 0x18) (ofNat t)).setRg (TIME_B + 0x1C) (ofNat (t / 2 ^ 32))
    let s := s.clrFlag TIME_STAT 4
    let s := (s.setRg TIME_STEER (ofInt (clampI (-100000) 100000 (Config.freeInt s.free)))).draw
    let dev := absI (fromSecond t)
    let n := if dev ≤ 100 then min 4 (s.tim.inBand + 1) else 0
    let s := { s with tim := { s.tim with inBand := n, holdOn := false } }
    let s := if s.flag TIME_STAT 5 then s.siteLock false
      else if 1000 < dev then s.siteLock false
      else if n = 4 then s.siteLock true else s
    let s := match s.tim.setCmd with
      | some (_, d) =>
        if s.tim.step.isSome then s
        else
          let delta : Int := op64 d.op0 d.op1 - (t : Int)
          let k := divRnd delta s.tCyc
          let wait := if t ≤ s.bnd then 1 else 2
          { s with tim := { s.tim with step := some (wait, k, delta - k * s.tCyc) } }
      | none => s
    s.siteFlag

def execPpsInEdge (stamp : BitVec 64) (s : State) : Host.Outcome State Fault Refusal := .next (s.ppsEdge stamp.toNat)

/-- PPS_TIMEOUT (R149): no edge for 1.5 s. Holdover follows a lock, for HOLD_S seconds. -/
def State.ppsTimeout (s : State) : State :=
  if !s.flag TIME_STAT 2 then s
  else if !s.flag TIME_CFG 0 then s.clrFlag TIME_STAT 2
  else
    let hold := s.flag TIME_STAT 3 && 0 < s.fld TIME_CFG 15 8
    let s := (s.clrFlag TIME_STAT 2).siteLock false
    ({ s with tim := { s.tim with inBand := 0, holdOn := hold } }.setFlag TIME_STAT 4).siteFlag

def execPpsTimeout (s : State) : Host.Outcome State Fault Refusal := .next s.ppsTimeout

/-- HOLDOVER_EXPIRY (R149): HOLD_S seconds of holdover have passed. -/
def State.holdExpiry (s : State) : State :=
  if s.flag TIME_STAT 4 then { s with tim := { s.tim with holdOn := false } }.siteFlag else s

def execHoldoverExpiry (s : State) : Host.Outcome State Fault Refusal := .next s.holdExpiry

/-- TIME_SET (R150): waits for the next PPS_IN edge; a second one while one waits completes BUSY. -/
def State.timeSet (s : State) (src : Src) (d : Desc) : State :=
  if !s.flag TIME_CFG 0 then s.complete src 0x36 d .badOperand
  else if s.tim.setCmd.isSome then s.complete src 0x36 d .busy
  else { s with tim := { s.tim with setCmd := some (src, d) } }

def execTimeSet (src : Src) (d : Desc) (s : State) : Host.Outcome State Fault Refusal :=
  .next (s.cmd src 0x36 d fun s => s.soon src 0x36 d [] fun s => s.timeSet src d)

/-- At a boundary an armed step comes one boundary closer. -/
def State.stepWait (s : State) : State :=
  match s.tim.step with
  | some (w, k, r) => { s with tim := { s.tim with step := some (w - 1, k, r) } }
  | none => s

/-- TIME_STEP (R150, R129): network time steps by k cycles at the boundary the step was armed for; the remainder is slewed. -/
def State.timeStep (s : State) : State :=
  match s.tim.step with
  | some (0, k, r) =>
    let dt := k * s.tCyc
    let s := { s with bnd := (s.bnd + dt).toNat, ntime := (s.ntime + dt).toNat }
    let s := (s.setFlag TIME_FLAGS 2).raise 35 (4 * 0x10000)
    let s := if r = 0 then s else ((s.setFlag TIME_STAT 5).siteLock false).siteFlag
    let cmd := s.tim.setCmd
    let s := { s with tim := { s.tim with step := none, slew := r, setCmd := none, inBand := 0 } }
    match cmd with
    | some (src, d) => s.complete src 0x36 d .ok
    | none => s
  | _ => s

def execTimeStep (s : State) : Host.Outcome State Fault Refusal := .next s.timeStep

/-- TIME_SET_TIMEOUT (R150): no edge within 2 s. -/
def State.setTimeout (s : State) : State :=
  match s.tim.setCmd, s.tim.step with
  | some (src, d), none => { s with tim := { s.tim with setCmd := none } }.complete src 0x36 d .timeout
  | _, _ => s

def execTimeSetTimeout (s : State) : Host.Outcome State Fault Refusal := .next s.setTimeout

/-- SLEW_END (R150). -/
def execSlewEnd (s : State) : Host.Outcome State Fault Refusal :=
  .next (({ s with tim := { s.tim with slew := 0 } }).clrFlag TIME_STAT 5)

/-- PPS_OUT_PULSE (R151): driven only while PPSOUT_EN is 1. -/
def State.ppsOut (s : State) (high : Bool) : State :=
  let v := high && s.flag TIME_CFG 2
  if v == s.tim.ppsOut then s else { s with tim := { s.tim with ppsOut := v } }.emit (.pin 1 0 (b2n v))

def execPpsOutPulse (high : Bool) (s : State) : Host.Outcome State Fault Refusal := .next (s.ppsOut high)

/-- The conditions of R154. -/
def State.mayStart (s : State) : Bool :=
  s.mayOriginate && s.flag TIME_STAT 0 && (List.range 16).any (fun p => s.portEn p)

/-- NETWORK_START (R154, R14): cycle 0 begins; without site time network time is 0 there. -/
def State.networkStart (s : State) : State :=
  if s.mayStart && !s.flag TIME_STAT 1 then
    let t0 := if s.flag TIME_STAT 6 then (s.ntime + s.tCyc - 1) / s.tCyc * s.tCyc else 0
    let s := ({ s with cycle := 0 - 1 }).sailFreeze
    let s := { s with net := { s.net with sail := { s.net.sail with ntime := t0 } }, cycle := 0, bnd := t0, ntime := t0 }
    ((s.setFlag TIME_STAT 1).sendSail).drawGrants
  else s

def execNetworkStart (s : State) : Host.Outcome State Fault Refusal := .next s.networkStart

end Sys2Proof.Machine
end

