-- ==== Sys2Proof/Machine/PilotCmd.lean ====
section
/-! DEFINITION. Plan migration: PREPARE, COMMIT, ABORT, REPORT and the events of a migration (R193 to R204). -/

namespace Sys2Proof.Machine

open Sys2Proof

/-! ### PLAN-class values (R69) -/

/-- A PREPARE uses the PLAN values staged before it was taken, `m` of them (R69). -/
def State.usePlanValues (s : State) (m : Nat) : State :=
  { s with host := { s.host with planUsed := s.host.planUsed ++ s.host.plan.filter (fun x => x.seq < m),
                                 plan := s.host.plan.filter (fun x => m ≤ x.seq) } }

/-- A plan is discarded: its PLAN values return to staging, older than later writes (R69). -/
def State.returnPlanValues (s : State) : State :=
  { s with host := { s.host with plan := s.host.planUsed ++ s.host.plan, planUsed := [] } }

/-- The PLAN values of the committed plan become active (R197): register fields. -/
def State.activatePlanRegs (s : State) : State :=
  (s.host.planUsed.filter (fun x => x.off < 0x10000000)).foldl (fun s x => s.applyWrite x) s

/-- Per-axis parameters of class PLAN become active, in the axis's new slot (R211). -/
def State.activatePlanPars (s : State) : State :=
  let l := s.host.planUsed.filter (fun x => 0x10000000 ≤ x.off)
  let s := l.foldl (fun (s : State) (x : Staged) => s.axWrite ((x.off - 0x10000000) / 0x1000) (x.off % 0x1000) x.val) s
  { s with host := { s.host with planUsed := [] } }

/-! ### Inputs (Table 5.1) -/

abbrev axc0 (a : Nat) : Nat := PILOT_B + 0x800 + a * 8
abbrev axc1 (a : Nat) : Nat := PILOT_B + 0x804 + a * 8

/-- Lanes whose domain is powered and not being switched off (R599), as a bit mask. -/
def State.lanesPowered (s : State) : Nat :=
  let up (c : Nat) : Bool := s.powered c && !s.boot.pdJobs.any (fun j => j.2.tgt == c && j.2.op0.toNat == 0)
  (if up 0 then 0xFF else 0) + (if up 1 then 0xFF00 else 0)

/-- An isolation moves a node of a path to the other end (R170, R577). -/
def IsoReq.reaches (r : IsoReq) (addr : Nat) (tail : Bool) : Bool :=
  addr / 256 == r.addr / 256 && tail == r.tail && (if r.tail then addr < r.addr else r.addr < addr)

/-- The planning inputs as they stand now (R180), PLAN values, PORT_CFG.TOPO among them, as the PREPARE uses them: on a branch that is
to be a line no node is served through a tail; berths in force from the node table,
late-comers' among them. -/
def State.planInputs (s : State) : PIn :=
  let topo (b : Nat) : Nat := s.planFld (pCfg b) 2 1
  let mem := s.net.nodes.filterMap (fun e =>
    if e.2.state = 0 then none
    else
      let flip := s.pilot.isoRun.any (fun r => r.reaches e.1 e.2.tail)
      let tail := topo (e.1 / 256) != 0 && (if flip then !e.2.tail else e.2.tail)
      some ({ addr := e.1, nax := nodeNax e.2, ts := nodeTs e.2, ta := nodeTa e.2,
              d := nodeDelay { e.2 with tail := tail }, tail := tail } : PNode))
  let held := (s.net.held.filter (fun h => h.noBerth)).map (fun h =>
    ({ addr := h.branch * 256 + h.pos, nax := leAt h.join 4 1 % 16, ts := leAt h.join 6 2,
       ta := leAt h.join 8 2, d := h.dEst, tail := h.tail } : PNode))
  let nodes := mem.filter (fun n => !held.any (fun h => h.addr == n.addr)) ++ held
  let far := nodes.filter (fun n => topo (n.addr / 256) == 3 && n.tail)
  let berths := s.net.nodes.filterMap (fun e => if e.2.state = 0 then none else some
    ({ addr := e.1, dnb := e.2.dnb, dnb2 := e.2.dnb2, dwake := e.2.dwake, dwake2 := e.2.dwake2 } : PlanNode))
  let axes := (List.range 256).filterMap (fun a =>
    let c0 := s.planReg (axc0 a)
    let c1 := s.planReg (axc1 a)
    if bit c1 16 then
      some ({ axis := a, node := bits c1 11 0, slot := bits c1 14 12, isLocal := bit c1 15, div := 2 ^ bits c0 6 5, pinEn := bit c0 4,
              pin := bits c0 3 0, grp := bits c0 12 8, lmax := bits c0 31 16,
              mcyc := if bits c1 31 19 = 0 then 452 else bits c1 31 19, learn := s.learnSize a } : PAx)
    else none)
  { rate := s.planFld NET_CYC 2 0, nodes := nodes, axes := axes, laneEn := (s.planFld (PILOT_B + 0xC) 15 0) &&& s.lanesPowered,
    loadPct := s.planFld PILOT_CFG 6 0,
    spare := (List.range 16).map (fun b => s.planFld (PILOT_B + 0x10 + b / 8 * 4) (4 * (b % 8) + 3) (4 * (b % 8))),
    streams := s.streamRates, upd := s.updPeriods, cores := s.localCores, halves := s.stepperHalves,
    act := { s.pilot.act with nodes := berths }, shift := far.map (fun n => (n.addr, 200)) }

/-! ### State of the migration -/

def State.setPlanState (s : State) (v : Nat) : State := s.setFld PILOT_STAT 18 16 v

/-- STATE returns to IDLE: joins held under R201 are answered. -/
def State.planIdle (s : State) : State := (s.setPlanState 0).releaseHeld

/-- Next plan ID in turn, skipping the one in force (R195). -/
def nextPlanId (cur act : Nat) : Nat :=
  let n := if cur % 255 + 1 = act then cur % 255 % 255 + 2 else cur % 255 + 1
  if 255 < n then 1 else n

/-- The ID of the next plan: the one in turn, and never the one in force (R195). -/
def State.planId (s : State) : Nat :=
  if s.pilot.nextId = s.pilot.act.id then nextPlanId s.pilot.nextId s.pilot.act.id else s.pilot.nextId

/-- A preparation begins with the PLAN values staged before order number m (R194 stage 1). -/
def State.startPrepare (s : State) (cmd : Option (Src × Desc)) (m : Nat) : State :=
  let s := if s.planState = 3 then s.returnPlanValues else s
  let s := (s.dropBank.setFld PILOT_STAT 15 8 0).usePlanValues m
  ({ s with pilot := { s.pilot with new := none, job := none, rej := none, cmd := cmd, snapWait := true, stop := false, stopReq := [],
                                    switched := false, markerSent := false },
            helm := { s.helm with mirror := none } }.clrFlag HELM_STAT 11).setFld (HELM_B + 0x1C) 7 0 0 |>.setPlanState 1

/-- PLAN_PREPARE (R194, R195, R599), taken when `m` PLAN writes had been staged. -/
def State.planPrepare (s : State) (src : Src) (d : Desc) (m : Nat) : State :=
  let st := s.planState
  let laneSwitch := s.boot.pdJobs.any (fun j => j.2.tgt ≤ 1)
  if st = 1 || st = 2 || st = 4 || laneSwitch then s.complete src 0x20 d .busy
  else { s with pilot := { s.pilot with autoCommit := false } }.startPrepare (some (src, d)) m

def execPlanPrepare (src : Src) (d : Desc) (s : State) : Host.Outcome State Fault Refusal :=
  .next (s.cmd src 0x20 d fun s =>
    let m := s.host.planSeq
    if d.atCycle && isFuture d.op5 s.cycle then s.atBoundary src 0x20 d [] m else s.planPrepare src d m)

/-- The PREPARE in progress ends rejected (R192): flag, register, completion. -/
def State.rejectPlan (s : State) (code obj : Nat) : State :=
  let v := code + obj * 0x10000
  let s := (s.returnPlanValues.dropBank).setRg (PILOT_B + 0x18) (ofNat v)
  let s := s.pilotFlag 1
  let cmd := s.pilot.cmd
  let s := { s with pilot := { s.pilot with job := none, cmd := none, snapWait := false, rej := none, isoRun := [] } }
  let s := s.planIdle
  match cmd with
  | some (src, d) => s.complete src 0x20 d .planRejected v
  | none => s

/-- The snapshot boundary of a PREPARE: the inputs are taken, and with them the outcome is fixed (R180). -/
def State.planSnapshot (s : State) : State :=
  if s.pilot.snapWait && s.planState = 1 then
    let id := s.planId
    match computePlan s.planInputs id with
    | .ok p => { s with pilot := { s.pilot with job := some p, rej := none, snapWait := false,
                                                nextId := nextPlanId id s.pilot.act.id } }
    | .error r => { s with pilot := { s.pilot with job := none, rej := some r, snapWait := false,
                                                   nextId := nextPlanId id s.pilot.act.id } }
  else s

/-! Plan tables as words over CHAIN (Table 16.2). -/

def planAxisWords (p : PlanAxis) : List Nat :=
  [p.axis, p.lane, p.pos, p.start, p.stop, p.div, p.phase, b2n p.isLocal, p.node, p.nslot, p.mcyc, p.lat, p.grp, p.learnBase,
   p.learnSize, p.trig]
def planNodeWords (n : PlanNode) : List Nat :=
  [n.addr, n.upb, n.dnb, n.upb2, n.dnb2, b2n n.dwake, b2n n.dwake2, (n.sofs % 2 ^ 32).toNat, (n.d % 2 ^ 32).toNat, b2n n.tail]
def planWords (p : Plan) : List Nat :=
  [p.id, p.rate, p.axes.length, p.nodes.length, p.worst] ++ (List.range 16).map (fun l => Tab.get 0 p.wake l) ++
    (List.range 8).map (fun n => Tab.get 0 p.pages n) ++ (p.axes.map planAxisWords).flatten ++ (p.nodes.map planNodeWords).flatten

def parseAxes : Nat → List Nat → List PlanAxis
  | 0, _ => []
  | n + 1, l =>
    { axis := l.getD 0 0, lane := l.getD 1 0, pos := l.getD 2 0, start := l.getD 3 0, stop := l.getD 4 0, div := l.getD 5 1,
      phase := l.getD 6 0, isLocal := l.getD 7 0 == 1, node := l.getD 8 0, nslot := l.getD 9 0, mcyc := l.getD 10 0,
      lat := l.getD 11 0, grp := l.getD 12 0, learnBase := l.getD 13 0, learnSize := l.getD 14 0, trig := l.getD 15 0 } ::
      parseAxes n (l.drop 16)
def parseNodes : Nat → List Nat → List PlanNode
  | 0, _ => []
  | n + 1, l =>
    { addr := l.getD 0 0, upb := l.getD 1 0, dnb := l.getD 2 0, upb2 := l.getD 3 0, dnb2 := l.getD 4 0, dwake := l.getD 5 0 == 1,
      dwake2 := l.getD 6 0 == 1, sofs := wrapS 32 (l.getD 7 0), d := wrapS 32 (l.getD 8 0), tail := l.getD 9 0 == 1 } ::
      parseNodes n (l.drop 10)
def planOfWords (l : List Nat) : Plan :=
  let tab (k n : Nat) : Tab Nat := (List.range n).foldl (fun t i => Tab.set 0 t i (l.getD (k + i) 0)) []
  let na := min 256 (l.getD 2 0)
  let nn := min 384 (l.getD 3 0)
  { id := l.getD 0 0, rate := l.getD 1 0, worst := l.getD 4 0, wake := tab 5 16, pages := tab 21 8,
    axes := parseAxes na (l.drop 29), nodes := parseNodes nn (l.drop (29 + 16 * na)) }

/-- PLAN_COMPUTED (R194 stages 2 and 3): rejected, or loaded beside the old tables, into the other bank (R211) and over CHAIN. A preparation that a PLAN_ABORT
stops goes no further (R195). -/
def State.planComputed (s : State) : State :=
  if s.planState = 1 && !s.pilot.snapWait && !s.pilot.stop then
    match s.pilot.rej, s.pilot.job with
    | some r, _ => s.rejectPlan r.1 r.2
    | none, some p => (({ s with pilot := { s.pilot with loadLeft := 3 } }.setPlanState 2).loadBank p).emit (.chain 4 (1 :: planWords p))
    | none, none => s
  else s

def execPlanComputed (s : State) : Host.Outcome State Fault Refusal := .next s.planComputed

/-- BERTH_GRANTs of a plan to every member node (R194 stage 4, R571). -/
def State.grantPlan (s : State) (p : Plan) : State :=
  p.nodes.foldl (fun s n =>
    let nd := s.node n.addr
    let g : Node := { nd with upb := n.upb, dnb := n.dnb, upb2 := n.upb2, dnb2 := n.dnb2, dwake := n.dwake, dwake2 := n.dwake2,
                               sofs := n.sofs, plan := p.id, tail := n.tail }
    match s.net.held.find? (fun h => h.noBerth && h.branch * 256 + h.pos == n.addr) with
    | some h => s.queueTo n.addr 1 2 0 (s.grantBody n.addr { g with uid := h.uid, join := h.join })
    | none => if nd.state = 0 then s else s.queueTo n.addr 1 2 0 (s.grantBody n.addr g)) s

/-- The pilot's part of a boundary before the new cycle's work: snapshot, grants, stop request. -/
def State.pilotBoundary (s : State) : State :=
  let s := if s.pilot.stop then
      let l := s.pilot.stopReq
      let s := { s with pilot := { s.pilot with stop := false, stopReq := [] } }
      let s := if s.planState = 1 || s.planState = 2 then (s.emit (.chain 4 [0])).rejectPlan 0x0B 0 else s
      l.foldl (fun (s : State) x => s.complete x.1 0x22 x.2 .ok) s
    else s
  let s := s.planSnapshot
  if s.planState = 2 && 0 < s.pilot.loadLeft then
    match s.pilot.job with
    | some p => { s.grantPlan p with pilot := { s.pilot with loadLeft := s.pilot.loadLeft - 1 } }
    | none => s
  else s

/-- R148: the boundary of cycle N is a multiple of the longer of two cycle lengths. -/
def State.rateOk (s : State) (n : BitVec 32) (newRate : Nat) : Bool :=
  newRate == s.rate || (s.bnd + (n - s.cycle).toNat * s.tCyc) % tCycle (max s.rate newRate) == 0

/-- The switch to the prepared plan is announced (R196), over CHAIN too (R203). -/
def State.announce (s : State) (n : BitVec 32) (cmd : Option (Src × Desc)) : State :=
  let s := match s.pilot.new with | some p => s.cartUnbind p | none => s
  (({ s with pilot := { s.pilot with commitAt := n, commitCmd := cmd, switched := false, markerSent := false } }.setPlanState 4).setRg
    (PILOT_B + 0x20) n).emit (.chain 4 [3, n.toNat])

/-- First cycle at or after a given lead that meets R148. -/
def State.autoCycle (s : State) (newRate : Nat) : Nat → Nat → BitVec 32
  | 0, k => s.cycle + BitVec.ofNat 32 k
  | f + 1, k => if s.rateOk (s.cycle + BitVec.ofNat 32 k) newRate then s.cycle + BitVec.ofNat 32 k else s.autoCycle newRate f (k + 1)

/-- PLAN_PREPARED (R194 stage 5). A plan the CXM prepared by itself is committed by itself (R193). -/
def State.planPrepared (s : State) : State :=
  if s.planState = 2 && s.pilot.loadLeft = 0 && !s.pilot.stop then
    match s.pilot.job with
    | none => s
    | some p =>
      let cmd := s.pilot.cmd
      let s := { s with pilot := { s.pilot with new := some p, job := none, cmd := none } }
      let s := (s.setPlanState 3).setFld PILOT_STAT 15 8 p.id
      let s := match cmd with
        | some (src, d) => s.complete src 0x20 d .ok p.id p.worst
        | none => s
      if s.pilot.autoCommit then s.announce (s.autoCycle p.rate 16 64) none else s
  else s

def execPlanPrepared (s : State) : Host.Outcome State Fault Refusal := .next s.planPrepared

/-- PLAN_COMMIT (R196): BUSY first, then the named cycle, then the conditions. -/
def State.planCommit (s : State) (src : Src) (d : Desc) : State :=
  let st := s.planState
  if st = 1 || st = 2 || st = 4 then s.complete src 0x21 d .busy
  else if !d.atCycle then s.complete src 0x21 d .badOperand
  else if !isFuture d.op5 s.cycle then s.complete src 0x21 d .cyclePast
  else match s.pilot.new with
    | some p =>
      if st = 3 && d.op0.toNat = p.id && decide (16 ≤ (d.op5 - s.cycle).toNat) && s.rateOk d.op5 p.rate then s.announce d.op5 (some (src, d))
      else s.complete src 0x21 d .badOperand
    | none => s.complete src 0x21 d .badOperand

def execPlanCommit (src : Src) (d : Desc) (s : State) : Host.Outcome State Fault Refusal :=
  .next (s.cmd src 0x21 d fun s => s.planCommit src d)

/-- PLAN_ABORT (R195). -/
def State.planAbort (s : State) (src : Src) (d : Desc) : State :=
  let st := s.planState
  let newId := (s.pilot.new.map (fun p => p.id)).getD 0
  if st = 4 then s.complete src 0x22 d .busy
  else if st = 3 && d.op0.toNat = newId && newId != 0 then
    let s := (s.setFld PILOT_STAT 15 8 0).returnPlanValues.dropBank
    (({ s with pilot := { s.pilot with new := none } }).planIdle).complete src 0x22 d .ok
  else if (st = 1 || st = 2) && d.op0.toNat = 0 then
    { s with pilot := { s.pilot with stop := true, stopReq := s.pilot.stopReq ++ [(src, d)] } }
  else s.complete src 0x22 d .badOperand

def execPlanAbort (src : Src) (d : Desc) (s : State) : Host.Outcome State Fault Refusal :=
  .next (s.cmd src 0x22 d fun s => s.soon src 0x22 d [] fun s => s.planAbort src d)

/-- RESULT_HI of PLAN_REPORT (R204). -/
def reportHi (s : State) (p : PlanAxis) : Nat :=
  let n := s.node p.node
  let up := if p.isLocal then 0x3F else if 4 ≤ p.nslot then n.upb2 else n.upb
  let dn := if p.isLocal then 0x3F else if 4 ≤ p.nslot then n.dnb2 else n.dnb
  let wk := !p.isLocal && (if 4 ≤ p.nslot then n.dwake2 else n.dwake)
  p.lane % 16 + up % 64 * 2 ^ 8 + dn % 64 * 2 ^ 16 + b2n wk * 2 ^ 22 + b2n p.isLocal * 2 ^ 23 + p.pos % 256 * 2 ^ 24

/-- PLAN_REPORT (R204). -/
def State.planReport (s : State) (src : Src) (d : Desc) : State :=
  match s.actAxis d.tgt with
  | some p => s.complete src 0x23 d .ok p.lat (reportHi s p)
  | none => s.complete src 0x23 d .badTarget

def execPlanReport (src : Src) (d : Desc) (s : State) : Host.Outcome State Fault Refusal :=
  .next (s.cmd src 0x23 d fun s => s.soon src 0x23 d [] fun s => s.planReport src d)

/-- A member node serves bound axes that have no pass (R193). -/
def State.unplaced (s : State) : Bool :=
  (List.range 256).any (fun a =>
    let c := applyStaged (s.host.planUsed ++ s.host.plan) (axc1 a) (s.rg (axc1 a))
    bit c 16 && !bit c 15 && (s.node (bits c 11 0)).state == 2 && (s.actAxis a).isNone)

/-- An isolation that asks for a plan has it prepared at once, but while a COMMIT is announced: a preparation in progress ends, a
prepared plan is discarded (R202). -/
def State.startIso (s : State) : State :=
  let st := s.planState
  if s.pilot.isoReq.isEmpty || st = 4 then s
  else
    let run := s.pilot.isoRun ++ s.pilot.isoReq
    let s := if st = 3 then s.pilotFlag 5 else s
    let s := if st = 2 then s.emit (.chain 4 [0]) else s
    let s := if st = 1 || st = 2 then s.rejectPlan 0x0B 0 else s
    { s with pilot := { s.pilot with autoCommit := true, isoReq := [], isoRun := run } }.startPrepare none s.host.planSeq

/-- AUTO_PLAN_PREPARE (R193). -/
def State.autoPrepare (s : State) : State :=
  if s.flag PILOT_CFG 8 && s.unplaced && s.planState = 0 then
    { s with pilot := { s.pilot with autoCommit := true } }.startPrepare none s.host.planSeq
  else s

def execAutoPlanPrepare (s : State) : Host.Outcome State Fault Refusal := .next s.autoPrepare

/-! ### Uplink frames -/

/-- What an uplink frame brings; an isolation it leads to has its plan prepared (R202). -/
def State.uplink (s : State) (p : Nat) (f : RxFrame) : State := (s.rxUplink p f).startIso

def execBerthUp (port : Fin 16) (f : RxFrame) (s : State) : Host.Outcome State Fault Refusal := .next (s.uplink port.val f)
def execJoinReq (port : Fin 16) (f : RxFrame) (s : State) : Host.Outcome State Fault Refusal := .next (s.uplink port.val f)
def execDataAck (port : Fin 16) (f : RxFrame) (s : State) : Host.Outcome State Fault Refusal := .next (s.uplink port.val f)
def execEchoRsp (port : Fin 16) (f : RxFrame) (s : State) : Host.Outcome State Fault Refusal := .next (s.uplink port.val f)
def execCartRsp (port : Fin 16) (f : RxFrame) (s : State) : Host.Outcome State Fault Refusal := .next (s.uplink port.val f)
def execNodeInfo (port : Fin 16) (f : RxFrame) (s : State) : Host.Outcome State Fault Refusal := .next (s.uplink port.val f)
def execTunnelUpFragment (port : Fin 16) (f : RxFrame) (s : State) : Host.Outcome State Fault Refusal := .next (s.uplink port.val f)
def execUplinkFrameRejected (port : Fin 16) (f : RxFrame) (s : State) : Host.Outcome State Fault Refusal := .next (s.uplink port.val f)
def execGuardianOverrun (port : Fin 16) (f : RxFrame) (s : State) : Host.Outcome State Fault Refusal := .next (s.overrun port.val f).startIso

/-- PILOT_LANE_LOAD of a lane under a plan: the heaviest pattern's cycles and passes. -/
def laneLoad (p : Plan) (l : Nat) : Nat :=
  let per (c : Nat) : Nat × Nat := (p.axes.filter (fun a => a.lane == l && c % a.div == a.phase)).foldl (fun m a => (m.1 + a.mcyc, m.2 + 1)) (0, 0)
  let best := (List.range 8).foldl (fun m c => if m.1 < (per c).1 then per c else m) (0, 0)
  min best.1 0x1FFFF + (min best.2 63) * 2 ^ 20

/-- The tables switch to a plan (R197): berths, latencies, lane loads, rate; moved axes keep their state. -/
def State.switchTo (s : State) (p : Plan) : State :=
  let old := s.pilot.act
  let s := p.nodes.foldl (fun s n =>
    let nd := s.node n.addr
    let base : Node := match s.net.held.find? (fun h => h.noBerth && h.branch * 256 + h.pos == n.addr) with
      | some h => { uid := h.uid, join := h.join, state := 1, dEst := h.dEst, start := s.cycle }
      | none => { nd with bare := false, oldWake := if nd.dwake then some (nd.dnb, nd.tail) else none,
                          oldWake2 := if nd.dwake2 then some (nd.dnb2, nd.tail) else none }
    s.setNode n.addr { base with upb := n.upb, dnb := n.dnb, upb2 := n.upb2, dnb2 := n.dnb2, dwake := n.dwake, dwake2 := n.dwake2,
                                 sofs := n.sofs, plan := p.id, tail := n.tail, dplan := n.d }) s
  let left := s.net.held.filter (fun h => !(h.noBerth && p.nodes.any (fun n => n.addr == h.branch * 256 + h.pos)))
  let s := { s with net := { s.net with held := left, keptUp := [], keptDn := [] } }
  let s := { s with pilot := { s.pilot with act := p, old := some old, switched := true } }
  let s := (s.setRg NET_STAT (ofNat (p.rate + berthCount p.rate * 16 + minislots p.rate * 2 ^ 16))).activatePlanRegs
  let s := (s.setFld PILOT_STAT 7 0 p.id).setFld PILOT_STAT 15 8 0
  let s := s.setRg (PILOT_B + 0x1C) (ofNat p.worst)
  let s := (List.range 16).foldl (fun s l => s.setRg (PILOT_B + 0x40 + 4 * l) (ofNat (laneLoad p l))) s
  let s := (s.moveLanes old p).activatePlanPars
  let s := p.axes.foldl (fun s q => s.writeSetp q.axis) s
  (((s.afterSwitch old p).cartSwitch old p).acqSwitch p).raise 38 p.id

/-- PLAN_SWITCH (R197) at the boundary of the announced cycle. -/
def State.planSwitch (s : State) : State :=
  if s.planState = 4 && s.cycle = s.pilot.commitAt && !s.pilot.switched then
    match s.pilot.new with
    | some p => s.switchTo p
    | none => s
  else s

def execPlanSwitch (s : State) : Host.Outcome State Fault Refusal := .next s.planSwitch

/-- Branches closed on the partner (TOPO 0b11). -/
def State.closedBranches (s : State) : List Nat := (List.range 16).filter (fun b => s.topo b == 3)

/-- After each COMMIT the holder derives the mirror plan and announces its grants (R571). -/
def State.startMirror (s : State) : State :=
  if s.holder && s.fld HELM_STAT 7 6 != 0 && !s.closedBranches.isEmpty then
    let i := s.planInputs
    let sh := i.nodes.map (fun n => (n.addr, if (s.node n.addr).dlyT = 0 then (0 : Int) else divRnd ((s.node n.addr).dlyT - n.d) 16))
    let id := s.planId
    let m := mirrorPlan { i with shift := sh, act := {} } s.pilot.act s.closedBranches id
    { s with helm := { s.helm with mirror := some m, mirrorLeft := 3 },
             pilot := { s.pilot with nextId := nextPlanId id s.pilot.act.id } }.emit (.chain 4 (2 :: planWords m))
  else s

/-- One more cycle of mirror grants; after three the workers hold the mirror (R571). -/
def State.mirrorBoundary (s : State) : State :=
  match s.helm.mirror with
  | some m =>
    if 0 < s.helm.mirrorLeft && s.holder then
      let s := { s.grantPlan m with helm := { s.helm with mirrorLeft := s.helm.mirrorLeft - 1 } }
      if s.helm.mirrorLeft = 0 then (s.setFlag HELM_STAT 11).setRg (HELM_B + 0x1C) (ofNat m.id) else s
    else s
  | none => s

/-- The boom of the node that faces an isolated node from the other end closes (R170). -/
def State.closeBeyond (s : State) (r : IsoReq) : State :=
  let a := if r.tail then r.addr - 1 else r.addr + 1
  if r.boom && (s.node a).state != 0 then s.queueBoom a true false else s

/-- PLAN_RELEASE (R199) one cycle later; after an isolation plan the boom beyond the isolated node closes (R170), and an isolation
that came while the COMMIT was announced has its plan prepared now (R202). -/
def State.planRelease (s : State) : State :=
  if s.planState = 4 && s.pilot.switched && isFuture s.cycle s.pilot.commitAt then
    let cmd := s.pilot.commitCmd
    let s := { s with pilot := { s.pilot with old := none, new := none, commitCmd := none, switched := false } }
    let iso := s.pilot.isoRun
    let s := iso.foldl State.closeBeyond { s with pilot := { s.pilot with isoRun := [] } }
    let s := ((s.setRg (PILOT_B + 0x20) 0).planIdle).startMirror
    let s := match cmd with
      | some (src, d) => s.complete src 0x21 d .ok
      | none => s
    s.startIso
  else s

def execPlanRelease (s : State) : Host.Outcome State Fault Refusal := .next s.planRelease

/-- GRANT_MISS (R200): a member without a frame in its new-plan berth gets a fresh grant. -/
def State.grantMiss (s : State) (a : Nat) : State :=
  let n := s.node a
  if s.pilot.switched && s.isMember a && (!n.seen || isFuture s.pilot.commitAt n.lastSeen) then (s.pilotFlag 3).sendGrant a else s

def execGrantMiss (node : Fin 4096) (s : State) : Host.Outcome State Fault Refusal := .next (s.grantMiss node.val)

/-- PLAN_LOAD_RECEIVE: the standby stores the tables beside the old ones (R194): a prepared plan, or a mirror plan; a COMMIT of
the prepared plan (R203); the word 0 releases the tables (R195). -/
def State.planLoad (s : State) (l : List Nat) : State :=
  match l with
  | 1 :: r => { s with pilot := { s.pilot with new := some (planOfWords r), chainAt := none } }.loadBank (planOfWords r)
  | 2 :: r => { s with helm := { s.helm with mirror := some (planOfWords r) } }
  | 3 :: n :: _ => { s with pilot := { s.pilot with chainAt := some (BitVec.ofNat 32 n), markerSent := false } }
  | _ => { s with pilot := { s.pilot with new := none, chainAt := none } }.dropBank

def execPlanLoadReceive (body : List Word) (s : State) : Host.Outcome State Fault Refusal :=
  .next (s.planLoad (body.map (fun w => w.toNat)))

end Sys2Proof.Machine
end

