-- ==== Sys2Proof/Machine/Helm.lean ====
section
/-! DEFINITION. The helm interlock, CHAIN and re-synchronisation (spec 16, R560 to R580). -/

namespace Sys2Proof.Machine

open Sys2Proof

def State.setHelm (s : State) (v : Nat) : State := s.setFld HELM_STAT 2 0 v
def State.syncState (s : State) : Nat := s.fld HELM_STAT 10 8
def State.peerOn (s : State) : Bool := s.flag HELM_STAT 4
def State.chainUp (s : State) : Bool := s.fld HELM_STAT 7 6 != 0

/-- Partner SYNCED and workers hold a mirror (R573). -/
def State.partnerReady (s : State) : Bool := s.helm.hbAlive && s.helm.hbSync == 3 && s.flag HELM_STAT 11

/-- A partner of another variant has been reported (R5). -/
def State.variantMismatch (s : State) : Bool := s.helm.peerKnown && s.fld (HELM_B + 0x10) 3 2 != s.variant

/-- R562: eligible to claim the helm. -/
def State.eligible (s : State) : Bool :=
  s.identOk && !s.variantMismatch && s.flag HELM_CFG 0 && s.helmState != 4 && (s.syncState == 3 || !s.flag HELM_STAT 5) &&
    !(s.chainUp && (s.helm.hbState == 3 || s.helm.hbState == 1))

/-- The own line driven; it reads back as driven (output group 2). -/
def State.driveHelm (s : State) (on : Bool) : State := (s.emit (.pin 2 (if s.roleA then 0 else 1) (b2n on))).putFlag HELM_STAT 3 on

/-- PASSIVE to CLAIM (Table 16.1); `from` is the state claimed from. -/
def State.helmClaimFrom (s : State) (st : Nat) : State :=
  if s.helmState = st && s.eligible && !s.peerOn then (s.setHelm 1).driveHelm true else s

def execHelmClaim (s : State) : Host.Outcome State Fault Refusal := .next (s.helmClaimFrom 0)

/-- CLAIM to QUIET while the partner's line is asserted. -/
def execHelmContend (s : State) : Host.Outcome State Fault Refusal :=
  .next (if s.helmState = 1 && s.peerOn then (s.setHelm 2).driveHelm false else s)

/-- QUIET to CLAIM after mutual quiet of 8 µs (role A) or 16 µs (role B). -/
def execHelmQuietExpiry (s : State) : Host.Outcome State Fault Refusal := .next (s.helmClaimFrom 2)

/-- QUIET to PASSIVE. -/
def execHelmQuietYield (s : State) : Host.Outcome State Fault Refusal :=
  .next (if s.helmState = 2 && s.peerOn then s.setHelm 0 else s)

/-- A holder lost during a migration (Table 5.10): after the marker the COMMIT that CHAIN has brought goes on here; before it the
prepared plan is discarded. -/
def State.takeMigration (s : State) : State :=
  match s.pilot.new, s.pilot.chainAt with
  | some p, some n =>
    if s.pilot.markerSent || (!isFuture (n - 8) s.cycle && isFuture n s.cycle) then
      ((({ s with pilot := { s.pilot with commitAt := n, commitCmd := none, switched := false, markerSent := true, chainAt := none } }.setPlanState
        4).setFld PILOT_STAT 15 8 p.id).setRg (PILOT_B + 0x20) n)
    else { s with pilot := { s.pilot with new := none, chainAt := none } }
  | _, _ => { s with pilot := { s.pilot with new := none, chainAt := none } }

/-- CLAIM to HELM (R563, R565, R575): a unit that had a partner continues its numbering under the mirror plan; one that has
seen none starts by R154. -/
def State.helmTake (s : State) : State :=
  if s.helmState = 1 && s.flag HELM_STAT 3 && !s.peerOn then
    let s := (s.setHelm 3).raise 224 0
    if s.flag HELM_STAT 5 && s.syncState = 3 then
      let s := s.takeMigration
      let s := match s.helm.mirror with
        | some m => if s.pilot.act.id = m.id then s.setFld PILOT_STAT 7 0 m.id else s.switchTo m
        | none => s
      ({ s with helm := { s.helm with mirror := none } }.setFlag TIME_STAT 1).setRg (HELM_B + 0x14) 0
    else s
  else s

def execHelmTake (s : State) : Host.Outcome State Fault Refusal := .next s.helmTake

/-- The unit gives the helm up (R574): gates close, the line falls, origination stops. -/
def State.giveUpNow (s : State) (st : Nat) : State :=
  (((s.setHelm st).driveHelm false).clrFlag TIME_STAT 1).raise 225 0

/-- A failed check (R573): event 233, HELM_DIAG, and what it gives up. -/
def State.diagFail (s : State) (code : Nat) : State :=
  if code = 0 then s else
  let s := (s.setFld (HELM_B + 0xC) 7 0 code).incFld (HELM_B + 0xC) 31 16 1
  let s := s.raise 233 code
  if !s.holder then s
  else if code = 1 || code = 9 || code = 0xA then s.giveUpNow 4
  else if code = 2 then s.giveUpNow 4
  else if code = 0xB || s.partnerReady then
    { s with helm := { s.helm with giveUp := some (s.cycle + 1, code) } }
  else s

def execSelfDiagnosisFail (code : Fin 12) (s : State) : Host.Outcome State Fault Refusal := .next (s.diagFail code.val)

/-- HELM_READBACK_FAIL: the gates close in hardware (Table 16.1, check 0x02). -/
def execHelmReadbackFail (s : State) : Host.Outcome State Fault Refusal :=
  .next (if s.helmState = 3 then (s.clrFlag HELM_STAT 3).diagFail 2 else s)

/-- HELM_SAIL_CONFLICT (check 0x0B): role B receives a SAIL of its own MGR_ID on a TOPO 0b11 port. -/
def State.sailConflict (s : State) (p : Nat) (f : RxFrame) : State :=
  if s.holder && !s.roleA && s.portEn p && s.topo p == 3 && s.ownFrame p f && hType (hdrNum f.bytes) == 1 then s.diagFail 0xB else s

def execHelmSailConflict (port : Fin 16) (f : RxFrame) (s : State) : Host.Outcome State Fault Refusal := .next (s.sailConflict port.val f)

/-- Relay permission of a branch at the standby (R579); a change raises event 230. -/
def State.setRelay (s : State) (b : Nat) (on : Bool) : State :=
  if s.flag (HELM_B + 0x14) b == on then s else (s.putFlag (HELM_B + 0x14) b on).raise 230 b

/-- Every relay permission ends (R579). -/
def State.dropRelays (s : State) : State := (List.range 16).foldl (fun s b => s.setRelay b false) s

/-- PARTNER_HELM_CHANGE (R563, R576, R579): event 226; contest; relay permission clears when the line falls. -/
def State.partnerHelm (s : State) (level : Bool) : State :=
  if level == s.peerOn then s
  else
    let s := (s.putFlag HELM_STAT 4 level).raise 226 (b2n level)
    if level then
      let s := s.setFlag HELM_STAT 5
      if s.helmState = 3 then s.setFlag HELM_FLAGS 1 else s
    else s.dropRelays

def execPartnerHelmChange (level : Bool) (s : State) : Host.Outcome State Fault Refusal := .next (s.partnerHelm level)

/-- HELM_HANDOVER (R574): gives up at G of the named cycle; completes when the partner holds the helm. -/
def State.handover (s : State) (src : Src) (d : Desc) : State :=
  if !s.holder || !s.partnerReady || s.helm.handover.isSome then s.complete src 0x90 d .busy
  else { s with helm := { s.helm with handover := some (src, d) } }

def execHelmHandover (src : Src) (d : Desc) (s : State) : Host.Outcome State Fault Refusal :=
  .next (s.cmd src 0x90 d fun s => s.handover src d)

/-- GIVE_UP at the give-up instant G of the current cycle (R574); after a handover the unit is SYNCED (Table 16.1). -/
def State.giveUp (s : State) : State :=
  if s.holder then
    match s.helm.giveUp, s.helm.handover with
    | some (c, _), _ =>
      if isFuture c s.cycle then s else { s with helm := { s.helm with giveUp := none } }.giveUpNow 4
    | none, some (_, d) => if isFuture d.op5 s.cycle then s else (s.giveUpNow 0).setFld HELM_STAT 10 8 3
    | none, none => s
  else s

def execGiveUp (s : State) : Host.Outcome State Fault Refusal := .next s.giveUp

/-! ### CHAIN -/

/-- HEARTBEAT_SEND (Table 16.2). -/
def execHeartbeatSend (s : State) : Host.Outcome State Fault Refusal :=
  .next (if s.chainUp then s.emit (.chain 0 [s.helmState, s.role, s.syncState, s.cycle.toNat, s.ntime]) else s)

/-- HEARTBEAT_RECEIVE (R562, R565): a unit without the helm follows the partner's time and cycle; a handover completes. -/
def State.heartbeat (s : State) (st sy : Nat) (cyc : BitVec 32) (nt : Nat) : State :=
  if !s.chainUp then s
  else
    let s := { s with helm := { s.helm with hbState := st, hbSync := sy, hbAlive := true } }
    let s := if s.helmState = 0 && st = 3 then { s with cycle := cyc, ntime := nt, bnd := nt / s.tCyc * s.tCyc } else s
    match s.helm.handover with
    | some (src, d) =>
      if st = 3 && s.helmState != 3 then
        ({ s with helm := { s.helm with handover := none } }.raise 234 0).complete src 0x90 d .ok
      else s
    | none => s

def execHeartbeatReceive (hstate : Fin 5) (hsync : Fin 5) (cycle : Word) (ntime : BitVec 64) (s : State) :
    Host.Outcome State Fault Refusal :=
  .next (s.heartbeat hstate.val hsync.val cycle ntime.toNat)

/-- HEARTBEAT_LOSS (R579): 2 µs without a heartbeat. -/
def execHeartbeatLoss (s : State) : Host.Outcome State Fault Refusal :=
  .next { s with helm := { s.helm with hbAlive := false } }.dropRelays

/-- CHAIN_LANE_CHANGE (R566): event 227; CHAIN_DOWN when only one lane is up. -/
def State.chainLane (s : State) (l : Nat) (up : Bool) : State :=
  if s.flag HELM_STAT (6 + l) == up then s
  else
    let s := (s.putFlag HELM_STAT (6 + l) up).raise 227 l
    if s.fld HELM_STAT 7 6 = 1 || s.fld HELM_STAT 7 6 = 2 then s.setFlag HELM_FLAGS 4 else s

def execChainLaneChange (lane : Fin 2) (up : Bool) (s : State) : Host.Outcome State Fault Refusal := .next (s.chainLane lane.val up)

/-- RELAY_GRANT_MESSAGE (R579): from a unit in HELM. -/
def execRelayGrantMessage (branch : Fin 16) (grant : Bool) (s : State) : Host.Outcome State Fault Refusal :=
  .next (if s.helmState != 3 && (!grant || s.helm.hbState == 3) then s.setRelay branch.val grant else s)

/-- HELM_RELAY_GRANT (R578): the message goes over CHAIN. -/
def State.relayGrant (s : State) (src : Src) (d : Desc) : State :=
  let b := d.tgt
  if 16 ≤ b || s.topo b != 3 then s.complete src 0x91 d .badTarget
  else if 1 < d.op0.toNat then s.complete src 0x91 d .badOperand
  else if !(s.helm.hbAlive && s.helm.hbSync == 3) then s.complete src 0x91 d .busy
  else (s.emit (.chain 7 [b, d.op0.toNat])).complete src 0x91 d .ok

def execHelmRelayGrant (src : Src) (d : Desc) (s : State) : Host.Outcome State Fault Refusal :=
  .next (s.cmd src 0x91 d fun s => s.soon src 0x91 d [] fun s => s.relayGrant src d)

/-- RELAY_FRAME (R579): under permission a holder frame leaves at its tagged instant, an uplink frame goes over CHAIN. -/
def State.relayFrame (s : State) (b : Nat) (up : Bool) (start : Nat) (bytes : List Byte) : State :=
  if s.flag (HELM_B + 0x14) b && !s.holder then
    if up then s.emit (.chain 6 (b :: start :: bytes.map (fun x => x.toNat))) else s.emit (.frame b start bytes)
  else s

def execRelayFrame (branch : Fin 16) (up : Bool) (start : BitVec 32) (bytes : List Byte) (s : State) : Host.Outcome State Fault Refusal :=
  .next (s.relayFrame branch.val up start.toNat bytes)

/-- CABLE_BREAK (R577): BREAK, relay granted by itself with AUTO_RELAY, the isolation plan's preparation (R202). -/
def State.cableBreak (s : State) (b pos : Nat) : State :=
  if s.holder && s.topo b = 3 then
    let s := s.setFlag HELM_FLAGS 5
    let s := if s.flag HELM_CFG 1 then s.emit (.chain 7 [b, 1]) else s
    let far := (s.branchNodes b).filter (fun e => pos ≤ e.1 % 256)
    let r : IsoReq := { addr := b * 256 + (pos - 1), tail := false, boom := false }
    let s := far.foldl (fun s e => s.updNode e.1 (fun n => { n with state := 4 })) s
    { s with pilot := { s.pilot with isoReq := s.pilot.isoReq ++ [r] } }.startIso
  else s

def execCableBreak (branch : Fin 16) (pos : Fin 25) (s : State) : Host.Outcome State Fault Refusal := .next (s.cableBreak branch.val pos.val)

/-! ### Re-synchronisation (Table 16.6) -/

/-- RESYNC_CHECK (step 2): event 231, then BULK, or REFUSED with event 229 or 233. The ARG of that event 233 is not stated
(assumption log 2). -/
def State.resyncCheck (s : State) (role variant mgr ver : Nat) (digest : Bool) : State :=
  if s.helmState = 0 && s.chainUp then
    let s := (s.setRg (HELM_B + 0x10) (ofNat (role + variant * 4 + mgr * 256 + ver * 65536))).raise 231 0
    let s := { s with helm := { s.helm with peerKnown := true, matchCnt := 0, mismatch := false, swept := 0 } }
    let okVar := variant == s.variant
    let ok := okVar && role + s.role == 3 && mgr == s.mgrId && digest && ver == s.fld 0xC 31 16
    if ok then s.setFld HELM_STAT 10 8 1
    else
      let s := (s.setFld HELM_STAT 10 8 4).setFlag HELM_FLAGS 3
      if okVar then (s.raise 233 (Config.freeBelow 0xFFFF s.free)).draw else s.raise 229 0
  else s

def execResyncCheck (prole pvariant : BitVec 2) (pmgr : Byte) (pver : BitVec 16) (digestEq : Bool) (s : State) :
    Host.Outcome State Fault Refusal :=
  .next (s.resyncCheck prole.toNat pvariant.toNat pmgr.toNat pver.toNat digestEq)

/-- RESYNC_SYNCED: SHADOW to SYNCED after 256 matching cycles and one full sweep; event 232. -/
def execResyncSynced (s : State) : Host.Outcome State Fault Refusal :=
  .next (if s.syncState = 2 && 256 ≤ s.helm.matchCnt && 196608 ≤ s.helm.swept then (s.setFld HELM_STAT 10 8 3).raise 232 0 else s)

/-- At a boundary the standby counts matching cycles; a mismatch restarts the count, and SYNCED returns to SHADOW. -/
def State.resyncBoundary (s : State) : State :=
  let st := s.syncState
  if st = 2 || st = 3 then
    let bad := s.helm.mismatch
    let s := { s with helm := { s.helm with matchCnt := if bad then 0 else min 256 (s.helm.matchCnt + 1), mismatch := false } }
    if bad && st = 3 then s.setFld HELM_STAT 10 8 2 else s
  else s

end Sys2Proof.Machine
end

