-- ==== Sys2Proof/Machine/Safe.lean ====
section
/-! DEFINITION. The safety channels PORT and STBD: configuration image (R438 to R443), inputs, functions, acknowledge,
outputs, cross-comparison, PDU and log (R444 to R473). A channel is named by a Bool: false PORT, true STBD. -/

namespace Sys2Proof.Machine

open Sys2Proof

/-! ### Access -/

def safeB (st : Bool) : Nat := if st then SAFES_B else SAFEP_B
def State.sch (s : State) (st : Bool) : SafeCh := if st then s.safe.s else s.safe.p
def State.setSch (s : State) (st : Bool) (c : SafeCh) : State :=
  if st then { s with safe := { s.safe with s := c } } else { s with safe := { s.safe with p := c } }
/-- State of Table 12.1: 0 OFF, 1 INIT, 2 NOCFG, 3 RUN, 4 FAULT. -/
def State.safeState (s : State) (st : Bool) : Nat := s.fld (safeB st) 3 0

/-- A channel runs: PORT always, STBD while PD_STBD is powered and not held in reset (R615). -/
def State.chanOn (s : State) (st : Bool) : Bool := !st || (s.powered 7 && s.flag (TOP_B + 0x20) 2)

/-- A mask of n bits from a predicate. -/
def maskOf (n : Nat) (f : Nat → Bool) : Nat := (List.range n).foldl (fun m k => if f k then m + 2 ^ k else m) 0

/-! ### Image fields (Table 12.2) -/

def imgB (i : List Byte) (o : Nat) : Nat := leAt i o 1
def imgSrc (i : List Byte) (k : Nat) : Nat := imgB i (0x10 + k) % 8
def imgPairEn (i : List Byte) (j : Nat) : Bool := imgB i (0x20 + 2 * j) % 2 == 1
def imgAnti (i : List Byte) (j : Nat) : Bool := imgB i (0x20 + 2 * j) / 2 % 2 == 1
def imgTyp (i : List Byte) (f : Nat) : Nat := imgB i (0x30 + 8 * f) % 4
def imgAckReq (i : List Byte) (f : Nat) : Bool := imgB i (0x30 + 8 * f) / 4 % 2 == 1
def imgPairs (i : List Byte) (f : Nat) : Nat := imgB i (0x31 + 8 * f)
def imgGroups (i : List Byte) (f : Nat) : Nat := leAt i (0x32 + 8 * f) 2
def imgOuts (i : List Byte) (f : Nat) : Nat := imgB i (0x34 + 8 * f) % 16
def imgDelay (i : List Byte) (f : Nat) : Nat := imgB i (0x35 + 8 * f)
def imgDec (i : List Byte) (f : Nat) : Nat := leAt i (0x36 + 8 * f) 2
def imgAck (i : List Byte) : Option Nat := let b := imgB i 6; if 128 ≤ b then none else some (b % 16)
/-- STO group of an axis; none for an axis in no group. -/
def imgAxg (i : List Byte) (a : Nat) : Option Nat := let b := imgB i (0xC0 + a); if 128 ≤ b then none else some (b % 16)

/-- Every field in range and ZONE as it must be (R440). Ranges apply where the field is used (DEDUCED, log 31). -/
def imageOk (zone : Nat) (i : List Byte) : Bool :=
  let zero (a b : Nat) : Bool := (slice i a (b - a)).all (fun x => x == 0)
  let pairOk (j : Nat) : Bool := imgB i (0x20 + 2 * j) < 4 && (!imgPairEn i j || (1 ≤ imgB i (0x21 + 2 * j) && imgB i (0x21 + 2 * j) ≤ 100))
  let funcOk (f : Nat) : Bool := imgB i (0x30 + 8 * f) < 8 && imgTyp i f ≠ 3 && imgB i (0x34 + 8 * f) < 16 &&
    (imgTyp i f ≠ 2 || (1 ≤ imgDelay i f && imgDec i f ≠ 0))
  let outOk (m : Nat) : Bool :=
    let o := 0xB0 + 4 * m
    let used := (List.range 16).any (fun f => imgTyp i f != 0 && (imgOuts i f).testBit m)
    imgB i o < 2 && imgB i (o + 3) == 0 && (imgB i o == 0 || (10 ≤ imgB i (o + 1) && imgB i (o + 1) ≤ 100)) &&
      (!used || (1 ≤ imgB i (o + 2) && imgB i (o + 2) ≤ 100))
  leAt i 0 4 == 0x46535843 && imgB i 4 == 1 && imgB i 5 == zone && imgB i 6 / 16 % 8 == 0 && 5 ≤ imgB i 7 && imgB i 7 ≤ 100 &&
    zero 8 0x10 && zero 0x1C0 0x200 && (List.range 16).all (fun k => imgSrc i k ≤ 4 && imgB i (0x10 + k) < 64) &&
    (List.range 8).all pairOk && (List.range 16).all funcOk && (List.range 4).all outOk &&
    (List.range 256).all (fun a => imgB i (0xC0 + a) / 16 % 8 == 0)

/-- The fused digest (Table 17.5). -/
def State.safeDigest (s : State) : List Byte := ((List.range 8).map (fun k => leBytes 4 (s.wordVal (0x08 + k)))).flatten

/-- What the KEEL digest group lets through (R440, R443). -/
def State.digestOk (s : State) (dg : List Byte) : Bool :=
  let g := s.groupState 4
  g != 3 && (g != 2 || dg == s.safeDigest)

/-! ### Log and events -/

/-- Records leave the on-chip queue while ring 27 has room; bytes 8 to 11 take the cycle then (R472). -/
def State.safeDrain : Nat → State → State
  | 0, s => s
  | f + 1, s => match s.safe.log with
    | r :: l =>
      if s.ringRoom 27 then
        let s := s.pushRing 27 (r.take 8 ++ leBytes 4 s.cycle.toNat ++ r.drop 12)
        State.safeDrain f { s with safe := { s.safe with log := l } }
      else s
    | [] => s

/-- A safety record (R472). -/
def State.safeRec (s : State) (st : Bool) (kind num : Nat) : State :=
  let c := s.sch st
  let r := leBytes 1 (b2n st) ++ leBytes 1 kind ++ leBytes 2 num ++ leBytes 4 c.cyc ++ leBytes 4 0 ++ leBytes 2 c.rel ++ leBytes 2 c.stog ++
    leBytes 2 c.filt ++ leBytes 1 c.side ++ leBytes 1 (s.safeState st) ++ List.replicate 12 0
  if 256 ≤ s.safe.log.length then
    let s := s.loseRing 27
    s.flagEvent (safeB st + 0x1C) 1 174 0
  else State.safeDrain 257 { s with safe := { s.safe with log := s.safe.log ++ [r] } }

/-- A channel changes state: events 160 and 161, STATE record. -/
def State.safeEnter (s : State) (st : Bool) (n : Nat) : State :=
  if s.safeState st = n then s
  else ((s.setFld (safeB st) 3 0 n).raise (160 + b2n st) n).safeRec st 9 n

/-- The registers that mirror a channel (Table 12.7). -/
def State.safeRegs (s : State) (st : Bool) : State :=
  let b := safeB st
  let c := s.sch st
  let s := (s.setRg (b + 0x04) (ofNat (c.raw + c.filt * 65536))).setRg (b + 0x08) (ofNat (c.rel + c.wait * 65536))
  let s := (s.setFld (b + 0x0C) 3 0 c.side).setFld (b + 0x0C) 11 4 c.sofb
  let s := (s.setFld (b + 0x0C) 23 16 c.pairs).setRg (b + 0x18) (ofNat c.cyc)
  s.setFld b 31 16 c.stog

/-! ### Safe state -/

/-- The side of a channel on an output, as a pin. -/
def State.driveSides (s : State) (st : Bool) (old new : Nat) : State :=
  (List.range 4).foldl (fun s m => if old.testBit m == new.testBit m then s else s.emit (.pin 13 (2 * m + b2n st) (b2n (new.testBit m)))) s

/-- STO groups that go into demand in PORT ask for mode OFF at the next boundary (R451). -/
def State.demandGroups (s : State) (st : Bool) (old new : Nat) : State :=
  if st then s
  else { s with safe := { s.safe with offG := maskOf 16 (fun g => s.safe.offG.testBit g || (old.testBit g && !new.testBit g)) } }

/-- Sides low, every group and function in demand (R435). -/
def State.safeDown (s : State) (st : Bool) : State :=
  let c := s.sch st
  let s := (s.driveSides st c.side 0).demandGroups st c.stog 0
  (s.setSch st { c with rel := 0, ss1 := 0, stopF := 0, side := 0, stog := 0 }).safeRegs st

/-- A channel in FAULT takes no image: an image on its way is dropped in both (assumption log 31). -/
def State.safeDrop (s : State) : State :=
  match s.safe.load with
  | some (src, d, _) =>
    let s := (s.setSch false { s.safe.p with newImg := none }).setSch true { s.safe.s with newImg := none }
    ({ s with safe := { s.safe with load := none } }.raise 172 0).complete src 0x80 d .busy
  | none => s

/-- An internal fault (Table 12.6): FAULT, FCODE, FAULT_INT; events 169 and 170 for CROSS and PARTNER. -/
def State.safeFault (s : State) (st : Bool) (code : Nat) : State :=
  if s.safeState st = 4 || s.safeState st = 0 then s
  else
    let s := ((s.safeDown st).setFld (safeB st) 15 8 code).safeRec st 7 code
    let s := if code = 0x10 then s.raise 169 (b2n st) else if code = 0x11 then s.raise 170 (b2n st) else s
    (s.safeEnter st 4).safeDrop

/-- A latched external fault: SAFE_FAULT flag, event, FAULT_EXT record. -/
def State.safeExt (s : State) (st : Bool) (bit_ src num : Nat) : State :=
  ((s.setFlag (safeB st + 0x14) bit_).raise src (num + b2n st * 0x10000)).safeRec st 5 num

/-! ### Evaluation (R450) -/

/-- Pairs released in a channel: levels of the input image, no fault of its own or of the partner (R447, R449; log 31). -/
def pairMask (c : SafeCh) (partnerF : Nat) : Nat :=
  maskOf 8 (fun j =>
    let a := c.image.testBit (2 * j)
    let b := c.image.testBit (2 * j + 1)
    let tf := c.testF.testBit (2 * j) || c.testF.testBit (2 * j + 1)
    imgPairEn c.img j && a && (if imgAnti c.img j then !b else b) && !tf && !c.disc.testBit j && !partnerF.testBit j)

/-- Latched faults of a channel by pair. -/
def pairFaults (c : SafeCh) : Nat :=
  maskOf 8 (fun j => c.disc.testBit j || c.testF.testBit (2 * j) || c.testF.testBit (2 * j + 1))

/-- A function counts as released for its groups and outputs: released, or its SS1 delay still runs. -/
def funcHolds (c : SafeCh) (f : Nat) : Bool := c.rel.testBit f || c.ss1.testBit f

/-- Every function that governs an item holds, and there is one. -/
def governed (c : SafeCh) (of_ : Nat → Nat) (k : Nat) : Bool :=
  let fs := (List.range 16).filter (fun f => imgTyp c.img f != 0 && (of_ f).testBit k)
  !fs.isEmpty && fs.all (funcHolds c)

/-- Cycles after a power-up for which the safe state holds: 50 ms on the channel's clock (R435; STBD at its fastest). -/
def holdCycles (st : Bool) : Nat := if st then 207 else 200

/-- The functions of a channel at its output instant. -/
def State.evalFuncs (s : State) (st : Bool) : State :=
  let c := s.sch st
  let partner := (s.sch (!st)).word
  let pm := pairMask c partner.pairF
  let run := s.safeState st = 3 && decide (holdCycles st ≤ c.cyc)
  let ok (f : Nat) : Bool := run && imgTyp c.img f != 0 && (List.range 8).all (fun j => !(imgPairs c.img f).testBit j || pm.testBit j)
  let rel := maskOf 16 (fun f => ok f && !c.wait.testBit f)
  let fell := maskOf 16 (fun f => c.rel.testBit f && !rel.testBit f)
  let rose := maskOf 16 (fun f => !c.rel.testBit f && rel.testBit f)
  let isSS1 (f : Nat) : Bool := imgTyp c.img f == 2
  let ss1 := maskOf 16 (fun f => (c.ss1.testBit f && !rel.testBit f) || (fell.testBit f && isSS1 f))
  let stop := maskOf 16 (fun f => (c.stopF.testBit f && !rel.testBit f) || (fell.testBit f && isSS1 f))
  let wait := maskOf 16 (fun f => c.wait.testBit f || (fell.testBit f && imgAckReq c.img f))
  let s := s.setSch st { c with rel := rel, ss1 := ss1, stopF := if st then 0 else stop, wait := wait, pairs := pm }
  let s := (List.range 16).foldl (fun s f =>
    if fell.testBit f then (s.raise 162 (f + b2n st * 0x10000)).safeRec st 1 f
    else if rose.testBit f then (s.raise 163 (f + b2n st * 0x10000)).safeRec st 2 f else s) s
  s

/-- Groups and outputs follow the functions. -/
def State.applyOutputs (s : State) (st : Bool) : State :=
  let c := s.sch st
  let run := s.safeState st = 3
  let outF := c.outF ||| (s.sch (!st)).word.outF
  let stog := maskOf 16 (fun g => run && governed c (imgGroups c.img) g)
  let side := maskOf 4 (fun m => run && governed c (imgOuts c.img) m && !outF.testBit m)
  let s := (s.driveSides st c.side side).demandGroups st c.stog stog
  let s := s.setSch st { s.sch st with side := side, stog := stog }
  let s := (List.range 16).foldl (fun s g =>
    if c.stog.testBit g == stog.testBit g then s else s.safeRec st (if stog.testBit g then 2 else 1) g) s
  (List.range 4).foldl (fun s m =>
    if c.side.testBit m == side.testBit m then s else s.safeRec st (if side.testBit m then 2 else 1) m) s

/-! ### PDU (R461, R462) -/

/-- The ten bytes of a PDU. -/
def pduBytes (st locked run : Bool) (c : SafeCh) : List Byte :=
  let dg := if run then leAt (sha256 c.img) 0 1 else 0
  let b := leBytes 1 (1 + b2n st * 16 + b2n (!locked) * 32) ++ leBytes 1 c.cnt ++ leBytes 2 c.stog ++ leBytes 2 (65535 - c.stog) ++
    leBytes 1 (if run then imgB c.img 5 else 0) ++ leBytes 1 dg
  let crc := if st then crc16 0x8BB7 0x0000 b else crc16 0x1021 0xFFFF b
  b ++ leBytes 2 crc.toNat

/-- CNT advances and the PDU goes to its mailbox. -/
def State.writePdu (s : State) (st : Bool) : State :=
  let c := s.sch st
  let c : SafeCh := { c with cnt := (c.cnt + 1) % 256 }
  let p := pduBytes st (s.flag (safeB st) 4) (!c.img.isEmpty) c
  let s := (s.setSch st c).setRg (safeB st + 0x10) (ofNat (c.stog + c.cnt * 65536))
  if st then { s with safe := { s.safe with mbxS := p } } else { s with safe := { s.safe with mbxP := p } }

/-! ### Cross-comparison (R458 to R460) -/

def State.resultWord (s : State) (st : Bool) : SafeWord :=
  let c := s.sch st
  { filt := c.filt, pairs := c.pairs, pairF := pairFaults c, outF := c.outF, rel := c.rel, wait := c.wait, stog := c.stog,
    outs := c.side, cyc := c.cyc, acks := c.acks, digest := if c.img.isEmpty then [] else sha256 c.img }

/-- The items of two words that differ: 0 + inputs, 16 + pairs, 32 + functions, 48 + waiting, 64 + groups, 80 + outputs, 96. -/
def wordDiffs (a b : SafeWord) : List Nat :=
  let d (base n x y : Nat) : List Nat := ((List.range n).filter (fun k => x.testBit k != y.testBit k)).map (fun k => base + k)
  d 0 16 a.filt b.filt ++ d 16 8 a.pairs b.pairs ++ d 32 16 a.rel b.rel ++ d 48 16 a.wait b.wait ++ d 64 16 a.stog b.stog ++
    d 80 4 a.outs b.outs ++ (if a.digest == b.digest then [] else [96])

/-- Filter time of an input, µs. -/
def imgTf (i : List Byte) (k : Nat) : Nat := 250 * 2 ^ (imgB i (0x10 + k) / 8 % 8)
def maxL (l : List Nat) : Nat := l.foldl max 0
def pairTime (i : List Byte) (j : Nat) : Nat := max (imgTf i (2 * j)) (imgTf i (2 * j + 1))
def funcTime (i : List Byte) (f : Nat) : Nat := maxL (((List.range 8).filter (fun j => (imgPairs i f).testBit j)).map (pairTime i))
def outTime (i : List Byte) (fs : List Nat) : Nat := maxL (fs.map (fun f => max (funcTime i f) (if imgTyp i f = 2 then imgDelay i f * 10000 else 0)))

/-- Longest filter time or SS1 delay from which an item derives, µs. -/
def itemTime (i : List Byte) (k : Nat) : Nat :=
  if k < 16 then imgTf i k
  else if k < 24 then pairTime i (k - 16)
  else if k < 48 then funcTime i (k - 32)
  else if k < 64 then funcTime i (k - 48)
  else if k < 80 then outTime i ((List.range 16).filter (fun f => (imgGroups i f).testBit (k - 64)))
  else if k < 84 then outTime i ((List.range 16).filter (fun f => (imgOuts i f).testBit (k - 80)))
  else 0

/-- A channel in RUN compares at its cycle start. -/
def State.crossCheck (s : State) (st : Bool) : State :=
  let c := s.sch st
  let w := (s.sch (!st)).word
  let stale := if w.cyc = c.seen then c.stale + 1 else 0
  let ds := wordDiffs c.word w
  let diffs : Tab Nat := ds.map (fun k => (k, Tab.get 0 c.diffs k + 1))
  let late := diffs.any (fun e => 16 * 500 + itemTime c.img e.1 < 16 * 250 * e.2)
  let s := (s.setSch st { c with stale := stale, seen := w.cyc, diffs := diffs }).putFlag (safeB st) 5 (ds.isEmpty && stale == 0)
  if s.safeState st = 3 then (if 2 ≤ stale then s.safeFault st 0x11 else if late then s.safeFault st 0x10 else s) else s

/-! ### The cycle (R434) -/

/-- An image takes effect (R441, R442): functions in demand, RUN, digest registers, event 171. -/
def State.imageStart (s : State) (st : Bool) : State :=
  let c := s.sch st
  match c.newImg with
  | none => s
  | some i =>
    let dg := sha256 i
    let s := s.safeDown st
    let wait := maskOf 16 (fun f => imgTyp i f != 0 && imgAckReq i f)
    let c := s.sch st
    let s := s.setSch st { c with img := i, newImg := none, wait := wait, testF := 0, testOk := 0, disc := 0, discDem := 0, outF := 0, ackStuck := false, ackWait := none, diffs := [] }
    let s := (List.range 8).foldl (fun s k => s.setRg (safeB st + 0x20 + 4 * k) (ofNat (leAt dg (4 * k) 4))) s
    let s := s.putFlag (safeB st) 4 (s.groupState 4 == 2 && dg == s.safeDigest)
    let s := ((s.raise 171 (b2n st)).safeRec st 8 0).safeEnter st 3
    match s.safe.load with
    | some (src, d, w) =>
      if (s.sch (!st)).img = i && dg = w then ({ s with safe := { s.safe with load := none } }).complete src 0x80 d .ok else s
    | none => s

/-- SAFETY_CYCLE_START: raw samples and SOFB levels as the channel reads them. -/
def State.safetyCycle (s : State) (st : Bool) (raw sofb : Nat) : State :=
  let n := s.safeState st
  if n = 0 || !s.chanOn st then s
  else
    let c := s.sch st
    let s := s.setSch st { c with cyc := (c.cyc + 1) % 2 ^ 32, raw := raw, sofb := sofb }
    let s := if (n = 2 || n = 3) && c.newImg.isSome then s.imageStart st else (s.evalFuncs st).applyOutputs st
    let s := s.writePdu st
    let s := s.setSch st { s.sch st with word := s.resultWord st }
    let s := s.crossCheck st
    let c := s.sch st
    let low := match imgAck c.img with | some k => c.ackStuck && (c.ackLow || (!c.image.testBit k && !c.filt.testBit k)) | none => false
    let aw := match c.ackWait with | some w => if (s.sch (!st)).word.acks = w.2 then some w else none | none => none
    (s.setSch st { c with image := c.filt, ackLow := low, ackWait := aw }).safeRegs st

def execSafetyCycleStart (stbd : Bool) (inputs : BitVec 16) (sofb : Byte) (s : State) : Host.Outcome State Fault Refusal :=
  .next (s.safetyCycle stbd inputs.toNat sofb.toNat)

/-- Pairs with DISCREP whose two inputs show the demand state, or have since the fault (R447). -/
def demSeen (c : SafeCh) : Nat :=
  let both (j : Nat) : Bool := !c.filt.testBit (2 * j) && (if imgAnti c.img j then c.filt.testBit (2 * j + 1) else !c.filt.testBit (2 * j + 1))
  maskOf 8 (fun j => c.disc.testBit j && (c.discDem.testBit j || both j))

/-- SAFETY_INPUT_FILTER_CHANGE (R446). -/
def State.inputFilter (s : State) (st : Bool) (k : Nat) (lvl : Bool) : State :=
  let c := s.sch st
  if s.safeState st = 0 || !s.chanOn st then s
  else
    let c : SafeCh := { c with filt := maskOf 16 (fun n => if n = k then lvl else c.filt.testBit n) }
    (s.setSch st { c with discDem := demSeen c }).safeRegs st

def execSafetyInputFilterChange (stbd : Bool) (input : Fin 16) (level : Bool) (s : State) : Host.Outcome State Fault Refusal :=
  .next (s.inputFilter stbd input.val level)

/-- A source is driven low for 200 µs by the channel that owns it (R448); an input of its own that read high before and
never low in the last 100 µs fails (R449). -/
def State.testPulse (s : State) (src : Nat) (before lows : Nat) : State :=
  let st := decide (2 ≤ src)
  if s.safeState st ≠ 3 then s
  else
    let s := (s.emit (.pin 12 src 0)).emit (.pin 12 src 1)
    (List.range 16).foldl (fun s k =>
      let c := s.sch st
      if imgSrc c.img k ≠ src + 1 then s
      else if before.testBit k && !lows.testBit k then
        if c.testF.testBit k then s.setSch st { c with testOk := maskOf 16 (fun n => c.testOk.testBit n && n != k) }
        else (s.setSch st { c with testF := c.testF + 2 ^ k, testOk := maskOf 16 (fun n => c.testOk.testBit n && n != k) }).safeExt st (k / 2) 166 (k / 2)
      else if c.testF.testBit k && lows.testBit k then s.setSch st { c with testOk := maskOf 16 (fun n => c.testOk.testBit n || n == k) }
      else s) s

def execTestPulse (source : Fin 4) (before lows : BitVec 16) (s : State) : Host.Outcome State Fault Refusal :=
  .next (s.testPulse source.val before.toNat lows.toNat)

/-- DISCREPANCY_TIMEOUT (R447). -/
def State.discrepancy (s : State) (st : Bool) (j : Nat) : State :=
  let c := s.sch st
  let a := c.filt.testBit (2 * j)
  let b := c.filt.testBit (2 * j + 1)
  if s.safeState st = 3 && imgPairEn c.img j && (if imgAnti c.img j then a == b else a != b) && !c.disc.testBit j then
    (s.setSch st { c with disc := c.disc + 2 ^ j, discDem := maskOf 8 (fun n => c.discDem.testBit n && n != j) }).safeExt st j 167 j
  else s

def execDiscrepancyTimeout (stbd : Bool) (pair : Fin 8) (s : State) : Host.Outcome State Fault Refusal := .next (s.discrepancy stbd pair.val)

/-! ### Acknowledge (R452 to R454) -/

/-- Latched external faults whose cause has gone are cleared (R453). -/
def State.clearFaults (s : State) (st : Bool) : State :=
  let c := s.sch st
  let tGone := maskOf 16 (fun k => c.testF.testBit k && c.testOk.testBit k)
  let dGone := maskOf 8 (fun j => c.disc.testBit j && c.discDem.testBit j)
  let oGone := maskOf 4 (fun m => c.outF.testBit m && c.sofb.testBit (2 * m + b2n st) == c.side.testBit m)
  let c' : SafeCh := { c with testF := c.testF - tGone, testOk := c.testOk - tGone, disc := c.disc - dGone, discDem := c.discDem - dGone }
  let s := s.setSch st { c' with outF := c.outF - oGone }
  let s := (List.range 8).foldl (fun s j => if tGone.testBit (2 * j) || tGone.testBit (2 * j + 1) || dGone.testBit j then s.safeRec st 6 j else s) s
  (List.range 4).foldl (fun s m => if oGone.testBit m then s.safeRec st 6 m else s) s

/-- ACK_ACCEPT: the falling edge after a high level of 100 ms to 3 s. -/
def State.ackAccept (s : State) (st : Bool) : State :=
  let c := s.sch st
  if s.safeState st ≠ 3 || (imgAck c.img).isNone || (c.ackStuck && !c.ackLow) then s
  else
    let wasStuck := c.ackStuck
    let c' : SafeCh := { c with wait := 0, acks := c.acks + 1, ackStuck := false, ackLow := false }
    let partner := (s.sch (!st)).word.acks
    let s := s.setSch st { c' with ackWait := if partner = c.acks + 1 then none else some (c.wait, partner) }
    let s := (s.raise 164 (b2n st)).safeRec st 3 0
    (if wasStuck then s.safeRec st 6 3 else s).clearFaults st |>.safeRegs st

def execAckAccept (stbd : Bool) (s : State) : Host.Outcome State Fault Refusal := .next (s.ackAccept stbd)

/-- ACK_STUCK: a high level longer than 3 s. -/
def State.ackStuckAt (s : State) (st : Bool) : State :=
  let c := s.sch st
  match imgAck c.img with
  | some k =>
    if s.safeState st = 3 && c.filt.testBit k && !c.ackStuck then
      (s.setSch st { c with ackStuck := true, ackLow := false }).safeExt st 12 165 3
    else s
  | none => s

def execAckStuck (stbd : Bool) (s : State) : Host.Outcome State Fault Refusal := .next (s.ackStuckAt stbd)

/-- ACK_SPLIT (R454): the partner has not accepted; the acknowledge is withdrawn. -/
def State.ackSplit (s : State) (st : Bool) : State :=
  let c := s.sch st
  match c.ackWait with
  | some w =>
    let wait := c.wait ||| w.1
    let c' : SafeCh := { c with wait := wait, acks := c.acks - 1, ackWait := none }
    let s := (s.setSch st c').setFlag (safeB st + 0x14) 13
    ((s.raise 165 (4 + b2n st * 0x10000)).safeRec st 4 0).safeRegs st
  | none => s

def execAckSplit (stbd : Bool) (s : State) : Host.Outcome State Fault Refusal := .next (s.ackSplit stbd)

/-- SS1_DELAY_EXPIRY (R450): the groups and outputs follow at the next output instant. -/
def State.ss1Expiry (s : State) (st : Bool) (f : Nat) : State :=
  let c := s.sch st
  s.setSch st { c with ss1 := maskOf 16 (fun n => c.ss1.testBit n && n != f) }

def execSs1DelayExpiry (stbd : Bool) (func : Fin 16) (s : State) : Host.Outcome State Fault Refusal := .next (s.ss1Expiry stbd func.val)

/-! ### Safe outputs (R456, R457) -/

/-- OUTFAIL of an output in a channel. -/
def State.outFail (s : State) (st : Bool) (m : Nat) : State :=
  let c := s.sch st
  if s.safeState st ≠ 3 || c.outF.testBit m then s
  else (s.setSch st { c with outF := c.outF + 2 ^ m }).safeExt st (8 + m) 168 m

def execReadbackTimeout (stbd : Bool) (output : Fin 4) (s : State) : Host.Outcome State Fault Refusal := .next (s.outFail stbd output.val)

/-- DARK_TEST: a high side is driven low for the dark-test width; `fell`: the readback went low within it. -/
def State.darkTest (s : State) (st : Bool) (m : Nat) (fell : Bool) : State :=
  let c := s.sch st
  if s.safeState st = 3 && imgB c.img (0xB0 + 4 * m) % 2 = 1 && c.side.testBit m then
    let s := (s.emit (.pin 13 (2 * m + b2n st) 0)).emit (.pin 13 (2 * m + b2n st) 1)
    if fell then s else s.outFail st m
  else s

def execDarkTest (stbd : Bool) (output : Fin 4) (fell : Bool) (s : State) : Host.Outcome State Fault Refusal :=
  .next (s.darkTest stbd output.val fell)

/-! ### Channel states -/

/-- SAFETY_SELFTEST_DONE (Table 12.1). -/
def State.selftestDone (s : State) (st pass : Bool) : State :=
  if s.safeState st ≠ 1 || !s.chanOn st then s
  else if pass then s.safeEnter st 2
  else s.safeFault st 0x13

def execSafetySelftestDone (stbd pass : Bool) (s : State) : Host.Outcome State Fault Refusal := .next (s.selftestDone stbd pass)

/-- SAFETY_INTERNAL_FAULT (Table 12.6): SELFTEST, ECC, or a partner's cycle period out of bounds (R460). -/
def execSafetyInternalFault (stbd : Bool) (code : Fin 3) (s : State) : Host.Outcome State Fault Refusal :=
  .next (s.safeFault stbd (if code.val = 0 then 0x13 else if code.val = 1 then 0x14 else 0x11))

/-- STBD is reset: outputs low, state INIT (R587). -/
def State.clearStbd (s : State) : State :=
  let s := s.driveSides true s.safe.s.side 0
  { s with regs := Tab.clearRange s.regs SAFES_B (SAFES_B + 0x10000), safe := { s.safe with s := {}, mbxS := [] } }

/-- The channels begin their self-tests (INIT); a CXM-256-IN has none (OFF, R2). -/
def State.startSafety (s : State) : State :=
  if s.isIC then s else (s.setFld SAFEP_B 3 0 0).setFld SAFES_B 3 0 0

/-- STO_REPORT_CHECK (R465): nodes with an axis in a demanded group that do not report STO raise event 173. -/
def State.stoCheck (s : State) (g : Nat) : State :=
  let dem := !s.safe.p.stog.testBit g || !s.safe.s.stog.testBit g
  let nodes := (s.pilot.act.axes.filter (fun p => !p.isLocal && imgAxg s.safe.p.img p.axis == some g)).map (fun p => p.node)
  if s.safeState false = 3 && dem then nodes.eraseDups.foldl (fun s n => if bit (ofNat (s.node n).nstat) 1 then s else s.raise 173 n) s else s

def execStoReportCheck (group : Fin 16) (s : State) : Host.Outcome State Fault Refusal := .next (s.stoCheck group.val)

/-! ### What PORT asks of PROF and LANE at a boundary (R437, R450, R451, R392) -/

/-- The strongest stop that stands for an axis: deceleration as Q8.24. -/
def State.stopDec (s : State) (a : Nat) : Option Int :=
  let c := s.safe.p
  match imgAxg c.img a with
  | none => none
  | some g =>
    let l := (List.range 16).filter (fun f => c.stopF.testBit f && (imgGroups c.img f).testBit g)
    if l.isEmpty then none
    else some (sat 32 (divRnd ((s.pn a 0x303 * maxL (l.map (imgDec c.img)) : Nat) : Int) 256))

/-- Safety stop of an axis at a boundary. -/
def State.safeStop (s : State) (a : Nat) : State :=
  let p := s.prof a
  match s.stopDec a with
  | some dec =>
    if p.st = 0 then s
    else if p.st = 0xC then s.setProf a { p with safeDec := dec, safeReq := true }
    else
      let s := if 1 ≤ p.home && p.home ≤ 6 then s.homeFail a 4 else s
      let s := if (s.prof a).home = 0 then s else s.homeEnd a
      let s := s.flushQueue a
      s.setProf a { s.prof a with st := 0xC, dec := dec, safeDec := dec, safeReq := true }
  | none => if p.safeReq then s.setProf a { p with safeReq := false } else s

/-- The mode request OFF of an axis whose group is among those that PORT switches off. -/
def State.safeOff (s : State) (a off : Nat) : State :=
  match imgAxg s.safe.p.img a with | some g => if off.testBit g then s.request a 0 else s | none => s

/-- PORT's requests of a boundary. -/
def State.safeBoundary (s : State) : State :=
  let off := s.safe.offG
  let s := { s with safe := { s.safe with offG := 0 } }
  let s : State := s.pilot.act.axes.foldl (fun (s : State) p =>
    (s.safeOff p.axis off).safeStop p.axis) s
  State.safeDrain 257 s

/-! ### Commands -/

/-- SAFE_STATUS (R471). -/
def State.safeStatus (s : State) (src : Src) (d : Desc) : State :=
  s.complete src 0x81 d .ok (s.rg SAFEP_B).toNat (s.rg SAFES_B).toNat

def execSafeStatus (src : Src) (d : Desc) (s : State) : Host.Outcome State Fault Refusal :=
  .next (s.cmd src 0x81 d fun s => s.soon src 0x81 d [] fun s => s.safeStatus src d)

/-- A channel may take an image now (R440): NOCFG, or RUN with everything in demand in both. -/
def State.imageReady (s : State) (st : Bool) : Bool :=
  let idle := s.safe.p.stog == 0 && s.safe.p.side == 0 && s.safe.s.stog == 0 && s.safe.s.side == 0
  s.safeState st == 2 || (s.safeState st == 3 && idle)

/-- SAFE_CONFIG_LOAD (R440, R441, R443). -/
def State.safeLoad (s : State) (src : Src) (d : Desc) (img : List Byte) : State :=
  let i := slice img 0 512
  let rej (st : St) : State := ((s.raise 172 0).complete src 0x80 d st)
  if !s.isIC then s.complete src 0x80 d .pdOff
  else if d.op2.toNat ≠ 512 || !imageOk s.mgrId i then rej .badOperand
  else if !s.digestOk (sha256 i) then rej .authFail
  else
    let p := s.imageReady false
    let t := s.imageReady true
    if p && t then
      let s := (s.setSch false { s.safe.p with newImg := some i }).setSch true { s.safe.s with newImg := some i }
      { s with safe := { s.safe with load := some (src, d, sha256 i) } }
    else if p || t then (((s.safeFault false 0x12).safeFault true 0x12).raise 172 0).complete src 0x80 d .busy
    else rej .busy

def execSafeConfigLoad (src : Src) (d : Desc) (image : Option (List Byte)) (s : State) : Host.Outcome State Fault Refusal :=
  .next (s.cmd src 0x80 d fun s => match image with
    | some i => s.soon src 0x80 d i fun s => s.safeLoad src d i
    | none => s.complete src 0x80 d .dmaFail)

end Sys2Proof.Machine
end

