-- ==== Sys2Proof/Machine/Boot.lean ====
section
/-! DEFINITION. Fuses, resets, clocks, boot, power domains and in-service tests (spec 16 R581, R582; spec 17). -/

namespace Sys2Proof.Machine

open Sys2Proof

abbrev TOP_RSTCTL : Nat := TOP_B + 0x8
abbrev TOP_BOOT : Nat := TOP_B + 0xC
abbrev TOP_THERM : Nat := TOP_B + 0x1C
abbrev TOP_SUPPLY : Nat := TOP_B + 0x20
abbrev TOP_FLAGS : Nat := TOP_B + 0x24
abbrev KEEL_PROG : Nat := KEEL_B + 0x4
abbrev KEEL_FLAGS : Nat := KEEL_B + 0x8

/-! ### Fuses (R600 to R605) -/

/-- Fused value of a one-word group for its register (R602, R603). -/
def State.fusedReg (s : State) (g w all : Nat) : Nat :=
  if s.groupState g = 3 then all else s.wordVal w % (all + 1)

/-- The registers KEEL_DEBUG and KEEL_ACCESS take the fused values of their groups where `p` asks for it. -/
def State.loadFused (s : State) (p : Nat → Bool) : State :=
  let s := if p 2 then s.setRg (KEEL_B + 0xC) (ofNat (s.fusedReg 2 2 7)) else s
  if p 3 then s.setRg KEEL_ACCESS (ofNat (s.fusedReg 3 3 0x1FFFFFF)) else s

/-- KEEL reads and classifies all words (R602). -/
def State.keelLoad (s : State) : State :=
  let cls := (List.range 64).foldl (fun t w => Tab.set 0 t w (s.wordClass w)) []
  let val := (List.range 64).foldl (fun t w => Tab.set 0 t w (s.wordVal w)) []
  ({ s with boot := { s.boot with kcls := cls, kval := val } }).loadFused (fun _ => true)

/-- A reset while KEEL_PROGRAM runs (R605): the word is left unprogrammed or faulty, which one is not stated (log 2). -/
def State.keelInterrupted (s : State) : State :=
  match s.boot.keelJob with
  | some (_, d) =>
    let keep := (Config.freeWord s.free).toNat
    let t := d.op0.toNat &&& keep &&& 0xFFFFFFFE
    let c := (2 ^ 32 - 1 - d.op0.toNat) &&& keep &&& 0xFFFFFFFE
    { s with boot := { s.boot with fuseT := Tab.set 0 s.boot.fuseT d.tgt t, fuseC := Tab.set 0 s.boot.fuseC d.tgt c, keelJob := none },
             free := s.free + 1 }
  | none => s

/-! ### Resets (Table 17.1) -/

/-- The state after reset, but for what no reset touches: the queue, what has left the chip, the free values drawn, the fuses,
the straps and supplies outside the chip. -/
def State.blank (s : State) : State :=
  { State.reset with pending := s.pending, free := s.free, out := s.out, net := { State.reset.net with sfp := s.net.sfp },
                     boot := { State.reset.boot with fuseT := s.boot.fuseT, fuseC := s.boot.fuseC, vpp := s.boot.vpp,
                                                     prefB := s.boot.prefB, hasFlash := s.boot.hasFlash,
                                                     booted := s.boot.booted } }

/-- BPn_TXDIS goes high on the enabled ports of a list as their PORT_CFG clears (R103). -/
def State.portsOff (s : State) (l : List Nat) : State :=
  (l.filter (fun p => s.portEn p)).foldl (fun (s : State) p => s.emit (.pin 15 p 1)) s

/-- What a reset of everything leaves: the reset state, with what lies outside the block's registers and memories (fuses,
flash, pins, the queue and the model's own counters) kept. -/
def State.clearAll (s : State) : State :=
  let s := s.keelInterrupted
  let own := s.flag HELM_STAT 3
  let peer := s.flag HELM_STAT 4
  let s := (s.driveSides false s.safe.p.side 0).driveSides true s.safe.s.side 0
  let s := (if own then s.driveHelm false else s).portsOff (List.range 16)
  let s := if s.powered 6 then s.gatesAll (-1) else s
  let s := s.blank.keelLoad
  if peer then (s.setFlag HELM_STAT 4).setFlag HELM_STAT 5 else s

/-- Reset 0x1: everything, TOP_RSTCAUSE included. -/
def execPowerOnReset (s : State) : Host.Outcome State Fault Refusal := .next s.clearAll

/-- Start-up (Table 17.2): fuses verified, PLLs locked, domains powered, harts 0 and 1 and the safety channels start. -/
def State.startUp (s : State) : State :=
  let s := s.keelLoad
  let s := (s.setRg TOP_CLK 0x1F).setFlag TIME_STAT 0
  let s := s.setRg TOP_PDSTAT (if s.variant == 2 then 0x7F else 0xFF)
  let s := s.setRg TOP_SUPPLY (if s.boot.vpp then 0xFF else 0x7F)
  let s := (s.setFld TOP_BOOT 6 5 s.boot.bootsel).setFld TOP_BOOT 2 0 (if s.boot.bootsel = 1 then 2 else 1)
  { s with cpu := { s.cpu with running := [0, 1] } }.startSafety.gatesAll 0

/-- Resets 0x2, 0x7 and 0x9: everything but TOP_RSTCAUSE; then the chip starts as from the release of POR (DEDUCED, assumption
log 32). A chip that POR holds stays as it is. -/
def State.fullReset (s : State) (code : Nat) : State :=
  if s.boot.porHeld then s
  else
    let w := s.rg TOP_RSTCAUSE
    let b := s.boot
    let s := s.clearAll.setRg TOP_RSTCAUSE w
    ({ s with boot := { s.boot with porHeld := false, vppBoot := b.vppBoot, bootsel := b.bootsel } }.startUp).recordReset code

def execResetN (s : State) : Host.Outcome State Fault Refusal := .next (s.fullReset 2)

/-- CHIP_RESET: TOP_RSTCTL written with the key and CHIP (Table 17.4); any other write to CHIP is ignored. -/
def State.chipReset (s : State) (w : Word) : State :=
  if bits w 31 16 = 0x4B45 && bit w 0 then s.fullReset 9 else s.setFld TOP_RSTCTL 15 8 (bits w 15 8)

def execChipReset (value : Word) (s : State) : Host.Outcome State Fault Refusal := .next (s.chipReset value)

/-- HELM_FORCED_RESET (Table 17.1 code 0x7): GATED for GATED_MS ms; 0 disables it. -/
def execHelmForcedReset (s : State) : Host.Outcome State Fault Refusal :=
  .next (if s.helmState = 4 && s.fld TOP_RSTCTL 15 8 != 0 then s.fullReset 7 else s)

/-- The host side is cleared (codes 0x3, 0x4, 0xA; R53): HOST registers, rings, MSI-X, staged CYC writes. Commands in
progress lose their completions. -/
def State.clearHost (s : State) : State :=
  { s with regs := Tab.clearRange s.regs HOST_B (HOST_B + 0x10000),
           host := { ({} : HostSt) with plan := s.host.plan, planUsed := s.host.planUsed, planSeq := s.host.planSeq, due := s.host.due,
                                        lost := s.host.lost ++ s.host.taken, linkUp := false },
           pilot := { s.pilot with cmd := none, commitCmd := none, stopReq := [] } }

def execPerst (s : State) : Host.Outcome State Fault Refusal := .next (s.clearHost.recordReset 3)

/-- FLR clears as PERST# but keeps the link's training state. -/
def State.flr (s : State) : State :=
  let up := s.host.linkUp
  let link := s.rg (HOST_B + 0x18)
  let s := s.clearHost
  ({ s with host := { s.host with linkUp := up } }.setRg (HOST_B + 0x18) link).recordReset 4

def execFlr (s : State) : Host.Outcome State Fault Refusal := .next s.flr

def execPcieLinkLoss (s : State) : Host.Outcome State Fault Refusal := .next (s.clearHost.recordReset 0xA)

/-- PCIE_LINK_UP: HOST_LINK shows speed and width (Table 2.5); the function answers again. -/
def execPcieLinkUp (speed : Fin 4) (width : Fin 5) (s : State) : Host.Outcome State Fault Refusal :=
  .next (if s.powered 5 then
      ({ s with host := { s.host with linkUp := true } }).setFld (HOST_B + 0x18) 8 0 (speed.val + 16 * width.val) else s)

/-- A lane domain is cleared; customer pages A and B come from the lowest powered lane of the other domain, or read 0 and
leave every customer list unchecked (R598). -/
def State.clearLaneDom (s : State) (lo other : Nat) : State :=
  let s := { (s.clearLanes lo (lo + 8)) with regs := Tab.clearRange s.regs (LANEN_B + lo * 0x1000) (LANEN_B + (lo + 8) * 0x1000) }
  if s.powered (other / 8) then
    let pages := (s.lane other).man.filter (fun e => 0x1000 ≤ e.1)
    (List.range 8).foldl (fun s k => s.setLane (lo + k) { s.lane (lo + k) with man := pages }) s
  else (List.range 48).foldl (fun s k => s.setFld (LANE_B + 0x840 + 4 * k) 19 16 0xF) s

/-- A domain's blocks and memories are cleared (code 0x8). The guardian registers of a port are the star's, in PD_AON (Table 1.1). -/
def State.clearDomain (s : State) (c : Nat) : State :=
  let clr (s : State) (lo hi : Nat) : State := { s with regs := Tab.clearRange s.regs lo hi }
  match c with
  | 0 => s.clearLaneDom 0 8
  | 1 => s.clearLaneDom 8 0
  | 3 => ((List.range 8).foldl (fun s p => clr s (pCfg p) (pCfg p + 0x20)) (s.portsOff (List.range 8))).runStops
  | 4 => ((List.range 8).foldl (fun s p => clr s (pCfg (8 + p)) (pCfg (8 + p) + 0x20)) (s.portsOff ((List.range 8).map (· + 8)))).runStops
  | 5 => s.clearHost
  | 6 => s.canFlush.clearLocal
  | 7 => s.clearStbd
  | _ => s

/-- PER_DOMAIN_RESET: TOP_PDRST bits of powered domains, but for codes 2 and 7 (Table 17.4). -/
def State.domainReset (s : State) (w : Word) : State :=
  let cs := (List.range 8).filter (fun c => bit w c && s.powered c && c != 2 && c != 7)
  if cs.isEmpty then s else (cs.foldl (fun s c => s.clearDomain c) s).recordReset 8

def execPerDomainReset (value : Word) (s : State) : Host.Outcome State Fault Refusal := .next (s.domainReset value)

/-! ### Start-up, clocks and monitors (R588 to R590) -/

/-- POR_RELEASE (Table 17.2): start-up; VPP present at it bars KEEL_PROGRAM until the next POR (R588). -/
def State.porRelease (s : State) (bootsel : Nat) (vpp : Bool) : State :=
  if !s.boot.porHeld then s
  else
    let s := { s with boot := { s.boot with porHeld := false, vpp := vpp, vppBoot := vpp, bootsel := bootsel, tries := 0 } }.startUp
    let s := if vpp then s.setFlag KEEL_FLAGS 1 else s
    s.raise 251 (s.fld TOP_RSTCAUSE 3 0)

def execPorRelease (bootsel : BitVec 2) (vpp : Bool) (s : State) : Host.Outcome State Fault Refusal :=
  .next (s.porRelease bootsel.toNat vpp)

/-- PLL_N_LOCK_LOSS (R590, check 0x01): origination stops until the PLL locks again. -/
def execPllNLockLoss (s : State) : Host.Outcome State Fault Refusal :=
  .next (((((((s.clrFlag TOP_CLK 0).clrFlag TIME_STAT 0).clrFlag TIME_STAT 1).setFlag TOP_FLAGS 1).raise 32 0)).diagFail 1)

/-- PLL_C_LOCK_LOSS (R590): the harts stop. -/
def execPllCLockLoss (s : State) : Host.Outcome State Fault Refusal :=
  .next (((s.clrFlag TOP_CLK 1).setFlag TOP_FLAGS 1).raise 241 0)

/-- PLL_RELOCK: the harts continue, or origination may restart by R154. -/
def execPllRelock (isN : Bool) (s : State) : Host.Outcome State Fault Refusal :=
  .next (if isN then (s.setFlag TOP_CLK 0).setFlag TIME_STAT 0 else s.setFlag TOP_CLK 1)

/-- CLOCK_MONITOR_FAULT (R590): CK_STBD out of tolerance, or check 0x0A. -/
def execClockMonitorFault (which : Fin 3) (s : State) : Host.Outcome State Fault Refusal :=
  .next (if which.val = 0 then (s.clrFlag TOP_CLK 2).raise 242 0 else (s.clrFlag TOP_CLK (2 + which.val)).diagFail 0xA)

/-- SUPPLY_MONITOR_TRIP (R615, Table 17.4): event 245; VDD_STBD resets STBD and faults PORT (PARTNER); check 0x09. VPP is not a monitored supply of the check; a CXM-256-IN
ignores VDD_STBD (R610). -/
def State.supplyTrip (s : State) (k : Nat) : State :=
  if s.flag TOP_SUPPLY k && !(k = 2 && s.variant == 2) then
    let s := ((s.clrFlag TOP_SUPPLY k).setFlag TOP_FLAGS 3).raise 245 k
    let s := if k = 7 then { s with boot := { s.boot with vpp := false } } else s
    let s := if k = 2 then s.clearStbd.safeFault false 0x11 else s
    if k = 7 then s else s.diagFail 9
  else s

def execSupplyMonitorTrip (rail : Fin 8) (s : State) : Host.Outcome State Fault Refusal := .next (s.supplyTrip rail.val)

/-- SUPPLY_RAIL_RETURN (R615): the bit is set again; VDD_STBD releases the PD_STBD reset, VPP becomes present. -/
def State.railReturn (s : State) (k : Nat) : State :=
  if s.flag TOP_SUPPLY k then s
  else
    let s := s.setFlag TOP_SUPPLY k
    if k = 7 then { s with boot := { s.boot with vpp := true } }
    else if k = 2 then s.startSafety else s

def execSupplyRailReturn (rail : Fin 8) (s : State) : Host.Outcome State Fault Refusal := .next (s.railReturn rail.val)

/-- THERMAL_CROSSING (Table 17.4): Tj against WARN and CRIT; events 243 and 244, check 0x08. -/
def State.thermal (s : State) (tj : BitVec 8) : State :=
  let t := tj.toInt
  let warn := decide (wrapS 8 (s.fld TOP_THERM 15 8) < t)
  let crit := decide (wrapS 8 (s.fld TOP_THERM 23 16) < t)
  let w0 := s.flag TOP_THERM 24
  let c0 := s.flag TOP_THERM 25
  let s := ((s.setFld TOP_THERM 7 0 tj.toNat).putFlag TOP_THERM 24 warn).putFlag TOP_THERM 25 crit
  let s := if warn && !w0 then (s.setFlag TOP_FLAGS 2).raise 243 tj.toNat else s
  if crit && !c0 then ((s.setFlag TOP_FLAGS 2).raise 244 tj.toNat).diagFail 8 else s

def execThermalCrossing (tj : BitVec 8) (s : State) : Host.Outcome State Fault Refusal := .next (s.thermal tj)

/-! ### Images (R592 to R596) -/

/-- R593: verification of an image; 0 when it verifies, else the failure code. `fw` is the FWHASH group's state and value. -/
def verifyImage (fwState : Nat) (fwHash : List Byte) (img : List Byte) : Nat :=
  let len := leAt img 8 4
  let sup := leAt img 12 4
  let cust := leAt img 20 4
  let resv := leAt img 28 4 == 0 && (slice img 192 64).all (fun b => b == 0)
  if !(slice img 0 4 == [0x43, 0x58, 0x46, 0x57] && leAt img 4 2 == 1 && resv) then 1
  else if !(len == 256 + sup + cust && sup ≤ 0x100000 && cust ≤ 0x100000 && len ≤ 2097408 && len ≤ img.length) then 2
  else if fwState = 3 || (fwState != 0 && sha256 (slice img 64 64) != fwHash) then 3
  else if !ecdsaVerify (sha256 (slice img 0 64)) (ofBE (slice img 64 32)) (ofBE (slice img 96 32)) (ofBE (slice img 128 32))
      (ofBE (slice img 160 32)) then 4
  else if sha256 ((img.take len).drop 256) != slice img 32 32 then 5
  else 0

/-- FWHASH as the blocks see it: bytes 4w to 4w + 3 of the digest in word 0x18 + w. -/
def State.fwHash (s : State) : List Byte := ((List.range 8).map (fun k => leBytes 4 (Tab.get 0 s.boot.kval (0x18 + k)))).flatten

def State.checkImage (s : State) (img : List Byte) : Nat := verifyImage (s.groupState 6) s.fwHash img

/-- Words of bytes, by index, zero words left out. -/
def wordCells (base : Nat) : Nat → Nat → List Byte → Tab Nat
  | 0, _, _ => []
  | f + 1, k, l =>
    if l.isEmpty then []
    else
      let w := leAt l 0 4
      let r := wordCells base f (k + 1) (l.drop 4)
      if w = 0 then r else (base + k, w) :: r

/-- An image that verified is loaded and runs (R592, Table 17.11): supervisor and customer sections, harts 2 and 3. -/
def State.bootImage (s : State) (img : List Byte) (slot fallback : Bool) : State :=
  let sup := leAt img 12 4
  let cust := leAt img 20 4
  let body := img.drop 256
  let mem := wordCells 0 (sup / 4 + 1) 0 (body.take sup) ++ wordCells 0x40000 (cust / 4 + 1) 0 ((body.drop sup).take cust)
  let run := if cust = 0 then [0, 1] else [0, 1, 2, 3]
  let s := { s with boot := { s.boot with booted := img },
                    cpu := { s.cpu with sram := mem, running := run, custImage := decide (cust ≠ 0) } }
  let s := ([0, 1].foldl (fun (s : State) h => s.hartAt h (0x10000000 + leAt img 16 4)) s)
  let s := if cust = 0 then s else [2, 3].foldl (fun (s : State) h => s.hartAt h s.custEntry) s
  let s := ((s.setFld TOP_BOOT 2 0 3).setFld TOP_BOOT 3 3 (b2n slot)).setFld TOP_BOOT 7 7 (b2n fallback)
  let s := s.setFld TOP_BOOT 4 4 (b2n (s.groupState 6 == 0))
  s.setFld TOP_BOOT 31 16 (leAt img 6 2)

/-- IMAGE_VERIFY (R593, R594): boots the image, or records the code and goes on to the next source. -/
def State.imageVerify (s : State) (slotB : Bool) (image : Option (List Byte)) : State :=
  let code := match image with | none => 6 | some l => s.checkImage l
  if s.fld TOP_BOOT 2 0 != 1 then s
  else if code = 0 then s.bootImage (image.getD []) slotB (slotB != s.boot.prefB)
  else
    let s := s.setFld TOP_BOOT 15 8 code
    let s := { s with boot := { s.boot with tries := s.boot.tries + 1 } }
    if 2 ≤ s.boot.tries then s.setFld TOP_BOOT 2 0 (if s.boot.bootsel = 2 then 4 else 2) else s

def execImageVerify (slotB : Bool) (image : Option (List Byte)) (s : State) : Host.Outcome State Fault Refusal :=
  .next (s.imageVerify slotB image)

/-- FW_STAGE (R596). -/
def State.fwStage (s : State) (src : Src) (d : Desc) (image : Option (List Byte)) : State :=
  let wait := s.fld TOP_BOOT 2 0 == 2
  if s.boot.fwJob.isSome then s.complete src 0xA1 d .busy
  else if !wait && !s.boot.hasFlash then s.complete src 0xA1 d .badTarget
  else match image with
    | none => s.complete src 0xA1 d .dmaFail
    | some l =>
      let l := slice l 0 (min d.op2.toNat l.length)
      let code := s.checkImage l
      if code != 0 then (s.setFld TOP_BOOT 15 8 code).complete src 0xA1 d .authFail code
      else if wait then (s.bootImage l false false).complete src 0xA1 d .ok
      else { s with boot := { s.boot with fwJob := some (src, d, l) } }

def execFwStage (src : Src) (d : Desc) (image : Option (List Byte)) (s : State) : Host.Outcome State Fault Refusal :=
  .next (s.cmd src 0xA1 d fun s => s.soonData src 0xA1 d image fun s => s.fwStage src d image)

/-- FW_STAGE_DONE (R596): the slot not booted is written; only a verified read-back names it preferred. -/
def State.fwStageDone (s : State) (readback : Bool) : State :=
  match s.boot.fwJob with
  | none => s
  | some (src, d, l) =>
    let slotB := !s.flag TOP_BOOT 3
    let s := ({ s with boot := { s.boot with fwJob := none } }).emit (.flash (if slotB then 0x080000 else 0) l)
    if readback then
      (({ s with boot := { s.boot with prefB := slotB } }).emit (.flash 0x0FF0000 (leBytes 4 (b2n slotB)))).complete src 0xA1 d .ok
    else s.complete src 0xA1 d .authFail 6

def execFwStageDone (readback : Bool) (s : State) : Host.Outcome State Fault Refusal := .next (s.fwStageDone readback)

/-- SUPERVISOR_WATCHDOG_RESET (R586): harts 0 and 1 restart, the supervisor section is reloaded; check 0x03 applies first. -/
def State.superReset (s : State) : State :=
  let s := s.diagFail 3
  let img := s.boot.booted
  let sup := leAt img 12 4
  let mem := wordCells 0 (sup / 4 + 1) 0 ((img.drop 256).take sup) ++ s.cpu.sram.filter (fun e => 0x40000 ≤ e.1)
  let s := { s with cpu := { s.cpu with sram := mem, run := Tab.set 256 (Tab.set 256 s.cpu.run 0 256) 1 256 } }
  let s := (s.hartAt 0 0).hartAt 1 0
  let s := if s.planState = 1 || s.planState = 2 then s.rejectPlan 0 0 else s
  s.recordReset 5

def execSupervisorWatchdogReset (_hart : Fin 2) (s : State) : Host.Outcome State Fault Refusal := .next s.superReset

/-! ### KEEL_PROGRAM (R604) -/

/-- A KEEL_PROGRAM ends with a verify status of Table 17.6: KEEL_PROG, event 250, completion. -/
def State.keelEnd (s : State) (src : Src) (d : Desc) (code : Nat) (st : St) : State :=
  let s := s.setRg KEEL_PROG (ofNat (d.tgt % 64 * 256 + code * 65536))
  (s.raise 250 (d.tgt % 0x10000 + code * 65536)).complete src 0xA0 d st code

def State.keelProgram (s : State) (src : Src) (d : Desc) : State :=
  let w := d.tgt
  match groupOf w with
  | none => s.complete src 0xA0 d .badTarget
  | some g =>
    if g = 0 || g = 7 then s.complete src 0xA0 d .badTarget
    else if s.boot.keelJob.isSome then s.complete src 0xA0 d .busy
    else if !s.boot.vpp || s.boot.vppBoot then s.keelEnd src d 1 .busy
    else if s.wordClass w != 0 then s.keelEnd src d 2 .badOperand
    else if s.groupState g = 2 then s.keelEnd src d 3 .badOperand
    else if 0x30 ≤ w && (d.op0.toNat != lockMagic || !(groupWords g).all (fun x => s.wordClass x == 1)) then s.keelEnd src d 5 .badOperand
    else ({ s with boot := { s.boot with keelJob := some (src, d) } }).setRg KEEL_PROG (ofNat (1 + w % 64 * 256))

def execKeelProgram (src : Src) (d : Desc) (s : State) : Host.Outcome State Fault Refusal :=
  .next (s.cmd src 0xA0 d fun s => s.soon src 0xA0 d [] fun s => s.keelProgram src d)

/-- KEEL_PROGRAM_DONE: the fuses found set decide between VALID and FAULTY. A group that its lock word has locked shows its fused
value from then on (R20, R603). -/
def State.keelDone (s : State) (t c : Word) : State :=
  match s.boot.keelJob with
  | none => s
  | some (src, d) =>
    let s := { s with boot := { s.boot with keelJob := none, fuseT := Tab.set 0 s.boot.fuseT d.tgt t.toNat,
                                            fuseC := Tab.set 0 s.boot.fuseC d.tgt c.toNat } }
    let s := s.loadFused (fun g => d.tgt == 0x30 + g && s.groupState g == 2)
    if s.wordClass d.tgt = 1 && s.wordVal d.tgt = d.op0.toNat then s.keelEnd src d 0 .ok else s.keelEnd src d 4 .timeout

def execKeelProgramDone (t c : Word) (s : State) : Host.Outcome State Fault Refusal := .next (s.keelDone t c)

/-! ### Power domains (R597 to R599) -/

/-- The "off allowed when" column of Table 17.4a. -/
def State.offAllowed (s : State) (c : Nat) : Bool :=
  let lanesFree (lo : Nat) : Bool :=
    let uses (p : Plan) : Bool := p.axes.any (fun a => lo ≤ a.lane && a.lane < lo + 8)
    s.planState != 4 && !uses s.pilot.act && !((s.pilot.new.map uses).getD false) &&
      !s.boot.tests.any (fun t => t.opc == 0x92 && lo ≤ t.desc.tgt && t.desc.tgt < lo + 8)
  match c with
  | 0 => lanesFree 0
  | 1 => lanesFree 8
  | 3 => (List.range 8).all (fun p => !s.portEn p)
  | 4 => (List.range 8).all (fun p => !s.portEn (8 + p))
  | 5 => true
  | 6 => !s.localAxesPlaced && s.canAllInit && !s.emuOn
  | _ => false

def State.pdSwitch (s : State) (src : Src) (d : Desc) : State :=
  let c := d.tgt
  let fromPort := match src with | .port _ => true | .ring _ => false
  if 8 ≤ c || c = 2 || (c = 7 && !s.isIC) then s.complete src 0x95 d .badTarget
  else if c = 7 || (c = 5 && !fromPort) then s.complete src 0x95 d .accessDenied
  else if 1 < d.op0.toNat then s.complete src 0x95 d .badOperand
  else if s.powered c == (d.op0.toNat == 1) then s.complete src 0x95 d .ok
  else if s.boot.pdJobs.any (fun j => j.2.tgt == c) || (d.op0.toNat = 0 && !s.offAllowed c) then s.complete src 0x95 d .busy
  else { s with boot := { s.boot with pdJobs := s.boot.pdJobs ++ [(src, d)] } }

def execPdSwitch (src : Src) (d : Desc) (s : State) : Host.Outcome State Fault Refusal :=
  .next (s.cmd src 0x95 d fun s => s.soon src 0x95 d [] fun s => s.pdSwitch src d)

/-- PD_SWITCH_DONE (R597, R598): the new state, the reset of a domain switched on, event 240, completion. -/
def State.pdDone (s : State) (c : Nat) : State :=
  match s.boot.pdJobs.find? (fun j => j.2.tgt == c) with
  | none => s
  | some (src, d) =>
    let on := d.op0.toNat == 1
    let s := { s with boot := { s.boot with pdJobs := s.boot.pdJobs.filter (fun j => j.2.tgt != c) } }
    let s := s.putFlag TOP_PDSTAT c on
    let s := if on then (s.clearDomain c).recordReset 8 else if c = 5 then s.clearHost else if c = 6 then s.canFlush.gatesAll (-1) else s
    (s.raise 240 (c + b2n on * 0x10000)).complete src 0x95 d .ok

def execPdSwitchDone (code : Fin 8) (s : State) : Host.Outcome State Fault Refusal := .next (s.pdDone code.val)

/-! ### In-service tests (R581, R582) -/

/-- A test starts when its precondition holds (Table 16.7). -/
def State.startTest (s : State) (src : Src) (opc : Nat) (d : Desc) (okTarget pre : Bool) : State :=
  if !okTarget then s.complete src opc d .badTarget
  else if !pre || s.boot.tests.any (fun t => t.opc == opc && t.desc.tgt == d.tgt) then s.complete src opc d .busy
  else { s with boot := { s.boot with tests := s.boot.tests ++ [{ src := src, opc := opc, desc := d }] } }

/-- TEST_LANE: no pass on the lane, no switching of its domain. -/
def State.testLane (s : State) (src : Src) (d : Desc) : State :=
  let dom := if d.tgt < 8 then 0 else 1
  if 16 ≤ d.tgt then s.complete src 0x92 d .badTarget
  else if !s.powered dom then s.complete src 0x92 d .pdOff
  else s.startTest src 0x92 d true (!s.pilot.act.axes.any (fun a => a.lane == d.tgt) && !s.boot.pdJobs.any (fun j => j.2.tgt == dom))

def execTestLane (src : Src) (d : Desc) (s : State) : Host.Outcome State Fault Refusal :=
  .next (s.cmd src 0x92 d fun s => s.soon src 0x92 d [] fun s => s.testLane src d)

/-- TEST_HART: the hart leaves dispatch (R520). -/
def State.testHart (s : State) (src : Src) (d : Desc) : State :=
  let s := s.startTest src 0x93 d (d.tgt == 2 || d.tgt == 3) true
  if s.boot.tests.any (fun t => t.opc == 0x93 && t.desc.tgt == d.tgt) && !s.cpu.testing.contains d.tgt then
    { s with cpu := { s.cpu with testing := s.cpu.testing ++ [d.tgt] } }
  else s

def execTestHart (src : Src) (d : Desc) (s : State) : Host.Outcome State Fault Refusal :=
  .next (s.cmd src 0x93 d fun s => s.soon src 0x93 d [] fun s => s.testHart src d)

/-- TEST_MEMORY: banks of R582; the spare bank must be free. -/
def State.testMemory (s : State) (src : Src) (d : Desc) : State :=
  s.startTest src 0x94 d (decide (d.tgt ≤ 51)) (!s.boot.tests.any (fun t => t.opc == 0x94))

def execTestMemory (src : Src) (d : Desc) (s : State) : Host.Outcome State Fault Refusal :=
  .next (s.cmd src 0x94 d fun s => s.soon src 0x94 d [] fun s => s.testMemory src d)

/-- NET_PORT_TEST: no node is served through the port in the plan in force. -/
def State.portTest (s : State) (src : Src) (d : Desc) : State :=
  let b := s.branchOf d.tgt
  if 16 ≤ d.tgt then s.complete src 0x35 d .badTarget
  else if !s.powered (if d.tgt < 8 then 3 else 4) then s.complete src 0x35 d .pdOff
  else if 7 < d.op0.toNat then s.complete src 0x35 d .badOperand
  else s.startTest src 0x35 d true (!s.pilot.act.nodes.any (fun n => n.addr / 256 == b && s.portOf b n.tail == d.tgt))

def execNetPortTest (src : Src) (d : Desc) (s : State) : Host.Outcome State Fault Refusal :=
  .next (s.cmd src 0x35 d fun s => s.soon src 0x35 d [] fun s => s.portTest src d)

/-- Pass mask a test must reach; TEST_MEMORY passes with no error. -/
def testPassed (opc : Nat) (d : Desc) (r : Nat) : Bool :=
  match opc with
  | 0x92 => r % 32 == 31
  | 0x93 => r % 8 == 7
  | 0x94 => r == 0
  | _ => r % 8 &&& d.op0.toNat == d.op0.toNat % 8

/-- IN_SERVICE_TEST_DONE (R581): result, event 235 or 236; a failed lane leaves PILOT_LANE_EN (R182). -/
def State.testDone (s : State) (opc tgt r : Nat) : State :=
  match s.boot.tests.find? (fun t => t.opc == opc && t.desc.tgt == tgt) with
  | none => s
  | some t =>
    let s := { s with boot := { s.boot with tests := s.boot.tests.erase t }, cpu := { s.cpu with testing := s.cpu.testing.filter (fun h => !(opc == 0x93 && h == tgt)) } }
    let ok := testPassed opc t.desc r
    let s := if opc = 0x92 && !ok then s.dropLane tgt else s
    (s.raise (if ok then 235 else 236) opc).complete t.src opc t.desc .ok r

def execInServiceTestDone (opcode : Byte) (target : BitVec 16) (result : Word) (s : State) : Host.Outcome State Fault Refusal :=
  .next (s.testDone opcode.toNat target.toNat result.toNat)

/-- MEMORY_ECC_ERROR (R508, Table 14.7): event 246 or 247; an uncorrectable error outside the lanes is a check of Table 16.3.
`mem` names the memory: 0 supervisor SRAM, 1 customer SRAM, 2 learning, 3 life, 4 acquisition staging, 5 network buffers,
6 PILOT tables, 7 small buffers (the codes are the model's, assumption log 18); `word` the word read: a learning bin that cannot be
corrected reads 0 until the next LWR (R266). The reading hart takes a load access fault. -/
def State.eccError (s : State) (mem bank word : Nat) (corr : Bool) (hart : Option (Fin 4)) : State :=
  let s := s.raise (if corr then 246 else 247) (mem + bank % 0x10000 * 0x10000)
  if corr then s
  else if mem = 0 then s.diagFail 4
  else if mem = 1 then (match hart with | some h => s.hartTrap h.val 5 (ofNat (0x10100000 + word % 2 ^ 18 * 4)) | none => s)
  else if mem = 2 then { s with mem := { s.mem with learn := Tab.set 0 s.mem.learn word 0 } }.diagFail 5
  else if mem = 3 || mem = 5 || mem = 6 then s.diagFail 5
  else s

def execMemoryEccError (mem : Fin 8) (bank : BitVec 16) (word : BitVec 19) (correctable : Bool) (hart : Option (Fin 4)) (s : State) :
    Host.Outcome State Fault Refusal :=
  .next (s.eccError mem.val bank.toNat word.toNat correctable hart)

end Sys2Proof.Machine
end

