-- ==== Sys2Proof/Machine/LaneCmd.lean ====
section
/-! DEFINITION. Lane instructions as commands (Table 6.7), manifest loading and the section-list check (R241, R242). -/

namespace Sys2Proof.Machine

open Sys2Proof

/-! ### One instruction of a running pass -/

/-- The lane stands at an instruction of the manifest within the pass's MCYC cycles (R235), and it is this one. -/
def State.standsAt (s : State) (l op : Nat) (w : LaneWord) : Bool :=
  let n := s.lane l
  n.busy && n.fetching && decide (n.ran < n.mcyc) && n.word n.pc == encodeLane op w && legalLane op w

/-- What an instruction does outside the lane: flags (R228), learning and life memory (R227). Which word an LRD delivers less
than 24 cycles after an LWR of its bin is not stated: a free value (assumption log 2). -/
def State.laneOuter (s : State) (l a : Nat) (w : LaneWord) (e : LaneEff) : State :=
  let s := if e.sat then ((s.axFlag a 0).laneFlag l 0).incFld (laneReg l 0xC) 31 0 1 else s
  let s := if e.ovf then (s.axFlag a 1).laneFlag l 0 else s
  let s := match e.mflag with | some k => s.mflag a k | none => s
  let s := match e.life with | some x => s.addLife a x.1 x.2 | none => s
  let s := match e.lwr with
    | some x => (s.wrBin a x.1 (sgn x.2)).setLane l { s.lane l with lwrAt := (s.learnBin a x.1).map (fun i => ((s.lane l).ran - 1, i)) }
    | none => s
  match e.lrd with
  | some k =>
    let n := s.lane l
    let soon := match n.lwrAt, s.learnBin a k with
      | some x, some i => x.2 == i && decide (n.ran - 1 < x.1 + 24)
      | _, _ => false
    let v := if soon then Config.freeWord s.free else ofInt (s.rdBin a k)
    let s := if soon then s.draw else s
    s.setLane l { n with lrd := n.lrd ++ [(n.ran - 1 + 23, w.dst.toNat, v)] }
  | none => s

/-- The lane executes the instruction at which it stands. -/
def State.laneRun (s : State) (l op : Nat) (w : LaneWord) (f : LaneSt → LaneWord → LaneEff) : State :=
  if s.standsAt l op w then
    let n := s.lane l
    let e := f n w
    let s := (s.setLane l (n.instr op w e)).laneOuter l n.axis w e
    if e.ends then
      let m := s.lane l
      s.runSecs l n.axis n.miss m.secs
    else s
  else s

abbrev LaneMeaning := Fin 16 → LaneWord → State → Host.Outcome State Fault Refusal

def execLaneNop : LaneMeaning := fun l w s => .next (s.laneRun l.val 0x00 w opNop)
def execLaneEnd : LaneMeaning := fun l w s => .next (s.laneRun l.val 0x01 w opEnd)
def execLaneRep : LaneMeaning := fun l w s => .next (s.laneRun l.val 0x02 w opRep)
def execLaneLdk : LaneMeaning := fun l w s => .next (s.laneRun l.val 0x03 w opLdk)
def execLaneAgp : LaneMeaning := fun l w s => .next (s.laneRun l.val 0x04 w opAgp)
def execLaneAgm : LaneMeaning := fun l w s => .next (s.laneRun l.val 0x05 w opAgm)
def execLaneAgl : LaneMeaning := fun l w s => .next (s.laneRun l.val 0x06 w opAgl)
def execLaneAgr : LaneMeaning := fun l w s => .next (s.laneRun l.val 0x07 w opAgr)
def execLaneAdd : LaneMeaning := fun l w s => .next (s.laneRun l.val 0x10 w opAdd)
def execLaneAddc : LaneMeaning := fun l w s => .next (s.laneRun l.val 0x11 w opAddc)
def execLaneSub : LaneMeaning := fun l w s => .next (s.laneRun l.val 0x12 w opSub)
def execLaneSubc : LaneMeaning := fun l w s => .next (s.laneRun l.val 0x13 w opSubc)
def execLaneAdds : LaneMeaning := fun l w s => .next (s.laneRun l.val 0x14 w opAdds)
def execLaneSubs : LaneMeaning := fun l w s => .next (s.laneRun l.val 0x15 w opSubs)
def execLaneNegs : LaneMeaning := fun l w s => .next (s.laneRun l.val 0x16 w opNegs)
def execLaneAbss : LaneMeaning := fun l w s => .next (s.laneRun l.val 0x17 w opAbss)
def execLaneMin : LaneMeaning := fun l w s => .next (s.laneRun l.val 0x18 w opMin)
def execLaneMax : LaneMeaning := fun l w s => .next (s.laneRun l.val 0x19 w opMax)
def execLaneClamp : LaneMeaning := fun l w s => .next (s.laneRun l.val 0x1A w opClamp)
def execLaneClamp2 : LaneMeaning := fun l w s => .next (s.laneRun l.val 0x1B w opClamp2)
def execLaneSel : LaneMeaning := fun l w s => .next (s.laneRun l.val 0x1C w opSel)
def execLaneBlend : LaneMeaning := fun l w s => .next (s.laneRun l.val 0x1D w opBlend)
def execLaneAsl : LaneMeaning := fun l w s => .next (s.laneRun l.val 0x1E w opAsl)
def execLaneAsr : LaneMeaning := fun l w s => .next (s.laneRun l.val 0x1F w opAsr)
def execLaneLsr : LaneMeaning := fun l w s => .next (s.laneRun l.val 0x20 w opLsr)
def execLaneAnd : LaneMeaning := fun l w s => .next (s.laneRun l.val 0x21 w opAnd)
def execLaneOr : LaneMeaning := fun l w s => .next (s.laneRun l.val 0x22 w opOr)
def execLaneXor : LaneMeaning := fun l w s => .next (s.laneRun l.val 0x23 w opXor)
def execLaneFlagc : LaneMeaning := fun l w s => .next (s.laneRun l.val 0x24 w opFlagc)
def execLaneLdix : LaneMeaning := fun l w s => .next (s.laneRun l.val 0x25 w opLdix)
def execLaneMpy : LaneMeaning := fun l w s => .next (s.laneRun l.val 0x30 w opMpy)
def execLaneMac : LaneMeaning := fun l w s => .next (s.laneRun l.val 0x31 w opMac)
def execLaneMsu : LaneMeaning := fun l w s => .next (s.laneRun l.val 0x32 w opMsu)
def execLaneDmpy : LaneMeaning := fun l w s => .next (s.laneRun l.val 0x33 w opDmpy)
def execLaneDmac : LaneMeaning := fun l w s => .next (s.laneRun l.val 0x34 w opDmac)
def execLaneFtap : LaneMeaning := fun l w s => .next (s.laneRun l.val 0x35 w opFtap)
def execLaneLda : LaneMeaning := fun l w s => .next (s.laneRun l.val 0x36 w opLda)
def execLaneSta : LaneMeaning := fun l w s => .next (s.laneRun l.val 0x37 w opSta)
def execLaneAclr : LaneMeaning := fun l w s => .next (s.laneRun l.val 0x38 w opAclr)
def execLaneAadd : LaneMeaning := fun l w s => .next (s.laneRun l.val 0x39 w opAadd)
def execLaneLrd : LaneMeaning := fun l w s => .next (s.laneRun l.val 0x3C w opLrd)
def execLaneLwr : LaneMeaning := fun l w s => .next (s.laneRun l.val 0x3D w opLwr)
def execLaneLife : LaneMeaning := fun l w s => .next (s.laneRun l.val 0x3E w opLife)

/-! ### The section-list check (R242, Table 6.15) -/

/-- What the check carries along the executed sequence: cycles, last use of the learning and life ports, YP3's L. -/
structure Walk where
  cyc : Nat := 0
  port : Option Nat := none
  life : Option Nat := none
  yl : Nat := 0
  deriving DecidableEq, Repr

/-- Two uses of one port lie less than 16 cycles apart. -/
def tooNear (last : Option Nat) (c : Nat) : Bool := match last with | some k => decide (c < k + 16) | none => false

/-- Check of one instruction at `pc` inside `rep`: the code of the first error, 0 for none. -/
def checkOne (pc op : Nat) (w : LaneWord) (rep : List RepLevel) (k : Walk) : Nat :=
  if !legalLane op w then 4
  else if twoWriters op w then 5
  else if op = 1 && !rep.isEmpty then 3
  else if op = 2 && (decide (4 ≤ rep.length) || rep.any (fun r => decide (r.last < pc + repLen w))) then 3
  else if (op = 0x3C || op = 0x3D) && tooNear k.port k.cyc then 6
  else if op = 0x3E && tooNear k.life k.cyc then 6
  else if op = 0x25 && k.yl = 0 then 7
  else 0

/-- The executed sequence of a list on a lane, repeats unrolled: length, or the code of the first error. `pc = none`:
the next section is to be entered. -/
def walkList (n : LaneSt) : Nat → Option Nat → List RepLevel → List Nat → Walk → Except Nat Nat
  | 0, _, _, _, _ => .error 2
  | f + 1, none, _, secs, k =>
    if 8191 < k.cyc then .error 2
    else match secs with
      | [] => .ok k.cyc
      | x :: r => if isStd x then walkList n f none [] r { k with cyc := k.cyc + stdCycles x } else walkList n f (some x) [] r k
  | f + 1, some pc, rep, secs, k =>
    if 8191 < k.cyc then .error 2
    else if 0x1FFE < pc then .error 1
    else
      let d := decodeLane (n.word pc)
      let e := checkOne pc d.1 d.2 rep k
      if e ≠ 0 then .error e
      else
        let k' : Walk := { cyc := k.cyc + 1, port := if d.1 = 0x3C || d.1 = 0x3D then some k.cyc else k.port,
                           life := if d.1 = 0x3E then some k.cyc else k.life, yl := if d.1 = 6 && d.2.dst = 7 then d.2.imm.toNat else k.yl }
        if d.1 = 1 then walkList n f none [] secs k'
        else if d.1 = 2 then
          walkList n f (some (pc + 1)) ({ first := pc + 1, last := pc + repLen d.2, left := d.2.imm.toNat } :: rep) secs k'
        else
          let q := repNext pc rep
          walkList n f (some q.1) q.2 secs k'

/-- A register with its pending PLAN values. -/
def State.pendReg (s : State) (off : Nat) : Word := applyStaged (s.host.planUsed ++ s.host.plan) off (s.rg off)

/-- Sections of a list as a reading of the registers gives them, up to the first entry that is not valid (R238). -/
def sectionsBy (rd : Nat → Word) (list : Nat) : List Nat :=
  ((List.range 8).map (fun k =>
    let w := rd (LANE_B + 0x400 + list * 0x10 + k / 2 * 4)
    if k % 2 = 0 then (bit w 15, bits w 12 0) else (bit w 31, bits w 28 16))).takeWhile (fun e => e.1) |>.map (fun e => e.2)

/-- Pending sections of a list. -/
def State.pendSections (s : State) (list : Nat) : List Nat := sectionsBy s.pendReg list

/-- Lanes whose domain is on. -/
def State.lanesOn (s : State) : List Nat := (List.range 16).filter (fun l => s.powered (l / 8))

/-- Check of a pending list over the powered lanes: length, code, and whether the lanes agree in length. The code is the
lowest that a lane's executed sequence ends on. -/
def State.checkList (s : State) (list : Nat) : Nat × Nat × Bool :=
  let secs := s.pendSections list
  if list < 16 then (((stdList list).map stdCycles).sum, 0, true)
  else if secs.isEmpty then (0, 8, true)
  else
    let rs := s.lanesOn.map (fun l => walkList (s.lane l) 8300 none [] secs {})
    rs.foldl (fun (acc : Nat × Nat × Bool) r =>
      match r with
      | .ok n => (n, acc.2.1, acc.2.2 && (acc.1 = 0 || acc.1 = n))
      | .error e => (acc.1, if acc.2.1 = 0 then e else min e acc.2.1, acc.2.2)) (0, 0, true)

abbrev slen (list : Nat) : Nat := LANE_B + 0x800 + list * 4
abbrev LANE_CFLAGS : Nat := LANE_B + 0x10

/-- A LANE_CFLAGS bit is set, event 87. -/
def State.cflag (s : State) (n : Nat) : State := (s.setFlag LANE_CFLAGS n).raise 87 (2 ^ n * 0x10000)

/-- A list is being checked. -/
def State.checking (s : State) : Bool := (List.range 48).any (fun k => s.flag (slen (k + 16)) 20)

/-- A list was written: its check starts. -/
def State.startCheck (s : State) (list : Nat) : State := s.setFlag (slen list) 20

/-- The check of a list ends: LEN and CHK (Table 6.15). LEN of a list with an error, or on which the lanes disagree, is not
stated: a free value (assumption log 2). -/
def State.checkDone (s : State) (list : Nat) : State :=
  if s.flag (slen list) 20 then
    let r := s.checkList list
    let ok := r.2.1 = 0 && r.2.2
    let len := if ok then r.1 else Config.freeBelow 16383 s.free
    (if ok then s else s.draw).setRg (slen list) (ofNat (len % 2 ^ 14 + r.2.1 * 2 ^ 16))
  else s

/-- Lists that a LANE_ENTRY value names. -/
def entryLists (v : Word) : List Nat := [0, 8, 16, 24].map (fun k => bits v (k + 5) k)

/-- The lists that a LANE_ENTRY value names pass their check (R242). -/
def State.entryOk (s : State) (v : Word) : Bool := (entryLists v).all (fun k => (s.checkList k).2 == (0, true))

/-- The customer lists among them: those take a check of some time, while lists 0 to 15 are fixed and pass. -/
def entryChecks (v : Word) : List Nat := (entryLists v).filter (fun k => 16 ≤ k)

/-- Last word of a section on a lane (its END), within the manifest. -/
def sectionEnd (n : LaneSt) : Nat → Nat → Nat
  | 0, pc => pc
  | f + 1, pc => if 0x1FFF ≤ pc || n.word pc / 2 ^ 58 = 1 then pc else sectionEnd n f (pc + 1)

/-- R241: a customer page (0 A, 1 B) holds code of a section of a list, in force or pending, that an entry, in force or
pending, names: pending in the plan being prepared, or staged since. -/
def State.pageUsed (s : State) (page : Nat) : Bool :=
  let regs := (List.range 60).map (fun k => LANE_B + 0x110 + k * 4)
  let views : List (Nat → Word) := [s.rg, s.planReg, s.pendReg]
  let lists := (regs.map (fun r => (views.map (fun v => entryChecks (v r))).flatten)).flatten.eraseDups
  let secs := (lists.map (fun l => (views.map (fun v => sectionsBy v l)).flatten)).flatten.eraseDups.filter (fun x => !isStd x)
  let lo := 0x1000 + page * 0x800
  secs.any (fun x => s.lanesOn.any (fun l => x < lo + 0x800 && lo ≤ sectionEnd (s.lane l) 0x1000 x))

/-- A write of LANE_MDATA_HI (R241): the word is stored in the selected, powered lanes; LANE_MADDR + 1. -/
def State.manifestStore (s : State) (hi : Word) : State :=
  let addr := s.fld (LANE_B + 4) 12 0
  let word := (s.rg (LANE_B + 8)).toNat + 2 ^ 32 * hi.toNat
  let sel := s.fld LANE_B 15 0
  let next := s.setFld (LANE_B + 4) 12 0 (addr + 1)
  if addr < 0x1000 || s.pageUsed ((addr - 0x1000) / 0x800) then next.cflag 1
  else
    let lanes := (List.range 16).filter (fun l => sel / 2 ^ l % 2 == 1)
    let on := lanes.filter (fun l => s.powered (l / 8))
    let s := on.foldl (fun s l => s.setLane l { s.lane l with man := Tab.set (manDef addr) (s.lane l).man addr word }) next
    if on.length < lanes.length then s.cflag 2 else s

end Sys2Proof.Machine
end

