-- ==== Sys2Proof/Machine/Local.lean ====
section
/-! DEFINITION. Local axes: feedback pins, fault inputs, the ADC, update points, step and direction, encoder emulation and reference
inputs (spec 08, R302 to R339). -/

namespace Sys2Proof.Machine

open Sys2Proof

abbrev LOCAL_FLT : Nat := LOCAL_B
abbrev LOCAL_FLAGS : Nat := LOCAL_B + 0xC

/-- LOCAL_FLAGS bit other than OVR, event 116. -/
def State.localFlag (s : State) (n : Nat) : State := s.flagEvent LOCAL_FLAGS n 116 0

/-- The instant now, in CK_CORE cycles. -/
def State.nowCyc (s : State) : Nat := s.ntime * 2 / 5

/-! ### Feedback pins (R302, R303, R310) -/

/-- Count of a quadrature change of one line: A leads B in the positive direction. -/
def quadStep (old new : Nat) : Int :=
  let code (p : Nat) : Int := match p % 4 with | 0 => 0 | 1 => 1 | 3 => 2 | _ => 3
  if (code new - code old) % 4 = 1 then 1 else -1

/-- New filtered levels of A, B, Z, H1, H2, H3 (bits 0 to 5) of a local axis; none are taken while PD_LOCAL is off. -/
def State.edgeTaken (s : State) (n new : Nat) : State :=
  let x := s.lx n
  let old := x.pins
  let s := s.setLx n { x with pins := new % 64 }
  match s.axisOfLx n with
  | none => s
  | some a =>
    match s.fbKind a with
    | 1 =>
      let f := s.fb a
      let ab := old % 4
      let f : FbSt := if new % 4 = ab then f
        else if (new % 4 + ab) = 3 then { f with sn := f.sn + 1 }
        else { f with cnt := f.cnt + quadStep ab (new % 4) }
      let act := if bit (s.par a 0x107) 2 then 0 else 1
      let f : FbSt := if old / 4 % 2 ≠ new / 4 % 2 && new / 4 % 2 = act then { f with zq := f.zq ++ [f.cnt] } else f
      s.setFb a f
    | 2 =>
      if old / 8 = new / 8 % 8 then s
      else
        let r := s.hallEdge a (new / 8 % 8) s.ntime
        let f := r.1.fb a
        r.1.setFb a { f with cnt := f.cnt + r.2.1, sn := f.sn + r.2.2 }
    | _ => s
def State.feedbackEdge (s : State) (n new : Nat) : State := if s.powered 6 then s.edgeTaken n new else s

def execLocalFeedbackEdge (lx : Fin 8) (levels : BitVec 6) (t : Nat) (s : State) : Host.Outcome State Fault Refusal :=
  .next ((s.at_ t).feedbackEdge lx.val levels.toNat)

/-! ### Fault inputs (R329) -/

/-- Fault inputs whose latch holds the outputs of LXn inactive. -/
def State.tripped (s : State) (n : Nat) : Bool :=
  (List.range 8).any (fun i => s.flag LOCAL_FLT i && s.flag (LOCAL_B + 4 + i / 4 * 4) (8 * (i % 4) + n))

/-- Gates of LXn forced inactive: a trip, a PER that R326 rejects, or PD_LOCAL off (R324, LX_STAT). -/
def State.gatesForced (s : State) (n : Nat) : Bool := s.tripped n || (s.lx n).perErr || !s.powered 6

/-- Values of the gates of LXn by gate: on-times per carrier period, none when forced inactive. In STEP mode LXn_BH is DIR, and LXn_AH
stays with a pulse that runs (R336). -/
def State.gateVals (s : State) (n : Nat) : List (Nat × Nat) :=
  let x := s.lx n
  if s.gatesForced n then [(0, 0), (0, 1), (0, 2), (0, 3), (0, 4), (0, 5)]
  else if leAt x.img 6 1 % 8 = 4 then
    (if s.nowCyc < x.stepEnd then [] else [(0, 0)]) ++ [(0, 1), (b2n x.dirNeg, 2), (0, 3), (0, 4), (0, 5)]
  else x.gates.zipIdx

/-- The gate outputs of LXn are driven. -/
def State.driveGates (s : State) (n : Nat) : State :=
  if s.powered 6 then (s.gateVals n).foldl (fun s e => s.emit (s.gatePin n e.2 e.1)) s else s

/-- Input i reaches its active level. -/
def State.tripLatch (s : State) (i : Nat) : State :=
  let s := (s.setFlag LOCAL_FLT i).setFlag LOCAL_FLT (8 + i)
  let hit := (List.range 8).filter (fun n => s.flag (LOCAL_B + 4 + i / 4 * 4) (8 * (i % 4) + n))
  let s := { s with loc := { s.loc with tripNow := s.loc.tripNow ++ hit } }
  let s := hit.foldl (fun s n => s.driveGates n) s
  s.raise (100 + i) 0

/-- FLT_TRIP; the inputs lie in PD_LOCAL. -/
def State.fltTrip (s : State) (i : Nat) : State := if s.powered 6 then s.tripLatch i else s

def execFltTrip (input : Fin 8) (s : State) : Host.Outcome State Fault Refusal := .next (s.fltTrip input.val)

/-- Outputs of LXn that a trip held come back; a DIR that comes back is set up anew (R338). -/
def State.gatesBack (s : State) (n : Nat) : State :=
  let x := s.lx n
  let s := if leAt x.img 6 1 % 8 = 4 && x.dirNeg && !s.gatesForced n then s.setLx n { x with dirAt := s.nowCyc } else s
  s.driveGates n

/-- LOCAL_FLT.LATCH written: ones clear latches whose input is inactive (R329). -/
def State.fltClear (s : State) (v : Nat) : State :=
  let active := s.fld LOCAL_FLT 15 8
  let l := (List.range 8).filter (fun i => v / 2 ^ i % 2 = 1 && active / 2 ^ i % 2 = 0 && s.flag LOCAL_FLT i)
  let held := (List.range 8).filter s.tripped
  let s := l.foldl (fun s i => s.clrFlag LOCAL_FLT i) s
  held.foldl (fun s n => if s.tripped n then s else s.gatesBack n) s

/-- LOCAL_FLT.POL written: inputs whose active level turns over change PIN, and one that is active now trips (Table 8.12). -/
def State.fltPolarity (s : State) (old : Word) : State :=
  let turned := bits old 23 16 ^^^ s.fld LOCAL_FLT 23 16
  let s := s.setFld LOCAL_FLT 15 8 (s.fld LOCAL_FLT 15 8 ^^^ turned)
  ((List.range 8).filter (fun i => turned / 2 ^ i % 2 = 1 && s.flag LOCAL_FLT (8 + i))).foldl State.fltTrip s

/-- LOCAL_FLT_LATCH_CLEAR: `active` are the inputs at their active level. -/
def State.latchClear (s : State) (v active : Nat) : State :=
  if s.powered 6 then (s.setFld LOCAL_FLT 15 8 active).fltClear v else s

def execLocalFltLatchClear (value active : Byte) (s : State) : Host.Outcome State Fault Refusal :=
  .next (s.latchClear value.toNat active.toNat)

/-! ### ADC (R330 to R333, R344) -/

/-- Channels IA, IB and VB of LXn (LX_CH). -/
def State.chans (s : State) (n : Nat) : List Nat :=
  let w := s.rg (lxReg n 0xC)
  [bits w 4 0, bits w 12 8, bits w 20 16]

def State.coreBusy (s : State) (c : Nat) : Bool := decide (s.ntime < Tab.get 0 s.loc.busy c)

/-- A conversion on each of some cores, waiting where one is busy: answers when the last ends. -/
def State.convert (s : State) (cores : List Nat) : State × Nat :=
  let stop := cores.foldl (fun m c => max m (max s.ntime (Tab.get 0 s.loc.busy c) + 200)) 0
  ({ s with loc := { s.loc with busy := cores.foldl (fun b c => Tab.set 0 b c (max s.ntime (Tab.get 0 b c) + 200)) s.loc.busy } }, stop)

/-- POS and AUX of a local record at the trigger valley: emitted count, quadrature count (its index events and skips go beside
the record), Hall count with the state and the age of its edge (R304, R310, R339). -/
def State.localPos (s : State) (n a trig : Nat) : Nat × Nat :=
  let f := s.fb a
  let x := s.lx n
  match s.fbKind a with
  | 0 => ((x.steps % 2 ^ 32).toNat, 0x80008000)
  | 1 => ((f.cnt % 2 ^ 32).toNat, 0)
  | _ => ((f.cnt % 2 ^ 32).toNat, x.pins / 8 % 8 + min 65535 (((trig : Int) - f.hedge) / 8).toNat * 2 ^ 16)

/-- ADC_TRIGGER of LXn at its valley; `open_` is the level of its open input (R317). -/
def State.adcTrigger (s : State) (n : Nat) (open_ : Bool) : State :=
  match s.axisOfLx n with
  | none => s
  | some a =>
    if !s.powered 6 then s
    else
      let cores := (s.chans n).map (fun c => c / 8)
      let coll := cores.any s.coreBusy
      let s := if coll then (s.incFld (LOCAL_B + 0x14) 31 0 1).localFlag 3 else s
      let at_ := s.ntime
      let s := (s.convert cores).1
      let og := s.par a 0x117
      let p := s.localPos n a at_
      let f := s.fb a
      s.setLx n { s.lx n with conv := some at_, held := (p.1, p.2, f.sn), zs := f.zq.map (fun z => z - f.cnt),
                              opened := bit og 5 && open_ == bit og 6 }

def execAdcTrigger (lx : Fin 8) (t : Nat) (open_ : Bool) (s : State) : Host.Outcome State Fault Refusal :=
  .next ((s.at_ t).adcTrigger lx.val open_)

/-- A current of a conversion, saturated to the record's field; whether it saturates (STATUS[3]). -/
def State.current (s : State) (c code : Nat) : Int := sat 16 (s.adcValue c code)
def State.clips (s : State) (c code : Nat) : Bool := s.current c code != s.adcValue c code

/-- The last code of a channel (ADC_RES). -/
def State.adcCode (s : State) (c code : Nat) : State :=
  let s := { s with loc := { s.loc with scanAt := Tab.set 0 s.loc.scanAt c s.ntime } }
  s.setRg (LOCAL_B + 0x100 + c * 4) (ofNat code)

/-- PROBE_PULSE_END: IA and IB are converted once more, or the next record is MISSING (R344). -/
def State.probeEnd (s : State) (n ia ib : Nat) : State :=
  let c := s.chans n
  let ca := c.getD 0 0
  let cb := c.getD 1 0
  if s.coreBusy (ca / 8) || s.coreBusy (cb / 8) then s.setLx n { s.lx n with probe := none, probeMiss := true }
  else
    let s := (s.convert [ca / 8, cb / 8]).1
    let s := (s.adcCode ca ia).adcCode cb ib
    s.setLx n { s.lx n with probe := some (s.current ca ia, s.current cb ib, s.clips ca ia || s.clips cb ib), probeMiss := false }

def execProbePulseEnd (lx : Fin 8) (t : Nat) (ia ib : BitVec 14) (s : State) : Host.Outcome State Fault Refusal :=
  .next ((s.at_ t).probeEnd lx.val ia.toNat ib.toNat)

/-- Position fields of a local record: POS, AUX, STATUS[5], EXT; none when the sample is missing. -/
def State.localFields (s : State) (x : LxSt) (a : Nat) : Option (Nat × Nat × Bool × Nat) :=
  match s.fbKind a with
  | 0 => some (x.held.1, x.held.2.1, false, 0)
  | 1 => some (x.held.1, x.held.2.1, false, 0)
  | 2 => some (x.held.1, x.held.2.1, false, 0)
  | 4 => match x.ssi with
    | some w => some (w.1 % 2 ^ 32, 0, w.2, w.1 / 2 ^ 32 % 256)
    | none => none
  | _ => none

/-- Reference of an SSI position to the trigger: v × (B ÷ f − 0.200 µs) ÷ T_cycle, Q40.24 (R315). -/
def State.ssiBits (s : State) (a : Nat) : Nat :=
  let fmt := s.par a 0x10F
  1 + bits fmt 8 6 + bits fmt 5 0 + bits fmt 11 9 + bits fmt 24 21
def State.ssiNs (s : State) (a : Nat) : Nat :=
  s.ssiBits a * 100000 / max (s.fld (LOCAL_B + 0x700 + bits (s.par a 0x100) 5 4 * 8) 15 0) 1
def State.ssiComp (s : State) (a : Nat) : Int :=
  let f : Int := max (s.fld (LOCAL_B + 0x700 + bits (s.par a 0x100) 5 4 * 8) 15 0) 1
  divRnd ((s.ctl a).v * 256 * ((s.ssiBits a : Int) * 100000 - 200 * f)) (f * s.tCyc)

/-- ADC_CONVERSION_DONE: the local record reaches INBOX (R330, R339). -/
def State.adcDone (s : State) (n ia ib vb : Nat) : State :=
  let x := s.lx n
  match s.axisOfLx n, x.conv with
  | some a, some _ =>
    let c := s.chans n
    let ca := c.getD 0 0
    let cb := c.getD 1 0
    let i := match x.probe with
      | some p => p
      | none => (s.current ca ia, s.current cb ib, s.clips ca ia || s.clips cb ib)
    let s := ((s.adcCode ca ia).adcCode cb ib).adcCode (c.getD 2 0) vb
    let vbus := (clampI 0 65535 (s.adcValue (c.getD 2 0) vb)).toNat
    let s := s.setLx n { x with conv := none, probe := none, probeMiss := false, ssi := none, zs := [], samples := x.samples + 1 }
    let missing (s : State) : State := s.setFb a { s.fb a with noted := if x.opened then [0x08] else [] }
    if x.probeMiss then missing s
    else match s.localFields x a with
      | none => missing s
      | some p =>
        let kind := s.fbKind a
        let on := leAt x.img 6 1 / 8 % 2 = 1 && !s.gatesForced n
        let st := 1 + b2n (!on) * 4 + b2n i.2.2 * 8 + b2n x.opened * 16 + b2n p.2.2.1 * 32 + kind * 256 + x.samples % 16 * 4096
        let recd := leBytes 4 p.1 ++ leBytes 4 p.2.1 ++ leBytes 2 (i.1 % 65536).toNat ++ leBytes 2 (i.2.1 % 65536).toNat ++
          leBytes 2 st ++ [0, 0] ++ leBytes 4 p.2.2.2
        let edges := kind = 1 || kind = 2
        let skips := if edges then x.held.2.2 else 0
        let f := s.fb a
        let s := if edges then s.setFb a { f with sn := f.sn - skips, zq := f.zq.drop x.zs.length } else s
        s.fbSample a recd vbus 0 true skips x.zs (if kind = 4 then s.ssiComp a else 0)
  | _, _ => s

def execAdcConversionDone (lx : Fin 8) (ia ib vb : BitVec 14) (s : State) : Host.Outcome State Fault Refusal :=
  .next (s.adcDone lx.val ia.toNat ib.toNat vb.toNat)

/-- A channel that a placed local axis uses. -/
def State.chanUsed (s : State) (c : Nat) : Bool :=
  s.pilot.act.axes.any (fun p => p.isLocal && (s.chans p.nslot).contains c)

/-- Channel that an ADC core converts next in the background scan: the next in turn of those in ADC_SCAN that no axis uses (R332). -/
def State.scanNext (s : State) (core : Nat) : Option Nat :=
  let last := Tab.get (core * 8 + 7) s.loc.scanPtr core % 8
  ((List.range 8).map (fun k => core * 8 + (last + 1 + k) % 8)).find? (fun c => s.flag (LOCAL_B + 0x10) c && !s.chanUsed c)

/-- ADC_SCAN_CONVERSION of a channel whose turn it is on a free core (R332). -/
def State.adcScan (s : State) (c code : Nat) : State :=
  if s.powered 6 && s.scanNext (c / 8) == some c && !s.coreBusy (c / 8) then
    let s := (s.convert [c / 8]).1
    { s with loc := { s.loc with scanPtr := Tab.set (c / 8 * 8 + 7) s.loc.scanPtr (c / 8) c } }.adcCode c code
  else s

def execAdcScanConversion (channel : Fin 24) (code : BitVec 14) (s : State) : Host.Outcome State Fault Refusal :=
  .next (s.adcScan channel.val code.toNat)

/-- ADC_RES of a channel with its age in µs. -/
def State.adcRes (s : State) (c : Nat) : Word :=
  putBits (s.rg (LOCAL_B + 0x100 + c * 4)) 31 16 (min 65535 ((s.ntime - Tab.get 0 s.loc.scanAt c) / 1000))

/-! ### SSI (R314, R315) -/

/-- CRC of an SSI word, most significant bit first, degree len with low terms poly. -/
def ssiCrc (poly len : Nat) : Nat → Nat → Nat → Nat
  | 0, _, r => r
  | k + 1, w, r =>
    let top := (r / 2 ^ (len - 1) % 2 == 1) != (w / 2 ^ k % 2 == 1)
    let r2 := r * 2 % 2 ^ len
    ssiCrc poly len k w (if top then r2 ^^^ (poly % 2 ^ len) else r2)

/-- SSI_BURST: B periods on SSIm_CLK of the axis's port, and the clocked bits, first bit most significant, of PRE + LEN + POST + CRCLEN
bits. A burst that would start within tm of the port's last is not made. -/
def State.ssiBurst (s : State) (n w : Nat) : State :=
  match s.axisOfLx n, (s.lx n).conv with
  | some a, some trig =>
    let fmt := s.par a 0x10F
    let len := bits fmt 5 0
    let post := bits fmt 11 9
    let cl := bits fmt 24 21
    let port := bits (s.par a 0x100) 5 4
    let stop : Int := trig + 200
    let start := stop - s.ssiNs a
    let tm : Int := s.fld (LOCAL_B + 0x700 + port * 8) 23 16 * 1000
    let made := match Tab.get none s.loc.ssiAt port with | some e => decide (e + tm ≤ start) | none => true
    if s.fbKind a ≠ 4 then s
    else if made then
      let body := w / 2 ^ cl % 2 ^ (len + post)
      let got := w % 2 ^ cl
      let want := ssiCrc (bits fmt 20 13) cl (len + post) body 0
      let ok := cl = 0 || want == (if bit fmt 25 then 2 ^ cl - 1 - got else got)
      let s := { s with loc := { s.loc with ssiAt := Tab.set none s.loc.ssiAt port (some stop) } }.emit (.pin 16 port (s.ssiBits a : Nat))
      s.setLx n { s.lx n with ssi := some (body / 2 ^ post, !ok) }
    else s.setLx n { s.lx n with ssi := none }
  | _, _ => s

def execSsiBurst (lx : Fin 8) (word : BitVec 64) (s : State) : Host.Outcome State Fault Refusal :=
  .next (s.ssiBurst lx.val word.toNat)

/-! ### Update points (R327, R328, R361) -/

/-- Cycles per carrier period in which a leg of duty d has its high side commanded (R328). -/
def highCycles (per d : Nat) : Nat :=
  if d = 0xFFFF then per
  else
    let p2 := per / 2
    let thr := (65536 - d) * p2 / 65536
    if thr < p2 then 2 * (p2 - thr) - 1 else 0

/-- On-times of the two sides of a leg after dead time and MINPW (R328). -/
def legTimes (per dt minpw d : Nat) : List Nat :=
  let h := highCycles per d
  let cut (x : Nat) : Nat := if x = 0 || x = per then x else if x ≤ dt || x - dt < minpw then 0 else x - dt
  [cut h, cut (per - h)]

/-- On-times of the six gates of LXn under an image (R133, R336). -/
def State.gateTimes (s : State) (n : Nat) (img : List Byte) (duties : List Nat) : List Nat :=
  let m := leAt img 6 1
  let per := s.fld (lxReg n 0) 15 0
  let dt := s.fld (lxReg n 4) 9 0
  let mp := s.fld (lxReg n 4) 25 16
  let off := [0, 0, 0, 0, 0, 0]
  if m / 8 % 2 = 0 || m % 8 = 4 then off
  else if m / 16 % 2 = 1 then [0, per, 0, per, 0, per]
  else if leAt img 7 1 % 2 = 1 && leAt img 10 1 % 8 ≠ 7 && leAt img 12 2 ≠ 0 then
    let v := leAt img 10 1 % 8
    let w := min per (leAt img 12 2 * 16 / 5)
    let hi (leg : Nat) : Bool := match v with
      | 0 => leg = 0 | 1 => leg ≤ 1 | 2 => leg = 1 | 3 => 1 ≤ leg | 4 => leg = 2 | 5 => leg ≠ 1 | _ => false
    (List.range 3).flatMap (fun k => if hi k then [w, 0] else [0, w])
  else (duties.map (fun d => legTimes per dt mp d)).flatten ++ List.replicate (6 - 2 * duties.length) 0

/-- Carrier of LXn at t ns of a cycle, in CK_CORE cycles from its last valley; none when no CK_CORE edge lies in that ns or the plan
places no axis there (R325). -/
def State.carrierAt (s : State) (n t : Nat) : Option Nat :=
  match s.pilot.act.axes.find? (fun p => p.isLocal && p.nslot == n) with
  | none => none
  | some p =>
    let k := (2 * t + 4) / 5
    let per := max (s.fld (lxReg n 0) 15 0) 1
    let cycles := (((s.cycle.toNat : Int) - p.phase) % (max p.div 1 : Nat)).toNat
    if 5 * k < 2 * t + 2 then some ((cycles * (s.tCyc * 2 / 5) + k + (per - s.fld (lxReg n 8) 15 0 % per)) % per) else none

/-- t ns of a cycle is an update point of LXn: a valley, a peak, or either, by LX_PWM.UPD (R327). -/
def State.isUpdate (s : State) (n t : Nat) : Bool :=
  let half := s.fld (lxReg n 0) 15 0 / 2
  match s.carrierAt n t with
  | none => false
  | some c => match s.fld (lxReg n 0) 17 16 with
    | 0 => c == 0
    | 1 => c == half
    | _ => c == 0 || c == half

/-- PWM_UPDATE_POINT: the waiting image comes into force at the first update point at least 0.024 µs after the planned end of its pass;
a STEPPER drives the neighbour's legs too. -/
def State.updatePoint (s : State) (n t : Nat) : State :=
  let x := s.lx n
  if x.wait.isEmpty || !s.isUpdate n t || decide (((s.bnd + t : Nat) : Int) * 1000 + 999 < x.waitFrom) then s
  else
    let img := x.wait
    let d (k : Nat) : Nat := leAt img (2 * k) 2
    let m := leAt img 6 1 % 8
    let inv (v : Nat) : Nat := min 65535 (65536 - v)
    let g := s.gateTimes n img (if m = 5 then [d 0, inv (d 0)] else [d 0, d 1, d 2])
    let now := s.nowCyc
    let x := { x with img := img, wait := [], gates := g }
    let x : LxSt := if m = 4 then { x with rate0 := x.rate1, rate1 := leAt img 14 4, from_ := now } else { x with rate1 := 0 }
    let x : LxSt := if m = 4 && x.nextStep < now && x.rate0 = 0 then { x with nextStep := now } else x
    let s := (s.setLx n x).driveGates n
    if m = 5 then
      let s := s.setLx (n + 1) { s.lx (n + 1) with gates := s.gateTimes n img [d 1, inv (d 1)] }
      s.driveGates (n + 1)
    else s

def execPwmUpdatePoint (lx : Fin 8) (t : Nat) (s : State) : Host.Outcome State Fault Refusal :=
  .next ((s.at_ t).updatePoint lx.val t)

/-! ### Step and direction (R336 to R339) -/

/-- Length of the pass period of the axis on LXn, CK_CORE cycles. -/
def State.passCycles (s : State) (n : Nat) : Nat :=
  match s.axisOfLx n with | some a => s.tCyc * s.kr a * 2 / 5 | none => 1

/-- Rate r(t) of the interval at a CK_CORE instant times the pass period, Q0.32 (R337). -/
def State.stepRate (s : State) (n now : Nat) : Int :=
  let x := s.lx n
  let tp : Int := max (s.passCycles n) 1
  x.rate0 * tp + ((x.rate1 : Int) - x.rate0) * ((now : Int) - x.from_)

/-- The interval of the image in force has not ended (R337). -/
def State.inInterval (s : State) (n now : Nat) : Bool := decide (now < (s.lx n).from_ + s.passCycles n)

/-- STEP_PULSE: the step timer of LXn expires. A change of direction comes first (R338). -/
def State.stepPulse (s : State) (n : Nat) : State :=
  let x := s.lx n
  let now := s.nowCyc
  let m := leAt x.img 6 1
  let tgt := wrapS 32 (leAt x.img 0 4)
  let pw := s.fld (lxReg n 0x10) 9 0
  let setup := s.fld (lxReg n 0x10) 25 16
  let r := s.stepRate n now
  if m % 16 ≠ 12 || s.gatesForced n || tgt = x.steps || r ≤ 0 || decide (now < x.nextStep) || !s.inInterval n now then s
  else
    let neg := decide (tgt < x.steps)
    if neg != x.dirNeg then
      if now < x.stepEnd + pw then s
      else (s.setLx n { x with dirNeg := neg, dirAt := now }).emit (s.gatePin n 2 (b2n neg))
    else if now < x.dirAt + setup && x.dirAt ≠ 0 then s
    else
      let delta := max (divRnd (s.passCycles n * 2 ^ 32) r).toNat (2 * pw)
      let steps := wrapS 32 (if neg then x.steps - 1 else x.steps + 1)
      let s := s.setLx n { x with steps := steps, stepEnd := now + pw, nextStep := now + delta }
      (s.setRg (lxReg n 0x18) (ofInt steps)).emit (s.gatePin n 0 pw)

def execStepPulse (lx : Fin 8) (t : Nat) (s : State) : Host.Outcome State Fault Refusal :=
  .next ((s.at_ t).stepPulse lx.val)

/-! ### Emulators -/

/-- Instant of edge k (1 up) of the interval in force, ps: evenly spaced over it, to 2.5 ns, or 40 ns apart when they do not all fit
(R321). -/
def Emu.edgeAt (x : Emu) (k : Nat) : Int :=
  x.start + (if x.len < x.edges * 40000 then (k : Int) * 40000 else divRnd ((k : Int) * x.len) (x.edges * 2500) * 2500)

/-- The emulator's next edge is due at an instant, ps: within the interval, whose later edges the next one carries. -/
def Emu.due (x : Emu) (now : Int) : Bool :=
  x.on && !x.lost && x.out != x.tgt && decide (x.sent < x.edges) && decide ((x.sent + 1) * 40000 ≤ x.len) && decide (x.edgeAt (x.sent + 1) ≤ now)

/-- One quadrature state change toward the target (R320). -/
def Emu.stepped (x : Emu) : Emu :=
  let up := decide (x.out < x.tgt)
  { x with out := if up then x.out + 1 else x.out - 1, phase := (if up then x.phase + 1 else x.phase + 3) % 4, sent := x.sent + 1 }

/-- EMU_EDGE at t ns of the cycle: the interval that starts by then comes into force, and an edge that is due is emitted. -/
def State.emuEdge (s : State) (e t : Nat) : State :=
  let now : Int := ((s.bnd + t : Nat) : Int) * 1000 + 999
  let begins := match (s.emu e).next with | some n => decide (n.2.1 ≤ now) | none => false
  let s := if begins && (s.emu e).on then s.emuBegin e else s
  if s.powered 6 && (s.emu e).due now then (s.setEmu e (s.emu e).stepped).emuDrive e else s

def execEmuEdge (emulator : Fin 4) (t : Nat) (s : State) : Host.Outcome State Fault Refusal := .next ((s.at_ t).emuEdge emulator.val t)

/-! ### Reference inputs (R334, R335) -/

abbrev refCfg (r : Nat) : Nat := LOCAL_B + 0x600 + r * 0x10

/-- Unscaled measurement of an analogue input: the code of its channel. -/
def State.refCode (s : State) (r : Nat) : Nat := s.fld (LOCAL_B + 0x100 + s.fld (refCfg r) 6 2 * 4) 13 0

/-- x of R334 before SCALE, in 2^−32 units. -/
def State.refRaw (s : State) (r : Nat) : Int :=
  let zero : Int := s.fld (refCfg r + 4) 15 0
  match s.fld (refCfg r) 1 0 with
  | 1 => ((s.refCode r : Int) - zero) * 2 ^ 19
  | 2 => ((Tab.get 0 s.loc.refIn r : Nat) : Int) - zero * 2 ^ 16
  | 3 => divRnd (((Tab.get 0 s.loc.refIn r : Nat) : Int) * 2 ^ 32) (max (s.rg (refCfg r + 8)).toNat 1)
  | _ => 0

/-- One input at a boundary: filtered into REF_VAL unless it is off or lost. -/
def State.refInput (s : State) (r : Nat) : State :=
  if s.fld (refCfg r) 1 0 = 0 || s.flag (refStat r) 0 then s
  else
    let x := sat 32 (divRnd (s.refRaw r * sbits (s.rg (refCfg r + 4)) 31 16) (2 ^ 13))
    let y := sgn (s.rg (refVal r))
    let kf : Int := s.fld (refCfg r) 31 16
    s.setRg (refVal r) (ofInt (sat 32 (y + shrRnd (kf * (x - y)) 16)))

/-- REF_INPUT_LOSS: an analogue input out of LO to HI; a pin input without edges for TMO, as the event says (R335). -/
def State.refLoss (s : State) (r : Nat) : State :=
  let m := s.fld (refCfg r) 1 0
  let out := decide (s.refCode r < s.fld (refCfg r + 8) 13 0) || decide (s.fld (refCfg r + 8) 29 16 < s.refCode r)
  if m = 0 || (m = 1 && !out) then s else s.flagEvent (refStat r) 0 (108 + r) 0

def execRefInputLoss (input : Fin 4) (s : State) : Host.Outcome State Fault Refusal := .next (s.refLoss input.val)

/-- REF_LOST_CLEAR: the host clears REF_STAT.LOST (R403). -/
def State.refClear (s : State) (r : Nat) : State := (s.clrFlag (refStat r) 0).refCleared r

def execRefLostClear (input : Fin 4) (s : State) : Host.Outcome State Fault Refusal := .next (s.refClear input.val)

/-- Measurements of the pin inputs since the last boundary, levels, and the boundary's work of all four. -/
def State.refBoundary (s : State) (m : List (Nat × Bool)) : State :=
  let s := (m.zipIdx).foldl (fun s e =>
    if 4 ≤ e.2 then s
    else { s with loc := { s.loc with refIn := Tab.set 0 s.loc.refIn e.2 e.1.1 } }.putFlag (refStat e.2) 1 e.1.2) s
  [0, 1, 2, 3].foldl (fun s r => s.refInput r) s

end Sys2Proof.Machine
end

