-- ==== Sys2Proof/Machine/Read.lean ====
section
/-! DEFINITION. What a register read returns (R16 to R19, R54, R58, R68): values that follow the state, pending CYC values,
RC fields and 64-bit pairs. -/

namespace Sys2Proof.Machine

open Sys2Proof

/-- Power-domain code of the register at an offset (Table 1.1, Table 17.4a); none: always on, as the star with its guardian
registers is. A snapshot window can be read while its domain is off (R498). -/
def domainOf (off : Nat) : Option Nat :=
  let o := off % 0x10000
  if isSnap off then none
  else match off / 0x10000 with
    | 0x01 => some 5
    | 0x03 => if o < 0x100 || 0x500 ≤ o || 0x20 ≤ o % 0x40 then none else if o < 0x300 then some 3 else some 4
    | 0x07 => if o < 0x8000 then some 0 else some 1
    | 0x09 => if 0x100 ≤ o && o < 0x200 then some 6 else none
    | 0x0B => some 6
    | 0x0E => some 6
    | 0x10 => some 7
    | _ => none

/-- The register lies in a domain that is switched off (R58). -/
def State.regOff (s : State) (off : Nat) : Bool :=
  match domainOf off with
  | some c => !s.powered c
  | none => false

/-! ### Values that follow the state -/

/-- TOP_ID (Table 0.3). -/
def State.topId (s : State) : Nat := 0x02561100 + s.variant * 64 + s.role * 16

/-- HOST_STAT (Table 2.7). -/
def State.hostStat (s : State) : Nat :=
  let idle := !s.host.taken.any (fun t => t.src.ringNo < 10)
  let n := min 1024 s.host.cyc.length
  b2n (n != 0) + 2 * b2n idle + 4 * n

/-- KEEL_STAT: the states of the groups, two bits each from bit 0 (Table 17.9). -/
def State.keelStat (s : State) : Nat := (List.range 8).foldl (fun n g => n + s.groupState g * 4 ^ g) 0

/-- KEEL_WORD: D of a valid word; SITEKEY reads 0. -/
def State.keelWord (s : State) (w : Nat) : Nat := if 0x10 ≤ w && w < 0x14 then 0 else Tab.get 0 s.boot.kval w

/-- CPU_STAT (Table 14.5). -/
def State.cpuStat (s : State) : Nat :=
  (List.range 4).foldl (fun n h => n + b2n (s.cpu.running.contains h) * 2 ^ h + b2n (s.cpu.testing.contains h) * 2 ^ (4 + h) +
    b2n (s.hart h).wfi * 2 ^ (8 + h) + b2n (decide (s.runOf h < 256)) * 2 ^ (12 + h)) 0

/-- Mode that takes effect at the next boundary (Table 7.15). -/
def State.modePend (s : State) (a : Nat) : Nat :=
  let sets := (s.host.due.filter (fun x => x.opc == 0x10 && x.desc.tgt == a && x.cyc == s.cycle + 1)).map (fun x => (x.src, x.desc))
  let s := (s.safeOff a s.safe.offG).modeStep a sets
  s.modeNow a

/-- AX_STAT (Table 7.15). -/
def State.axStat (s : State) (a : Nat) : Nat :=
  let x := s.axis a
  s.mode a + s.modePend a * 8 + x.health * 2 ^ 8 + x.fb.st * 2 ^ 10 + b2n x.sup.lock * 2 ^ 12 + b2n (s.blendingMode a) * 2 ^ 13 +
    b2n x.inj.isSome * 2 ^ 14 + b2n x.ctl.learning * 2 ^ 15 + b2n (s.hasPass a) * 2 ^ 16

/-- RMS of the learning table, Q1.15 (AX_RPC). -/
def State.rpcRms (s : State) (a : Nat) : Nat :=
  let n := ((s.planAxis a).map (fun p => p.learnSize)).getD 0
  if n = 0 then 0
  else
    let q := sumI ((List.range n).map (fun k => let y : Int := s.rdBin a k; y * y))
    min 32767 ((isqrt (4 * q.toNat / (n * 2 ^ 32)) + 1) / 2)

/-- Axis registers that follow the state (Table 7.14). Every parameter has one word, so AX_PVAL_HI reads 0. -/
def State.axisRead (s : State) (a o : Nat) : Option Word :=
  let x := s.axis a
  match o with
  | 0x00 => some (ofNat (s.axStat a))
  | 0x04 => some (s.xw a 0x36 &&& 0xFF1F)
  | 0x10 => some (s.pvalRead a)
  | 0x14 => some 0
  | 0x18 => some (x.meas.getD 0 0)
  | 0x1C => some (x.meas.getD 1 0)
  | 0x20 => some (x.meas.getD 2 0)
  | 0x24 => some (x.meas.getD 3 0)
  | 0x28 => some (x.meas.getD 4 0)
  | 0x2C => some (x.meas.getD 5 0)
  | 0x30 => some (x.meas.getD 6 0)
  | 0x34 => some (ofInt x.sup.j)
  | 0x38 => some (ofInt x.sup.fc)
  | 0x3C => some (ofInt x.sup.fv)
  | 0x40 => some (ofNat (min 65535 x.sup.bw + min 65535 x.sup.blocks * 2 ^ 16))
  | 0x44 => some (ofNat (s.rpcRms a + (min 65535 (shrRnd (s.xi a 0x16) 15)).toNat * 2 ^ 16))
  | 0x48 => some (ofNat (((s.actAxis a).map (fun p => p.lat)).getD 0))
  | 0x4C => some (ofNat (b2n x.sup.lock + 2 * b2n x.sup.valid + 4 * b2n (x.sup.targets.any (fun t => s.pz a t.1 != t.2))))
  | _ => none

/-- PROF_AXSTAT and PROF_HOME (Tables 10.6 and 10.7). -/
def State.profStat (s : State) (a : Nat) : Nat :=
  let p := s.prof a
  let held := match p.q with | g :: _ => !s.headReady g | [] => false
  p.st + min 16 p.q.length * 2 ^ 4 + b2n held * 2 ^ 9 + b2n (s.limit a false) * 2 ^ 10 + b2n (s.limit a true) * 2 ^ 11 +
    p.group.getD 0 * 2 ^ 12 + b2n p.group.isSome * 2 ^ 17

def State.profRead (s : State) (o : Nat) : Option Word :=
  if 0x400 ≤ o && o < 0x800 then
    let g := (o - 0x400) / 0x20
    let w := (o - 0x400) % 0x20 / 4
    some (ofNat ((s.members g).foldl (fun n a => if a / 32 = w then n + 2 ^ (a % 32) else n) 0))
  else if 0x800 ≤ o && o < 0xA00 && o % 0x10 = 8 then
    some (putBits (s.rg (PROF_B + o)) 16 8 (s.members ((o - 0x800) / 0x10)).length)
  else if 0x1000 ≤ o && o < 0x2000 then
    let a := (o - 0x1000) / 0x10
    if o % 0x10 = 0 then some (ofNat (s.profStat a))
    else if o % 0x10 = 0xC then some (ofNat ((s.prof a).home + (s.prof a).code * 256))
    else none
  else none

/-- REF_LIM of an input that does not measure a frequency: bits 31, 30, 15 and 14 are reserved (Table 8.10). -/
def State.limReserved (s : State) (o : Nat) : Bool :=
  decide (0x600 ≤ o) && decide (o < 0x640) && o % 0x10 == 8 && s.fld (LOCAL_B + o - 8) 1 0 != 3

/-- LOCAL registers that follow the state: ADC_RES, LX_STAT, LX_STEPCNT, REF_LIM. -/
def State.localRead (s : State) (o : Nat) : Option Word :=
  if 0x100 ≤ o && o < 0x160 then some (s.adcRes ((o - 0x100) / 4))
  else if 0x400 ≤ o && o < 0x500 then
    let n := (o - 0x400) / 0x20
    if o % 0x20 = 0x14 then some (ofNat (b2n (s.gatesForced n))) else if o % 0x20 = 0x18 then some (ofInt (s.lx n).steps) else none
  else if s.limReserved o then some (s.rg (LOCAL_B + o) &&& 0x3FFF3FFF)
  else none

/-- LANE_STAT (Table 6.16). -/
def State.laneStat (s : State) (l : Nat) : Word :=
  putBit (putBit (s.rg (laneReg l 0)) 0 (s.powered (l / 8))) 2 (s.pilot.act.axes.any (fun p => p.lane == l))

/-- Semaphore counts and mailbox fill. -/
def State.cpuRead (s : State) (o : Nat) : Option Word :=
  if o = 0 then some (ofNat s.cpuStat)
  else if 0x6000 ≤ o && o < 0x6400 then some (ofNat (Tab.get 0 s.cpu.sem ((o - 0x6000) / 4)))
  else if 0x6400 ≤ o && o < 0x6500 then some (ofNat (Tab.get [] s.cpu.mbx ((o - 0x6400) / 4)).length)
  else none

/-- A register that shows the state and is not kept in the register table. -/
def State.liveRead (s : State) (off : Nat) : Option Word :=
  let o := off % 0x10000
  match off / 0x10000 with
  | 0x00 => if o = 0 then some (ofNat s.topId) else none
  | 0x01 => if o = 8 then some (ofNat s.hostStat) else none
  | 0x03 =>
    let p := (o - 0x100) / 0x40
    if 0x100 ≤ o && o < 0x500 then
      (match (o - 0x100) % 0x40 with
      | 0x34 => some (s.joinWord p)
      | 4 => some (s.rg off ||| s.sfpBits p)
      | _ => none)
    else none
  | 0x04 => if o = 0 then some (ofNat s.ntime) else if o = 4 then some (ofNat (s.ntime / 2 ^ 32)) else if o = 8 then some s.cycle else none
  | 0x06 => if o = 0x14 then some (ofNat (b2n (s.pageUsed 0) + 2 * b2n (s.pageUsed 1))) else none
  | 0x07 => if o % 0x1000 = 0 then some (s.laneStat (o / 0x1000)) else none
  | 0x08 => s.axisRead (o / 0x100) (o % 0x100)
  | 0x0A => s.profRead o
  | 0x0B => s.localRead o
  | 0x0E => if 0x4000 ≤ o && o < 0xC000 then some (ofNat (s.canWindow ((o - 0x4000) / 0x2000) (o % 0x2000 / 0x80) (o % 0x80 / 4))) else none
  | 0x12 => s.cpuRead o
  | 0x13 => if o = 0 then some (ofNat s.keelStat) else if 0x100 ≤ o && o < 0x200 then some (ofNat (s.keelWord ((o - 0x100) / 4))) else none
  | _ => none

/-- Bits of the fields that satisfy a test. -/
def fieldMask (fs : List Fld) (p : Fld → Bool) : Word :=
  fs.foldl (fun m f => if p f then putBits m f.hi f.lo (2 ^ (f.hi + 1 - f.lo) - 1) else m) 0

/-- The value a register shows: live or stored, with pending CYC values (R68), WO fields 0. -/
def State.value (s : State) (off : Nat) : Word :=
  match s.liveRead off with
  | some w => w
  | none =>
    let fs := regFields off
    let l := s.host.cyc ++ s.host.cycHeld
    let w := applyStaged (l.filter (fun x => !x.cmd) ++ l.filter (fun x => x.cmd)) off (s.rg off)
    w &&& ~~~(fieldMask fs (fun f => f.acc == .wo))

/-! ### Reading (R16, R17, R19, R55, R58) -/

/-- Offset of the low word of a 64-bit pair (R17). -/
def isLow (off : Nat) : Bool :=
  let o := off % 0x10000
  match off / 0x10000 with
  | 0x01 => 0x400 ≤ o && o < 0x800 && (o % 0x20 = 0 || o % 0x20 = 8)
  | 0x04 => o = 0 || o = 0x18 || o = 0xF004 || o = 0xF010
  | 0x08 => o % 0x100 = 0x18 || o % 0x100 = 0x88
  | 0x0D => o = 8 || o = 0xF004
  | 0x11 => (0x1000 ≤ o && o < 0x2000 && o % 0x10 = 4) || o = 0xF004
  | _ => o = 0xF004 && isSnap off

/-- Fields of access RC are cleared by the read that returns them. -/
def State.clearRc (s : State) (off : Nat) : State :=
  let fs := (regFields off).filter (fun f => f.acc == .rc)
  fs.foldl (fun s f => s.setFld off f.hi f.lo f.reset) s

/-- One read by an agent at a BAR0 offset: the value, and what the read does. Reads in the alias windows return the NORMAL value
(R55); a discarded one loads HOST_ERR_ADDR with the whole offset (Table 2.5). -/
def State.readReg (s : State) (a : Agent) (boff : Nat) : State × Word :=
  let off := boff % 0x400000 / 4 * 4
  if s.regOff off then (s.accessErr a .pdOff boff, 0)
  else
    let key (o : Nat) : Nat := agentNo a * 2 ^ 24 + o
    let v := match (if isLow (off - 4) && 4 ≤ off then s.host.latch.find? (fun e => e.1 == key off) else none) with
      | some e => ofNat e.2
      | none => s.value off
    let rest := s.host.latch.filter (fun e => e.1 != key off)
    let s' := { s with host := { s.host with latch := rest } }
    let hi := (s.value (off + 4)).toNat
    let s' := if isLow off then { s' with host := { s'.host with latch := Tab.set (2 ^ 32) s'.host.latch (key (off + 4)) hi } } else s'
    (s'.clearRc off, v)

/-- An agent's access reaches the registers: the host needs PD_HOST and the link (R53, R598). -/
def State.reaches (s : State) (a : Agent) : Bool :=
  match a with
  | .host => s.powered 5 && s.host.linkUp
  | .hart _ => true

/-- A read returned to its agent. -/
def State.readOut (s : State) (a : Agent) (boff : Nat) : State :=
  if s.reaches a then
    let r := s.readReg a boff
    r.1.emit (.read (agentNo a) boff r.2.toNat)
  else s

end Sys2Proof.Machine
end

