-- ==== Sys2Proof/Machine/Sound.lean ====
section
/-! DEFINITION. SOUNDING: the latch of the snapshot windows (R498, R499) and SNAP_DUMP (R500). -/

namespace Sys2Proof.Machine

open Sys2Proof

/-- Registers latched into a block's window, in order (Table 13.9, R526, R559, R606). The chapters of EVT, KEEL and HELM name
none: their windows hold the header. -/
def snapList (b : Nat) : List Nat :=
  let at_ (base : Nat) (l : List Nat) : List Nat := l.map (fun o => base + o)
  let rows (base cnt stride : Nat) (l : List Nat) : List Nat := ((List.range cnt).map (fun k => at_ (base + k * stride) l)).flatten
  match b with
  | 0x00 => [0x0, 0x4, 0xC, 0x10, 0x18, 0x1C, 0x20, 0x24]
  | 0x01 => [HOST_B + 0x8, HOST_B + 0xC] ++ rows (HOST_B + 0x400) 32 0x20 [0x14, 0x18]
  | 0x03 => [NET_B + 0x4, NET_B + 0x8] ++ rows (NET_B + 0x100) 16 0x40 [0x04, 0x08, 0x0C, 0x10, 0x14, 0x18, 0x24, 0x28, 0x30, 0x38]
  | 0x04 => at_ TIME_B [0x0, 0x4, 0x8, 0x10, 0x14, 0x24]
  | 0x05 => at_ PILOT_B [0x4, 0x8, 0x20] ++ rows (PILOT_B + 0x40) 16 4 [0]
  | 0x06 => at_ LANE_B [0x10, 0x14] ++ rows LANEN_B 16 0x1000 [0x0, 0x4, 0x8, 0xC, 0x10, 0x14] ++
      rows (LANE_B + 0x1020) 31 0x20 [0x10, 0x14, 0x18, 0x1C]
  | 0x09 => [FB_B] ++ rows (FB_B + 0x100) 4 0x10 [0xC] ++ rows (FB_B + 0x1000) 256 0x10 [0xC]
  | 0x0A => at_ PROF_B [0x0, 0x4] ++ rows (PROF_B + 0x800) 32 0x10 [0x8] ++ rows (PROF_B + 0x1000) 256 0x10 [0x0]
  | 0x0B => at_ LOCAL_B [0x0, 0xC] ++ rows (LOCAL_B + 0x400) 8 0x20 [0x14, 0x18] ++
      ((List.range 4).map (fun r => [LOCAL_B + 0x60C + r * 0x10, LOCAL_B + 0x704 + r * 8])).flatten ++ rows (LOCAL_B + 0x100) 24 4 [0]
  | 0x0C => [ACQ_B] ++ rows (ACQ_B + 0x100) 8 0x40 [0x0, 0x1C, 0x20, 0x24]
  | 0x0D => [SOUND_B + 0x10] ++ rows (SOUND_B + 0x100) 8 4 [0] ++ rows (SOUND_B + 0x140) 18 4 [0]
  | 0x0E => rows CAN_B 4 0x1000 [0x04, 0x14, 0x18, 0x1C, 0x20, 0x24, 0x28]
  | 0x0F => at_ SAFEP_B [0x0, 0x4, 0x8, 0xC, 0x10, 0x18]
  | 0x10 => at_ SAFES_B [0x0, 0x4, 0x8, 0xC, 0x10, 0x18]
  | 0x11 => [CART_B + 0x4] ++ rows (CART_B + 0x1000) 256 0x10 [0x0]
  | 0x12 => at_ CPU_B [0x0, 0x4]
  | _ => []

/-- Blocks with a window. -/
def snapBlocks : List Nat := (List.range 0x15).filter (fun b => b != 7 && b != 8)

/-- Clock domain of a block by its number in SOUND_SKEW (Table 1.1, Table 13.10). -/
def clockOf (b : Nat) : Nat :=
  if b = 0 || b = 0x13 || b = 0x14 then 0
  else if b = 0x12 then 2
  else if b = 3 || b = 4 || b = 0x0D then 3
  else if b = 1 then 4
  else if b = 0x0E || b = 0x0F then 5
  else if b = 0x10 then 6 else 1

/-- Power domain of a block's window (Table 1.1). -/
def snapDomain (b : Nat) : Option Nat :=
  match b with
  | 0x01 => some 5
  | 0x0B => some 6
  | 0x0E => some 6
  | 0x10 => some 7
  | _ => none

/-- The skew a domain can show: 0 on CK_NET, a multiple of 0.5 ns up to 2 ns on CK_CORE (R498). -/
def skewOf (d : Nat) (l : List Byte) : Nat :=
  let k := (l.getD d 0).toNat
  if d = 3 then 0 else if d = 1 then min 8 (k / 2 * 2) else k

abbrev snapBase (b : Nat) : Nat := b * 0x10000 + 0xF000

/-- A powered block latches its header and words. `v` reads the registers as they are on the edge. -/
def State.latchOn (s : State) (v : Nat → Word) (b seq t skew : Nat) : State :=
  let w := snapBase b
  let s := s.setRg w (ofNat (1 + 2 * b2n (b == 0x10) + skew % 256 * 16 + seq % 2 ^ 16 * 2 ^ 16))
  let s := ((s.setRg (w + 4) (ofNat t)).setRg (w + 8) (ofNat (t / 2 ^ 32))).setRg (w + 12) s.cycle
  (snapList b).zipIdx.foldl (fun s e => s.setRg (w + 0x10 + 4 * e.2) (v e.1)) s

/-- One block (R498, R499): a block whose domain is off keeps its window and shows OFF. -/
def State.latchBlock (s : State) (v : Nat → Word) (b seq t skew : Nat) : State :=
  match snapDomain b with
  | some c => if s.powered c then s.latchOn v b seq t skew else s.setFlag (snapBase b) 2
  | none => s.latchOn v b seq t skew

/-- Words of an axis (AX_SNAP0 to 7), and of a thread block (CPU_SNAPCNT). -/
def axSnap : List Nat := [0x00, 0x04, 0x18, 0x1C, 0x20, 0x24, 0x28, 0x2C]

/-- A dump that a sounding tears (R500). -/
def State.tearDumps (s : State) : State :=
  let l := s.acq.dumps
  let s := { s with acq := { s.acq with dumps := [] } }
  l.foldl (fun s j => (s.setFlag SOUND_FLAGS 2).complete j.src 0x56 j.desc .busy j.n) s

/-- A latch register of SOUND_SKEW: skew, or NONE. -/
def skewWord (on : Bool) (k : Nat) : Word := ofNat (if on then k % 256 else 256)

/-- SOUNDING_LATCH (R495, R498): at T every domain latches; the pending sounding completes. -/
def State.soundLatch (s : State) (skews : List Byte) : State :=
  match s.acq.sound with
  | none => s
  | some x =>
    if s.bnd + s.tCyc ≤ x.t then s
    else
      let s := { s with ntime := max s.ntime x.t }
      let s := s.tearDumps
      let seq := ((s.rg (SOUND_B + 0x10)).toNat + 1) % 2 ^ 32
      let s := s.setRg (SOUND_B + 0x10) (ofNat seq)
      let doms := [true, true, true, true, s.powered 5, true, s.powered 7, false]
      let s := doms.zipIdx.foldl (fun s e => s.setRg (SOUND_B + 0x100 + 4 * e.2) (skewWord e.1 (skewOf e.2 skews))) s
      let rx (p : Nat) : Bool := if p < 16 then s.powered (if p < 8 then 3 else 4) else s.flag HELM_STAT (6 + (p - 16))
      let s := (List.range 18).foldl (fun s p => s.setRg (SOUND_B + 0x140 + 4 * p) (skewWord (rx p) (skews.getD (8 + p) 0).toNat)) s
      let v (o : Nat) : Word := s.value o
      let s := snapBlocks.foldl (fun s b => s.latchBlock v b seq x.t (skewOf (clockOf b) skews)) s
      let s := (List.range 256).foldl (fun s a => axSnap.zipIdx.foldl (fun s e => s.setRg (axReg a (0x80 + 4 * e.2)) (v (axReg a e.1))) s) s
      let s := (List.range 1024).foldl (fun s k => s.setRg (CPU_B + 0x8000 + 4 * k) (v (thCfg (k / 4) + 0x20 + 4 * (k % 4)))) s
      let s := { s with acq := { s.acq with sound := none } }
      let s := s.setFld SOUND_STAT 2 0 0
      let s := if s.flag SOUND_CFG 1 then (List.range 8).foldl (fun s n =>
          if 2 ≤ (s.log n).st then s.logMark n s.cycle { time := x.t, code := 0x20, arg := seq } else s) s
        else s
      let s := s.raise 200 0
      match x.cmd with
      | some (src, d) => s.complete src 0x55 d .ok
      | none => s

def execSoundingLatch (skews : List Byte) (s : State) : Host.Outcome State Fault Refusal := .next (s.soundLatch skews)

/-! ### SNAP_DUMP -/

/-- The words of a dump. -/
def State.dumpWords (s : State) (b : Nat) : List Word :=
  if b = 8 then ((List.range 256).map (fun a => (List.range 8).map (fun k => s.rg (axReg a (0x80 + 4 * k))))).flatten
  else
    (List.range (4 + (snapList b).length)).map (fun k => s.rg (snapBase b + 4 * k)) ++
      (if b = 0x12 then (List.range 1024).map (fun k => s.rg (CPU_B + 0x8000 + 4 * k)) else [])

/-- Entries of a dump go to ring 31 while it has room; the last one completes the command. -/
def State.dumpDrain : Nat → State → State
  | 0, s => s
  | f + 1, s =>
    match s.acq.dumps with
    | [] => s
    | j :: r =>
      if j.rest.isEmpty then
        ({ s with acq := { s.acq with dumps := r } }.complete j.src 0x56 j.desc .ok j.n).dumpDrain f
      else if s.ringRoom 31 then
        let e := s.esize 31
        let s := s.pushRing 31 (padTo e (j.rest.take e))
        ({ s with acq := { s.acq with dumps := { j with rest := j.rest.drop e, n := j.n + 1 } :: r } }).dumpDrain f
      else s

/-- SNAP_DUMP (R500): header and words; SEQ and T are those of the window, for the axes those of LANE common. -/
def State.snapDump (s : State) (src : Src) (d : Desc) : State :=
  let b := d.tgt
  if b = 7 || 0x14 < b then s.complete src 0x56 d .badTarget
  else
    let w := snapBase (if b = 8 then 6 else b)
    let now := (s.rg (SOUND_B + 0x10)).toNat
    let seq := (now + 2 ^ 32 - (now + 2 ^ 16 - s.fld w 31 16) % 2 ^ 16) % 2 ^ 32
    let ws := s.dumpWords b
    let hd := leBytes 1 b ++ [0] ++ leBytes 2 ws.length ++ leBytes 4 seq ++ leBytes 4 (s.rg (w + 4)).toNat ++ leBytes 4 (s.rg (w + 8)).toNat
    let j : DumpJob := { src := src, desc := d, rest := hd ++ (ws.map (fun x => leBytes 4 x.toNat)).flatten, n := 0, seq := seq }
    State.dumpDrain 600 { s with acq := { s.acq with dumps := s.acq.dumps ++ [j] } }

def execSnapDump (src : Src) (d : Desc) (s : State) : Host.Outcome State Fault Refusal :=
  .next (s.cmd src 0x56 d fun s => s.soon src 0x56 d [] fun s => s.snapDump src d)

end Sys2Proof.Machine
end

