-- ==== Sys2Proof/Machine/RegWrite.lean ====
section
/-! DEFINITION. Register writes: windows, byte enables, domains, the access map, locks, guards, reserved encodings and staging
(R16 to R24, R54 to R60, R64 to R73, R624), with what each register's write does. -/

namespace Sys2Proof.Machine

open Sys2Proof

/-! ### Blocks -/

/-- Access-map group of the block of a register (R59): SAFE_P, SAFE_S, KEEL, HELM, CART. -/
def guardGroup (off : Nat) : Option Nat :=
  match off / 0x10000 with
  | 0x0F => some 0
  | 0x10 => some 1
  | 0x13 => some 2
  | 0x14 => some 3
  | 0x11 => some 4
  | _ => none

/-- OVR flag of the owning block: register and bit (R73). -/
def ovrFlag (off : Nat) : Nat × Nat :=
  let o := off % 0x10000
  match off / 0x10000 with
  | 0x00 => (TOP_FLAGS, 0)
  | 0x01 => (HOST_ERR, 5)
  | 0x02 => (EVT_B, 0)
  | 0x03 => (NET_FLAGS, 0)
  | 0x04 => (TIME_FLAGS, 0)
  | 0x05 => (PILOT_FLAGS, 0)
  | 0x06 => if 0x1020 ≤ o then (LANE_B + o / 0x20 * 0x20 + 0x1C, 3) else (LANE_CFLAGS, 0)
  | 0x07 => (laneReg (o / 0x1000) 4, 5)
  | 0x08 => (axReg (o / 0x100) 8, 0)
  | 0x09 => (FB_B, 0)
  | 0x0A => (PROF_B, 0)
  | 0x0B => (LOCAL_FLAGS, 0)
  | 0x0C => (ACQ_B, 0)
  | 0x0D => (SOUND_FLAGS, 0)
  | 0x0E => (canFlags (o / 0x1000 % 4), 0)
  | 0x0F => (SAFEP_B + 0x1C, 0)
  | 0x10 => (SAFES_B + 0x1C, 0)
  | 0x11 => (CART_FLAGS, 0)
  | 0x12 => (CPU_FLAGS, 0)
  | 0x13 => (KEEL_FLAGS, 0)
  | _ => (HELM_FLAGS, 0)

/-- The block's OVR flag is set (R24, R73); LANE_FLAGS raises its event (Table 14.7). -/
def State.setOvr (s : State) (off : Nat) : State :=
  let f := ovrFlag off
  if off / 0x10000 = 0x07 then s.laneFlag (off % 0x10000 / 0x1000) 5 else s.setFlag f.1 f.2

/-- KEEL group of a KEEL-class register (R21): KEEL_DEBUG group 2, KEEL_ACCESS group 3. -/
def keelGroup (off : Nat) : Nat := if off = KEEL_ACCESS then 3 else 2

/-! ### What a write would produce -/

/-- A write as the register sees it: bits selected and their values, and whether it came through NORMAL (R54, R56). -/
structure BitWrite where
  sel : Word
  val : Word
  normal : Bool
  deriving DecidableEq, Repr

/-- The windows: 0 NORMAL, 1 SET, 2 CLR, 3 MASK (R54). -/
def windowWrite (win : Nat) (w : Word) : BitWrite :=
  match win with
  | 0 => { sel := 0xFFFFFFFF, val := w, normal := true }
  | 1 => { sel := w, val := 0xFFFFFFFF, normal := false }
  | 2 => { sel := w, val := 0, normal := false }
  | _ => { sel := w >>> 16, val := w &&& 0xFFFF, normal := false }

/-- RW and RWH fields (R56). -/
def Fld.isRw (f : Fld) : Bool := f.acc == .rw || f.acc == .rwh

def Fld.mask (f : Fld) : Word := putBits 0 f.hi f.lo (2 ^ (f.hi + 1 - f.lo) - 1)

/-- A value the field admits (R24). -/
def Fld.admits (f : Fld) (v : Nat) : Bool :=
  (match f.legal with | some l => l.contains v | none => true) && decide (f.min ≤ v) && decide (v ≤ f.max) && !(f.evenOnly && v % 2 == 1)

/-- AX_PVAL_LO of an axis (Table 7.14). -/
def isPval (off : Nat) : Bool := off / 0x10000 == 0x08 && off % 0x100 == 0x10

/-- The register with every pending CYC and PLAN value (R57, R68, R69). -/
def State.pendValue (s : State) (off : Nat) : Word :=
  let l := s.host.cyc ++ s.host.cycHeld
  applyStaged (s.host.planUsed ++ s.host.plan ++ l.filter (fun x => !x.cmd) ++ l.filter (fun x => x.cmd)) off (s.rg off)

/-- Bits of RW and RWH fields that the write changes to an admitted value, and whether a field was refused (R24). -/
def rwBits (fs : List Fld) (cur : Word) (b : BitWrite) : Word × Bool :=
  fs.foldl (fun (acc : Word × Bool) f =>
    let m := f.mask &&& b.sel
    if f.isRw && m != 0 then
      let v := bits ((cur &&& ~~~m) ||| (b.val &&& m)) f.hi f.lo
      if f.admits v then (acc.1 ||| m, acc.2) else (acc.1, true)
    else acc) (0, false)

/-! ### Guards (R624) -/

/-- Some bits of two words differ. -/
def differ (x y m : Word) : Bool := (x &&& m) != (y &&& m)

/-- Cores of the three channels of LX_CH (R330). -/
def sameCore (w : Word) : Bool :=
  let a := bits w 4 0 / 8
  let b := bits w 12 8 / 8
  let c := bits w 20 16 / 8
  a == b || b == c || a == c

/-- NET_FLAGS.CFG_ERR, event 58 with the port. -/
def State.netCfgErr (s : State) (p : Nat) : State := s.flagEvent NET_FLAGS 1 58 p

/-- The write of a register that a rule discards whole, with the flag it sets; none: the write is taken. -/
def State.guarded (s : State) (off : Nat) (old new : Word) : Option State :=
  let o := off % 0x10000
  match off / 0x10000 with
  | 0x01 =>
    if 0x400 ≤ o && o < 0x800 then
      let r := (o - 0x400) / 0x20
      let k := o % 0x20
      let m : Word := if k < 0x10 then 0xFFFFFFFF else if k = 0x10 then 0xE00 else 0
      if s.ringEn r && differ old new m then some (s.setFlag (rStat r) 7) else none
    else none
  | 0x03 =>
    if o = 0 then
      if differ old new 0xFF00 && (List.range 16).any (fun p => s.portEn p) then some (s.netCfgErr 0) else none
    else if 0x100 ≤ o && o < 0x500 && o % 0x40 = 0 then
      let p := (o - 0x100) / 0x40
      if s.portEn p && differ old new 0x1F00 then some (s.netCfgErr p) else none
    else none
  | 0x06 =>
    if 0x110 ≤ o && o < 0x200 && old != new then (if s.entryOk new then none else some (s.cflag 3)) else none
  | 0x0B =>
    if 0x400 ≤ o && o < 0x500 && o % 0x20 = 0xC && differ old new 0x1F1F1F && sameCore new then some (s.localFlag 2) else none
  | 0x0E =>
    if o < 0x4000 then
      let n := o / 0x1000
      let k := o % 0x1000
      if (k = 8 || k = 0xC || k = 0x10) && !s.canInit n && old != new then some (s.canCfgErr n)
      else if 0x100 ≤ k && k < 0x500 then
        let b := (k - 0x100) / 0x10
        if (k % 0x10 = 4 || k % 0x10 = 8) && s.flag (mbCfg n b) 0 && old != new then some (s.canCfgErr n)
        else if k % 0x10 = 0 && !s.canMbCfgOk n b new then some (s.canCfgErr n)
        else none
      else none
    else none
  | _ => none

/-! ### RING_CFG and RING_IRQ (R84 to R86, R99) -/

/-- A ring is enabled: its engine runs. -/
def State.ringStart (s : State) (r : Nat) : State := s.setFlag (rStat r) 0

/-- RING_DISABLE: clearing EN (R84). -/
def State.ringStop (s : State) (r : Nat) : State := (s.clrFlag (rCfg r) 0).clrFlag (rStat r) 0

/-- RING_RESET: RST written while EN is 0 (R84, Table 2.9). The entries that it discards leave the ring's count of unsignalled
entries and its hold time with them (DESIGN CHOICE, assumption log 77: Table 2.9 names neither). -/
def State.ringRst (s : State) (r : Nat) : State :=
  if s.ringEn r then s
  else
    let x : RingX := { s.ringX r with unsignalled := 0, holdRun := false }
    ((((s.setRg (rIdx r) 0).setRingX r x).clrFlag (rStat r) 1).ringRefresh r)

/-- RING_RESIZE_REQUEST: LOG2SIZE written while EN is 1 (R85). Until the resize applies, LOG2SIZE reads the size in force (DESIGN
CHOICE, assumption log 77: the spec does not say which of the two it reads). -/
def State.ringResize (s : State) (r n : Nat) : State :=
  if n = s.fld (rCfg r) 8 4 then s.clrFlag (rStat r) 1
  else (s.setRingX r { s.ringX r with pendSize := n }).setFlag (rStat r) 1

/-- Rings whose entry size Table 2.12 gives as selectable. -/
def selectable (r : Nat) : Bool := (10 ≤ r && r ≤ 17) || (22 ≤ r && r ≤ 25) || r == 30 || r == 31

/-- A write of RING_CFG that no guard has discarded: `m` bits written, `v` values, `rst` RST. -/
def State.ringCfgWrite (s : State) (r : Nat) (m v : Word) (rst : Bool) : State :=
  let was := s.ringEn r
  let n := bits ((s.rg (rCfg r) &&& ~~~m) ||| (v &&& m)) 8 4
  let wrSize := m &&& 0x1F0 != 0
  let sizeOk := 4 ≤ n && n ≤ 16
  let s := if wrSize && !sizeOk then s.setOvr (rCfg r) else s
  let s := if selectable r then s.setFld (rCfg r) 11 9 (bits ((s.rg (rCfg r) &&& ~~~m) ||| (v &&& m)) 11 9) else s
  let s := if isReport r then s else s.setFld (rCfg r) 12 12 (bits ((s.rg (rCfg r) &&& ~~~m) ||| (v &&& m)) 12 12)
  let s := if wrSize && sizeOk then (if was then s.ringResize r n else s.setFld (rCfg r) 8 4 n) else s
  let s := if bit m 0 then
      if bit v 0 then (if was then s else (s.setFlag (rCfg r) 0).ringStart r) else if was then s.ringStop r else s
    else s
  if rst && !was then (if s.ringEn r then ((s.clrFlag (rCfg r) 0).ringRst r).setFlag (rCfg r) 0 else s.ringRst r) else s

/-- RING_IRQ.MASKED goes from 1 to 0: the event is raised at once when entries are unsignalled (R99). -/
def State.ringUnmask (s : State) (r : Nat) : State :=
  if (s.ringX r).unsignalled = 0 then s else s.ringEvent r

/-! ### Registers whose write is an action of its own -/

/-- CPU registers (Tables 14.3, 14.5; R524, R525); none: an ordinary register. -/
def State.cpuWrite (s : State) (a : Agent) (o : Nat) (w : Word) : Option State :=
  if o = 0x10 then some (s.hrstWrite w)
  else if 0x100 ≤ o && o < 0x120 then some (s.portWrite 0 ((o - 0x100) / 4) w)
  else if 0x140 ≤ o && o < 0x160 then some (s.portWrite 1 ((o - 0x140) / 4) w)
  else if 0x6000 ≤ o && o < 0x6400 then some (s.semPost a ((o - 0x6000) / 4) w.toNat)
  else if 0x6400 ≤ o && o < 0x6500 then some (s.mbxAppend a ((o - 0x6400) / 4) w.toNat)
  else if o = 0x6500 then some (s.dspStart (bits w 7 0))
  else if o = 0x6504 then some (s.unlist (bits w 7 0))
  else none

/-- A write to a register whose write acts as a whole and only in the NORMAL window (WO, W1S and R293). -/
def State.actionWrite (s : State) (a : Agent) (off : Nat) (w : Word) : Option State :=
  let o := off % 0x10000
  match off / 0x10000 with
  | 0x00 => if o = 8 then some (s.chipReset w) else if o = 0x14 then some (s.domainReset w) else none
  | 0x06 => if o = 8 then some (s.setRg off w) else if o = 0xC then some (s.manifestStore w) else none
  | 0x08 => if o % 0x100 = 4 then some (s.clearFlags (o / 0x100) (w &&& 0xFF1F)) else none
  | 0x0B =>
    if 0x700 ≤ o && o < 0x720 && o % 8 = 4 then some (if bit w 0 then s.refClear ((o - 0x700) / 8) else s) else none
  | 0x0E =>
    if o < 0x4000 then
      match o % 0x1000 with
      | 0x50 => some (s.canLock (o / 0x1000) (bits w 5 0))
      | 0x54 => some (s.canRel (o / 0x1000) (bits w 5 0))
      | 0x58 => some (s.canAbort (o / 0x1000) (bits w 5 0))
      | _ => none
    else none
  | 0x12 => s.cpuWrite a o w
  | _ => none

/-! ### The write itself -/

/-- W1C bits cleared by ones; `v` holds the ones written. -/
def State.clearOnes (s : State) (fs : List Fld) (off : Nat) (v : Word) : State :=
  let m := v &&& fieldMask fs (fun f => f.acc == .w1c)
  if m = 0 then s else s.setRg off (s.rg off &&& ~~~m)

/-- What follows a taken write of ordinary fields: `old` the stored word before it. -/
def State.afterWrite (s : State) (off : Nat) (old : Word) (b : BitWrite) : State :=
  let o := off % 0x10000
  match off / 0x10000 with
  | 0x01 =>
    if o = 4 then (if bit old 0 && !s.flag HOST_CTL 0 then s.releaseCyc else s)
    else if 0x400 ≤ o && o < 0x800 && o % 0x20 = 0x1C then
      let r := (o - 0x400) / 0x20
      if bit old 31 && !s.flag (rIrq r) 31 then s.ringUnmask r else s
    else s
  | 0x04 => if o = 0xC && !s.flag TIME_CFG 2 then s.ppsOut false else s
  | 0x06 => if 0x500 ≤ o && o < 0x800 then s.startCheck ((o - 0x400) / 0x10) else s
  | 0x08 => if o % 0x100 = 0x14 then s.pvalHold (o / 0x100) (s.rg off) else s
  | 0x0A => if o = 4 then s.vinWritten else s
  | 0x0B =>
    if o = 0 then (s.fltPolarity old).fltClear (if b.normal then bits b.val 7 0 else 0)
    else if 0x400 ≤ o && o < 0x500 && o % 0x20 = 0 && differ old (s.rg off) 0xC0000 then s.driveGates ((o - 0x400) / 0x20)
    else s
  | _ => s

/-- The taken write: IMM and KEEL bits at once, CYC and PLAN bits staged. `m`: admitted RW bits; `boff`: the offset with its
window (R60). -/
def State.takeWrite (s : State) (a : Agent) (boff : Nat) (fs : List Fld) (m : Word) (b : BitWrite) (cmd : Bool) : State :=
  let off := boff % 0x400000 / 4 * 4
  let part (p : Fld → Bool) : Word := m &&& fieldMask fs p
  let old := s.rg off
  let keep : Word := if off / 0x10000 = 0x02 && 0x100 ≤ off % 0x10000 && off % 0x10000 < 0x500 && !isSuper a then 0x300 else 0
  let keel := part (fun f => f.cls == .keel)
  let locked := keel != 0 && 2 ≤ s.groupState (keelGroup off)
  let imm := ((part (fun f => f.cls == .imm)) ||| (if locked then 0 else keel)) &&& ~~~keep
  let cy := part (fun f => f.cls == .cyc)
  let pl := part (fun f => f.cls == .plan)
  let s := if locked then s.accessErr a .locked boff else s
  let s := if imm = 0 then s else s.setRg off ((old &&& ~~~imm) ||| (b.val &&& imm))
  let s := if cy = 0 then s else s.stageCyc a { off := off, mask := cy, val := b.val, defer := 0, cmd := cmd }
  let s := if pl = 0 then s else (s.stagePlan { off := off, mask := pl, val := b.val, defer := 0 }).enWritten off
  let s := if b.normal && off != LOCAL_FLT then s.clearOnes fs off b.val else s
  s.afterWrite off old b

/-- The value an alias write of a register works on (R54, R57): AX_PVAL_LO stands for the parameter that AX_PID selects (R293). -/
def State.writeBase (s : State) (off : Nat) : Word :=
  if isPval off then s.parPending (off % 0x10000 / 0x100) (s.fld (off + 0xC - 0x10) 15 0) else s.pendValue off

/-- AX_PVAL_LO: a write in the NORMAL window writes the selected parameter; an alias write changes it when it is RW (R56, R293). -/
def State.pvalAccess (s : State) (ag : Agent) (off : Nat) (new : Word) (b : BitWrite) : State :=
  if b.normal || (parRow (s.fld (off + 0xC - 0x10) 15 0)).any (fun p => p.acc == .rw || p.acc == .rwh) then
    s.pvalWrite ag (off % 0x10000 / 0x100) new
  else s

/-- Fields of a register as its block has them now (Table 8.10: REF_LIM by the input's mode). -/
def State.fieldsAt (s : State) (off : Nat) : List Fld :=
  if off / 0x10000 = 0x0B && s.limReserved (off % 0x10000) then [cyc 13 0, cyc 29 16 0x3FFF] else regFields off

/-- A write of ordinary fields: reserved encodings, guards, then the write. An alias write that selects no bit of a RW or RWH
field does nothing (R56). -/
def State.fieldWrite (s : State) (a : Agent) (boff : Nat) (b : BitWrite) (cmd : Bool) : State :=
  let off := boff % 0x400000 / 4 * 4
  let fs := s.fieldsAt off
  let cur := s.writeBase off
  let r := rwBits fs cur b
  let new := (cur &&& ~~~r.1) ||| (b.val &&& r.1)
  if !b.normal && r.1 = 0 then (if r.2 then s.setOvr off else s)
  else match s.guarded off cur new with
  | some t => t
  | none =>
    let s := if r.2 then s.setOvr off else s
    let o := off % 0x10000
    if off / 0x10000 = 0x01 && 0x400 ≤ o && o < 0x800 && o % 0x20 = 0x10 then
      s.ringCfgWrite ((o - 0x400) / 0x20) r.1 b.val (b.normal && bit b.val 1)
    else if off / 0x10000 = 0x0E && o < 0x4000 && o % 0x1000 = 0 then s.canCtlWrite (o / 0x1000) new
    else if off / 0x10000 = 0x0E && o < 0x4000 && 0x100 ≤ o % 0x1000 && o % 0x10 = 0 then s.canMbCfgSet (o / 0x1000) ((o % 0x1000 - 0x100) / 0x10) new
    else if off / 0x10000 = 0x12 && 0x1000 ≤ o && o < 0x5000 then s.threadWrite a ((o - 0x1000) / 0x40) (o % 0x40 / 4) new
    else if isPval off then s.pvalAccess a off new b
    else s.takeWrite a boff fs r.1 b cmd

/-- A write of a register, now. -/
def State.writeNow (s : State) (a : Agent) (boff : Nat) (w : Word) (cmd : Bool) : State :=
  let win := boff / 0x400000 % 4
  match (if win = 0 then s.actionWrite a (boff % 0x400000 / 4 * 4) w else none) with
  | some t => t
  | none => s.fieldWrite a boff (windowWrite win w) cmd

/-- Customer lists that a write of LANE_ENTRY names, when it changes the register (R242). -/
def State.entryNamed (s : State) (boff : Nat) (w : Word) : List Nat :=
  let off := boff % 0x400000 / 4 * 4
  if LANE_B + 0x110 ≤ off && off < LANE_B + 0x200 then
    let cur := s.writeBase off
    let b := windowWrite (boff / 0x400000 % 4) w
    let m := (rwBits (regFields off) cur b).1
    let new := (cur &&& ~~~m) ||| (b.val &&& m)
    if new = cur then [] else entryChecks new
  else []

/-- A write that reaches a register: LANE writes wait while a section list is checked, and a LANE_ENTRY write that names customer
lists while these are checked (R242). -/
def State.blockWrite (s : State) (a : Agent) (boff : Nat) (w : Word) (cmd : Bool) : State :=
  let off := boff % 0x400000 / 4 * 4
  let lane := off / 0x10000 = 0x06 || off / 0x10000 = 0x07
  let p : Posted := { agent := a, boff := boff, word := some w }
  if lane && s.checking then { s with mem := { s.mem with posted := s.mem.posted ++ [p] } }
  else match s.entryNamed boff w with
    | [] => s.writeNow a boff w cmd
    | l => l.foldl State.startCheck { s with mem := { s.mem with entry := some p } }

/-- One 32-bit write by an agent at a BAR0 offset (R16, R58, R59); `full`: every byte enable is set. A command's write has passed
the map already. -/
def State.busWrite (s : State) (a : Agent) (boff : Nat) (w : Word) (full cmd : Bool) : State :=
  let off := boff % 0x400000 / 4 * 4
  if !s.reaches a && !cmd then s
  else if !full then s.accessErr a .part boff
  else if s.regOff off then s.accessErr a .pdOff boff
  else
    match guardGroup off with
    | some g => if !cmd && !isSuper a && s.mapDenies g 0 then s.accessErr a .denied boff else s.blockWrite a boff w cmd
    | none => s.blockWrite a boff w cmd

/-! ### Reads that leave the block, and reads that wait (R62) -/

/-- LANE accesses of the host wait (R242). -/
def State.hostPosted (s : State) : Bool := s.mem.posted.any (fun p => p.agent == .host) || s.mem.entry.any (fun p => p.agent == .host)

/-- A host read of a LANE register waits behind the host's LANE writes that wait (R62). -/
def State.readWaits (s : State) (a : Agent) (boff : Nat) : Bool :=
  let off := boff % 0x400000 / 4 * 4
  (off / 0x10000 == 0x06 || off / 0x10000 == 0x07) && a == .host && s.hostPosted

/-- A read by an agent: it waits (R62), or it returns its value. -/
def State.readAccess (s : State) (a : Agent) (boff : Nat) : State :=
  if s.reaches a && s.readWaits a boff then
    { s with mem := { s.mem with posted := s.mem.posted ++ [{ agent := a, boff := boff, word := none }] } }
  else s.readOut a boff

/-! ### Doorbells (R70, R78, R82, R86) -/

/-- The doorbell gives an index that R82 or R86 refuses. -/
def State.dbBad (s : State) (r new : Nat) : Bool :=
  let n := s.ringSize r
  let old := s.hostIdx r
  let own := s.cxmIdx r
  if n ≤ new then true
  else if isReport r then decide ((own + n - old) % n < (own + n - new) % n)
  else decide ((new + n - own % n) % n < (old + n - own % n) % n) || s.resizeBlocks r new

/-- A doorbell is taken (R78): the index, or DB_ERR. On a report ring the index is the consumer's, which a resize may wait for
(R85). -/
def State.doorbell (s : State) (r : Nat) (v : Word) : State :=
  let new := bits v 15 0
  let old := s.consIdx r
  if s.dbBad r new then s.ringFlag r 3
  else ((s.setFld (rIdx r) 15 0 new).ringRefresh r).applyResize r old

/-- Writes of the host that a doorbell must not overtake have not taken effect (R70): CYC writes held in the posted queue, LANE
accesses that wait. -/
def State.hostBehind (s : State) : Bool := !s.host.cycHeld.isEmpty || s.hostPosted

/-- A write of a doorbell (R78): it reads back at once, and its index counts once the host's earlier writes have taken effect. -/
def State.ringDoorbell (s : State) (r : Nat) (v : Word) : State :=
  if !s.reaches .host then s
  else
    let s := s.setRingX r { s.ringX r with doorbell := v.toNat }
    if s.hostBehind || !s.host.dbHeld.isEmpty then { s with host := { s.host with dbHeld := s.host.dbHeld ++ [(r, v)] } }
    else s.doorbell r v

/-- Doorbells that waited are taken, once nothing is left that they must not overtake (R70). -/
def State.freeDoorbells (s : State) : State :=
  if s.hostBehind then s
  else s.host.dbHeld.foldl (fun s e => s.doorbell e.1 e.2) { s with host := { s.host with dbHeld := [] } }

/-! ### The end of a list check (R242) -/

/-- One LANE access that waited goes on. -/
def State.replayOne (s : State) (p : Posted) : State :=
  match p.word with
  | some w => s.blockWrite p.agent p.boff w false
  | none => s.readOut p.agent p.boff

def State.replayLane (s : State) : Nat → State
  | 0 => s
  | f + 1 =>
    if s.checking then s
    else match s.mem.posted with
      | [] => s
      | e :: r => (({ s with mem := { s.mem with posted := r } }).replayOne e).replayLane f

/-- The LANE_ENTRY write whose lists have been checked is taken or discarded. -/
def State.entryTaken (s : State) : State :=
  match s.mem.entry with
  | some p => if s.checking then s else { s with mem := { s.mem with entry := none } }.writeNow p.agent p.boff (p.word.getD 0) false
  | none => s

/-- LIST_CHECK_DONE (R242): the check of a list ends; once no list is being checked the LANE_ENTRY write and the LANE accesses that
waited go on. -/
def State.listCheckDone (s : State) (list : Nat) : State :=
  let t := (s.checkDone list).entryTaken
  (t.replayLane t.mem.posted.length).freeDoorbells

/-! ### BAR2, BAR4 and the configuration space (R51, R52, R78, R96) -/

/-- The MSI-X table entry of a vector changes; a pending message leaves when its mask ends (R96). -/
def State.msixStore (s : State) (v : Nat) (m : MsixV) : State :=
  let s := { s with host := { s.host with msix := Tab.set {} s.host.msix v m } }
  if m.pba && !m.masked && s.host.msixOn then
    ({ s with host := { s.host with msix := Tab.set {} s.host.msix v { m with pba := false } } }).sendMsix v
  else s

/-- A write of word k of the MSI-X table: address low and high, data, vector control (bit 0: mask). -/
def State.msixWord (s : State) (k : Nat) (w : Word) : State :=
  let v := k / 4
  let m := s.msixV v
  match k % 4 with
  | 0 => s.msixStore v { m with addr := m.addr / 2 ^ 32 * 2 ^ 32 + w.toNat / 4 * 4 }
  | 1 => s.msixStore v { m with addr := w.toNat * 2 ^ 32 + m.addr % 2 ^ 32 }
  | 2 => s.msixStore v { m with data := w.toNat }
  | _ => s.msixStore v { m with masked := bit w 0 }

/-- MSI-X Message Control: bit 14 of its half-word is Function Mask, bit 15 MSI-X Enable; messages whose pending bits are set leave
when the function's mask ends (R96). -/
def State.msixControl (s : State) (en mask : Bool) : State :=
  let s := { s with host := { s.host with msixEn := en, msixMask := mask } }
  (List.range 64).foldl (fun s v => s.msixStore v (s.msixV v)) s

/-- Places of the capabilities in configuration space (assumption log 78): PCI Express at 0x40, MSI-X at 0x80, AER at 0x100. -/
abbrev cfgDevCtl : Nat := 0x48
abbrev cfgMsix : Nat := 0x80

/-- A configuration word (Table 2.1; layout of the PCI Express Base Specification). -/
def State.configRead (s : State) (o : Nat) : Nat :=
  match o / 4 * 4 with
  | 0x00 => 0x02561E9C
  | 0x08 => 0x118000B1
  | 0x10 => 0x4
  | 0x18 => 0x4
  | 0x20 => 0x4
  | 0x34 => 0x40
  | 0x40 => 0x00028010
  | 0x44 => 0x10008002
  | 0x48 => s.host.payload * 2 ^ 5 + s.host.readReq * 2 ^ 12
  | 0x80 => 0x003F0011 + b2n s.host.msixMask * 2 ^ 30 + b2n s.host.msixEn * 2 ^ 31
  | 0x84 => 0x4
  | 0x88 => 0x804
  | 0x100 => 0x00020001
  | _ => 0

/-- A configuration write: payload and read-request size as the host sets them (Table 2.1), MSI-X Message Control. -/
def State.configWrite (s : State) (o : Nat) (w : Word) : State :=
  if o / 4 * 4 = cfgDevCtl then
    let p := bits w 7 5
    let r := bits w 14 12
    { s with host := { s.host with payload := if p ≤ 2 then p else s.host.payload, readReq := if r ≤ 5 then r else s.host.readReq } }
  else if o / 4 * 4 = cfgMsix then s.msixControl (bit w 31) (bit w 30)
  else s

/-- A write in another space of the function: BAR2 doorbells at ring × 8, the MSI-X table of BAR4, the configuration space. -/
def State.spaceWrite (s : State) (sp : Space) (o : Nat) (w : Word) : State :=
  match sp with
  | .bar2 => if o < 0x100 && o % 8 = 0 then s.ringDoorbell (o / 8) w else s
  | .bar4 => if o < 0x400 then s.msixWord (o / 4) w else s
  | .config => s.configWrite o w
  | .regs => s

/-- The value of a read in another space of the function: doorbells, the MSI-X table and its PBA, the configuration space. -/
def State.spaceRead (s : State) (sp : Space) (o : Nat) : Nat :=
  match sp with
  | .bar2 => if o < 0x100 && o % 8 = 0 then (s.ringX (o / 8)).doorbell else 0
  | .bar4 =>
    let m := s.msixV (o / 16)
    if o < 0x400 then
      (match o / 4 % 4 with
       | 0 => m.addr % 2 ^ 32
       | 1 => m.addr / 2 ^ 32
       | 2 => m.data
       | _ => b2n m.masked)
    else if o / 4 = 0x200 || o / 4 = 0x201 then
      (List.range 32).foldl (fun n v => n + b2n (s.msixV ((o / 4 - 0x200) * 32 + v)).pba * 2 ^ v) 0
    else 0
  | .config => s.configRead o
  | .regs => 0

/-- The number under which a read of another space is recorded: the space above the offset (assumption log 3). -/
def spaceNo : Space → Nat
  | .regs => 0
  | .bar2 => 0x2000000
  | .bar4 => 0x4000000
  | .config => 0x8000000

/-! ### The rows -/

abbrev Answer := Host.Outcome State Fault Refusal

/-- REGISTER_WRITE: any register in the NORMAL window (R624), or a word of another space of the function. -/
def State.registerWrite (s : State) (agent : Agent) (off : Nat) (value : Word) (full : Bool) (space : Space) : State :=
  match space, agent with
  | .regs, _ => s.busWrite agent off value full false
  | sp, .host => if s.reaches .host && full then s.spaceWrite sp off value else s
  | _, .hart _ => s

def execRegisterWrite (agent : Agent) (off : BitVec 22) (value : Word) (be : BitVec 4) (space : Space) (s : State) : Answer :=
  .next (s.registerWrite agent off.toNat value (be == 15) space)

/-- LOW_WORD_READ: a read of the low word of a pair (R17). Any other offset is read as it is. -/
def State.lowWordRead (s : State) (agent : Agent) (off : Nat) (space : Space) : State :=
  match space, agent with
  | .regs, _ => s.readAccess agent off
  | sp, .host => if s.reaches .host then s.emit (.read 0 (spaceNo sp + off) (s.spaceRead sp off)) else s
  | _, .hart _ => s

def execLowWordRead (agent : Agent) (off : BitVec 24) (space : Space) (s : State) : Answer := .next (s.lowWordRead agent off.toNat space)

/-- RC_FIELD_READ: a read of a register with an RC field (R19). -/
def execRcFieldRead (agent : Agent) (off : BitVec 24) (s : State) : Answer := .next (s.readAccess agent off.toNat)

/-- ALIAS_SET_WRITE, ALIAS_CLR_WRITE, ALIAS_MASK_WRITE (R54 to R57). -/
def execAliasSetWrite (agent : Agent) (off : BitVec 22) (value : Word) (be : BitVec 4) (s : State) : Answer :=
  .next (s.busWrite agent (0x400000 + off.toNat) value (be == 15) false)
def execAliasClrWrite (agent : Agent) (off : BitVec 22) (value : Word) (be : BitVec 4) (s : State) : Answer :=
  .next (s.busWrite agent (0x800000 + off.toNat) value (be == 15) false)
def execAliasMaskWrite (agent : Agent) (off : BitVec 22) (value : Word) (be : BitVec 4) (s : State) : Answer :=
  .next (s.busWrite agent (0xC00000 + off.toNat) value (be == 15) false)

/-- CYC_HOLD_RELEASE: the host clears HOST_CTL.CYC_HOLD (R67). -/
def execCycHoldRelease (s : State) : Answer := .next (s.busWrite .host (0x800000 + HOST_CTL) 1 true false)

/-- CMD_PAUSE_WRITE: the host sets or clears HOST_CTL.CMD_PAUSE (R92). -/
def execCmdPauseWrite (on : Bool) (s : State) : Answer :=
  .next (s.busWrite .host ((if on then 0x400000 else 0x800000) + HOST_CTL) 2 true false)

/-- RING_DISABLE: the host clears RING_CFG.EN (R84). -/
def execRingDisable (ring : Fin 32) (s : State) : Answer := .next (s.busWrite .host (0x800000 + rCfg ring.val) 1 true false)

/-- RING_RESET: the host writes RING_CFG.RST with EN 0, the other fields as they are (R84). -/
def execRingReset (ring : Fin 32) (s : State) : Answer :=
  .next (s.busWrite .host (rCfg ring.val) ((s.rg (rCfg ring.val) &&& 0xFFFFFFFE) ||| 2) true false)

/-- RING_RESIZE_REQUEST: the host writes RING_CFG.LOG2SIZE, the other fields as they are (R85). -/
def execRingResizeRequest (ring : Fin 32) (log2size : BitVec 5) (s : State) : Answer :=
  .next (s.busWrite .host (rCfg ring.val) (putBits (s.rg (rCfg ring.val)) 8 4 log2size.toNat) true false)

/-- RING_IRQ_UNMASK: the host clears RING_IRQ.MASKED (R99). -/
def execRingIrqUnmask (ring : Fin 32) (s : State) : Answer :=
  .next (s.busWrite .host (0x800000 + rIrq ring.val) 0x80000000 true false)

/-- MANIFEST_WORD_STORE: the host writes LANE_MDATA_HI (R241). -/
def execManifestWordStore (hi : Word) (s : State) : Answer := .next (s.busWrite .host (LANE_B + 0xC) hi true false)

/-- LANE_SLIST_WRITE: two sections of a customer list (R242); lists 0 to 15 are read-only. -/
def execLaneSlistWrite (list : Fin 64) (pair : Fin 4) (value : Word) (s : State) : Answer :=
  .next (s.busWrite .host (LANE_B + 0x400 + list.val * 0x10 + pair.val * 4) value true false)

/-- LANE_ENTRY_WRITE: the lists of a section set (R242); set 0 is read-only. -/
def execLaneEntryWrite (set : Fin 16) (word : Fin 4) (value : Word) (s : State) : Answer :=
  .next (s.busWrite .host (LANE_B + 0x100 + set.val * 0x10 + word.val * 4) value true false)

def execListCheckDone (list : Fin 64) (s : State) : Answer := .next (s.listCheckDone list.val)

/-- PORT_CFG_WRITE (R108). -/
def execPortCfgWrite (port : Fin 16) (value : Word) (s : State) : Answer := .next (s.busWrite .host (pCfg port.val) value true false)

end Sys2Proof.Machine
end

