-- ==== Sys2Proof/Machine/Host.lean ====
section
/-! DEFINITION. The ring engines, doorbells, ring and MSI-X events, and the commands NOP, REG_WRITE, REG_READ and WAIT_CYCLE
(spec 02, R75 to R99). -/

namespace Sys2Proof.Machine

open Sys2Proof

def execDoorbellWrite (ring : Fin 32) (value : Word) (s : State) : Answer := .next (s.ringDoorbell ring.val value)

/-! ### DESCRIPTOR_TAKE (R88, R92, R93) -/

/-- Completion slots of a ring that are reserved by commands in progress. -/
def State.reserved (s : State) (q : Nat) : Nat :=
  (s.host.taken.filter (fun t => t.cq == q && (match t.src with | .ring _ => true | .port _ => false))).length

/-- One more slot of a completion ring can be reserved. -/
def State.slotFree (s : State) (q : Nat) : Bool :=
  let k := s.reserved q
  s.ringEn q && s.flag (rStat q) 0 && decide (s.ringCount q + k + 1 < s.ringSize q) &&
    !s.resizeBlocks q ((s.prodIdx q + k + 1) % s.ringSize q)

/-- FENCE keeps a descriptor back while an earlier command of its ring has not completed (R92). -/
def State.fenceHolds (s : State) (src : Src) (d : Desc) : Bool :=
  d.fence && s.host.taken.any (fun t => t.src.ringNo == src.ringNo)

/-- The target has room: an axis queue for rings 6 to 9 (R379), a CAN transmit buffer for rings 18 to 21 (R546). -/
def State.targetRoom (s : State) (r opc : Nat) (d : Desc) : Bool :=
  if opc = 0x40 && 6 ≤ r && r ≤ 9 && d.tgt < 256 then s.segRoom d.tgt
  else if opc = 0x60 && 18 ≤ r && r ≤ 21 && d.tgt < 64 then (s.canB (r - 18) d.tgt).tx.isNone
  else true

/-- A ring engine may take this head now. -/
def State.mayTake (s : State) (h : Head) : Bool :=
  let r := h.ring.val
  isSubmission r && s.ringEn r && s.flag (rStat r) 0 && s.ringCount r != 0 && !(r < 4 && s.flag HOST_CTL 1) &&
    s.slotFree (s.cqOf r) && !s.fenceHolds (.ring h.ring) h.desc && s.targetRoom r h.opcode.toNat h.desc

/-- A command in progress; an opcode that its ring does not accept ends at once (R94). -/
def State.begin (s : State) (src : Src) (opc : Nat) (d : Desc) (cq : Nat) : State :=
  let x : Taken := { src := src, opcode := opc, desc := d, cq := cq }
  let s := { s with host := { s.host with taken := s.host.taken ++ [x] } }
  if opcodeOnRing opc src.ringNo && opcodes.contains opc then s else s.complete src opc d .badOpcode

/-- The head of a ring is taken: consumer index, writeback, count, resize (R79, R80, R85, R98). -/
def State.takeHead (s : State) (h : Head) : State :=
  let r := h.ring.val
  let old := s.cxmIdx r
  let next := (old + 1) % s.ringSize r
  let s := (((s.setFld (rIdx r) 31 16 next).ringRefresh r).writeback r).applyResize r old
  let p := s.countRing r
  let s := if p.2 then p.1.ringEvent r else p.1
  s.begin (.ring h.ring) h.opcode.toNat h.desc (s.cqOf r)

/-- A command port's submitted command, served as if from ring 3 (R525): after ring 3's own. -/
def State.takePort (s : State) : State :=
  match s.cpu.portQ.find? (fun e => !s.fenceHolds (.port (if e.1 = 0 then 0 else 1)) e.2.2) with
  | some e =>
    let rest := s.cpu.portQ.erase e
    ({ s with cpu := { s.cpu with portQ := rest } }).begin (.port (if e.1 = 0 then 0 else 1)) e.2.1 e.2.2 4
  | none => s

/-- First head in a list that a ring's engine may take. -/
def State.takeFrom (s : State) (l : List Head) (p : Nat → Bool) : Option Head := l.find? (fun h => p h.ring.val && s.mayTake h)

/-- Rings with an engine of their own (R93). -/
def ownEngines : List Nat := [6, 7, 8, 9, 18, 19, 20, 21, 29]

/-- DESCRIPTOR_TAKE: `heads` are the descriptors that host memory holds at the heads of the rings. Of rings 0 to 3 the lowest
with a descriptor available is served, then the command ports; every other ring by its own engine. -/
def State.take (s : State) (heads : List Head) : State :=
  let main := ([0, 1, 2, 3] : List Nat).findSome? (fun r => s.takeFrom heads (fun k => k == r))
  let s := match main with
    | some h => s.takeHead h
    | none => if s.flag HOST_CTL 1 then s else s.takePort
  ownEngines.foldl (fun s r => match s.takeFrom heads (fun k => k == r) with
    | some h => s.takeHead h
    | none => s) s

def execDescriptorTake (heads : List Head) (s : State) : Answer := .next (s.take heads)

/-! ### Report rings and events of rings -/

/-- REPORT_RING_WRITE (R80): what waits for room in a report ring is written as far as it fits (Table 2.12). -/
def State.reportWrite (s : State) (r : Nat) : State :=
  if 10 ≤ r && r ≤ 17 then s.logDrain (r - 10) 1200
  else if 22 ≤ r && r ≤ 25 then s.canDrain (r - 22) 128
  else if r = 27 then State.safeDrain 257 s
  else if r = 28 then s.cartDrain
  else if r = 31 then State.dumpDrain 600 s
  else s

def execReportRingWrite (ring : Fin 32) (s : State) : Answer := .next (s.reportWrite ring.val)

/-- RING_IRQ_HOLD_EXPIRY (R98). -/
def State.holdOver (s : State) (r : Nat) : State :=
  if (s.ringX r).holdRun && s.fld (rIrq r) 23 8 != 0 then s.ringEvent r else s

def execRingIrqHoldExpiry (ring : Fin 32) (s : State) : Answer := .next (s.holdOver ring.val)

/-- COMPLETION_RING_STALL: ring 4 or 5 has stayed full for HOST_CQ_TMO (R90). -/
def State.cqStall (s : State) (q : Nat) : State := if s.ringEn q && s.flag (rStat q) 2 then s.ringFlag q 6 else s

def execCompletionRingStall (second : Bool) (s : State) : Answer := .next (s.cqStall (if second then 5 else 4))

/-- RING_DMA_ERROR (R83). -/
def State.dmaError (s : State) (r : Nat) : State :=
  if s.ringEn r && s.flag (rStat r) 0 then (s.clrFlag (rStat r) 0).ringFlag r 4 else s

def execRingDmaError (ring : Fin 32) (s : State) : Answer := .next (s.dmaError ring.val)

/-- MSIX_VECTOR_UNMASK (R96): the table entry is written with its mask bit 0; a pending message is sent. -/
def State.msixUnmask (s : State) (v addr data : Nat) : State :=
  if s.reaches .host then s.msixStore v { s.msixV v with addr := addr, data := data, masked := false } else s

def execMsixVectorUnmask (vector : Fin 64) (addr : BitVec 64) (data : Word) (s : State) : Answer :=
  .next (s.msixUnmask vector.val addr.toNat data.toNat)

/-! ### Commands on registers (Table 2.16) -/

def execNop (src : Src) (d : Desc) (s : State) : Answer :=
  .next (s.cmd src 0x00 d fun s => s.soon src 0x00 d [] fun s => s.complete src 0x00 d .ok)

/-- Errors of REG_WRITE, in the order of its operands. -/
def State.regWriteError (s : State) (src : Src) (d : Desc) : Option St :=
  let off := d.op0.toNat
  if 4 ≤ d.tgt then some .badTarget
  else if off % 4 ≠ 0 || 0x400000 ≤ off then some .badOperand
  else if (match guardGroup off with | some g => s.mapDenies g (1 + src.ringNo) | none => false) then some .accessDenied
  else if s.regOff off then some .pdOff
  else none

/-- The write of REG_WRITE. -/
def State.regWriteBody (s : State) (src : Src) (d : Desc) : State :=
  (s.busWrite .host (d.tgt * 0x400000 + d.op0.toNat) d.op1 true true).complete src 0x01 d .ok

def State.regWrite (s : State) (src : Src) (d : Desc) : State :=
  match s.regWriteError src d with
  | some e => s.complete src 0x01 d e
  | none => s.soon src 0x01 d [] fun s => s.regWriteBody src d

def execRegWrite (src : Src) (d : Desc) (s : State) : Answer := .next (s.cmd src 0x01 d fun s => s.regWrite src d)

/-- REG_READ: through any window, with the effects of a host read (R17, R19, R55). -/
def State.regRead (s : State) (src : Src) (d : Desc) : State :=
  s.soon src 0x02 d [] fun s =>
    let off := d.op0.toNat
    if off % 4 ≠ 0 || 0x1000000 ≤ off then s.complete src 0x02 d .badOperand
    else if s.regOff (off % 0x400000) then s.complete src 0x02 d .pdOff
    else
      let r := s.readReg .host off
      r.1.complete src 0x02 d .ok r.2.toNat

def execRegRead (src : Src) (d : Desc) (s : State) : Answer := .next (s.cmd src 0x02 d fun s => s.regRead src d)

/-- WAIT_CYCLE completes at the boundary of its cycle (R91). -/
def execWaitCycle (src : Src) (d : Desc) (s : State) : Answer := .next (s.cmd src 0x03 d fun s => s.atBoundary src 0x03 d)

end Sys2Proof.Machine
end

