-- ==== Sys2Proof/Machine/Sync.lean ====
section
/-! DEFINITION. What CHAIN brings to the standby and the sweep of the holder (spec 16, R566 to R570, Table 16.6). -/

namespace Sys2Proof.Machine

open Sys2Proof

/-- The unit takes the partner's traffic: without the helm, CHAIN up, from BULK on (Table 16.6). -/
def State.follows (s : State) : Bool := !s.holder && s.chainUp && 1 ≤ s.syncState && s.syncState ≤ 3

/-- BOUNDARY_RECORD_RECEIVE (R567): the effect stream waits for its boundary. `missing` names axes without a record; nothing is
stated that depends on them. The record is of the SAIL frame of cycle c, as frozen: from that of N − 8 on the COMMIT marker counts
as sent. -/
def State.rxBoundary (s : State) (c : BitVec 32) (planAct : Nat) (ws : List (Nat × Word × Word)) (cs : List (Nat × Desc)) : State :=
  if s.follows then
    let sent := match s.pilot.chainAt with | some n => !isFuture (n - 8) c | none => false
    { s with helm := { s.helm with rxCyc := some (c, planAct), rxW := ws, rxC := cs },
             pilot := { s.pilot with markerSent := s.pilot.markerSent || sent } }
  else s

def execBoundaryRecordReceive (cycle : Word) (planAct : Byte) (writes : List (Nat × Word × Word)) (cmds : List (Byte × Desc))
    (_missing : List (Fin 256)) (s : State) : Answer :=
  .next (s.rxBoundary cycle planAct.toNat writes (cmds.map (fun e => (e.1.toNat, e.2))))

/-- AXIS_STATE_RECEIVE (R37): the record waits for the standby's next pass of the axis, which adopts it. -/
def State.rxAxis (s : State) (a c fl : Nat) (carry : List Nat) : State :=
  if s.follows then
    { s with helm := { s.helm with rxState := Tab.set [] s.helm.rxState a (c :: fl :: carry.take 12) } }
  else s

def execAxisStateReceive (axis : Fin 256) (cycle axflags : BitVec 16) (carry : List Word) (s : State) : Answer :=
  .next (s.rxAxis axis.val cycle.toNat axflags.toNat (carry.map (fun w => w.toNat)))

/-! ### Learning and life memory by word address -/

/-- Words of learning memory; life memory follows with 256 words an axis (Table 1.9, R421). -/
def learnWords : Nat := 131072
def sweepWords : Nat := 196608

def padList (n : Nat) (l : List Byte) : List Byte := (l ++ List.replicate n 0).take n

/-- The 1,024 bytes of an axis's life memory (Table 11.10). -/
def State.lifeImage (s : State) (a : Nat) : List Byte :=
  let c := s.cax a
  let cnt := (List.range 5).map (fun k => leBytes 8 (Tab.get 0 s.mem.life (a * 8 + k)))
  padList 64 c.ident ++ cnt.flatten ++ padList 24 (leBytes 4 c.seq) ++ padList 256 ((c.aft.map (fun v => leBytes 4 v)).flatten) ++
    padList 576 ((c.held.map (fun r => padList 64 r)).flatten) ++ List.replicate 64 0

/-- Bytes, or nothing where all are 0. -/
def orNone (l : List Byte) : List Byte := if l.all (fun b => b == 0) then [] else l

/-- The life memory of an axis overwritten. -/
def State.setLife (s : State) (a : Nat) (m : List Byte) : State :=
  let aft := slice m 0x80 256
  let held := ((List.range 9).map (fun k => slice m (0x180 + 64 * k) 64)).filter (fun r => !(orNone r).isEmpty)
  let tab := if (orNone aft).isEmpty then [] else (List.range 64).map (fun k => leAt aft (4 * k) 4)
  let life := (List.range 5).foldl (fun t k => Tab.set 0 t (a * 8 + k) (leAt m (0x40 + 8 * k) 8)) s.mem.life
  let c : CartAx := { s.cax a with ident := orNone (slice m 0 64), seq := leAt m 0x68 4, aft := tab, held := held }
  ({ s with mem := { s.mem with life := life } }).setCax a c

/-- A word of the swept memories. -/
def State.sweepRead (s : State) (k : Nat) : Nat :=
  if k < learnWords then (Tab.get 0 s.mem.learn k).toNat
  else leAt (s.lifeImage ((k - learnWords) / 256)) ((k - learnWords) % 256 * 4) 4

def State.sweepWrite (s : State) (k : Nat) (w : Word) : State :=
  if k < learnWords then { s with mem := { s.mem with learn := Tab.set 0 s.mem.learn k w } }
  else if k < sweepWords then
    let a := (k - learnWords) / 256
    let o := (k - learnWords) % 256 * 4
    let m := s.lifeImage a
    s.setLife a (m.take o ++ leBytes 4 w.toNat ++ m.drop (o + 4))
  else s

/-- Words of a chunk: 4,096 bytes per 31.25 µs of the cycle, half with one lane up (R566). -/
def State.chunkWords (s : State) : Nat :=
  let n := 1024 * s.tCyc / 31250
  if s.fld HELM_STAT 7 6 = 3 then n else n / 2

/-- SWEEP_TRANSFER: the holder sends the next chunk (R566). -/
def State.sweepSend (s : State) : State :=
  if s.holder && s.chainUp then
    let p := s.helm.sweepPos
    let n := s.chunkWords
    let ws := (List.range n).map (fun k => s.sweepRead ((p + k) % sweepWords))
    ({ s with helm := { s.helm with sweepPos := (p + n) % sweepWords } }).emit (.chain 3 (p :: ws))
  else s

def execSweepTransfer (s : State) : Answer := .next s.sweepSend

/-- SWEEP_RECEIVE: the standby's copy is overwritten (R570). -/
def State.sweepTake (s : State) (p : Nat) (ws : List Word) : State :=
  if s.follows then
    let s := ws.zipIdx.foldl (fun (s : State) e => s.sweepWrite ((p + e.2) % sweepWords) e.1) s
    { s with helm := { s.helm with swept := min sweepWords (s.helm.swept + ws.length) } }
  else s

def execSweepReceive (pos : BitVec 18) (words : List Word) (s : State) : Answer := .next (s.sweepTake pos.toNat words)

/-! ### Bulk transfer (Table 16.6 step 3) -/

/-- A segment as numbers, and back. -/
def segOfInts (l : List Int) : Seg :=
  { kind := (l.getD 0 0).toNat, p1 := l.getD 1 0, v1 := l.getD 2 0, t := (l.getD 3 0).toNat, rel := decide (l.getD 4 0 ≠ 0),
    hold := decide (l.getD 5 0 ≠ 0), evt := decide (l.getD 6 0 ≠ 0), relPr := decide (l.getD 8 0 ≠ 0),
    named := if l.getD 7 0 < 0 then none else some (BitVec.ofInt 32 (l.getD 7 0)) }

def segsOfInts : Nat → List Int → List Seg
  | 0, _ => []
  | f + 1, l => if l.isEmpty then [] else segOfInts (l.take 9) :: segsOfInts f (l.drop 9)

/-- PROF state of an axis from the bulk: state, reference, velocity, acceleration, deceleration, target velocity, segment start
(position, velocity, cycles), group + 1, last end (flag, position), a segment in progress (flag, nine numbers), the queue. -/
def profOfInts (l : List Int) : ProfSt :=
  { st := (l.getD 0 0).toNat, pr := l.getD 1 0, vr := l.getD 2 0, ar := l.getD 3 0, dec := l.getD 4 0, vt := l.getD 5 0, p0 := l.getD 6 0,
    v0 := l.getD 7 0, t := (l.getD 8 0).toNat, group := if l.getD 9 0 = 0 then none else some (l.getD 9 0 - 1).toNat,
    lastEnd := if l.getD 10 0 = 0 then none else some (l.getD 11 0),
    seg := if l.getD 12 0 = 0 then none else some (segOfInts ((l.drop 13).take 9)), q := segsOfInts 16 (l.drop 22) }

/-- RESYNC_BULK_DONE: the snapshot is taken over, BULK to SHADOW: registers (offset, value), plan and mirror tables, slot words
(axis, key, word), learning and life words (address, word), PROF states. The mirror plan governs the passes (R570). -/
def State.bulkDone (s : State) (regs : List (Nat × Word)) (plan mirror : List Nat) (slots : List (Nat × Nat × Word))
    (mem : List (Nat × Word)) (profs : List (Nat × List Int)) : State :=
  if s.syncState = 1 then
    let s := regs.foldl (fun (s : State) e => if (regFields e.1).any (fun f => f.isRw) then s.setRg e.1 e.2 else s) s
    let p := planOfWords plan
    let m := planOfWords mirror
    let s := { s with pilot := { s.pilot with act := if mirror.isEmpty then p else m } }
    let s := { s with helm := { s.helm with mirror := if mirror.isEmpty then none else some m } }
    let s := (s.setFld PILOT_STAT 7 0 p.id).setRg NET_STAT (ofNat (p.rate + berthCount p.rate * 16 + minislots p.rate * 2 ^ 16))
    let s := slots.foldl (fun (s : State) e => if e.2.1 < 0x80 then s.setXw e.1 e.2.1 e.2.2 else s.setYw e.1 (e.2.1 - 0x80) e.2.2) s
    let s := mem.foldl (fun (s : State) e => s.sweepWrite e.1 e.2) s
    let s := profs.foldl (fun (s : State) e => s.setProf e.1 (profOfInts e.2)) s
    s.setFld HELM_STAT 10 8 2
  else s

def execResyncBulkDone (regs : List (Nat × Word)) (plan mirror : List Word) (slots : List (Fin 256 × Byte × Word))
    (mem : List (Nat × Word)) (profs : List (Fin 256 × List Int)) (s : State) : Answer :=
  .next (s.bulkDone regs (plan.map (fun w => w.toNat)) (mirror.map (fun w => w.toNat)) (slots.map (fun e => (e.1.val, e.2.1.toNat, e.2.2))) mem
    (profs.map (fun e => (e.1.val, e.2))))

end Sys2Proof.Machine
end

