-- ==== Sys2Proof/Machine/Boundary.lean ====
section
/-! DEFINITION. CYCLE_BOUNDARY: what happens at every cycle boundary (R20, R64 to R70, R91, R147, R215, R373, R527). -/

namespace Sys2Proof.Machine

open Sys2Proof

/-! ### Staged CYC writes -/

/-- PORT_CFG.EN of a port has changed from `old`: BPn_TXDIS follows (R103); clearing EN ends an isolation of the port's first node
(R170), and RUN falls with the last port (Table 4.3). -/
def State.portSwitched (s : State) (p : Nat) (old : Bool) : State :=
  let s := s.driveTxDis p old
  if s.portEn p then s
  else { s with net := { s.net with stopped := s.net.stopped.filter (fun e => e.1 != p) } }.runStops

/-- One CYC write takes effect: a parameter (R287), or register fields. -/
def State.applyCyc (s : State) (x : Staged) : State :=
  if 0x10000000 ≤ x.off then s.hostPar ((x.off - 0x10000000) / 0x1000) (x.off % 0x1000) x.val
  else
    let o := x.off - pCfg 0
    let t := s.applyWrite x
    if pCfg 0 ≤ x.off && o < 0x400 && o % 0x40 = 0 then t.portSwitched (o / 0x40) (s.portEn (o / 0x40)) else t

/-- The staging buffer at a boundary: what takes effect in order, writes by commands last (R65, R70); what stays. -/
def State.applyStage (s : State) : State :=
  if s.flag HOST_CTL 0 then s
  else
    let now := s.host.cyc.filter (fun x => x.defer == 0)
    let stay := (s.host.cyc.filter (fun x => x.defer != 0)).map (fun (x : Staged) => { x with defer := x.defer - 1 })
    let held := s.host.cycHeld.map (fun (x : Staged) => { x with defer := x.defer - 1 })
    let h : HostSt := { s.host with cyc := stay, cycHeld := held }
    (now.filter (fun x => !x.cmd) ++ now.filter (fun x => x.cmd)).foldl State.applyCyc { s with host := h.refill }

/-! ### Commands due -/

/-- REG_WRITE at its named boundary: its CYC fields take effect there (R91). -/
def State.dueRegWrite (s : State) (src : Src) (d : Desc) : State :=
  match s.regWriteError src d with
  | some e => s.complete src 0x01 d e
  | none =>
    let t := s.regWriteBody src d
    let new := t.host.cyc.drop s.host.cyc.length
    new.foldl State.applyCyc { t with host := { t.host with cyc := t.host.cyc.take s.host.cyc.length } }

/-- A command's effect at its boundary (R91). -/
def State.runDue (s : State) (x : Due) : State :=
  let src := x.src
  let d := x.desc
  match x.opc with
  | 0x00 => s.complete src 0x00 d .ok
  | 0x01 => s.dueRegWrite src d
  | 0x02 => s.regRead src d
  | 0x03 => s.complete src 0x03 d .ok s.cycle.toNat
  | 0x11 => if x.aux = 1 then s.paramWrite src d else s.dueParam src d
  | 0x12 => s.paramRead src d
  | 0x13 => s.dueLock src d
  | 0x14 => s.dueLearn src d
  | 0x15 => s.dueInject src d
  | 0x16 => s.dueClear src d
  | 0x20 => s.planPrepare src d x.aux
  | 0x22 => s.planAbort src d
  | 0x23 => s.planReport src d
  | 0x30 => if d.atCycle then s.netBoom src d else s.resumePort d.tgt
  | 0x31 => s.netQuery src d
  | 0x32 => s.netReset src d
  | 0x33 => s.netTransfer src 0x33 d (some x.data)
  | 0x34 => s.netTransfer src 0x34 d (some x.data)
  | 0x35 => s.portTest src d
  | 0x36 => s.timeSet src d
  | 0x42 => s.dueStop src d
  | 0x43 => s.dueResume src d
  | 0x44 => s.dueHome src d
  | 0x45 => s.dueGroupSet src d
  | 0x50 => s.logConfig src d x.data
  | 0x51 => s.dueLogStart src d
  | 0x52 => s.dueLogStop src d
  | 0x53 => s.logMaskLoad src d x.data
  | 0x54 => s.logTrigger src d
  | 0x55 => s.soundFire src d
  | 0x56 => s.snapDump src d
  | 0x61 => s.canRecover src d
  | 0x62 => s.canSleep src d
  | 0x70 => s.cartAuth src d
  | 0x71 => s.cartRead src d
  | 0x72 => s.cartWrite src d x.data
  | 0x73 => s.dueCartPolicy src d x.data
  | 0x74 => s.cartFlush src d
  | 0x80 => s.safeLoad src d x.data
  | 0x81 => s.safeStatus src d
  | 0x91 => s.relayGrant src d
  | 0x92 => s.testLane src d
  | 0x93 => s.testHart src d
  | 0x94 => s.testMemory src d
  | 0x95 => s.pdSwitch src d
  | 0xA0 => s.keelProgram src d
  | 0xA1 => s.fwStage src d (some x.data)
  | 0xB0 => s.tunnelTx src d (some x.data)
  | _ => s

/-- Every axis that a boundary serves: placed, or named by a mode change. -/
def State.boundaryAxes (s : State) (modes : List Due) : List Nat :=
  (s.pilot.act.axes.map (fun p => p.axis) ++ modes.map (fun x => x.desc.tgt)).eraseDups

/-- Mode changes of a boundary, by axis; the host's in their order (R273, R274, R342). -/
def State.applyModes (s : State) (modes : List Due) : State :=
  (s.boundaryAxes modes).foldl (fun s a =>
    s.modeStep a ((modes.filter (fun x => x.desc.tgt == a)).map (fun x => (x.src, x.desc)))) s

/-- The commands due at this boundary take effect. -/
def State.applyDue (s : State) : State :=
  let now := s.host.due.filter (fun x => !isFuture x.cyc s.cycle)
  let later := s.host.due.filter (fun x => isFuture x.cyc s.cycle)
  let s := { s with host := { s.host with due := later } }
  let s := (now.filter (fun x => x.opc != 0x10)).foldl State.runDue s
  s.applyModes (now.filter (fun x => x.opc == 0x10))

/-! ### The effect stream (R567) -/

/-- Own writes or commands that meet an entry of the effect stream at this boundary. -/
def State.diverges (s : State) (ws : List Staged) (due : List Due) : Bool :=
  ws.any (fun w => s.helm.rxW.any (fun e => e.1 == w.off && (e.2.1 &&& w.mask) != 0)) ||
  due.any (fun x => s.helm.rxC.any (fun e => e.1 == x.opc && e.2.tgt == x.desc.tgt))

/-- A command effect of the stream: as the command's at the holder, without a completion here (its slot names no ring). -/
def State.rxCommand (s : State) (e : Nat × Desc) : State :=
  let d : Desc := { e.2 with flags := 0 }
  let t : Taken := { src := .ring 0, opcode := e.1, desc := d, cq := 63 }
  let s := { s with host := { s.host with taken := t :: s.host.taken } }
  let x : Due := { cyc := s.cycle, src := .ring 0, opc := e.1, desc := d }
  let s := if e.1 = 0x10 then s.modeStep d.tgt [(.ring 0, d)] else s.runDue x
  s.release (.ring 0) e.1 d

/-- Axes of an old plan whose wake pass under it has not come move now. -/
def State.endStays (s : State) (l : List PlanAxis) : State :=
  l.foldl (fun (s : State) p => if (s.axis p.axis).stay.isSome then (s.endStay p.axis).flushWrites p.axis else s) s

/-- The standby's tables follow the holder's plan and then its mirror (R570, R571). -/
def State.followPlan (s : State) (planAct : Nat) : State :=
  let s := match s.pilot.new with
    | some p => if p.id = planAct && p.id != s.pilot.act.id then
        let old := s.pilot.act.axes
        let s := (s.switchTo p).endStays old
        { s with pilot := { s.pilot with new := none, old := none, switched := false, chainAt := none }, helm := { s.helm with mirror := none } }
      else s
    | none => s
  match s.helm.mirror with
  | some m => if m.id != s.pilot.act.id then
      let old := s.pilot.act
      (({ s with pilot := { s.pilot with act := m } }).moveLanes old m).endStays old.axes
    else s
  | none => s

/-- The effect stream of this boundary applies (R567). -/
def State.applyStream (s : State) (div : Bool) : State :=
  match s.helm.rxCyc with
  | none => s
  | some (c, planAct) =>
    if c != s.cycle then s
    else
      let ws := s.helm.rxW
      let cs := s.helm.rxC
      let s := if div then s.setFlag HELM_FLAGS 2 else s
      let s := { s with helm := { s.helm with rxCyc := none, rxW := [], rxC := [] } }
      let s := ws.foldl (fun (s : State) e => s.applyCyc { off := e.1, mask := e.2.1, val := e.2.2, defer := 0 }) s
      let s := cs.foldl State.rxCommand s
      if s.standby then s.followPlan planAct else s

/-! ### The boundary -/

/-- Cycle number, network time and the lanes' counts of the cycle (R147, Table 6.16). -/
def State.advance (s : State) : State :=
  let b := (s.bnd / s.tCyc + 1) * s.tCyc
  let s := { s with cycle := s.cycle + 1, bnd := b, ntime := max s.ntime b, helm := { s.helm with missed := [] } }
  (List.range 16).foldl (fun (s : State) l =>
    (s.setLane l { s.lane l with ended := 0 }).setFld (laneReg l 0) 23 16 0) s

/-- Placed axes, each by a function. -/
def State.eachAxis (s : State) (f : State → Nat → State) : State := (s.pilot.act.axes.map (fun p => p.axis)).foldl f s

/-- A member node serves bound axes without a pass (R193). -/
def State.unplacedFlag (s : State) : State := if s.unplaced && !s.flag PILOT_FLAGS 4 then s.pilotFlag 4 else s

/-- Reference inputs, groups and PROF's decisions, then SETP (R373, R402). -/
def State.profBoundary (s : State) (refs : List (Nat × Bool)) : State :=
  let s := s.refBoundary refs
  let s := (List.range 32).foldl State.refGroup s
  s.eachAxis (fun s a => (s.profDecide a).writeSetp a)

/-- FB's verdicts, the fault reactions' levels and PORT's requests. -/
def State.faultBoundary (s : State) : State :=
  let s := (s.eachAxis (fun s a => (s.fbBoundary a))).eachAxis (fun s a => s.worsen a (s.healthFloor a))
  { s with loc := { s.loc with tripNow := [] } }

/-- CYCLE_BOUNDARY. `refs`: what the pin reference inputs have measured since the last boundary, and their levels. -/
def State.cycleBoundary (s : State) (refs : List (Nat × Bool)) : State :=
  let s := ((s.useAllTails.serveSound.acqClose).endStays ((s.pilot.old.map (fun o => o.axes)).getD [])).advance
  let s := s.acqOpen.stepWait
  let s := s.eachAxis (fun s a => s.setProf a { s.prof a with stopped := false, tqHost := false })
  let s := s.eachAxis State.profAdvance
  let div := s.diverges (if s.flag HOST_CTL 0 then [] else s.host.cyc.filter (fun x => x.defer == 0)) (s.host.due.filter (fun x => !isFuture x.cyc s.cycle))
  let s := (s.applyStage.freeDoorbells.safeBoundary).faultBoundary
  let s := (s.applyDue.applyStream div).emuBoundary
  let s := (s.eachAxis State.adaptRamp).ledgerBoundary
  let s := ((s.profBoundary refs).pilotBoundary).mirrorBoundary
  let s := (s.netBoundary.resyncBoundary).unplacedFlag
  s.cartBoundary.canBoundary

def execCycleBoundary (refs : List (Nat × Bool)) (s : State) : Answer := .next (s.cycleBoundary refs)

end Sys2Proof.Machine
end

