-- ==== Sys2Proof/Machine/Riscv.lean ====
section
/-! DEFINITION. The instruction set of the harts, RV32IMAFC (R504), as functions of words: instruction fields, the expansion of
16-bit instructions, integer and multiplication arithmetic, AMO results. The spec names the standard and does not repeat it (PRESUMED,
assumption log 69). -/

namespace Sys2Proof.Machine

open Sys2Proof

/-! ### Fields -/

/-- Immediate of the I, S, B, U and J formats. -/
def immI (w : Word) : Int := sbits w 31 20
def immS (w : Word) : Int := sbits w 31 25 * 32 + bits w 11 7
def immB (w : Word) : Int := sbits w 31 31 * 4096 + (bits w 7 7 * 2048 + bits w 30 25 * 32 + bits w 11 8 * 2 : Nat)
def immU (w : Word) : Word := w &&& 0xFFFFF000
def immJ (w : Word) : Int := sbits w 31 31 * 2 ^ 20 + (bits w 19 12 * 4096 + bits w 20 20 * 2048 + bits w 30 21 * 2 : Nat)

/-- A word of the R, I, S, B, U and J formats from its parts. -/
def rvR (f7 rs2 rs1 f3 rd op : Nat) : Nat := f7 * 2 ^ 25 + rs2 * 2 ^ 20 + rs1 * 2 ^ 15 + f3 * 2 ^ 12 + rd * 2 ^ 7 + op
def rvI (imm rs1 f3 rd op : Nat) : Nat := imm % 4096 * 2 ^ 20 + rs1 * 2 ^ 15 + f3 * 2 ^ 12 + rd * 2 ^ 7 + op
def rvS (imm rs2 rs1 f3 op : Nat) : Nat := rvR (imm / 32 % 128) rs2 rs1 f3 (imm % 32) op
def rvB (imm rs2 rs1 f3 : Nat) : Nat := rvR (imm / 4096 % 2 * 64 + imm / 32 % 64) rs2 rs1 f3 (imm / 2 % 16 * 2 + imm / 2048 % 2) 0x63
def rvJ (imm rd : Nat) : Nat :=
  imm / 2 ^ 20 % 2 * 2 ^ 31 + imm / 2 % 1024 * 2 ^ 21 + imm / 2048 % 2 * 2 ^ 20 + imm / 4096 % 256 * 4096 + rd * 128 + 0x6F

/-! ### 16-bit instructions -/

/-- Quadrant 0: stack addresses, loads and stores on registers 8 to 15. -/
def rvQuad0 (c : Nat) : Option Nat :=
  let rd := field c 4 2 + 8
  let rs := field c 9 7 + 8
  let off := field c 12 10 * 8 + field c 6 6 * 4 + field c 5 5 * 64
  match field c 15 13 with
  | 0 =>
    let imm := field c 12 11 * 16 + field c 10 7 * 64 + field c 6 6 * 4 + field c 5 5 * 8
    if imm = 0 then none else some (rvI imm 2 0 rd 0x13)
  | 2 => some (rvI off rs 2 rd 0x03)
  | 3 => some (rvI off rs 2 rd 0x07)
  | 6 => some (rvS off rd rs 2 0x23)
  | 7 => some (rvS off rd rs 2 0x27)
  | _ => none

/-- Offset of C.J and C.JAL; of C.BEQZ and C.BNEZ. -/
def rvJumpOff (c : Nat) : Nat :=
  let v := field c 12 12 * 2048 + field c 11 11 * 16 + field c 10 9 * 256 + field c 8 8 * 1024 + field c 7 7 * 64 + field c 6 6 * 128 +
    field c 5 3 * 2 + field c 2 2 * 32
  if v < 2048 then v else v + 0x1FF000
def rvBranchOff (c : Nat) : Nat :=
  let v := field c 12 12 * 256 + field c 11 10 * 8 + field c 6 5 * 64 + field c 4 3 * 2 + field c 2 2 * 32
  if v < 256 then v else v + 0x1E00

/-- Quadrant 1, arithmetic on registers 8 to 15. -/
def rvQuad1Alu (c : Nat) : Option Nat :=
  let rd := field c 9 7 + 8
  let rs := field c 4 2 + 8
  let imm := field c 12 12 * 0xFE0 + field c 6 2
  match field c 11 10 with
  | 0 => if field c 12 12 = 1 then none else some (rvI (field c 6 2) rd 5 rd 0x13)
  | 1 => if field c 12 12 = 1 then none else some (rvI (field c 6 2 + 0x400) rd 5 rd 0x13)
  | 2 => some (rvI imm rd 7 rd 0x13)
  | _ =>
    if field c 12 12 = 1 then none
    else match field c 6 5 with
      | 0 => some (rvR 0x20 rs rd 0 rd 0x33)
      | 1 => some (rvR 0 rs rd 4 rd 0x33)
      | 2 => some (rvR 0 rs rd 6 rd 0x33)
      | _ => some (rvR 0 rs rd 7 rd 0x33)

/-- Quadrant 1: immediates, jumps and branches. -/
def rvQuad1 (c : Nat) : Option Nat :=
  let rd := field c 11 7
  let imm := field c 12 12 * 0xFE0 + field c 6 2
  match field c 15 13 with
  | 0 => some (rvI imm rd 0 rd 0x13)
  | 1 => some (rvJ (rvJumpOff c) 1)
  | 2 => some (rvI imm 0 0 rd 0x13)
  | 3 =>
    if rd = 2 then
      let v := field c 12 12 * 0xE00 + field c 6 6 * 16 + field c 5 5 * 64 + field c 4 3 * 128 + field c 2 2 * 32
      if v = 0 then none else some (rvI v 2 0 2 0x13)
    else if imm = 0 then none
    else some ((field c 12 12 * 0xFFFE0 + field c 6 2) * 4096 + rd * 128 + 0x37)
  | 4 => rvQuad1Alu c
  | 5 => some (rvJ (rvJumpOff c) 0)
  | 6 => some (rvB (rvBranchOff c) 0 (field c 9 7 + 8) 0)
  | _ => some (rvB (rvBranchOff c) 0 (field c 9 7 + 8) 1)

/-- Quadrant 2: shifts, moves, jumps by register, accesses from the stack pointer. -/
def rvQuad2 (c : Nat) : Option Nat :=
  let rd := field c 11 7
  let rs := field c 6 2
  let load := field c 12 12 * 32 + field c 6 4 * 4 + field c 3 2 * 64
  let store := field c 12 9 * 4 + field c 8 7 * 64
  match field c 15 13 with
  | 0 => if field c 12 12 = 1 then none else some (rvI rs rd 1 rd 0x13)
  | 2 => if rd = 0 then none else some (rvI load 2 2 rd 0x03)
  | 3 => some (rvI load 2 2 rd 0x07)
  | 4 =>
    if field c 12 12 = 0 then
      if rs = 0 then (if rd = 0 then none else some (rvI 0 rd 0 0 0x67)) else some (rvR 0 rs 0 0 rd 0x33)
    else if rs = 0 then (if rd = 0 then some 0x00100073 else some (rvI 0 rd 0 1 0x67))
    else some (rvR 0 rs rd 0 rd 0x33)
  | 6 => some (rvS store rs 2 2 0x23)
  | 7 => some (rvS store rs 2 2 0x27)
  | _ => none

/-- The 32-bit instruction that a 16-bit one stands for; none: a reserved encoding. -/
def rvExpand (c : Nat) : Option Nat :=
  match c % 4 with
  | 0 => rvQuad0 c
  | 1 => rvQuad1 c
  | _ => rvQuad2 c

/-! ### Integer arithmetic -/

/-- Register-register and register-immediate operations by funct3; `alt` is funct7 bit 5 (SUB, SRA). -/
def rvAlu (f3 : Nat) (alt : Bool) (a b : Word) : Word :=
  let sh := b.toNat % 32
  match f3 with
  | 0 => if alt then a - b else a + b
  | 1 => a <<< sh
  | 2 => if sgn a < sgn b then 1 else 0
  | 3 => if a.toNat < b.toNat then 1 else 0
  | 4 => a ^^^ b
  | 5 => if alt then a.sshiftRight sh else a >>> sh
  | 6 => a ||| b
  | _ => a &&& b

/-- The M extension: products, and quotients with the values the standard gives division by 0 and overflow. -/
def rvMul (f3 : Nat) (a b : Word) : Word :=
  match f3 with
  | 0 => a * b
  | 1 => ofInt (sgn a * sgn b / 2 ^ 32)
  | 2 => ofInt (sgn a * (b.toNat : Int) / 2 ^ 32)
  | 3 => ofNat (a.toNat * b.toNat / 2 ^ 32)
  | 4 => if b = 0 then 0xFFFFFFFF else ofInt (Int.tdiv (sgn a) (sgn b))
  | 5 => if b = 0 then 0xFFFFFFFF else ofNat (a.toNat / b.toNat)
  | 6 => if b = 0 then a else ofInt (Int.tmod (sgn a) (sgn b))
  | _ => if b = 0 then a else ofNat (a.toNat % b.toNat)

/-- Conditions of the branches; none: reserved. -/
def rvBranch (f3 : Nat) (a b : Word) : Option Bool :=
  match f3 with
  | 0 => some (a == b)
  | 1 => some (a != b)
  | 4 => some (decide (sgn a < sgn b))
  | 5 => some (decide (sgn b ≤ sgn a))
  | 6 => some (decide (a.toNat < b.toNat))
  | 7 => some (decide (b.toNat ≤ a.toNat))
  | _ => none

/-- The word an AMO stores, by funct5; none: reserved. -/
def rvAmo (f5 : Nat) (old v : Word) : Option Word :=
  match f5 with
  | 0x00 => some (old + v)
  | 0x01 => some v
  | 0x04 => some (old ^^^ v)
  | 0x08 => some (old ||| v)
  | 0x0C => some (old &&& v)
  | 0x10 => some (if sgn old ≤ sgn v then old else v)
  | 0x14 => some (if sgn old ≤ sgn v then v else old)
  | 0x18 => some (if old.toNat ≤ v.toNat then old else v)
  | 0x1C => some (if old.toNat ≤ v.toNat then v else old)
  | _ => none

/-- A loaded byte, half-word or word extended by funct3; none: reserved. -/
def rvExtend (f3 v : Nat) : Option Word :=
  match f3 with
  | 0 => some (ofInt (wrapS 8 v))
  | 1 => some (ofInt (wrapS 16 v))
  | 2 => some (ofNat v)
  | 4 => some (ofNat (v % 256))
  | 5 => some (ofNat (v % 65536))
  | _ => none

end Sys2Proof.Machine
end

