-- ==== Sys2Proof/Machine/RvFloat.lean ====
section
/-! DEFINITION. Single-precision arithmetic of the harts' F extension (R504): IEEE 754 binary32 with the five rounding modes and the
accrued flags, computed exactly and rounded once (PRESUMED, assumption log 69). -/

namespace Sys2Proof.Machine

open Sys2Proof

/-- A decoded number: not a number, infinity, or (−1)^neg × m × 2^e. -/
inductive Flt where
  | nan (signaling : Bool)
  | inf (neg : Bool)
  | num (neg : Bool) (m : Nat) (e : Int)
  deriving DecidableEq, Repr

/-- Flags NV, DZ, OF, UF, NX of fflags. -/
abbrev fNV : Nat := 16
abbrev fDZ : Nat := 8
abbrev fOF : Nat := 4
abbrev fUF : Nat := 2
abbrev fNX : Nat := 1

def fltNaN : Word := 0x7FC00000

def fltOf (w : Word) : Flt :=
  let e := bits w 30 23
  let m := bits w 22 0
  let neg := w.getLsbD 31
  if e = 255 then (if m = 0 then .inf neg else .nan (m < 2 ^ 22))
  else if e = 0 then .num neg m (-149)
  else .num neg (m + 2 ^ 23) ((e : Int) - 150)

def fltZero (neg : Bool) : Word := if neg then 0x80000000 else 0
def fltInf (neg : Bool) : Word := if neg then 0xFF800000 else 0x7F800000

/-- Rounding of m × 2^−k with a remainder below the last bit (`sticky`), by rounding mode; whether it is inexact. -/
def fltRound (rm : Nat) (neg : Bool) (m k : Nat) (sticky : Bool) : Nat × Bool :=
  let kept := m / 2 ^ k
  let rest := m % 2 ^ k
  let half := 2 ^ k / 2
  let inexact := rest != 0 || sticky
  let above := k != 0 && (decide (half < rest) || (rest == half && sticky))
  let tie := k != 0 && rest == half && !sticky
  let up := match rm with
    | 0 => above || (tie && kept % 2 == 1)
    | 1 => false
    | 2 => inexact && neg
    | 3 => inexact && !neg
    | _ => above || tie
  (kept + b2n up, inexact)

/-- The number (−1)^neg × (m, plus a part of its last bit when `sticky`) × 2^e, rounded; its flags. -/
def fltPack (rm : Nat) (neg : Bool) (m : Nat) (e : Int) (sticky : Bool) : Word × Nat :=
  if m = 0 then (fltZero neg, 0)
  else
    let top : Int := (Nat.log2 m : Int) + e
    let lsb : Int := max (top - 23) (-149)
    let at_ (q : Int) : Nat × Bool := if e < q then fltRound rm neg m (q - e).toNat sticky else (m * 2 ^ (e - q).toNat, sticky)
    let r := at_ lsb
    let wide := if r.1 = 2 ^ 24 then (2 ^ 23, lsb + 1) else (r.1, lsb)
    let tiny := decide (top < -126) && !(decide (top = -127) && (at_ (top - 23)).1 == 2 ^ 24)
    let sign := b2n neg * 2 ^ 31
    if 2 ^ 23 ≤ wide.1 then
      let ex := wide.2 + 150
      if 255 ≤ ex then
        let away := rm = 0 || rm = 4 || (rm = 2 && neg) || (rm = 3 && !neg)
        (if away then fltInf neg else ofNat (sign + 0x7F7FFFFF), fOF + fNX)
      else (ofNat (sign + ex.toNat * 2 ^ 23 + (wide.1 - 2 ^ 23)), if r.2 then fNX + (if tiny then fUF else 0) else 0)
    else (ofNat (sign + wide.1), if r.2 then fNX + (if tiny then fUF else 0) else 0)

/-- Flag NV when an operand is a signaling NaN. -/
def fltSignals (l : List Flt) : Nat := if l.any (fun f => f == .nan true) then fNV else 0
def Flt.isNan : Flt → Bool
  | .nan _ => true
  | _ => false

/-- Sum of two signed values m × 2^e. -/
def fltSum (rm : Nat) (n1 : Bool) (m1 : Nat) (e1 : Int) (n2 : Bool) (m2 : Nat) (e2 : Int) : Word × Nat :=
  let e := min e1 e2
  let v (n : Bool) (m : Nat) (k : Int) : Int := (if n then -1 else 1) * ((m * 2 ^ (k - e).toNat : Nat) : Int)
  let t := v n1 m1 e1 + v n2 m2 e2
  if t = 0 then (fltZero (if m1 = 0 && m2 = 0 && n1 == n2 then n1 else rm = 2), 0)
  else fltPack rm (decide (t < 0)) t.natAbs e false

def fltNeg : Flt → Flt
  | .nan q => .nan q
  | .inf n => .inf (!n)
  | .num n m e => .num (!n) m e

def fltAdd (rm : Nat) (a b : Flt) : Word × Nat :=
  match a, b with
  | .num n m e, .num n' m' e' => fltSum rm n m e n' m' e'
  | .inf n, .inf n' => if n = n' then (fltInf n, 0) else (fltNaN, fNV)
  | .inf n, .num _ _ _ => (fltInf n, 0)
  | .num _ _ _, .inf n => (fltInf n, 0)
  | a, b => (fltNaN, fltSignals [a, b])

def fltMul (rm : Nat) (a b : Flt) : Word × Nat :=
  match a, b with
  | .num n m e, .num n' m' e' => fltPack rm (n != n') (m * m') (e + e') false
  | .inf n, .inf n' => (fltInf (n != n'), 0)
  | .inf n, .num n' m' _ => if m' = 0 then (fltNaN, fNV) else (fltInf (n != n'), 0)
  | .num n m _, .inf n' => if m = 0 then (fltNaN, fNV) else (fltInf (n != n'), 0)
  | a, b => (fltNaN, fltSignals [a, b])

/-- a × b + c with one rounding. -/
def fltFma (rm : Nat) (a b c : Flt) : Word × Nat :=
  let addInf (n : Bool) : Word × Nat := match c with
    | .inf n' => if n = n' then (fltInf n, 0) else (fltNaN, fNV)
    | .num _ _ _ => (fltInf n, 0)
    | .nan q => (fltNaN, if q then fNV else 0)
  match a, b with
  | .num n m e, .num n' m' e' =>
    match c with
    | .num n2 m2 e2 => fltSum rm (n != n') (m * m') (e + e') n2 m2 e2
    | .inf n2 => (fltInf n2, 0)
    | .nan q => (fltNaN, if q then fNV else 0)
  | .inf n, .inf n' => addInf (n != n')
  | .inf n, .num n' m' _ => if m' = 0 then (fltNaN, fNV) else addInf (n != n')
  | .num n m _, .inf n' => if m = 0 then (fltNaN, fNV) else addInf (n != n')
  | a, b => (fltNaN, fltSignals [a, b, c])

def fltDiv (rm : Nat) (a b : Flt) : Word × Nat :=
  match a, b with
  | .num n m e, .num n' m' e' =>
    if m' = 0 then (if m = 0 then (fltNaN, fNV) else (fltInf (n != n'), fDZ))
    else fltPack rm (n != n') (m * 2 ^ 64 / m') (e - e' - 64) (m * 2 ^ 64 % m' != 0)
  | .inf _, .inf _ => (fltNaN, fNV)
  | .inf n, .num n' _ _ => (fltInf (n != n'), 0)
  | .num n _ _, .inf n' => (fltZero (n != n'), 0)
  | a, b => (fltNaN, fltSignals [a, b])

def fltSqrt (rm : Nat) (a : Flt) : Word × Nat :=
  match a with
  | .num n m e =>
    if m = 0 then (fltZero n, 0)
    else if n then (fltNaN, fNV)
    else
      let v := m * 2 ^ (64 + (e % 2).toNat)
      let r := isqrt v
      fltPack rm false r ((e - e % 2) / 2 - 32) (r * r != v)
  | .inf false => (fltInf false, 0)
  | .inf true => (fltNaN, fNV)
  | a => (fltNaN, fltSignals [a])

/-- Order of two numbers that are no NaN: value on a common scale, infinities beyond every number. -/
def fltKey : Flt → Int
  | .nan _ => 0
  | .inf n => if n then -(2 ^ 600) else 2 ^ 600
  | .num n m e => (if n then -1 else 1) * ((m * 2 ^ (e + 149).toNat : Nat) : Int)

/-- FLE, FLT, FEQ by funct3 0, 1, 2: FEQ is quiet. -/
def fltCompare (f3 : Nat) (a b : Flt) : Bool × Nat :=
  if a.isNan || b.isNan then (false, if f3 = 2 then fltSignals [a, b] else fNV)
  else match f3 with
    | 0 => (decide (fltKey a ≤ fltKey b), 0)
    | 1 => (decide (fltKey a < fltKey b), 0)
    | _ => (decide (fltKey a = fltKey b), 0)

/-- FMIN (`big` false) and FMAX: −0 below +0, a NaN yields the other operand. -/
def fltMinMax (big : Bool) (x y : Word) : Word × Nat :=
  let a := fltOf x
  let b := fltOf y
  let fl := fltSignals [a, b]
  if a.isNan && b.isNan then (fltNaN, fl)
  else if a.isNan then (y, fl)
  else if b.isNan then (x, fl)
  else
    let less := decide (fltKey a < fltKey b) || (fltKey a == fltKey b && x.getLsbD 31 && !y.getLsbD 31)
    (if less != big then x else y, fl)

/-- FCVT.W.S and FCVT.WU.S: out of range saturates with NV, a NaN counts as +infinity. -/
def fltToInt (rm : Nat) (signed : Bool) (a : Flt) : Word × Nat :=
  let lo : Int := if signed then -(2 ^ 31) else 0
  let hi : Int := if signed then 2 ^ 31 - 1 else 2 ^ 32 - 1
  match a with
  | .nan _ => (ofInt hi, fNV)
  | .inf n => (ofInt (if n then lo else hi), fNV)
  | .num n m e =>
    let r := if 0 ≤ e then (m * 2 ^ e.toNat, false) else fltRound rm n m (-e).toNat false
    let v : Int := if n then -(r.1 : Int) else r.1
    if v < lo then (ofInt lo, fNV) else if hi < v then (ofInt hi, fNV) else (ofInt v, b2n r.2)

/-- FCVT.S.W and FCVT.S.WU. -/
def fltOfInt (rm : Nat) (v : Int) : Word × Nat := fltPack rm (decide (v < 0)) v.natAbs 0 false

/-- FCLASS. -/
def fltClass (w : Word) : Nat :=
  match fltOf w with
  | .inf true => 1
  | .inf false => 128
  | .nan true => 256
  | .nan false => 512
  | .num n m _ =>
    if m = 0 then (if n then 8 else 16)
    else if m < 2 ^ 23 then (if n then 4 else 32)
    else (if n then 2 else 64)

/-- FSGNJ, FSGNJN, FSGNJX by funct3; none: reserved. -/
def fltSign (f3 : Nat) (x y : Word) : Option Word :=
  let body := x &&& 0x7FFFFFFF
  match f3 with
  | 0 => some (body ||| (y &&& 0x80000000))
  | 1 => some (body ||| (~~~y &&& 0x80000000))
  | 2 => some (x ^^^ (y &&& 0x80000000))
  | _ => none

end Sys2Proof.Machine
end

