-- ==== Sys2Proof/Machine/Hart.lean ====
section
/-! DEFINITION. The harts execute (R504 to R511): address map, caches, CPU SRAM, CSRs, traps, and one instruction of one hart. A hart's
instruction rides on a CK_CPU edge, the command TOKEN_MATCH (assumption log 69). -/

namespace Sys2Proof.Machine

open Sys2Proof

/-! ### Registers of a hart -/

def HartSt.getX (x : HartSt) (r : Nat) : Word := if r = 0 then 0 else Tab.get 0 x.x r
def HartSt.setX (x : HartSt) (r : Nat) (v : Word) : HartSt := if r = 0 then x else { x with x := Tab.set 0 x.x r v }
def HartSt.getF (x : HartSt) (r : Nat) : Word := Tab.get 0 x.f r

/-- FS of mstatus becomes dirty. -/
def HartSt.dirty (x : HartSt) : HartSt := { x with mstatus := putBits x.mstatus 14 13 3 }
def HartSt.setF (x : HartSt) (r : Nat) (v : Word) : HartSt := { x with f := Tab.set 0 x.f r v }.dirty

/-- Floating-point flags accrue. -/
def HartSt.accrue (x : HartSt) (fl : Nat) : HartSt := { x with fcsr := x.fcsr ||| ofNat fl }.dirty

/-- The floating-point unit is on (mstatus.FS). -/
def HartSt.fpu (x : HartSt) : Bool := bits x.mstatus 14 13 != 0

/-- Rounding mode of an instruction: its own, or frm when it says dynamic; none: reserved. -/
def HartSt.rm (x : HartSt) (f3 : Nat) : Option Nat :=
  let m := if f3 = 7 then bits x.fcsr 7 5 else f3
  if m ≤ 4 then some m else none

/-! ### Address map (Table 14.1) -/

/-- Content of an address for a hart. -/
inductive Region where
  | rom | sram | regs | nothing
  deriving DecidableEq, Repr

def regionOf (h addr : Nat) : Region :=
  if addr < 0x40000 then (if h < 2 then .rom else .nothing)
  else if 0x10000000 ≤ addr && addr < 0x10100000 then (if h < 2 then .sram else .nothing)
  else if 0x10100000 ≤ addr && addr < 0x10200000 then .sram
  else if 0x20000000 ≤ addr && addr < 0x21000000 then .regs
  else .nothing

/-- Word of CPU SRAM at an address. -/
def State.sramWord (s : State) (addr : Nat) : Nat := Tab.get 0 s.cpu.sram ((addr - 0x10000000) / 4)

/-! ### Caches -/

/-- Lines that a cache of 32 KiB holds. -/
def cacheLines : Nat := 1024

/-- Words of the line at an address as the memory holds it. -/
def State.lineOf (s : State) (addr : Nat) : List Nat :=
  (List.range 8).map (fun k =>
    let a := addr / 32 * 32 + 4 * k
    if a < 0x40000 then Config.supRom (a / 4) % 2 ^ 32 else s.sramWord a)

/-- A cached read: the word of its line, which the cache now holds; the line that came first leaves a full cache. -/
def State.cached (s : State) (c : List (Nat × List Nat)) (addr : Nat) : List (Nat × List Nat) × Nat :=
  match c.find? (fun e => e.1 == addr / 32) with
  | some e => (c, e.2.getD (addr / 4 % 8) 0)
  | none =>
    let l := s.lineOf addr
    (((addr / 32, l) :: c).take cacheLines, l.getD (addr / 4 % 8) 0)

/-- A word is stored in CPU SRAM: the caches write through, the other harts' lines and reservations of it end (R504). -/
def State.sramStore (s : State) (h addr v : Nat) : State :=
  let k := (addr - 0x10000000) / 4
  let s := { s with cpu := { s.cpu with sram := Tab.set 0 s.cpu.sram k v } }
  (List.range 4).foldl (fun (s : State) g =>
    let x := s.hart g
    if g = h then
      s.setHart g { x with dcache := x.dcache.map (fun e => if e.1 == addr / 32 then (e.1, e.2.set (addr / 4 % 8) v) else e) }
    else
      s.setHart g { x with dcache := x.dcache.filter (fun e => e.1 != addr / 32), resv := if x.resv = some k then none else x.resv }) s

/-! ### Loads and stores -/

/-- A load of size bytes; none: an access fault (R505). Register space is read by the rules of BAR0 (R506). -/
def State.hartLoad (s : State) (h addr size : Nat) : Option (State × Nat) :=
  let cut (w : Nat) : Nat := w / 2 ^ (8 * (addr % 4)) % 2 ^ (8 * size)
  match regionOf h addr with
  | .nothing => none
  | .regs =>
    if hh : h < 4 then
      let r := s.readReg (.hart ⟨h, hh⟩) (addr - 0x20000000)
      some (r.1, cut r.2.toNat)
    else none
  | _ =>
    let x := s.hart h
    let r := s.cached x.dcache addr
    some (s.setHart h { x with dcache := r.1 }, cut r.2)

/-- A store of size bytes; none: an access fault. A store of less than a word to register space lacks byte enables (R16). -/
def State.hartStore (s : State) (h addr size v : Nat) : Option State :=
  match regionOf h addr with
  | .sram =>
    let low := addr % 4 * 8
    let old := s.sramWord addr
    some (s.sramStore h addr (putBits (ofNat old) (low + 8 * size - 1) low v).toNat)
  | .regs =>
    if hh : h < 4 then some (s.busWrite (.hart ⟨h, hh⟩) ((addr - 0x20000000) / 4 * 4) (ofNat (v * 2 ^ (addr % 4 * 8))) (size == 4) false)
    else none
  | _ => none

/-- One half-word of an instruction through the instruction cache; none: an instruction access fault. -/
def State.fetchHalf (s : State) (h addr : Nat) : Option (State × Nat) :=
  match regionOf h addr with
  | .rom | .sram =>
    let x := s.hart h
    let r := s.cached x.icache addr
    some (s.setHart h { x with icache := r.1 }, r.2 / 2 ^ (8 * (addr % 4)) % 65536)
  | _ => none

/-! ### CSRs (R510, R511) -/

/-- mip of a hart: the dispatch and the event interrupt. -/
def State.mip (s : State) (h : Nat) : Word := ofNat (b2n (s.xdspi h) * 2 ^ 16 + b2n (s.xevti h) * 2 ^ 17)

/-- misa: RV32 with A, C, F, I, M and U. -/
def misa : Word := 0x40101125

/-- mstatus as it reads: SD sums up FS. -/
def HartSt.status (x : HartSt) : Word := putBits x.mstatus 31 31 (b2n (bits x.mstatus 14 13 == 3))

/-- Value of a standard CSR; none: it does not exist or the mode may not read it. -/
def State.stdCsr (s : State) (h n : Nat) : Option Word :=
  let x := s.hart h
  let cnt (k : Nat) (v : Nat) : Option Word := if x.machine || bit x.mcounteren k then some (ofNat v) else none
  match n with
  | 0x001 => if x.fpu then some (x.fcsr &&& 0x1F) else none
  | 0x002 => if x.fpu then some (ofNat (bits x.fcsr 7 5)) else none
  | 0x003 => if x.fpu then some (x.fcsr &&& 0xFF) else none
  | 0x300 => some x.status
  | 0x301 => some misa
  | 0x304 => some x.mie
  | 0x305 => some x.mtvec
  | 0x306 => some x.mcounteren
  | 0x340 => some x.mscratch
  | 0x341 => some x.mepc
  | 0x342 => some x.mcause
  | 0x343 => some x.mtval
  | 0x344 => some (s.mip h)
  | 0xB00 => some (ofNat x.mcycle)
  | 0xB02 => some (ofNat x.minstret)
  | 0xB80 => some (ofNat (x.mcycle / 2 ^ 32))
  | 0xB82 => some (ofNat (x.minstret / 2 ^ 32))
  | 0xC00 => cnt 0 x.mcycle
  | 0xC01 => cnt 1 (Config.freeWord s.free).toNat
  | 0xC02 => cnt 2 x.minstret
  | 0xC80 => cnt 0 (x.mcycle / 2 ^ 32)
  | 0xC81 => cnt 1 (Config.freeWord (s.free + 1)).toNat
  | 0xC82 => cnt 2 (x.minstret / 2 ^ 32)
  | 0xF14 => some (ofNat h)
  | _ =>
    if n = 0x30A || n = 0x310 || n = 0x31A || n = 0x320 || (0x323 ≤ n && n < 0x340) || (0xB03 ≤ n && n < 0xB20) || (0xB83 ≤ n && n < 0xBA0) ||
      (0xF11 ≤ n && n < 0xF16) then some 0
    else none

/-- A standard CSR is written; the fields that exist take the value. -/
def HartSt.csrWrite (x : HartSt) (n : Nat) (v : Word) : HartSt :=
  match n with
  | 0x001 => { x with fcsr := putBits x.fcsr 4 0 (bits v 4 0) }.dirty
  | 0x002 => { x with fcsr := putBits x.fcsr 7 5 (bits v 2 0) }.dirty
  | 0x003 => { x with fcsr := v &&& 0xFF }.dirty
  | 0x300 => { x with mstatus := putBits (v &&& 0x00226088) 12 11 (if bits v 12 11 = 3 then 3 else 0) }
  | 0x304 => { x with mie := v &&& 0x30000 }
  | 0x305 => { x with mtvec := v &&& 0xFFFFFFFD }
  | 0x306 => { x with mcounteren := v &&& 7 }
  | 0x340 => { x with mscratch := v }
  | 0x341 => { x with mepc := v &&& 0xFFFFFFFE }
  | 0x342 => { x with mcause := v }
  | 0x343 => { x with mtval := v }
  | 0xB00 => { x with mcycle := x.mcycle / 2 ^ 32 * 2 ^ 32 + v.toNat }
  | 0xB02 => { x with minstret := x.minstret / 2 ^ 32 * 2 ^ 32 + v.toNat }
  | 0xB80 => { x with mcycle := v.toNat * 2 ^ 32 + x.mcycle % 2 ^ 32 }
  | 0xB82 => { x with minstret := v.toNat * 2 ^ 32 + x.minstret % 2 ^ 32 }
  | _ => x

/-- The read of a CSR by a hart, with what a read of a custom one does (Table 14.2). -/
def State.csrRead (s : State) (h n : Nat) : Option (State × Word) :=
  match n with
  | 0x7C0 => some (s.dispatch h, if s.hartServed h && (s.bestThread h).isSome then ofNat ((s.dispatch h).xrun h) else 0)
  | 0x7C2 => some (s.evtClaim h, match s.evt.hpend.find? (fun p => p.1 == h) with | some p => ofNat (p.2 + 2 ^ 31) | none => 0)
  | 0x7C3 => some (s, 0)
  | 0xCC0 => some (s.ntimeRead h, ofNat s.ntime)
  | 0x7C1 | 0xCC1 | 0xCC2 | 0xCC3 | 0xFC0 => some (s, ofNat (s.csr h n))
  | 0xC01 | 0xC81 => (s.stdCsr h n).map (fun v => ({ s with free := s.free + 2 }, v))
  | _ => (s.stdCsr h n).map (fun v => (s, v))

/-- The write of a CSR by a hart. -/
def State.csrStore (s : State) (h n : Nat) (v : Word) : State :=
  match n with
  | 0x7C0 => s.xdspWrite h (bits v 1 0)
  | 0x7C1 | 0x7C2 => s
  | 0x7C3 => s.wdtKick h
  | _ => s.setHart h ((s.hart h).csrWrite n v)

/-- A CSR instruction: the old value where it is read, and the write that f gives. On XDSP the write comes first (Table 14.2). -/
def State.csrOp (s : State) (h n : Nat) (rd : Bool) (f : Option (Word → Word)) : Option (State × Word) :=
  let allowed := ((s.hart h).machine || n / 256 % 4 = 0) && !(f.isSome && n / 1024 = 3)
  if !allowed then none
  else if n = 0x7C0 then
    let s := match f with | some g => s.csrStore h n (g 0) | none => s
    if rd then s.csrRead h n else some (s, 0)
  else
    match (if rd then s.csrRead h n else if (s.csrRead h n).isSome then some (s, 0) else none) with
    | none => none
    | some (t, old) => match f with
      | some g => some (t.csrStore h n (g old), old)
      | none => some (t, old)

/-! ### One instruction -/

/-- What an instruction leaves: the state with the hart's new registers, or a trap. -/
inductive Ran where
  | ok (s : State)
  | trap (s : State) (cause : Nat) (tval : Word)
  deriving DecidableEq, Repr

/-- Register r takes v and the hart goes on at `next`. -/
def State.ranX (s : State) (h r : Nat) (v next : Word) : Ran := .ok (s.setHart h { (s.hart h).setX r v with pc := next })
def State.ranF (s : State) (h r : Nat) (v next : Word) : Ran := .ok (s.setHart h { (s.hart h).setF r v with pc := next })
def State.goTo (s : State) (h : Nat) (pc : Word) : Ran := .ok (s.setHart h { s.hart h with pc := pc })

/-- An illegal instruction. -/
def State.illegal (s : State) (w : Word) : Ran := .trap s 2 w

/-- A load into an integer or a floating-point register. -/
def State.runLoad (s : State) (h f3 rd : Nat) (addr : Nat) (float : Bool) (w next : Word) : Ran :=
  let size := 2 ^ (f3 % 4)
  if (float && (f3 != 2 || !(s.hart h).fpu)) || (rvExtend f3 0).isNone then s.illegal w
  else if addr % size ≠ 0 then .trap s 4 (ofNat addr)
  else match s.hartLoad h addr size with
    | none => .trap s 5 (ofNat addr)
    | some (t, v) =>
      let x := (rvExtend f3 v).getD 0
      if float then t.ranF h rd x next else t.ranX h rd x next

def State.runStore (s : State) (h f3 : Nat) (addr : Nat) (v : Word) (float : Bool) (w next : Word) : Ran :=
  let size := 2 ^ f3
  if (float && (f3 != 2 || !(s.hart h).fpu)) || 2 < f3 then s.illegal w
  else if addr % size ≠ 0 then .trap s 6 (ofNat addr)
  else match s.hartStore h addr size v.toNat with
    | none => .trap s 7 (ofNat addr)
    | some t => t.goTo h next

/-- LR, SC and AMO, performed at CPU SRAM (R504); elsewhere they find no memory that supports them. -/
def State.runAtomic (s : State) (h : Nat) (w next : Word) : Ran :=
  let x := s.hart h
  let addr := (x.getX (bits w 19 15)).toNat
  let rd := bits w 11 7
  let v := x.getX (bits w 24 20)
  let f5 := bits w 31 27
  let k := (addr - 0x10000000) / 4
  let lr := f5 = 2
  if bits w 14 12 ≠ 2 || (lr && bits w 24 20 ≠ 0) || !(lr || f5 = 3 || (rvAmo f5 0 0).isSome) then s.illegal w
  else if addr % 4 ≠ 0 then .trap s (if lr then 4 else 6) (ofNat addr)
  else if regionOf h addr ≠ .sram then .trap s (if lr then 5 else 7) (ofNat addr)
  else
    let old := ofNat (s.sramWord addr)
    if lr then (s.setHart h { x with resv := some k }).ranX h rd old next
    else if f5 = 3 then
      let s := s.setHart h { x with resv := none }
      if x.resv = some k then (s.sramStore h addr v.toNat).ranX h rd 0 next else s.ranX h rd 1 next
    else (s.sramStore h addr ((rvAmo f5 old v).getD 0).toNat).ranX h rd old next

/-- ECALL, EBREAK, MRET, WFI and the CSR instructions. -/
def State.runSystem (s : State) (h : Nat) (w next : Word) : Ran :=
  let x := s.hart h
  let f3 := bits w 14 12
  let rs := bits w 19 15
  let rd := bits w 11 7
  if f3 = 0 then
    if w = 0x00000073 then .trap s (if x.machine then 11 else 8) 0
    else if w = 0x00100073 then .trap s 3 x.pc
    else if w = 0x30200073 && x.machine then
      let mpp := bits x.mstatus 12 11
      let st := putBits (putBits (putBits x.mstatus 3 3 (bits x.mstatus 7 7)) 7 7 1) 12 11 0
      .ok (s.setHart h { x with pc := x.mepc, machine := mpp == 3, mstatus := if mpp = 3 then st else putBits st 17 17 0 })
    else if w = 0x10500073 && (x.machine || !bit x.mstatus 21) then .ok (s.setHart h { x with pc := next, wfi := true })
    else s.illegal w
  else if f3 = 4 then s.illegal w
  else
    let v := if 4 ≤ f3 then ofNat rs else x.getX rs
    let wr := f3 % 4 = 1 || rs ≠ 0
    let f (old : Word) : Word := match f3 % 4 with | 1 => v | 2 => old ||| v | _ => old &&& ~~~v
    match s.csrOp h (bits w 31 20) (!(f3 % 4 == 1 && rd == 0)) (if wr then some f else none) with
    | none => s.illegal w
    | some (t, old) => t.ranX h rd old next

/-- A floating-point result: register, flags. -/
def State.ranFlt (s : State) (h rd : Nat) (r : Word × Nat) (next : Word) : Ran :=
  .ok (s.setHart h { (((s.hart h).setF rd r.1).accrue r.2) with pc := next })
def State.ranFltX (s : State) (h rd : Nat) (r : Word × Nat) (next : Word) : Ran :=
  .ok (s.setHart h { (((s.hart h).setX rd r.1).accrue r.2) with pc := next })

/-- The four fused multiply-adds: FMADD, FMSUB, FNMSUB, FNMADD by the opcode. -/
def State.runFma (s : State) (h : Nat) (w next : Word) : Ran :=
  let x := s.hart h
  let op := bits w 6 2
  let a := fltOf (x.getF (bits w 19 15))
  let b := fltOf (x.getF (bits w 24 20))
  let c := fltOf (x.getF (bits w 31 27))
  match x.rm (bits w 14 12) with
  | some rm =>
    if !x.fpu || bits w 26 25 ≠ 0 then s.illegal w
    else s.ranFlt h (bits w 11 7) (fltFma rm (if op = 18 || op = 19 then fltNeg a else a) b (if op = 17 || op = 19 then fltNeg c else c)) next
  | none => s.illegal w

/-- The other floating-point operations, by funct5 (single precision only). -/
def State.runFloat (s : State) (h : Nat) (w next : Word) : Ran :=
  let x := s.hart h
  let f3 := bits w 14 12
  let rd := bits w 11 7
  let r2 := bits w 24 20
  let u := x.getF (bits w 19 15)
  let v := x.getF r2
  let a := fltOf u
  let b := fltOf v
  let rounded (f : Nat → Ran) : Ran := match x.rm f3 with | some m => f m | none => s.illegal w
  if !x.fpu || bits w 26 25 ≠ 0 then s.illegal w
  else match bits w 31 27 with
    | 0x00 => rounded (fun m => s.ranFlt h rd (fltAdd m a b) next)
    | 0x01 => rounded (fun m => s.ranFlt h rd (fltAdd m a (fltNeg b)) next)
    | 0x02 => rounded (fun m => s.ranFlt h rd (fltMul m a b) next)
    | 0x03 => rounded (fun m => s.ranFlt h rd (fltDiv m a b) next)
    | 0x0B => if r2 = 0 then rounded (fun m => s.ranFlt h rd (fltSqrt m a) next) else s.illegal w
    | 0x04 => match fltSign f3 u v with | some t => s.ranF h rd t next | none => s.illegal w
    | 0x05 => if f3 < 2 then s.ranFlt h rd (fltMinMax (f3 = 1) u v) next else s.illegal w
    | 0x14 =>
      if f3 < 3 then
        let c := fltCompare f3 a b
        s.ranFltX h rd (ofNat (b2n c.1), c.2) next
      else s.illegal w
    | 0x18 => if r2 < 2 then rounded (fun m => s.ranFltX h rd (fltToInt m (r2 = 0) a) next) else s.illegal w
    | 0x1A =>
      if r2 < 2 then
        let i := x.getX (bits w 19 15)
        rounded (fun m => s.ranFlt h rd (fltOfInt m (if r2 = 0 then sgn i else (i.toNat : Int))) next)
      else s.illegal w
    | 0x1C =>
      if r2 = 0 && f3 = 0 then s.ranX h rd u next
      else if r2 = 0 && f3 = 1 then s.ranX h rd (ofNat (fltClass u)) next
      else s.illegal w
    | 0x1E => if r2 = 0 && f3 = 0 then s.ranF h rd (x.getX (bits w 19 15)) next else s.illegal w
    | _ => s.illegal w

/-- OP and OP-IMM. -/
def State.runAlu (s : State) (h : Nat) (w next : Word) : Ran :=
  let x := s.hart h
  let f3 := bits w 14 12
  let f7 := bits w 31 25
  let a := x.getX (bits w 19 15)
  let b := x.getX (bits w 24 20)
  let rd := bits w 11 7
  if bits w 6 2 = 4 then
    let bad := (f3 = 1 && f7 ≠ 0) || (f3 = 5 && f7 ≠ 0 && f7 ≠ 0x20)
    if bad then s.illegal w else s.ranX h rd (rvAlu f3 (f3 = 5 && f7 = 0x20) a (ofInt (immI w))) next
  else if f7 = 1 then s.ranX h rd (rvMul f3 a b) next
  else if f7 = 0 || (f7 = 0x20 && (f3 = 0 || f3 = 5)) then s.ranX h rd (rvAlu f3 (f7 = 0x20) a b) next
  else s.illegal w

/-- One 32-bit instruction at the hart's pc; `next` is the address after it, or after the 16-bit one it stands for. -/
def State.runInstr (s : State) (h : Nat) (w next : Word) : Ran :=
  let x := s.hart h
  let a := x.getX (bits w 19 15)
  let b := x.getX (bits w 24 20)
  let rd := bits w 11 7
  let f3 := bits w 14 12
  if bits w 1 0 ≠ 3 then s.illegal w
  else match bits w 6 2 with
    | 0x00 => s.runLoad h f3 rd (a + ofInt (immI w)).toNat false w next
    | 0x01 => s.runLoad h f3 rd (a + ofInt (immI w)).toNat true w next
    | 0x03 =>
      if f3 = 0 then s.goTo h next
      else if f3 = 1 then .ok (s.setHart h { x with pc := next, icache := [] })
      else s.illegal w
    | 0x04 | 0x0C => s.runAlu h w next
    | 0x05 => s.ranX h rd (x.pc + immU w) next
    | 0x08 => s.runStore h f3 (a + ofInt (immS w)).toNat b false w next
    | 0x09 => s.runStore h f3 (a + ofInt (immS w)).toNat (x.getF (bits w 24 20)) true w next
    | 0x0B => s.runAtomic h w next
    | 0x0D => s.ranX h rd (immU w) next
    | 0x10 | 0x11 | 0x12 | 0x13 => s.runFma h w next
    | 0x14 => s.runFloat h w next
    | 0x18 => match rvBranch f3 a b with
      | some t => s.goTo h (if t then x.pc + ofInt (immB w) else next)
      | none => s.illegal w
    | 0x19 => if f3 = 0 then s.ranX h rd next ((a + ofInt (immI w)) &&& 0xFFFFFFFE) else s.illegal w
    | 0x1B => s.ranX h rd next (x.pc + ofInt (immJ w))
    | 0x1C => s.runSystem h w next
    | _ => s.illegal w

/-- The instruction at the hart's pc: 16 or 32 bits. -/
def State.runFetched (s : State) (h : Nat) : Ran :=
  let pc := (s.hart h).pc
  match s.fetchHalf h pc.toNat with
  | none => .trap s 1 pc
  | some (s, lo) =>
    if lo % 4 ≠ 3 then
      match rvExpand lo with
      | some w => s.runInstr h (ofNat w) (pc + 2)
      | none => s.illegal (ofNat lo)
    else match s.fetchHalf h (pc + 2).toNat with
      | none => .trap s 1 (pc + 2)
      | some (s, hi) => s.runInstr h (ofNat (lo + hi * 65536)) (pc + 4)

/-- Interrupts of a hart that are pending and enabled in mie. -/
def State.irqs (s : State) (h : Nat) : Word := s.mip h &&& (s.hart h).mie

/-- A hart that is out of reset, not under test and clocked (R520, R590). -/
def State.hartClocked (s : State) (h : Nat) : Bool := s.hartServed h && s.flag TOP_CLK 1

/-- One CK_CPU cycle of a hart: an interrupt that is enabled is taken, else the next instruction runs; in WFI the hart waits for a
pending interrupt. -/
def State.hartStep (s : State) (h : Nat) : State :=
  if !s.hartClocked h then s
  else
    let s := s.setHart h { s.hart h with mcycle := ((s.hart h).mcycle + 1) % 2 ^ 64 }
    let p := s.irqs h
    if (s.hart h).wfi && p = 0 then s
    else
      let s := s.setHart h { s.hart h with wfi := false }
      let x := s.hart h
      if p != 0 && (!x.machine || bit x.mstatus 3) then s.setHart h (x.trap true (if bit p 17 then 17 else 16) 0)
      else match s.runFetched h with
        | .ok t => t.setHart h { t.hart h with minstret := ((t.hart h).minstret + 1) % 2 ^ 64 }
        | .trap t cause tval => t.hartTrap h cause tval

/-- TOKEN_MATCH: one CK_CPU edge without an event (R515), on which a hart may execute (R504). -/
def State.cpuEdge (s : State) (core : Option (Fin 4)) : State :=
  (match core with
   | some h => s.hartStep h.val
   | none => s).tokenEdge none

def execTokenMatch (core : Option (Fin 4)) (s : State) : Host.Outcome State Fault Refusal := .next (s.cpuEdge core)

end Sys2Proof.Machine
end

