-- ==== Sys2Proof/Machine/Dispatch.lean ====
section
/-! DEFINITION. The dispatch: one arm per command, each a direct call of the command's meaning. -/

namespace Sys2Proof.Machine

open Sys2Proof

def exec (i : Instr) (s : State) : Host.Outcome State Fault Refusal :=
  match i with
  | .nop src d => Sys2Proof.Machine.execNop src d s
  | .regWrite src d => Sys2Proof.Machine.execRegWrite src d s
  | .regRead src d => Sys2Proof.Machine.execRegRead src d s
  | .waitCycle src d => Sys2Proof.Machine.execWaitCycle src d s
  | .registerWrite agent off value be space => Sys2Proof.Machine.execRegisterWrite agent off value be space s
  | .aliasSetWrite agent off value be => Sys2Proof.Machine.execAliasSetWrite agent off value be s
  | .aliasClrWrite agent off value be => Sys2Proof.Machine.execAliasClrWrite agent off value be s
  | .aliasMaskWrite agent off value be => Sys2Proof.Machine.execAliasMaskWrite agent off value be s
  | .lowWordRead agent off space => Sys2Proof.Machine.execLowWordRead agent off space s
  | .rcFieldRead agent off => Sys2Proof.Machine.execRcFieldRead agent off s
  | .doorbellWrite ring value => Sys2Proof.Machine.execDoorbellWrite ring value s
  | .ringReset ring => Sys2Proof.Machine.execRingReset ring s
  | .ringDisable ring => Sys2Proof.Machine.execRingDisable ring s
  | .ringResizeRequest ring log2size => Sys2Proof.Machine.execRingResizeRequest ring log2size s
  | .cmdPauseWrite on => Sys2Proof.Machine.execCmdPauseWrite on s
  | .msixVectorUnmask vector addr data => Sys2Proof.Machine.execMsixVectorUnmask vector addr data s
  | .ringIrqUnmask ring => Sys2Proof.Machine.execRingIrqUnmask ring s
  | .reportRingWrite ring => Sys2Proof.Machine.execReportRingWrite ring s
  | .ringIrqHoldExpiry ring => Sys2Proof.Machine.execRingIrqHoldExpiry ring s
  | .completionRingStall second => Sys2Proof.Machine.execCompletionRingStall second s
  | .ringDmaError ring => Sys2Proof.Machine.execRingDmaError ring s
  | .descriptorTake heads => Sys2Proof.Machine.execDescriptorTake heads s
  | .cycleBoundary refs => Sys2Proof.Machine.execCycleBoundary refs s
  | .manifestWordStore hi => Sys2Proof.Machine.execManifestWordStore hi s
  | .laneSlistWrite list pair value => Sys2Proof.Machine.execLaneSlistWrite list pair value s
  | .laneEntryWrite set word value => Sys2Proof.Machine.execLaneEntryWrite set word value s
  | .listCheckDone list => Sys2Proof.Machine.execListCheckDone list s
  | .portCfgWrite port value => Sys2Proof.Machine.execPortCfgWrite port value s
  | .netBoom src d => Sys2Proof.Machine.execNetBoom src d s
  | .netNodeQuery src d => Sys2Proof.Machine.execNetNodeQuery src d s
  | .netNodeReset src d => Sys2Proof.Machine.execNetNodeReset src d s
  | .netWorkerParam src d image => Sys2Proof.Machine.execNetWorkerParam src d image s
  | .netWorkerFw src d image => Sys2Proof.Machine.execNetWorkerFw src d image s
  | .netPortTest src d => Sys2Proof.Machine.execNetPortTest src d s
  | .timeSet src d => Sys2Proof.Machine.execTimeSet src d s
  | .tunnelTx src d frame => Sys2Proof.Machine.execTunnelTx src d frame s
  | .berthUp port f => Sys2Proof.Machine.execBerthUp port f s
  | .guardianOverrun port f => Sys2Proof.Machine.execGuardianOverrun port f s
  | .sailRingReturn port f => Sys2Proof.Machine.execSailRingReturn port f s
  | .helmSailConflict port f => Sys2Proof.Machine.execHelmSailConflict port f s
  | .autoJoinBoomOpen node => Sys2Proof.Machine.execAutoJoinBoomOpen node s
  | .nodeAbsent node => Sys2Proof.Machine.execNodeAbsent node s
  | .downlinkBerthSend node part => Sys2Proof.Machine.execDownlinkBerthSend node part s
  | .dynSegmentDownlink branch => Sys2Proof.Machine.execDynSegmentDownlink branch s
  | .joinReq port f => Sys2Proof.Machine.execJoinReq port f s
  | .dataAck port f => Sys2Proof.Machine.execDataAck port f s
  | .echoRsp port f => Sys2Proof.Machine.execEchoRsp port f s
  | .cartRsp port f => Sys2Proof.Machine.execCartRsp port f s
  | .nodeInfo port f => Sys2Proof.Machine.execNodeInfo port f s
  | .tunnelUpFragment port f => Sys2Proof.Machine.execTunnelUpFragment port f s
  | .tunnelReassemblyTimeout node => Sys2Proof.Machine.execTunnelReassemblyTimeout node s
  | .transferBlockResend node => Sys2Proof.Machine.execTransferBlockResend node s
  | .echoSchedule node => Sys2Proof.Machine.execEchoSchedule node s
  | .netBoomTimeout node => Sys2Proof.Machine.execNetBoomTimeout node s
  | .nodeResetTimeout node => Sys2Proof.Machine.execNodeResetTimeout node s
  | .nodeQueryTimeout node => Sys2Proof.Machine.execNodeQueryTimeout node s
  | .uplinkFrameRejected port f => Sys2Proof.Machine.execUplinkFrameRejected port f s
  | .portSyncChange port sync pins => Sys2Proof.Machine.execPortSyncChange port sync pins s
  | .grantMiss node => Sys2Proof.Machine.execGrantMiss node s
  | .ppsInEdge stamp => Sys2Proof.Machine.execPpsInEdge stamp s
  | .ppsOutPulse high => Sys2Proof.Machine.execPpsOutPulse high s
  | .planPrepare src d => Sys2Proof.Machine.execPlanPrepare src d s
  | .planCommit src d => Sys2Proof.Machine.execPlanCommit src d s
  | .planAbort src d => Sys2Proof.Machine.execPlanAbort src d s
  | .planReport src d => Sys2Proof.Machine.execPlanReport src d s
  | .planLoadReceive body => Sys2Proof.Machine.execPlanLoadReceive body s
  | .passStart lane axis t errs => Sys2Proof.Machine.execPassStart lane axis t errs s
  | .passStartMissing lane axis t errs => Sys2Proof.Machine.execPassStartMissing lane axis t errs s
  | .passEnd lane => Sys2Proof.Machine.execPassEnd lane s
  | .laneNop lane w => Sys2Proof.Machine.execLaneNop lane w s
  | .laneEnd lane w => Sys2Proof.Machine.execLaneEnd lane w s
  | .laneRep lane w => Sys2Proof.Machine.execLaneRep lane w s
  | .laneLdk lane w => Sys2Proof.Machine.execLaneLdk lane w s
  | .laneAgp lane w => Sys2Proof.Machine.execLaneAgp lane w s
  | .laneAgm lane w => Sys2Proof.Machine.execLaneAgm lane w s
  | .laneAgl lane w => Sys2Proof.Machine.execLaneAgl lane w s
  | .laneAgr lane w => Sys2Proof.Machine.execLaneAgr lane w s
  | .laneAdd lane w => Sys2Proof.Machine.execLaneAdd lane w s
  | .laneAddc lane w => Sys2Proof.Machine.execLaneAddc lane w s
  | .laneSub lane w => Sys2Proof.Machine.execLaneSub lane w s
  | .laneSubc lane w => Sys2Proof.Machine.execLaneSubc lane w s
  | .laneAdds lane w => Sys2Proof.Machine.execLaneAdds lane w s
  | .laneSubs lane w => Sys2Proof.Machine.execLaneSubs lane w s
  | .laneNegs lane w => Sys2Proof.Machine.execLaneNegs lane w s
  | .laneAbss lane w => Sys2Proof.Machine.execLaneAbss lane w s
  | .laneMin lane w => Sys2Proof.Machine.execLaneMin lane w s
  | .laneMax lane w => Sys2Proof.Machine.execLaneMax lane w s
  | .laneClamp lane w => Sys2Proof.Machine.execLaneClamp lane w s
  | .laneClamp2 lane w => Sys2Proof.Machine.execLaneClamp2 lane w s
  | .laneSel lane w => Sys2Proof.Machine.execLaneSel lane w s
  | .laneBlend lane w => Sys2Proof.Machine.execLaneBlend lane w s
  | .laneAsl lane w => Sys2Proof.Machine.execLaneAsl lane w s
  | .laneAsr lane w => Sys2Proof.Machine.execLaneAsr lane w s
  | .laneLsr lane w => Sys2Proof.Machine.execLaneLsr lane w s
  | .laneAnd lane w => Sys2Proof.Machine.execLaneAnd lane w s
  | .laneOr lane w => Sys2Proof.Machine.execLaneOr lane w s
  | .laneXor lane w => Sys2Proof.Machine.execLaneXor lane w s
  | .laneFlagc lane w => Sys2Proof.Machine.execLaneFlagc lane w s
  | .laneLdix lane w => Sys2Proof.Machine.execLaneLdix lane w s
  | .laneMpy lane w => Sys2Proof.Machine.execLaneMpy lane w s
  | .laneMac lane w => Sys2Proof.Machine.execLaneMac lane w s
  | .laneMsu lane w => Sys2Proof.Machine.execLaneMsu lane w s
  | .laneDmpy lane w => Sys2Proof.Machine.execLaneDmpy lane w s
  | .laneDmac lane w => Sys2Proof.Machine.execLaneDmac lane w s
  | .laneFtap lane w => Sys2Proof.Machine.execLaneFtap lane w s
  | .laneLda lane w => Sys2Proof.Machine.execLaneLda lane w s
  | .laneSta lane w => Sys2Proof.Machine.execLaneSta lane w s
  | .laneAclr lane w => Sys2Proof.Machine.execLaneAclr lane w s
  | .laneAadd lane w => Sys2Proof.Machine.execLaneAadd lane w s
  | .laneLrd lane w => Sys2Proof.Machine.execLaneLrd lane w s
  | .laneLwr lane w => Sys2Proof.Machine.execLaneLwr lane w s
  | .laneLife lane w => Sys2Proof.Machine.execLaneLife lane w s
  | .axisSetMode src d => Sys2Proof.Machine.execAxisSetMode src d s
  | .axisParamWrite src d => Sys2Proof.Machine.execAxisParamWrite src d s
  | .axisParamRead src d => Sys2Proof.Machine.execAxisParamRead src d s
  | .axisAdaptLock src d => Sys2Proof.Machine.execAxisAdaptLock src d s
  | .axisLearnReset src d => Sys2Proof.Machine.execAxisLearnReset src d s
  | .axisInject src d => Sys2Proof.Machine.execAxisInject src d s
  | .axisClearFault src d => Sys2Proof.Machine.execAxisClearFault src d s
  | .idBlock axis => Sys2Proof.Machine.execIdBlock axis s
  | .freezeDetect axis => Sys2Proof.Machine.execFreezeDetect axis s
  | .feedbackRecovery axis => Sys2Proof.Machine.execFeedbackRecovery axis s
  | .feedbackPersistLatch axis => Sys2Proof.Machine.execFeedbackPersistLatch axis s
  | .catchTmoExpiry axis => Sys2Proof.Machine.execCatchTmoExpiry axis s
  | .obsRelockExpiry axis => Sys2Proof.Machine.execObsRelockExpiry axis s
  | .tqRampComplete axis => Sys2Proof.Machine.execTqRampComplete axis s
  | .ledgerCompute group => Sys2Proof.Machine.execLedgerCompute group s
  | .axPvalLoWrite axis value => Sys2Proof.Machine.execAxPvalLoWrite axis value s
  | .axPvalHiWrite axis value => Sys2Proof.Machine.execAxPvalHiWrite axis value s
  | .fltTrip input => Sys2Proof.Machine.execFltTrip input s
  | .localFltLatchClear value active => Sys2Proof.Machine.execLocalFltLatchClear value active s
  | .adcTrigger lx t open_ => Sys2Proof.Machine.execAdcTrigger lx t open_ s
  | .adcConversionDone lx ia ib vb => Sys2Proof.Machine.execAdcConversionDone lx ia ib vb s
  | .adcScanConversion channel code => Sys2Proof.Machine.execAdcScanConversion channel code s
  | .ssiBurst lx word => Sys2Proof.Machine.execSsiBurst lx word s
  | .pwmUpdatePoint lx t => Sys2Proof.Machine.execPwmUpdatePoint lx t s
  | .stepPulse lx t => Sys2Proof.Machine.execStepPulse lx t s
  | .emuEdge emulator t => Sys2Proof.Machine.execEmuEdge emulator t s
  | .refInputLoss input => Sys2Proof.Machine.execRefInputLoss input s
  | .refLostClear input => Sys2Proof.Machine.execRefLostClear input s
  | .localFeedbackEdge lx levels t => Sys2Proof.Machine.execLocalFeedbackEdge lx levels t s
  | .probePulseEnd lx t ia ib => Sys2Proof.Machine.execProbePulseEnd lx t ia ib s
  | .moveSeg src d => Sys2Proof.Machine.execMoveSeg src d s
  | .moveStartGroup src d => Sys2Proof.Machine.execMoveStartGroup src d s
  | .moveStop src d => Sys2Proof.Machine.execMoveStop src d s
  | .moveResume src d => Sys2Proof.Machine.execMoveResume src d s
  | .homeStart src d => Sys2Proof.Machine.execHomeStart src d s
  | .groupSet src d => Sys2Proof.Machine.execGroupSet src d s
  | .groupStart group => Sys2Proof.Machine.execGroupStart group s
  | .limitRawEdge axis neg level t => Sys2Proof.Machine.execLimitRawEdge axis neg level t s
  | .limitDebounce axis neg => Sys2Proof.Machine.execLimitDebounce axis neg s
  | .homeStallDetect axis => Sys2Proof.Machine.execHomeStallDetect axis s
  | .cartAuth src d => Sys2Proof.Machine.execCartAuth src d s
  | .cartRead src d => Sys2Proof.Machine.execCartRead src d s
  | .cartWrite src d data => Sys2Proof.Machine.execCartWrite src d data s
  | .cartPolicy src d table => Sys2Proof.Machine.execCartPolicy src d table s
  | .cartFlush src d => Sys2Proof.Machine.execCartFlush src d s
  | .tagResponse axis msg => Sys2Proof.Machine.execTagResponse axis msg s
  | .tagTimeout axis => Sys2Proof.Machine.execTagTimeout axis s
  | .tagPresenceChange axis present => Sys2Proof.Machine.execTagPresenceChange axis present s
  | .removalWarning node => Sys2Proof.Machine.execRemovalWarning node s
  | .writebackScheduled axis => Sys2Proof.Machine.execWritebackScheduled axis s
  | .safeConfigLoad src d image => Sys2Proof.Machine.execSafeConfigLoad src d image s
  | .safeStatus src d => Sys2Proof.Machine.execSafeStatus src d s
  | .safetyCycleStart stbd inputs sofb => Sys2Proof.Machine.execSafetyCycleStart stbd inputs sofb s
  | .safetyInputFilterChange stbd input level => Sys2Proof.Machine.execSafetyInputFilterChange stbd input level s
  | .testPulse source before lows => Sys2Proof.Machine.execTestPulse source before lows s
  | .discrepancyTimeout stbd pair => Sys2Proof.Machine.execDiscrepancyTimeout stbd pair s
  | .ackAccept stbd => Sys2Proof.Machine.execAckAccept stbd s
  | .ackStuck stbd => Sys2Proof.Machine.execAckStuck stbd s
  | .ackSplit stbd => Sys2Proof.Machine.execAckSplit stbd s
  | .ss1DelayExpiry stbd func => Sys2Proof.Machine.execSs1DelayExpiry stbd func s
  | .readbackTimeout stbd output => Sys2Proof.Machine.execReadbackTimeout stbd output s
  | .darkTest stbd output fell => Sys2Proof.Machine.execDarkTest stbd output fell s
  | .safetySelftestDone stbd pass => Sys2Proof.Machine.execSafetySelftestDone stbd pass s
  | .stoReportCheck group => Sys2Proof.Machine.execStoReportCheck group s
  | .safetyInternalFault stbd code => Sys2Proof.Machine.execSafetyInternalFault stbd code s
  | .logConfig src d list => Sys2Proof.Machine.execLogConfig src d list s
  | .logStart src d => Sys2Proof.Machine.execLogStart src d s
  | .logStop src d => Sys2Proof.Machine.execLogStop src d s
  | .logMaskLoad src d table => Sys2Proof.Machine.execLogMaskLoad src d table s
  | .logTrigger src d => Sys2Proof.Machine.execLogTrigger src d s
  | .soundFire src d => Sys2Proof.Machine.execSoundFire src d s
  | .snapDump src d => Sys2Proof.Machine.execSnapDump src d s
  | .logSample stream => Sys2Proof.Machine.execLogSample stream s
  | .logRearm stream => Sys2Proof.Machine.execLogRearm stream s
  | .logResizeGap stream => Sys2Proof.Machine.execLogResizeGap stream s
  | .soundingLatch skews => Sys2Proof.Machine.execSoundingLatch skews s
  | .xdspPreempt hart => Sys2Proof.Machine.execXdspPreempt hart s
  | .xdspYield hart => Sys2Proof.Machine.execXdspYield hart s
  | .xdspWait hart => Sys2Proof.Machine.execXdspWait hart s
  | .xdspStop hart => Sys2Proof.Machine.execXdspStop hart s
  | .xdspDispatch hart => Sys2Proof.Machine.execXdspDispatch hart s
  | .xevtclaim hart => Sys2Proof.Machine.execXevtclaim hart s
  | .xwdt hart => Sys2Proof.Machine.execXwdt hart s
  | .xntimel hart => Sys2Proof.Machine.execXntimel hart s
  | .tokenMatch core => Sys2Proof.Machine.execTokenMatch core s
  | .dspStart value => Sys2Proof.Machine.execDspStart value s
  | .dspStop value => Sys2Proof.Machine.execDspStop value s
  | .semaphorePost agent n value => Sys2Proof.Machine.execSemaphorePost agent n value s
  | .mailboxAppend agent m value => Sys2Proof.Machine.execMailboxAppend agent m value s
  | .threadBlockWrite agent thread word value => Sys2Proof.Machine.execThreadBlockWrite agent thread word value s
  | .commandPortSubmit port value => Sys2Proof.Machine.execCommandPortSubmit port value s
  | .cpuHrstWrite value => Sys2Proof.Machine.execCpuHrstWrite value s
  | .customerHartWatchdog h => Sys2Proof.Machine.execCustomerHartWatchdog h s
  | .canTx src d data => Sys2Proof.Machine.execCanTx src d data s
  | .canRecover src d => Sys2Proof.Machine.execCanRecover src d s
  | .canSleep src d => Sys2Proof.Machine.execCanSleep src d s
  | .helmHandover src d => Sys2Proof.Machine.execHelmHandover src d s
  | .helmRelayGrant src d => Sys2Proof.Machine.execHelmRelayGrant src d s
  | .testLane src d => Sys2Proof.Machine.execTestLane src d s
  | .testHart src d => Sys2Proof.Machine.execTestHart src d s
  | .testMemory src d => Sys2Proof.Machine.execTestMemory src d s
  | .pdSwitch src d => Sys2Proof.Machine.execPdSwitch src d s
  | .keelProgram src d => Sys2Proof.Machine.execKeelProgram src d s
  | .fwStage src d image => Sys2Proof.Machine.execFwStage src d image s
  | .partnerHelmChange level => Sys2Proof.Machine.execPartnerHelmChange level s
  | .selfDiagnosisFail code => Sys2Proof.Machine.execSelfDiagnosisFail code s
  | .heartbeatReceive hstate hsync cycle ntime => Sys2Proof.Machine.execHeartbeatReceive hstate hsync cycle ntime s
  | .chainLaneChange lane up => Sys2Proof.Machine.execChainLaneChange lane up s
  | .relayGrantMessage branch grant => Sys2Proof.Machine.execRelayGrantMessage branch grant s
  | .relayFrame branch up start bytes => Sys2Proof.Machine.execRelayFrame branch up start bytes s
  | .cableBreak branch pos => Sys2Proof.Machine.execCableBreak branch pos s
  | .resyncCheck prole pvariant pmgr pver digestEq => Sys2Proof.Machine.execResyncCheck prole pvariant pmgr pver digestEq s
  | .resyncBulkDone regs plan mirror slots mem profs => Sys2Proof.Machine.execResyncBulkDone regs plan mirror slots mem profs s
  | .inServiceTestDone opcode target result => Sys2Proof.Machine.execInServiceTestDone opcode target result s
  | .porRelease bootsel vpp => Sys2Proof.Machine.execPorRelease bootsel vpp s
  | .pcieLinkUp speed width => Sys2Proof.Machine.execPcieLinkUp speed width s
  | .supervisorWatchdogReset hart => Sys2Proof.Machine.execSupervisorWatchdogReset hart s
  | .chipReset value => Sys2Proof.Machine.execChipReset value s
  | .perDomainReset value => Sys2Proof.Machine.execPerDomainReset value s
  | .pdSwitchDone code => Sys2Proof.Machine.execPdSwitchDone code s
  | .pllRelock isN => Sys2Proof.Machine.execPllRelock isN s
  | .clockMonitorFault which => Sys2Proof.Machine.execClockMonitorFault which s
  | .supplyMonitorTrip rail => Sys2Proof.Machine.execSupplyMonitorTrip rail s
  | .supplyRailReturn rail => Sys2Proof.Machine.execSupplyRailReturn rail s
  | .thermalCrossing tj => Sys2Proof.Machine.execThermalCrossing tj s
  | .imageVerify slotB image => Sys2Proof.Machine.execImageVerify slotB image s
  | .keelProgramDone t c => Sys2Proof.Machine.execKeelProgramDone t c s
  | .fwStageDone readback => Sys2Proof.Machine.execFwStageDone readback s
  | .memoryEccError mem bank word correctable hart => Sys2Proof.Machine.execMemoryEccError mem bank word correctable hart s
  | .boundaryRecordReceive cycle planAct writes cmds missing => Sys2Proof.Machine.execBoundaryRecordReceive cycle planAct writes cmds missing s
  | .axisStateReceive axis cycle axflags carry => Sys2Proof.Machine.execAxisStateReceive axis cycle axflags carry s
  | .sweepReceive pos words => Sys2Proof.Machine.execSweepReceive pos words s
  | .canInitLeave ctl value => Sys2Proof.Machine.execCanInitLeave ctl value s
  | .canMbLock ctl value => Sys2Proof.Machine.execCanMbLock ctl value s
  | .canMbRel ctl value => Sys2Proof.Machine.execCanMbRel ctl value s
  | .canMbAbort ctl value => Sys2Proof.Machine.execCanMbAbort ctl value s
  | .canIntegrationDone ctl => Sys2Proof.Machine.execCanIntegrationDone ctl s
  | .canFrameReceived ctl f => Sys2Proof.Machine.execCanFrameReceived ctl f s
  | .canRxToRing ctl => Sys2Proof.Machine.execCanRxToRing ctl s
  | .canFrameSent ctl ts cyc delay => Sys2Proof.Machine.execCanFrameSent ctl ts cyc delay s
  | .canArbitrationLost ctl => Sys2Proof.Machine.execCanArbitrationLost ctl s
  | .canBusError ctl e => Sys2Proof.Machine.execCanBusError ctl e s
  | .canBusOff ctl => Sys2Proof.Machine.execCanBusOff ctl s
  | .canRecoveryComplete ctl => Sys2Proof.Machine.execCanRecoveryComplete ctl s
  | .canBackoffEnd ctl b => Sys2Proof.Machine.execCanBackoffEnd ctl b s
  | .canSleepEntry ctl => Sys2Proof.Machine.execCanSleepEntry ctl s
  | .canEdgeWake ctl => Sys2Proof.Machine.execCanEdgeWake ctl s
  | .canWakeFrame ctl f => Sys2Proof.Machine.execCanWakeFrame ctl f s
  | .canHelmModeSwitch ctl => Sys2Proof.Machine.execCanHelmModeSwitch ctl s
  | .canProtocolException ctl => Sys2Proof.Machine.execCanProtocolException ctl s
  | .cycHoldRelease => Sys2Proof.Machine.execCycHoldRelease s
  | .sailFreeze => Sys2Proof.Machine.execSailFreeze s
  | .networkStart => Sys2Proof.Machine.execNetworkStart s
  | .ppsTimeout => Sys2Proof.Machine.execPpsTimeout s
  | .holdoverExpiry => Sys2Proof.Machine.execHoldoverExpiry s
  | .timeStep => Sys2Proof.Machine.execTimeStep s
  | .timeSetTimeout => Sys2Proof.Machine.execTimeSetTimeout s
  | .slewEnd => Sys2Proof.Machine.execSlewEnd s
  | .planComputed => Sys2Proof.Machine.execPlanComputed s
  | .planPrepared => Sys2Proof.Machine.execPlanPrepared s
  | .autoPlanPrepare => Sys2Proof.Machine.execAutoPlanPrepare s
  | .planSwitch => Sys2Proof.Machine.execPlanSwitch s
  | .planRelease => Sys2Proof.Machine.execPlanRelease s
  | .adaptSchedule => Sys2Proof.Machine.execAdaptSchedule s
  | .dispatchTick => Sys2Proof.Machine.execDispatchTick s
  | .helmClaim => Sys2Proof.Machine.execHelmClaim s
  | .helmContend => Sys2Proof.Machine.execHelmContend s
  | .helmQuietExpiry => Sys2Proof.Machine.execHelmQuietExpiry s
  | .helmQuietYield => Sys2Proof.Machine.execHelmQuietYield s
  | .helmTake => Sys2Proof.Machine.execHelmTake s
  | .helmReadbackFail => Sys2Proof.Machine.execHelmReadbackFail s
  | .giveUp => Sys2Proof.Machine.execGiveUp s
  | .helmForcedReset => Sys2Proof.Machine.execHelmForcedReset s
  | .heartbeatSend => Sys2Proof.Machine.execHeartbeatSend s
  | .heartbeatLoss => Sys2Proof.Machine.execHeartbeatLoss s
  | .resyncSynced => Sys2Proof.Machine.execResyncSynced s
  | .powerOnReset => Sys2Proof.Machine.execPowerOnReset s
  | .resetN => Sys2Proof.Machine.execResetN s
  | .perst => Sys2Proof.Machine.execPerst s
  | .flr => Sys2Proof.Machine.execFlr s
  | .pcieLinkLoss => Sys2Proof.Machine.execPcieLinkLoss s
  | .pllNLockLoss => Sys2Proof.Machine.execPllNLockLoss s
  | .pllCLockLoss => Sys2Proof.Machine.execPllCLockLoss s
  | .sweepTransfer => Sys2Proof.Machine.execSweepTransfer s

end Sys2Proof.Machine
end

