-- ==== Sys2Proof/Safety.lean ====
section
/-! DEFINITION. What counts as a sound state, and the conditions under which a command executes, in the terms the statements
use. -/

namespace Sys2Proof.Machine

open Sys2Proof

/-- The register table lists rising offsets and no register at its reset value. -/
abbrev State.canonical (s : State) : Prop := Tab.wf resetWord s.regs = true

/-- Every command in the queue is well formed. -/
abbrev State.queueOk (s : State) : Prop := s.pending.all wellFormed = true

/-- A command passes the checks all commands share (R59, R91, R94, R95), and names no cycle. -/
abbrev State.accepts (s : State) (src : Src) (opc : Nat) (d : Desc) : Prop :=
  s.precheck src opc d = none ∧ d.atCycle = false

/-- The host's accesses reach the registers, and no posted write waits for a register (R53, R58, R68). -/
abbrev State.hostReaches (s : State) (off : Nat) : Prop :=
  s.reaches .host = true ∧ s.regOff off = false ∧ s.pendValue off = s.rg off

/-- A command of a ring is in progress and holds a slot of its ring's completion ring (R88). -/
def State.begun (s : State) (src : Src) (opc : Nat) (d : Desc) : State :=
  { s with host := { s.host with taken := s.host.taken ++ [{ src := src, opcode := opc, desc := d, cq := s.cqOf src.ringNo }] } }

/-- The command a ring or a command port brings: its source, opcode (Table 2.16) and descriptor. -/
def command : Instr → Option (Src × Nat × Desc)
  | .nop src d => some (src, 0x00, d)
  | .regWrite src d => some (src, 0x01, d)
  | .regRead src d => some (src, 0x02, d)
  | .waitCycle src d => some (src, 0x03, d)
  | .netBoom src d => some (src, 0x30, d)
  | .netNodeQuery src d => some (src, 0x31, d)
  | .netNodeReset src d => some (src, 0x32, d)
  | .netWorkerParam src d _ => some (src, 0x33, d)
  | .netWorkerFw src d _ => some (src, 0x34, d)
  | .netPortTest src d => some (src, 0x35, d)
  | .timeSet src d => some (src, 0x36, d)
  | .tunnelTx src d _ => some (src, 0xB0, d)
  | .planPrepare src d => some (src, 0x20, d)
  | .planCommit src d => some (src, 0x21, d)
  | .planAbort src d => some (src, 0x22, d)
  | .planReport src d => some (src, 0x23, d)
  | .axisSetMode src d => some (src, 0x10, d)
  | .axisParamWrite src d => some (src, 0x11, d)
  | .axisParamRead src d => some (src, 0x12, d)
  | .axisAdaptLock src d => some (src, 0x13, d)
  | .axisLearnReset src d => some (src, 0x14, d)
  | .axisInject src d => some (src, 0x15, d)
  | .axisClearFault src d => some (src, 0x16, d)
  | .moveSeg src d => some (src, 0x40, d)
  | .moveStartGroup src d => some (src, 0x41, d)
  | .moveStop src d => some (src, 0x42, d)
  | .moveResume src d => some (src, 0x43, d)
  | .homeStart src d => some (src, 0x44, d)
  | .groupSet src d => some (src, 0x45, d)
  | .cartAuth src d => some (src, 0x70, d)
  | .cartRead src d => some (src, 0x71, d)
  | .cartWrite src d _ => some (src, 0x72, d)
  | .cartPolicy src d _ => some (src, 0x73, d)
  | .cartFlush src d => some (src, 0x74, d)
  | .safeConfigLoad src d _ => some (src, 0x80, d)
  | .safeStatus src d => some (src, 0x81, d)
  | .logConfig src d _ => some (src, 0x50, d)
  | .logStart src d => some (src, 0x51, d)
  | .logStop src d => some (src, 0x52, d)
  | .logMaskLoad src d _ => some (src, 0x53, d)
  | .logTrigger src d => some (src, 0x54, d)
  | .soundFire src d => some (src, 0x55, d)
  | .snapDump src d => some (src, 0x56, d)
  | .canTx src d _ => some (src, 0x60, d)
  | .canRecover src d => some (src, 0x61, d)
  | .canSleep src d => some (src, 0x62, d)
  | .helmHandover src d => some (src, 0x90, d)
  | .helmRelayGrant src d => some (src, 0x91, d)
  | .testLane src d => some (src, 0x92, d)
  | .testHart src d => some (src, 0x93, d)
  | .testMemory src d => some (src, 0x94, d)
  | .pdSwitch src d => some (src, 0x95, d)
  | .keelProgram src d => some (src, 0xA0, d)
  | .fwStage src d _ => some (src, 0xA1, d)
  | _ => none

/-! ### Frames that pass the guardian -/

/-- A frame arrives on an enabled port that no isolation has stopped, and is not the unit's own (R106, R113, R170); the port does
not close a ring on a unit without the helm (R569), and no tail copy waits for its head copy (R112). -/
abbrev State.rxReaches (s : State) (p : Nat) (f : RxFrame) : Prop :=
  s.hears p f.bytes = true ∧ s.net.stopped.any (fun x => x.1 == p) = false ∧ s.ownFrame p f = false ∧
  (s.topo p ≠ 3 ∨ s.holder = true) ∧ s.net.tailHeld = []

/-- A frame lies inside the only grant of its branch, comes from its node and passes the star (R124, R168, R169). -/
abbrev State.rxGranted (s : State) (p : Nat) (f : RxFrame) (g : Nat × Nat × Nat × Nat) : Prop :=
  s.rxReaches p f ∧ (tDyn s.rate : Int) + 48 < f.t ∧ f.t < tDyn s.rate + 128 * (minislots s.rate : Int) ∧
  hSrc (hdrNum f.bytes) = g.1 ∧ g.1 % 256 ≠ 0xFF ∧ s.net.grants.filter (fun x => x.1 / 256 == s.branchOf p) = [g] ∧
  (tDyn s.rate : Int) + 128 * (g.2.1 : Int) ≤ f.t ∧ f.t ≤ tDyn s.rate + 128 * (g.2.1 : Int) + 48 ∧
  f.t + 8 * (f.bytes.length + 4) ≤ tDyn s.rate + 128 * ((g.2.1 + g.2.2.1 : Nat) : Int) - 24 ∧ 1 ≤ g.2.2.1 ∧
  s.starCheck f false = none

/-- What guardian and star have done with such a frame before its message is read: the grant counts it, the deviation of the grant's
first frame is kept, the port counts it. -/
def State.rxTaken (s : State) (p : Nat) (f : RxFrame) (g : Nat × Nat × Nat × Nat) : State :=
  let u := { s with net := { s.net with
    grants := s.net.grants.map (fun (x : Nat × Nat × Nat × Nat) => if x.1 == g.1 then (x.1, x.2.1, x.2.2.1, x.2.2.2 + 1) else x) } }
  (if g.2.2.2 = 0 then u.admitDev p g.1 (f.t - (tDyn s.rate + 128 * (g.2.1 : Int))) else u).rxValid p

/-- What every step keeps: the register table in canonical form, every waiting command well formed. -/
abbrev State.Inv (s : State) : Prop := s.canonical ∧ s.queueOk

/-! ### Lane instructions -/

/-- Operands a and b of an instruction (R206). -/
def State.opA (s : State) (l : Nat) (w : LaneWord) : Word := (s.lane l).src w.sa
def State.opB (s : State) (l : Nat) (w : LaneWord) : Word := (s.lane l).src w.sb

/-- Lane l stands at this instruction, and no result of a learning memory read lands with it (R222). -/
abbrev State.laneAt (s : State) (l op : Nat) (w : LaneWord) : Prop :=
  s.standsAt l op w = true ∧ ∀ e ∈ (s.lane l).lrd, (s.lane l).ran < e.1

/-- The lane after the moves and the sequencing of an instruction, before the instruction's own result. -/
def State.lanePast (s : State) (l op : Nat) (w : LaneWord) : LaneSt := (s.lane l).instr op w {}

/-- The instruction writes a data register of its lane. -/
def State.laneData (s : State) (l op : Nat) (w : LaneWord) (v : Word) : State :=
  s.setLane l ((s.lanePast l op w).setD w.dst.toNat v)

/-- A result saturated to 32 bits; a saturation counts and sets the flags of lane and axis (R228). -/
def State.laneSat (s : State) (l op : Nat) (w : LaneWord) (x : Int) : State :=
  let t := s.laneData l op w (ofInt (max (-(2 ^ 31)) (min (2 ^ 31 - 1) x)))
  if x < -(2 ^ 31) ∨ 2 ^ 31 - 1 < x then ((t.axFlag (s.lane l).axis 0).laneFlag l 0).incFld (laneReg l 0xC) 31 0 1 else t

/-- An accumulator result saturated to 80 bits (R223); a saturation sets the flags of lane and axis (R228). -/
def State.laneAcc (s : State) (l op : Nat) (w : LaneWord) (x : Int) : State :=
  let t := s.setLane l ((s.lanePast l op w).setAcc (w.dst.toNat % 4) (max (-(2 ^ 79)) (min (2 ^ 79 - 1) x)))
  if x < -(2 ^ 79) ∨ 2 ^ 79 - 1 < x then (t.axFlag (s.lane l).axis 1).laneFlag l 0 else t

end Sys2Proof.Machine
end

