-- ==== Sys2Proof/Certificates/Slice0/Obligations.lean ====
section
/-! DEFINITION. The statements for the provers. They speak of the model's own fields too: what leaves the block is in `out` (log 3), what
waits for a boundary in `host.due`, and free values are drawn from the counter `free` (log 2). `Desc` is a descriptor as Table 2.13 lays it
out, `src` the ring or command port it came from, and `accepts` says that the shared checks let a command through with no cycle named. -/

open Sys2Proof Sys2Proof.Machine

/-- Commands on registers (R91, R94): what NOP, REG_WRITE, REG_READ and WAIT_CYCLE do once they are accepted. -/
def Obligations.HostCommandsComplete : Prop :=
  (∀ (s : State) (src : Src) (d : Desc), s.accepts src 0x00 d → exec (.nop src d) s = .next (s.complete src 0x00 d .ok)) ∧
  (∀ (s : State) (src : Src) (d : Desc), s.accepts src 0x01 d → s.regWriteError src d = none →
    exec (.regWrite src d) s = .next ((s.busWrite .host (d.tgt * 0x400000 + d.op0.toNat) d.op1 true true).complete src 0x01 d .ok)) ∧
  (∀ (s : State) (src : Src) (d : Desc), s.accepts src 0x02 d → d.op0.toNat % 4 = 0 → d.op0.toNat < 0x1000000 →
    s.regOff (d.op0.toNat % 0x400000) = false →
    exec (.regRead src d) s = .next ((s.readReg .host d.op0.toNat).1.complete src 0x02 d .ok
      (s.readReg .host d.op0.toNat).2.toNat)) ∧
  (∀ (s : State) (src : Src) (d : Desc), s.precheck src 0x03 d = none →
    exec (.waitCycle src d) s = .next { s with host := { s.host with
      due := s.host.due ++ [{ cyc := d.op5, src := src, opc := 0x03, desc := d }] } })

/-- What a command's completion writes (R88, R89, Table 2.14): the 16 bytes at the producer index of the completion ring whose
slot the command holds; a success without COMP writes nothing, nor does a command whose completion a host-side reset lost (R203); a
command port takes TAG, opcode, status and results itself and
raises event 249 (R525). -/
def Obligations.CompletionWrites : Prop :=
  (∀ (s : State) (r : Fin 32) (opc : Nat) (d : Desc) (lo hi : Nat), d.comp = false → s.isLost (.ring r) opc d = false →
    s.complete (.ring r) opc d .ok lo hi = s.release (.ring r) opc d) ∧
  (∀ (s : State) (r : Fin 32) (opc : Nat) (d : Desc) (st : St) (lo hi : Nat), (d.comp = true ∨ st ≠ .ok) →
    s.isLost (.ring r) opc d = false → s.ringAlive (s.slotOf (.ring r) opc d) = true →
    .dma (s.ringAddr (s.slotOf (.ring r) opc d) + s.prodIdx (s.slotOf (.ring r) opc d) * s.esize (s.slotOf (.ring r) opc d))
      (leBytes 4 d.tag.toNat ++ leBytes 1 opc ++ leBytes 1 st.code ++ leBytes 1 r.val ++ [0] ++ leBytes 4 lo ++ leBytes 4 hi) ∈
        (s.complete (.ring r) opc d st lo hi).out) ∧
  (∀ (s : State) (r : Fin 32) (opc : Nat) (d : Desc) (st : St) (lo hi : Nat), s.isLost (.ring r) opc d = true →
    s.complete (.ring r) opc d st lo hi = (s.release (.ring r) opc d).forget (.ring r) opc d) ∧
  (∀ (s : State) (h : Fin 2) (opc : Nat) (d : Desc) (st : St) (lo hi : Nat), ∃ u : State,
    s.complete (.port h) opc d st lo hi = u.raise 249 (h.val + 2) ∧
    u.rg (CPU_B + 0x120 + h.val * 0x40) = d.tag ∧ u.rg (CPU_B + 0x124 + h.val * 0x40) = ofNat (opc + st.code * 0x100 + 0x30000) ∧
    u.rg (CPU_B + 0x128 + h.val * 0x40) = ofNat lo ∧ u.rg (CPU_B + 0x12C + h.val * 0x40) = ofNat hi ∧
    u.flag (CPU_B + 0x130 + h.val * 0x40) 0 = false ∧ u.flag (CPU_B + 0x130 + h.val * 0x40) 1 = true)

/-- The four windows (R54, R56, R624), on HOST_CQ_TMO: NORMAL writes the field, SET, CLR and MASK change the bits they select; an
alias write that selects no bit does nothing. -/
def Obligations.RegisterWindows : Prop :=
  (∀ (s : State) (v : Word), s.hostReaches (HOST_B + 0x14) → v &&& 0xFFFF ≠ 0 →
    exec (.registerWrite .host 0x10014 v 15 .regs) s = .next (s.setRg (HOST_B + 0x14) ((s.rg (HOST_B + 0x14) &&& 0xFFFF0000) ||| (v &&& 0xFFFF)))) ∧
  (∀ (s : State) (v : Word), s.hostReaches (HOST_B + 0x14) → v &&& 0xFFFF ≠ 0 →
    exec (.aliasSetWrite .host 0x10014 v 15) s = .next (s.setRg (HOST_B + 0x14) (s.rg (HOST_B + 0x14) ||| (v &&& 0xFFFF)))) ∧
  (∀ (s : State) (v : Word), s.hostReaches (HOST_B + 0x14) → v &&& 0xFFFF ≠ 0 →
    s.rg (HOST_B + 0x14) &&& ~~~v &&& 0xFFFF ≠ 0 →
    exec (.aliasClrWrite .host 0x10014 v 15) s = .next (s.setRg (HOST_B + 0x14) (s.rg (HOST_B + 0x14) &&& ~~~(v &&& 0xFFFF)))) ∧
  (∀ (s : State) (v : Word), s.hostReaches (HOST_B + 0x14) → v >>> 16 ≠ 0 →
    ((s.rg (HOST_B + 0x14) &&& ~~~(v >>> 16)) ||| (v &&& (v >>> 16))) &&& 0xFFFF ≠ 0 →
    exec (.aliasMaskWrite .host 0x10014 v 15) s =
      .next (s.setRg (HOST_B + 0x14) ((s.rg (HOST_B + 0x14) &&& ~~~(v >>> 16)) ||| (v &&& (v >>> 16))))) ∧
  (∀ (s : State) (v : Word), s.hostReaches (HOST_B + 0x14) → v &&& 0xFFFF = 0 →
    exec (.aliasSetWrite .host 0x10014 v 15) s = .next s ∧ exec (.aliasClrWrite .host 0x10014 v 15) s = .next s) ∧
  (∀ (s : State) (v : Word), s.hostReaches (HOST_B + 0x14) → v >>> 16 = 0 → exec (.aliasMaskWrite .host 0x10014 v 15) s = .next s)

/-- Register accesses that are turned away (R16, R24, R58, R59): not all byte enables; a domain that is off; a block that the access
map closes; a reserved value. Each sets its flag and changes nothing else but HOST_ERR_ADDR. -/
def Obligations.RegisterWriteDiscarded : Prop :=
  (∀ (s : State) (off : BitVec 22) (v : Word) (be : BitVec 4), s.reaches .host = true → be ≠ 15 →
    exec (.registerWrite .host off v be .regs) s = .next ((s.setFlag HOST_ERR 0).setRg HOST_ERR_ADDR (ofNat off.toNat))) ∧
  (∀ (s : State) (off : BitVec 22) (v : Word), s.reaches .host = true → off.toNat % 4 = 0 → s.regOff off.toNat = true →
    exec (.registerWrite .host off v 15 .regs) s = .next ((s.setFlag HOST_ERR 1).setRg HOST_ERR_ADDR (ofNat off.toNat))) ∧
  (∀ (s : State) (off : BitVec 22) (v : Word) (g : Nat), s.reaches .host = true → off.toNat % 4 = 0 → s.regOff off.toNat = false →
    guardGroup off.toNat = some g → s.mapDenies g 0 = true →
    exec (.registerWrite .host off v 15 .regs) s = .next ((s.setFlag HOST_ERR 2).setRg HOST_ERR_ADDR (ofNat off.toNat))) ∧
  (∀ (s : State) (v : Word), s.hostReaches (HOST_B + 0x14) → v &&& 0xFFFF = 0 →
    exec (.registerWrite .host 0x10014 v 15 .regs) s = .next (s.setFlag HOST_ERR 5)) ∧
  (∀ (s : State) (off : BitVec 22) (v : Word) (be : BitVec 4), s.reaches .host = false →
    exec (.registerWrite .host off v be .regs) s = .next s) ∧
  (∀ (s : State) (off : BitVec 24), s.reaches .host = true → s.regOff (off.toNat % 0x400000 / 4 * 4) = true →
    s.readWaits .host off.toNat = false →
    exec (.rcFieldRead .host off) s =
      .next (((s.setFlag HOST_ERR 1).setRg HOST_ERR_ADDR (ofNat off.toNat)).emit (.read 0 off.toNat 0)) ∧
    exec (.lowWordRead .host off .regs) s =
      .next (((s.setFlag HOST_ERR 1).setRg HOST_ERR_ADDR (ofNat off.toNat)).emit (.read 0 off.toNat 0)))

/-- Reads (R16, R17, R19, R62, R78, R96): a low word latches the high word for the agent; an RC field is cleared by the read; a read of
a LANE register stays behind the host's LANE writes that wait; a doorbell reads its last write, an MSI-X table entry its words. -/
def Obligations.RegisterReads : Prop :=
  (∀ (s : State) (a : Agent), s.reaches a = true →
    exec (.lowWordRead a 0x40000 .regs) s = .next (({ s with host := { s.host with
      latch := Tab.set (2 ^ 32) (s.host.latch.filter (fun e => e.1 != agentNo a * 2 ^ 24 + 0x40000)) (agentNo a * 2 ^ 24 + 0x40004)
        (ofNat (s.ntime / 2 ^ 32)).toNat } }).emit (.read (agentNo a) 0x40000 (ofNat s.ntime).toNat))) ∧
  (∀ (s : State) (a : Agent) (e : Nat × Nat), s.reaches a = true →
    s.host.latch.find? (fun e => e.1 == agentNo a * 2 ^ 24 + 0x40004) = some e →
    exec (.lowWordRead a 0x40004 .regs) s = .next (({ s with host := { s.host with
      latch := s.host.latch.filter (fun e => e.1 != agentNo a * 2 ^ 24 + 0x40004) } }).emit
        (.read (agentNo a) 0x40004 (ofNat e.2).toNat))) ∧
  (∀ (s : State) (a : Agent) (r : Fin 32), s.reaches a = true → s.powered 5 = true → ∃ t : State,
    exec (.rcFieldRead a (BitVec.ofNat 24 (rStat r.val))) s = .next t ∧ t.fld (rStat r.val) 31 16 = 0 ∧
    .read (agentNo a) (rStat r.val) (s.value (rStat r.val)).toNat ∈ t.out ∧
    ∀ o, o ≠ rStat r.val → t.rg o = s.rg o) ∧
  (∀ (s : State) (off : BitVec 24), s.reaches .host = true → s.readWaits .host off.toNat = true →
    exec (.lowWordRead .host off .regs) s =
      .next { s with mem := { s.mem with posted := s.mem.posted ++ [{ agent := .host, boff := off.toNat, word := none }] } }) ∧
  (∀ (s : State) (r : Fin 32), s.reaches .host = true →
    exec (.lowWordRead .host (BitVec.ofNat 24 (r.val * 8)) .bar2) s =
      .next (s.emit (.read 0 (0x2000000 + r.val * 8) (s.ringX r.val).doorbell))) ∧
  (∀ (s : State) (v : Fin 64), s.reaches .host = true →
    exec (.lowWordRead .host (BitVec.ofNat 24 (v.val * 16 + 8)) .bar4) s =
      .next (s.emit (.read 0 (0x4000000 + v.val * 16 + 8) (s.msixV v.val).data)) ∧
    exec (.lowWordRead .host (BitVec.ofNat 24 (v.val * 16 + 12)) .bar4) s =
      .next (s.emit (.read 0 (0x4000000 + v.val * 16 + 12) (b2n (s.msixV v.val).masked))))

/-- Doorbells and ring engines (R70, R78, R79, R82, R83, R90, R98): an index taken or refused, or held behind the host's earlier
writes; a head taken; a failed access; a stall. -/
def Obligations.RingCommands : Prop :=
  (∀ (s : State) (r : Fin 32) (v : Word), s.reaches .host = true → s.dbBad r.val (bits v 15 0) = false → s.resizing r.val = false →
    s.hostBehind = false → s.host.dbHeld = [] →
    exec (.doorbellWrite r v) s = .next (((s.setRingX r.val { s.ringX r.val with doorbell := v.toNat }).setFld (rIdx r.val) 15 0
      (bits v 15 0)).ringRefresh r.val)) ∧
  (∀ (s : State) (r : Fin 32) (v : Word), s.reaches .host = true → s.ringSize r.val ≤ bits v 15 0 →
    s.hostBehind = false → s.host.dbHeld = [] →
    exec (.doorbellWrite r v) s = .next ((s.setRingX r.val { s.ringX r.val with doorbell := v.toNat }).ringFlag r.val 3)) ∧
  (∀ (s : State) (r : Fin 32) (v : Word), s.reaches .host = true → (s.hostBehind = true ∨ s.host.dbHeld ≠ []) → ∃ u : State,
    u = s.setRingX r.val { s.ringX r.val with doorbell := v.toNat } ∧
    exec (.doorbellWrite r v) s = .next { u with host := { u.host with dbHeld := u.host.dbHeld ++ [(r.val, v)] } }) ∧
  (∀ (s : State) (h : Head), h.ring.val < 4 → s.mayTake h = true → opcodeOnRing h.opcode.toNat h.ring.val = true →
    opcodes.contains h.opcode.toNat = true → ∃ u : State,
    u = (((s.setFld (rIdx h.ring.val) 31 16 ((s.cxmIdx h.ring.val + 1) % s.ringSize h.ring.val)).ringRefresh h.ring.val).writeback
      h.ring.val).applyResize h.ring.val (s.cxmIdx h.ring.val) ∧
    exec (.descriptorTake [h]) s = .next ((if (u.countRing h.ring.val).2 then (u.countRing h.ring.val).1.ringEvent h.ring.val
      else (u.countRing h.ring.val).1).begun (.ring h.ring) h.opcode.toNat h.desc)) ∧
  (∀ (s : State) (r : Fin 32), s.ringEn r.val = true → s.flag (rStat r.val) 0 = true →
    exec (.ringDmaError r) s = .next ((s.clrFlag (rStat r.val) 0).ringFlag r.val 4)) ∧
  (∀ (s : State) (b : Bool), s.ringEn (if b then 5 else 4) = true → s.flag (rStat (if b then 5 else 4)) 2 = true →
    exec (.completionRingStall b) s = .next (s.ringFlag (if b then 5 else 4) 6)) ∧
  (∀ (s : State) (r : Fin 32), (s.ringX r.val).holdRun = true → s.fld (rIrq r.val) 23 8 ≠ 0 →
    exec (.ringIrqHoldExpiry r) s = .next (s.ringEvent r.val)) ∧
  (∀ (s : State) (x : List Byte), s.safe.log = [x] → s.ringRoom 27 = true →
    ∃ u : State, u = s.pushRing 27 (x.take 8 ++ leBytes 4 s.cycle.toNat ++ x.drop 12) ∧
      exec (.reportRingWrite 27) s = .next { u with safe := { u.safe with log := [] } }) ∧
  (∀ (s : State), s.ringRoom 27 = false → exec (.reportRingWrite 27) s = .next s)

/-- RING_CFG and RING_IRQ (R84, R85, R99): reset, disable, resize and unmask, written by the host. -/
def Obligations.RingRegisters : Prop :=
  (∀ (s : State) (r : Fin 32), s.reaches .host = true → s.powered 5 = true → s.ringEn r.val = false → s.pendValue (rCfg r.val) = s.rg (rCfg r.val) →
    ∃ t : State, exec (.ringReset r) s = .next t ∧ t.rg (rIdx r.val) = 0 ∧ (t.ringX r.val).unsignalled = 0 ∧
      t.resizing r.val = false ∧ t.ringEn r.val = false ∧ t.out = s.out) ∧
  (∀ (s : State) (r : Fin 32), s.reaches .host = true → s.powered 5 = true → s.ringEn r.val = true →
    ∃ t : State, exec (.ringDisable r) s = .next t ∧ t.ringEn r.val = false ∧ t.flag (rStat r.val) 0 = false ∧
      t.rg (rIdx r.val) = s.rg (rIdx r.val) ∧ t.host = s.host) ∧
  (∀ (s : State) (r : Fin 32) (n : BitVec 5), s.reaches .host = true → s.powered 5 = true → s.ringEn r.val = true →
    s.pendValue (rCfg r.val) = s.rg (rCfg r.val) → 4 ≤ n.toNat → n.toNat ≤ 16 → n.toNat ≠ s.fld (rCfg r.val) 8 4 →
    ∃ t : State, exec (.ringResizeRequest r n) s = .next t ∧ t.resizing r.val = true ∧ (t.ringX r.val).pendSize = n.toNat ∧
      t.ringSize r.val = s.ringSize r.val ∧ t.ringEn r.val = true) ∧
  (∀ (s : State) (r : Fin 32), s.reaches .host = true → s.powered 5 = true → s.flag (rIrq r.val) 31 = true →
    ∃ u : State, u.flag (rIrq r.val) 31 = false ∧ u.host = s.host ∧ (∀ o, o ≠ rIrq r.val → u.rg o = s.rg o) ∧
      exec (.ringIrqUnmask r) s = .next (if (s.ringX r.val).unsignalled = 0 then u else u.ringEvent r.val)) ∧
  (∀ (s : State), s.reaches .host = true → s.powered 5 = true → s.flag HOST_CTL 0 = true →
    ∃ t : State, exec .cycHoldRelease s = .next t ∧ t.flag HOST_CTL 0 = false ∧ t.host = s.releaseCyc.host ∧
      (∀ o, o ≠ HOST_CTL → t.rg o = s.rg o)) ∧
  (∀ (s : State) (b : Bool), s.reaches .host = true → s.powered 5 = true →
    ∃ t : State, exec (.cmdPauseWrite b) s = .next t ∧ t.flag HOST_CTL 1 = b ∧ t.host = s.host ∧
      (∀ o, o ≠ HOST_CTL → t.rg o = s.rg o)) ∧
  (∀ (s : State) (v : Fin 64) (a : BitVec 64) (x : Word), s.reaches .host = true → (s.msixV v.val).pba = false →
    exec (.msixVectorUnmask v a x) s = .next { s with host := { s.host with
      msix := Tab.set ({} : MsixV) s.host.msix v.val { addr := a.toNat, data := x.toNat, masked := false, pba := false } } }) ∧
  (∀ (s : State) (v : Fin 64) (a : BitVec 64) (x : Word), s.reaches .host = true → (s.msixV v.val).pba = true → s.host.msixOn = true →
    exec (.msixVectorUnmask v a x) s = .next (({ s with host := { s.host with
      msix := Tab.set ({} : MsixV) s.host.msix v.val { addr := a.toNat, data := x.toNat, masked := false, pba := false } } }).emit
        (.msix v.val a.toNat x.toNat)))

/-- Manifest memory and section lists (R241, R242, R69): a word stored; a list, or an entry of standard lists, staged for the next
plan; an entry that names customer lists waits while these are checked, and their check decides it; a check done. -/
def Obligations.ManifestAccess : Prop :=
  (∀ (s : State) (hi : Word), s.reaches .host = true → s.checking = false → 0x1000 ≤ s.fld (LANE_B + 4) 12 0 →
    s.pageUsed ((s.fld (LANE_B + 4) 12 0 - 0x1000) / 0x800) = false →
    (∀ l : Fin 16, bit (s.rg LANE_B) l.val = true → s.powered (l.val / 8) = true) →
    ∃ t : State, exec (.manifestWordStore hi) s = .next t ∧ t.fld (LANE_B + 4) 12 0 = (s.fld (LANE_B + 4) 12 0 + 1) % 8192 ∧
      (∀ l, l < 16 → bit (s.rg LANE_B) l = true →
        Tab.get (manDef (s.fld (LANE_B + 4) 12 0)) (t.lane l).man (s.fld (LANE_B + 4) 12 0) = (s.rg (LANE_B + 8)).toNat + 2 ^ 32 * hi.toNat) ∧
      (∀ l, l < 16 → bit (s.rg LANE_B) l = false → t.lane l = s.lane l) ∧ t.out = s.out) ∧
  (∀ (s : State) (l : Fin 64) (p : Fin 4) (v : Word), s.hostReaches (LANE_B + 0x400 + l.val * 0x10 + p.val * 4) → s.checking = false →
    16 ≤ l.val →
    exec (.laneSlistWrite l p v) s = .next ((s.stagePlan { off := LANE_B + 0x400 + l.val * 0x10 + p.val * 4, mask := 0x9FFF9FFF, val := v, defer := 0 }).setFlag
      (slen l.val) 20)) ∧
  (∀ (s : State) (l : Fin 64) (p : Fin 4) (v : Word), s.hostReaches (LANE_B + 0x400 + l.val * 0x10 + p.val * 4) → s.checking = false →
    l.val < 16 → exec (.laneSlistWrite l p v) s = .next s) ∧
  (∀ (s : State) (e : Fin 16) (j : Fin 4) (v : Word), s.hostReaches (LANE_B + 0x100 + e.val * 0x10 + j.val * 4) → s.checking = false →
    1 ≤ e.val → entryChecks v = [] →
    exec (.laneEntryWrite e j v) s =
      .next (s.stagePlan { off := LANE_B + 0x100 + e.val * 0x10 + j.val * 4, mask := 0x3F3F3F3F, val := v, defer := 0 })) ∧
  (∀ (s : State) (e : Fin 16) (j : Fin 4) (v : Word), s.hostReaches (LANE_B + 0x100 + e.val * 0x10 + j.val * 4) → s.checking = false →
    1 ≤ e.val → entryChecks v ≠ [] → (s.rg (LANE_B + 0x100 + e.val * 0x10 + j.val * 4) ^^^ v) &&& 0x3F3F3F3F ≠ 0 →
    exec (.laneEntryWrite e j v) s = .next ((entryChecks v).foldl State.startCheck { s with mem := { s.mem with
      entry := some { agent := .host, boff := LANE_B + 0x100 + e.val * 0x10 + j.val * 4, word := some v } } })) ∧
  (∀ (s t : State) (l : Fin 64) (e : Fin 16) (j : Fin 4) (v : Word), s.mem.posted = [] → t = s.checkDone l.val → t.checking = false →
    s.mem.entry = some { agent := .host, boff := LANE_B + 0x100 + e.val * 0x10 + j.val * 4, word := some v } → 1 ≤ e.val →
    t.pendValue (LANE_B + 0x100 + e.val * 0x10 + j.val * 4) = t.rg (LANE_B + 0x100 + e.val * 0x10 + j.val * 4) →
    (t.rg (LANE_B + 0x100 + e.val * 0x10 + j.val * 4) ^^^ v) &&& 0x3F3F3F3F ≠ 0 → ∃ u : State,
    u = { t with mem := { t.mem with entry := none } } ∧
    exec (.listCheckDone l) s = .next (State.freeDoorbells (
      if u.entryOk v then
        u.stagePlan { off := LANE_B + 0x100 + e.val * 0x10 + j.val * 4, mask := 0x3F3F3F3F, val := v, defer := 0 }
      else u.cflag 3))) ∧
  (∀ (s : State) (l : Fin 64), s.flag (slen l.val) 20 = true → s.mem.posted = [] → s.mem.entry = none → s.host.dbHeld = [] →
    (s.checkList l.val).2 = (0, true) →
    exec (.listCheckDone l) s = .next (s.setRg (slen l.val) (ofNat ((s.checkList l.val).1 % 2 ^ 14)))) ∧
  (∀ (s : State) (l : Fin 64), s.flag (slen l.val) 20 = true → s.mem.posted = [] → s.mem.entry = none → s.host.dbHeld = [] →
    (s.checkList l.val).2.1 ≠ 0 → ∃ len : Nat,
    exec (.listCheckDone l) s = .next (s.draw.setRg (slen l.val) (ofNat (len % 2 ^ 14 + (s.checkList l.val).2.1 * 2 ^ 16))))

/-- Frames from the branches (R124, R167 to R169): a frame of a berth's node in its window is counted and admitted; one too early is
cut; an overrun is cut as too late an end; a join request enters in the join slot only, one in a cycle (the cut of a second one is
read from R135, log 79); a ring tail's copy waits for the head's (R112); at a standby's closing port a copy gives the tail delay
(R569, log 79). -/
def Obligations.UplinkFrames : Prop :=
  (∀ (s : State) (p : Fin 16) (f : RxFrame) (k : Nat), s.rxReaches p.val f → s.topo p.val ≠ 2 → k < berthCount s.rate →
    hSrc (hdrNum f.bytes) % 256 ≠ 0xFF → berthStart k ≤ f.t → f.t ≤ berthStart k + 48 → f.t < tDyn s.rate →
    s.plannedAt (s.branchOf p.val) k = some (hSrc (hdrNum f.bytes)) → f.t + 8 * (f.bytes.length + 4) ≤ berthStart k + 976 →
    s.starCheck f true = none → s.branchOf p.val * 64 + k ∉ s.net.upUsed → ∃ u : State,
    u = (s.rxValid p.val).admitDev p.val (hSrc (hdrNum f.bytes)) (f.t - berthStart k) ∧
    exec (.berthUp p f) s = .next (({ u with net := { u.net with upUsed := u.net.upUsed ++ [s.branchOf p.val * 64 + k] } } : State).admitBerth
      p.val (hSrc (hdrNum f.bytes)) f).startIso) ∧
  (∀ (s : State) (p : Fin 16) (f : RxFrame) (k : Nat), s.rxReaches p.val f → s.topo p.val = 2 → k < berthCount s.rate →
    hSrc (hdrNum f.bytes) % 256 ≠ 0xFF → berthStart k ≤ f.t → f.t ≤ berthStart k + 48 → f.t < tDyn s.rate →
    s.plannedAt (s.branchOf p.val) k = some (hSrc (hdrNum f.bytes)) → f.t + 8 * (f.bytes.length + 4) ≤ berthStart k + 976 →
    s.starCheck f true = none → ∃ u : State,
    u = (s.rxValid p.val).admitDev p.val (hSrc (hdrNum f.bytes)) (f.t - berthStart k) ∧
    exec (.berthUp p f) s = .next ({ u with net := { u.net with
      tailHeld := u.net.tailHeld ++ [(p.val, hSrc (hdrNum f.bytes), f)] } } : State).startIso) ∧
  (∀ (s : State) (p : Fin 16) (f : RxFrame) (n : Node), s.hears p.val f.bytes = true → s.net.stopped.any (fun x => x.1 == p.val) = false →
    s.ownFrame p.val f = false → s.topo p.val = 3 → s.holder = false → s.net.tailHeld = [] → hType (hdrNum f.bytes) = 2 →
    n = s.node (hSrc (hdrNum f.bytes)) → n.state ≠ 0 → hSrc (hdrNum f.bytes) / 256 = s.branchOf p.val → hPart (hdrNum f.bytes) = 0 →
    hSlot (hdrNum f.bytes) = n.upb → s.starCheck f true = none → s.branchOf p.val * 64 + n.upb ∈ s.net.upUsed →
    exec (.berthUp p f) s = .next ((s.rxValid p.val).updNode (hSrc (hdrNum f.bytes)) (fun m => { m with
      tailSum := m.tailSum + (16 * (f.t - berthStart n.upb) + headDelay n), tailN := m.tailN + 1,
      tailFrom := if m.tailN = 0 then s.cycle else m.tailFrom })).startIso) ∧
  (∀ (s : State) (p : Fin 16) (f : RxFrame), s.rxReaches p.val f → hSrc (hdrNum f.bytes) % 256 ≠ 0xFF →
    452 ≤ f.t → f.t < tDyn s.rate → some (hSrc (hdrNum f.bytes)) ≠ s.plannedAt (s.branchOf p.val) 0 → f.t ≤ 548 →
    exec (.uplinkFrameRejected p f) s = .next ((s.refuseAt (if s.onPath p.val 0 (hSrc (hdrNum f.bytes)) then
      some (hSrc (hdrNum f.bytes)) else s.plannedAt (s.branchOf p.val) 0)).cut p.val 4 0 0 (f.t - 500) (hSrc (hdrNum f.bytes))
        (s.plannedAt (s.branchOf p.val) 0) false).startIso) ∧
  (∀ (s : State) (p : Fin 16) (f : RxFrame), s.hears p.val f.bytes = true → (s.topo p.val ≠ 3 ∨ s.holder = true) →
    s.net.tailHeld = [] → 452 ≤ f.t → f.t ≤ 548 →
    exec (.guardianOverrun p f) s = .next ((s.refuseAt (if s.onPath p.val 0 (hSrc (hdrNum f.bytes)) then
      some (hSrc (hdrNum f.bytes)) else s.plannedAt (s.branchOf p.val) 0)).cut p.val 3 0 0 (f.t - 500) (hSrc (hdrNum f.bytes))
        (s.plannedAt (s.branchOf p.val) 0) false).startIso) ∧
  (∀ (s : State) (p : Fin 16) (f : RxFrame), s.rxReaches p.val f → hSrc (hdrNum f.bytes) = s.branchOf p.val * 256 + 0xFF →
    absI (f.t - tDyn s.rate) ≤ 48 → 1 ≤ minislots s.rate → p.val ∉ s.net.joinUsed → s.starCheck f false = none →
    leAt (framePayload f.bytes) 0 1 = 1 →
    exec (.joinReq p f) s =
      .next ((({ s with net := { s.net with joinUsed := p.val :: s.net.joinUsed } } : State).rxValid p.val).joinReq p.val f).startIso) ∧
  (∀ (s : State) (p : Fin 16) (f : RxFrame), s.rxReaches p.val f → hSrc (hdrNum f.bytes) % 256 = 0xFF →
    absI (f.t - tDyn s.rate) ≤ 48 → 1 ≤ minislots s.rate → (p.val ∈ s.net.joinUsed ∨ hSrc (hdrNum f.bytes) / 256 ≠ s.branchOf p.val) →
    exec (.uplinkFrameRejected p f) s =
      .next (s.cut p.val 4 0 1 (f.t - tDyn s.rate) (hSrc (hdrNum f.bytes)) none false).startIso)

/-- Messages in the dynamic segment (R144, R146, R164, R178, R409): each reaches what it answers. -/
def Obligations.UplinkMessages : Prop :=
  (∀ (s : State) (p : Fin 16) (f : RxFrame) (g : Nat × Nat × Nat × Nat) (o : NetOp), s.rxGranted p.val f g →
    leAt (framePayload f.bytes) 0 1 = 6 →
    (s.rxTaken p.val f g).net.ops.find? (fun o => (o.opc == 0x33 || o.opc == 0x34) && (o.addr == g.1 || o.nodes.contains g.1)) = some o →
    leAt (framePayload f.bytes) 2 2 % 256 = 3 →
    exec (.dataAck p f) s = .next ((s.rxTaken p.val f g).endOp o .authFail).startIso) ∧
  (∀ (s : State) (p : Fin 16) (f : RxFrame) (g : Nat × Nat × Nat × Nat) (e : Echo), s.rxGranted p.val f g →
    leAt (framePayload f.bytes) 0 1 = 8 → ((s.rxTaken p.val f g).node g.1).echoOut.find? (fun e => e.no % 65536 == leAt (framePayload f.bytes) 2 2) = some e →
    e.tail = false → ((s.rxTaken p.val f g).node g.1).echoAns < 7 → ∃ n : Node,
    exec (.echoRsp p f) s = .next ((s.rxTaken p.val f g).setNode g.1 n).startIso ∧
    n.echoOut = ((s.rxTaken p.val f g).node g.1).echoOut.erase e ∧
    n.echoAns = ((s.rxTaken p.val f g).node g.1).echoAns + 1 ∧ n.dlyT = ((s.rxTaken p.val f g).node g.1).dlyT ∧
    n.theta = divRnd (stampAt (framePayload f.bytes) 4 - e.t1) 4096 -
      divRnd (((((s.rxTaken p.val f g).bnd + f.t) * 65536 : Int) - e.t1) - (stampAt (framePayload f.bytes) 16 - stampAt (framePayload f.bytes) 4)) (2 * 4096) ∧
    n.tcorr = ((s.rxTaken p.val f g).node g.1).tcorr - n.theta) ∧
  (∀ (s : State) (p : Fin 16) (f : RxFrame) (g : Nat × Nat × Nat × Nat), s.rxGranted p.val f g → leAt (framePayload f.bytes) 0 1 = 0x0A →
    exec (.cartRsp p f) s = .next ((s.rxTaken p.val f g).cartMsg g.1 (leAt (framePayload f.bytes) 2 2) ((framePayload f.bytes).drop 4)).startIso) ∧
  (∀ (s : State) (p : Fin 16) (f : RxFrame) (g : Nat × Nat × Nat × Nat) (o : NetOp), s.rxGranted p.val f g →
    leAt (framePayload f.bytes) 0 1 = 0x0D → (s.rxTaken p.val f g).opOn 0x31 g.1 = some o →
    exec (.nodeInfo p f) s = .next (((s.rxTaken p.val f g).emit (.dma (op64 o.desc.op0 o.desc.op1)
      ((s.rxTaken p.val f g).nodeRecord g.1 ++ (framePayload f.bytes).drop 4))).endOp o .ok
        ((s.rxTaken p.val f g).nodeRecord g.1 ++ (framePayload f.bytes).drop 4).length).startIso) ∧
  (∀ (s : State) (p : Fin 16) (f : RxFrame) (g : Nat × Nat × Nat × Nat), s.rxGranted p.val f g → leAt (framePayload f.bytes) 0 1 = 0x0B →
    (Tab.get {} (s.rxTaken p.val f g).net.reasm (reasmKey g.1 (leAt (framePayload f.bytes) 1 1)) : Reasm) = {} →
    leAt (framePayload f.bytes) 2 2 % 64 = 0 →
    exec (.tunnelUpFragment p f) s = .next ((s.rxTaken p.val f g).setReasm (reasmKey g.1 (leAt (framePayload f.bytes) 1 1))
      { idx := 1, bytes := ((framePayload f.bytes).drop 4).take ((framePayload f.bytes).length - 4),
        start := (s.rxTaken p.val f g).cycle, active := true }).startIso) ∧
  (∀ (s : State) (p : Fin 16) (f : RxFrame), s.hears p.val f.bytes = true → (s.topo p.val = 2 ∨ s.topo p.val = 3) →
    s.ownFrame p.val f = true → hType (hdrNum f.bytes) = 1 →
    exec (.sailRingReturn p f) s = .next { s with net := { s.net with
      ringNow := s.ringHead p.val :: s.net.ringNow.erase (s.ringHead p.val) } })

/-- Commands on a member node (R127, R144, R145, R174, R178, R179): each records its operation and queues its message; registers,
rings and outputs stay. -/
def Obligations.NodeCommands : Prop :=
  (∀ (s : State) (src : Src) (d : Desc), s.accepts src 0x30 d → s.nodeStatus d.tgt = none → d.op0 = 1 → ∃ t : State,
    exec (.netBoom src d) s = .next t ∧ { src := src, opc := 0x30, desc := d, addr := d.tgt } ∈ t.net.ops ∧
    { addr := d.tgt, close := true, left := 3, cmd := true } ∈ Tab.get [] t.net.booms (d.tgt / 256) ∧ t.regs = s.regs ∧ t.host = s.host ∧ t.out = s.out) ∧
  (∀ (s : State) (src : Src) (d : Desc), s.accepts src 0x31 d → d.tgt < 0x1000 → reservedPos d.tgt = false →
    (s.node d.tgt).state ≠ 0 → ∃ t : State,
    exec (.netNodeQuery src d) s = .next t ∧
    { src := src, opc := 0x31, desc := d, addr := d.tgt, cyc0 := s.cycle, sent := true } ∈ t.net.ops ∧
    (∃ m ∈ t.net.dynQ, m.addr = d.tgt ∧ m.cls = 5) ∧ t.net.nodes = s.net.nodes ∧ t.regs = s.regs ∧ t.host = s.host ∧ t.out = s.out) ∧
  (∀ (s : State) (src : Src) (d : Desc), s.accepts src 0x32 d → s.nodeStatus d.tgt = none →
    exec (.netNodeReset src d) s = .next { s with net := { s.net with
      ops := s.net.ops ++ [{ src := src, opc := 0x32, desc := d, addr := d.tgt, left := 3 }] } }) ∧
  (∀ (s : State) (src : Src) (d : Desc) (l : List Byte), s.accepts src 0x33 d → s.nodeStatus d.tgt = none → d.op2 ≠ 0 →
    s.net.ops.any (fun o => (o.opc == 0x33 || o.opc == 0x34) && (o.addr == d.tgt || o.targets.contains d.tgt)) = false → l ≠ [] →
    ∃ t : State, exec (.netWorkerParam src d (some l)) s = .next t ∧ t.regs = s.regs ∧ t.host = s.host ∧ t.out = s.out ∧
      (∃ o ∈ t.net.ops, o.src = src ∧ o.desc = d ∧ o.addr = d.tgt ∧ o.data = slice l 0 (min d.op2.toNat l.length) ∧
        o.blocks.head? = some (0, 1, s.cycle, [d.tgt])) ∧ (∃ m ∈ t.net.dynQ, m.addr = d.tgt ∧ m.cls = 6)) ∧
  (∀ (s : State) (src : Src) (d : Desc) (l : List Byte), s.accepts src 0x34 d → s.nodeStatus d.tgt = none → d.tgt % 256 ≠ 0xFF → d.op2 ≠ 0 →
    s.net.ops.any (fun o => (o.opc == 0x33 || o.opc == 0x34) && (o.addr == d.tgt || o.targets.contains d.tgt)) = false → l ≠ [] →
    ∃ t : State, exec (.netWorkerFw src d (some l)) s = .next t ∧ t.regs = s.regs ∧ t.host = s.host ∧ t.out = s.out ∧
      (∃ o ∈ t.net.ops, o.src = src ∧ o.desc = d ∧ o.addr = d.tgt ∧ o.data = slice l 0 (min d.op2.toNat l.length) ∧
        o.blocks.head? = some (0, 1, s.cycle, [d.tgt])) ∧ (∃ m ∈ t.net.dynQ, m.addr = d.tgt ∧ m.cls = 6)) ∧
  (∀ (s : State) (src : Src) (d : Desc) (l : List Byte), s.accepts src 0xB0 d → s.nodeStatus d.tgt = none → 64 ≤ d.op2.toNat →
    d.op2.toNat ≤ 1518 → ∃ u : State, exec (.tunnelTx src d (some l)) s = .next (u.complete src 0xB0 d .ok) ∧ u.regs = s.regs ∧
      u.host = s.host ∧ u.out = s.out ∧ Tab.get 0 u.net.tunnelSeq d.tgt = (Tab.get 0 s.net.tunnelSeq d.tgt + 1) % 256 ∧
      u.net.dynQ = s.net.dynQ ++ (tunnelFrags 17 0 (slice l 0 d.op2.toNat)).map (fun fr =>
        { cls := 7, addr := d.tgt, tail := (s.node d.tgt).tail,
          body := dynBody 0x0B (Tab.get 0 s.net.tunnelSeq d.tgt) (fr.1 + (if fr.2.1 then 32 else 0) + 64 * fr.2.2.1)
            (fr.2.2.2 ++ List.replicate fr.2.2.1 0) }))

/-- Node commands that are turned away (R10, R144, R145, R174): a reserved position, a node that is no member, a wrong operand, a
failed read of host memory. -/
def Obligations.NodeCommandsRefused : Prop :=
  (∀ (s : State) (src : Src) (d : Desc), s.accepts src 0x30 d → d.tgt < 0x1000 → 25 ≤ d.tgt % 256 → d.tgt % 256 ≤ 254 →
    exec (.netBoom src d) s = .next (s.complete src 0x30 d .reservedPosition)) ∧
  (∀ (s : State) (src : Src) (d : Desc), s.accepts src 0x31 d → d.tgt < 0x1000 → d.tgt % 256 ≤ 24 → (s.node d.tgt).state = 0 →
    exec (.netNodeQuery src d) s = .next (s.complete src 0x31 d .badTarget)) ∧
  (∀ (s : State) (src : Src) (d : Desc), s.accepts src 0x30 d → s.nodeStatus d.tgt = none → 1 < d.op0.toNat →
    exec (.netBoom src d) s = .next (s.complete src 0x30 d .badOperand)) ∧
  (∀ (s : State) (src : Src) (d : Desc) (l : Option (List Byte)), s.accepts src 0xB0 d → s.nodeStatus d.tgt = none → 1518 < d.op2.toNat →
    exec (.tunnelTx src d l) s = .next (s.complete src 0xB0 d .badOperand)) ∧
  (∀ (s : State) (src : Src) (d : Desc), s.accepts src 0x33 d → s.nodeStatus d.tgt = none → d.op2 ≠ 0 →
    s.net.ops.any (fun o => (o.opc == 0x33 || o.opc == 0x34) && (o.addr == d.tgt || o.targets.contains d.tgt)) = false →
    exec (.netWorkerParam src d none) s = .next (s.complete src 0x33 d .dmaFail))

/-- Timed events of the network (R103, R106, R144, R146, R161, R163, R164, R174, R178, R179): what each does once its time has come. -/
def Obligations.NodeTimers : Prop :=
  (∀ (s : State) (a : Fin 4096), s.flag (grd (a.val / 256)) 1 = true → 16 ≤ (s.node a.val).admitted → (s.node a.val).allOk = true →
    (s.node a.val).autoOpened = false → (s.node a.val).state = 2 →
    exec (.autoJoinBoomOpen a) s = .next ((s.setNode a.val { s.node a.val with autoOpened := true }).queueBoom a.val false false)) ∧
  (∀ (s : State) (a : Fin 4096), s.absent16 (s.node a.val) = true → (s.node a.val).state = 2 → s.opOn 0x32 a.val = none →
    exec (.nodeAbsent a) s = .next (((s.setNode a.val { s.node a.val with state := 3 }).raise 57 a.val).countNodes (a.val / 256))) ∧
  (∀ (s : State) (a : Fin 4096) (x : Nat × Reasm),
    s.net.reasm.filter (fun e => e.1 / 256 == a.val && e.2.active && decide (64 ≤ (s.cycle - e.2.start).toNat)) = [x] →
    exec (.tunnelReassemblyTimeout a) s = .next ((s.setReasm x.1 { dead := true }).incFld (rStat 30) 31 16 1)) ∧
  (∀ (s : State) (a : Fin 4096) (o : NetOp) (b : Nat × Nat × BitVec 32 × List Nat),
    s.net.ops.find? (fun o => (o.opc == 0x33 || o.opc == 0x34) && (o.addr == a.val || o.nodes.contains a.val)) = some o →
    o.blocks.find? (fun b => decide (16 ≤ (s.cycle - b.2.2.1).toNat)) = some b → 8 ≤ b.2.1 →
    exec (.transferBlockResend a) s = .next (s.endOp o .timeout)) ∧
  (∀ (s : State) (a : Fin 4096), (s.node a.val).state = 2 → s.topo (a.val / 256) ≠ 1 →
    exec (.echoSchedule a) s = .next ((s.setNode a.val { s.node a.val with echoNo := ((s.node a.val).echoNo + 1) % 65536 }).queueDyn
      { cls := 3, addr := a.val, tail := (s.node a.val).tail,
        body := leBytes 2 (s.node a.val).echoNo ++ leBytes 1 (Config.freeBelow 255 s.free) }).draw) ∧
  (∀ (s : State) (a : Fin 4096) (o : NetOp), s.opOn 0x30 a.val = some o → o.sent = true → 10 < (s.cycle - o.cyc0).toNat →
    exec (.netBoomTimeout a) s = .next (s.endOp o .timeout)) ∧
  (∀ (s : State) (a : Fin 4096) (o : NetOp), s.opOn 0x32 a.val = some o → o.left = 0 → 64 ≤ (s.cycle - o.cyc0).toNat →
    s.absent16 (s.node a.val) = false → exec (.nodeResetTimeout a) s = .next (s.endOp o .timeout)) ∧
  (∀ (s : State) (a : Fin 4096) (o : NetOp), s.opOn 0x31 a.val = some o → 64 ≤ (s.cycle - o.cyc0).toNat →
    exec (.nodeQueryTimeout a) s =
      .next ((s.emit (.dma (op64 o.desc.op0 o.desc.op1) (s.nodeRecord a.val))).endOp o .timeout 64)) ∧
  (∀ (s : State) (p : Fin 16) (pins : BitVec 3), s.fld (pStat p.val) 1 0 = 0 → ∃ u : State,
    u = { s with net := { s.net with sfp := Tab.set 1 s.net.sfp p.val pins.toNat } } ∧
    exec (.portSyncChange p true pins) s =
      .next ((u.setFld (pStat p.val) 1 0 (if Tab.get 16 s.net.linkAge p.val < 16 then 2 else 1)).raise (40 + p.val) 0)) ∧
  (∀ (s : State) (p : Fin 16) (pins : BitVec 3), s.fld (pStat p.val) 1 0 ≠ 0 → ∃ u : State,
    u = { s with net := { s.net with sfp := Tab.set 1 s.net.sfp p.val pins.toNat } } ∧
    exec (.portSyncChange p false pins) s = .next ((u.setFld (pStat p.val) 1 0 0).raise (40 + p.val) 0))

/-- The downlink (R29, R125, R128, R130, R131, R140): SAIL content frozen for the next cycle; a berth frame with node block and axis
records in its berth; one queued message in the dynamic segment. -/
def Obligations.Downlink : Prop :=
  (∀ (s : State), ∃ t : State, exec .sailFreeze s = .next t ∧ t.net.frozen = true ∧ t.net.sail.cycle = s.cycle + 1 ∧
    t.net.sail.ntime = s.nextNtime ∧ t.net.nodes = s.net.nodes ∧ t.cycle = s.cycle ∧ t.bnd = s.bnd) ∧
  (∀ (s : State) (a : Fin 4096), (s.node a.val).state = 2 → (s.node a.val).dnb ≠ 255 → nodeNax (s.node a.val) ≠ 0 →
    s.net.stopped = [] → s.net.tailHeld = [] → s.pilot.switched = false → ∃ pl : List Byte,
    exec (.downlinkBerthSend a false) s = .next ((s.setNode a.val { s.node a.val with oldWake := none, tcorr := 0, ncmd := 0 }).sendFrame
      (s.portOf (a.val / 256) (s.node a.val).tail) (berthStart (s.node a.val).dnb + berthLag s.bnd)
      (frameBytes (headerBytes 3 (a.val / 256 * 256) a.val (pl.length / 4) (min 4 (nodeNax (s.node a.val)))
        (if (s.node a.val).dwake then s.cycle - 1 else s.cycle).toNat (s.node a.val).dnb (b2n (s.node a.val).tail) 0 s.mgrId) pl)) ∧
    pl.take 4 = leBytes 4 (divRnd (s.node a.val).tcorr 1 % 2 ^ 32).toNat ∧
    (pl.drop 4).take 2 = leBytes 2 (s.nodeVchop a.val)) ∧
  (∀ (s : State) (b : Fin 16) (m : DynMsg), s.flag TIME_STAT 1 = true → s.net.dynQ = [m] → m.addr / 256 = b.val → m.cls ≠ 3 → s.net.stopped = [] →
    (16 + m.body.length) * 8 ≤ minislots s.rate * 128 →
    exec (.dynSegmentDownlink b) s = .next ((({ s with net := { s.net with dynQ := [] } } : State).sendFrame (s.portOf b.val m.tail)
      (tDyn s.rate + berthLag s.bnd)
      (frameBytes (headerBytes 9 (b.val * 256) m.addr (m.body.length / 4) 0 s.cycle.toNat 0 (b2n m.tail) 0 s.mgrId) m.body)).expectAnswers m))

/-- Network time (R14, R149 to R151, R154): the PPS input, a step and a slew, the PPS output, and the start of the network. -/
def Obligations.NetworkTime : Prop :=
  (∀ (s : State) (x : BitVec 64), s.flag TIME_CFG 0 = true → s.tim.setCmd = none → ∃ t : State,
    exec (.ppsInEdge x) s = .next t ∧ t.rg (TIME_B + 0x18) = ofNat x.toNat ∧ t.rg (TIME_B + 0x1C) = ofNat (x.toNat / 2 ^ 32) ∧
    t.flag TIME_STAT 2 = true ∧ t.flag TIME_STAT 4 = false ∧ t.net = s.net) ∧
  (∀ (s : State) (x : BitVec 64), s.flag TIME_CFG 0 = false → exec (.ppsInEdge x) s = .next (s.setFlag TIME_STAT 2)) ∧
  (∀ (s : State), s.flag TIME_CFG 0 = true → s.flag TIME_STAT 2 = true → ∃ t : State, exec .ppsTimeout s = .next t ∧
    t.flag TIME_STAT 2 = false ∧ t.flag TIME_STAT 3 = false ∧ t.flag TIME_STAT 4 = true ∧ t.net = s.net) ∧
  (∀ (s : State), s.flag TIME_STAT 4 = true →
    exec .holdoverExpiry s = .next (({ s with tim := { s.tim with holdOn := false } } : State).putFlag TIME_STAT 6 (s.flag TIME_STAT 3))) ∧
  (∀ (s : State) (k : Int), s.tim.step = some (0, k, 0) → s.tim.setCmd = none →
    exec .timeStep s = .next { ((({ s with bnd := (s.bnd + k * s.tCyc).toNat, ntime := (s.ntime + k * s.tCyc).toNat } : State).setFlag
      TIME_FLAGS 2).raise 35 0x40000) with tim := { s.tim with step := none, slew := 0, inBand := 0 } }) ∧
  (∀ (s : State) (src : Src) (d : Desc), s.tim.setCmd = some (src, d) → s.tim.step = none →
    exec .timeSetTimeout s = .next (({ s with tim := { s.tim with setCmd := none } } : State).complete src 0x36 d .timeout)) ∧
  (∀ (s : State), exec .slewEnd s = .next (({ s with tim := { s.tim with slew := 0 } } : State).clrFlag TIME_STAT 5)) ∧
  (∀ (s : State), s.flag TIME_CFG 2 = true → s.tim.ppsOut = false →
    exec (.ppsOutPulse true) s = .next (({ s with tim := { s.tim with ppsOut := true } } : State).emit (.pin 1 0 1))) ∧
  (∀ (s : State) (src : Src) (d : Desc), s.accepts src 0x36 d → s.flag TIME_CFG 0 = true → s.tim.setCmd = none →
    exec (.timeSet src d) s = .next { s with tim := { s.tim with setCmd := some (src, d) } }) ∧
  (∀ (s : State), s.mayStart = true → s.flag TIME_STAT 1 = false → s.flag TIME_STAT 6 = false → ∃ t : State,
    exec .networkStart s = .next t ∧ t.cycle = 0 ∧ t.ntime = 0 ∧ t.bnd = 0 ∧ t.flag TIME_STAT 1 = true)

/-- Lane instructions with a data result (R221, Table 6.7): the result, the carry, and nothing else besides the moves and the sequencing. -/
def Obligations.LaneDataInstructions : Prop :=
  (∀ (s : State) (l : Fin 16) (w : LaneWord), s.laneAt l.val 0x03 w → 
    exec (.laneLdk l w) s = .next (s.laneData l.val 0x03 w (BitVec.ofNat 32 (w.xm.toNat * 65536 + w.ym.toNat)))) ∧
  (∀ (s : State) (l : Fin 16) (w : LaneWord), s.laneAt l.val 0x10 w → 
    exec (.laneAdd l w) s = .next (s.setLane l.val { (s.lanePast l.val 0x10 w).setD w.dst.toNat (ofNat ((s.opA l.val w).toNat + (s.opB l.val w).toNat)) with
      carry := decide (2 ^ 32 ≤ (s.opA l.val w).toNat + (s.opB l.val w).toNat) })) ∧
  (∀ (s : State) (l : Fin 16) (w : LaneWord), s.laneAt l.val 0x11 w → 
    exec (.laneAddc l w) s = .next (s.setLane l.val { (s.lanePast l.val 0x11 w).setD w.dst.toNat (ofNat ((s.opA l.val w).toNat + (s.opB l.val w).toNat + (if (s.lane l.val).carry then 1 else 0))) with
      carry := decide (2 ^ 32 ≤ (s.opA l.val w).toNat + (s.opB l.val w).toNat + (if (s.lane l.val).carry then 1 else 0)) })) ∧
  (∀ (s : State) (l : Fin 16) (w : LaneWord), s.laneAt l.val 0x12 w → 
    exec (.laneSub l w) s = .next (s.setLane l.val { (s.lanePast l.val 0x12 w).setD w.dst.toNat (ofNat ((s.opA l.val w).toNat + (~~~ s.opB l.val w).toNat + 1)) with
      carry := decide (2 ^ 32 ≤ (s.opA l.val w).toNat + (~~~ s.opB l.val w).toNat + 1) })) ∧
  (∀ (s : State) (l : Fin 16) (w : LaneWord), s.laneAt l.val 0x13 w → 
    exec (.laneSubc l w) s = .next (s.setLane l.val { (s.lanePast l.val 0x13 w).setD w.dst.toNat (ofNat ((s.opA l.val w).toNat + (~~~ s.opB l.val w).toNat + (if (s.lane l.val).carry then 1 else 0))) with
      carry := decide (2 ^ 32 ≤ (s.opA l.val w).toNat + (~~~ s.opB l.val w).toNat + (if (s.lane l.val).carry then 1 else 0)) })) ∧
  (∀ (s : State) (l : Fin 16) (w : LaneWord), s.laneAt l.val 0x18 w → 
    exec (.laneMin l w) s = .next (s.laneData l.val 0x18 w (if (s.opA l.val w).toInt ≤ (s.opB l.val w).toInt then s.opA l.val w else s.opB l.val w))) ∧
  (∀ (s : State) (l : Fin 16) (w : LaneWord), s.laneAt l.val 0x19 w → 
    exec (.laneMax l w) s = .next (s.laneData l.val 0x19 w (if (s.opA l.val w).toInt ≤ (s.opB l.val w).toInt then s.opB l.val w else s.opA l.val w))) ∧
  (∀ (s : State) (l : Fin 16) (w : LaneWord), s.laneAt l.val 0x1A w → 
    exec (.laneClamp l w) s = .next (s.laneData l.val 0x1A w (ofInt (min (max (s.opA l.val w).toInt (-((s.opB l.val w).toInt.natAbs : Int))) ((s.opB l.val w).toInt.natAbs : Int))))) ∧
  (∀ (s : State) (l : Fin 16) (w : LaneWord), s.laneAt l.val 0x1B w → 
    exec (.laneClamp2 l w) s = .next (s.laneData l.val 0x1B w (ofInt (min (max (s.opA l.val w).toInt (s.opB l.val w).toInt) ((s.lane l.val).src w.dst).toInt)))) ∧
  (∀ (s : State) (l : Fin 16) (w : LaneWord), s.laneAt l.val 0x1C w → 
    exec (.laneSel l w) s = .next (s.laneData l.val 0x1C w (if ((s.lane l.val).src (BitVec.ofNat 4 w.imm.toNat)).getLsbD 31 then s.opB l.val w else s.opA l.val w))) ∧
  (∀ (s : State) (l : Fin 16) (w : LaneWord), s.laneAt l.val 0x1F w → 
    exec (.laneAsr l w) s = .next (s.laneData l.val 0x1F w (ofInt ((s.opA l.val w).toInt / 2 ^ (w.imm.toNat % 32))))) ∧
  (∀ (s : State) (l : Fin 16) (w : LaneWord), s.laneAt l.val 0x20 w → 
    exec (.laneLsr l w) s = .next (s.laneData l.val 0x20 w (ofNat ((s.opA l.val w).toNat / 2 ^ (w.imm.toNat % 32))))) ∧
  (∀ (s : State) (l : Fin 16) (w : LaneWord), s.laneAt l.val 0x21 w → 
    exec (.laneAnd l w) s = .next (s.laneData l.val 0x21 w (s.opA l.val w &&& s.opB l.val w))) ∧
  (∀ (s : State) (l : Fin 16) (w : LaneWord), s.laneAt l.val 0x22 w → 
    exec (.laneOr l w) s = .next (s.laneData l.val 0x22 w (s.opA l.val w ||| s.opB l.val w))) ∧
  (∀ (s : State) (l : Fin 16) (w : LaneWord), s.laneAt l.val 0x23 w → 
    exec (.laneXor l w) s = .next (s.laneData l.val 0x23 w (s.opA l.val w ^^^ s.opB l.val w))) ∧
  (∀ (s : State) (l : Fin 16) (w : LaneWord), s.laneAt l.val 0x25 w → ((s.lane l.val).gen 7).l ≠ 0 →
    exec (.laneLdix l w) s = .next (s.laneData l.val 0x25 w ((s.lane l.val).readY (
      (((s.lane l.val).gen 7).b + (s.opA l.val w).toNat / 2 ^ (w.imm.toNat % 32) % ((s.lane l.val).gen 7).l) % 16384)))) ∧
  (∀ (s : State) (l : Fin 16) (w : LaneWord), s.laneAt l.val 0x25 w → ((s.lane l.val).gen 7).l = 0 → ∃ v : Word,
    exec (.laneLdix l w) s = .next (s.laneData l.val 0x25 w v))

/-- Saturating lane instructions (R221, R222, R223, R228): the result at its nearest limit, the flags and the count of a saturation. -/
def Obligations.LaneSaturatingInstructions : Prop :=
  (∀ (s : State) (l : Fin 16) (w : LaneWord), s.laneAt l.val 0x14 w → 
    exec (.laneAdds l w) s = .next (s.laneSat l.val 0x14 w ((s.opA l.val w).toInt + (s.opB l.val w).toInt))) ∧
  (∀ (s : State) (l : Fin 16) (w : LaneWord), s.laneAt l.val 0x15 w → 
    exec (.laneSubs l w) s = .next (s.laneSat l.val 0x15 w ((s.opA l.val w).toInt - (s.opB l.val w).toInt))) ∧
  (∀ (s : State) (l : Fin 16) (w : LaneWord), s.laneAt l.val 0x16 w → 
    exec (.laneNegs l w) s = .next (s.laneSat l.val 0x16 w (-(s.opA l.val w).toInt))) ∧
  (∀ (s : State) (l : Fin 16) (w : LaneWord), s.laneAt l.val 0x17 w → 
    exec (.laneAbss l w) s = .next (s.laneSat l.val 0x17 w (((s.opA l.val w).toInt.natAbs : Int)))) ∧
  (∀ (s : State) (l : Fin 16) (w : LaneWord), s.laneAt l.val 0x1D w → 
    exec (.laneBlend l w) s = .next (s.laneSat l.val 0x1D w (shrRnd ((s.opA l.val w).toInt * 2 ^ 31 + ((s.opB l.val w).toInt - (s.opA l.val w).toInt) * ((s.lane l.val).src (BitVec.ofNat 4 w.imm.toNat)).toInt) 31))) ∧
  (∀ (s : State) (l : Fin 16) (w : LaneWord), s.laneAt l.val 0x1E w → 
    exec (.laneAsl l w) s = .next (s.laneSat l.val 0x1E w ((s.opA l.val w).toInt * 2 ^ (w.imm.toNat % 32)))) ∧
  (∀ (s : State) (l : Fin 16) (w : LaneWord), s.laneAt l.val 0x37 w → 
    exec (.laneSta l w) s = .next (s.laneSat l.val 0x37 w (shrRnd (Tab.get 0 (s.lane l.val).accOld (w.sa.toNat % 4)) (w.imm.toNat % 64))))

/-- Accumulator instructions of the lanes (R221, R223, R224, R228): exact products, saturation at 80 bits and its flags, one tap of a filter. -/
def Obligations.LaneAccumulatorInstructions : Prop :=
  (∀ (s : State) (l : Fin 16) (w : LaneWord), s.laneAt l.val 0x30 w → 
    exec (.laneMpy l w) s = .next (s.laneAcc l.val 0x30 w ((s.opA l.val w).toInt * (s.opB l.val w).toInt))) ∧
  (∀ (s : State) (l : Fin 16) (w : LaneWord), s.laneAt l.val 0x31 w → 
    exec (.laneMac l w) s = .next (s.laneAcc l.val 0x31 w ((s.lane l.val).accu (w.dst.toNat % 4) + (s.opA l.val w).toInt * (s.opB l.val w).toInt))) ∧
  (∀ (s : State) (l : Fin 16) (w : LaneWord), s.laneAt l.val 0x32 w → 
    exec (.laneMsu l w) s = .next (s.laneAcc l.val 0x32 w ((s.lane l.val).accu (w.dst.toNat % 4) - (s.opA l.val w).toInt * (s.opB l.val w).toInt))) ∧
  (∀ (s : State) (l : Fin 16) (w : LaneWord), s.laneAt l.val 0x36 w → 
    exec (.laneLda l w) s = .next (s.setLane l.val ((s.lanePast l.val 0x36 w).setAcc (w.dst.toNat % 4)
      (max (-(2 ^ 79)) (min (2 ^ 79 - 1) ((s.opA l.val w).toInt * 2 ^ (w.imm.toNat % 64))))))) ∧
  (∀ (s : State) (l : Fin 16) (w : LaneWord), s.laneAt l.val 0x38 w → 
    exec (.laneAclr l w) s = .next (s.setLane l.val ((s.lanePast l.val 0x38 w).setAcc (w.dst.toNat % 4) 0))) ∧
  (∀ (s : State) (l : Fin 16) (w : LaneWord), s.laneAt l.val 0x39 w → 
    exec (.laneAadd l w) s = .next (s.laneAcc l.val 0x39 w ((s.lane l.val).accu (w.dst.toNat % 4) + Tab.get 0 (s.lane l.val).accOld (w.sa.toNat % 4)))) ∧
  (∀ (s : State) (l : Fin 16) (w : LaneWord), s.laneAt l.val 0x33 w → 
    exec (.laneDmpy l w) s = .next (s.setLane l.val (((s.lanePast l.val 0x33 w).setAcc (w.dst.toNat % 4) ((s.opA l.val w).toInt * (s.opB l.val w).toInt)).setAcc ((w.dst ^^^ 1).toNat % 4)
      (((s.lane l.val).src (w.sa ^^^ 1)).toInt * ((s.lane l.val).src (w.sb ^^^ 1)).toInt)))) ∧
  (∀ (s : State) (l : Fin 16) (w : LaneWord), s.laneAt l.val 0x34 w →
    -(2 ^ 79) ≤ (s.lane l.val).accu (w.dst.toNat % 4) + (s.opA l.val w).toInt * (s.opB l.val w).toInt → (s.lane l.val).accu (w.dst.toNat % 4) + (s.opA l.val w).toInt * (s.opB l.val w).toInt ≤ 2 ^ 79 - 1 →
    -(2 ^ 79) ≤ (s.lane l.val).accu ((w.dst ^^^ 1).toNat % 4) + ((s.lane l.val).src (w.sa ^^^ 1)).toInt * ((s.lane l.val).src (w.sb ^^^ 1)).toInt →
    (s.lane l.val).accu ((w.dst ^^^ 1).toNat % 4) + ((s.lane l.val).src (w.sa ^^^ 1)).toInt * ((s.lane l.val).src (w.sb ^^^ 1)).toInt ≤ 2 ^ 79 - 1 →
    exec (.laneDmac l w) s = .next (s.setLane l.val (((s.lanePast l.val 0x34 w).setAcc (w.dst.toNat % 4) ((s.lane l.val).accu (w.dst.toNat % 4) + (s.opA l.val w).toInt * (s.opB l.val w).toInt)).setAcc
      ((w.dst ^^^ 1).toNat % 4) ((s.lane l.val).accu ((w.dst ^^^ 1).toNat % 4) +
        ((s.lane l.val).src (w.sa ^^^ 1)).toInt * ((s.lane l.val).src (w.sb ^^^ 1)).toInt)))) ∧
  (∀ (s : State) (l : Fin 16) (w : LaneWord), s.laneAt l.val 0x35 w →
    -(2 ^ 79) ≤ (s.lane l.val).accu (w.dst.toNat % 4) + ((s.lane l.val).readX (((s.lane l.val).gen (w.imm.toNat % 4)).ea 0)).toInt *
      ((s.lane l.val).readY (((s.lane l.val).gen (4 + w.imm.toNat / 4 % 4)).ea 0)).toInt →
    (s.lane l.val).accu (w.dst.toNat % 4) + ((s.lane l.val).readX (((s.lane l.val).gen (w.imm.toNat % 4)).ea 0)).toInt *
      ((s.lane l.val).readY (((s.lane l.val).gen (4 + w.imm.toNat / 4 % 4)).ea 0)).toInt ≤ 2 ^ 79 - 1 →
    exec (.laneFtap l w) s = .next (s.setLane l.val ((((s.lanePast l.val 0x35 w).wrY (((s.lane l.val).gen (4 + w.imm.toNat / 4 % 4)).ea 1)
      ((s.lane l.val).readY (((s.lane l.val).gen (4 + w.imm.toNat / 4 % 4)).ea 0))).setGen (w.imm.toNat % 4)
        (((s.lane l.val).gen (w.imm.toNat % 4)).upd 1) |>.setGen (4 + w.imm.toNat / 4 % 4)
        (((s.lane l.val).gen (4 + w.imm.toNat / 4 % 4)).upd 3)).setAcc (w.dst.toNat % 4)
        ((s.lane l.val).accu (w.dst.toNat % 4) + ((s.lane l.val).readX (((s.lane l.val).gen (w.imm.toNat % 4)).ea 0)).toInt *
          ((s.lane l.val).readY (((s.lane l.val).gen (4 + w.imm.toNat / 4 % 4)).ea 0)).toInt))))

/-- Sequencing, address generators, flags and the learning and life memories in lane instructions (R221, R225, R226, R227). -/
def Obligations.LaneControlInstructions : Prop :=
  (∀ (s : State) (l : Fin 16) (w : LaneWord), s.laneAt l.val 0x00 w → 
    exec (.laneNop l w) s = .next (s.setLane l.val (s.lanePast l.val 0x00 w))) ∧
  (∀ (s : State) (l : Fin 16) (w : LaneWord), s.laneAt l.val 0x01 w → 
    exec (.laneEnd l w) s = .next ((s.setLane l.val (s.lanePast l.val 0x01 w)).runSecs l.val (s.lane l.val).axis (s.lane l.val).miss (s.lane l.val).secs)) ∧
  (∀ (s : State) (l : Fin 16) (w : LaneWord), s.laneAt l.val 0x02 w → 
    exec (.laneRep l w) s = .next (s.setLane l.val { s.lanePast l.val 0x02 w with
      pc := (s.lane l.val).pc + 1,
      rep := { first := (s.lane l.val).pc + 1, last := (s.lane l.val).pc + (w.dst.toNat * 64 + w.sa.toNat * 4 + w.sb.toNat / 4 + 1),
               left := w.imm.toNat } :: (s.lane l.val).rep })) ∧
  (∀ (s : State) (l : Fin 16) (w : LaneWord), s.laneAt l.val 0x04 w → 
    exec (.laneAgp l w) s = .next (s.setLane l.val ((s.lanePast l.val 0x04 w).setGen w.dst.toNat { (s.lane l.val).gen w.dst.toNat with
      p := (w.imm.toNat % 2048 + (if w.imm.getLsbD 11 then (s.lane l.val).base else 0)) % 16384 }))) ∧
  (∀ (s : State) (l : Fin 16) (w : LaneWord), s.laneAt l.val 0x05 w → 
    exec (.laneAgm l w) s = .next (s.setLane l.val ((s.lanePast l.val 0x05 w).setGen w.dst.toNat { (s.lanePast l.val 0x05 w).gen w.dst.toNat with
      l := ((s.lane l.val).gen w.dst.toNat).l, b := ((s.lane l.val).gen w.dst.toNat).b, m := w.imm.toInt }))) ∧
  (∀ (s : State) (l : Fin 16) (w : LaneWord), s.laneAt l.val 0x06 w → 
    exec (.laneAgl l w) s = .next (s.setLane l.val ((s.lanePast l.val 0x06 w).setGen w.dst.toNat { (s.lanePast l.val 0x06 w).gen w.dst.toNat with
      m := ((s.lane l.val).gen w.dst.toNat).m, l := w.imm.toNat, b := ((s.lane l.val).gen w.dst.toNat).p }))) ∧
  (∀ (s : State) (l : Fin 16) (w : LaneWord), s.laneAt l.val 0x07 w → 
    exec (.laneAgr l w) s = .next (s.setLane l.val ((s.lanePast l.val 0x07 w).setGen w.dst.toNat (((s.lane l.val).gen w.dst.toNat).to ((s.opA l.val w).toNat % 16384 : Nat))))) ∧
  (∀ (s : State) (l : Fin 16) (w : LaneWord), s.laneAt l.val 0x24 w → 
    exec (.laneFlagc l w) s = .next (if s.opA l.val w = 0 then s.setLane l.val (s.lanePast l.val 0x24 w)
      else (s.setLane l.val (s.lanePast l.val 0x24 w)).mflag (s.lane l.val).axis (w.imm.toNat % 8))) ∧
  (∀ (s : State) (l : Fin 16) (w : LaneWord), s.laneAt l.val 0x3C w → (s.lane l.val).lwrAt = none →
    exec (.laneLrd l w) s = .next (s.setLane l.val { s.lanePast l.val 0x3C w with
      lrd := (s.lanePast l.val 0x3C w).lrd ++ [((s.lane l.val).ran + 23, w.dst.toNat, ofInt (s.rdBin (s.lane l.val).axis (s.opA l.val w).toNat))] })) ∧
  (∀ (s : State) (l : Fin 16) (w : LaneWord), s.laneAt l.val 0x3D w → 
    exec (.laneLwr l w) s = .next (((s.setLane l.val (s.lanePast l.val 0x3D w)).wrBin (s.lane l.val).axis (s.opA l.val w).toNat
      (s.opB l.val w).toInt).setLane l.val { s.lanePast l.val 0x3D w with
        lwrAt := ((s.setLane l.val (s.lanePast l.val 0x3D w)).learnBin (s.lane l.val).axis (s.opA l.val w).toNat).map (fun i =>
          ((s.lane l.val).ran, i)) })) ∧
  (∀ (s : State) (l : Fin 16) (w : LaneWord), s.laneAt l.val 0x3E w → 
    exec (.laneLife l w) s = .next ((s.setLane l.val (s.lanePast l.val 0x3E w)).addLife (s.lane l.val).axis (w.imm.toNat % 8) (s.opA l.val w).toNat))

/-- Passes (R28, R30, R31, R225, R231 to R236): a pass that may start takes its lane, its slot's generators and its section list, with the
memory errors that its reads find; a pass that ends frees the lane and lets the held writes go on. -/
def Obligations.Passes : Prop :=
  (∀ (s : State) (l : Fin 16) (a : Fin 256) (t : Int) (e : List LaneErr) (p : PlanAxis), s.planAxis a.val = some p →
    (s.axis a.val).stay = none → p.lane = l.val → (s.lane l.val).busy = false → (s.passCycle a.val t).toNat % p.div = p.phase →
    (s.axis a.val).startedFor ≠ some (s.passCycle a.val t) → (s.fb a.val).arrivedAt = some (s.passCycle a.val t) →
    s.orderOk p (s.passCycle a.val t) = true → p.axis = a.val → s.net.tailHeld = [] → ∃ (u : State) (q : List Nat),
    exec (.passStart l a t e) s = .next ((u.setLane l.val ((u.lane l.val).carryOver q)).runSecs l.val a.val false q) ∧
    q = u.sections (u.entryList (u.pn a.val 0x40) (u.mode a.val)) ∧
    (u.lane l.val).busy = true ∧ (u.lane l.val).axis = a.val ∧ (u.lane l.val).pcyc = s.passCycle a.val t ∧ (u.lane l.val).ran = 0 ∧
    (u.lane l.val).mcyc = p.mcyc ∧ (u.lane l.val).miss = false ∧ (u.lane l.val).ecc = e.any (fun x => x.fatal) ∧
    ((u.lane l.val).gen 0).p = ((s.place a.val).map (fun q => q.2)).getD 0 ∧ ((u.lane l.val).gen 0).l = 0 ∧
    (u.axis a.val).startedFor = some (s.passCycle a.val t)) ∧
  (∀ (s : State) (l : Fin 16) (a : Fin 256) (t : Int) (e : List LaneErr) (p : PlanAxis), s.planAxis a.val = some p →
    (s.axis a.val).stay = none → p.lane = l.val → (s.lane l.val).busy = false → (s.passCycle a.val t).toNat % p.div = p.phase →
    (s.axis a.val).startedFor ≠ some (s.passCycle a.val t) → (s.fb a.val).arrivedAt ≠ some (s.passCycle a.val t) →
    (p.start : Int) ≤ t * 2500 → s.orderOk p (s.passCycle a.val t) = true → p.axis = a.val → s.net.tailHeld = [] →
    ∃ (u : State) (q : List Nat),
    exec (.passStartMissing l a t e) s = .next ((u.setLane l.val ((u.lane l.val).carryOver q)).runSecs l.val a.val true q) ∧
    q = u.sections (u.entryList (u.pn a.val 0x40) (u.mode a.val + 8)) ∧ (u.lane l.val).busy = true ∧ (u.lane l.val).miss = true ∧
    (u.axis a.val).startedFor = some (s.passCycle a.val t)) ∧
  (∀ (s : State) (l : Fin 16) (a : Fin 256) (t : Int) (e : List LaneErr), s.planAxis a.val = none →
    exec (.passStart l a t e) s = .next s) ∧
  (∀ (s : State) (l : Fin 16), (s.lane l.val).busy = true → ∃ u : State,
    exec (.passEnd l) s =
      .next (((u.flagsToNew (s.lane l.val).axis).endStay (s.lane l.val).axis).flushWrites (s.lane l.val).axis) ∧
    (u.lane l.val).busy = false ∧ (u.lane l.val).fetching = false ∧ u.flag (laneReg l.val 0) 1 = false ∧
    ((s.lane l.val).fetching = true ∨ (s.lane l.val).late = true → u.flag (laneReg l.val 4) 1 = true)) ∧
  (∀ (s : State) (l : Fin 16), (s.lane l.val).busy = false → exec (.passEnd l) s = .next s)

/-- Planning (R69, R192 to R197, R199, R203, R204): PREPARE, COMMIT, ABORT and REPORT, and the steps of a migration. -/
def Obligations.PlanCommands : Prop :=
  (∀ (s : State) (src : Src) (d : Desc), s.accepts src 0x20 d → (s.planState = 0 ∨ s.planState = 3) →
    s.boot.pdJobs.any (fun j => j.2.tgt ≤ 1) = false → (∀ x ∈ s.host.planUsed ++ s.host.plan, x.seq < s.host.planSeq) → ∃ t : State,
    exec (.planPrepare src d) s = .next t ∧ t.planState = 1 ∧ t.host.planUsed = s.host.planUsed ++ s.host.plan ∧ t.host.plan = [] ∧
    t.pilot.cmd = some (src, d) ∧ t.pilot.snapWait = true ∧ t.pilot.new = none ∧ t.pilot.act = s.pilot.act ∧ t.host.cyc = s.host.cyc ∧ t.out = s.out) ∧
  (∀ (s : State) (src : Src) (d : Desc), s.accepts src 0x20 d → (s.planState = 1 ∨ s.planState = 2 ∨ s.planState = 4) →
    exec (.planPrepare src d) s = .next (s.complete src 0x20 d .busy)) ∧
  (∀ (s : State) (src : Src) (d : Desc) (p : Plan), s.precheck src 0x21 d = none → s.planState = 3 → d.atCycle = true →
    16 ≤ (d.op5 - s.cycle).toNat → (d.op5 - s.cycle).toNat < 2 ^ 31 → s.pilot.new = some p → d.op0.toNat = p.id → s.rateOk d.op5 p.rate = true →
    exec (.planCommit src d) s = .next ((({ s.cartUnbind p with pilot := { (s.cartUnbind p).pilot with
      commitAt := d.op5, commitCmd := some (src, d), switched := false, markerSent := false } }.setPlanState 4).setRg (PILOT_B + 0x20) d.op5).emit (.chain 4 [3, d.op5.toNat]))) ∧
  (∀ (s : State) (src : Src) (d : Desc), s.precheck src 0x21 d = none → s.planState = 3 → d.atCycle = true → isFuture d.op5 s.cycle = false →
    exec (.planCommit src d) s = .next (s.complete src 0x21 d .cyclePast)) ∧
  (∀ (s : State) (src : Src) (d : Desc) (p : Plan), s.accepts src 0x22 d → s.planState = 3 → s.pilot.new = some p → d.op0.toNat = p.id → p.id ≠ 0 →
    exec (.planAbort src d) s = .next (({ (s.setFld PILOT_STAT 15 8 0).returnPlanValues with
      pilot := { s.pilot with new := none, loaded := none } }.planIdle).complete src 0x22 d .ok)) ∧
  (∀ (s : State) (src : Src) (d : Desc), s.accepts src 0x22 d → (s.planState = 1 ∨ s.planState = 2) → d.op0 = 0 →
    exec (.planAbort src d) s = .next { s with pilot := { s.pilot with stop := true, stopReq := s.pilot.stopReq ++ [(src, d)] } }) ∧
  (∀ (s : State) (src : Src) (d : Desc) (p : PlanAxis), s.accepts src 0x23 d → s.actAxis d.tgt = some p →
    exec (.planReport src d) s = .next (s.complete src 0x23 d .ok p.lat (reportHi s p))) ∧
  (∀ (s : State) (src : Src) (d : Desc), s.accepts src 0x23 d → s.actAxis d.tgt = none →
    exec (.planReport src d) s = .next (s.complete src 0x23 d .badTarget))

/-- The migration's own steps (R192 to R200): computed, prepared, switched, released; tables over CHAIN; a missed grant. -/
def Obligations.PlanSteps : Prop :=
  (∀ (s : State) (p : Plan), s.planState = 1 → s.pilot.snapWait = false → s.pilot.stop = false → s.pilot.rej = none →
    s.pilot.job = some p →
    exec .planComputed s = .next ((({ s with pilot := { s.pilot with loadLeft := 3 } }.setPlanState 2).loadBank p).emit
      (.chain 4 (1 :: planWords p)))) ∧
  (∀ (s : State) (r : Nat × Nat), s.planState = 1 → s.pilot.snapWait = false → s.pilot.stop = false → s.pilot.rej = some r →
    exec .planComputed s = .next (s.rejectPlan r.1 r.2)) ∧
  (∀ (s : State), (s.planState = 1 ∨ s.planState = 2) → s.pilot.stop = true →
    exec .planComputed s = .next s ∧ exec .planPrepared s = .next s) ∧
  (∀ (s : State) (p : Plan) (src : Src) (d : Desc), s.planState = 2 → s.pilot.loadLeft = 0 → s.pilot.stop = false → s.pilot.job = some p → s.pilot.cmd = some (src, d) →
    s.pilot.autoCommit = false →
    exec .planPrepared s = .next ((({ s with pilot := { s.pilot with new := some p, job := none, cmd := none } }.setPlanState 3).setFld
      PILOT_STAT 15 8 p.id).complete src 0x20 d .ok p.id p.worst)) ∧
  (∀ (s : State), s.flag PILOT_CFG 8 = true → s.unplaced = true → s.planState = 0 →
    (∀ x ∈ s.host.planUsed ++ s.host.plan, x.seq < s.host.planSeq) → ∃ t : State,
    exec .autoPlanPrepare s = .next t ∧ t.planState = 1 ∧ t.pilot.autoCommit = true ∧ t.pilot.cmd = none ∧
    t.host.planUsed = s.host.planUsed ++ s.host.plan ∧ t.host.plan = []) ∧
  (∀ (s : State) (p : Plan), s.planState = 4 → s.cycle = s.pilot.commitAt → s.pilot.switched = false → s.pilot.new = some p → p.id < 256 →
    ∃ u : State, exec .planSwitch s = .next (((((p.axes.foldl (fun s q => s.writeSetp q.axis) (u.moveLanes s.pilot.act p).activatePlanPars).afterSwitch
      s.pilot.act p).cartSwitch s.pilot.act p).acqSwitch p).raise 38 p.id) ∧ u.pilot.act = p ∧ u.pilot.old = some s.pilot.act ∧
      u.pilot.switched = true ∧ (u.moveLanes s.pilot.act p).activatePlanPars.host.planUsed = [] ∧
      u.fld PILOT_STAT 7 0 = p.id ∧ u.fld PILOT_STAT 15 8 = 0) ∧
  (∀ (s : State) (src : Src) (d : Desc), s.planState = 4 → s.pilot.switched = true → isFuture s.cycle s.pilot.commitAt = true →
    s.pilot.isoRun = [] → s.pilot.commitCmd = some (src, d) →
    exec .planRelease s = .next ((({ s with pilot := { s.pilot with
      old := none, new := none, commitCmd := none, switched := false } }.setRg (PILOT_B + 0x20) 0).planIdle.startMirror).complete
        src 0x21 d .ok).startIso) ∧
  (∀ (s : State) (l : List Word),
    exec (.planLoadReceive (1 :: l)) s = .next ({ s with pilot := { s.pilot with
      new := some (planOfWords (l.map BitVec.toNat)), chainAt := none } }.loadBank (planOfWords (l.map BitVec.toNat)))) ∧
  (∀ (s : State) (n : Word) (l : List Word),
    exec (.planLoadReceive (3 :: n :: l)) s = .next { s with pilot := { s.pilot with chainAt := some n, markerSent := false } }) ∧
  (∀ (s : State) (l : List Word),
    exec (.planLoadReceive (2 :: l)) s = .next { s with helm := { s.helm with mirror := some (planOfWords (l.map BitVec.toNat)) } }) ∧
  (∀ (s : State) (n : Fin 4096), s.pilot.switched = true → (s.node n.val).state = 2 → (s.node n.val).seen = false →
    exec (.grantMiss n) s = .next ((s.pilotFlag 3).sendGrant n.val)) ∧
  (∀ (s : State) (src : Src) (d : Desc), s.planState = 4 → s.pilot.switched = true → isFuture s.cycle s.pilot.commitAt = true →
    s.pilot.isoRun = [] → s.pilot.isoReq = [] → s.pilot.commitCmd = some (src, d) → s.net.held = [] → ∃ t : State,
    exec .planRelease s = .next t ∧ t.planState = 0 ∧ t.pilot.old = none ∧ t.pilot.new = none ∧ t.pilot.act = s.pilot.act)

/-- A cycle boundary (R20, R64, R65, R70, R112, R147): the cycle number and the boundary's time advance before anything takes effect; the
staged CYC writes of the boundary are applied in their order, writes by commands last, unless CYC_HOLD keeps them; PORT_CFG, whose EN is
staged for the boundary and whose ring fields for a plan. -/
def Obligations.CycleBoundaries : Prop :=
  (∀ (s u v w : State) (b : Bool) (refs : List (Nat × Bool)),
    u = s.useAllTails.serveSound.acqClose.endStays ((s.pilot.old.map (fun o => o.axes)).getD []) →
    v = (u.advance.acqOpen.stepWait.eachAxis (fun s a => s.setProf a { s.prof a with stopped := false, tqHost := false })).eachAxis
      State.profAdvance →
    b = v.diverges (if v.flag HOST_CTL 0 then [] else v.host.cyc.filter (fun x => x.defer == 0))
      (v.host.due.filter (fun x => !isFuture x.cyc v.cycle)) →
    w = ((v.applyStage.freeDoorbells.safeBoundary.faultBoundary.applyDue.applyStream b).emuBoundary.eachAxis State.adaptRamp).ledgerBoundary →
    exec (.cycleBoundary refs) s =
      .next ((w.profBoundary refs).pilotBoundary.mirrorBoundary.netBoundary.resyncBoundary.unplacedFlag.cartBoundary.canBoundary)) ∧
  (∀ (u : State), u.advance.cycle = u.cycle + 1 ∧ u.advance.bnd = (u.bnd / u.tCyc + 1) * u.tCyc ∧
    (∀ l, l < 16 → (u.advance.lane l).ended = 0) ∧ u.advance.host = u.host ∧ u.advance.net = u.net ∧ u.advance.out = u.out) ∧
  (∀ (s : State), s.flag HOST_CTL 0 = true → s.applyStage = s) ∧
  (∀ (s : State) (x : Staged), s.flag HOST_CTL 0 = false → s.host.cyc = [x] → s.host.cycHeld = [] → x.defer = 0 → x.off < 0x30000 →
    s.applyStage.rg x.off = (s.rg x.off &&& ~~~x.mask) ||| (x.val &&& x.mask) ∧ s.applyStage.host.cyc = []) ∧
  (∀ (s : State) (x : Staged), s.flag HOST_CTL 0 = false → s.host.cyc = [x] → s.host.cycHeld = [] → 0 < x.defer →
    s.applyStage = { s with host := { s.host with cyc := [{ x with defer := x.defer - 1 }], cycHeld := [] } }) ∧
  (∀ (s : State) (p : Fin 16) (v : Word), s.hostReaches (pCfg p.val) → s.portEn p.val = false → bit v 9 = false →
    s.host.cyc.length < 1024 → s.host.cycHeld = [] →
    exec (.portCfgWrite p v) s = .next (((s.setRg (pCfg p.val) ((s.rg (pCfg p.val) &&& ~~~0x1F00) ||| (v &&& 0x1F00))).stageCyc .host
      { off := pCfg p.val, mask := 1, val := v, defer := 0 }).stagePlan { off := pCfg p.val, mask := 0xF6, val := v, defer := 0 })) ∧
  (∀ (s : State) (p : Fin 16) (v : Word), s.hostReaches (pCfg p.val) → s.portEn p.val = false → bit v 9 = false →
    s.host.cyc.length < 1024 → s.host.cycHeld = [] → ∃ t : State, exec (.portCfgWrite p v) s = .next t ∧
    t.host.cyc = s.host.cyc ++ [{ off := pCfg p.val, mask := 1, val := v, defer := b2n s.stagedLate }] ∧
    t.host.plan = s.host.plan ++ [{ off := pCfg p.val, mask := 0xF6, val := v, defer := 0, seq := s.host.planSeq }] ∧
    t.rg (pCfg p.val) = (s.rg (pCfg p.val) &&& ~~~0x1F00) ||| (v &&& 0x1F00) ∧
    (∀ o, o ≠ pCfg p.val → t.rg o = s.rg o) ∧ t.net = s.net ∧ t.out = s.out) ∧
  (∀ (s : State) (p : Fin 16) (v : Word), s.hostReaches (pCfg p.val) → s.portEn p.val = true → bit v 9 = false →
    differ (s.rg (pCfg p.val)) v 0x1F00 = true → exec (.portCfgWrite p v) s = .next (s.netCfgErr p.val))

/-- Axis commands (R91, R268, R287, R290, R291, R293 to R295): those with a per-cycle effect wait for their boundary, the others act and
complete. -/
def Obligations.AxisCommands : Prop :=
  (∀ (s : State) (src : Src) (d : Desc), s.precheck src 0x10 d = none →
    exec (.axisSetMode src d) s = .next { s with host := { s.host with due := s.host.due ++
      [{ cyc := if d.atCycle then d.op5 else s.cycle + 1, src := src, opc := 0x10, desc := d }] } }) ∧
  (∀ (s : State) (src : Src) (d : Desc), s.accepts src 0x11 d → d.tgt < 256 → (s.parCheck d.tgt d.op0.toNat d.op1).1 = .ok →
    parCls d.op0.toNat = .cyc →
    exec (.axisParamWrite src d) s = .next { s with host := { s.host with due := s.host.due ++
      [{ cyc := s.cycle + 1, src := src, opc := 0x11, desc := d }] } }) ∧
  (∀ (s : State) (src : Src) (d : Desc), s.accepts src 0x11 d → d.tgt < 256 → (s.parCheck d.tgt d.op0.toNat d.op1).1 = .ok →
    parCls d.op0.toNat = .plan →
    exec (.axisParamWrite src d) s = .next (({ s with host := { s.host with planSeq := s.host.planSeq + 1, plan := s.host.plan ++
      [{ off := parOff d.tgt d.op0.toNat, mask := 0xFFFFFFFF, val := d.op1, defer := 0, seq := s.host.planSeq }] } } : State).complete src 0x11 d .ok)) ∧
  (∀ (s : State) (src : Src) (d : Desc), s.accepts src 0x11 d → 256 ≤ d.tgt →
    exec (.axisParamWrite src d) s = .next (s.complete src 0x11 d .badTarget)) ∧
  (∀ (s : State) (src : Src) (d : Desc), s.accepts src 0x12 d → d.tgt < 256 → (parRow d.op0.toNat).isSome = true → d.op1 = 0 →
    exec (.axisParamRead src d) s = .next (s.complete src 0x12 d .ok (s.parNow d.tgt d.op0.toNat).toNat)) ∧
  (∀ (s : State) (src : Src) (d : Desc), s.accepts src 0x12 d → d.tgt < 256 → (parRow d.op0.toNat).isSome = true → d.op1 = 1 →
    exec (.axisParamRead src d) s = .next (s.complete src 0x12 d .ok (s.parPending d.tgt d.op0.toNat).toNat)) ∧
  (∀ (s : State) (src : Src) (d : Desc), s.accepts src 0x13 d → d.tgt < 256 → d.op0.toNat < 2 →
    exec (.axisAdaptLock src d) s = .next { s with host := { s.host with due := s.host.due ++
      [{ cyc := s.cycle + 1, src := src, opc := 0x13, desc := d }] } }) ∧
  (∀ (s : State) (src : Src) (d : Desc), s.accepts src 0x14 d → d.tgt < 256 → s.pn d.tgt 0x26 ≠ 0 →
    exec (.axisLearnReset src d) s = .next { s with host := { s.host with due := s.host.due ++
      [{ cyc := s.cycle + 1, src := src, opc := 0x14, desc := d }] } }) ∧
  (∀ (s : State) (src : Src) (d : Desc), s.precheck src 0x15 d = none →
    exec (.axisInject src d) s = .next { s with host := { s.host with due := s.host.due ++
      [{ cyc := if d.atCycle then d.op5 else s.cycle + 1, src := src, opc := 0x15, desc := d }] } }) ∧
  (∀ (s : State) (src : Src) (d : Desc), s.accepts src 0x16 d → d.tgt < 256 →
    exec (.axisClearFault src d) s = .next { s with host := { s.host with due := s.host.due ++
      [{ cyc := s.cycle + 1, src := src, opc := 0x16, desc := d }] } }) ∧
  (∀ (s : State) (a : Fin 256) (v : Word), exec (.axPvalHiWrite a v) s = .next (s.setAxis a.val { s.axis a.val with pvalHi := v })) ∧
  (∀ (s : State) (a : Fin 256) (v : Word), (s.parCheck a.val (s.fld (axReg a.val 0xC) 15 0) v).1 = .ok →
    parCls (s.fld (axReg a.val 0xC) 15 0) = .cyc → s.host.cyc.length < 1024 → s.host.cycHeld = [] →
    exec (.axPvalLoWrite a v) s = .next { s with host := { s.host with cyc := s.host.cyc ++
      [{ off := parOff a.val (s.fld (axReg a.val 0xC) 15 0), mask := 0xFFFFFFFF, val := v, defer := b2n s.stagedLate }] } }) ∧
  (∀ (s : State) (src : Src) (d : Desc), s.accepts src 0x12 d → 256 ≤ d.tgt →
    exec (.axisParamRead src d) s = .next (s.complete src 0x12 d .badTarget)) ∧
  (∀ (s : State) (src : Src) (d : Desc), s.accepts src 0x12 d → d.tgt < 256 → ((parRow d.op0.toNat).isSome = false ∨ 2 ≤ d.op1.toNat) →
    exec (.axisParamRead src d) s = .next (s.complete src 0x12 d .badOperand)) ∧
  (∀ (s : State) (a : Fin 256) (pid : Fin 1024), (∀ x ∈ s.host.planUsed ++ s.host.plan ++ s.host.cyc ++ s.host.cycHeld, x.off ≠ parOff a.val pid.val) →
    (∀ x ∈ s.host.due, x.opc = 0x11 → x.desc.tgt = a.val → x.desc.op0.toNat ≠ pid.val) → s.parPending a.val pid.val = s.parNow a.val pid.val)

/-- What the deferred axis commands do at their boundary (R72, R268, R272, R287, R290, R294, R295, R306). -/
def Obligations.AxisBoundaryEffects : Prop :=
  (∀ (s : State) (src : Src) (d : Desc) (c : BitVec 32) (x : List Byte), d.tgt < 256 →
    s.runDue { cyc := c, src := src, opc := 0x13, desc := d, data := x, aux := 0 } = (s.setAxis d.tgt { s.axis d.tgt with
      sup := { (s.axis d.tgt).sup with lock := decide (d.op0 = 1) } }).complete src 0x13 d .ok) ∧
  (∀ (s : State) (src : Src) (d : Desc) (c : BitVec 32), adaptPars.contains d.op0.toNat = false → d.op0.toNat ≠ 0x1F →
    d.op0.toNat ≠ 0x108 →
    s.runDue { cyc := c, src := src, opc := 0x11, desc := d } = (s.axWrite d.tgt d.op0.toNat d.op1).complete src 0x11 d .ok) ∧
  (∀ (s : State) (src : Src) (d : Desc) (c : BitVec 32),
    s.runDue { cyc := c, src := src, opc := 0x14, desc := d } = ((s.clearLearn d.tgt).xflag d.tgt 4).complete src 0x14 d .ok) ∧
  (∀ (s : State) (src : Src) (d : Desc) (a : Nat), (s.axis a).health ≠ 2 → (s.axis a).faulted = false → (s.ctl a).req = none →
    s.modeError a (s.modeNow a) d.op0 = none → (s.modeNow a = 0 → isLoop (bits d.op0 2 0) = true → s.sless a = false) → ∃ u0 u : State,
    u0 = s.setCtl a { s.ctl a with req := none } ∧ u = u0.setAxis a { u0.axis a with faulted := false } ∧
    s.modeStep a [(src, d)] = (let v := u.setXw a 0x2D (putBits (u.xw a 0x2D) 6 4 (bits d.op0 2 0))
      let t := (v.applyMode a (bits d.op0 2 0) (bits d.op0 15 8)).complete src 0x10 d .ok
      if (t.axis a).health = 2 && t.cst a ≠ 0 && t.modeNow a = 0 then t.startFailed a else t)) ∧
  (∀ (s : State) (src : Src) (d : Desc) (a : Nat) (e : St), (s.axis a).health ≠ 2 → (s.axis a).faulted = false → (s.ctl a).req = none →
    s.modeError a (s.modeNow a) d.op0 = some e → ∃ u0 u t : State, u0 = s.setCtl a { s.ctl a with req := none } ∧
    u = u0.setAxis a { u0.axis a with faulted := false } ∧ t = u.complete src 0x10 d e ∧
    s.modeStep a [(src, d)] = if (t.axis a).health = 2 && t.cst a ≠ 0 && t.modeNow a = 0 then t.startFailed a else t) ∧
  (∀ (s : State) (src : Src) (d : Desc) (c : BitVec 32), adaptPars.contains d.op0.toNat = true →
      (s.rampFrozen d.tgt = true ∨ (s.axis d.tgt).sup.targets = []) →
    s.runDue { cyc := c, src := src, opc := 0x11, desc := d } = ((s.setAxis d.tgt { s.axis d.tgt with
      sup := { (s.axis d.tgt).sup with lock := true, hostW := d.op0.toNat :: (s.axis d.tgt).sup.hostW } }).axWrite d.tgt d.op0.toNat d.op1).complete
        src 0x11 d .ok) ∧
  (∀ (s : State) (src : Src) (d : Desc) (c : BitVec 32) (v : Int), adaptPars.contains d.op0.toNat = true → s.rampFrozen d.tgt = false →
      (s.axis d.tgt).sup.targets = [(d.op0.toNat, v)] → v ≠ sgn (s.parNow d.tgt d.op0.toNat) → ∃ u : State, u = s.xflag d.tgt 0 ∧
    s.runDue { cyc := c, src := src, opc := 0x11, desc := d } = ((u.setAxis d.tgt { u.axis d.tgt with
      sup := { (s.axis d.tgt).sup with lock := true, hostW := d.op0.toNat :: (s.axis d.tgt).sup.hostW } }).axWrite d.tgt d.op0.toNat d.op1).complete
        src 0x11 d .ok) ∧
  (∀ (s : State) (src : Src) (d : Desc) (c : BitVec 32), d.op0.toNat = 0x108 → (s.fb d.tgt).loadRef ≠ some s.ntime →
    s.runDue { cyc := c, src := src, opc := 0x11, desc := d } =
      ((s.setFb d.tgt { s.fb d.tgt with hostRef := some s.ntime }).axWrite d.tgt 0x108 d.op1).complete src 0x11 d .ok) ∧
  (∀ (s : State) (src : Src) (d : Desc) (c : BitVec 32), d.op0.toNat = 0x108 → (s.fb d.tgt).loadRef = some s.ntime → ∃ u : State,
    u = s.setFlag FB_B 0 ∧ s.runDue { cyc := c, src := src, opc := 0x11, desc := d } =
      ((u.setFb d.tgt { u.fb d.tgt with hostRef := some u.ntime }).axWrite d.tgt 0x108 d.op1).complete src 0x11 d .ok) ∧
  (∀ (s : State) (src : Src) (d : Desc) (c : BitVec 32), d.op0.toNat = 0x1F →
    s.runDue { cyc := c, src := src, opc := 0x11, desc := d } =
      ((s.setProf d.tgt { s.prof d.tgt with tqHost := true }).axWrite d.tgt 0x1F d.op1).complete src 0x11 d .ok)

/-- Timed and computed events of an axis (R280, R282, R300, R316, R351, R353, R355, R356, R365). -/
def Obligations.AxisEvents : Prop :=
  (∀ (s : State) (a : Fin 256), s.pn a.val 0x113 ≤ (s.ctl a.val).frzN →
    exec (.freezeDetect a) s = .next (s.setFb a.val { s.fb a.val with pend := 0x0B })) ∧
  (∀ (s : State) (a : Fin 256), (s.ctl a.val).frzN < s.pn a.val 0x113 → s.pn a.val 0x113 ≤ (s.ctl a.val).obsN →
    exec (.freezeDetect a) s = .next (s.setFb a.val { s.fb a.val with pend := 0x0C })) ∧
  (∀ (s : State) (a : Fin 256), (s.fb a.val).st = 2 → (s.fb a.val).latched = false → s.pn a.val 0x115 ≤ (s.fb a.val).clean →
    (s.fb a.val).mem.1 = 0 → ∃ u : State,
    exec (.feedbackRecovery a) s = .next ((u.raise 98 (a.val + (s.fb a.val).mem.2 * 0x10000)).fbShow a.val) ∧ (u.fb a.val).st = 0 ∧
    (u.fb a.val).cause = (s.fb a.val).mem.2 ∧ (u.fb a.val).latched = false) ∧
  (∀ (s : State) (a : Fin 256), (s.fb a.val).st = 2 → (s.fb a.val).latched = false → s.pn a.val 0x116 ≤ (s.fb a.val).trans → ∃ t : State,
    exec (.feedbackPersistLatch a) s = .next t ∧ (t.fb a.val).st = 2 ∧ (t.fb a.val).cause = 0x0D ∧ (t.fb a.val).latched = true ∧
    (t.fb a.val).idxValid = false ∧ (s.emusOf a.val = [] → t.out = s.out)) ∧
  (∀ (s : State) (a : Fin 256), s.cst a.val = 2 → (s.ctl a.val).cstT + s.pn a.val 0x20D * 1000000 ≤ s.ntime →
    exec (.catchTmoExpiry a) s = .next (s.commExpired a.val)) ∧
  (∀ (s : State) (a : Fin 256), s.cst a.val = 8 → (s.ctl a.val).lossT + s.pn a.val 0x209 * 1000000 ≤ s.ntime →
    exec (.obsRelockExpiry a) s = .next (s.commExpired a.val)) ∧
  (∀ (s : State) (a : Fin 256), s.cst a.val = 5 → s.pn a.val 0x20A ≤ (s.ctl a.val).cstN → exec (.tqRampComplete a) s = .next (s.setCst a.val 6)) ∧
  (∀ (s : State), s.axes = [] → exec .adaptSchedule s = .next s) ∧
  (∀ (s : State), exec .adaptSchedule s = .next (s.axes.foldl (fun t e => t.scheduleAxis e.1) s)) ∧
  (∀ (s : State) (a : Nat), ((s.axis a).sup.valid = false ∨ bit (s.par a 0x30) 1 = false ∨ s.rampFrozen a = true) → s.scheduleAxis a = s) ∧
  (∀ (s : State) (a : Nat) (x : AxisSt), s.axes = [(a, x)] → exec .adaptSchedule s = .next (s.scheduleAxis a)) ∧
  (∀ (s : State) (a : Fin 256) (t : Nat), s.cst a.val = 4 → (s.ctl a.val).reachT = some t → (s.ctl a.val).hand = none →
    t + s.pn a.val 0x209 * 1000000 ≤ s.ntime → exec (.obsRelockExpiry a) s = .next (s.commExpired a.val)) ∧
  (∀ (s : State) (a : Fin 256), 8 ≤ (s.axis a.val).sup.n → (s.axis a.val).sup.ok = false →
    exec (.idBlock a) s = .next ((s.setAxis a.val { s.axis a.val with sup := { (s.axis a.val).sup with
      n := 0, prevV := some (s.axis a.val).sup.sumV, prevOk := false, sumV := 0, sumI := 0, ok := true } }).judgeJ a.val)) ∧
  (∀ (s : State) (a : Fin 256) (p : Int), 8 ≤ (s.axis a.val).sup.n → (s.axis a.val).sup.ok = true → (s.axis a.val).sup.sumV ≠ 0 →
      (s.axis a.val).sup.prevV = some p →
      ((s.axis a.val).sup.prevOk = true ∨ s.pz a.val 0x3B * 64 * s.kr a.val ≤ absI ((s.axis a.val).sup.sumV - p) * 256) →
    exec (.idBlock a) s = .next (((s.setAxis a.val { s.axis a.val with sup := { (s.axis a.val).sup with
      n := 0, prevV := some (s.axis a.val).sup.sumV, prevOk := true, sumV := 0, sumI := 0, ok := true } }).idFit a.val
        (((s.axis a.val).sup.sumV - p) * (8 / (s.kr a.val : Nat))) (signI (s.axis a.val).sup.sumV) (s.axis a.val).sup.sumV
        (s.axis a.val).sup.sumI).judgeJ a.val)) ∧
  (∀ (s : State) (a : Fin 256), (s.axis a.val).sup.n < 8 → exec (.idBlock a) s = .next s) ∧
  (∀ (s : State) (g : Fin 32), s.groupAxes g.val = [] → exec (.ledgerCompute g) s = .next s) ∧
  (∀ (s : State) (g : Fin 32) (p : PlanAxis) (r : List PlanAxis), g.val ≠ 0 → s.groupAxes g.val = p :: r →
    (∀ q ∈ p :: r, (s.axis q.axis).lastPass = (s.axis p.axis).lastPass ∧ (s.axis q.axis).startedFor = some (s.axis p.axis).lastPass) →
    Tab.get 0 s.mem.ledAt g.val ≠ (s.axis p.axis).lastPass.toNat + 1 →
    exec (.ledgerCompute g) s = .next (s.ledgerRun g.val (p :: r) (s.axis p.axis).lastPass)) ∧
  (∀ (s : State) (g : Fin 32) (p : PlanAxis), g.val ≠ 0 → s.groupAxes g.val = [p] → (s.axis p.axis).startedFor = some (s.axis p.axis).lastPass →
    Tab.get 0 s.mem.ledAt g.val ≠ (s.axis p.axis).lastPass.toNat + 1 → ∃ u : State,
    exec (.ledgerCompute g) s = .next u ∧ Tab.get 0 u.mem.ledAt g.val = (s.axis p.axis).lastPass.toNat + 1 ∧
    (∃ w : Word × Bool, u.mem.ledger = s.mem.ledger ++ [((s.axis p.axis).lastPass + 2, p.axis, w.1, w.2)]))

/-- Local axes (R320, R327 to R338): fault inputs, conversions, updates, steps and emulators. -/
def Obligations.LocalAxes : Prop :=
  (∀ (s : State) (i : Fin 8), s.powered 6 = true → ∃ u : State, exec (.fltTrip i) s = .next (u.raise (100 + i.val) 0) ∧ u.flag LOCAL_FLT i.val = true ∧
    u.flag LOCAL_FLT (8 + i.val) = true ∧
    u.loc = { s.loc with tripNow := s.loc.tripNow ++ (List.range 8).filter (fun n => s.flag (LOCAL_B + 4 + i.val / 4 * 4) (8 * (i.val % 4) + n)) } ∧
    (∀ o, o ≠ LOCAL_FLT → u.rg o = s.rg o) ∧
    (∀ (n : Fin 8) (k : Fin 6), s.flag (LOCAL_B + 4 + i.val / 4 * 4) (8 * (i.val % 4) + n.val) = true →
      s.gatePin n.val k.val 0 ∈ u.out)) ∧
  (∀ (s : State) (i : Fin 8), s.powered 6 = false → exec (.fltTrip i) s = .next s) ∧
  (∀ (s : State) (v act : Byte), s.powered 6 = false → exec (.localFltLatchClear v act) s = .next s) ∧
  (∀ (s : State) (v act : Byte) (i : Fin 8), s.powered 6 = true → v.getLsbD i.val = true → act.getLsbD i.val = false → ∃ t : State,
    exec (.localFltLatchClear v act) s = .next t ∧ t.flag LOCAL_FLT i.val = false ∧ t.fld LOCAL_FLT 15 8 = act.toNat ∧
    ((List.range 8).all (fun n => !(s.lx n).dirNeg) = true → t.loc = s.loc)) ∧
  (∀ (s : State) (v act : Byte) (i : Fin 8), s.flag LOCAL_FLT i.val = true → act.getLsbD i.val = true → ∃ t : State,
    exec (.localFltLatchClear v act) s = .next t ∧ t.flag LOCAL_FLT i.val = true) ∧
  (∀ (s : State) (n : Fin 8) (t : Nat) (b : Bool) (a : Nat), (s.at_ t).axisOfLx n.val = some a → s.powered 6 = true →
    (((s.at_ t).chans n.val).map (fun c => c / 8)).any (s.at_ t).coreBusy = false → ∃ u : State,
    exec (.adcTrigger n t b) s = .next u ∧ (u.lx n.val).conv = some (s.at_ t).ntime ∧
    (u.lx n.val).zs = (s.fb a).zq.map (fun z => z - (s.fb a).cnt) ∧ u.regs = s.regs ∧ u.out = s.out) ∧
  (∀ (s : State) (n : Fin 8) (t : Nat) (b : Bool), s.powered 6 = false → exec (.adcTrigger n t b) s = .next (s.at_ t)) ∧
  (∀ (s : State) (n : Fin 8) (ia ib vb : BitVec 14), (s.axisOfLx n.val = none ∨ (s.lx n.val).conv = none) →
    exec (.adcConversionDone n ia ib vb) s = .next s) ∧
  (∀ (s : State) (n : Fin 8) (ia ib vb : BitVec 14) (a trig : Nat), s.axisOfLx n.val = some a → (s.lx n.val).conv = some trig →
    (s.lx n.val).probeMiss = true →
    ∃ u : State, u = (((s.adcCode ((s.chans n.val).getD 0 0) ia.toNat).adcCode ((s.chans n.val).getD 1 0) ib.toNat).adcCode
      ((s.chans n.val).getD 2 0) vb.toNat).setLx n.val { s.lx n.val with
        conv := none, probe := none, probeMiss := false, ssi := none, zs := [], samples := (s.lx n.val).samples + 1 } ∧
    exec (.adcConversionDone n ia ib vb) s = .next (u.setFb a { u.fb a with noted := if (s.lx n.val).opened then [0x08] else [] })) ∧
  (∀ (s : State) (n : Fin 8) (ia ib vb : BitVec 14) (a trig : Nat), s.axisOfLx n.val = some a → (s.lx n.val).conv = some trig →
    (s.lx n.val).probeMiss = false → (s.lx n.val).probe = none → (s.fbKind a = 1 ∨ s.fbKind a = 2) → ∃ u : State,
    u = (((s.adcCode ((s.chans n.val).getD 0 0) ia.toNat).adcCode ((s.chans n.val).getD 1 0) ib.toNat).adcCode
      ((s.chans n.val).getD 2 0) vb.toNat).setLx n.val { s.lx n.val with
        conv := none, probe := none, probeMiss := false, ssi := none, zs := [], samples := (s.lx n.val).samples + 1 } ∧
    exec (.adcConversionDone n ia ib vb) s = .next ((u.setFb a { u.fb a with
        sn := (u.fb a).sn - (s.lx n.val).held.2.2, zq := (u.fb a).zq.drop (s.lx n.val).zs.length }).fbSample a
      (leBytes 4 (s.lx n.val).held.1 ++ leBytes 4 (s.lx n.val).held.2.1 ++
        leBytes 2 (s.current ((s.chans n.val).getD 0 0) ia.toNat % 65536).toNat ++
        leBytes 2 (s.current ((s.chans n.val).getD 1 0) ib.toNat % 65536).toNat ++
        leBytes 2 (1 + b2n (!(decide (leAt (s.lx n.val).img 6 1 / 8 % 2 = 1) && !u.gatesForced n.val)) * 4 +
          b2n (s.clips ((s.chans n.val).getD 0 0) ia.toNat || s.clips ((s.chans n.val).getD 1 0) ib.toNat) * 8 + b2n (s.lx n.val).opened * 16 +
          b2n false * 32 + u.fbKind a * 256 + (s.lx n.val).samples % 16 * 4096) ++ [0, 0] ++ leBytes 4 0)
      (clampI 0 65535 (u.adcValue ((s.chans n.val).getD 2 0) vb.toNat)).toNat 0 true (s.lx n.val).held.2.2 (s.lx n.val).zs 0)) ∧
  (∀ (s : State) (c : Fin 24) (x : BitVec 14), s.powered 6 = true → s.scanNext (c.val / 8) = some c.val → s.coreBusy (c.val / 8) = false →
    ∃ t : State, exec (.adcScanConversion c x) s = .next t ∧ t.rg (LOCAL_B + 0x100 + c.val * 4) = ofNat x.toNat ∧
    Tab.get 0 t.loc.scanAt c.val = s.ntime ∧ Tab.get (c.val / 8 * 8 + 7) t.loc.scanPtr (c.val / 8) = c.val ∧ t.out = s.out) ∧
  (∀ (s : State) (c : Fin 24) (x : BitVec 14), s.scanNext (c.val / 8) ≠ some c.val → exec (.adcScanConversion c x) s = .next s) ∧
  (∀ (s : State) (n : Fin 8) (w : BitVec 64) (a trig : Nat), s.axisOfLx n.val = some a → (s.lx n.val).conv = some trig → s.fbKind a = 4 →
    Tab.get none s.loc.ssiAt (bits (s.par a 0x100) 5 4) = none → bits (s.par a 0x10F) 24 21 = 0 → ∃ u : State,
    u = { s with loc := { s.loc with ssiAt := Tab.set none s.loc.ssiAt (bits (s.par a 0x100) 5 4) (some ((trig : Int) + 200)) } } ∧
    exec (.ssiBurst n w) s = .next ((u.emit (.pin 16 (bits (s.par a 0x100) 5 4) (s.ssiBits a : Nat))).setLx n.val { s.lx n.val with
      ssi := some (w.toNat % 2 ^ (bits (s.par a 0x10F) 5 0 + bits (s.par a 0x10F) 11 9) / 2 ^ bits (s.par a 0x10F) 11 9, false) })) ∧
  (∀ (s : State) (n : Fin 8) (w : BitVec 64) (a trig : Nat) (e : Int), s.axisOfLx n.val = some a → (s.lx n.val).conv = some trig → s.fbKind a = 4 →
    Tab.get none s.loc.ssiAt (bits (s.par a 0x100) 5 4) = some e →
    (trig : Int) + 200 - s.ssiNs a < e + s.fld (LOCAL_B + 0x700 + bits (s.par a 0x100) 5 4 * 8) 23 16 * 1000 →
    exec (.ssiBurst n w) s = .next (s.setLx n.val { s.lx n.val with ssi := none })) ∧
  (∀ (s : State) (n : Fin 8) (t : Nat), (s.lx n.val).wait ≠ [] → leAt (s.lx n.val).wait 6 1 % 8 ≠ 4 → leAt (s.lx n.val).wait 6 1 % 8 ≠ 5 →
    (s.at_ t).isUpdate n.val t = true → (s.lx n.val).waitFrom ≤ (((s.bnd + t : Nat) : Int) * 1000 + 999) →
    exec (.pwmUpdatePoint n t) s = .next (((s.at_ t).setLx n.val { s.lx n.val with
      img := (s.lx n.val).wait, wait := [], rate1 := 0,
      gates := (s.at_ t).gateTimes n.val (s.lx n.val).wait [leAt (s.lx n.val).wait 0 2, leAt (s.lx n.val).wait 2 2, leAt (s.lx n.val).wait 4 2] }).driveGates
        n.val)) ∧
  (∀ (s : State) (n : Fin 8) (t : Nat), ((s.at_ t).isUpdate n.val t = false ∨ (((s.bnd + t : Nat) : Int) * 1000 + 999 < (s.lx n.val).waitFrom)) →
    exec (.pwmUpdatePoint n t) s = .next (s.at_ t)) ∧
  (∀ (s : State) (n : Fin 8) (t : Nat), leAt (s.lx n.val).img 6 1 % 16 = 12 → (s.at_ t).gatesForced n.val = false →
    (s.lx n.val).steps < wrapS 32 (leAt (s.lx n.val).img 0 4) → 0 < (s.at_ t).stepRate n.val (s.at_ t).nowCyc →
    (s.lx n.val).nextStep ≤ (s.at_ t).nowCyc → (s.at_ t).inInterval n.val (s.at_ t).nowCyc = true → (s.lx n.val).dirNeg = false →
    (s.lx n.val).dirAt + s.fld (lxReg n.val 0x10) 25 16 ≤ (s.at_ t).nowCyc → ∃ u : State,
    exec (.stepPulse n t) s = .next (u.emit (s.gatePin n.val 0 (s.fld (lxReg n.val 0x10) 9 0))) ∧
    (u.lx n.val).steps = wrapS 32 ((s.lx n.val).steps + 1) ∧ u.rg (lxReg n.val 0x18) = ofInt (wrapS 32 ((s.lx n.val).steps + 1)) ∧ u.out = s.out ∧
    (∀ o, o ≠ lxReg n.val 0x18 → u.rg o = s.rg o)) ∧
  (∀ (s : State) (n : Fin 8) (t : Nat), (s.at_ t).inInterval n.val (s.at_ t).nowCyc = false → exec (.stepPulse n t) s = .next (s.at_ t)) ∧
  (∀ (s : State) (e : Fin 4) (t : Nat), s.powered 6 = true → (s.emu e.val).next = none →
    (s.emu e.val).due (((s.bnd + t : Nat) : Int) * 1000 + 999) = true → (s.emu e.val).out < (s.emu e.val).tgt → ∃ u : State,
    exec (.emuEdge e t) s = .next u ∧ u.emu e.val = { s.emu e.val with
      out := (s.emu e.val).out + 1, phase := ((s.emu e.val).phase + 1) % 4, sent := (s.emu e.val).sent + 1 } ∧ u.regs = s.regs ∧
    .pin 11 (e.val * 4) (b2n (decide (((s.emu e.val).phase + 1) % 4 = 1 ∨ ((s.emu e.val).phase + 1) % 4 = 2)) : Nat) ∈ u.out) ∧
  (∀ (s : State) (e : Fin 4) (t : Nat), (s.emu e.val).next = none → (s.emu e.val).lost = true → exec (.emuEdge e t) s = .next (s.at_ t)) ∧
  (∀ (s : State) (r : Fin 4), 2 ≤ s.fld (refCfg r.val) 1 0 → s.flag (refStat r.val) 0 = false →
    exec (.refInputLoss r) s = .next ((s.setFlag (refStat r.val) 0).raise (108 + r.val) 0x10000)) ∧
  (∀ (s : State) (r : Fin 4), exec (.refLostClear r) s = .next ((s.clrFlag (refStat r.val) 0).refCleared r.val)) ∧
  (∀ (s : State) (n : Fin 8) (l : BitVec 6) (t : Nat), s.powered 6 = false → exec (.localFeedbackEdge n l t) s = .next (s.at_ t)) ∧
  (∀ (s : State) (n : Fin 8) (l : BitVec 6) (t : Nat), s.powered 6 = true → (s.at_ t).axisOfLx n.val = none →
    exec (.localFeedbackEdge n l t) s = .next ((s.at_ t).setLx n.val { s.lx n.val with pins := l.toNat })) ∧
  (∀ (s : State) (n : Fin 8) (l : BitVec 6) (t a : Nat), s.powered 6 = true → (s.at_ t).axisOfLx n.val = some a → (s.at_ t).fbKind a = 1 → l.toNat / 4 = (s.lx n.val).pins / 4 →
    l.toNat % 4 = 1 → (s.lx n.val).pins % 4 = 0 →
    exec (.localFeedbackEdge n l t) s = .next (((s.at_ t).setLx n.val { s.lx n.val with pins := l.toNat }).setFb a { s.fb a with cnt := (s.fb a).cnt + 1 })) ∧
  (∀ (s : State) (n : Fin 8) (t : Nat) (ia ib : BitVec 14), ((s.at_ t).coreBusy (((s.at_ t).chans n.val).getD 0 0 / 8) = true ∨
      (s.at_ t).coreBusy (((s.at_ t).chans n.val).getD 1 0 / 8) = true) →
    exec (.probePulseEnd n t ia ib) s = .next ((s.at_ t).setLx n.val { s.lx n.val with probe := none, probeMiss := true })) ∧
  (∀ (s : State) (n : Fin 8) (t : Nat) (ia ib : BitVec 14), (s.at_ t).coreBusy (((s.at_ t).chans n.val).getD 0 0 / 8) = false →
      (s.at_ t).coreBusy (((s.at_ t).chans n.val).getD 1 0 / 8) = false → ∃ u : State,
    exec (.probePulseEnd n t ia ib) s = .next u ∧ (u.lx n.val).probe = some ((s.at_ t).current (((s.at_ t).chans n.val).getD 0 0) ia.toNat,
      (s.at_ t).current (((s.at_ t).chans n.val).getD 1 0) ib.toNat, (s.at_ t).clips (((s.at_ t).chans n.val).getD 0 0) ia.toNat ||
      (s.at_ t).clips (((s.at_ t).chans n.val).getD 1 0) ib.toNat) ∧ (u.lx n.val).probeMiss = false ∧
    u.rg (LOCAL_B + 0x100 + ((s.at_ t).chans n.val).getD 1 0 * 4) = ofNat ib.toNat ∧ u.out = s.out)

/-- Motion commands (R379, R380, R386, R387, R390, R391, R397, R398): segments enter their queue at once; starts are armed; stops, resumes,
homing and group membership wait for their boundary. -/
def Obligations.MotionCommands : Prop :=
  (∀ (s : State) (src : Src) (d : Desc), s.precheck src 0x40 d = none → s.segError d = none → (s.prof d.tgt).q.length < 16 →
    (s.prof d.tgt).q ≠ [] →
    exec (.moveSeg src d) s = .next ((s.setProf d.tgt { s.prof d.tgt with q := (s.prof d.tgt).q ++ [segOf d false] }).complete src 0x40 d .ok)) ∧
  (∀ (s : State) (src : Src) (d : Desc), s.precheck src 0x40 d = none → s.segError d = none → 16 ≤ (s.prof d.tgt).q.length →
    exec (.moveSeg src d) s = .next s) ∧
  (∀ (s : State) (src : Src) (d : Desc), s.precheck src 0x40 d = none → s.hasPass d.tgt = true → s.driven d.tgt = false →
    exec (.moveSeg src d) s = .next (s.complete src 0x40 d .busy)) ∧
  (∀ (s : State) (src : Src) (d : Desc), s.precheck src 0x41 d = none → d.tgt < 32 → s.members d.tgt ≠ [] → s.flag (pgReg d.tgt 8) 0 = false →
    d.op0 = 0 → ∃ t : State, exec (.moveStartGroup src d) s = .next t ∧ t.flag (pgReg d.tgt 8) 0 = true ∧ t.flag (pgReg d.tgt 8) 1 = false ∧
    t.rg (pgReg d.tgt 0xC) = d.op5 ∧ t.mem.starts = s.mem.starts ++ [(d.tgt, src, d)] ∧ t.axes = s.axes ∧ t.out = s.out) ∧
  (∀ (s : State) (src : Src) (d : Desc), s.precheck src 0x41 d = none → 32 ≤ d.tgt →
    exec (.moveStartGroup src d) s = .next (s.complete src 0x41 d .badTarget)) ∧
  (∀ (s : State) (src : Src) (d : Desc), s.accepts src 0x42 d → d.tgt < 256 → 1 ≤ d.op0.toNat → d.op0.toNat ≤ 3 →
    exec (.moveStop src d) s = .next { s with host := { s.host with due := s.host.due ++
      [{ cyc := s.cycle + 1, src := src, opc := 0x42, desc := d }] } }) ∧
  (∀ (s : State) (src : Src) (d : Desc), s.accepts src 0x43 d → d.tgt < 256 →
    exec (.moveResume src d) s = .next { s with host := { s.host with due := s.host.due ++
      [{ cyc := s.cycle + 1, src := src, opc := 0x43, desc := d }] } }) ∧
  (∀ (s : State) (src : Src) (d : Desc), s.accepts src 0x44 d → s.homeError d = none →
    exec (.homeStart src d) s = .next { s with host := { s.host with due := s.host.due ++
      [{ cyc := s.cycle + 1, src := src, opc := 0x44, desc := d }] } }) ∧
  (∀ (s : State) (src : Src) (d : Desc) (e : St), s.accepts src 0x44 d → s.homeError d = some e →
    exec (.homeStart src d) s = .next (s.complete src 0x44 d e)) ∧
  (∀ (s : State) (src : Src) (d : Desc), s.accepts src 0x45 d → d.tgt < 32 → d.op0.toNat < 256 → d.op1.toNat < 2 →
    exec (.groupSet src d) s = .next { s with host := { s.host with due := s.host.due ++
      [{ cyc := s.cycle + 1, src := src, opc := 0x45, desc := d }] } }) ∧
  (∀ (s : State) (src : Src) (d : Desc), s.accepts src 0x45 d → 32 ≤ d.tgt →
    exec (.groupSet src d) s = .next (s.complete src 0x45 d .badTarget))

/-- Group starts, limit inputs and homing (R387, R393 to R396, Table 10.4). -/
def Obligations.MotionEvents : Prop :=
  (∀ (s : State) (g : Fin 32), s.flag (pgReg g.val 8) 0 = true → s.rg (pgReg g.val 0xC) = s.cycle → s.flag (pgReg g.val 8) 1 = false →
    s.members g.val = [] → s.mem.starts = [] →
    exec (.groupStart g) s = .next (((s.clrFlag (pgReg g.val 8) 0).clrFlag (pgReg g.val 8) 1).raise 132 g.val)) ∧
  (∀ (s : State) (g : Fin 32), s.flag (pgReg g.val 8) 0 = false → exec (.groupStart g) s = .next s) ∧
  (∀ (s : State) (a : Nat) (x : Seg) (r : List Seg), (s.prof a).q = x :: r → x.hold = true → (s.prof a).stopped = false → (s.prof a).seg = none →
    (s.prof a).st = 1 → (s.prof a).lastEnd = none →
    s.memberStart a = ((s.setProf a { s.prof a with q := r }).startSeg a { x with relPr := true }).writeSetp a) ∧
  (∀ (s : State) (a : Nat), (s.prof a).q = [] → (s.prof a).stopped = false → s.memberStart a = (s.setFlag (axf a) 6).raise 133 a) ∧
  (∀ (s : State) (a : Fin 256) (neg lv : Bool) (t : Nat), (s.prof a.val).limRaw.getD (b2n neg) false = lv →
    exec (.limitRawEdge a neg lv t) s = .next (s.at_ t)) ∧
  (∀ (s : State) (a : Fin 256) (neg lv : Bool) (t : Nat), (s.prof a.val).limRaw.getD (b2n neg) false ≠ lv →
    (s.prof a.val).limEdges.getD (b2n neg) [] = [] → ∃ p : ProfSt,
    exec (.limitRawEdge a neg lv t) s = .next ((s.at_ t).setProf a.val p) ∧ p.limRaw = (s.prof a.val).limRaw.set (b2n neg) lv ∧
    p.limAt = (s.prof a.val).limAt.set (b2n neg) (s.at_ t).ntime ∧ p.limCand = (s.prof a.val).limCand.set (b2n neg) (s.endedPos a.val) ∧
    p.limDeb = (s.prof a.val).limDeb ∧ p.chatter = (s.prof a.val).chatter) ∧
  (∀ (s : State) (a : Fin 256) (neg : Bool), (s.prof a.val).limDeb.getD (b2n neg) false ≠ (s.prof a.val).limRaw.getD (b2n neg) false →
    (s.prof a.val).limAt.getD (b2n neg) 0 + s.pn a.val 0x307 * 1000 ≤ s.bnd → (s.prof a.val).st ≠ 0xA → s.driven a.val = false →
    exec (.limitDebounce a neg) s = .next (s.setProf a.val { s.prof a.val with
      limDeb := (s.prof a.val).limDeb.set (b2n neg) ((s.prof a.val).limRaw.getD (b2n neg) false),
      limLatch := (s.prof a.val).limLatch.set (b2n neg) ((s.prof a.val).limCand.getD (b2n neg) 0) })) ∧
  (∀ (s : State) (a : Fin 256) (neg : Bool), s.bnd < (s.prof a.val).limAt.getD (b2n neg) 0 + s.pn a.val 0x307 * 1000 →
    exec (.limitDebounce a neg) s = .next s) ∧
  (∀ (s : State) (a : Fin 256), (s.prof a.val).st = 0xA → (s.prof a.val).home = 4 → s.pn a.val 0x30C ≤ (s.prof a.val).stallN → ∃ t : State,
    exec (.homeStallDetect a) s = .next t ∧ (t.prof a.val).home = 5 ∧ (t.prof a.val).stallN = 0) ∧
  (∀ (s : State) (a : Fin 256), (s.prof a.val).home ≠ 4 → exec (.homeStallDetect a) s = .next s)

/-- Cartridge commands (R425, R428): what each starts, or why it is turned away. -/
def Obligations.CartridgeCommands : Prop :=
  (∀ (s : State) (src : Src) (d : Desc) (j : CartJob), s.accepts src 0x70 d → d.tgt < 256 → s.holder = true → (s.cartChan d.tgt).isSome = true →
    (s.cax d.tgt).job = some j →
    exec (.cartAuth src d) s = .next (s.setCax d.tgt { s.cax d.tgt with
      queue := (s.cax d.tgt).queue ++ [{ kind := .auth, cmd := some (src, d) }] })) ∧
  (∀ (s : State) (src : Src) (d : Desc), s.accepts src 0x70 d → d.tgt < 256 → s.holder = true → (s.cartChan d.tgt).isSome = true →
    exec (.cartAuth src d) s = .next (s.cartEnqueue d.tgt { kind := .auth, cmd := some (src, d) })) ∧
  (∀ (s : State) (src : Src) (d : Desc), s.accepts src 0x70 d → d.tgt < 256 → s.holder = false →
    exec (.cartAuth src d) s = .next (s.complete src 0x70 d .ok (s.fld (cartReg d.tgt 0) 2 0))) ∧
  (∀ (s : State) (src : Src) (d : Desc), s.accepts src 0x71 d → d.tgt < 256 → (s.cartChan d.tgt).isSome = true → 1 ≤ d.op1.toNat →
    d.op0.toNat + d.op1.toNat ≤ 1024 →
    exec (.cartRead src d) s = .next (s.cartEnqueue d.tgt { kind := .read, cmd := some (src, d), off := d.op0.toNat, len := d.op1.toNat })) ∧
  (∀ (s : State) (src : Src) (d : Desc), s.accepts src 0x71 d → d.tgt < 256 → (s.cartChan d.tgt).isSome = true → 1024 < d.op0.toNat + d.op1.toNat →
    exec (.cartRead src d) s = .next (s.complete src 0x71 d .badOperand)) ∧
  (∀ (s : State) (src : Src) (d : Desc) (l : List Byte), s.accepts src 0x72 d → d.tgt < 256 → (s.cartChan d.tgt).isSome = true → 1 ≤ d.op1.toNat →
    0xC0 ≤ d.op0.toNat → d.op0.toNat + d.op1.toNat ≤ 0x400 → (s.cax d.tgt).auth = true →
    exec (.cartWrite src d (some l)) s = .next (s.cartEnqueue d.tgt {
      kind := .write, cmd := some (src, d), off := d.op0.toNat,
      len := d.op1.toNat, data := slice l 0 d.op1.toNat })) ∧
  (∀ (s : State) (src : Src) (d : Desc) (l : List Byte), s.accepts src 0x72 d → d.tgt < 256 → (s.cartChan d.tgt).isSome = true → 1 ≤ d.op1.toNat →
    0xC0 ≤ d.op0.toNat → d.op0.toNat + d.op1.toNat ≤ 0x400 → (s.cax d.tgt).auth = false →
    exec (.cartWrite src d (some l)) s = .next (s.complete src 0x72 d .authFail)) ∧
  (∀ (s : State) (src : Src) (d : Desc), s.accepts src 0x72 d → exec (.cartWrite src d none) s = .next (s.complete src 0x72 d .dmaFail)) ∧
  (∀ (s : State) (src : Src) (d : Desc) (t : List Byte), s.accepts src 0x73 d → policyOk (slice t 0 64) = true →
    exec (.cartPolicy src d (some t)) s = .next { s with host := { s.host with due := s.host.due ++
      [{ cyc := s.cycle + 1, src := src, opc := 0x73, desc := d, data := slice t 0 64 }] } }) ∧
  (∀ (s : State) (src : Src) (d : Desc) (t : List Byte), s.accepts src 0x73 d → policyOk (slice t 0 64) = false →
    exec (.cartPolicy src d (some t)) s = .next (s.complete src 0x73 d .badOperand)) ∧
  (∀ (s : State) (src : Src) (d : Desc), s.accepts src 0x74 d → (d.tgt < 256 ∨ d.tgt = 0xFFFF) → s.holder = true →
    s.cart.ax.any (fun e => e.2.auth) = false → exec (.cartFlush src d) s = .next (s.complete src 0x74 d .ok)) ∧
  (∀ (s : State) (src : Src) (d : Desc) (a : Nat) (x : CartAx), s.accepts src 0x74 d → d.tgt = 0xFFFF → s.holder = true → s.cart.ax = [(a, x)] →
    x.auth = true → exec (.cartFlush src d) s = .next
      (({ s with cart := { s.cart with flushes := s.cart.flushes ++ [(src, d, [a], false)] } } : State).askWb a))

/-- Cartridge events (R408, R410, R422, R423, R429, R432). -/
def Obligations.CartridgeEvents : Prop :=
  (∀ (s : State) (a : Fin 256) (m : List Byte), (s.cax a.val).job = none → exec (.tagResponse a m) s = .next s) ∧
  (∀ (s : State) (a : Fin 256) (m : List Byte) (j : CartJob), (s.cax a.val).job = some j → leAt m 0 1 ≠ leAt (s.cax a.val).msg 0 1 + 0x80 →
    exec (.tagResponse a m) s = .next s) ∧
  (∀ (s : State) (a : Fin 256) (m : List Byte) (j : CartJob), (s.cax a.val).job = some j → j.kind = .read → (s.cax a.val).msg ≠ [] →
    leAt m 0 1 = leAt (s.cax a.val).msg 0 1 + 0x80 → leAt m 1 1 = j.len + 1 → m.length = j.len + 3 → 1 ≤ j.len →
    leAt (m.drop 2) 0 1 = 0 → (s.cax a.val).got = [] → j.cmd = none →
    exec (.tagResponse a m) s = .next ((s.cartReply j .ok 0).cartEnd a.val)) ∧
  (∀ (s : State) (a : Fin 256) (j : CartJob), (s.cax a.val).job = some j → (s.cax a.val).sends < 3 →
    exec (.tagTimeout a) s = .next ((s.setCax a.val { s.cax a.val with sends := (s.cax a.val).sends + 1 }).cartTx a.val)) ∧
  (∀ (s : State) (a : Fin 256) (j : CartJob), (s.cax a.val).job = some j → 3 ≤ (s.cax a.val).sends → j.kind = .read →
    exec (.tagTimeout a) s = .next ((s.cartReply j .timeout 0).cartEnd a.val)) ∧
  (∀ (s : State) (a : Fin 256) (b : Bool), s.cartChan a.val = none → exec (.tagPresenceChange a b) s = .next s) ∧
  (∀ (s : State) (a : Fin 256), (s.cartChan a.val).isSome = true → s.cartPresent a.val = false → s.flag CART_CFG 0 = false →
    exec (.tagPresenceChange a true) s = .next (s.putFlag (cartReg a.val 0) 7 true)) ∧
  (∀ (s : State) (a : Fin 256), (s.cartChan a.val).isSome = true → s.cartPresent a.val = true → (s.cax a.val).job = none → (s.cax a.val).queue = [] →
    exec (.tagPresenceChange a false) s = .next ((((((s.putFlag (cartReg a.val 0) 7 false).setCax a.val { s.cax a.val with
      job := none, queue := [], msg := [], sends := 0, after := none }).cartState a.val 0).unAuth a.val).setClass a.val 1 false).cartRec a.val 3 0)) ∧
  (∀ (s : State) (n : Fin 4096), s.holder = false → (∀ p ∈ s.pilot.act.axes, p.node ≠ n.val) → exec (.removalWarning n) s = .next s) ∧
  (∀ (s : State) (a : Fin 256), s.flag CART_CFG 1 = false → exec (.writebackScheduled a) s = .next s) ∧
  (∀ (s : State) (a : Fin 256), s.flag CART_CFG 1 = true → (s.cax a.val).wbDone ≠ some s.wbIval → (s.cax a.val).auth = true → s.holder = true →
    exec (.writebackScheduled a) s = .next ((s.setCax a.val { s.cax a.val with wbDone := some s.wbIval }).askWb a.val)) ∧
  (∀ (s : State) (n : Fin 4096) (p : PlanAxis), s.holder = false → s.pilot.act.axes = [p] → p.isLocal = false → p.node = n.val →
    s.cartPresent p.axis = true → exec (.removalWarning n) s = .next (s.raise 212 p.axis)) ∧
  (∀ (s : State) (n : Fin 4096) (p : PlanAxis), s.holder = true → s.pilot.act.axes = [p] → p.isLocal = false → p.node = n.val →
    s.cartPresent p.axis = true → (s.cax p.axis).auth = false → bit (ofNat (s.node n.val).ncmd) 1 = false →
    exec (.removalWarning n) s = .next ((s.raise 212 p.axis).setNode n.val { s.node n.val with ncmd := (s.node n.val).ncmd + 2 }))

/-- Safety commands (R440, R441, R443, R471): an image for both channels, and their status. -/
def Obligations.SafetyCommands : Prop :=
  (∀ (s : State) (src : Src) (d : Desc) (i : List Byte), s.accepts src 0x80 d → s.isIC = true → d.op2 = 512 → imageOk s.mgrId (slice i 0 512) = true →
    s.digestOk (sha256 (slice i 0 512)) = true → s.safeState false = 2 → s.safeState true = 2 →
    exec (.safeConfigLoad src d (some i)) s = .next { s with safe := { s.safe with
      p := { s.safe.p with newImg := some (slice i 0 512) }, s := { s.safe.s with newImg := some (slice i 0 512) },
      load := some (src, d, sha256 (slice i 0 512)) } }) ∧
  (∀ (s : State) (src : Src) (d : Desc) (i : List Byte), s.accepts src 0x80 d → s.isIC = true → imageOk s.mgrId (slice i 0 512) = false →
    exec (.safeConfigLoad src d (some i)) s = .next ((s.raise 172 0).complete src 0x80 d .badOperand)) ∧
  (∀ (s : State) (src : Src) (d : Desc) (i : List Byte), s.accepts src 0x80 d → s.isIC = true → d.op2 = 512 → imageOk s.mgrId (slice i 0 512) = true →
    s.digestOk (sha256 (slice i 0 512)) = false →
    exec (.safeConfigLoad src d (some i)) s = .next ((s.raise 172 0).complete src 0x80 d .authFail)) ∧
  (∀ (s : State) (src : Src) (d : Desc), s.accepts src 0x80 d → exec (.safeConfigLoad src d none) s = .next (s.complete src 0x80 d .dmaFail)) ∧
  (∀ (s : State) (src : Src) (d : Desc), s.accepts src 0x81 d →
    exec (.safeStatus src d) s = .next (s.complete src 0x81 d .ok (s.rg SAFEP_B).toNat (s.rg SAFES_B).toNat))

/-- Inputs of the safety channels (R434, R446 to R449): filtered levels, discrepancies, test pulses. -/
def Obligations.SafetyInputs : Prop :=
  (∀ (s : State) (b : Bool) (k : Fin 16) (lv : Bool), s.safeState b ≠ 0 → s.chanOn b = true → ∃ c : SafeCh,
    exec (.safetyInputFilterChange b k lv) s = .next ((s.setSch b c).safeRegs b) ∧
    c = { s.sch b with filt := c.filt, discDem := c.discDem } ∧
    (∀ n : Fin 16, c.filt.testBit n.val = if n = k then lv else (s.sch b).filt.testBit n.val) ∧
    (∀ j : Fin 8, c.discDem.testBit j.val = ((s.sch b).disc.testBit j.val && ((s.sch b).discDem.testBit j.val ||
      (!c.filt.testBit (2 * j.val) && (c.filt.testBit (2 * j.val + 1) == imgAnti (s.sch b).img j.val)))))) ∧
  (∀ (s : State) (b : Bool) (j : Fin 8), s.safeState b = 3 → imgPairEn (s.sch b).img j.val = true → imgAnti (s.sch b).img j.val = false →
    (s.sch b).filt.testBit (2 * j.val) ≠ (s.sch b).filt.testBit (2 * j.val + 1) → (s.sch b).disc.testBit j.val = false →
    exec (.discrepancyTimeout b j) s = .next ((s.setSch b { s.sch b with
      disc := (s.sch b).disc + 2 ^ j.val,
      discDem := maskOf 8 (fun n => (s.sch b).discDem.testBit n && n != j.val) }).safeExt b j.val 167 j.val)) ∧
  (∀ (s : State) (k : Fin 4) (x y : BitVec 16), s.safeState (decide (2 ≤ k.val)) ≠ 3 → exec (.testPulse k x y) s = .next s) ∧
  (∀ (s : State) (k : Fin 4) (x y : BitVec 16), s.safeState (decide (2 ≤ k.val)) = 3 →
    (∀ n : Fin 16, imgSrc (s.sch (decide (2 ≤ k.val))).img n.val ≠ k.val + 1) →
    exec (.testPulse k x y) s = .next ((s.emit (.pin 12 k.val 0)).emit (.pin 12 k.val 1))) ∧
  (∀ (s : State) (b : Bool) (x : BitVec 16) (y : Byte), s.safeState b = 0 → exec (.safetyCycleStart b x y) s = .next s) ∧
  (∀ (s : State) (b : Bool) (x : BitVec 16) (y : Byte), s.safeState b ≠ 0 → s.chanOn b = true → (s.sch b).newImg = none →
    ∃ u v w : State, u = s.setSch b { s.sch b with cyc := ((s.sch b).cyc + 1) % 2 ^ 32, raw := x.toNat, sofb := y.toNat } ∧
    v = ((u.evalFuncs b).applyOutputs b).writePdu b ∧ w = (v.setSch b { v.sch b with word := v.resultWord b }).crossCheck b ∧
    ∃ c : SafeCh, exec (.safetyCycleStart b x y) s = .next ((w.setSch b c).safeRegs b) ∧ c.image = (w.sch b).filt ∧ c.cyc = (w.sch b).cyc ∧
      c.rel = (w.sch b).rel ∧ c.side = (w.sch b).side ∧ c.stog = (w.sch b).stog ∧ c.wait = (w.sch b).wait)

/-- Acknowledge, delays, outputs and faults of the channels (R435, R450, R452 to R457, R460, R465). -/
def Obligations.SafetyEvents : Prop :=
  (∀ (s : State) (b : Bool), s.safeState b = 3 → (imgAck (s.sch b).img).isSome = true → (s.sch b).ackStuck = false →
    (s.sch (!b)).word.acks = (s.sch b).acks + 1 → ∃ u : State, u = s.setSch b { s.sch b with
      wait := 0, acks := (s.sch b).acks + 1, ackStuck := false, ackLow := false, ackWait := none } ∧
    exec (.ackAccept b) s = .next ((((u.raise 164 (b2n b)).safeRec b 3 0).clearFaults b).safeRegs b)) ∧
  (∀ (s : State) (b : Bool) (k : Nat), s.safeState b = 3 → imgAck (s.sch b).img = some k → (s.sch b).filt.testBit k = true → (s.sch b).ackStuck = false →
    exec (.ackStuck b) s = .next ((s.setSch b { s.sch b with ackStuck := true, ackLow := false }).safeExt b 12 165 3)) ∧
  (∀ (s : State) (b : Bool) (w : Nat × Nat), (s.sch b).ackWait = some w →
    exec (.ackSplit b) s = .next (((((s.setSch b { s.sch b with wait := (s.sch b).wait ||| w.1, acks := (s.sch b).acks - 1, ackWait := none }).setFlag
      (safeB b + 0x14) 13).raise 165 (4 + b2n b * 0x10000)).safeRec b 4 0).safeRegs b)) ∧
  (∀ (s : State) (b : Bool), (s.sch b).ackWait = none → exec (.ackSplit b) s = .next s) ∧
  (∀ (s : State) (b : Bool) (f : Fin 16), ∃ c : SafeCh, exec (.ss1DelayExpiry b f) s = .next (s.setSch b c) ∧ c.ss1.testBit f.val = false ∧
    (∀ n, n < 16 → n ≠ f.val → c.ss1.testBit n = (s.sch b).ss1.testBit n) ∧ c.rel = (s.sch b).rel) ∧
  (∀ (s : State) (b : Bool) (m : Fin 4), s.safeState b = 3 → (s.sch b).outF.testBit m.val = false →
    exec (.readbackTimeout b m) s = .next ((s.setSch b { s.sch b with outF := (s.sch b).outF + 2 ^ m.val }).safeExt b (8 + m.val) 168 m.val)) ∧
  (∀ (s : State) (b : Bool) (m : Fin 4), s.safeState b = 3 → imgB (s.sch b).img (0xB0 + 4 * m.val) % 2 = 1 → (s.sch b).side.testBit m.val = true →
    exec (.darkTest b m true) s = .next ((s.emit (.pin 13 (2 * m.val + b2n b) 0)).emit (.pin 13 (2 * m.val + b2n b) 1))) ∧
  (∀ (s : State) (b : Bool) (m : Fin 4) (x : Bool), (s.sch b).side.testBit m.val = false → exec (.darkTest b m x) s = .next s) ∧
  (∀ (s : State), s.safeState false = 1 → exec (.safetySelftestDone false true) s = .next (((s.setFld SAFEP_B 3 0 2).raise 160 2).safeRec false 9 2)) ∧
  (∀ (s : State), s.safeState false = 1 → exec (.safetySelftestDone false false) s = .next (s.safeFault false 0x13)) ∧
  (∀ (s : State) (b : Bool), s.safeState b ≠ 0 → s.safeState b ≠ 4 → ∃ u : State, (u.sch b).side = 0 ∧ (u.sch b).stog = 0 ∧ (u.sch b).rel = 0 ∧
    exec (.safetyInternalFault b 1) s = .next ((((u.setFld (safeB b) 15 8 0x14).safeRec b 7 0x14).safeEnter b 4).safeDrop)) ∧
  (∀ (s : State) (b : Bool) (c : Fin 3), s.safeState b = 4 → exec (.safetyInternalFault b c) s = .next s) ∧
  (∀ (s : State) (g : Fin 16), s.safeState false ≠ 3 → exec (.stoReportCheck g) s = .next s) ∧
  (∀ (s : State) (g : Fin 16) (p : PlanAxis), s.safeState false = 3 → s.safe.p.stog.testBit g.val = false → s.pilot.act.axes = [p] → p.isLocal = false →
    imgAxg s.safe.p.img p.axis = some g.val → bit (ofNat (s.node p.node).nstat) 1 = false →
    exec (.stoReportCheck g) s = .next (s.raise 173 p.node))

/-- Acquisition commands (R475, R478, R481, R484, R487, R491, R493) and SOUND_FIRE and SNAP_DUMP (R495, R500). -/
def Obligations.AcquisitionCommands : Prop :=
  (∀ (s : State) (src : Src) (d : Desc) (m : List Byte) (ws : List (Nat × Bool × Nat × Bool)), s.accepts src 0x50 d → d.tgt < 8 → (s.log d.tgt).st = 0 →
    probeList 64 (slice m 0 256) = some ws → ws.length ≤ 64 → 1 ≤ d.op2.toNat → d.op2.toNat ≤ 0xFFFF → ∃ u : State,
    exec (.logConfig src d (some m)) s = .next (u.complete src 0x50 d .ok) ∧ (u.log d.tgt).list = ws ∧ (u.log d.tgt).dec = d.op2.toNat ∧
    (u.log d.tgt).st = 0 ∧ u.out = s.out ∧ u.host = s.host ∧ (∀ n, n ≠ d.tgt → u.log n = s.log n)) ∧
  (∀ (s : State) (src : Src) (d : Desc) (m : List Byte), s.accepts src 0x50 d → d.tgt < 8 → (s.log d.tgt).st ≠ 0 →
    exec (.logConfig src d (some m)) s = .next (s.complete src 0x50 d .busy)) ∧
  (∀ (s : State) (src : Src) (d : Desc), s.accepts src 0x50 d → exec (.logConfig src d none) s = .next (s.complete src 0x50 d .dmaFail)) ∧
  (∀ (s : State) (src : Src) (d : Desc), s.accepts src 0x51 d → d.tgt < 8 →
    exec (.logStart src d) s = .next { s with host := { s.host with due := s.host.due ++
      [{ cyc := s.cycle + 1, src := src, opc := 0x51, desc := d }] } }) ∧
  (∀ (s : State) (src : Src) (d : Desc), s.accepts src 0x52 d → d.tgt < 8 →
    exec (.logStop src d) s = .next { s with host := { s.host with due := s.host.due ++
      [{ cyc := s.cycle + 1, src := src, opc := 0x52, desc := d }] } }) ∧
  (∀ (s : State) (src : Src) (d : Desc) (m : List Byte), s.accepts src 0x53 d → d.tgt < 8 → d.op2.toNat < 64 → oneWord (s.log d.tgt) d.op2.toNat = true →
    (s.log d.tgt).m0.win = none → ∃ u : State,
    exec (.logMaskLoad src d (some m)) s = .next (u.complete src 0x53 d .ok) ∧
    (u.log d.tgt).m0 = { loaded := true, idx := d.op2.toNat, table := slice m 0 8192 } ∧ (u.log d.tgt).m1 = (s.log d.tgt).m1 ∧ u.out = s.out) ∧
  (∀ (s : State) (src : Src) (d : Desc), s.accepts src 0x54 d → d.tgt < 8 →
    exec (.logTrigger src d) s = .next ((s.logMark d.tgt s.cycle { time := s.ntime, code := 1, arg := d.op0.toNat % 65536, src := 1 }).complete
      src 0x54 d .ok)) ∧
  (∀ (s : State) (src : Src) (d : Desc), s.accepts src 0x54 d → 8 ≤ d.tgt →
    exec (.logTrigger src d) s = .next (s.complete src 0x54 d .badTarget)) ∧
  (∀ (s : State) (src : Src) (d : Desc), s.accepts src 0x55 d → s.evt.sound = [] → s.acq.sound = none → op64 d.op0 d.op1 % 8 = 0 →
    s.ntime + 1000 ≤ op64 d.op0 d.op1 → op64 d.op0 d.op1 ≤ s.ntime + 1000000000 → s.holder = false → ∃ t : State,
    exec (.soundFire src d) s = .next t ∧ t.acq.sound = some { t := op64 d.op0 d.op1, workers := false, cmd := some (src, d) } ∧ t.out = s.out ∧
    t.rg (SOUND_B + 8) = ofNat (op64 d.op0 d.op1)) ∧
  (∀ (s : State) (src : Src) (d : Desc) (x : Sounding), s.accepts src 0x55 d → s.evt.sound = [] → s.acq.sound = some x → op64 d.op0 d.op1 % 8 = 0 →
    op64 d.op0 d.op1 ≤ s.ntime + 1000000000 → exec (.soundFire src d) s = .next (s.complete src 0x55 d .busy)) ∧
  (∀ (s : State) (src : Src) (d : Desc), s.accepts src 0x56 d → (d.tgt = 7 ∨ 0x14 < d.tgt) →
    exec (.snapDump src d) s = .next (s.complete src 0x56 d .badTarget)) ∧
  (∀ (s : State) (src : Src) (d : Desc), s.accepts src 0x56 d → d.tgt ≤ 0x14 → d.tgt ≠ 7 → s.ringRoom 31 = false → s.acq.dumps = [] → ∃ j : DumpJob,
    exec (.snapDump src d) s = .next { s with acq := { s.acq with dumps := [j] } } ∧ j.src = src ∧ j.desc = d ∧ j.n = 0 ∧
    j.rest.take 1 = leBytes 1 d.tgt)

/-- Acquisition events (R480, R483, R490) and the latch of a sounding (R495, R498). -/
def Obligations.AcquisitionEvents : Prop :=
  (∀ (s : State) (n : Fin 8), (s.log n.val).cyc = [] → exec (.logSample n) s = .next s) ∧
  (∀ (s : State) (n : Fin 8) (x : LogCyc), (s.log n.val).cyc = [x] → x.sample = true → x.words = none → x.closed = false →
    exec (.logSample n) s = .next ((s.setLog n.val { s.log n.val with cyc := [{ x with words := some (s.probeWords (s.log n.val)) }] }).logRegs n.val)) ∧
  (∀ (s : State) (n : Fin 8), 2 ≤ (s.log n.val).st → (s.log n.val).armed = false → s.flag (logReg n.val 4) 5 = true →
    (s.rg (logReg n.val 0xC)).toNat ≤ (s.log n.val).ignored →
    exec (.logRearm n) s = .next ((s.setLog n.val { s.log n.val with armed := true }).logRegs n.val)) ∧
  (∀ (s : State) (n : Fin 8), (s.log n.val).armed = true → exec (.logRearm n) s = .next s) ∧
  (∀ (s : State) (n : Fin 8), (s.log n.val).next = none → exec (.logResizeGap n) s = .next s) ∧
  (∀ (s : State) (n : Fin 8) (ps : List Nat), (s.log n.val).next = some ps → (s.log n.val).staged = [] → (s.log n.val).st = 2 →
    (∀ k : Fin 8, k ≠ n → ∀ p ∈ (s.log k.val).pages, p ∉ ps) →
    exec (.logResizeGap n) s = .next ((s.setLog n.val { s.log n.val with pages := ps, next := none, why := 2 }).logRegs n.val)) ∧
  (∀ (s : State) (l : List Byte), s.acq.sound = none → exec (.soundingLatch l) s = .next s) ∧
  (∀ (s : State) (l : List Byte) (x : Sounding), s.acq.sound = some x → x.t < s.bnd + s.tCyc → x.cmd = none → s.acq.dumps = [] →
    s.flag SOUND_CFG 1 = false → ∃ u : State, exec (.soundingLatch l) s = .next (u.raise 200 0) ∧ u.acq.sound = none ∧
    u.rg (SOUND_B + 0x10) = ofNat ((s.rg (SOUND_B + 0x10)).toNat + 1) ∧ u.fld SOUND_STAT 2 0 = 0 ∧ u.out = s.out ∧ u.acq.log = s.acq.log)

/-- The dispatcher's CSRs (R509, R514, R518, R519, R521, R527, Table 14.2): what a hart's reads and writes do. -/
def Obligations.DispatcherCsrs : Prop :=
  (∀ (s : State) (h : Fin 4), 256 ≤ s.runOf h.val → exec (.xdspPreempt h) s = .next s ∧ exec (.xdspYield h) s = .next s ∧
    exec (.xdspWait h) s = .next s ∧ exec (.xdspStop h) s = .next s) ∧
  (∀ (s : State) (h : Fin 4), s.runOf h.val < 256 → s.thEn (s.runOf h.val) = true → ∃ u : State, u = (s.setRun h.val 256).incFld
    (thCfg (s.runOf h.val) + 0x24) 31 0 1 ∧ exec (.xdspPreempt h) s = .next { u with cpu := { u.cpu with
      ready := s.runOf h.val :: s.cpu.ready.filter (fun x => x != s.runOf h.val),
      readyAt := Tab.set 0 s.cpu.readyAt (s.runOf h.val) s.ntime } }) ∧
  (∀ (s : State) (h : Fin 4), s.runOf h.val < 256 → s.thEn (s.runOf h.val) = true →
    exec (.xdspYield h) s = .next { s.setRun h.val 256 with cpu := { (s.setRun h.val 256).cpu with
      ready := s.cpu.ready.filter (fun x => x != s.runOf h.val) ++ [s.runOf h.val],
      readyAt := Tab.set 0 s.cpu.readyAt (s.runOf h.val) s.ntime } }) ∧
  (∀ (s : State) (h : Fin 4), s.runOf h.val < 256 → s.thEn (s.runOf h.val) = true → waitInvalid (s.runOf h.val) (s.tokens (s.runOf h.val)) = true →
    exec (.xdspWait h) s = .next ((s.setRun h.val 256).setFlag CPU_FLAGS 5)) ∧
  (∀ (s : State) (h : Fin 4), s.runOf h.val < 256 → s.thEn (s.runOf h.val) = true → waitInvalid (s.runOf h.val) (s.tokens (s.runOf h.val)) = false →
    (s.tokens (s.runOf h.val)).all (fun k => tokKind k == 0) = false →
    exec (.xdspWait h) s = .next (({ s.setRun h.val 256 with cpu := { (s.setRun h.val 256).cpu with waits := s.cpu.waits ++
      [{ thread := s.runOf h.val, toks := s.tokens (s.runOf h.val), matched := [false, false, false, false],
         any := s.flag (thCfg (s.runOf h.val)) 12, wake := (s.rg (thCfg (s.runOf h.val) + 0xC)).toNat }] } } : State).tokenEdge none)) ∧
  (∀ (s : State) (h : Fin 4), s.runOf h.val < 256 → exec (.xdspStop h) s = .next (s.setRun h.val 256)) ∧
  (∀ (s : State) (h : Fin 4) (t : Nat), s.hartServed h.val = true → s.bestThread h.val = some t → t < 256 → ∃ u : State,
    exec (.xdspDispatch h) s = .next (u.emit (.read (1 + h.val) 0x100007C0 (t + u.prio t * 256 + 2 ^ 31))) ∧ u.runOf h.val = t ∧
    t ∉ u.cpu.ready ∧ u.out = s.out) ∧
  (∀ (s : State) (h : Fin 4), (s.hartServed h.val = false ∨ s.bestThread h.val = none) →
    exec (.xdspDispatch h) s = .next (s.emit (.read (1 + h.val) 0x100007C0 0))) ∧
  (∀ (s : State) (h : Fin 4) (e : Nat) (r : List (Nat × Nat)), s.evt.hpend = (h.val, e) :: r → (h.val, e) ∉ r →
    exec (.xevtclaim h) s = .next (({ s with evt := { s.evt with hpend := r } } : State).emit (.read (1 + h.val) 0x100007C2 (e + 2 ^ 31)))) ∧
  (∀ (s : State) (h : Fin 4), (∀ p ∈ s.evt.hpend, p.1 ≠ h.val) → exec (.xevtclaim h) s = .next (s.emit (.read (1 + h.val) 0x100007C2 0))) ∧
  (∀ (s : State) (h : Fin 4), exec (.xwdt h) s = .next { s with cpu := { s.cpu with wdtAt := Tab.set 0 s.cpu.wdtAt h.val s.ntime } }) ∧
  (∀ (s : State) (h : Fin 4), exec (.xntimel h) s = .next (({ s with cpu := { s.cpu with
    ntLatch := Tab.set 0 s.cpu.ntLatch h.val (s.ntime / 2 ^ 32 % 2 ^ 32) } } : State).emit (.read (1 + h.val) 0x10000CC0 (s.ntime % 2 ^ 32))))

/-- Edges, threads, semaphores, mailboxes and command ports (R18, R24, R513, R515, R518, R521, R523 to R525), customer harts (R509),
and a CK_CPU cycle of a hart (R504 to R511, in the form of assumption log 69). -/
def Obligations.ClusterCommands : Prop :=
  (∀ (s : State), s.cpu.waits = [] → exec (.tokenMatch none) s = .next s) ∧
  (∀ (s : State) (w : Wait), s.cpu.waits = [w] → w.toks.all (fun k => tokKind k == 1) = true → w.matched = [false, false, false, false] →
    w.toks.length = 4 → exec (.tokenMatch none) s = .next s) ∧
  (∀ (s : State), s.cpu.waits = [] → exec .dispatchTick s = .next { s with ntime := (s.ntime / 1000 + 1) * 1000 }) ∧
  (∀ (s : State) (v : Word), s.isStopped (bits v 7 0) = true → s.thEn (bits v 7 0) = true →
    exec (.dspStart v) s = .next { s with cpu := { s.cpu with
      ready := s.cpu.ready.filter (fun x => x != bits v 7 0) ++ [bits v 7 0],
      readyAt := Tab.set 0 s.cpu.readyAt (bits v 7 0) s.ntime } }) ∧
  (∀ (s : State) (v : Word), s.isStopped (bits v 7 0) = false → exec (.dspStart v) s = .next s) ∧
  (∀ (s : State) (v : Word), exec (.dspStop v) s = .next { s with cpu := { s.cpu with
    ready := s.cpu.ready.filter (fun x => x != bits v 7 0), waits := s.cpu.waits.filter (fun w => w.thread != bits v 7 0) } }) ∧
  (∀ (s : State) (a : Agent) (n : Fin 256) (v : Word), (128 ≤ n.val ∨ isSuper a = true) → s.cpu.waits = [] →
    Tab.get 0 s.cpu.sem n.val + v.toNat ≤ 65535 →
    exec (.semaphorePost a n v) s = .next { s with cpu := { s.cpu with
      sem := Tab.set 0 s.cpu.sem n.val (Tab.get 0 s.cpu.sem n.val + v.toNat) } }) ∧
  (∀ (s : State) (n : Fin 256) (v : Word), n.val < 128 →
    exec (.semaphorePost .host n v) s = .next ((s.setFlag HOST_ERR 2).setRg HOST_ERR_ADDR (ofNat (CPU_B + 0x6000 + n.val * 4)))) ∧
  (∀ (s : State) (a : Agent) (m : Fin 64) (v : Word), (32 ≤ m.val ∨ isSuper a = true) → s.cpu.waits = [] → (Tab.get [] s.cpu.mbx m.val).length < 8 →
    exec (.mailboxAppend a m v) s = .next { s with cpu := { s.cpu with
      mbx := Tab.set [] s.cpu.mbx m.val (Tab.get [] s.cpu.mbx m.val ++ [v.toNat]) } }) ∧
  (∀ (s : State) (a : Agent) (m : Fin 64) (v : Word), (32 ≤ m.val ∨ isSuper a = true) → 8 ≤ (Tab.get [] s.cpu.mbx m.val).length →
    exec (.mailboxAppend a m v) s = .next (s.setFlag CPU_FLAGS 7)) ∧
  (∀ (s : State) (a : Agent) (t : Fin 256) (v : Word), (128 ≤ t.val ∨ isSuper a = true) →
    bits v 15 12 ≤ 4 → bits v 31 28 ≤ 4 → ∃ w : Word, exec (.threadBlockWrite a t 1 v) s = .next (s.setRg (thCfg t.val + 4) w) ∧
    bits w 7 0 = bits v 7 0 ∧ bits w 11 8 = 0 ∧ bits w 15 12 = bits v 15 12 ∧ bits w 23 16 = bits v 23 16 ∧ bits w 27 24 = 0 ∧
    bits w 31 28 = bits v 31 28) ∧
  (∀ (s : State) (a : Agent) (t : Fin 256) (v : Word), (128 ≤ t.val ∨ isSuper a = true) → 4 < bits v 15 12 → bits v 31 28 ≤ 4 → ∃ w : Word,
    exec (.threadBlockWrite a t 1 v) s = .next ((s.setFlag CPU_FLAGS 0).setRg (thCfg t.val + 4) w) ∧
    bits w 15 0 = bits (s.rg (thCfg t.val + 4)) 15 0 ∧ bits w 23 16 = bits v 23 16 ∧ bits w 31 28 = bits v 31 28) ∧
  (∀ (s : State) (a : Agent) (t : Fin 256) (v : Word), (128 ≤ t.val ∨ isSuper a = true) → v.getLsbD 13 = false → ∃ u : State,
    exec (.threadBlockWrite a t 0 v) s = .next u ∧ u.rg (thCfg t.val) = v &&& 0x3F1F ∧ t.val ∉ u.cpu.ready ∧ (∀ w ∈ u.cpu.waits, w.thread ≠ t.val)) ∧
  (∀ (s : State) (h : Fin 2) (t : Fin 256) (k : Fin 16) (v : Word), t.val < 128 →
    exec (.threadBlockWrite (.hart (if h = 0 then 2 else 3)) t k v) s = .next (s.setFlag CPU_FLAGS 1)) ∧
  (∀ (s : State) (p : Fin 2) (v : Word), s.flag (cPort p.val + 0x30) 0 = false →
    exec (.commandPortSubmit p v) s = .next (({ s with cpu := { s.cpu with
      portQ := s.cpu.portQ ++ [(p.val, (s.portDesc p.val v).1, (s.portDesc p.val v).2)] } } : State).setFlag (cPort p.val + 0x30) 0)) ∧
  (∀ (s : State) (p : Fin 2) (v : Word), s.flag (cPort p.val + 0x30) 0 = true → exec (.commandPortSubmit p v) s = .next (s.setFlag CPU_FLAGS 8)) ∧
  (∀ (s : State) (v : Word), v.getLsbD 2 = true → v.getLsbD 3 = false → s.cpu.custImage = false →
    exec (.cpuHrstWrite v) s = .next ((((s.setFlag (CPU_B + 0x10) 2).setRun 2 256).hartAt 2 s.custEntry).recordReset 6)) ∧
  (∀ (s : State) (h : Fin 2), s.flag (CPU_B + 0x8 + h.val * 4) 31 = true → s.cpu.custImage = false →
    exec (.customerHartWatchdog h) s = .next ((((s.setRun (2 + h.val) 256).hartAt (2 + h.val) s.custEntry).recordReset 6).raise 248 (2 + h.val))) ∧
  (∀ (s : State) (h : Fin 2), s.flag (CPU_B + 0x8 + h.val * 4) 31 = false → exec (.customerHartWatchdog h) s = .next s) ∧
  (∀ (s : State) (h : Fin 4), s.hartClocked h.val = false → exec (.tokenMatch (some h)) s = .next (s.tokenEdge none)) ∧
  (∀ (s u v : State) (h : Fin 4), s.hartClocked h.val = true → u = s.setHart h.val { s.hart h.val with mcycle := ((s.hart h.val).mcycle + 1) % 2 ^ 64 } →
    v = u.setHart h.val { u.hart h.val with wfi := false } → u.irqs h.val = 0 → (u.hart h.val).wfi = false →
    exec (.tokenMatch (some h)) s = .next ((match v.runFetched h.val with
      | .ok t => t.setHart h.val { t.hart h.val with minstret := ((t.hart h.val).minstret + 1) % 2 ^ 64 }
      | .trap t c x => t.hartTrap h.val c x).tokenEdge none)) ∧
  (∀ (s u v : State) (h : Fin 4), s.hartClocked h.val = true → u = s.setHart h.val { s.hart h.val with mcycle := ((s.hart h.val).mcycle + 1) % 2 ^ 64 } →
    v = u.setHart h.val { u.hart h.val with wfi := false } → u.irqs h.val ≠ 0 → ((v.hart h.val).machine = false ∨ bit (v.hart h.val).mstatus 3 = true) →
    exec (.tokenMatch (some h)) s =
      .next ((v.setHart h.val ((v.hart h.val).trap true (if bit (u.irqs h.val) 17 then 17 else 16) 0)).tokenEdge none)) ∧
  (∀ (s : State) (h : Nat) (w next : Word), bits w 6 0 = 0x13 → bits w 14 12 = 0 → s.runInstr h w next = .ok (s.setHart h {
    ((s.hart h).setX (bits w 11 7) ((s.hart h).getX (bits w 19 15) + ofInt (immI w))) with pc := next })) ∧
  (∀ (s : State) (h g : Fin 4) (addr v : Nat), (s.sramStore h.val addr v).sramWord addr = v ∧
    (g ≠ h → (∀ l ∈ ((s.sramStore h.val addr v).hart g.val).dcache, l.1 ≠ addr / 32) ∧
      ((s.sramStore h.val addr v).hart g.val).resv ≠ some ((addr - 0x10000000) / 4)))

/-- CAN_TX, its frame's way over the bus, and the aborts (R541, R546 to R549, R553): what each command and event completes with. -/
def Obligations.CanTransmission : Prop :=
  (∀ (s : State) (n : Fin 4) (r : Fin 32) (d : Desc), r.val = 18 + n.val → s.accepts (.ring r) 0x60 d → s.powered 6 = true → d.tgt < 64 →
    s.flag (mbCfg n.val d.tgt) 0 = true → s.flag (mbCfg n.val d.tgt) 1 = true → (s.canB n.val d.tgt).tx = none → s.canAct n.val ≠ 2 →
    bits d.op0 31 30 = 0 → (d.op0.getLsbD 29 = true ∨ bits d.op0 17 0 = 0) → d.op1.toNat ≤ 8 → ∃ t : State,
    exec (.canTx (.ring r) d none) s = .next t ∧ t.out = s.out ∧ t.host = s.host ∧ t.flag (mbStat n.val d.tgt) 0 = true ∧
    (t.canB n.val d.tgt).tx = some {
      src := .ring r, desc := d, idw := d.op0.toNat, len := d.op1.toNat, rtr := false, single := false,
      data := slice (leBytes 4 d.op2.toNat ++ leBytes 4 d.op3.toNat ++ leBytes 4 d.op4.toNat ++ leBytes 4 d.op5.toNat) 0 d.op1.toNat } ∧
    (∀ b, b ≠ d.tgt → t.canB n.val b = s.canB n.val b) ∧ (∀ m, m ≠ n.val → t.canC m = s.canC m)) ∧
  (∀ (s : State) (n : Fin 4) (r : Fin 32) (d : Desc), r.val = 18 + n.val → s.accepts (.ring r) 0x60 d → s.powered 6 = true → d.tgt < 64 →
    s.flag (mbCfg n.val d.tgt) 0 = true → s.flag (mbCfg n.val d.tgt) 1 = true → (s.canC n.val).bufs = [] → s.canAct n.val = 2 →
    s.canEst n.val = 0 → s.canTec n.val < 256 → s.flag (canStat n.val) 5 = false → s.holder = true → (s.canC n.val).sleep = none →
    bits d.op0 31 30 = 0 → (d.op0.getLsbD 29 = true ∨ bits d.op0 17 0 = 0) → d.op1.toNat ≤ 8 → ∃ t : State,
    exec (.canTx (.ring r) d none) s = .next t ∧ t.canAct n.val = 4 ∧ t.host = s.host ∧
    t.out = s.out ++ [.can n.val d.op0.toNat d.op1.toNat
      (slice (leBytes 4 d.op2.toNat ++ leBytes 4 d.op3.toNat ++ leBytes 4 d.op4.toNat ++ leBytes 4 d.op5.toNat) 0 d.op1.toNat)]) ∧
  (∀ (s : State) (n : Fin 4) (r : Fin 32) (d : Desc) (x : CanTx), r.val = 18 + n.val → s.accepts (.ring r) 0x60 d → s.powered 6 = true → d.tgt < 64 →
    s.flag (mbCfg n.val d.tgt) 0 = true → s.flag (mbCfg n.val d.tgt) 1 = true → (s.canB n.val d.tgt).tx = some x →
    bits d.op0 31 30 = 0 → (d.op0.getLsbD 29 = true ∨ bits d.op0 17 0 = 0) → d.op1.toNat ≤ 8 →
    exec (.canTx (.ring r) d none) s = .next s) ∧
  (∀ (s : State) (n : Fin 4) (r : Fin 32) (d : Desc) (l : Option (List Byte)), r.val = 18 + n.val → s.accepts (.ring r) 0x60 d → s.powered 6 = true →
    d.tgt < 64 → s.flag (mbCfg n.val d.tgt) 1 = false →
    exec (.canTx (.ring r) d l) s = .next (s.complete (.ring r) 0x60 d .badTarget)) ∧
  (∀ (s : State) (n : Fin 4) (r : Fin 32) (d : Desc) (l : Option (List Byte)), r.val = 18 + n.val → s.accepts (.ring r) 0x60 d → s.powered 6 = false →
    exec (.canTx (.ring r) d l) s = .next (s.complete (.ring r) 0x60 d .pdOff)) ∧
  (∀ (s : State) (n : Fin 4) (ts cyc : Word) (k : BitVec 7) (b : Nat) (x : CanTx), s.canActive n.val = some (b, x) →
    (s.canB n.val b).tx = some x → (s.canB n.val b).front = none → x.idw < 2 ^ 30 →
    s.flag (canReg n.val 0) 8 = false → s.canEst n.val = 0 → s.canTec n.val < 128 → (s.canC n.val).recv < 128 → s.flag (canStat n.val) 6 = false →
    b < 64 → ∃ u : State, exec (.canFrameSent n ts cyc k) s = .next ((u.complete x.src 0x60 x.desc .ok ts.toNat (min 255 x.att)).canIdle n.val) ∧
    (u.canB n.val b).tx = none ∧ (u.canB n.val b).colls = 0 ∧ u.flag (mbStat n.val b) 0 = false ∧ u.canTec n.val = s.canTec n.val - 1 ∧
    u.rg (canReg n.val 0x1C) = ofNat (satAdd (2 ^ 32 - 1) (s.rg (canReg n.val 0x1C)).toNat 1) ∧ u.out = s.out ∧ u.host = s.host) ∧
  (∀ (s : State) (n : Fin 4) (b : Nat) (x : CanTx), s.canActive n.val = some (b, x) → x.single = false → x.abort = false →
    exec (.canArbitrationLost n) s = .next ((s.setCanB n.val b { s.canB n.val b with tx := some { x with active := false } }).setCanAct n.val 3)) ∧
  (∀ (s : State) (n : Fin 4) (b : Nat) (x : CanTx), s.canActive n.val = some (b, x) →
    (s.canB n.val b).tx = some x → x.single = true → s.flag (canStat n.val) 6 = false →
    exec (.canArbitrationLost n) s = .next (((s.setCanB n.val b { s.canB n.val b with tx := none }).complete x.src 0x60 x.desc .timeout 0 (2 ^ 28)).setCanAct
      n.val 3)) ∧
  (∀ (s : State) (n : Fin 4) (v : Word) (x : CanTx), s.powered 6 = true → (s.canB n.val (bits v 5 0)).tx = some x → x.active = false →
    s.flag (canStat n.val) 6 = false → exec (.canMbAbort n v) s =
      .next ((s.setCanB n.val (bits v 5 0) { s.canB n.val (bits v 5 0) with tx := none }).complete x.src 0x60 x.desc .busy 0 (2 ^ 31))) ∧
  (∀ (s : State) (n : Fin 4) (v : Word) (x : CanTx), s.powered 6 = true → (s.canB n.val (bits v 5 0)).tx = some x → x.active = true →
    exec (.canMbAbort n v) s =
      .next (s.setCanB n.val (bits v 5 0) { s.canB n.val (bits v 5 0) with tx := some { x with abort := true } })) ∧
  (∀ (s : State) (n : Fin 4) (b : Fin 64), (s.canB n.val b.val).backoff = true → s.canAct n.val ≠ 2 →
    exec (.canBackoffEnd n b) s = .next (s.setCanB n.val b.val { s.canB n.val b.val with backoff := false, colls := 0 }))

/-- Errors, bus-off and recovery (R550 to R552). -/
def Obligations.CanErrors : Prop :=
  (∀ (s : State) (n : Fin 4), s.powered 6 = true → s.canAct n.val = 2 → s.canEst n.val = 0 → s.canActive n.val = none → s.canTec n.val < 128 →
    (s.canC n.val).recv < 127 → s.flag (canStat n.val) 5 = false → ∃ t : State, exec (.canBusError n .rx) s = .next t ∧
    (t.canC n.val).recv = (s.canC n.val).recv + 1 ∧ t.fld (canEcnt n.val) 23 16 = (s.canC n.val).recv + 1 ∧ t.canTec n.val = s.canTec n.val ∧
    t.rg (canReg n.val 0x28) = ofNat (satAdd (2 ^ 32 - 1) (s.rg (canReg n.val 0x28)).toNat 1) ∧ t.out = s.out ∧ t.canEst n.val = 0) ∧
  (∀ (s : State) (n : Fin 4) (b : Nat) (x : CanTx), s.powered 6 = true → s.canAct n.val = 4 → s.canEst n.val = 0 → s.canActive n.val = some (b, x) →
    120 ≤ s.canTec n.val → s.canTec n.val < 128 → (s.canC n.val).recv < 128 → s.flag (canStat n.val) 5 = false → x.single = false → x.abort = false →
    ∃ u : State, exec (.canBusError n .tx) s = .next (((u.raise (176 + 4 * n.val) 1).canFailed n.val 2).canIdle n.val) ∧ u.canEst n.val = 1 ∧
    u.flag (canFlags n.val) 2 = true ∧ u.canTec n.val = s.canTec n.val + 8 ∧ u.out = s.out ∧ u.canB n.val b = s.canB n.val b) ∧
  (∀ (s : State) (n : Fin 4), 256 ≤ s.canTec n.val → s.canEst n.val ≠ 2 → s.canActive n.val = none → s.canReady n.val = [] → s.canInit n.val = false →
    ∃ u : State, exec (.canBusOff n) s = .next ((u.raise (176 + 4 * n.val) 2).canDropSleep n.val) ∧ u.canEst n.val = 2 ∧ u.flag (canFlags n.val) 3 = true ∧
    u.canAct n.val = (if s.flag (canReg n.val 0) 4 = true then 6 else 2) ∧ u.out = s.out ∧ u.host = s.host ∧ u.can = s.can) ∧
  (∀ (s : State) (n : Fin 4) (b : Nat) (x : CanTx), b < 64 → 256 ≤ s.canTec n.val → s.canEst n.val ≠ 2 → s.canActive n.val = some (b, x) →
    ∃ u : State, exec (.canBusOff n) s = .next ((u.raise (176 + 4 * n.val) 2).canDropSleep n.val) ∧ u.canEst n.val = 2 ∧
    u.flag (canStat n.val) 6 = true ∧ u.fld (canStat n.val) 12 7 = b ∧ (u.canB n.val b).tx = some { x with active := false } ∧ u.out = s.out) ∧
  (∀ (s : State) (n : Fin 4) (src : Src) (d : Desc), s.canAct n.val = 6 → (s.canC n.val).recover = some (src, d) → ∃ u : State,
    exec (.canRecoveryComplete n) s = .next (((u.raise (176 + 4 * n.val) 0).complete src 0x61 d .ok 0).canKick n.val) ∧ u.canAct n.val = 2 ∧
    u.canEst n.val = 0 ∧ u.rg (canEcnt n.val) = 0 ∧ u.canC n.val = { s.canC n.val with recv := 0, recover := none } ∧ u.out = s.out ∧ u.host = s.host) ∧
  (∀ (s : State) (src : Src) (d : Desc), s.accepts src 0x61 d → d.tgt < 4 → s.powered 6 = true → s.canEst d.tgt = 2 → s.canAct d.tgt ≠ 5 →
    s.canAct d.tgt ≠ 6 → (s.canC d.tgt).recover = none → s.canInit d.tgt = false →
    exec (.canRecover src d) s = .next ((s.setCanC d.tgt { s.canC d.tgt with recover := some (src, d) }).setCanAct d.tgt 6)) ∧
  (∀ (s : State) (src : Src) (d : Desc), s.accepts src 0x61 d → d.tgt < 4 → s.powered 6 = true → s.canEst d.tgt ≠ 2 → s.canAct d.tgt ≠ 5 →
    s.canAct d.tgt ≠ 6 → (s.canC d.tgt).recover = none → exec (.canRecover src d) s = .next (s.complete src 0x61 d .ok (s.canEst d.tgt))) ∧
  (∀ (s : State) (src : Src) (d : Desc), s.accepts src 0x61 d → d.tgt < 4 → s.powered 6 = true → (s.canAct d.tgt = 5 ∨ s.canAct d.tgt = 6) →
    exec (.canRecover src d) s = .next (s.complete src 0x61 d .busy))

/-- Reception and the receive buffers (R541 to R545). -/
def Obligations.CanReception : Prop :=
  (∀ (s : State) (n : Fin 4) (f : CanBits) (b : Nat), s.powered 6 = true → s.canAct n.val = 2 → s.canEst n.val ≠ 2 → f.idw.getLsbD 30 = false →
    (s.canC n.val).recv = 0 → (s.canC n.val).bufs = [] → s.canInit n.val = false →
    (List.range 64).find? (fun b => s.canMatch n.val b (frameOf f false)) = some b → s.flag (mbCfg n.val b) 2 = false → ∃ t : State,
    exec (.canFrameReceived n f) s = .next t ∧ (t.canB n.val b).front = some (frameOf f false) ∧ t.flag (mbStat n.val b) 0 = true ∧
    t.rg (canReg n.val 0x20) = ofNat (satAdd (2 ^ 32 - 1) (s.rg (canReg n.val 0x20)).toNat 1) ∧ t.canAct n.val = 2 ∧ t.out = s.out ∧ t.host = s.host) ∧
  (∀ (s : State) (n : Fin 4) (f : CanBits), s.powered 6 = true → s.canAct n.val = 4 → s.canEst n.val ≠ 2 → f.idw.getLsbD 30 = false →
    (s.canC n.val).recv = 0 → (List.range 64).find? (fun b => s.canMatch n.val b (frameOf f false)) = none →
    exec (.canFrameReceived n f) s = .next (s.setFlag (canFlags n.val) 9)) ∧
  (∀ (s : State) (n : Fin 4) (f g h : CanFrame) (x : CanBits) (b : Nat), s.powered 6 = true → s.canAct n.val = 4 → s.canEst n.val ≠ 2 →
    x.idw.getLsbD 30 = false → (s.canC n.val).recv = 0 → f = frameOf x false → (List.range 64).find? (fun b => s.canMatch n.val b f) = some b →
    (s.canB n.val b).front = some g → (s.canB n.val b).shadow = some h → s.flag (mbCfg n.val b) 3 = false → ∃ u : State,
    exec (.canFrameReceived n x) s = .next (u.raise (179 + 4 * n.val) b) ∧ u.flag (mbStat n.val b) 7 = true ∧ u.flag (canFlags n.val) 4 = true ∧
    u.rg (canReg n.val 0x24) = ofNat (satAdd (2 ^ 32 - 1) (s.rg (canReg n.val 0x24)).toNat 1) ∧ u.canB n.val b = s.canB n.val b ∧ u.out = s.out) ∧
  (∀ (s : State) (n : Fin 4) (b : Nat) (x : CanBuf) (f : CanFrame), (s.canC n.val).bufs = [(b, x)] → x.front = some f → x.shadow = none →
    s.flag (mbCfg n.val b) 2 = true → s.ringRoomN (22 + n.val) (chunks (s.esize (22 + n.val)) 16 (canRecord b (s.canC n.val).lostRec f)).length = true →
    exec (.canRxToRing n) s = .next (((chunks (s.esize (22 + n.val)) 16 (canRecord b (s.canC n.val).lostRec f)).foldl
      (fun (s : State) e => s.pushRing (22 + n.val) e) (s.setCanC n.val { s.canC n.val with lostRec := 0 })).canPop n.val b)) ∧
  (∀ (s : State) (n : Fin 4) (v : Word) (f : CanFrame), s.powered 6 = true → s.flag (mbCfg n.val (bits v 5 0)) 1 = false →
    s.flag (mbCfg n.val (bits v 5 0)) 2 = false → (s.canB n.val (bits v 5 0)).front = some f →
    exec (.canMbLock n v) s = .next (s.setCanB n.val (bits v 5 0) { s.canB n.val (bits v 5 0) with locked := true }) ∧
    exec (.canMbRel n v) s = .next (s.setCanB n.val (bits v 5 0) { s.canB n.val (bits v 5 0) with
      front := (s.canB n.val (bits v 5 0)).shadow, shadow := none, locked := false })) ∧
  (∀ (s : State) (n : Fin 4) (v : Word), s.powered 6 = true → (s.flag (mbCfg n.val (bits v 5 0)) 1 = true ∨ (s.canB n.val (bits v 5 0)).front = none) →
    exec (.canMbLock n v) s = .next (s.setFlag (canFlags n.val) 1) ∧ exec (.canMbRel n v) s = .next (s.setFlag (canFlags n.val) 1))

/-- INIT, integration, the helm, sleep and wake (R532 to R534, R538, R554 to R557). -/
def Obligations.CanModes : Prop :=
  (∀ (s : State) (n : Fin 4) (v : Word), s.powered 6 = true → s.canInit n.val = true → s.canAct n.val = 0 → s.canEst n.val ≠ 2 →
    s.canTiming n.val (v.getLsbD 1) = true → bits v 31 16 ≠ 0 → ∃ t : State, exec (.canInitLeave n v) s = .next t ∧ t.canAct n.val = 1 ∧
    t.rg (canReg n.val 0) = v &&& 0xFFFF01FE ∧ t.flag (canStat n.val) 5 = (v.getLsbD 3 || !s.holder) ∧ t.out = s.out ∧ t.can = s.can ∧ t.host = s.host) ∧
  (∀ (s : State) (n : Fin 4) (v : Word), s.powered 6 = true → s.canInit n.val = true → s.canTiming n.val (v.getLsbD 1) = false → bits v 31 16 ≠ 0 →
    exec (.canInitLeave n v) s = .next ((s.setRg (canReg n.val 0) (v &&& 0xFFFF01FE ||| 1)).setFlag (canFlags n.val) 1)) ∧
  (∀ (s : State) (n : Fin 4), s.canAct n.val = 1 → s.canReady n.val = [] → exec (.canIntegrationDone n) s = .next (s.setCanAct n.val 2)) ∧
  (∀ (s : State) (n : Fin 4), s.canAct n.val = 1 → ∃ t : State, exec (.canIntegrationDone n) s = .next t ∧
    (t.canAct n.val = 2 ∨ t.canAct n.val = 4) ∧ t.host = s.host) ∧
  (∀ (s : State) (n : Fin 4), s.canAct n.val ≠ 0 → s.canAct n.val ≠ 2 →
    exec (.canHelmModeSwitch n) s = .next (s.putFlag (canStat n.val) 5 (s.flag (canReg n.val 0) 3 || !s.holder))) ∧
  (∀ (s : State) (n : Fin 4), s.canAct n.val = 3 → s.canEst n.val ≠ 2 → s.canActive n.val = none → s.flag (canReg n.val 0) 5 = true →
    s.canInit n.val = false → exec (.canProtocolException n) s = .next ((s.setFlag (canFlags n.val) 7).setCanAct n.val 1)) ∧
  (∀ (s : State) (src : Src) (d : Desc), s.accepts src 0x62 d → d.tgt < 4 → s.powered 6 = true → s.canInit d.tgt = false → s.canAct d.tgt ≠ 5 →
    s.canAct d.tgt ≠ 6 → s.canEst d.tgt ≠ 2 → (s.canC d.tgt).sleep = none →
    exec (.canSleep src d) s = .next (s.setCanC d.tgt { s.canC d.tgt with sleep := some (src, d, d.op0.getLsbD 0) })) ∧
  (∀ (s : State) (src : Src) (d : Desc), s.accepts src 0x62 d → d.tgt < 4 → s.powered 6 = true → s.canAct d.tgt = 5 →
    exec (.canSleep src d) s = .next (s.complete src 0x62 d .ok)) ∧
  (∀ (s : State) (src : Src) (d : Desc), s.accepts src 0x62 d → d.tgt < 4 → s.powered 6 = true → s.canAct d.tgt ≠ 5 →
    (s.canInit d.tgt = true ∨ s.canAct d.tgt = 6 ∨ s.canEst d.tgt = 2) → exec (.canSleep src d) s = .next (s.complete src 0x62 d .busy)) ∧
  (∀ (s : State) (n : Fin 4) (src : Src) (d : Desc) (m : Bool), (s.canC n.val).sleep = some (src, d, m) → s.canAct n.val = 2 → ∃ u : State,
    exec (.canSleepEntry n) s = .next (u.complete src 0x62 d .ok) ∧ u.canAct n.val = 5 ∧ u.flag (canStat n.val) 23 = m ∧
    u.out = s.out ++ [.pin 14 n.val (b2n (!m && s.flag (canReg n.val 0) 7))] ∧ u.host = s.host ∧ (u.canC n.val).bufs = (s.canC n.val).bufs ∧
    (u.canC n.val).sleep = none) ∧
  (∀ (s : State) (n : Fin 4), s.canAct n.val = 5 → s.flag (canStat n.val) 23 = false → ∃ u : State,
    exec (.canEdgeWake n) s = .next (u.raise (178 + 4 * n.val) 0) ∧ u.canAct n.val = 1 ∧ u.flag (canFlags n.val) 6 = true ∧
    u.out = s.out ++ [.pin 14 n.val 0] ∧ u.can = s.can ∧ u.host = s.host) ∧
  (∀ (s : State) (n : Fin 4) (f : CanBits), s.canAct n.val = 5 → s.flag (canStat n.val) 23 = true → s.canWakes n.val f = true → ∃ u : State,
    exec (.canWakeFrame n f) s = .next ((u.raise (178 + 4 * n.val) 0).canStore n.val (frameOf f true)) ∧ u.canAct n.val = 1 ∧
    u.flag (canFlags n.val) 6 = true ∧ u.out = s.out ++ [.pin 14 n.val 0] ∧ u.can = s.can ∧ u.host = s.host) ∧
  (∀ (s : State) (n : Fin 4) (f : CanBits), s.canAct n.val = 5 → s.flag (canStat n.val) 23 = false → exec (.canWakeFrame n f) s = .next s)

/-- The helm interlock (Table 16.1, R562 to R564, R573, R574, R576): each transition, with the line it drives. -/
def Obligations.HelmInterlock : Prop :=
  (∀ (s : State), s.helmState = 0 → s.eligible = true → s.peerOn = false → ∃ t : State, exec .helmClaim s = .next t ∧ t.helmState = 1 ∧
    t.flag HELM_STAT 3 = true ∧ t.out = s.out ++ [.pin 2 (if s.roleA then 0 else 1) 1] ∧ t.peerOn = false ∧ t.host = s.host ∧ t.helm = s.helm) ∧
  (∀ (s : State), (s.helmState ≠ 0 ∨ s.eligible = false ∨ s.peerOn = true) → exec .helmClaim s = .next s) ∧
  (∀ (s : State), s.helmState = 1 → s.peerOn = true → ∃ t : State, exec .helmContend s = .next t ∧ t.helmState = 2 ∧ t.flag HELM_STAT 3 = false ∧
    t.out = s.out ++ [.pin 2 (if s.roleA then 0 else 1) 0] ∧ t.peerOn = true ∧ t.host = s.host ∧ t.helm = s.helm) ∧
  (∀ (s : State), s.helmState = 2 → s.eligible = true → s.peerOn = false → ∃ t : State, exec .helmQuietExpiry s = .next t ∧ t.helmState = 1 ∧
    t.flag HELM_STAT 3 = true ∧ t.out = s.out ++ [.pin 2 (if s.roleA then 0 else 1) 1]) ∧
  (∀ (s : State), s.helmState = 2 → s.peerOn = true → exec .helmQuietYield s = .next (s.setFld HELM_STAT 2 0 0)) ∧
  (∀ (s : State), s.helmState = 1 → s.flag HELM_STAT 3 = true → s.peerOn = false → s.flag HELM_STAT 5 = false →
    exec .helmTake s = .next ((s.setFld HELM_STAT 2 0 3).raise 224 0)) ∧
  (∀ (s : State), s.helmState = 1 → s.flag HELM_STAT 3 = true → s.peerOn = false → s.flag HELM_STAT 5 = true → s.syncState = 3 → ∃ t : State,
    exec .helmTake s = .next t ∧ t.flag TIME_STAT 1 = true ∧ t.rg (HELM_B + 0x14) = 0 ∧ t.helm.mirror = none ∧
    (∀ m, s.helm.mirror = some m → t.pilot.act.id = m.id)) ∧
  (∀ (s : State), (s.helmState ≠ 1 ∨ s.flag HELM_STAT 3 = false ∨ s.peerOn = true) → exec .helmTake s = .next s) ∧
  (∀ (s : State), s.helmState = 3 → ∃ t : State, exec .helmReadbackFail s = .next t ∧ t.helmState = 4 ∧ t.flag HELM_STAT 3 = false ∧
    t.flag TIME_STAT 1 = false ∧ t.fld (HELM_B + 0xC) 7 0 = 2) ∧
  (∀ (s : State), s.helmState ≠ 3 → exec .helmReadbackFail s = .next s) ∧
  (∀ (s : State), s.peerOn = false → ∃ t : State, exec (.partnerHelmChange true) s = .next t ∧ t.peerOn = true ∧ t.flag HELM_STAT 5 = true ∧
    t.helmState = s.helmState ∧ t.flag HELM_FLAGS 1 = (s.flag HELM_FLAGS 1 || s.helmState == 3)) ∧
  (∀ (s : State), s.peerOn = true → ∃ t : State, exec (.partnerHelmChange false) s = .next t ∧ t.peerOn = false ∧
    (∀ b, b < 16 → t.flag (HELM_B + 0x14) b = false) ∧
    t.helmState = s.helmState) ∧
  (∀ (s : State) (b : Bool), s.peerOn = b → exec (.partnerHelmChange b) s = .next s)

/-- How the helm is given up (R573, R574, R577, Table 16.3, Table 17.1 code 0x7). -/
def Obligations.HelmGivenUp : Prop :=
  (∀ (s : State), exec (.selfDiagnosisFail 0) s = .next s) ∧
  (∀ (s : State) (c : Fin 12), c.val ≠ 0 → s.holder = false →
    exec (.selfDiagnosisFail c) s = .next (((s.setFld (HELM_B + 0xC) 7 0 c.val).incFld (HELM_B + 0xC) 31 16 1).raise 233 c.val)) ∧
  (∀ (s : State) (c : Fin 12), (c.val = 1 ∨ c.val = 2 ∨ c.val = 9 ∨ c.val = 10) → s.holder = true → ∃ t : State,
    exec (.selfDiagnosisFail c) s = .next t ∧ t.helmState = 4 ∧ t.flag HELM_STAT 3 = false ∧ t.flag TIME_STAT 1 = false ∧
    t.fld (HELM_B + 0xC) 7 0 = c.val) ∧
  (∀ (s : State) (c : Fin 12), (c.val = 3 ∨ c.val = 4 ∨ c.val = 5 ∨ c.val = 6 ∨ c.val = 7 ∨ c.val = 8) → s.holder = true → s.partnerReady = true → ∃ t : State,
    exec (.selfDiagnosisFail c) s = .next t ∧ t.helm.giveUp = some (s.cycle + 1, c.val) ∧ t.helmState = 3 ∧ t.fld (HELM_B + 0xC) 7 0 = c.val) ∧
  (∀ (s : State) (c : Fin 12), (c.val = 3 ∨ c.val = 4 ∨ c.val = 5 ∨ c.val = 6 ∨ c.val = 7 ∨ c.val = 8) → s.holder = true → s.partnerReady = false →
    exec (.selfDiagnosisFail c) s = .next (((s.setFld (HELM_B + 0xC) 7 0 c.val).incFld (HELM_B + 0xC) 31 16 1).raise 233 c.val)) ∧
  (∀ (s : State) (p : Fin 16) (f : RxFrame), s.holder = true → s.roleA = false → s.portEn p.val = true → s.topo p.val = 3 →
    s.ownFrame p.val f = true → hType (hdrNum f.bytes) = 1 → ∃ t : State, exec (.helmSailConflict p f) s = .next t ∧
    t.helm.giveUp = some (s.cycle + 1, 0xB) ∧ t.helmState = 3 ∧ t.fld (HELM_B + 0xC) 7 0 = 0xB) ∧
  (∀ (s : State) (p : Fin 16) (f : RxFrame), s.roleA = true → exec (.helmSailConflict p f) s = .next s) ∧
  (∀ (s : State) (src : Src) (d : Desc), s.precheck src 0x90 d = none → s.holder = true → s.partnerReady = true → s.helm.handover = none →
    exec (.helmHandover src d) s = .next { s with helm := { s.helm with handover := some (src, d) } }) ∧
  (∀ (s : State) (src : Src) (d : Desc), s.precheck src 0x90 d = none → s.partnerReady = false →
    exec (.helmHandover src d) s = .next (s.complete src 0x90 d .busy)) ∧
  (∀ (s : State) (c : BitVec 32) (k : Nat), s.holder = true → s.helm.giveUp = some (c, k) → isFuture c s.cycle = false → ∃ t : State,
    exec .giveUp s = .next t ∧ t.helmState = 4 ∧ t.flag HELM_STAT 3 = false ∧ t.flag TIME_STAT 1 = false ∧ t.helm = { s.helm with giveUp := none }) ∧
  (∀ (s : State) (src : Src) (d : Desc), s.holder = true → s.helm.giveUp = none → s.helm.handover = some (src, d) → isFuture d.op5 s.cycle = false →
    ∃ t : State, exec .giveUp s = .next t ∧ t.helmState = 0 ∧ t.flag HELM_STAT 3 = false ∧ t.flag TIME_STAT 1 = false ∧ t.helm = s.helm) ∧
  (∀ (s : State), s.holder = false → exec .giveUp s = .next s) ∧
  (∀ (s : State), s.helmState = 4 → s.fld TOP_RSTCTL 15 8 ≠ 0 → s.boot.porHeld = false → ∃ u : State, exec .helmForcedReset s = .next (u.recordReset 7) ∧ u.helmState = 0 ∧
    u.rg TOP_RSTCAUSE = s.rg TOP_RSTCAUSE ∧ u.host = {} ∧ u.net = { ({} : NetSt) with sfp := s.net.sfp } ∧ u.pilot = {} ∧ u.axes = [] ∧ u.mem = {} ∧ u.cycle = 0 ∧ u.pending = s.pending) ∧
  (∀ (s : State), (s.helmState ≠ 4 ∨ s.fld TOP_RSTCTL 15 8 = 0 ∨ s.boot.porHeld = true) → exec .helmForcedReset s = .next s)

/-- CHAIN, relay and a cable break (R562, R565, R566, R574, R577 to R579, Table 16.2). -/
def Obligations.ChainAndRelay : Prop :=
  (∀ (s : State), s.chainUp = true →
    exec .heartbeatSend s = .next (s.emit (.chain 0 [s.helmState, s.role, s.syncState, s.cycle.toNat, s.ntime]))) ∧
  (∀ (s : State), s.chainUp = false → exec .heartbeatSend s = .next s) ∧
  (∀ (s : State) (y : Fin 5) (c : Word) (nt : BitVec 64), s.chainUp = true → s.helmState = 0 → s.helm.handover = none →
    exec (.heartbeatReceive 3 y c nt) s = .next { s with
      helm := { s.helm with hbState := 3, hbSync := y.val, hbAlive := true }
      cycle := c
      ntime := nt.toNat
      bnd := nt.toNat / s.tCyc * s.tCyc }) ∧
  (∀ (s : State) (st y : Fin 5) (c : Word) (nt : BitVec 64), s.chainUp = true → s.helmState ≠ 0 → s.helm.handover = none →
    exec (.heartbeatReceive st y c nt) s = .next { s with helm := { s.helm with hbState := st.val, hbSync := y.val, hbAlive := true } }) ∧
  (∀ (s : State) (src : Src) (d : Desc) (y : Fin 5) (c : Word) (nt : BitVec 64), s.chainUp = true → s.helmState = 0 → s.helm.handover = some (src, d) →
    ∃ u : State, exec (.heartbeatReceive 3 y c nt) s = .next ((u.raise 234 0).complete src 0x90 d .ok) ∧ u.helm.handover = none ∧ u.cycle = c ∧
    u.ntime = nt.toNat ∧ u.regs = s.regs ∧ u.host = s.host ∧ u.out = s.out) ∧
  (∀ (s : State), ∃ t : State, exec .heartbeatLoss s = .next t ∧ t.helm = { s.helm with hbAlive := false } ∧
    (∀ b, b < 16 → t.flag (HELM_B + 0x14) b = false) ∧ t.helmState = s.helmState) ∧
  (∀ (s : State) (l : Fin 2) (b : Bool), s.flag HELM_STAT (6 + l.val) = b → exec (.chainLaneChange l b) s = .next s) ∧
  (∀ (s : State) (l : Fin 2), s.flag HELM_STAT (6 + l.val) = true → s.fld HELM_STAT 7 6 = 3 → ∃ u : State,
    exec (.chainLaneChange l false) s = .next ((u.raise 227 l.val).setFlag HELM_FLAGS 4) ∧ u = s.putFlag HELM_STAT (6 + l.val) false) ∧
  (∀ (s : State) (l : Fin 2), s.flag HELM_STAT (6 + l.val) = false → s.fld HELM_STAT 7 6 ≠ 0 →
    exec (.chainLaneChange l true) s = .next ((s.putFlag HELM_STAT (6 + l.val) true).raise 227 l.val)) ∧
  (∀ (s : State) (b : Fin 16) (g : Bool), s.helmState ≠ 3 → s.helm.hbState = 3 → s.flag (HELM_B + 0x14) b.val ≠ g →
    exec (.relayGrantMessage b g) s = .next ((s.putFlag (HELM_B + 0x14) b.val g).raise 230 b.val)) ∧
  (∀ (s : State) (b : Fin 16), s.helm.hbState ≠ 3 → exec (.relayGrantMessage b true) s = .next s) ∧
  (∀ (s : State) (src : Src) (d : Desc), s.accepts src 0x91 d → d.tgt < 16 → s.topo d.tgt = 3 → d.op0.toNat ≤ 1 → s.helm.hbAlive = true →
    s.helm.hbSync = 3 → exec (.helmRelayGrant src d) s = .next ((s.emit (.chain 7 [d.tgt, d.op0.toNat])).complete src 0x91 d .ok)) ∧
  (∀ (s : State) (src : Src) (d : Desc), s.accepts src 0x91 d → (16 ≤ d.tgt ∨ s.topo d.tgt ≠ 3) →
    exec (.helmRelayGrant src d) s = .next (s.complete src 0x91 d .badTarget)) ∧
  (∀ (s : State) (b : Fin 16) (k : BitVec 32) (l : List Byte), s.flag (HELM_B + 0x14) b.val = true → s.holder = false →
    exec (.relayFrame b true k l) s = .next (s.emit (.chain 6 (b.val :: k.toNat :: l.map (fun x => x.toNat)))) ∧
    exec (.relayFrame b false k l) s = .next (s.emit (.frame b.val k.toNat l))) ∧
  (∀ (s : State) (b : Fin 16) (v : Bool) (k : BitVec 32) (l : List Byte), s.flag (HELM_B + 0x14) b.val = false →
    exec (.relayFrame b v k l) s = .next s) ∧
  (∀ (s : State) (b : Fin 16) (p : Fin 25), s.holder = true → s.topo b.val = 3 → ∃ u : State, exec (.cableBreak b p) s = .next u.startIso ∧
    u.flag HELM_FLAGS 5 = true ∧
    u.pilot = { s.pilot with isoReq := s.pilot.isoReq ++ [{ addr := b.val * 256 + (p.val - 1), tail := false, boom := false }] } ∧
    (∀ e ∈ s.branchNodes b.val, p.val ≤ e.1 % 256 → (u.node e.1).state = 4) ∧
    u.out = s.out ++ (if s.flag HELM_CFG 1 = true then [.chain 7 [b.val, 1]] else []) ∧
    (s.branchNodes b.val = [] → u.net = s.net) ∧ u.host = s.host ∧ u.helm = s.helm) ∧
  (∀ (s : State) (b : Fin 16) (p : Fin 25), s.holder = true → s.topo b.val = 3 → s.planState = 0 → ∃ t : State,
    exec (.cableBreak b p) s = .next t ∧ t.planState = 1 ∧ t.pilot.isoReq = [] ∧ t.pilot.snapWait = true ∧ t.pilot.autoCommit = true ∧
    t.pilot.isoRun = s.pilot.isoRun ++ (s.pilot.isoReq ++ [{ addr := b.val * 256 + (p.val - 1), tail := false, boom := false }])) ∧
  (∀ (s : State) (b : Fin 16) (p : Fin 25), s.holder = true → s.topo b.val = 3 → s.planState = 4 → ∃ t : State,
    exec (.cableBreak b p) s = .next t ∧ t.planState = 4 ∧
    t.pilot.isoReq = s.pilot.isoReq ++ [{ addr := b.val * 256 + (p.val - 1), tail := false, boom := false }]) ∧
  (∀ (s : State) (b : Fin 16) (p : Fin 25), s.topo b.val ≠ 3 → exec (.cableBreak b p) s = .next s) ∧
  (∀ (s : State) (src : Src) (d : Desc), s.accepts src 0x91 d → d.tgt < 16 → s.topo d.tgt = 3 → d.op0.toNat ≤ 1 →
    (s.helm.hbAlive = false ∨ s.helm.hbSync ≠ 3) → exec (.helmRelayGrant src d) s = .next (s.complete src 0x91 d .busy))

/-- What the standby takes from CHAIN, and re-synchronisation (R37, R194, R566 to R570, Table 16.6). -/
def Obligations.StandbyFollows : Prop :=
  (∀ (s : State) (c : Word) (p : Byte) (ws : List (Nat × Word × Word)) (cs : List (Byte × Desc)) (ms : List (Fin 256)), s.follows = true →
    exec (.boundaryRecordReceive c p ws cs ms) s = .next { s with helm := { s.helm with
      rxCyc := some (c, p.toNat), rxW := ws, rxC := cs.map (fun e => (e.1.toNat, e.2)) } }) ∧
  (∀ (s : State) (a : Fin 256) (c f : BitVec 16) (ws : List Word), s.follows = true →
    exec (.axisStateReceive a c f ws) s = .next { s with helm := { s.helm with
      rxState := Tab.set [] s.helm.rxState a.val (c.toNat :: f.toNat :: (ws.map (fun w => w.toNat)).take 12) } }) ∧
  (∀ (s : State) (c : Word) (p : Byte) (ws : List (Nat × Word × Word)) (cs : List (Byte × Desc)) (ms : List (Fin 256)), s.follows = false →
    exec (.boundaryRecordReceive c p ws cs ms) s = .next s) ∧
  (∀ (s : State), s.holder = true → s.chainUp = true → ∃ (n : Nat) (t : State), exec .sweepTransfer s = .next t ∧
    n = (if s.fld HELM_STAT 7 6 = 3 then 1024 * s.tCyc / 31250 else 1024 * s.tCyc / 31250 / 2) ∧
    t.helm = { s.helm with sweepPos := (s.helm.sweepPos + n) % 196608 } ∧
    t.out = s.out ++ [.chain 3 (s.helm.sweepPos :: (List.range n).map (fun k => s.sweepRead ((s.helm.sweepPos + k) % 196608)))] ∧
    t.regs = s.regs ∧ t.mem = s.mem) ∧
  (∀ (s : State) (p : BitVec 18) (w : Word), s.follows = true → p.toNat < 131072 → s.helm.swept < 196608 → ∃ t : State,
    exec (.sweepReceive p [w]) s = .next t ∧ t.mem = { s.mem with learn := Tab.set 0 s.mem.learn p.toNat w } ∧
    t.helm = { s.helm with swept := s.helm.swept + 1 } ∧ t.regs = s.regs ∧ t.out = s.out) ∧
  (∀ (s : State) (p : BitVec 18) (ws : List Word), s.follows = false → exec (.sweepReceive p ws) s = .next s) ∧
  (∀ (s : State) (r v : BitVec 2) (m : Byte) (w : BitVec 16), s.helmState = 0 → s.chainUp = true → v.toNat = s.variant → r.toNat + s.role = 3 →
    m.toNat = s.mgrId → w.toNat = s.fld 0xC 31 16 → ∃ t : State, exec (.resyncCheck r v m w true) s = .next t ∧ t.syncState = 1 ∧
    t.helm = { s.helm with peerKnown := true, matchCnt := 0, mismatch := false, swept := 0 } ∧ t.helmState = 0 ∧
    t.rg (HELM_B + 0x10) = ofNat (r.toNat + v.toNat * 4 + m.toNat * 256 + w.toNat * 65536)) ∧
  (∀ (s : State) (r v : BitVec 2) (m : Byte) (w : BitVec 16) (g : Bool), s.helmState = 0 → s.chainUp = true → v.toNat ≠ s.variant → ∃ u : State,
    exec (.resyncCheck r v m w g) s = .next (u.raise 229 0) ∧ u.syncState = 4 ∧ u.flag HELM_FLAGS 3 = true ∧ u.helmState = 0) ∧
  (∀ (s : State) (r v : BitVec 2) (m : Byte) (w : BitVec 16), s.helmState = 0 → s.chainUp = true → ∃ t : State,
    exec (.resyncCheck r v m w false) s = .next t ∧ t.syncState = 4 ∧ t.flag HELM_FLAGS 3 = true ∧ t.helmState = 0) ∧
  (∀ (s : State) (rs : List (Nat × Word)) (p m : List Word) (xs : List (Fin 256 × Byte × Word)) (ms : List (Nat × Word)) (fs : List (Fin 256 × List Int)),
    s.syncState = 1 → ∃ t : State, exec (.resyncBulkDone rs p m xs ms fs) s = .next t ∧ t.syncState = 2 ∧ t.out = s.out ∧ t.host = s.host ∧
    t.helm = { s.helm with mirror := if m = [] then none else some (planOfWords (m.map (fun w => w.toNat))) } ∧
    t.pilot.act = (if m = [] then planOfWords (p.map (fun w => w.toNat)) else planOfWords (m.map (fun w => w.toNat)))) ∧
  (∀ (s : State), s.syncState = 2 → 256 ≤ s.helm.matchCnt → 196608 ≤ s.helm.swept →
    exec .resyncSynced s = .next ((s.setFld HELM_STAT 10 8 3).raise 232 0)) ∧
  (∀ (s : State), (s.syncState ≠ 2 ∨ s.helm.matchCnt < 256 ∨ s.helm.swept < 196608) → exec .resyncSynced s = .next s)

/-- Resets and start-up (R53, R585 to R587, Tables 17.1, 17.2, 17.4): what each reset clears, keeps and records. -/
def Obligations.Resets : Prop :=
  (∀ (s : State), ∃ t : State, exec .powerOnReset s = .next t ∧ t.rg TOP_RSTCAUSE = resetWord TOP_RSTCAUSE ∧ t.host = {} ∧ t.evt = {} ∧ t.cpu = {} ∧
    t.net = { ({} : NetSt) with sfp := s.net.sfp } ∧ t.tim = {} ∧ t.pilot = {} ∧ t.helm = {} ∧ t.lanes = [] ∧ t.mem = {} ∧ t.axes = [] ∧ t.loc = {} ∧ t.cart = {} ∧ t.safe = {} ∧
    t.acq = {} ∧ t.can = {} ∧ t.cycle = 0 ∧ t.bnd = 0 ∧ t.ntime = 0 ∧ t.pending = s.pending ∧
    t.boot.porHeld = true ∧ t.helmState = 0 ∧ t.flag HELM_STAT 4 = s.flag HELM_STAT 4 ∧
    (s.flag HELM_STAT 3 = true → .pin 2 (if s.roleA then 0 else 1) 0 ∈ t.out) ∧
    (s.powered 6 = true → ∀ (n : Fin 8) (k : Fin 6), .pin 10 (n.val * 8 + k.val) (-1) ∈ t.out) ∧
    (∀ p : Fin 16, s.portEn p.val = true → .pin 15 p.val 1 ∈ t.out) ∧
    (s.flag HELM_STAT 3 = false → s.safe.p.side = 0 → s.safe.s.side = 0 → s.powered 6 = false → (∀ p : Fin 16, s.portEn p.val = false) →
      t.out = s.out) ∧
    (∀ o, o < KEEL_B ∨ KEEL_B + 0x1000 ≤ o → o ≠ HELM_STAT → t.rg o = resetWord o)) ∧
  (∀ (s : State), s.boot.keelJob = none → ∃ t : State, exec .powerOnReset s = .next t ∧ t.boot.fuseT = s.boot.fuseT ∧ t.boot.fuseC = s.boot.fuseC ∧
    t.free = s.free) ∧
  (∀ (s : State), s.boot.porHeld = false → ∃ u : State, exec .resetN s = .next (u.recordReset 2) ∧ u.rg TOP_RSTCAUSE = s.rg TOP_RSTCAUSE ∧ u.host = {} ∧
    u.net = { ({} : NetSt) with sfp := s.net.sfp } ∧ u.pilot = {} ∧ u.helm = {} ∧ u.axes = [] ∧ u.mem = {} ∧ u.cycle = 0 ∧ u.pending = s.pending ∧ u.helmState = 0 ∧
    (∀ (n : Fin 8) (k : Fin 6), .pin 10 (n.val * 8 + k.val) 0 ∈ u.out) ∧
    (s.flag HELM_STAT 3 = false → s.safe.p.side = 0 → s.safe.s.side = 0 → s.powered 6 = false → (∀ p : Fin 16, s.portEn p.val = false) →
      u.out = s.out ++ (List.range 48).map (fun k => .pin 10 (k / 6 * 8 + k % 6) 0))) ∧
  (∀ (s : State), s.boot.porHeld = true → exec .resetN s = .next s) ∧
  (∀ (s : State) (w : Word), s.boot.porHeld = false → bits w 31 16 = 0x4B45 → w.getLsbD 0 = true → ∃ u : State, exec (.chipReset w) s = .next (u.recordReset 9) ∧
    u.rg TOP_RSTCAUSE = s.rg TOP_RSTCAUSE ∧ u.host = {} ∧ u.net = { ({} : NetSt) with sfp := s.net.sfp } ∧ u.pilot = {} ∧ u.helm = {} ∧ u.axes = [] ∧ u.mem = {} ∧ u.cycle = 0 ∧
    u.pending = s.pending ∧ u.helmState = 0) ∧
  (∀ (s : State) (w : Word), (bits w 31 16 ≠ 0x4B45 ∨ w.getLsbD 0 = false) → exec (.chipReset w) s = .next (s.setFld TOP_RSTCTL 15 8 (bits w 15 8))) ∧
  (∀ (s : State), ∃ u : State, exec .perst s = .next (u.recordReset 3) ∧ exec .pcieLinkLoss s = .next (u.recordReset 0xA) ∧ u.host.linkUp = false ∧
    u.host.rings = [] ∧ u.host.cyc = [] ∧ u.host.taken = [] ∧ u.host.plan = s.host.plan ∧ u.host.due = s.host.due ∧
    (∀ o, HOST_B ≤ o → o < HOST_B + 0x10000 → u.rg o = resetWord o) ∧ (∀ o, o < HOST_B ∨ HOST_B + 0x10000 ≤ o → u.rg o = s.rg o) ∧
    u.host.lost = s.host.lost ++ s.host.taken ∧ u.pilot = { s.pilot with cmd := none, commitCmd := none, stopReq := [] } ∧ u.axes = s.axes ∧
    u.cycle = s.cycle ∧ u.out = s.out) ∧
  (∀ (s : State), ∃ u : State, exec .flr s = .next (u.recordReset 4) ∧ u.host.linkUp = s.host.linkUp ∧ u.host.rings = [] ∧ u.host.cyc = [] ∧
    u.rg (HOST_B + 0x18) = s.rg (HOST_B + 0x18) ∧
    (∀ o, HOST_B ≤ o → o < HOST_B + 0x10000 → o ≠ HOST_B + 0x18 → u.rg o = resetWord o) ∧
    (∀ o, o < HOST_B ∨ HOST_B + 0x10000 ≤ o → u.rg o = s.rg o) ∧ u.pilot = { s.pilot with cmd := none, commitCmd := none, stopReq := [] } ∧
    u.axes = s.axes ∧ u.out = s.out) ∧
  (∀ (s : State) (v : Fin 4) (w : Fin 5), s.powered 5 = true → ∃ t : State, exec (.pcieLinkUp v w) s = .next t ∧ t.host.linkUp = true ∧
    t.fld (HOST_B + 0x18) 3 0 = v.val ∧ t.fld (HOST_B + 0x18) 8 4 = w.val ∧ t.net = s.net ∧ t.out = s.out) ∧
  (∀ (s : State) (h : Fin 2), s.holder = false → s.planState ≠ 1 → s.planState ≠ 2 → ∃ u : State, exec (.supervisorWatchdogReset h) s = .next (u.recordReset 5) ∧
    Tab.get 256 u.cpu.run 0 = 256 ∧ Tab.get 256 u.cpu.run 1 = 256 ∧ u.hart 0 = {} ∧ u.hart 1 = {} ∧ u.helmState = s.helmState ∧ u.net = s.net ∧ u.axes = s.axes) ∧
  (∀ (s : State) (w : Word), s.powered 3 = true → (List.range 8).filter (fun c => w.getLsbD c && s.powered c && c != 2 && c != 7) = [3] → ∃ u : State,
    exec (.perDomainReset w) s = .next (u.recordReset 8) ∧ (∀ (p : Fin 8) (o : Nat), o < 0x20 → u.rg (pCfg p.val + o) = resetWord (pCfg p.val + o)) ∧
    (∀ o, (∀ p : Fin 8, o < pCfg p.val ∨ pCfg p.val + 0x20 ≤ o) → o ≠ TIME_STAT → u.rg o = s.rg o) ∧ u.pilot = s.pilot ∧
    ((∀ p : Fin 8, s.portEn p.val = false) → u.out = s.out)) ∧
  (∀ (s : State) (w : Word), ((List.range 8).filter (fun c => w.getLsbD c && s.powered c && c != 2 && c != 7)) ≠ [] → ∃ u : State,
    exec (.perDomainReset w) s = .next (u.recordReset 8) ∧ u = ((List.range 8).filter (fun c => w.getLsbD c && s.powered c && c != 2 && c != 7)).foldl
      State.clearDomain s) ∧
  (∀ (s : State) (w : Word), (∀ c : Fin 8, c.val ≠ 2 → c.val ≠ 7 → w.getLsbD c.val = true → s.powered c.val = false) → exec (.perDomainReset w) s = .next s) ∧
  (∀ (s : State) (b : BitVec 2) (v : Bool), s.boot.porHeld = true → ∃ t : State, exec (.porRelease b v) s = .next t ∧ t.boot.porHeld = false ∧
    t.boot.vpp = v ∧ t.rg TOP_CLK = 0x1F ∧ t.rg TOP_PDSTAT = (if t.variant = 2 then 0x7F else 0xFF) ∧ t.fld TOP_BOOT 6 5 = b.toNat ∧
    t.fld TOP_BOOT 2 0 = (if b = 1 then 2 else 1) ∧ t.cpu.running = [0, 1] ∧ t.helmState = s.helmState ∧
    (∀ (n : Fin 8) (k : Fin 6), .pin 10 (n.val * 8 + k.val) 0 ∈ t.out)) ∧
  (∀ (s : State) (b : BitVec 2) (v : Bool), s.boot.porHeld = false → exec (.porRelease b v) s = .next s)

/-- Clocks, supplies and temperature (R588 to R590, R610, R615, Table 17.4). -/
def Obligations.ClocksAndSupplies : Prop :=
  (∀ (s : State), ∃ t : State, exec .pllNLockLoss s = .next t ∧ t.flag TOP_CLK 0 = false ∧ t.flag TIME_STAT 0 = false ∧ t.flag TIME_STAT 1 = false ∧
    t.flag TOP_FLAGS 1 = true ∧ (s.holder = true → t.helmState = 4) ∧ (s.holder = false → t.helmState = s.helmState)) ∧
  (∀ (s : State), exec .pllCLockLoss s = .next (((s.clrFlag TOP_CLK 1).setFlag TOP_FLAGS 1).raise 241 0)) ∧
  (∀ (s : State), exec (.pllRelock true) s = .next ((s.setFlag TOP_CLK 0).setFlag TIME_STAT 0) ∧
    exec (.pllRelock false) s = .next (s.setFlag TOP_CLK 1)) ∧
  (∀ (s : State), exec (.clockMonitorFault 0) s = .next ((s.clrFlag TOP_CLK 2).raise 242 0)) ∧
  (∀ (s : State) (w : Fin 3), w.val ≠ 0 → s.holder = false → ∃ u : State, exec (.clockMonitorFault w) s = .next (u.raise 233 0xA) ∧
    u.flag TOP_CLK (2 + w.val) = false ∧ u.fld (HELM_B + 0xC) 7 0 = 0xA ∧ u.helmState = s.helmState) ∧
  (∀ (s : State) (w : Fin 3), w.val ≠ 0 → s.holder = true → ∃ t : State, exec (.clockMonitorFault w) s = .next t ∧
    t.flag TOP_CLK (2 + w.val) = false ∧ t.fld (HELM_B + 0xC) 7 0 = 0xA ∧ t.helmState = 4) ∧
  (∀ (s : State) (k : Fin 8), k.val ≠ 2 → s.flag TOP_SUPPLY k.val = true → k.val ≠ 7 → s.holder = false → ∃ u : State,
    exec (.supplyMonitorTrip k) s = .next ((((u.raise 245 k.val).setFld (HELM_B + 0xC) 7 0 9).incFld (HELM_B + 0xC) 31 16 1).raise 233 9) ∧
    u = (s.clrFlag TOP_SUPPLY k.val).setFlag TOP_FLAGS 3) ∧
  (∀ (s : State), s.flag TOP_SUPPLY 2 = true → s.variant ≠ 2 → ∃ t : State, exec (.supplyMonitorTrip 2) s = .next t ∧ t.flag TOP_SUPPLY 2 = false ∧
    t.safe.s = {} ∧ (s.safeState false ≠ 0 → t.safeState false = 4) ∧ t.fld (HELM_B + 0xC) 7 0 = 9) ∧
  (∀ (s : State), s.flag TOP_SUPPLY 7 = true → ∃ t : State, exec (.supplyMonitorTrip 7) s = .next t ∧ t.flag TOP_SUPPLY 7 = false ∧
    t.flag TOP_FLAGS 3 = true ∧ t.boot.vpp = false ∧ t.helmState = s.helmState) ∧
  (∀ (s : State) (k : Fin 8), s.flag TOP_SUPPLY k.val = false → exec (.supplyMonitorTrip k) s = .next s) ∧
  (∀ (s : State), s.variant = 2 → exec (.supplyMonitorTrip 2) s = .next s) ∧
  (∀ (s : State) (k : Fin 8), s.flag TOP_SUPPLY k.val = false → k.val ≠ 2 → k.val ≠ 7 → exec (.supplyRailReturn k) s = .next (s.setFlag TOP_SUPPLY k.val)) ∧
  (∀ (s : State), s.flag TOP_SUPPLY 7 = false →
    exec (.supplyRailReturn 7) s = .next { s.setFlag TOP_SUPPLY 7 with boot := { s.boot with vpp := true } }) ∧
  (∀ (s : State) (t : BitVec 8), t.toInt ≤ wrapS 8 (s.fld TOP_THERM 15 8) → t.toInt ≤ wrapS 8 (s.fld TOP_THERM 23 16) →
    exec (.thermalCrossing t) s = .next (((s.setFld TOP_THERM 7 0 t.toNat).clrFlag TOP_THERM 24).clrFlag TOP_THERM 25)) ∧
  (∀ (s : State) (t : BitVec 8), wrapS 8 (s.fld TOP_THERM 15 8) < t.toInt → t.toInt ≤ wrapS 8 (s.fld TOP_THERM 23 16) → s.flag TOP_THERM 24 = false →
    exec (.thermalCrossing t) s =
      .next (((((s.setFld TOP_THERM 7 0 t.toNat).setFlag TOP_THERM 24).clrFlag TOP_THERM 25).setFlag TOP_FLAGS 2).raise 243 t.toNat)) ∧
  (∀ (s : State) (t : BitVec 8), wrapS 8 (s.fld TOP_THERM 15 8) < t.toInt → wrapS 8 (s.fld TOP_THERM 23 16) < t.toInt → s.flag TOP_THERM 24 = true →
    s.flag TOP_THERM 25 = false → s.holder = false → ∃ u : State, exec (.thermalCrossing t) s =
      .next ((((u.raise 244 t.toNat).setFld (HELM_B + 0xC) 7 0 8).incFld (HELM_B + 0xC) 31 16 1).raise 233 8) ∧
    u = (((s.setFld TOP_THERM 7 0 t.toNat).setFlag TOP_THERM 24).setFlag TOP_THERM 25).setFlag TOP_FLAGS 2)

/-- Power domains and in-service tests (R508, R520, R581, R582, R597, R598, Tables 16.7, 17.4a). -/
def Obligations.DomainsAndTests : Prop :=
  (∀ (s : State) (src : Src) (d : Desc), s.accepts src 0x95 d → d.tgt < 7 → d.tgt ≠ 2 → d.tgt ≠ 5 → d.op0 = 1 → s.powered d.tgt = false →
    s.boot.pdJobs = [] → exec (.pdSwitch src d) s = .next { s with boot := { s.boot with pdJobs := [(src, d)] } }) ∧
  (∀ (s : State) (src : Src) (d : Desc), s.accepts src 0x95 d → d.tgt < 7 → d.tgt ≠ 2 → d.tgt ≠ 5 → d.op0 = 0 → s.powered d.tgt = true →
    s.boot.pdJobs = [] → s.offAllowed d.tgt = true → exec (.pdSwitch src d) s = .next { s with boot := { s.boot with pdJobs := [(src, d)] } }) ∧
  (∀ (s : State) (src : Src) (d : Desc), s.accepts src 0x95 d → d.tgt < 7 → d.tgt ≠ 2 → d.tgt ≠ 5 → d.op0 = 0 → s.powered d.tgt = true →
    s.offAllowed d.tgt = false → exec (.pdSwitch src d) s = .next (s.complete src 0x95 d .busy)) ∧
  (∀ (s : State) (src : Src) (d : Desc), s.accepts src 0x95 d → (8 ≤ d.tgt ∨ d.tgt = 2) →
    exec (.pdSwitch src d) s = .next (s.complete src 0x95 d .badTarget)) ∧
  (∀ (s : State) (c : Fin 8) (src : Src) (d : Desc), s.boot.pdJobs = [(src, d)] → d.tgt = c.val → c.val ≠ 5 → c.val ≠ 6 → d.op0 = 0 → ∃ u : State,
    exec (.pdSwitchDone c) s = .next ((u.raise 240 c.val).complete src 0x95 d .ok) ∧ u.powered c.val = false ∧ u.boot.pdJobs = [] ∧
    u.net = s.net ∧ u.out = s.out) ∧
  (∀ (s : State) (c : Fin 8) (src : Src) (d : Desc), s.boot.pdJobs = [(src, d)] → d.tgt = c.val → d.op0 = 1 → ∃ u : State,
    exec (.pdSwitchDone c) s = .next (((u.recordReset 8).raise 240 (c.val + 0x10000)).complete src 0x95 d .ok) ∧ u.boot.pdJobs = []) ∧
  (∀ (s : State) (c : Fin 8) (src : Src) (d : Desc), s.boot.pdJobs = [(src, d)] → d.tgt = c.val → c.val = 6 → d.op0 = 0 → ∃ u : State,
    exec (.pdSwitchDone c) s = .next ((u.raise 240 c.val).complete src 0x95 d .ok) ∧ u.powered c.val = false ∧ u.boot.pdJobs = [] ∧
    (∀ (n : Fin 8) (k : Fin 6), .pin 10 (n.val * 8 + k.val) (-1) ∈ u.out)) ∧
  (∀ (s : State) (c : Fin 8) (src : Src) (d : Desc), s.boot.pdJobs = [(src, d)] → d.tgt = c.val → c.val = 5 → d.op0 = 0 → ∃ u : State,
    exec (.pdSwitchDone c) s = .next ((u.raise 240 c.val).complete src 0x95 d .ok) ∧ u.powered c.val = false ∧ u.boot.pdJobs = [] ∧
    u.host.linkUp = false ∧ u.host.rings = [] ∧ u.out = s.out) ∧
  (∀ (s : State) (c : Fin 8), s.boot.pdJobs = [] → exec (.pdSwitchDone c) s = .next s) ∧
  (∀ (s : State) (src : Src) (d : Desc), s.accepts src 0x92 d → d.tgt < 16 → s.powered (if d.tgt < 8 then 0 else 1) = true → s.boot.pdJobs = [] →
    s.pilot.act.axes.any (fun a => a.lane == d.tgt) = false → s.boot.tests = [] →
    exec (.testLane src d) s = .next { s with boot := { s.boot with tests := [{ src := src, opc := 0x92, desc := d }] } }) ∧
  (∀ (s : State) (src : Src) (d : Desc), s.accepts src 0x92 d → d.tgt < 16 → s.powered (if d.tgt < 8 then 0 else 1) = true →
    s.pilot.act.axes.any (fun a => a.lane == d.tgt) = true → exec (.testLane src d) s = .next (s.complete src 0x92 d .busy)) ∧
  (∀ (s : State) (src : Src) (d : Desc), s.accepts src 0x93 d → (d.tgt = 2 ∨ d.tgt = 3) → s.boot.tests = [] → s.cpu.testing = [] →
    exec (.testHart src d) s = .next { s with
      boot := { s.boot with tests := [{ src := src, opc := 0x93, desc := d }] }
      cpu := { s.cpu with testing := [d.tgt] } }) ∧
  (∀ (s : State) (src : Src) (d : Desc), s.accepts src 0x94 d → d.tgt ≤ 51 → s.boot.tests = [] →
    exec (.testMemory src d) s = .next { s with boot := { s.boot with tests := [{ src := src, opc := 0x94, desc := d }] } }) ∧
  (∀ (s : State) (src : Src) (d : Desc), s.accepts src 0x94 d → 51 < d.tgt →
    exec (.testMemory src d) s = .next (s.complete src 0x94 d .badTarget)) ∧
  (∀ (s : State) (src : Src) (d : Desc), s.accepts src 0x35 d → d.tgt < 16 → s.powered (if d.tgt < 8 then 3 else 4) = true → d.op0.toNat ≤ 7 →
    s.pilot.act.nodes = [] → s.boot.tests = [] →
    exec (.netPortTest src d) s = .next { s with boot := { s.boot with tests := [{ src := src, opc := 0x35, desc := d }] } }) ∧
  (∀ (s : State) (x : TestJob) (r : Word), s.boot.tests = [x] → x.opc = 0x93 → ∃ u : State,
    exec (.inServiceTestDone 0x93 x.desc.target r) s =
      .next ((u.raise (if r.toNat % 8 = 7 then 235 else 236) 0x93).complete x.src 0x93 x.desc .ok r.toNat) ∧
    u.boot.tests = [] ∧ u.cpu.testing = s.cpu.testing.filter (fun h => h != x.desc.tgt) ∧ u.regs = s.regs ∧ u.out = s.out) ∧
  (∀ (s : State) (x : TestJob) (o : Byte) (r : Word), s.boot.tests = [x] → x.opc = o.toNat → o ≠ 0x93 → o ≠ 0x92 → ∃ u : State,
    exec (.inServiceTestDone o x.desc.target r) s =
      .next ((u.raise (if testPassed o.toNat x.desc r.toNat = true then 235 else 236) o.toNat).complete x.src o.toNat x.desc .ok r.toNat) ∧
    u.boot.tests = [] ∧ u.regs = s.regs ∧ u.out = s.out) ∧
  (∀ (s : State) (x : TestJob) (r : Word), s.boot.tests = [x] → x.opc = 0x92 → r.toNat % 32 = 31 → ∃ u : State,
    exec (.inServiceTestDone 0x92 x.desc.target r) s = .next ((u.raise 235 0x92).complete x.src 0x92 x.desc .ok r.toNat) ∧
    u.boot.tests = [] ∧ u.regs = s.regs ∧ u.out = s.out) ∧
  (∀ (s : State) (x : TestJob) (r : Word), s.boot.tests = [x] → x.opc = 0x92 → r.toNat % 32 ≠ 31 → ∃ u : State, u.boot.tests = [] ∧ u.regs = s.regs ∧
    exec (.inServiceTestDone 0x92 x.desc.target r) s = .next (((u.dropLane x.desc.tgt).raise 236 0x92).complete x.src 0x92 x.desc .ok r.toNat)) ∧
  (∀ (s : State) (o : Byte) (t : BitVec 16) (r : Word), s.boot.tests = [] → exec (.inServiceTestDone o t r) s = .next s) ∧
  (∀ (s : State) (m : Fin 8) (b : BitVec 16) (w : BitVec 19) (h : Option (Fin 4)),
    exec (.memoryEccError m b w true h) s = .next (s.raise 246 (m.val + b.toNat * 0x10000))) ∧
  (∀ (s : State) (b : BitVec 16) (w : BitVec 19) (h : Fin 4),
    exec (.memoryEccError 1 b w false (some h)) s =
      .next ((s.raise 247 (1 + b.toNat * 0x10000)).hartTrap h.val 5 (ofNat (0x10100000 + w.toNat % 2 ^ 18 * 4)))) ∧
  (∀ (s : State) (b : BitVec 16) (w : BitVec 19) (h : Option (Fin 4)), ∃ u : State, u.mem = { s.mem with learn := Tab.set 0 s.mem.learn w.toNat 0 } ∧
    u.regs = (s.raise 247 (2 + b.toNat * 0x10000)).regs ∧
    exec (.memoryEccError 2 b w false h) s = .next (u.diagFail 5)) ∧
  (∀ (s : State) (m : Fin 8) (b : BitVec 16) (w : BitVec 19) (h : Option (Fin 4)), (m.val = 0 ∨ m.val = 3 ∨ m.val = 5 ∨ m.val = 6) →
    exec (.memoryEccError m b w false h) s = .next ((s.raise 247 (m.val + b.toNat * 0x10000)).diagFail (if m.val = 0 then 4 else 5))) ∧
  (∀ (s : State) (m : Fin 8) (b : BitVec 16) (w : BitVec 19) (h : Option (Fin 4)), (m.val = 4 ∨ m.val = 7) →
    exec (.memoryEccError m b w false h) s = .next (s.raise 247 (m.val + b.toNat * 0x10000)))

/-- Images and fuses (R592 to R596, R600, R604, R605, Tables 17.5, 17.6). -/
def Obligations.ImagesAndFuses : Prop :=
  (∀ (s : State) (b : Bool) (l : List Byte), s.fld TOP_BOOT 2 0 = 1 → s.checkImage l = 0 → ∃ t : State,
    exec (.imageVerify b (some l)) s = .next t ∧ t.fld TOP_BOOT 2 0 = 3 ∧ t.flag TOP_BOOT 3 = b ∧ t.fld TOP_BOOT 31 16 = leAt l 6 2 ∧
    t.boot.booted = l ∧ t.cpu.running = (if leAt l 20 4 = 0 then [0, 1] else [0, 1, 2, 3]) ∧ t.cpu.custImage = decide (leAt l 20 4 ≠ 0) ∧
    (t.hart 0).pc = ofNat (0x10000000 + leAt l 16 4) ∧ (leAt l 20 4 ≠ 0 → (t.hart 2).pc = ofNat (0x10100000 + leAt l 24 4)) ∧
    t.net = s.net ∧ t.out = s.out) ∧
  (∀ (s : State) (b : Bool) (l : Option (List Byte)) (k : Nat), s.fld TOP_BOOT 2 0 = 1 → k = (match l with | none => 6 | some x => s.checkImage x) →
    k ≠ 0 → s.boot.tries = 0 → ∃ t : State, exec (.imageVerify b l) s = .next t ∧ t.fld TOP_BOOT 15 8 = k ∧ t.boot.tries = 1 ∧ t.fld TOP_BOOT 2 0 = 1 ∧
    t.cpu = s.cpu ∧ t.out = s.out) ∧
  (∀ (s : State) (b : Bool) (l : Option (List Byte)), s.fld TOP_BOOT 2 0 ≠ 1 → exec (.imageVerify b l) s = .next s) ∧
  (∀ (s : State) (src : Src) (d : Desc) (l : List Byte), s.accepts src 0xA1 d → s.boot.fwJob = none → s.fld TOP_BOOT 2 0 ≠ 2 → s.boot.hasFlash = true →
    s.checkImage (slice l 0 (min d.op2.toNat l.length)) = 0 →
    exec (.fwStage src d (some l)) s = .next { s with boot := { s.boot with fwJob := some (src, d, slice l 0 (min d.op2.toNat l.length)) } }) ∧
  (∀ (s : State) (src : Src) (d : Desc) (l : List Byte), s.accepts src 0xA1 d → s.boot.fwJob = none → s.fld TOP_BOOT 2 0 = 2 →
    s.checkImage (slice l 0 (min d.op2.toNat l.length)) = 0 → ∃ u : State,
    exec (.fwStage src d (some l)) s = .next (u.complete src 0xA1 d .ok) ∧ u.fld TOP_BOOT 2 0 = 3 ∧
    u.boot.booted = slice l 0 (min d.op2.toNat l.length) ∧ u.boot.fwJob = none ∧ u.net = s.net ∧ u.out = s.out) ∧
  (∀ (s : State) (src : Src) (d : Desc) (l : List Byte) (k : Nat), s.accepts src 0xA1 d → s.boot.fwJob = none → s.fld TOP_BOOT 2 0 ≠ 2 →
    s.boot.hasFlash = true → s.checkImage (slice l 0 (min d.op2.toNat l.length)) = k → k ≠ 0 →
    exec (.fwStage src d (some l)) s = .next ((s.setFld TOP_BOOT 15 8 k).complete src 0xA1 d .authFail k)) ∧
  (∀ (s : State) (src : Src) (d : Desc), s.accepts src 0xA1 d → s.boot.fwJob = none → s.fld TOP_BOOT 2 0 ≠ 2 → s.boot.hasFlash = true →
    exec (.fwStage src d none) s = .next (s.complete src 0xA1 d .dmaFail)) ∧
  (∀ (s : State) (src : Src) (d : Desc) (l : List Byte), s.boot.fwJob = some (src, d, l) → ∃ u : State,
    exec (.fwStageDone true) s = .next (u.complete src 0xA1 d .ok) ∧ u.boot.fwJob = none ∧ u.boot.prefB = !s.flag TOP_BOOT 3 ∧
    u.out = s.out ++ [.flash (if s.flag TOP_BOOT 3 = true then 0 else 0x080000) l,
      .flash 0x0FF0000 (leBytes 4 (if s.flag TOP_BOOT 3 = true then 0 else 1))] ∧ u.regs = s.regs) ∧
  (∀ (s : State) (src : Src) (d : Desc) (l : List Byte), s.boot.fwJob = some (src, d, l) → ∃ u : State,
    exec (.fwStageDone false) s = .next (u.complete src 0xA1 d .authFail 6) ∧ u.boot.fwJob = none ∧ u.boot.prefB = s.boot.prefB ∧
    u.out = s.out ++ [.flash (if s.flag TOP_BOOT 3 = true then 0 else 0x080000) l] ∧ u.regs = s.regs) ∧
  (∀ (s : State) (b : Bool), s.boot.fwJob = none → exec (.fwStageDone b) s = .next s) ∧
  (∀ (s : State) (src : Src) (d : Desc) (g : Nat), s.accepts src 0xA0 d → groupOf d.tgt = some g → g ≠ 0 → g ≠ 7 → s.boot.keelJob = none →
    s.boot.vpp = true → s.boot.vppBoot = false → s.wordClass d.tgt = 0 → s.groupState g ≠ 2 →
    (0x30 ≤ d.tgt → d.op0.toNat = lockMagic ∧ (groupWords g).all (fun x => s.wordClass x == 1) = true) →
    exec (.keelProgram src d) s =
      .next (({ s with boot := { s.boot with keelJob := some (src, d) } } : State).setRg KEEL_PROG (ofNat (1 + d.tgt % 64 * 256)))) ∧
  (∀ (s : State) (src : Src) (d : Desc) (g : Nat), s.accepts src 0xA0 d → groupOf d.tgt = some g → g ≠ 0 → g ≠ 7 → s.boot.keelJob = none →
    (s.boot.vpp = false ∨ s.boot.vppBoot = true) → ∃ u : State, u = s.setRg KEEL_PROG (ofNat (d.tgt % 64 * 256 + 0x10000)) ∧
    exec (.keelProgram src d) s = .next ((u.raise 250 (d.tgt % 0x10000 + 0x10000)).complete src 0xA0 d .busy 1)) ∧
  (∀ (s : State) (src : Src) (d : Desc), s.accepts src 0xA0 d → groupOf d.tgt = none → exec (.keelProgram src d) s = .next (s.complete src 0xA0 d .badTarget)) ∧
  (∀ (s : State) (src : Src) (d : Desc), s.boot.keelJob = some (src, d) → d.tgt < 64 → ∃ u : State,
    exec (.keelProgramDone d.op0 (~~~d.op0)) s = .next ((u.raise 250 d.tgt).complete src 0xA0 d .ok 0) ∧ u.boot.keelJob = none ∧
    Tab.get 0 u.boot.fuseT d.tgt = d.op0.toNat ∧ Tab.get 0 u.boot.fuseC d.tgt = (~~~d.op0).toNat ∧ u.rg KEEL_PROG = ofNat (d.tgt * 256) ∧ u.out = s.out) ∧
  (∀ (s : State) (src : Src) (d : Desc) (t c : Word), s.boot.keelJob = some (src, d) → d.tgt < 64 → t ≠ d.op0 → ∃ u : State,
    exec (.keelProgramDone t c) s = .next ((u.raise 250 (d.tgt + 0x40000)).complete src 0xA0 d .timeout 4) ∧ u.boot.keelJob = none ∧
    Tab.get 0 u.boot.fuseT d.tgt = t.toNat ∧ Tab.get 0 u.boot.fuseC d.tgt = c.toNat ∧ u.out = s.out) ∧
  (∀ (s : State) (t c : Word), s.boot.keelJob = none → exec (.keelProgramDone t c) s = .next s)

/-- The front command of the queue runs on the state with the rest of the queue; with an empty queue the block idles (the idling is
the model's choice, assumption log 1). -/
def Obligations.StepTakesFront : Prop :=
  (∀ (s : State) (c : Instr), step { s with pending := c :: s.pending } = exec c s) ∧
  (∀ (s : State) (c : Instr) (r : List Instr), s.pending = c :: r → step s = exec c { s with pending := r }) ∧
  (∀ (s : State), s.pending = [] → step s = .next s)

/-- The register table stays in canonical form and the queue well formed over every step, from every state that has both. -/
def Obligations.StepKeepsInvariant : Prop :=
  ∀ (s t : State), s.Inv → step s = .next t → t.Inv

/-- The invariant holds after reset. -/
def Obligations.ResetInvariant : Prop :=
  State.reset.Inv

/-- From every state with a command waiting, a step answers a next state; it takes that command from the queue and adds none, no
output is taken back, and free values are never drawn twice. -/
def Obligations.EveryCommandCompletes : Prop :=
  (∀ (c : Instr) (s : State), ∃ t : State, exec c s = .next t ∧ t.pending = s.pending ∧ s.out <+: t.out ∧ s.free ≤ t.free) ∧
  (∀ (s : State), ∃ t : State, step s = .next t ∧ t.pending = s.pending.tail ∧ s.out <+: t.out ∧ s.free ≤ t.free)

/-- What every command is checked for before its own checks: a named cycle that is not in the future always ends it with an error (R15). The
checks come in this order (R59, R91, R94, R95; the order is the model's): its ring, reserved flags, the helm,
the access map, a named cycle where one is required, and that a named cycle lies in the future. -/
def Obligations.SharedChecks : Prop :=
  (∀ (c : Instr) (src : Src) (opc : Nat) (d : Desc) (s : State), command c = some (src, opc, d) → d.atCycle = true →
    ((d.op5 - s.cycle).toNat = 0 ∨ 2 ^ 31 ≤ (d.op5 - s.cycle).toNat) →
    ∃ e : St, e ≠ .ok ∧ exec c s = .next (s.complete src opc d e)) ∧
  (∀ (c : Instr) (src : Src) (opc : Nat) (d : Desc) (s : State), command c = some (src, opc, d) →
    (opcodeOnRing opc src.ringNo = false → exec c s = .next (s.complete src opc d .badOpcode)) ∧
    (opcodeOnRing opc src.ringNo = true →
      (16 ≤ d.flags.toNat → exec c s = .next (s.complete src opc d .badOperand)) ∧
      (d.flags.toNat < 16 →
        (needsHelm opc = true → s.mayOriginate = false → exec c s = .next (s.complete src opc d .notHelm)) ∧
        ((needsHelm opc = false ∨ s.mayOriginate = true) →
          ((guardedBy opc).any (fun g => s.mapDenies g (1 + src.ringNo)) = true → exec c s = .next (s.complete src opc d .accessDenied)) ∧
          ((guardedBy opc).any (fun g => s.mapDenies g (1 + src.ringNo)) = false → opc ≠ 0x21 → opc ≠ 0x40 → opc ≠ 0x60 →
            (namedCycle opc = true → d.atCycle = false → exec c s = .next (s.complete src opc d .badOperand)) ∧
            (d.atCycle = true → isFuture d.op5 s.cycle = false → exec c s = .next (s.complete src opc d .cyclePast)))))))

/-- Commands on a unit that does not hold the helm or may not originate (R95): its opcodes complete NOT_HELM, no other opcode does. -/
def Obligations.NotHelm : Prop :=
  (∀ (c : Instr) (src : Src) (opc : Nat) (d : Desc) (s : State), command c = some (src, opc, d) →
    opc ∈ [0x30, 0x31, 0x32, 0x33, 0x34, 0x40, 0x41, 0x42, 0x43, 0x44, 0x60, 0x71, 0x72, 0x91, 0xB0] →
    opcodeOnRing opc src.ringNo = true → d.flags.toNat < 16 →
    (s.holder = false ∨ s.identOk = false ∨ s.mgrId = 0 ∨ s.mgrId = 0xFF) →
    exec c s = .next (s.complete src opc d .notHelm)) ∧
  (∀ (src : Src) (opc : Nat) (d : Desc) (s : State),
    opc ∉ [0x30, 0x31, 0x32, 0x33, 0x34, 0x40, 0x41, 0x42, 0x43, 0x44, 0x60, 0x71, 0x72, 0x91, 0xB0] → s.precheck src opc d ≠ some .notHelm)

/-- What an occurrence of an event source does (R96, R527, R528): a corrected ECC error does nothing but raise source 246 (R508). -/
def Obligations.EventOccurrence : Prop :=
  (∀ (s : State) (m : Fin 8) (b : BitVec 16) (g : BitVec 19) (x : Option (Fin 4)), ∃ t : State, exec (.memoryEccError m b g true x) s = .next t ∧
    t.flag (EVT_B + 0x51C) 22 = true ∧ (∀ h, h < 4 → bit (s.rg (evtRoute 246)) (8 + h) = true → (h, 246) ∈ t.evt.hpend) ∧
    (∀ h, h < 8 → bit (s.rg (evtRoute 246)) (16 + h) = true → (h, 246) ∈ t.evt.acq) ∧ s.evt.hpend.all (fun p => t.evt.hpend.contains p) = true ∧
    t.net = s.net ∧ t.axes = s.axes ∧ t.pilot = s.pilot ∧ t.cart = s.cart ∧ t.cycle = s.cycle) ∧
  (∀ (s : State) (m : Fin 8) (b : BitVec 16) (g : BitVec 19) (x : Option (Fin 4)), bits (s.rg (evtRoute 246)) 7 6 = 0 → bit (s.rg (evtRoute 246)) 12 = false →
    ∃ t : State, exec (.memoryEccError m b g true x) s = .next t ∧ t.out = s.out ∧ t.host = s.host ∧ t.cpu = s.cpu ∧
    t.regs = (s.setFlag (EVT_B + 0x51C) 22).regs) ∧
  (∀ (s : State) (m : Fin 8) (b : BitVec 16) (g : BitVec 19) (x : Option (Fin 4)) (v : Nat), bits (s.rg (evtRoute 246)) 7 6 = 1 → bit (s.rg (evtRoute 246)) 12 = false →
    bits (s.rg (evtRoute 246)) 5 0 = v → (s.msixV v).masked = false → s.host.msixOn = true → ∃ t : State,
    exec (.memoryEccError m b g true x) s = .next t ∧ t.out = s.out ++ [.msix v (s.msixV v).addr (s.msixV v).data] ∧ t.host = s.host ∧ t.cpu = s.cpu) ∧
  (∀ (s : State) (m : Fin 8) (b : BitVec 16) (g : BitVec 19) (x : Option (Fin 4)) (v : Nat), bits (s.rg (evtRoute 246)) 7 6 = 1 → bit (s.rg (evtRoute 246)) 12 = false →
    bits (s.rg (evtRoute 246)) 5 0 = v → (s.msixV v).masked = true → ∃ t : State,
    exec (.memoryEccError m b g true x) s = .next t ∧ t.out = s.out ∧ (t.msixV v).pba = true ∧ t.cpu = s.cpu) ∧
  (∀ (s : State) (m : Fin 8) (b : BitVec 16) (g : BitVec 19) (x : Option (Fin 4)), bits (s.rg (evtRoute 246)) 7 6 = 2 → bit (s.rg (evtRoute 246)) 12 = false →
    s.ringRoom 26 = false → ∃ t : State, exec (.memoryEccError m b g true x) s = .next t ∧ t.evt.lost = s.evt.lost + 1 ∧ t.flag EVT_B 1 = true)

/-- A lane word holds every field of its instruction: reading the word back gives opcode and operands (Table 6.5), and a lane stands at
one instruction at most. -/
def Obligations.LaneWordRoundTrip : Prop :=
  (∀ (op : Nat) (w : LaneWord), op < 64 → decodeLane (encodeLane op w) = (op, w)) ∧
  (∀ (s : State) (l op op' : Nat) (w w' : LaneWord), op < 64 → op' < 64 → s.standsAt l op w = true → s.standsAt l op' w' = true →
    op = op' ∧ w = w')

/-- Moves, address generators and the sequencer around an instruction (R219, R220, R225, R226), on NOP. -/
def Obligations.LaneMoves : Prop :=
  (∀ (s : State) (l : Fin 16) (w : LaneWord), s.laneAt l.val 0x00 w → mKind w.xm = 1 → mKind w.ym = 0 → ∃ t : State,
    exec (.laneNop l w) s = .next t ∧
    (t.lane l.val).dreg (mReg w.xm) = (s.lane l.val).readX (((s.lane l.val).gen (mAg w.xm)).ea (mOfs w.xm)) ∧
    (t.lane l.val).gen (mAg w.xm) = ((s.lane l.val).gen (mAg w.xm)).upd (mUpd w.xm) ∧
    (∀ k, k ≠ mReg w.xm → (t.lane l.val).dreg k = (s.lane l.val).dreg k) ∧
    (∀ k, k ≠ mAg w.xm → (t.lane l.val).gen k = (s.lane l.val).gen k) ∧
    (∀ k, (t.lane l.val).rdX k = (s.lane l.val).rdX k) ∧ (∀ k, (t.lane l.val).rdY k = (s.lane l.val).rdY k)) ∧
  (∀ (s : State) (l : Fin 16) (w : LaneWord), s.laneAt l.val 0x00 w → mKind w.xm = 2 → mKind w.ym = 0 → ∃ t : State,
    exec (.laneNop l w) s = .next t ∧
    (t.lane l.val).rdX (((s.lane l.val).gen (mAg w.xm)).ea (mOfs w.xm)) = (s.lane l.val).dreg (mReg w.xm) ∧
    (∀ k, k % 16384 ≠ ((s.lane l.val).gen (mAg w.xm)).ea (mOfs w.xm) % 16384 → (t.lane l.val).rdX k = (s.lane l.val).rdX k) ∧
    (∀ k, (t.lane l.val).rdY k = (s.lane l.val).rdY k) ∧ (∀ k, (t.lane l.val).dreg k = (s.lane l.val).dreg k)) ∧
  (∀ (s : State) (l : Fin 16) (w : LaneWord), s.laneAt l.val 0x00 w → mKind w.xm = 0 → mKind w.ym = 2 → ∃ t : State,
    exec (.laneNop l w) s = .next t ∧
    (t.lane l.val).rdY (((s.lane l.val).gen (4 + mAg w.ym)).ea (mOfs w.ym)) = (s.lane l.val).dreg (mReg w.ym) ∧
    (∀ k, k % 16384 ≠ ((s.lane l.val).gen (4 + mAg w.ym)).ea (mOfs w.ym) % 16384 → (t.lane l.val).rdY k = (s.lane l.val).rdY k) ∧
    (∀ k, (t.lane l.val).rdX k = (s.lane l.val).rdX k) ∧ (∀ k, (t.lane l.val).dreg k = (s.lane l.val).dreg k)) ∧
  (∀ (s : State) (l : Fin 16) (w : LaneWord), s.laneAt l.val 0x00 w → ∃ t : State, exec (.laneNop l w) s = .next t ∧
    (t.lane l.val).acc = (s.lane l.val).acc ∧ (t.lane l.val).carry = (s.lane l.val).carry ∧ (t.lane l.val).ran = (s.lane l.val).ran + 1 ∧
    (∀ m, m ≠ l.val → t.lane m = s.lane m) ∧ t.regs = s.regs ∧ t.axes = s.axes ∧ t.mem = s.mem ∧
    ((s.lane l.val).rep = [] → (t.lane l.val).pc = (s.lane l.val).pc + 1 ∧ (t.lane l.val).rep = []) ∧
    (∀ (r : RepLevel) (q : List RepLevel), (s.lane l.val).rep = r :: q → r.last = (s.lane l.val).pc → 0 < r.left →
      (t.lane l.val).pc = r.first ∧ (t.lane l.val).rep = { r with left := r.left - 1 } :: q) ∧
    (∀ (r : RepLevel), (s.lane l.val).rep = [r] → r.last = (s.lane l.val).pc → r.left = 0 →
      (t.lane l.val).pc = (s.lane l.val).pc + 1 ∧ (t.lane l.val).rep = [])) ∧
  (∀ (g : AddrGen), g.l = 0 → g.upd 0 = g ∧ (g.upd 1).p = (g.p + 1) % 16384 ∧ (g.upd 2).p = (((g.p : Int) + g.m) % 16384).toNat ∧
    (g.upd 3).p = (((g.p : Int) - 1) % 16384).toNat) ∧
  (∀ (g : AddrGen), 0 < g.l → g.b ≤ g.p → g.p < g.b + g.l → g.b + g.l ≤ 16384 →
    (g.upd 1).p = (if g.p + 1 = g.b + g.l then g.b else g.p + 1) ∧ (g.upd 3).p = (if g.p = g.b then g.b + g.l - 1 else g.p - 1))

/-- Reset values the spec's register tables give, of every block. -/
def Obligations.ResetValues : Prop :=
  State.reset.pending = [] ∧ State.reset.cycle = 0 ∧
  (∀ l ∈ [(TOP_RSTCTL, 0x0A00), (TOP_THERM, 0x6E6400), (HELM_CFG, 3), (HELM_STAT, 0), (CAN_B, 0x00640011), (CAN_B + 0x8, 0x0F0F3E01),
    (CAN_B + 0xC, 0x03030E00), (CAN_B + 0x34, 0x1FFFFFFF), (CAN_B + 0x48, 0x0F), (CAN_B + 0x3000, 0x00640011), (NET_FLAGS, 0), (PILOT_STAT, 0),
    (pCfg 0, 0), (HOST_ERR, 0), (TIME_FLAGS, 0)], State.reset.rg l.1 = l.2)
end

