-- ==== Sys2Proof/Laws/Tab.lean ====
section
/-! SUPPORT. What the sparse tables satisfy: a read after a write, what a write leaves alone, and that the canonical form is kept. -/

namespace Sys2Proof.Machine

theorem Tab.get_nil {α : Type} (d : α) (k : Nat) : Tab.get d [] k = d := rfl

/-- Keys of a canonical table rise from the head on. -/
theorem Tab.rising_iff {α : Type} (t : Tab α) : Tab.rising t = true ↔ t.Pairwise (fun a b => a.1 < b.1) := by
  induction t with
  | nil => simp [Tab.rising]
  | cons a r ih =>
    cases r with
    | nil => simp [Tab.rising]
    | cons b r =>
      simp only [Tab.rising, Bool.and_eq_true, decide_eq_true_eq, ih]
      constructor
      · rintro ⟨h1, h2⟩
        refine List.pairwise_cons.2 ⟨?_, h2⟩
        intro c hc
        rcases List.mem_cons.1 hc with rfl | hc
        · exact h1
        · exact Nat.lt_trans h1 (List.rel_of_pairwise_cons h2 hc)
      · intro h
        exact ⟨List.rel_of_pairwise_cons h (List.mem_cons_self ..), (List.pairwise_cons.1 h).2⟩

theorem Tab.wf_iff {α : Type} [DecidableEq α] (d : Nat → α) (t : Tab α) :
    Tab.wf d t = true ↔ t.Pairwise (fun a b => a.1 < b.1) ∧ ∀ e ∈ t, e.2 ≠ d e.1 := by
  simp [Tab.wf, Tab.rising_iff, List.all_eq_true]

/-- A table keeps its canonical form when a range of keys is cleared. -/
theorem Tab.clearRange_wf {α : Type} [DecidableEq α] (d : Nat → α) (t : Tab α) (lo hi : Nat) (h : Tab.wf d t = true) :
    Tab.wf d (Tab.clearRange t lo hi) = true := by
  rw [Tab.wf_iff] at h ⊢
  exact ⟨h.1.filter _, fun e he => h.2 e (List.mem_filter.1 he).1⟩

/-- A table keeps its canonical form when a value is written. -/
theorem Tab.set_wf {α : Type} [DecidableEq α] (d : Nat → α) (t : Tab α) (k : Nat) (v : α) (h : Tab.wf d t = true) :
    Tab.wf d (Tab.set (d k) t k v) = true := by
  rw [Tab.wf_iff] at h ⊢
  unfold Tab.set
  have hf (p : Nat × α → Bool) : ∀ e ∈ t.filter p, e.2 ≠ d e.1 := fun e he => h.2 e (List.mem_filter.1 he).1
  split
  · refine ⟨List.pairwise_append.2 ⟨h.1.filter _, h.1.filter _, ?_⟩, ?_⟩
    · intro a ha b hb
      have h1 := (List.mem_filter.1 ha).2
      have h2 := (List.mem_filter.1 hb).2
      simp only [decide_eq_true_eq] at h1 h2
      omega
    · intro e he
      rcases List.mem_append.1 he with he | he <;> exact hf _ e he
  · rename_i hv
    refine ⟨List.pairwise_append.2 ⟨h.1.filter _, List.pairwise_cons.2 ⟨?_, h.1.filter _⟩, ?_⟩, ?_⟩
    · intro b hb
      simpa using (List.mem_filter.1 hb).2
    · intro a ha b hb
      have h1 := (List.mem_filter.1 ha).2
      simp only [decide_eq_true_eq] at h1
      rcases List.mem_cons.1 hb with rfl | hb
      · exact h1
      · have h2 := (List.mem_filter.1 hb).2
        simp only [decide_eq_true_eq] at h2
        omega
    · intro e he
      rcases List.mem_append.1 he with he | he
      · exact hf _ e he
      · rcases List.mem_cons.1 he with rfl | he
        · exact hv
        · exact hf _ e he

/-- A read of a table is the value of its first entry at the key. -/
theorem Tab.get_of_filter {α : Type} (d : α) (t : Tab α) (k : Nat) :
    Tab.get d t k = ((t.filter (fun e => e.1 == k)).head?.map (fun e => e.2)).getD d := by
  unfold Tab.get
  rw [List.head?_filter]
  cases List.find? (fun e => e.1 == k) t <;> rfl

/-- A read after a write at the same key gives the value written. -/
@[simp] theorem Tab.get_set_self {α : Type} [DecidableEq α] (d : α) (t : Tab α) (k : Nat) (v : α) :
    Tab.get d (Tab.set d t k v) k = v := by
  have h1 : (t.filter (fun e => decide (e.1 < k))).filter (fun e => e.1 == k) = [] := by
    rw [List.filter_filter]; apply List.filter_eq_nil_iff.2; intro a _; simp; omega
  have h2 : (t.filter (fun e => decide (k < e.1))).filter (fun e => e.1 == k) = [] := by
    rw [List.filter_filter]; apply List.filter_eq_nil_iff.2; intro a _; simp; omega
  rw [Tab.get_of_filter]
  unfold Tab.set
  by_cases hv : v = d
  · rw [if_pos hv, List.filter_append, h1, h2, hv]
    rfl
  · rw [if_neg hv, List.filter_append, h1, List.filter_cons_of_pos (by simp), h2]
    rfl

/-- A write leaves every other key alone. -/
theorem Tab.get_set_ne {α : Type} [DecidableEq α] (d d' : α) (t : Tab α) (k j : Nat) (v : α) (h : j ≠ k) :
    Tab.get d' (Tab.set d t k v) j = Tab.get d' t j := by
  have key : (Tab.set d t k v).filter (fun e => e.1 == j) =
      t.filter (fun e => e.1 == j && decide (e.1 < k)) ++ t.filter (fun e => e.1 == j && decide (k < e.1)) := by
    unfold Tab.set
    by_cases hv : v = d
    · simp [if_pos hv, List.filter_append, List.filter_filter]
    · rw [if_neg hv, List.filter_append, List.filter_cons_of_neg (by simpa using fun e => h e.symm)]
      simp [List.filter_filter]
  have tot : t.filter (fun e => e.1 == j) =
      t.filter (fun e => e.1 == j && decide (e.1 < k)) ++ t.filter (fun e => e.1 == j && decide (k < e.1)) := by
    rcases Nat.lt_or_gt_of_ne h with hl | hl
    · have e1 : t.filter (fun e => e.1 == j && decide (k < e.1)) = [] := by
        apply List.filter_eq_nil_iff.2; intro a _; simp; omega
      rw [e1, List.append_nil]
      apply List.filter_congr
      intro a _
      by_cases hj : a.1 = j <;> simp [hj, hl]
    · have e1 : t.filter (fun e => e.1 == j && decide (e.1 < k)) = [] := by
        apply List.filter_eq_nil_iff.2; intro a _; simp; omega
      rw [e1, List.nil_append]
      apply List.filter_congr
      intro a _
      by_cases hj : a.1 = j <;> simp [hj, hl]
  rw [Tab.get_of_filter, Tab.get_of_filter, key, ← tot]

/-- A cleared range reads as the default; what lies outside is left alone. -/
theorem Tab.get_clearRange {α : Type} (d : α) (t : Tab α) (lo hi j : Nat) :
    Tab.get d (Tab.clearRange t lo hi) j = if lo ≤ j ∧ j < hi then d else Tab.get d t j := by
  rw [Tab.get_of_filter, Tab.get_of_filter]
  unfold Tab.clearRange
  rw [List.filter_filter]
  by_cases hj : lo ≤ j ∧ j < hi
  · have : t.filter (fun a => a.1 == j && (decide (a.1 < lo) || decide (hi ≤ a.1))) = [] := by
      apply List.filter_eq_nil_iff.2; intro a _; simp; intro e; subst e; exact hj
    rw [this, if_pos hj]
    rfl
  · rw [if_neg hj]
    have : t.filter (fun a => a.1 == j && (decide (a.1 < lo) || decide (hi ≤ a.1))) = t.filter (fun e => e.1 == j) := by
      apply List.filter_congr
      intro a _
      by_cases e : a.1 = j
      · have : a.1 < lo ∨ hi ≤ a.1 := by omega
        simpa [e] using this
      · simp [e]
    rw [this]

end Sys2Proof.Machine
end

