-- ==== Sys2Proof/Laws/Regs.lean ====
section
/-! SUPPORT. Registers as the operations see them: what is read back after a write of a register, a field or a flag, and what the
write leaves alone. -/

namespace Sys2Proof.Machine

open Sys2Proof

@[simp] theorem State.rg_setRg_self (s : State) (o : Nat) (w : Word) : (s.setRg o w).rg o = w := by
  simp [State.rg, State.setRg]

theorem State.rg_setRg_ne (s : State) (o p : Nat) (w : Word) (h : p ≠ o) : (s.setRg o w).rg p = s.rg p := by
  simp only [State.rg, State.setRg]
  exact Tab.get_set_ne _ _ _ _ _ _ h

@[simp] theorem State.rg_setFld_self (s : State) (o hi lo v : Nat) : (s.setFld o hi lo v).rg o = putBits (s.rg o) hi lo v := by
  simp [State.setFld]

theorem State.rg_setFld_ne (s : State) (o p hi lo v : Nat) (h : p ≠ o) : (s.setFld o hi lo v).rg p = s.rg p :=
  State.rg_setRg_ne _ _ _ _ h

theorem State.rg_setFlag_ne (s : State) (o p n : Nat) (h : p ≠ o) : (s.setFlag o n).rg p = s.rg p := State.rg_setRg_ne _ _ _ _ h

theorem State.rg_clrFlag_ne (s : State) (o p n : Nat) (h : p ≠ o) : (s.clrFlag o n).rg p = s.rg p := State.rg_setRg_ne _ _ _ _ h

theorem State.rg_emit (s : State) (e : Emit) (p : Nat) : (s.emit e).rg p = s.rg p := rfl

/-- A replaced field reads as the new value, the other bits as before. -/
theorem getLsbD_putBits (w : Word) (hi lo v i : Nat) (h1 : lo ≤ hi) (h2 : hi < 32) :
    (putBits w hi lo v).getLsbD i = if lo ≤ i ∧ i ≤ hi then v.testBit (i - lo) else w.getLsbD i := by
  unfold putBits ofNat
  rw [BitVec.getLsbD_or, BitVec.getLsbD_and, BitVec.getLsbD_not, BitVec.getLsbD_ofNat, BitVec.getLsbD_ofNat,
    Nat.testBit_shiftLeft, Nat.testBit_shiftLeft, Nat.testBit_two_pow_sub_one, Nat.testBit_mod_two_pow]
  by_cases hi32 : i < 32
  · by_cases ha : lo ≤ i ∧ i ≤ hi
    · have : i - lo < hi + 1 - lo := by omega
      simp [ha, hi32, this]
    · have hz : (decide (lo ≤ i) && decide (i - lo < hi + 1 - lo)) = false := by
        by_cases hl : lo ≤ i
        · have : ¬ (i - lo < hi + 1 - lo) := by omega
          simp [this]
        · simp [hl]
      have hy : (decide (i < 32) && (decide (lo ≤ i) && (decide (i - lo < hi + 1 - lo) && v.testBit (i - lo)))) = false := by
        rw [← Bool.and_assoc (decide (lo ≤ i)), hz]; simp
      rw [if_neg ha, hz, hy]
      simp [hi32]
  · have : ¬ (lo ≤ i ∧ i ≤ hi) := by omega
    have hw : w.getLsbD i = false := BitVec.getLsbD_of_ge _ _ (by omega)
    simp [this, hi32, hw]

@[simp] theorem State.flag_setFlag_self (s : State) (o n : Nat) (h : n < 32) : (s.setFlag o n).flag o n = true := by
  simp only [State.flag, State.setFlag, State.rg_setFld_self, bit]
  rw [getLsbD_putBits _ _ _ _ _ (Nat.le_refl _) h]
  simp

@[simp] theorem State.flag_clrFlag_self (s : State) (o n : Nat) (h : n < 32) : (s.clrFlag o n).flag o n = false := by
  simp only [State.flag, State.clrFlag, State.rg_setFld_self, bit]
  rw [getLsbD_putBits _ _ _ _ _ (Nat.le_refl _) h]
  simp

/-- A field loaded by hardware leaves every other bit of its register. -/
theorem State.flag_setFld_other (s : State) (o hi lo v n : Nat) (h1 : lo ≤ hi) (h2 : hi < 32) (h : n < lo ∨ hi < n) :
    (s.setFld o hi lo v).flag o n = s.flag o n := by
  simp only [State.flag, State.rg_setFld_self, bit]
  rw [getLsbD_putBits _ _ _ _ _ h1 h2, if_neg (by omega)]

theorem State.flag_setFlag_other (s : State) (o m n : Nat) (h1 : m < 32) (h : n ≠ m) : (s.setFlag o m).flag o n = s.flag o n :=
  State.flag_setFld_other _ _ _ _ _ _ (Nat.le_refl _) h1 (by omega)

theorem State.flag_clrFlag_other (s : State) (o m n : Nat) (h1 : m < 32) (h : n ≠ m) : (s.clrFlag o m).flag o n = s.flag o n :=
  State.flag_setFld_other _ _ _ _ _ _ (Nat.le_refl _) h1 (by omega)

/-- A field read after it was loaded. -/
theorem State.fld_setFld_self (s : State) (o hi lo v : Nat) (h1 : lo ≤ hi) (h2 : hi < 32) :
    (s.setFld o hi lo v).fld o hi lo = v % 2 ^ (hi + 1 - lo) := by
  simp only [State.fld, State.rg_setFld_self, bits, field]
  apply Nat.eq_of_testBit_eq
  intro i
  rw [Nat.testBit_mod_two_pow, Nat.testBit_mod_two_pow, Nat.testBit_shiftRight]
  by_cases hi' : i < hi + 1 - lo
  · have h := getLsbD_putBits (s.rg o) hi lo v (lo + i) h1 h2
    rw [if_pos (by omega)] at h
    rw [BitVec.getLsbD] at h
    simp only [hi', decide_true, Bool.true_and]
    rw [h]
    congr 1
    omega
  · simp [hi']

end Sys2Proof.Machine
end

