-- ==== Sys2Proof/Laws/Apart.lean ====
section
/-! SUPPORT. Events, completions and ring records touch only the host side: HOST, EVT and CPU registers, the rings, the event
lines, the dispatcher, outputs and free values. Everything else of the state stays. -/

namespace Sys2Proof.Machine

open Sys2Proof

/-- A register of the blocks HOST, EVT and CPU. -/
def hostSide (o : Nat) : Prop := o / 0x10000 = 1 ∨ o / 0x10000 = 2 ∨ o / 0x10000 = 0x12

/-- From `r` to `t` only the host side has changed. -/
structure Apart (r t : State) : Prop where
  net : t.net = r.net
  tim : t.tim = r.tim
  pilot : t.pilot = r.pilot
  helm : t.helm = r.helm
  boot : t.boot = r.boot
  lanes : t.lanes = r.lanes
  mem : t.mem = r.mem
  axes : t.axes = r.axes
  loc : t.loc = r.loc
  cart : t.cart = r.cart
  safe : t.safe = r.safe
  acq : t.acq = r.acq
  can : t.can = r.can
  cycle : t.cycle = r.cycle
  bnd : t.bnd = r.bnd
  ntime : t.ntime = r.ntime
  rg : ∀ o, ¬ hostSide o → t.rg o = r.rg o

theorem Apart.refl (s : State) : Apart s s := ⟨rfl, rfl, rfl, rfl, rfl, rfl, rfl, rfl, rfl, rfl, rfl, rfl, rfl, rfl, rfl, rfl, fun _ _ => rfl⟩

theorem Apart.trans {r s t : State} (h : Apart r s) (k : Apart s t) : Apart r t :=
  ⟨k.net.trans h.net, k.tim.trans h.tim, k.pilot.trans h.pilot, k.helm.trans h.helm, k.boot.trans h.boot, k.lanes.trans h.lanes, k.mem.trans h.mem, k.axes.trans h.axes, k.loc.trans h.loc, k.cart.trans h.cart, k.safe.trans h.safe, k.acq.trans h.acq, k.can.trans h.can, k.cycle.trans h.cycle, k.bnd.trans h.bnd, k.ntime.trans h.ntime,
    fun o ho => (k.rg o ho).trans (h.rg o ho)⟩

/-- An update of the host side's own data. -/
theorem Apart.upd {r t : State} (h : Apart r t) {pending : List Instr} {free : Nat} {out : List Emit} {host : HostSt} {evt : EvtSt}
    {cpu : CpuSt} : Apart r (State.mk pending free out t.regs host evt cpu t.net t.tim t.pilot t.helm t.boot t.lanes t.mem t.axes t.loc t.cart t.safe t.acq t.can t.cycle t.bnd t.ntime) :=
  ⟨h.net, h.tim, h.pilot, h.helm, h.boot, h.lanes, h.mem, h.axes, h.loc, h.cart, h.safe, h.acq, h.can, h.cycle, h.bnd, h.ntime, h.rg⟩

theorem Apart.ite {r t u : State} {c : Prop} [Decidable c] (h : Apart r t) (k : Apart r u) : Apart r (if c then t else u) := by
  split <;> assumption

theorem Apart.foldl {α : Type} {r : State} {f : State → α → State} (l : List α) :
    ∀ {t : State}, Apart r t → (∀ (x : State) (a : α), Apart r x → Apart r (f x a)) → Apart r (l.foldl f t) := by
  induction l with
  | nil => intro t h _; exact h
  | cons a l ih => intro t h hf; exact ih (hf t a h) hf

theorem State.setRg_apart {r : State} (s : State) (o : Nat) (w : Word) (ho : hostSide o) (h : Apart r s) : Apart r (s.setRg o w) :=
  ⟨h.net, h.tim, h.pilot, h.helm, h.boot, h.lanes, h.mem, h.axes, h.loc, h.cart, h.safe, h.acq, h.can, h.cycle, h.bnd, h.ntime, fun p hp => by
    have hne : p ≠ o := by rintro rfl; exact hp ho
    rw [State.rg_setRg_ne _ _ _ _ hne]
    exact h.rg p hp⟩

theorem State.setFld_apart {r : State} (s : State) (o a b v : Nat) (ho : hostSide o) (h : Apart r s) : Apart r (s.setFld o a b v) :=
  State.setRg_apart _ _ _ ho h

theorem State.setFlag_apart {r : State} (s : State) (o n : Nat) (ho : hostSide o) (h : Apart r s) : Apart r (s.setFlag o n) :=
  State.setRg_apart _ _ _ ho h

theorem State.clrFlag_apart {r : State} (s : State) (o n : Nat) (ho : hostSide o) (h : Apart r s) : Apart r (s.clrFlag o n) :=
  State.setRg_apart _ _ _ ho h

theorem State.putFlag_apart {r : State} (s : State) (o n : Nat) (b : Bool) (ho : hostSide o) (h : Apart r s) : Apart r (s.putFlag o n b) :=
  State.setRg_apart _ _ _ ho h

theorem State.incFld_apart {r : State} (s : State) (o a b i : Nat) (ho : hostSide o) (h : Apart r s) : Apart r (s.incFld o a b i) :=
  State.setRg_apart _ _ _ ho h

theorem State.emit_apart {r : State} (s : State) (e : Emit) (h : Apart r s) : Apart r (s.emit e) := Apart.upd h

theorem State.makeReady_apart {r : State} (s : State) (t : Nat) (b : Bool) (h : Apart r s) : Apart r (s.makeReady t b) := by
  unfold State.makeReady
  split
  · exact Apart.upd h
  · exact h

theorem hostSide_th (t k : Nat) (hk : k < 0x40) : hostSide (thCfg t + k) := by
  unfold hostSide
  simp only [thCfg, CPU_B]
  omega

theorem hostSide_ring (r k : Nat) (hr : r < 64) (hk : k < 0x20) : hostSide (rBase r + k) := by
  unfold hostSide
  simp only [rBase, HOST_B]
  omega

theorem hostSide_pend (src : Nat) (h : src < 256) : hostSide (EVT_B + 0x500 + src / 32 * 4) := by
  unfold hostSide
  simp only [EVT_B]
  omega

theorem State.finishWait_apart {r : State} (s : State) (w : Wait) (h : Apart r s) : Apart r (s.finishWait w) := by
  unfold State.finishWait
  have k : Apart r ((s.setFld (thCfg w.thread + 0x10) 3 0 ((w.matched.zipIdx.filter
      (fun p => p.1 && tokKind (w.toks.getD p.2 0) != 0)).foldl (fun n p => n + 2 ^ p.2) 0)).incFld (thCfg w.thread + 0x28) 31 0 1) :=
    State.incFld_apart _ _ _ _ _ (hostSide_th _ _ (by omega)) (State.setFld_apart _ _ _ _ _ (hostSide_th _ _ (by omega)) h)
  exact Apart.ite (State.incFld_apart _ _ _ _ _ (hostSide_th _ _ (by omega)) k) k

theorem State.tokenEdge_apart {r : State} (s : State) (ev : Option Nat) (h : Apart r s) : Apart r (s.tokenEdge ev) := by
  unfold State.tokenEdge
  refine Apart.foldl _ (Apart.foldl _ (Apart.upd h) ?_) ?_
  · intro x m hx
    exact State.setRg_apart _ _ _ (hostSide_th _ _ (by omega)) hx
  · intro x w hx
    exact State.makeReady_apart _ _ _ (State.finishWait_apart _ _ hx)

theorem State.setRingX_apart {r : State} (s : State) (q : Nat) (x : RingX) (h : Apart r s) : Apart r (s.setRingX q x) := Apart.upd h

theorem State.ringRefresh_apart {r : State} (s : State) (q : Nat) (hq : q < 64) (h : Apart r s) : Apart r (s.ringRefresh q) :=
  State.putFlag_apart _ _ _ _ (hostSide_ring _ _ hq (by omega)) h

theorem State.writeback_apart {r : State} (s : State) (q : Nat) (h : Apart r s) : Apart r (s.writeback q) :=
  State.emit_apart _ _ h

theorem State.sendMsix_apart {r : State} (s : State) (v : Nat) (h : Apart r s) : Apart r (s.sendMsix v) := by
  unfold State.sendMsix
  exact Apart.ite (Apart.upd h) (State.emit_apart _ _ h)

theorem State.routeEvent_apart {r : State} (s : State) (src : Nat) (hs : src < 256) (h : Apart r s) : Apart r (s.routeEvent src) := by
  unfold State.routeEvent
  have k := State.setFlag_apart s _ (src % 32) (hostSide_pend src hs) h
  refine Apart.ite (State.tokenEdge_apart _ _ (Apart.ite (State.sendMsix_apart _ _ (Apart.upd k)) (Apart.upd k)))
    (Apart.ite (State.sendMsix_apart _ _ (Apart.upd k)) (Apart.upd k))

theorem State.countRing_apart {r : State} (s : State) (q : Nat) (h : Apart r s) : Apart r (s.countRing q).1 :=
  State.setRingX_apart _ _ _ h

theorem State.append_apart {r : State} (s : State) (q : Nat) (l : List Byte) (hq : q < 64) (h : Apart r s) : Apart r (s.append q l) :=
  State.writeback_apart _ _ (State.ringRefresh_apart _ _ hq
    (State.setFld_apart _ _ _ _ _ (hostSide_ring _ _ hq (by omega)) (State.emit_apart _ _ h)))

theorem State.ringEventBare_apart {r : State} (s : State) (q : Nat) (hq : q < 64) (h : Apart r s) : Apart r (s.ringEventBare q) := by
  unfold State.ringEventBare
  exact Apart.ite h (State.routeEvent_apart _ q (by omega) (State.setRingX_apart _ _ _ h))

theorem State.ringFlagBare_apart {r : State} (s : State) (q n : Nat) (hq : q < 64) (h : Apart r s) : Apart r (s.ringFlagBare q n) := by
  unfold State.ringFlagBare
  exact Apart.ite h (State.ringEventBare_apart _ _ hq (State.setFlag_apart _ _ _ (hostSide_ring _ _ hq (by omega)) h))

theorem State.eventRecord_apart {r : State} (s : State) (src arg : Nat) (h : Apart r s) : Apart r (s.eventRecord src arg) := by
  unfold State.eventRecord
  refine Apart.ite ?_ ?_
  · have k := State.append_apart s 26 (leBytes 2 src ++ leBytes 2 (min s.evt.lost 0xFFFF) ++ leBytes 4 s.cycle.toNat ++
      leBytes 4 arg ++ leBytes 4 s.ntime) (by omega) h
    exact Apart.ite (State.ringEventBare_apart _ _ (by omega) (State.countRing_apart _ _ (Apart.upd k)))
      (State.countRing_apart _ _ (Apart.upd k))
  · refine State.ringFlagBare_apart _ _ _ (by omega) ?_
    refine State.incFld_apart _ _ _ _ _ (hostSide_ring 26 0x18 (by omega) (by omega)) ?_
    exact State.setFlag_apart _ EVT_B 1 (Or.inr (Or.inl (by decide))) (Apart.upd h)

/-- An event touches only the host side. -/
theorem State.raise_apart {r : State} (s : State) (src arg : Nat) (hs : src < 256) (h : Apart r s) : Apart r (s.raise src arg) := by
  unfold State.raise
  exact Apart.ite (State.eventRecord_apart _ _ _ (State.routeEvent_apart _ _ hs h)) (State.routeEvent_apart _ _ hs h)

theorem State.ringEvent_apart {r : State} (s : State) (q : Nat) (hq : q < 64) (h : Apart r s) : Apart r (s.ringEvent q) := by
  unfold State.ringEvent
  exact Apart.ite h (State.raise_apart _ q q (by omega) (State.setRingX_apart _ _ _ h))

theorem State.ringFlag_apart {r : State} (s : State) (q n : Nat) (hq : q < 64) (h : Apart r s) : Apart r (s.ringFlag q n) := by
  unfold State.ringFlag
  exact Apart.ite h (State.ringEvent_apart _ _ hq (State.setFlag_apart _ _ _ (hostSide_ring _ _ hq (by omega)) h))

theorem State.pushRing_apart {r : State} (s : State) (q : Nat) (l : List Byte) (hq : q < 64) (h : Apart r s) : Apart r (s.pushRing q l) := by
  unfold State.pushRing
  have k := State.countRing_apart _ q (State.append_apart s q l hq h)
  exact Apart.ite (State.ringEvent_apart _ _ hq k) k

theorem State.loseRing_apart {r : State} (s : State) (q : Nat) (hq : q < 64) (h : Apart r s) : Apart r (s.loseRing q) :=
  State.ringFlag_apart _ _ _ hq (State.incFld_apart _ _ _ _ _ (hostSide_ring _ _ hq (by omega)) h)

theorem State.release_apart {r : State} (s : State) (src : Src) (opc : Nat) (d : Desc) (h : Apart r s) : Apart r (s.release src opc d) :=
  Apart.upd h

/-- A completion touches only the host side. -/
theorem State.complete_apart {r : State} (s : State) (src : Src) (opc : Nat) (d : Desc) (st : St) (lo hi : Nat)
    (hq : s.slotOf src opc d < 64) (h : Apart r s) : Apart r (s.complete src opc d st lo hi) := by
  unfold State.complete
  have k := State.release_apart s src opc d h
  cases src with
  | ring n =>
    refine Apart.ite (Apart.upd k) (Apart.ite ?_ k)
    have k2 := State.countRing_apart _ (s.slotOf (.ring n) opc d)
      (State.append_apart _ _ (complBytes d.tag opc st n.val lo hi) hq k)
    exact Apart.ite (State.ringEvent_apart _ _ hq k2) k2
  | port n =>
    have ho : ∀ c, c < 0x40 → hostSide (cPort n.val + c) := by
      intro c hc
      have := n.isLt
      unfold hostSide
      simp only [cPort, CPU_B]
      omega
    exact State.raise_apart _ _ _ (by have := n.isLt; omega) (State.clrFlag_apart _ _ _ (ho _ (by omega))
      (State.setFlag_apart _ _ _ (ho _ (by omega)) (State.setRg_apart _ _ _ (ho _ (by omega)) (State.setRg_apart _ _ _ (ho _ (by omega))
        (State.setRg_apart _ _ _ (ho _ (by omega)) (State.setRg_apart _ _ _ (ho _ (by omega)) k))))))

@[simp] theorem State.raise_net (s : State) (src arg : Nat) (h : src < 256) : (s.raise src arg).net = s.net :=
  (State.raise_apart s src arg h (Apart.refl s)).net

@[simp] theorem State.raise_tim (s : State) (src arg : Nat) (h : src < 256) : (s.raise src arg).tim = s.tim :=
  (State.raise_apart s src arg h (Apart.refl s)).tim

@[simp] theorem State.raise_pilot (s : State) (src arg : Nat) (h : src < 256) : (s.raise src arg).pilot = s.pilot :=
  (State.raise_apart s src arg h (Apart.refl s)).pilot

@[simp] theorem State.raise_helm (s : State) (src arg : Nat) (h : src < 256) : (s.raise src arg).helm = s.helm :=
  (State.raise_apart s src arg h (Apart.refl s)).helm

@[simp] theorem State.raise_boot (s : State) (src arg : Nat) (h : src < 256) : (s.raise src arg).boot = s.boot :=
  (State.raise_apart s src arg h (Apart.refl s)).boot

@[simp] theorem State.raise_lanes (s : State) (src arg : Nat) (h : src < 256) : (s.raise src arg).lanes = s.lanes :=
  (State.raise_apart s src arg h (Apart.refl s)).lanes

@[simp] theorem State.raise_mem (s : State) (src arg : Nat) (h : src < 256) : (s.raise src arg).mem = s.mem :=
  (State.raise_apart s src arg h (Apart.refl s)).mem

@[simp] theorem State.raise_axes (s : State) (src arg : Nat) (h : src < 256) : (s.raise src arg).axes = s.axes :=
  (State.raise_apart s src arg h (Apart.refl s)).axes

@[simp] theorem State.raise_loc (s : State) (src arg : Nat) (h : src < 256) : (s.raise src arg).loc = s.loc :=
  (State.raise_apart s src arg h (Apart.refl s)).loc

@[simp] theorem State.raise_cart (s : State) (src arg : Nat) (h : src < 256) : (s.raise src arg).cart = s.cart :=
  (State.raise_apart s src arg h (Apart.refl s)).cart

@[simp] theorem State.raise_safe (s : State) (src arg : Nat) (h : src < 256) : (s.raise src arg).safe = s.safe :=
  (State.raise_apart s src arg h (Apart.refl s)).safe

@[simp] theorem State.raise_acq (s : State) (src arg : Nat) (h : src < 256) : (s.raise src arg).acq = s.acq :=
  (State.raise_apart s src arg h (Apart.refl s)).acq

@[simp] theorem State.raise_can (s : State) (src arg : Nat) (h : src < 256) : (s.raise src arg).can = s.can :=
  (State.raise_apart s src arg h (Apart.refl s)).can

@[simp] theorem State.raise_cycle (s : State) (src arg : Nat) (h : src < 256) : (s.raise src arg).cycle = s.cycle :=
  (State.raise_apart s src arg h (Apart.refl s)).cycle

@[simp] theorem State.raise_bnd (s : State) (src arg : Nat) (h : src < 256) : (s.raise src arg).bnd = s.bnd :=
  (State.raise_apart s src arg h (Apart.refl s)).bnd

@[simp] theorem State.raise_ntime (s : State) (src arg : Nat) (h : src < 256) : (s.raise src arg).ntime = s.ntime :=
  (State.raise_apart s src arg h (Apart.refl s)).ntime

/-- An event leaves the registers of every other block. -/
theorem State.rg_raise (s : State) (src arg o : Nat) (h : src < 256) (ho : ¬ hostSide o) : (s.raise src arg).rg o = s.rg o :=
  (State.raise_apart s src arg h (Apart.refl s)).rg o ho

end Sys2Proof.Machine
end

