-- ==== Sys2Proof/Laws/Kept.lean ====
section
/-! SUPPORT. What every operation keeps, said once: the queue, the canonical form of the register table, the outputs already
made, and the free values already drawn. The files Laws/Kept….lean show it for each operation of the model. -/

namespace Sys2Proof.Machine

open Sys2Proof

/-- From `r` to `t` the queue is the same, a canonical register table stays canonical, outputs are only added, and the counter
of free values never goes back. -/
structure Kept (r t : State) : Prop where
  pending : t.pending = r.pending
  canonical : Tab.wf resetWord r.regs = true → Tab.wf resetWord t.regs = true
  out : r.out <+: t.out
  free : r.free ≤ t.free

theorem Kept.refl (s : State) : Kept s s := ⟨rfl, id, List.prefix_refl _, Nat.le_refl _⟩

theorem Kept.trans {r s t : State} (h : Kept r s) (k : Kept s t) : Kept r t :=
  ⟨k.pending.trans h.pending, fun c => k.canonical (h.canonical c), h.out.trans k.out, Nat.le_trans h.free k.free⟩

/-- An update of other fields. -/
theorem Kept.upd {r t : State} (h : Kept r t) {host : HostSt} {evt : EvtSt} {cpu : CpuSt} {net : NetSt} {tim : TimeSt} {pilot : PilotSt} {helm : HelmSt} 
    {boot : BootSt} {lanes : Tab LaneSt} {mem : MemSt} {axes : Tab AxisSt} {loc : LocalSt} {cart : CartSt} 
    {safe : SafeSt} {acq : AcqSt} {can : CanSt} {cycle : BitVec 32} {bnd : Nat} {ntime : Nat} :
    Kept r (State.mk t.pending t.free t.out t.regs host evt cpu net tim pilot helm boot lanes mem axes loc cart safe acq can cycle bnd ntime) :=
  ⟨h.pending, h.canonical, h.out, h.free⟩

/-- An update of other fields that draws free values. -/
theorem Kept.updFree {r t : State} (h : Kept r t) {n : Nat} {host : HostSt} {evt : EvtSt} {cpu : CpuSt} {net : NetSt} {tim : TimeSt} {pilot : PilotSt} {helm : HelmSt} 
    {boot : BootSt} {lanes : Tab LaneSt} {mem : MemSt} {axes : Tab AxisSt} {loc : LocalSt} {cart : CartSt} 
    {safe : SafeSt} {acq : AcqSt} {can : CanSt} {cycle : BitVec 32} {bnd : Nat} {ntime : Nat} :
    Kept r (State.mk t.pending (t.free + n) t.out t.regs host evt cpu net tim pilot helm boot lanes mem axes loc cart safe acq can cycle bnd ntime) :=
  ⟨h.pending, h.canonical, h.out, Nat.le_trans h.free (Nat.le_add_right _ _)⟩

/-- An update of other fields that clears a range of registers. -/
theorem Kept.updClear {r t : State} (h : Kept r t) {lo hi : Nat} {host : HostSt} {evt : EvtSt} {cpu : CpuSt} {net : NetSt} {tim : TimeSt} {pilot : PilotSt} {helm : HelmSt} 
    {boot : BootSt} {lanes : Tab LaneSt} {mem : MemSt} {axes : Tab AxisSt} {loc : LocalSt} {cart : CartSt} 
    {safe : SafeSt} {acq : AcqSt} {can : CanSt} {cycle : BitVec 32} {bnd : Nat} {ntime : Nat} :
    Kept r (State.mk t.pending t.free t.out (Tab.clearRange t.regs lo hi) host evt cpu net tim pilot helm boot lanes mem axes loc cart safe acq can cycle bnd ntime) :=
  ⟨h.pending, fun c => Tab.clearRange_wf _ _ _ _ (h.canonical c), h.out, h.free⟩

/-- An update of other fields that clears two ranges of registers. -/
theorem Kept.updClear2 {r t : State} (h : Kept r t) {lo hi lo' hi' : Nat} {host : HostSt} {evt : EvtSt} {cpu : CpuSt} {net : NetSt} {tim : TimeSt} {pilot : PilotSt} {helm : HelmSt} 
    {boot : BootSt} {lanes : Tab LaneSt} {mem : MemSt} {axes : Tab AxisSt} {loc : LocalSt} {cart : CartSt} 
    {safe : SafeSt} {acq : AcqSt} {can : CanSt} {cycle : BitVec 32} {bnd : Nat} {ntime : Nat} :
    Kept r (State.mk t.pending t.free t.out (Tab.clearRange (Tab.clearRange t.regs lo hi) lo' hi') host evt cpu net tim pilot helm boot lanes mem axes loc cart safe acq can cycle bnd ntime) :=
  ⟨h.pending, fun c => Tab.clearRange_wf _ _ _ _ (Tab.clearRange_wf _ _ _ _ (h.canonical c)), h.out, h.free⟩

/-- Either branch of a choice. -/
theorem Kept.ite {r t u : State} {c : Prop} [Decidable c] (h : Kept r t) (k : Kept r u) : Kept r (if c then t else u) := by
  split <;> assumption

/-- Either branch of a choice of a state and further data. -/
theorem Kept.iteP {β : Type} {r : State} {t u : State × β} {c : Prop} [Decidable c] (h : Kept r t.1) (k : Kept r u.1) :
    Kept r (if c then t else u).1 := by
  split <;> assumption

/-- A fold keeps what each of its steps keeps. -/
theorem Kept.foldl {α : Type} {r : State} {f : State → α → State} (l : List α) :
    ∀ {t : State}, Kept r t → (∀ (x : State) (a : α), Kept r x → Kept r (f x a)) → Kept r (l.foldl f t) := by
  induction l with
  | nil => intro t h _; exact h
  | cons a l ih => intro t h hf; exact ih (hf t a h) hf

/-- A fold over a state and further data. -/
theorem Kept.foldlP {α β : Type} {r : State} {f : State × β → α → State × β} (l : List α) :
    ∀ {t : State × β}, Kept r t.1 → (∀ (x : State × β) (a : α), Kept r x.1 → Kept r (f x a).1) → Kept r (l.foldl f t).1 := by
  induction l with
  | nil => intro t h _; exact h
  | cons a l ih => intro t h hf; exact ih (hf t a h) hf

/-- An operation that may not apply keeps what it should where it does. -/
def KeptOpt (r : State) (o : Option State) : Prop := ∀ t, o = some t → Kept r t

theorem KeptOpt.none {r : State} : KeptOpt r none := by intro t h; cases h

theorem KeptOpt.some {r u : State} (h : Kept r u) : KeptOpt r (some u) := by intro t e; cases e; exact h

theorem KeptOpt.ite {r : State} {c : Prop} [Decidable c] {x y : Option State} (h : KeptOpt r x) (k : KeptOpt r y) :
    KeptOpt r (if c then x else y) := by
  split <;> assumption

end Sys2Proof.Machine
end

