-- ==== Sys2Proof/Laws/KeptOps.lean ====
section
/-! SUPPORT. What the register and output operations keep. -/

namespace Sys2Proof.Machine

open Sys2Proof

theorem State.setRg_kept {r : State} (s : State) (off : Nat) (w : Word) (ks : Kept r s) : Kept r (s.setRg off w) :=
  ⟨ks.pending, fun c => Tab.set_wf resetWord s.regs off w (ks.canonical c), ks.out, ks.free⟩

theorem State.emit_kept {r : State} (s : State) (e : Emit) (ks : Kept r s) : Kept r (s.emit e) :=
  ⟨ks.pending, ks.canonical, ks.out.trans (List.prefix_append _ _), ks.free⟩

theorem State.draw_kept {r : State} (s : State) (ks : Kept r s) : Kept r s.draw :=
  Kept.updFree ks

end Sys2Proof.Machine
end

