-- ==== Sys2Proof/Laws/KeptRaise.lean ====
section
/-! SUPPORT. What the operations of Machine/Ops.lean keep (see Laws/Kept.lean). -/

namespace Sys2Proof.Machine

open Sys2Proof

theorem State.setFld_kept {r : State} (s : State) (off : Nat) (hi : Nat) (lo : Nat) (v : Nat) (ks : Kept r s) : Kept r (State.setFld s off hi lo v) := by
  unfold State.setFld
  with_reducible apply State.setRg_kept
  exact ks

theorem State.setFlag_kept {r : State} (s : State) (off : Nat) (n : Nat) (ks : Kept r s) : Kept r (State.setFlag s off n) := by
  unfold State.setFlag
  with_reducible apply State.setFld_kept
  exact ks

theorem State.sendMsix_kept {r : State} (s : State) (v : Nat) (ks : Kept r s) : Kept r (State.sendMsix s v) := by
  unfold State.sendMsix
  lift_lets
  intro x0
  clear_value x0
  intro x1
  clear_value x1
  apply Kept.ite
  · with_reducible apply Kept.upd
    exact ks
  · with_reducible apply State.emit_kept
    exact ks

theorem State.makeReady_kept {r : State} (s : State) (t : Nat) (head : Bool) (ks : Kept r s) : Kept r (State.makeReady s t head) := by
  unfold State.makeReady
  apply Kept.ite
  · lift_lets
    intro x0
    clear_value x0
    intro x1
    clear_value x1
    with_reducible apply Kept.upd
    exact ks
  · exact ks

theorem State.incFld_kept {r : State} (s : State) (off : Nat) (hi : Nat) (lo : Nat) (i : Nat) (ks : Kept r s) : Kept r (State.incFld s off hi lo i) := by
  unfold State.incFld
  with_reducible apply State.setFld_kept
  exact ks

theorem State.finishWait_kept {r : State} (s : State) (w : Wait) (ks : Kept r s) : Kept r (State.finishWait s w) := by
  unfold State.finishWait
  lift_lets
  intro x0
  clear_value x0
  intro x1
  clear_value x1
  intro x2
  clear_value x2
  intro x3
  have kx3 : Kept r x3 := by
    unfold x3
    with_reducible apply State.incFld_kept
    with_reducible apply State.setFld_kept
    exact ks
  clear_value x3
  apply Kept.ite
  · with_reducible apply State.incFld_kept
    exact kx3
  · exact kx3

theorem State.tokenEdge_kept {r : State} (s : State) (ev : Option Nat) (ks : Kept r s) : Kept r (State.tokenEdge s ev) := by
  unfold State.tokenEdge
  lift_lets
  intro x0
  clear_value x0
  intro x1
  clear_value x1
  intro x2
  clear_value x2
  intro x3
  clear_value x3
  intro x4
  clear_value x4
  intro x5
  clear_value x5
  intro x6
  clear_value x6
  intro x7
  have kx7 : Kept r x7 := by
    unfold x7
    with_reducible apply Kept.upd
    exact ks
  clear_value x7
  intro x8
  have kx8 : Kept r x8 := by
    unfold x8
    refine Kept.foldl _ ?_ ?_
    · exact kx7
    · intro a9
      intro a10
      intro h11
      with_reducible apply State.setRg_kept
      exact h11
  clear_value x8
  refine Kept.foldl _ ?_ ?_
  · exact kx8
  · intro a12
    intro a13
    intro h14
    with_reducible apply State.makeReady_kept
    with_reducible apply State.finishWait_kept
    exact h14

theorem State.routeEvent_kept {r : State} (s : State) (src : Nat) (ks : Kept r s) : Kept r (State.routeEvent s src) := by
  unfold State.routeEvent
  lift_lets
  intro x0
  clear_value x0
  intro x1
  have kx1 : Kept r x1 := by
    unfold x1
    with_reducible apply State.setFlag_kept
    exact ks
  clear_value x1
  intro x2
  clear_value x2
  intro x3
  clear_value x3
  intro x4
  clear_value x4
  intro x5
  clear_value x5
  intro x6
  have kx6 : Kept r x6 := by
    unfold x6
    with_reducible apply Kept.upd
    exact kx1
  clear_value x6
  intro x7
  have kx7 : Kept r x7 := by
    unfold x7
    apply Kept.ite
    · with_reducible apply State.sendMsix_kept
      exact kx6
    · exact kx6
  clear_value x7
  apply Kept.ite
  · with_reducible apply State.tokenEdge_kept
    exact kx7
  · exact kx7

theorem State.writeback_kept {r : State} (s : State) (r1x : Nat) (ks : Kept r s) : Kept r (State.writeback s r1x) := by
  unfold State.writeback
  with_reducible apply State.emit_kept
  exact ks

theorem State.putFlag_kept {r : State} (s : State) (off : Nat) (n : Nat) (b : Bool) (ks : Kept r s) : Kept r (State.putFlag s off n b) := by
  unfold State.putFlag
  with_reducible apply State.setFld_kept
  exact ks

theorem State.ringRefresh_kept {r : State} (s : State) (r1x : Nat) (ks : Kept r s) : Kept r (State.ringRefresh s r1x) := by
  unfold State.ringRefresh
  with_reducible apply State.putFlag_kept
  exact ks

theorem State.append_kept {r : State} (s : State) (r1x : Nat) (recd : List Byte) (ks : Kept r s) : Kept r (State.append s r1x recd) := by
  unfold State.append
  lift_lets
  intro x0
  clear_value x0
  intro x1
  have kx1 : Kept r x1 := by
    unfold x1
    with_reducible apply State.emit_kept
    exact ks
  clear_value x1
  with_reducible apply State.writeback_kept
  with_reducible apply State.ringRefresh_kept
  with_reducible apply State.setFld_kept
  exact kx1

theorem State.setRingX_kept {r : State} (s : State) (r1x : Nat) (x : RingX) (ks : Kept r s) : Kept r (State.setRingX s r1x x) := by
  unfold State.setRingX
  with_reducible apply Kept.upd
  exact ks

theorem State.countRing_kept {r : State} (s : State) (r1x : Nat) (ks : Kept r s) : Kept r (State.countRing s r1x).1 := by
  unfold State.countRing
  lift_lets
  intro x0
  clear_value x0
  intro x1
  clear_value x1
  intro x2
  clear_value x2
  dsimp only
  with_reducible apply State.setRingX_kept
  exact ks

theorem State.ringEventBare_kept {r : State} (s : State) (r1x : Nat) (ks : Kept r s) : Kept r (State.ringEventBare s r1x) := by
  unfold State.ringEventBare
  apply Kept.ite
  · exact ks
  · with_reducible apply State.routeEvent_kept
    with_reducible apply State.setRingX_kept
    exact ks

theorem State.ringFlagBare_kept {r : State} (s : State) (r1x : Nat) (n : Nat) (ks : Kept r s) : Kept r (State.ringFlagBare s r1x n) := by
  unfold State.ringFlagBare
  apply Kept.ite
  · exact ks
  · with_reducible apply State.ringEventBare_kept
    with_reducible apply State.setFlag_kept
    exact ks

theorem State.eventRecord_kept {r : State} (s : State) (src : Nat) (arg : Nat) (ks : Kept r s) : Kept r (State.eventRecord s src arg) := by
  unfold State.eventRecord
  apply Kept.ite
  · lift_lets
    intro x0
    clear_value x0
    intro x1
    have kx1 : Kept r x1 := by
      unfold x1
      with_reducible apply State.append_kept
      exact ks
    clear_value x1
    intro x2
    clear_value x2
    intro x3
    have kx3 : Kept r x3 := by
      unfold x3
      with_reducible apply Kept.upd
      exact kx1
    clear_value x3
    intro x4
    have kx4 : Kept r x4.1 := by
      unfold x4
      with_reducible apply State.countRing_kept
      exact kx3
    clear_value x4
    apply Kept.ite
    · with_reducible apply State.ringEventBare_kept
      exact kx4
    · exact kx4
  · lift_lets
    intro x5
    clear_value x5
    intro x6
    have kx6 : Kept r x6 := by
      unfold x6
      with_reducible apply Kept.upd
      exact ks
    clear_value x6
    intro x7
    have kx7 : Kept r x7 := by
      unfold x7
      with_reducible apply State.incFld_kept
      with_reducible apply State.setFlag_kept
      exact kx6
    clear_value x7
    with_reducible apply State.ringFlagBare_kept
    exact kx7

theorem State.raise_kept {r : State} (s : State) (src : Nat) (arg : Nat) (ks : Kept r s) : Kept r (State.raise s src arg) := by
  unfold State.raise
  lift_lets
  intro x0
  clear_value x0
  intro x1
  have kx1 : Kept r x1 := by
    unfold x1
    with_reducible apply State.routeEvent_kept
    exact ks
  clear_value x1
  apply Kept.ite
  · with_reducible apply State.eventRecord_kept
    exact kx1
  · exact kx1

theorem State.ringEvent_kept {r : State} (s : State) (r1x : Nat) (ks : Kept r s) : Kept r (State.ringEvent s r1x) := by
  unfold State.ringEvent
  apply Kept.ite
  · exact ks
  · with_reducible apply State.raise_kept
    with_reducible apply State.setRingX_kept
    exact ks

theorem State.ringFlag_kept {r : State} (s : State) (r1x : Nat) (n : Nat) (ks : Kept r s) : Kept r (State.ringFlag s r1x n) := by
  unfold State.ringFlag
  apply Kept.ite
  · exact ks
  · with_reducible apply State.ringEvent_kept
    with_reducible apply State.setFlag_kept
    exact ks

theorem State.loseRing_kept {r : State} (s : State) (r1x : Nat) (ks : Kept r s) : Kept r (State.loseRing s r1x) := by
  unfold State.loseRing
  with_reducible apply State.ringFlag_kept
  with_reducible apply State.incFld_kept
  exact ks

theorem State.pushRing_kept {r : State} (s : State) (r1x : Nat) (recd : List Byte) (ks : Kept r s) : Kept r (State.pushRing s r1x recd) := by
  unfold State.pushRing
  lift_lets
  intro x0
  have kx0 : Kept r x0.1 := by
    unfold x0
    with_reducible apply State.countRing_kept
    with_reducible apply State.append_kept
    exact ks
  clear_value x0
  apply Kept.ite
  · with_reducible apply State.ringEvent_kept
    exact kx0
  · exact kx0

theorem State.release_kept {r : State} (s : State) (src : Src) (opc : Nat) (d : Desc) (ks : Kept r s) : Kept r (State.release s src opc d) := by
  unfold State.release
  lift_lets
  intro x0
  clear_value x0
  intro x1
  clear_value x1
  with_reducible apply Kept.upd
  exact ks

theorem State.forget_kept {r : State} (s : State) (src : Src) (opc : Nat) (d : Desc) (ks : Kept r s) : Kept r (State.forget s src opc d) := by
  unfold State.forget
  with_reducible apply Kept.upd
  exact ks

theorem State.clrFlag_kept {r : State} (s : State) (off : Nat) (n : Nat) (ks : Kept r s) : Kept r (State.clrFlag s off n) := by
  unfold State.clrFlag
  with_reducible apply State.setFld_kept
  exact ks

theorem State.complete_kept {r : State} (s : State) (src : Src) (opc : Nat) (d : Desc) (st : St) (lo : Nat) (hi : Nat) (ks : Kept r s) : Kept r (State.complete s src opc d st lo hi) := by
  unfold State.complete
  cases src
  · try dsimp -zeta only
    lift_lets
    intro x1
    clear_value x1
    intro x2
    clear_value x2
    intro x3
    have kx3 : Kept r x3 := by
      unfold x3
      with_reducible apply State.release_kept
      exact ks
    clear_value x3
    intro x4
    have kx4 : Kept r x4.1 := by
      unfold x4
      with_reducible apply State.countRing_kept
      with_reducible apply State.append_kept
      exact kx3
    clear_value x4
    apply Kept.ite
    · with_reducible apply State.forget_kept
      exact kx3
    · apply Kept.ite
      · apply Kept.ite
        · with_reducible apply State.ringEvent_kept
          exact kx4
        · exact kx4
      · exact kx3
  · try dsimp -zeta only
    lift_lets
    intro x5
    clear_value x5
    intro x6
    have kx6 : Kept r x6 := by
      unfold x6
      with_reducible apply State.release_kept
      exact ks
    clear_value x6
    intro x7
    have kx7 : Kept r x7 := by
      unfold x7
      with_reducible apply State.setRg_kept
      exact kx6
    clear_value x7
    intro x8
    have kx8 : Kept r x8 := by
      unfold x8
      with_reducible apply State.setRg_kept
      exact kx7
    clear_value x8
    intro x9
    have kx9 : Kept r x9 := by
      unfold x9
      with_reducible apply State.setRg_kept
      with_reducible apply State.setRg_kept
      exact kx8
    clear_value x9
    with_reducible apply State.raise_kept
    with_reducible apply State.clrFlag_kept
    with_reducible apply State.setFlag_kept
    exact kx9

theorem State.applyResize_kept {r : State} (s : State) (r1x : Nat) (old : Nat) (ks : Kept r s) : Kept r (State.applyResize s r1x old) := by
  unfold State.applyResize
  apply Kept.ite
  · with_reducible apply State.clrFlag_kept
    with_reducible apply State.setFld_kept
    exact ks
  · exact ks

end Sys2Proof.Machine
end

