-- ==== Sys2Proof/Laws/KeptFlags.lean ====
section
/-! SUPPORT. What the operations of Machine/Flags.lean keep (see Laws/Kept.lean). -/

namespace Sys2Proof.Machine

open Sys2Proof

theorem State.flagEvent_kept {r : State} (s : State) (off : Nat) (n : Nat) (src : Nat) (arg : Nat) (ks : Kept r s) : Kept r (State.flagEvent s off n src arg) := by
  unfold State.flagEvent
  apply Kept.ite
  · exact ks
  · with_reducible apply State.raise_kept
    with_reducible apply State.setFlag_kept
    exact ks

end Sys2Proof.Machine
end

