-- ==== Sys2Proof/Laws/KeptCmd.lean ====
section
/-! SUPPORT. What the operations of Machine/Cmd.lean keep (see Laws/Kept.lean). -/

namespace Sys2Proof.Machine

open Sys2Proof

theorem State.recordReset_kept {r : State} (s : State) (code : Nat) (ks : Kept r s) : Kept r (State.recordReset s code) := by
  unfold State.recordReset
  lift_lets
  intro x0
  have kx0 : Kept r x0 := by
    unfold x0
    with_reducible apply State.setFlag_kept
    with_reducible apply State.setFld_kept
    exact ks
  clear_value x0
  with_reducible apply State.raise_kept
  with_reducible apply State.incFld_kept
  exact kx0

theorem State.defer_kept {r : State} (s : State) (x : Due) (ks : Kept r s) : Kept r (State.defer s x) := by
  unfold State.defer
  with_reducible apply Kept.upd
  exact ks

theorem State.atBoundary_kept {r : State} (s : State) (src : Src) (opc : Nat) (d : Desc) (data : List Byte) (aux : Nat) (ks : Kept r s) : Kept r (State.atBoundary s src opc d data aux) := by
  unfold State.atBoundary
  with_reducible apply State.defer_kept
  exact ks

theorem State.soon_kept {r : State} (s : State) (src : Src) (opc : Nat) (d : Desc) (data : List Byte) (body : State → State) (ks : Kept r s) (kbody : ∀ (y0 : State), Kept r y0 → Kept r (body y0)) : Kept r (State.soon s src opc d data body) := by
  unfold State.soon
  apply Kept.ite
  · with_reducible apply State.atBoundary_kept
    exact ks
  · refine kbody _ ?_
    exact ks

theorem State.cmd_kept {r : State} (s : State) (src : Src) (opc : Nat) (d : Desc) (body : State → State) (ks : Kept r s) (kbody : ∀ (y0 : State), Kept r y0 → Kept r (body y0)) : Kept r (State.cmd s src opc d body) := by
  unfold State.cmd
  cases hc0 : s.precheck src opc d
  · try dsimp -zeta only
    refine kbody _ ?_
    exact ks
  · try dsimp -zeta only
    with_reducible apply State.complete_kept
    exact ks

theorem State.soonData_kept {r : State} (s : State) (src : Src) (opc : Nat) (d : Desc) (data : Option (List Byte)) (body : State → State) (ks : Kept r s) (kbody : ∀ (y0 : State), Kept r y0 → Kept r (body y0)) : Kept r (State.soonData s src opc d data body) := by
  unfold State.soonData
  cases data
  · try dsimp -zeta only
    refine kbody _ ?_
    exact ks
  · try dsimp -zeta only
    with_reducible apply State.soon_kept
    · exact ks
    · intro a1
      intro h2
      refine kbody _ ?_
      exact h2

end Sys2Proof.Machine
end

