-- ==== Sys2Proof/Laws/KeptAxis.lean ====
section
/-! SUPPORT. What the operations of Machine/Axis.lean keep (see Laws/Kept.lean). -/

namespace Sys2Proof.Machine

open Sys2Proof

theorem State.clearLanes_kept {r : State} (s : State) (lo : Nat) (hi : Nat) (ks : Kept r s) : Kept r (State.clearLanes s lo hi) := by
  unfold State.clearLanes
  with_reducible apply Kept.upd
  exact ks

theorem State.setLane_kept {r : State} (s : State) (l : Nat) (x : LaneSt) (ks : Kept r s) : Kept r (State.setLane s l x) := by
  unfold State.setLane
  with_reducible apply Kept.upd
  exact ks

theorem State.setAxis_kept {r : State} (s : State) (a : Nat) (x : AxisSt) (ks : Kept r s) : Kept r (State.setAxis s a x) := by
  unfold State.setAxis
  with_reducible apply Kept.upd
  exact ks

theorem State.setXw_kept {r : State} (s : State) (a : Nat) (o : Nat) (w : Word) (ks : Kept r s) : Kept r (State.setXw s a o w) := by
  unfold State.setXw
  cases hc0 : s.place a
  · try dsimp -zeta only
    with_reducible apply State.setAxis_kept
    exact ks
  · try dsimp -zeta only
    with_reducible apply State.setLane_kept
    exact ks

theorem State.inSlot_kept {r : State} (s : State) (a : Nat) (q : Option PlanAxis) (f : State → State) (ks : Kept r s) (kf : ∀ (y0 : State), Kept r y0 → Kept r (f y0)) : Kept r (State.inSlot s a q f) := by
  unfold State.inSlot
  lift_lets
  intro x0
  clear_value x0
  intro x1
  clear_value x1
  intro x2
  have kx2 : Kept r x2 := by
    unfold x2
    refine kf _ ?_
    with_reducible apply State.setAxis_kept
    exact ks
  clear_value x2
  intro x3
  clear_value x3
  with_reducible apply State.setAxis_kept
  exact kx2

theorem State.clearFlags_kept {r : State} (s : State) (a : Nat) (v : Word) (ks : Kept r s) : Kept r (State.clearFlags s a v) := by
  unfold State.clearFlags
  lift_lets
  intro x0
  have kx0 : Kept r x0 := by
    unfold x0
    with_reducible apply State.setXw_kept
    exact ks
  clear_value x0
  cases hc1 : (x0.axis a).stay
  · try dsimp -zeta only
    cases hc2 : x0.newEntry a
    · try dsimp -zeta only
      exact kx0
    · try dsimp -zeta only
      with_reducible apply State.inSlot_kept
      · exact kx0
      · intro a3
        intro h4
        with_reducible apply State.setXw_kept
        exact h4
  · try dsimp -zeta only
    with_reducible apply State.inSlot_kept
    · exact kx0
    · intro a5
      intro h6
      with_reducible apply State.setXw_kept
      exact h6

theorem State.setYw_kept {r : State} (s : State) (a : Nat) (o : Nat) (w : Word) (ks : Kept r s) : Kept r (State.setYw s a o w) := by
  unfold State.setYw
  cases hc0 : s.place a
  · try dsimp -zeta only
    with_reducible apply State.setAxis_kept
    exact ks
  · try dsimp -zeta only
    with_reducible apply State.setLane_kept
    exact ks

theorem State.setXi_kept {r : State} (s : State) (a : Nat) (o : Nat) (v : Int) (ks : Kept r s) : Kept r (State.setXi s a o v) := by
  unfold State.setXi
  with_reducible apply State.setXw_kept
  exact ks

theorem State.putPar_kept {r : State} (s : State) (a : Nat) (id : Nat) (w : Word) (ks : Kept r s) : Kept r (State.putPar s a id w) := by
  unfold State.putPar
  cases hc0 : Sys2Proof.Machine.parRow id
  · try dsimp -zeta only
    exact ks
  · try dsimp -zeta only
    lift_lets
    intro x1
    clear_value x1
    intro x2
    have kx2 : Kept r x2 := by
      unfold x2
      split
      · with_reducible apply State.setXw_kept
        exact ks
      · with_reducible apply State.setYw_kept
        exact ks
      · with_reducible apply State.setAxis_kept
        exact ks
    clear_value x2
    intro x4
    have kx4 : Kept r x4 := by
      unfold x4
      apply Kept.ite
      · with_reducible apply State.setXi_kept
        exact kx2
      · exact kx2
    clear_value x4
    intro x5
    clear_value x5
    apply Kept.ite
    · with_reducible apply State.setXi_kept
      with_reducible apply State.setXi_kept
      exact kx4
    · exact kx4

theorem State.foldRevs_kept {r : State} (s : State) (a : Nat) (old : Nat) (new : Nat) (ks : Kept r s) : Kept r (State.foldRevs s a old new) := by
  unfold State.foldRevs
  with_reducible apply Kept.upd
  exact ks

theorem State.setPar_kept {r : State} (s : State) (a : Nat) (id : Nat) (w : Word) (ks : Kept r s) : Kept r (State.setPar s a id w) := by
  unfold State.setPar
  with_reducible apply State.putPar_kept
  apply Kept.ite
  · with_reducible apply State.foldRevs_kept
    exact ks
  · exact ks

theorem State.slotWrite_kept {r : State} (s : State) (a : Nat) (k : Nat) (w : Word) (ks : Kept r s) : Kept r (State.slotWrite s a k w) := by
  unfold State.slotWrite
  apply Kept.ite
  · with_reducible apply State.setPar_kept
    exact ks
  · apply Kept.ite
    · with_reducible apply State.setXw_kept
      exact ks
    · apply Kept.ite
      · with_reducible apply State.setYw_kept
        exact ks
      · with_reducible apply State.setXw_kept
        exact ks

theorem State.copyWrite_kept {r : State} (s : State) (a : Nat) (k : Nat) (w : Word) (ks : Kept r s) : Kept r (State.copyWrite s a k w) := by
  unfold State.copyWrite
  cases hc0 : s.newEntry a
  · try dsimp -zeta only
    exact ks
  · try dsimp -zeta only
    with_reducible apply State.inSlot_kept
    · exact ks
    · intro a1
      intro h2
      apply Kept.ite
      · with_reducible apply State.putPar_kept
        exact h2
      · with_reducible apply State.slotWrite_kept
        exact h2

theorem State.axWrite_kept {r : State} (s : State) (a : Nat) (k : Nat) (w : Word) (ks : Kept r s) : Kept r (State.axWrite s a k w) := by
  unfold State.axWrite
  apply Kept.ite
  · with_reducible apply State.inSlot_kept
    · exact ks
    · intro a0
      intro h1
      with_reducible apply State.slotWrite_kept
      exact h1
  · apply Kept.ite
    · with_reducible apply State.setAxis_kept
      exact ks
    · with_reducible apply State.copyWrite_kept
      with_reducible apply State.slotWrite_kept
      exact ks

theorem State.applyWrite_kept {r : State} (s : State) (x : Staged) (ks : Kept r s) : Kept r (State.applyWrite s x) := by
  unfold State.applyWrite
  apply Kept.ite
  · with_reducible apply State.setPar_kept
    exact ks
  · with_reducible apply State.setRg_kept
    exact ks

theorem State.upToDate_kept {r : State} (s : State) (a : Nat) (ks : Kept r s) : Kept r (State.upToDate s a) := by
  unfold State.upToDate
  apply Kept.ite
  · with_reducible apply State.setAxis_kept
    exact ks
  · refine Kept.foldl _ ?_ ?_
    · exact ks
    · intro a0
      intro a1
      intro h2
      with_reducible apply State.slotWrite_kept
      exact h2

theorem State.xflag_kept {r : State} (s : State) (a : Nat) (n : Nat) (ks : Kept r s) : Kept r (State.xflag s a n) := by
  unfold State.xflag
  apply Kept.ite
  · with_reducible apply State.flagEvent_kept
    exact ks
  · apply Kept.ite
    · with_reducible apply State.raise_kept
      with_reducible apply State.setFlag_kept
      exact ks
    · with_reducible apply State.setFlag_kept
      exact ks

theorem State.setFb_kept {r : State} (s : State) (a : Nat) (c : FbSt) (ks : Kept r s) : Kept r (State.setFb s a c) := by
  unfold State.setFb
  with_reducible apply State.setAxis_kept
  exact ks

theorem State.setProf_kept {r : State} (s : State) (a : Nat) (c : ProfSt) (ks : Kept r s) : Kept r (State.setProf s a c) := by
  unfold State.setProf
  with_reducible apply State.setAxis_kept
  exact ks

theorem State.setCtl_kept {r : State} (s : State) (a : Nat) (c : Ctl) (ks : Kept r s) : Kept r (State.setCtl s a c) := by
  unfold State.setCtl
  with_reducible apply State.setAxis_kept
  exact ks

theorem State.addLife_kept {r : State} (s : State) (a : Nat) (k : Nat) (x : Nat) (ks : Kept r s) : Kept r (State.addLife s a k x) := by
  unfold State.addLife
  with_reducible apply Kept.upd
  exact ks

theorem State.clearF_kept {r : State} (s : State) (a : Nat) (ks : Kept r s) : Kept r (State.clearF s a) := by
  unfold State.clearF
  cases hc0 : (s.axis a).stay
  · try dsimp -zeta only
    cases hc1 : (s.axis a).oldBase
    · try dsimp -zeta only
      with_reducible apply State.setXw_kept
      exact ks
    · try dsimp -zeta only
      cases hc2 : s.place a
      · try dsimp -zeta only
        with_reducible apply State.setXw_kept
        exact ks
      · try dsimp -zeta only
        with_reducible apply State.setXw_kept
        with_reducible apply State.setLane_kept
        exact ks
  · try dsimp -zeta only
    with_reducible apply State.setAxis_kept
    exact ks

theorem State.setHealth_kept {r : State} (s : State) (a : Nat) (h : Nat) (ks : Kept r s) : Kept r (State.setHealth s a h) := by
  unfold State.setHealth
  apply Kept.ite
  · exact ks
  · lift_lets
    intro x0
    clear_value x0
    intro x1
    have kx1 : Kept r x1 := by
      unfold x1
      with_reducible apply State.setAxis_kept
      exact ks
    clear_value x1
    apply Kept.ite
    · with_reducible apply State.raise_kept
      exact kx1
    · apply Kept.ite
      · with_reducible apply State.raise_kept
        exact kx1
      · exact kx1

theorem State.worsen_kept {r : State} (s : State) (a : Nat) (h : Nat) (ks : Kept r s) : Kept r (State.worsen s a h) := by
  unfold State.worsen
  apply Kept.ite
  · with_reducible apply State.setHealth_kept
    exact ks
  · exact ks

theorem State.laneFlag_kept {r : State} (s : State) (l : Nat) (n : Nat) (ks : Kept r s) : Kept r (State.laneFlag s l n) := by
  unfold State.laneFlag
  with_reducible apply State.flagEvent_kept
  exact ks

theorem State.stagePlan_kept {r : State} (s : State) (x : Staged) (ks : Kept r s) : Kept r (State.stagePlan s x) := by
  unfold State.stagePlan
  with_reducible apply Kept.upd
  exact ks

theorem State.commFlag_kept {r : State} (s : State) (a : Nat) (n : Nat) (ks : Kept r s) : Kept r (State.commFlag s a n) := by
  unfold State.commFlag
  lift_lets
  intro x0
  clear_value x0
  apply Kept.ite
  · exact ks
  · with_reducible apply State.raise_kept
    with_reducible apply State.setXw_kept
    exact ks

theorem State.dropBank_kept {r : State} (s : State) (ks : Kept r s) : Kept r (State.dropBank s) := by
  unfold State.dropBank
  with_reducible apply Kept.upd
  exact ks

theorem State.flushWrites_kept {r : State} (s : State) (a : Nat) (ks : Kept r s) : Kept r (State.flushWrites s a) := by
  unfold State.flushWrites
  lift_lets
  intro x0
  clear_value x0
  intro x1
  clear_value x1
  refine Kept.foldl _ ?_ ?_
  · with_reducible apply State.setAxis_kept
    exact ks
  · intro a2
    intro a3
    intro h4
    with_reducible apply State.copyWrite_kept
    with_reducible apply State.slotWrite_kept
    exact h4

theorem State.bringFlags_kept {r : State} (s : State) (a : Nat) (q : Option PlanAxis) (m : Word) (f : Word) (ks : Kept r s) : Kept r (State.bringFlags s a q m f) := by
  unfold State.bringFlags
  with_reducible apply State.inSlot_kept
  · exact ks
  · intro a0
    intro h1
    lift_lets
    intro x2
    have kx2 : Kept r x2 := by
      unfold x2
      with_reducible apply State.setXw_kept
      exact h1
    clear_value x2
    apply Kept.ite
    · with_reducible apply State.setXw_kept
      exact kx2
    · exact kx2

theorem State.setSlot_kept {r : State} (s : State) (a : Nat) (e : Nat × Word) (ks : Kept r s) : Kept r (State.setSlot s a e) := by
  unfold State.setSlot
  apply Kept.ite
  · with_reducible apply State.setXw_kept
    exact ks
  · with_reducible apply State.setYw_kept
    exact ks

theorem State.enterSlot_kept {r : State} (s : State) (a : Nat) (old : Option (Nat × Nat)) (st : List (Nat × Word)) (ks : Kept r s) : Kept r (State.enterSlot s a old st) := by
  unfold State.enterSlot
  lift_lets
  intro x0
  clear_value x0
  intro x1
  have kx1 : Kept r x1 := by
    unfold x1
    apply Kept.ite
    · exact ks
    · refine Kept.foldl _ ?_ ?_
      · exact ks
      · intro a2
        intro a3
        intro h4
        with_reducible apply State.setSlot_kept
        exact h4
  clear_value x1
  intro x5
  clear_value x5
  intro x6
  have kx6 : Kept r x6 := by
    unfold x6
    with_reducible apply State.setAxis_kept
    exact kx1
  clear_value x6
  intro x7
  clear_value x7
  apply Kept.ite
  · with_reducible apply State.clearF_kept
    with_reducible apply State.setAxis_kept
    exact kx6
  · exact kx6

theorem State.parkAxis_kept {r : State} (s : State) (a : Nat) (kept : List (Nat × Word)) (ks : Kept r s) : Kept r (State.parkAxis s a kept) := by
  unfold State.parkAxis
  lift_lets
  intro x0
  clear_value x0
  intro x1
  have kx1 : Kept r x1 := by
    unfold x1
    with_reducible apply State.setAxis_kept
    exact ks
  clear_value x1
  refine Kept.foldl _ ?_ ?_
  · exact kx1
  · intro a2
    intro a3
    intro h4
    with_reducible apply State.setSlot_kept
    exact h4

theorem State.moveAxis_kept {r : State} (s : State) (a : Nat) (ks : Kept r s) : Kept r (State.moveAxis s a) := by
  unfold State.moveAxis
  apply Kept.ite
  · lift_lets
    intro x0
    have kx0 : Kept r x0 := by
      unfold x0
      with_reducible apply State.bringFlags_kept
      exact ks
    clear_value x0
    intro x1
    clear_value x1
    with_reducible apply State.enterSlot_kept
    with_reducible apply State.setAxis_kept
    exact kx0
  · lift_lets
    intro x2
    have kx2 : Kept r x2 := by
      unfold x2
      with_reducible apply State.flushWrites_kept
      exact ks
    clear_value x2
    intro x3
    clear_value x3
    with_reducible apply State.parkAxis_kept
    with_reducible apply State.setAxis_kept
    exact kx2

theorem State.endStay_kept {r : State} (s : State) (a : Nat) (ks : Kept r s) : Kept r (State.endStay s a) := by
  unfold State.endStay
  apply Kept.ite
  · with_reducible apply State.moveAxis_kept
    exact ks
  · exact ks

theorem State.loadSlot_kept {r : State} (s : State) (q : PlanAxis) (ks : Kept r s) : Kept r (State.loadSlot s q) := by
  unfold State.loadSlot
  lift_lets
  intro x0
  clear_value x0
  intro x1
  clear_value x1
  intro x2
  clear_value x2
  intro x3
  clear_value x3
  with_reducible apply State.inSlot_kept
  · exact ks
  · intro a4
    intro h5
    lift_lets
    intro x6
    have kx6 : Kept r x6 := by
      unfold x6
      refine Kept.foldl _ ?_ ?_
      · exact h5
      · intro a7
        intro a8
        intro h9
        with_reducible apply State.setSlot_kept
        exact h9
    clear_value x6
    refine Kept.foldl _ ?_ ?_
    · exact kx6
    · intro a10
      intro a11
      intro h12
      with_reducible apply State.putPar_kept
      exact h12

theorem State.loadBank_kept {r : State} (s : State) (p : Plan) (ks : Kept r s) : Kept r (State.loadBank s p) := by
  unfold State.loadBank
  lift_lets
  intro x0
  have kx0 : Kept r x0 := by
    unfold x0
    refine Kept.foldl _ ?_ ?_
    · exact ks
    · intro a1
      intro a2
      intro h3
      with_reducible apply State.loadSlot_kept
      exact h3
  clear_value x0
  intro x4
  clear_value x4
  with_reducible apply Kept.upd
  exact kx0

theorem State.hallStart_kept {r : State} (s : State) (a : Nat) (ks : Kept r s) : Kept r (State.hallStart s a) := by
  unfold State.hallStart
  with_reducible apply State.setFb_kept
  exact ks

theorem State.moveLanes_kept {r : State} (s : State) (old : Plan) (new : Plan) (ks : Kept r s) : Kept r (State.moveLanes s old new) := by
  unfold State.moveLanes
  lift_lets
  intro x0
  clear_value x0
  intro x1
  have kx1 : Kept r x1 := by
    unfold x1
    with_reducible apply Kept.upd
    exact ks
  clear_value x1
  intro x2
  have kx2 : Kept r x2 := by
    unfold x2
    apply Kept.ite
    · exact kx1
    · with_reducible apply State.loadBank_kept
      exact kx1
  clear_value x2
  intro x3
  clear_value x3
  intro x4
  clear_value x4
  intro x5
  have kx5 : Kept r x5 := by
    unfold x5
    with_reducible apply Kept.upd
    exact kx2
  clear_value x5
  intro x6
  have kx6 : Kept r x6 := by
    unfold x6
    refine Kept.foldl _ ?_ ?_
    · exact kx5
    · intro a7
      intro a8
      intro h9
      lift_lets
      intro x10
      clear_value x10
      with_reducible apply State.setAxis_kept
      exact h9
  clear_value x6
  intro x11
  have kx11 : Kept r x11 := by
    unfold x11
    refine Kept.foldl _ ?_ ?_
    · exact kx6
    · intro a12
      intro a13
      intro h14
      apply Kept.ite
      · exact h14
      · with_reducible apply State.enterSlot_kept
        with_reducible apply State.hallStart_kept
        exact h14
  clear_value x11
  refine Kept.foldl _ ?_ ?_
  · exact kx11
  · intro a15
    intro a16
    intro h17
    apply Kept.ite
    · exact h17
    · with_reducible apply State.moveAxis_kept
      exact h17

theorem State.writeSetp_kept {r : State} (s : State) (a : Nat) (ks : Kept r s) : Kept r (State.writeSetp s a) := by
  unfold State.writeSetp
  cases hc0 : s.actAxis a
  · try dsimp -zeta only
    exact ks
  · try dsimp -zeta only
    apply Kept.ite
    · lift_lets
      intro x1
      clear_value x1
      intro x2
      clear_value x2
      intro x3
      have kx3 : Kept r x3 := by
        unfold x3
        with_reducible apply State.axWrite_kept
        exact ks
      clear_value x3
      intro x4
      have kx4 : Kept r x4 := by
        unfold x4
        with_reducible apply State.axWrite_kept
        exact kx3
      clear_value x4
      intro x5
      have kx5 : Kept r x5 := by
        unfold x5
        with_reducible apply State.axWrite_kept
        exact kx4
      clear_value x5
      with_reducible apply State.axWrite_kept
      exact kx5
    · exact ks

theorem State.axFlag_kept {r : State} (s : State) (a : Nat) (n : Nat) (ks : Kept r s) : Kept r (State.axFlag s a n) := by
  unfold State.axFlag
  with_reducible apply State.setXw_kept
  exact ks

theorem State.mflag_kept {r : State} (s : State) (a : Nat) (n : Nat) (ks : Kept r s) : Kept r (State.mflag s a n) := by
  unfold State.mflag
  lift_lets
  intro x0
  clear_value x0
  intro x1
  have kx1 : Kept r x1 := by
    unfold x1
    with_reducible apply State.axFlag_kept
    exact ks
  clear_value x1
  apply Kept.ite
  · with_reducible apply State.raise_kept
    exact kx1
  · exact kx1

theorem State.setYi_kept {r : State} (s : State) (a : Nat) (o : Nat) (v : Int) (ks : Kept r s) : Kept r (State.setYi s a o v) := by
  unfold State.setYi
  with_reducible apply State.setYw_kept
  exact ks

theorem State.pilotFlag_kept {r : State} (s : State) (n : Nat) (ks : Kept r s) : Kept r (State.pilotFlag s n) := by
  unfold State.pilotFlag
  with_reducible apply State.raise_kept
  with_reducible apply State.setFlag_kept
  exact ks

theorem State.dropLane_kept {r : State} (s : State) (n : Nat) (ks : Kept r s) : Kept r (State.dropLane s n) := by
  unfold State.dropLane
  lift_lets
  intro x0
  have kx0 : Kept r x0 := by
    unfold x0
    apply Kept.ite
    · with_reducible apply State.setFlag_kept
      exact ks
    · with_reducible apply State.stagePlan_kept
      exact ks
  clear_value x0
  with_reducible apply State.pilotFlag_kept
  with_reducible apply Kept.upd
  exact kx0

theorem State.enWritten_kept {r : State} (s : State) (off : Nat) (ks : Kept r s) : Kept r (State.enWritten s off) := by
  unfold State.enWritten
  apply Kept.ite
  · lift_lets
    intro x0
    have kx0 : Kept r x0 := by
      unfold x0
      apply Kept.ite
      · with_reducible apply State.setFlag_kept
        exact ks
      · exact ks
    clear_value x0
    with_reducible apply Kept.upd
    exact kx0
  · exact ks

theorem State.flagsToNew_kept {r : State} (s : State) (a : Nat) (ks : Kept r s) : Kept r (State.flagsToNew s a) := by
  unfold State.flagsToNew
  cases hc0 : s.newEntry a
  · try dsimp -zeta only
    exact ks
  · try dsimp -zeta only
    with_reducible apply State.bringFlags_kept
    exact ks

end Sys2Proof.Machine
end

