-- ==== Sys2Proof/Laws/KeptAcq.lean ====
section
/-! SUPPORT. What the operations of Machine/Acq.lean keep (see Laws/Kept.lean). -/

namespace Sys2Proof.Machine

open Sys2Proof

theorem State.acceptSound_kept {r : State} (s : State) (x : Sounding) (ks : Kept r s) : Kept r (State.acceptSound s x) := by
  unfold State.acceptSound
  lift_lets
  intro x0
  clear_value x0
  intro x1
  have kx1 : Kept r x1 := by
    unfold x1
    with_reducible apply Kept.upd
    exact ks
  clear_value x1
  intro x2
  have kx2 : Kept r x2 := by
    unfold x2
    with_reducible apply State.setRg_kept
    with_reducible apply State.setRg_kept
    exact kx1
  clear_value x2
  with_reducible apply State.setFld_kept
  exact kx2

theorem State.setLog_kept {r : State} (s : State) (n : Nat) (l : LogSt) (ks : Kept r s) : Kept r (State.setLog s n l) := by
  unfold State.setLog
  with_reducible apply Kept.upd
  exact ks

theorem State.acqClose_kept {r : State} (s : State) (ks : Kept r s) : Kept r (State.acqClose s) := by
  unfold State.acqClose
  lift_lets
  intro x0
  clear_value x0
  intro x1
  clear_value x1
  refine Kept.foldl _ ?_ ?_
  · with_reducible apply Kept.upd
    exact ks
  · intro a2
    intro a3
    intro h4
    lift_lets
    intro x5
    clear_value x5
    intro x6
    clear_value x6
    intro x7
    clear_value x7
    intro x8
    have kx8 : Kept r x8 := by
      unfold x8
      with_reducible apply State.setLog_kept
      exact h4
    clear_value x8
    exact kx8

theorem State.logRegs_kept {r : State} (s : State) (n : Nat) (ks : Kept r s) : Kept r (State.logRegs s n) := by
  unfold State.logRegs
  lift_lets
  intro x0
  clear_value x0
  intro x1
  clear_value x1
  intro x2
  clear_value x2
  intro x3
  have kx3 : Kept r x3 := by
    unfold x3
    with_reducible apply State.setRg_kept
    exact ks
  clear_value x3
  intro x4
  have kx4 : Kept r x4 := by
    unfold x4
    with_reducible apply State.putFlag_kept
    with_reducible apply State.putFlag_kept
    exact kx3
  clear_value x4
  intro x5
  have kx5 : Kept r x5 := by
    unfold x5
    with_reducible apply State.setRg_kept
    exact kx4
  clear_value x5
  intro x6
  clear_value x6
  with_reducible apply State.setRg_kept
  exact kx5

theorem State.logDrain_kept {r : State} (s : State) (n : Nat) (z2 : Nat) (ks : Kept r s) : Kept r (State.logDrain s n z2) := by
  induction z2 generalizing s with
  | zero => exact ks
  | succ f ih =>
    unfold State.logDrain
    dsimp only
    split
    · split
      · exact ih _ (State.setLog_kept _ _ _ (Kept.foldl _ ks fun x e hx => State.pushRing_kept _ _ _ hx))
      · exact ks
    · exact ks

theorem State.startWindows_kept {r : State} (s : State) (n : Nat) (ks : Kept r s) : Kept r (State.startWindows s n) := by
  unfold State.startWindows
  refine Kept.foldl _ ?_ ?_
  · exact ks
  · intro a0
    intro a1
    intro h2
    lift_lets
    intro x3
    clear_value x3
    intro x4
    clear_value x4
    apply Kept.ite
    · with_reducible apply State.setFld_kept
      with_reducible apply State.setLog_kept
      exact h2
    · exact h2

theorem State.logEvent_kept {r : State} (s : State) (n : Nat) (ks : Kept r s) : Kept r (State.logEvent s n) := by
  unfold State.logEvent
  with_reducible apply State.raise_kept
  exact ks

theorem State.stageRec_kept {r : State} (s : State) (n : Nat) (c : BitVec 32) (r3x : List Byte) (ks : Kept r s) : Kept r (State.stageRec s n c r3x) := by
  unfold State.stageRec
  lift_lets
  intro x0
  clear_value x0
  intro x1
  have kx1 : Kept r x1 := by
    unfold x1
    with_reducible apply State.setLog_kept
    exact ks
  clear_value x1
  intro x2
  clear_value x2
  intro x3
  have kx3 : Kept r x3 := by
    unfold x3
    with_reducible apply State.setFlag_kept
    with_reducible apply State.incFld_kept
    exact kx1
  clear_value x3
  intro x4
  have kx4 : Kept r x4 := by
    unfold x4
    apply Kept.ite
    · with_reducible apply State.setLog_kept
      exact ks
    · apply Kept.ite
      · with_reducible apply State.logEvent_kept
        exact kx3
      · exact kx3
  clear_value x4
  with_reducible apply State.logDrain_kept
  exact kx4

theorem State.stageMark_kept {r : State} (s : State) (n : Nat) (c : BitVec 32) (r3x : List Byte) (ks : Kept r s) : Kept r (State.stageMark s n c r3x) := by
  unfold State.stageMark
  lift_lets
  intro x0
  clear_value x0
  intro x1
  clear_value x1
  apply Kept.ite
  · with_reducible apply State.setLog_kept
    exact ks
  · with_reducible apply State.stageRec_kept
    exact ks

theorem State.stageSample_kept {r : State} (s : State) (n : Nat) (x : LogCyc) (ws : List Word) (noval : Bool) (ks : Kept r s) : Kept r (State.stageSample s n x ws noval) := by
  unfold State.stageSample
  lift_lets
  intro x0
  clear_value x0
  intro x1
  clear_value x1
  apply Kept.ite
  · with_reducible apply State.incFld_kept
    with_reducible apply State.setLog_kept
    exact ks
  · with_reducible apply State.incFld_kept
    with_reducible apply State.stageRec_kept
    exact ks

theorem State.soundRequest_kept {r : State} (s : State) (ks : Kept r s) : Kept r (State.soundRequest s) := by
  unfold State.soundRequest
  cases hc0 : s.acq.sound
  · try dsimp -zeta only
    with_reducible apply State.acceptSound_kept
    exact ks
  · try dsimp -zeta only
    with_reducible apply State.raise_kept
    with_reducible apply State.setFlag_kept
    with_reducible apply State.incFld_kept
    exact ks

theorem State.logMark_kept {r : State} (s : State) (n : Nat) (c : BitVec 32) (m : LogMark) (ks : Kept r s) : Kept r (State.logMark s n c m) := by
  unfold State.logMark
  lift_lets
  intro x0
  clear_value x0
  apply Kept.ite
  · with_reducible apply State.setLog_kept
    exact ks
  · with_reducible apply State.setLog_kept
    exact ks

theorem State.maskStop_kept {r : State} (s : State) (n : Nat) (ks : Kept r s) : Kept r (State.maskStop s n) := by
  unfold State.maskStop
  lift_lets
  intro x0
  clear_value x0
  intro x1
  clear_value x1
  intro x2
  have kx2 : Kept r x2 := by
    unfold x2
    with_reducible apply State.logEvent_kept
    with_reducible apply State.setFlag_kept
    exact ks
  clear_value x2
  intro x3
  clear_value x3
  intro x4
  clear_value x4
  apply Kept.ite
  · exact ks
  · apply Kept.ite
    · with_reducible apply State.setLog_kept
      exact kx2
    · with_reducible apply State.logMark_kept
      with_reducible apply State.setLog_kept
      exact kx2

theorem State.maskTest_kept {r : State} (s : State) (n : Nat) (k : Nat) (x : LogCyc) (ws : List Word) (ks : Kept r s) : Kept r (State.maskTest s n k x ws) := by
  unfold State.maskTest
  lift_lets
  intro x0
  clear_value x0
  intro x1
  clear_value x1
  intro x2
  clear_value x2
  cases hc3 : x1.win
  · try dsimp -zeta only
    exact ks
  · try dsimp -zeta only
    lift_lets
    intro x4
    clear_value x4
    intro x5
    clear_value x5
    intro x6
    clear_value x6
    intro x7
    clear_value x7
    intro x8
    have kx8 : Kept r x8 := by
      unfold x8
      with_reducible apply State.setLog_kept
      exact ks
    clear_value x8
    intro x9
    have kx9 : Kept r x9 := by
      unfold x9
      with_reducible apply State.incFld_kept
      exact kx8
    clear_value x9
    intro x10
    clear_value x10
    intro x11
    have kx11 : Kept r x11 := by
      unfold x11
      with_reducible apply State.setFlag_kept
      with_reducible apply State.stageMark_kept
      exact kx9
    clear_value x11
    intro x12
    have kx12 : Kept r x12 := by
      unfold x12
      apply Kept.ite
      · with_reducible apply State.soundRequest_kept
        exact kx11
      · exact kx11
    clear_value x12
    intro x13
    have kx13 : Kept r x13 := by
      unfold x13
      apply Kept.ite
      · with_reducible apply State.logEvent_kept
        exact kx12
      · exact kx12
    clear_value x13
    apply Kept.ite
    · exact kx8
    · apply Kept.ite
      · exact kx9
      · apply Kept.ite
        · with_reducible apply State.maskStop_kept
          exact kx13
        · exact kx13

theorem State.logCycle_kept {r : State} (s : State) (n : Nat) (x : LogCyc) (ks : Kept r s) : Kept r (State.logCycle s n x) := by
  unfold State.logCycle
  lift_lets
  intro x0
  clear_value x0
  intro x1
  clear_value x1
  intro x2
  have kx2 : Kept r x2 := by
    unfold x2
    apply Kept.ite
    · with_reducible apply State.setFlag_kept
      exact ks
    · exact ks
  clear_value x2
  intro x3
  clear_value x3
  intro x4
  clear_value x4
  intro x5
  clear_value x5
  intro x6
  have kx6 : Kept r x6 := by
    unfold x6
    with_reducible apply State.setLog_kept
    exact kx2
  clear_value x6
  intro x7
  have kx7 : Kept r x7 := by
    unfold x7
    apply Kept.ite
    · with_reducible apply State.startWindows_kept
      exact kx6
    · exact kx6
  clear_value x7
  intro x8
  have kx8 : Kept r x8 := by
    unfold x8
    refine Kept.foldl _ ?_ ?_
    · exact kx7
    · intro a9
      intro a10
      intro h11
      with_reducible apply State.stageMark_kept
      exact h11
  clear_value x8
  intro x12
  clear_value x12
  cases hc13 : x.words
  · try dsimp -zeta only
    exact kx8
  · try dsimp -zeta only
    lift_lets
    intro x14
    have kx14 : Kept r x14 := by
      unfold x14
      with_reducible apply State.stageSample_kept
      exact kx8
    clear_value x14
    intro x15
    have kx15 : Kept r x15 := by
      unfold x15
      with_reducible apply State.maskTest_kept
      with_reducible apply State.maskTest_kept
      exact kx14
    clear_value x15
    intro x16
    clear_value x16
    intro x17
    have kx17 : Kept r x17 := by
      unfold x17
      with_reducible apply State.setLog_kept
      exact kx15
    clear_value x17
    intro x18
    clear_value x18
    intro x19
    clear_value x19
    apply Kept.ite
    · apply Kept.ite
      · with_reducible apply State.logMark_kept
        with_reducible apply State.setLog_kept
        exact kx17
      · with_reducible apply State.setLog_kept
        exact kx17
    · exact kx17

theorem State.logFlush_kept {r : State} (s : State) (n : Nat) (z2 : Nat) (ks : Kept r s) : Kept r (State.logFlush s n z2) := by
  induction z2 generalizing s with
  | zero => exact ks
  | succ f ih =>
    unfold State.logFlush
    dsimp only
    split
    · split
      · exact ih _ (State.logCycle_kept _ _ _ (State.setLog_kept _ _ _ ks))
      · exact ks
    · exact ks

theorem State.acqOpen_kept {r : State} (s : State) (ks : Kept r s) : Kept r (State.acqOpen s) := by
  unfold State.acqOpen
  refine Kept.foldl _ ?_ ?_
  · exact ks
  · intro a0
    intro a1
    intro h2
    lift_lets
    intro x3
    clear_value x3
    intro x4
    clear_value x4
    intro x5
    clear_value x5
    apply Kept.ite
    · exact h2
    · with_reducible apply State.logRegs_kept
      with_reducible apply State.logDrain_kept
      with_reducible apply State.logFlush_kept
      with_reducible apply State.setLog_kept
      exact h2

theorem State.logBegin_kept {r : State} (s : State) (n : Nat) (ks : Kept r s) : Kept r (State.logBegin s n) := by
  unfold State.logBegin
  lift_lets
  intro x0
  clear_value x0
  intro x1
  clear_value x1
  intro x2
  clear_value x2
  intro x3
  clear_value x3
  intro x4
  clear_value x4
  intro x5
  clear_value x5
  intro x6
  have kx6 : Kept r x6 := by
    unfold x6
    with_reducible apply State.setLog_kept
    exact ks
  clear_value x6
  intro x7
  have kx7 : Kept r x7 := by
    unfold x7
    with_reducible apply State.logRegs_kept
    with_reducible apply State.logMark_kept
    exact kx6
  clear_value x7
  refine Kept.foldl _ ?_ ?_
  · exact kx7
  · intro a8
    intro a9
    intro h10
    with_reducible apply State.complete_kept
    exact h10

theorem State.logResize_kept {r : State} (s : State) (n : Nat) (ks : Kept r s) : Kept r (State.logResize s n) := by
  unfold State.logResize
  lift_lets
  intro x0
  clear_value x0
  cases hc1 : x0.next
  · try dsimp -zeta only
    exact ks
  · try dsimp -zeta only
    lift_lets
    intro x2
    have kx2 : Kept r x2 := by
      unfold x2
      refine Kept.foldl _ ?_ ?_
      · exact ks
      · intro a3
        intro a4
        intro h5
        lift_lets
        intro x6
        clear_value x6
        apply Kept.ite
        · with_reducible apply State.logRegs_kept
          with_reducible apply State.setLog_kept
          exact h5
        · exact h5
    clear_value x2
    intro x7
    have kx7 : Kept r x7 := by
      unfold x7
      with_reducible apply State.setLog_kept
      exact kx2
    clear_value x7
    apply Kept.ite
    · apply Kept.ite
      · with_reducible apply State.logBegin_kept
        exact kx7
      · with_reducible apply State.logRegs_kept
        exact kx7
    · exact ks

theorem State.acqSwitch_kept {r : State} (s : State) (p : Plan) (ks : Kept r s) : Kept r (State.acqSwitch s p) := by
  unfold State.acqSwitch
  lift_lets
  intro x0
  clear_value x0
  intro x1
  have kx1 : Kept r x1 := by
    unfold x1
    refine Kept.foldl _ ?_ ?_
    · exact ks
    · intro a2
      intro a3
      intro h4
      lift_lets
      intro x5
      clear_value x5
      intro x6
      clear_value x6
      apply Kept.ite
      · apply Kept.ite
        · with_reducible apply State.setLog_kept
          exact h4
        · exact h4
      · apply Kept.ite
        · exact h4
        · with_reducible apply State.setLog_kept
          exact h4
  clear_value x1
  refine Kept.foldl _ ?_ ?_
  · exact kx1
  · intro a7
    intro a8
    intro h9
    lift_lets
    intro x10
    clear_value x10
    apply Kept.ite
    · with_reducible apply State.logRegs_kept
      with_reducible apply State.logResize_kept
      exact h9
    · with_reducible apply State.logRegs_kept
      exact h9

theorem State.endInj_kept {r : State} (s : State) (a : Nat) (ks : Kept r s) : Kept r (State.endInj s a) := by
  unfold State.endInj
  lift_lets
  intro x0
  clear_value x0
  cases hc1 : x0.inj
  · try dsimp -zeta only
    exact ks
  · try dsimp -zeta only
    with_reducible apply State.setAxis_kept
    exact ks

theorem State.logConfig_kept {r : State} (s : State) (src : Src) (d : Desc) (mem : List Byte) (ks : Kept r s) : Kept r (State.logConfig s src d mem) := by
  unfold State.logConfig
  with_reducible apply State.soon_kept
  · exact ks
  · intro a0
    intro h1
    lift_lets
    intro x2
    clear_value x2
    intro x3
    clear_value x3
    apply Kept.ite
    · with_reducible apply State.complete_kept
      exact h1
    · apply Kept.ite
      · with_reducible apply State.complete_kept
        exact h1
      · cases hc4 : Sys2Proof.Machine.probeList 64 (Sys2Proof.Machine.slice mem 0 256)
        · try dsimp -zeta only
          with_reducible apply State.complete_kept
          exact h1
        · try dsimp -zeta only
          lift_lets
          intro x5
          clear_value x5
          intro x6
          have kx6 : Kept r x6 := by
            unfold x6
            with_reducible apply State.setLog_kept
            exact h1
          clear_value x6
          apply Kept.ite
          · with_reducible apply State.complete_kept
            exact h1
          · with_reducible apply State.complete_kept
            with_reducible apply State.logRegs_kept
            with_reducible apply State.setRg_kept
            exact kx6

theorem State.dueLogStart_kept {r : State} (s : State) (src : Src) (d : Desc) (ks : Kept r s) : Kept r (State.dueLogStart s src d) := by
  unfold State.dueLogStart
  lift_lets
  intro x0
  clear_value x0
  intro x1
  clear_value x1
  intro x2
  have kx2 : Kept r x2 := by
    unfold x2
    with_reducible apply State.setLog_kept
    exact ks
  clear_value x2
  intro x3
  clear_value x3
  intro x4
  clear_value x4
  apply Kept.ite
  · with_reducible apply State.complete_kept
    exact ks
  · apply Kept.ite
    · with_reducible apply State.complete_kept
      exact ks
    · apply Kept.ite
      · exact kx2
      · apply Kept.ite
        · with_reducible apply State.logBegin_kept
          exact kx2
        · apply Kept.ite
          · with_reducible apply State.logBegin_kept
            with_reducible apply State.setLog_kept
            exact kx2
          · with_reducible apply State.logRegs_kept
            with_reducible apply State.setLog_kept
            exact kx2

theorem State.dueLogStop_kept {r : State} (s : State) (src : Src) (d : Desc) (ks : Kept r s) : Kept r (State.dueLogStop s src d) := by
  unfold State.dueLogStop
  lift_lets
  intro x0
  clear_value x0
  intro x1
  clear_value x1
  intro x2
  clear_value x2
  intro x3
  clear_value x3
  intro x4
  clear_value x4
  intro x5
  clear_value x5
  intro x6
  have kx6 : Kept r x6 := by
    unfold x6
    apply Kept.ite
    · with_reducible apply State.logMark_kept
      with_reducible apply State.setLog_kept
      exact ks
    · apply Kept.ite
      · with_reducible apply State.setLog_kept
        exact ks
      · with_reducible apply State.setLog_kept
        exact ks
  clear_value x6
  intro x7
  have kx7 : Kept r x7 := by
    unfold x7
    refine Kept.foldl _ ?_ ?_
    · exact kx6
    · intro a8
      intro a9
      intro h10
      with_reducible apply State.complete_kept
      exact h10
  clear_value x7
  with_reducible apply State.complete_kept
  with_reducible apply State.logRegs_kept
  exact kx7

theorem State.logMaskLoad_kept {r : State} (s : State) (src : Src) (d : Desc) (mem : List Byte) (ks : Kept r s) : Kept r (State.logMaskLoad s src d mem) := by
  unfold State.logMaskLoad
  with_reducible apply State.soon_kept
  · exact ks
  · intro a0
    intro h1
    lift_lets
    intro x2
    clear_value x2
    intro x3
    clear_value x3
    intro x4
    clear_value x4
    apply Kept.ite
    · with_reducible apply State.complete_kept
      exact h1
    · apply Kept.ite
      · with_reducible apply State.complete_kept
        exact h1
      · apply Kept.ite
        · with_reducible apply State.complete_kept
          exact h1
        · with_reducible apply State.complete_kept
          with_reducible apply State.logRegs_kept
          with_reducible apply State.setLog_kept
          exact h1

theorem State.logTrigger_kept {r : State} (s : State) (src : Src) (d : Desc) (ks : Kept r s) : Kept r (State.logTrigger s src d) := by
  unfold State.logTrigger
  apply Kept.ite
  · with_reducible apply State.complete_kept
    exact ks
  · with_reducible apply State.complete_kept
    with_reducible apply State.logMark_kept
    exact ks

theorem State.serveSound_kept {r : State} (s : State) (ks : Kept r s) : Kept r (State.serveSound s) := by
  unfold State.serveSound
  lift_lets
  intro x0
  clear_value x0
  intro x1
  clear_value x1
  intro x2
  have kx2 : Kept r x2 := by
    unfold x2
    with_reducible apply Kept.upd
    exact ks
  clear_value x2
  refine Kept.foldl _ ?_ ?_
  · exact kx2
  · intro a3
    intro a4
    intro h5
    with_reducible apply State.soundRequest_kept
    exact h5

theorem State.soundFire_kept {r : State} (s : State) (src : Src) (d : Desc) (ks : Kept r s) : Kept r (State.soundFire s src d) := by
  unfold State.soundFire
  lift_lets
  intro x0
  have kx0 : Kept r x0 := by
    unfold x0
    with_reducible apply State.serveSound_kept
    exact ks
  clear_value x0
  intro x1
  clear_value x1
  intro x2
  clear_value x2
  apply Kept.ite
  · with_reducible apply State.complete_kept
    exact kx0
  · apply Kept.ite
    · with_reducible apply State.complete_kept
      exact kx0
    · apply Kept.ite
      · with_reducible apply State.complete_kept
        exact kx0
      · with_reducible apply State.acceptSound_kept
        exact kx0

theorem State.injMark_kept {r : State} (s : State) (a : Nat) (code : Nat) (typ : Nat) (point : Nat) (ks : Kept r s) : Kept r (State.injMark s a code typ point) := by
  unfold State.injMark
  lift_lets
  intro x0
  clear_value x0
  intro x1
  clear_value x1
  refine Kept.foldl _ ?_ ?_
  · exact ks
  · intro a2
    intro a3
    intro h4
    with_reducible apply State.logMark_kept
    exact h4

theorem State.logRearm_kept {r : State} (s : State) (n : Nat) (ks : Kept r s) : Kept r (State.logRearm s n) := by
  unfold State.logRearm
  lift_lets
  intro x0
  clear_value x0
  intro x1
  clear_value x1
  intro x2
  clear_value x2
  apply Kept.ite
  · with_reducible apply State.logRegs_kept
    with_reducible apply State.setLog_kept
    exact ks
  · exact ks

theorem State.logSample_kept {r : State} (s : State) (n : Nat) (ks : Kept r s) : Kept r (State.logSample s n) := by
  unfold State.logSample
  lift_lets
  intro x0
  clear_value x0
  intro x1
  clear_value x1
  cases hc2 : List.find? (fun x => x.sample && x.words.isNone) x0.cyc
  · try dsimp -zeta only
    exact ks
  · try dsimp -zeta only
    lift_lets
    intro x3
    have kx3 : Kept r x3 := by
      unfold x3
      with_reducible apply State.setLog_kept
      exact ks
    clear_value x3
    with_reducible apply State.logRegs_kept
    with_reducible apply State.logFlush_kept
    exact kx3

end Sys2Proof.Machine
end

