-- ==== Sys2Proof/Laws/KeptLife.lean ====
section
/-! SUPPORT. What the operations of Machine/Life.lean keep (see Laws/Kept.lean). -/

namespace Sys2Proof.Machine

open Sys2Proof

theorem State.setCax_kept {r : State} (s : State) (a : Nat) (c : CartAx) (ks : Kept r s) : Kept r (State.setCax s a c) := by
  unfold State.setCax
  with_reducible apply Kept.upd
  exact ks

theorem State.lifePass_kept {r : State} (s : State) (a : Nat) (ks : Kept r s) : Kept r (State.lifePass s a) := by
  unfold State.lifePass
  lift_lets
  intro x0
  clear_value x0
  intro x1
  clear_value x1
  intro x2
  clear_value x2
  intro x3
  clear_value x3
  intro x4
  clear_value x4
  intro x5
  clear_value x5
  intro x6
  clear_value x6
  intro x7
  clear_value x7
  intro x8
  clear_value x8
  intro x9
  clear_value x9
  intro x10
  clear_value x10
  intro x11
  clear_value x11
  intro x12
  clear_value x12
  intro x13
  clear_value x13
  intro x14
  have kx14 : Kept r x14 := by
    unfold x14
    with_reducible apply State.setXw_kept
    with_reducible apply State.setXi_kept
    exact ks
  clear_value x14
  intro x15
  have kx15 : Kept r x15 := by
    unfold x15
    with_reducible apply State.addLife_kept
    with_reducible apply State.addLife_kept
    exact kx14
  clear_value x15
  intro x16
  have kx16 : Kept r x16 := by
    unfold x16
    with_reducible apply State.addLife_kept
    exact kx15
  clear_value x16
  intro x17
  have kx17 : Kept r x17 := by
    unfold x17
    with_reducible apply State.addLife_kept
    exact kx16
  clear_value x17
  with_reducible apply State.addLife_kept
  exact kx17

end Sys2Proof.Machine
end

