-- ==== Sys2Proof/Laws/KeptNetBase.lean ====
section
/-! SUPPORT. What the operations of Machine/NetBase.lean keep (see Laws/Kept.lean). -/

namespace Sys2Proof.Machine

open Sys2Proof

theorem State.runStops_kept {r : State} (s : State) (ks : Kept r s) : Kept r (State.runStops s) := by
  unfold State.runStops
  apply Kept.ite
  · exact ks
  · with_reducible apply State.clrFlag_kept
    exact ks

theorem State.setOps_kept {r : State} (s : State) (l : List NetOp) (ks : Kept r s) : Kept r (State.setOps s l) := by
  unfold State.setOps
  with_reducible apply Kept.upd
  exact ks

theorem State.setNode_kept {r : State} (s : State) (a : Nat) (n : Node) (ks : Kept r s) : Kept r (State.setNode s a n) := by
  unfold State.setNode
  with_reducible apply Kept.upd
  exact ks

theorem State.countNodes_kept {r : State} (s : State) (b : Nat) (ks : Kept r s) : Kept r (State.countNodes s b) := by
  unfold State.countNodes
  with_reducible apply State.setFld_kept
  exact ks

theorem State.updNode_kept {r : State} (s : State) (a : Nat) (f : Node → Node) (ks : Kept r s) : Kept r (State.updNode s a f) := by
  unfold State.updNode
  with_reducible apply State.setNode_kept
  exact ks

theorem State.queueDyn_kept {r : State} (s : State) (m : DynMsg) (ks : Kept r s) : Kept r (State.queueDyn s m) := by
  unfold State.queueDyn
  with_reducible apply Kept.upd
  exact ks

theorem State.queueTo_kept {r : State} (s : State) (addr : Nat) (cls : Nat) (msg : Nat) (param : Nat) (body : List Byte) (ks : Kept r s) : Kept r (State.queueTo s addr cls msg param body) := by
  unfold State.queueTo
  with_reducible apply State.draw_kept
  with_reducible apply State.queueDyn_kept
  exact ks

theorem State.endOp_kept {r : State} (s : State) (o : NetOp) (st : St) (lo : Nat) (ks : Kept r s) : Kept r (State.endOp s o st lo) := by
  unfold State.endOp
  with_reducible apply State.complete_kept
  with_reducible apply State.setOps_kept
  exact ks

theorem State.driveTxDis_kept {r : State} (s : State) (p : Nat) (old : Bool) (ks : Kept r s) : Kept r (State.driveTxDis s p old) := by
  unfold State.driveTxDis
  apply Kept.ite
  · exact ks
  · with_reducible apply State.emit_kept
    exact ks

theorem State.queueBoom_kept {r : State} (s : State) (addr : Nat) (close : Bool) (cmd : Bool) (ks : Kept r s) : Kept r (State.queueBoom s addr close cmd) := by
  unfold State.queueBoom
  lift_lets
  intro x0
  clear_value x0
  intro x1
  clear_value x1
  intro x2
  clear_value x2
  with_reducible apply Kept.upd
  exact ks

theorem State.updOp_kept {r : State} (s : State) (o : NetOp) (o' : NetOp) (ks : Kept r s) : Kept r (State.updOp s o o') := by
  unfold State.updOp
  with_reducible apply State.setOps_kept
  exact ks

theorem State.queueDyns_kept {r : State} (s : State) (l : List DynMsg) (ks : Kept r s) : Kept r (State.queueDyns s l) := by
  unfold State.queueDyns
  with_reducible apply Kept.upd
  exact ks

theorem State.sendFrame_kept {r : State} (s : State) (p : Nat) (start : Nat) (bytes : List Byte) (ks : Kept r s) : Kept r (State.sendFrame s p start bytes) := by
  unfold State.sendFrame
  apply Kept.ite
  · lift_lets
    intro x0
    have kx0 : Kept r x0 := by
      unfold x0
      with_reducible apply State.incFld_kept
      with_reducible apply State.emit_kept
      exact ks
    clear_value x0
    intro x1
    clear_value x1
    apply Kept.ite
    · with_reducible apply Kept.upd
      exact kx0
    · exact kx0
  · exact ks

theorem State.expectFrom_kept {r : State} (s : State) (addr : Nat) (cls : Nat) (payload : Nat) (ks : Kept r s) : Kept r (State.expectFrom s addr cls payload) := by
  unfold State.expectFrom
  with_reducible apply Kept.upd
  exact ks

end Sys2Proof.Machine
end

