-- ==== Sys2Proof/Laws/KeptCart.lean ====
section
/-! SUPPORT. What the operations of Machine/Cart.lean keep (see Laws/Kept.lean). -/

namespace Sys2Proof.Machine

open Sys2Proof

theorem State.cartWord_kept {r : State} (s : State) (a : Nat) (o : Nat) (w : Word) (ks : Kept r s) : Kept r (State.cartWord s a o w) := by
  unfold State.cartWord
  with_reducible apply Kept.upd
  exact ks

theorem State.deriveLife_kept {r : State} (s : State) (a : Nat) (ks : Kept r s) : Kept r (State.deriveLife s a) := by
  unfold State.deriveLife
  lift_lets
  intro x0
  clear_value x0
  intro x1
  clear_value x1
  intro x2
  clear_value x2
  intro x3
  clear_value x3
  intro x4
  clear_value x4
  intro x5
  clear_value x5
  intro x6
  clear_value x6
  intro x7
  clear_value x7
  intro x8
  clear_value x8
  intro x9
  clear_value x9
  intro x10
  have kx10 : Kept r x10 := by
    unfold x10
    apply Kept.ite
    · exact ks
    · with_reducible apply State.draw_kept
      exact ks
  clear_value x10
  intro x11
  clear_value x11
  intro x12
  clear_value x12
  intro x13
  clear_value x13
  intro x14
  have kx14 : Kept r x14 := by
    unfold x14
    with_reducible apply State.setCax_kept
    exact kx10
  clear_value x14
  intro x15
  have kx15 : Kept r x15 := by
    unfold x15
    with_reducible apply State.cartWord_kept
    with_reducible apply State.cartWord_kept
    exact kx14
  clear_value x15
  with_reducible apply State.cartWord_kept
  with_reducible apply State.cartWord_kept
  with_reducible apply State.cartWord_kept
  exact kx15

theorem State.unAuth_kept {r : State} (s : State) (a : Nat) (ks : Kept r s) : Kept r (State.unAuth s a) := by
  unfold State.unAuth
  apply Kept.ite
  · with_reducible apply State.deriveLife_kept
    with_reducible apply State.setCax_kept
    exact ks
  · exact ks

theorem State.cartPush_kept {r : State} (s : State) (a : Nat) (recd : List Byte) (ks : Kept r s) : Kept r (State.cartPush s a recd) := by
  unfold State.cartPush
  lift_lets
  intro x0
  clear_value x0
  apply Kept.ite
  · with_reducible apply State.pushRing_kept
    exact ks
  · apply Kept.ite
    · with_reducible apply State.flagEvent_kept
      with_reducible apply State.setCax_kept
      exact ks
    · with_reducible apply State.loseRing_kept
      exact ks

theorem State.cartRec_kept {r : State} (s : State) (a : Nat) (kind : Nat) (st : Nat) (ks : Kept r s) : Kept r (State.cartRec s a kind st) := by
  unfold State.cartRec
  lift_lets
  intro x0
  clear_value x0
  with_reducible apply State.cartPush_kept
  exact ks

theorem State.derate_kept {r : State} (s : State) (a : Nat) (ks : Kept r s) : Kept r (State.derate s a) := by
  unfold State.derate
  lift_lets
  intro x0
  clear_value x0
  intro x1
  clear_value x1
  with_reducible apply State.cartWord_kept
  with_reducible apply State.putFlag_kept
  exact ks

theorem State.setClass_kept {r : State} (s : State) (a : Nat) (c : Nat) (event : Bool) (ks : Kept r s) : Kept r (State.setClass s a c event) := by
  unfold State.setClass
  lift_lets
  intro x0
  have kx0 : Kept r x0 := by
    unfold x0
    with_reducible apply State.derate_kept
    with_reducible apply State.setFld_kept
    exact ks
  clear_value x0
  intro x1
  clear_value x1
  apply Kept.ite
  · with_reducible apply State.raise_kept
    exact kx0
  · exact kx0

theorem State.cartState_kept {r : State} (s : State) (a : Nat) (n : Nat) (ks : Kept r s) : Kept r (State.cartState s a n) := by
  unfold State.cartState
  with_reducible apply State.setFld_kept
  exact ks

theorem State.wbEnded_kept {r : State} (s : State) (a : Nat) (ok : Bool) (ks : Kept r s) : Kept r (State.wbEnded s a ok) := by
  unfold State.wbEnded
  lift_lets
  intro x0
  clear_value x0
  intro x1
  clear_value x1
  intro x2
  clear_value x2
  intro x3
  have kx3 : Kept r x3 := by
    unfold x3
    with_reducible apply Kept.upd
    exact ks
  clear_value x3
  intro x4
  have kx4 : Kept r x4 := by
    unfold x4
    refine Kept.foldl _ ?_ ?_
    · exact kx3
    · intro a5
      intro a6
      intro h7
      with_reducible apply State.updNode_kept
      exact h7
  clear_value x4
  refine Kept.foldl _ ?_ ?_
  · exact kx4
  · intro a8
    intro a9
    intro h10
    with_reducible apply State.complete_kept
    exact h10

theorem State.wbLost_kept {r : State} (s : State) (a : Nat) (st : Nat) (ks : Kept r s) : Kept r (State.wbLost s a st) := by
  unfold State.wbLost
  with_reducible apply State.wbEnded_kept
  with_reducible apply State.raise_kept
  with_reducible apply State.cartRec_kept
  exact ks

theorem State.cartReply_kept {r : State} (s : State) (j : CartJob) (st : St) (lo : Nat) (ks : Kept r s) : Kept r (State.cartReply s j st lo) := by
  unfold State.cartReply
  cases hc0 : j.cmd
  · try dsimp -zeta only
    exact ks
  · try dsimp -zeta only
    cases hc1 : j.kind
    · try dsimp -zeta only
      with_reducible apply State.complete_kept
      exact ks
    · try dsimp -zeta only
      exact ks
    · try dsimp -zeta only
      with_reducible apply State.complete_kept
      exact ks
    · try dsimp -zeta only
      with_reducible apply State.complete_kept
      exact ks

theorem State.cartTx_kept {r : State} (s : State) (a : Nat) (ks : Kept r s) : Kept r (State.cartTx s a) := by
  unfold State.cartTx
  lift_lets
  intro x0
  clear_value x0
  intro x1
  clear_value x1
  apply Kept.ite
  · with_reducible apply State.updNode_kept
    exact ks
  · with_reducible apply State.queueTo_kept
    exact ks

theorem State.cartAsk_kept {r : State} (s : State) (a : Nat) (step : Nat) (msg : List Byte) (ks : Kept r s) : Kept r (State.cartAsk s a step msg) := by
  unfold State.cartAsk
  with_reducible apply State.cartTx_kept
  with_reducible apply State.setCax_kept
  exact ks

theorem State.cartBegin_kept {r : State} (s : State) (a : Nat) (j : CartJob) (ks : Kept r s) : Kept r (State.cartBegin s a j) := by
  unfold State.cartBegin
  cases hc0 : s.cartChan a
  · try dsimp -zeta only
    exact ks
  · try dsimp -zeta only
    lift_lets
    intro x1
    clear_value x1
    intro x2
    have kx2 : Kept r x2 := by
      unfold x2
      with_reducible apply State.setCax_kept
      exact ks
    clear_value x2
    intro x3
    clear_value x3
    cases hc4 : j.kind
    · try dsimp -zeta only
      with_reducible apply State.cartAsk_kept
      with_reducible apply State.cartState_kept
      with_reducible apply State.setClass_kept
      with_reducible apply State.setCax_kept
      exact kx2
    · try dsimp -zeta only
      with_reducible apply State.cartAsk_kept
      with_reducible apply State.cartState_kept
      exact kx2
    · try dsimp -zeta only
      with_reducible apply State.cartAsk_kept
      with_reducible apply State.cartState_kept
      exact kx2
    · try dsimp -zeta only
      with_reducible apply State.cartAsk_kept
      with_reducible apply State.cartState_kept
      exact kx2

theorem State.cartNext_kept {r : State} (s : State) (a : Nat) (z2 : Nat) (ks : Kept r s) : Kept r (State.cartNext s a z2) := by
  induction z2 generalizing s with
  | zero => exact ks
  | succ f ih =>
    unfold State.cartNext
    dsimp only
    split
    · split
      · refine ih _ ?_
        split
        · exact State.wbLost_kept _ _ _ (State.setCax_kept _ _ _ ks)
        · exact State.cartReply_kept _ _ _ _ (State.setCax_kept _ _ _ ks)
      · exact State.cartBegin_kept _ _ _ (State.setCax_kept _ _ _ ks)
    · exact ks

theorem State.cartEnd_kept {r : State} (s : State) (a : Nat) (ks : Kept r s) : Kept r (State.cartEnd s a) := by
  unfold State.cartEnd
  lift_lets
  intro x0
  clear_value x0
  intro x1
  have kx1 : Kept r x1 := by
    unfold x1
    with_reducible apply State.cartState_kept
    with_reducible apply State.setCax_kept
    exact ks
  clear_value x1
  with_reducible apply State.cartNext_kept
  exact kx1

theorem State.authEnd_kept {r : State} (s : State) (a : Nat) (j : CartJob) (c : Nat) (st : St) (tag : Nat) (ks : Kept r s) : Kept r (State.authEnd s a j c st tag) := by
  unfold State.authEnd
  lift_lets
  intro x0
  have kx0 : Kept r x0 := by
    unfold x0
    apply Kept.ite
    · with_reducible apply State.unAuth_kept
      exact ks
    · exact ks
  clear_value x0
  intro x1
  have kx1 : Kept r x1 := by
    unfold x1
    with_reducible apply State.cartRec_kept
    with_reducible apply State.setClass_kept
    exact kx0
  clear_value x1
  with_reducible apply State.cartEnd_kept
  with_reducible apply State.cartReply_kept
  exact kx1

theorem State.setEol_kept {r : State} (s : State) (a : Nat) (ks : Kept r s) : Kept r (State.setEol s a) := by
  unfold State.setEol
  with_reducible apply State.setRg_kept
  exact ks

theorem State.cartLoad_kept {r : State} (s : State) (a : Nat) (cnt : List Nat) (seq : Nat) (ks : Kept r s) : Kept r (State.cartLoad s a cnt seq) := by
  unfold State.cartLoad
  lift_lets
  intro x0
  clear_value x0
  intro x1
  clear_value x1
  intro x2
  clear_value x2
  intro x3
  clear_value x3
  intro x4
  clear_value x4
  intro x5
  clear_value x5
  intro x6
  have kx6 : Kept r x6 := by
    unfold x6
    with_reducible apply State.setCax_kept
    with_reducible apply Kept.upd
    exact ks
  clear_value x6
  intro x7
  have kx7 : Kept r x7 := by
    unfold x7
    with_reducible apply State.setRg_kept
    with_reducible apply State.setRg_kept
    exact kx6
  clear_value x7
  with_reducible apply State.setEol_kept
  with_reducible apply State.deriveLife_kept
  exact kx7

theorem State.cartEnqueue_kept {r : State} (s : State) (a : Nat) (j : CartJob) (ks : Kept r s) : Kept r (State.cartEnqueue s a j) := by
  unfold State.cartEnqueue
  lift_lets
  intro x0
  clear_value x0
  intro x1
  clear_value x1
  apply Kept.ite
  · exact ks
  · with_reducible apply State.cartNext_kept
    with_reducible apply State.setCax_kept
    exact ks

theorem State.askWb_kept {r : State} (s : State) (a : Nat) (ks : Kept r s) : Kept r (State.askWb s a) := by
  unfold State.askWb
  with_reducible apply State.cartEnqueue_kept
  exact ks

theorem State.authStep_kept {r : State} (s : State) (a : Nat) (j : CartJob) (step : Nat) (st : Nat) (body : List Byte) (ks : Kept r s) : Kept r (State.authStep s a j step st body) := by
  unfold State.authStep
  lift_lets
  intro x0
  clear_value x0
  intro x1
  clear_value x1
  intro x2
  clear_value x2
  intro x3
  have kx3 : Kept r x3 := by
    unfold x3
    with_reducible apply State.setCax_kept
    with_reducible apply Kept.updFree
    exact ks
  clear_value x3
  intro x4
  clear_value x4
  intro x5
  clear_value x5
  split
  · apply Kept.ite
    · with_reducible apply State.authEnd_kept
      exact ks
    · apply Kept.ite
      · with_reducible apply State.authEnd_kept
        with_reducible apply State.flagEvent_kept
        exact ks
      · with_reducible apply State.cartAsk_kept
        exact kx3
  · apply Kept.ite
    · with_reducible apply State.authEnd_kept
      exact ks
    · with_reducible apply State.cartAsk_kept
      with_reducible apply State.setCax_kept
      exact ks
  · apply Kept.ite
    · with_reducible apply State.authEnd_kept
      exact ks
    · with_reducible apply State.cartAsk_kept
      with_reducible apply State.setCax_kept
      exact ks
  · apply Kept.ite
    · with_reducible apply State.authEnd_kept
      exact ks
    · cases hc6 : s.pickBlock x0.gotId x0.gotSeq x0.gotA (List.drop 1 body)
      · try dsimp -zeta only
        with_reducible apply State.authEnd_kept
        exact ks
      · try dsimp -zeta only
        lift_lets
        intro x7
        have kx7 : Kept r x7 := by
          unfold x7
          with_reducible apply State.cartLoad_kept
          exact ks
        clear_value x7
        intro x8
        clear_value x8
        intro x9
        clear_value x9
        intro x10
        have kx10 : Kept r x10 := by
          unfold x10
          with_reducible apply State.setCax_kept
          exact kx7
        clear_value x10
        apply Kept.ite
        · with_reducible apply State.cartEnd_kept
          with_reducible apply State.askWb_kept
          with_reducible apply State.cartRec_kept
          with_reducible apply State.cartReply_kept
          exact kx10
        · with_reducible apply State.authEnd_kept
          exact kx7

theorem State.updRates_kept {r : State} (s : State) (a : Nat) (ks : Kept r s) : Kept r (State.updRates s a) := by
  unfold State.updRates
  lift_lets
  intro x0
  clear_value x0
  intro x1
  clear_value x1
  intro x2
  clear_value x2
  with_reducible apply State.setCax_kept
  exact ks

theorem State.afterWb_kept {r : State} (s : State) (a : Nat) (ks : Kept r s) : Kept r (State.afterWb s a) := by
  unfold State.afterWb
  cases hc0 : (s.cax a).after
  · try dsimp -zeta only
    exact ks
  · try dsimp -zeta only
    with_reducible apply State.cartRec_kept
    with_reducible apply State.setClass_kept
    with_reducible apply State.setCax_kept
    exact ks

theorem State.judge_kept {r : State} (s : State) (a : Nat) (afterWb : Bool) (ks : Kept r s) : Kept r (State.judge s a afterWb) := by
  unfold State.judge
  lift_lets
  intro x0
  clear_value x0
  intro x1
  have kx1 : Kept r x1 := by
    unfold x1
    with_reducible apply State.setEol_kept
    exact ks
  clear_value x1
  intro x2
  clear_value x2
  apply Kept.ite
  · exact kx1
  · apply Kept.ite
    · with_reducible apply State.askWb_kept
      with_reducible apply State.setCax_kept
      exact kx1
    · with_reducible apply State.cartRec_kept
      with_reducible apply State.setClass_kept
      exact kx1

theorem State.cartStep_kept {r : State} (s : State) (a : Nat) (j : CartJob) (body : List Byte) (ks : Kept r s) : Kept r (State.cartStep s a j body) := by
  unfold State.cartStep
  lift_lets
  intro x0
  clear_value x0
  intro x1
  clear_value x1
  intro x2
  have kx2 : Kept r x2 := by
    unfold x2
    with_reducible apply State.updRates_kept
    with_reducible apply State.setCax_kept
    exact ks
  clear_value x2
  intro x3
  have kx3 : Kept r x3 := by
    unfold x3
    with_reducible apply State.cartRec_kept
    with_reducible apply State.setEol_kept
    exact kx2
  clear_value x3
  intro x4
  have kx4 : Kept r x4 := by
    unfold x4
    apply Kept.ite
    · with_reducible apply State.afterWb_kept
      exact kx3
    · apply Kept.ite
      · with_reducible apply State.judge_kept
        exact kx3
      · exact kx3
  clear_value x4
  intro x5
  clear_value x5
  intro x6
  have kx6 : Kept r x6 := by
    unfold x6
    cases hc7 : j.cmd
    · try dsimp -zeta only
      exact ks
    · try dsimp -zeta only
      with_reducible apply State.emit_kept
      exact ks
  clear_value x6
  intro x8
  clear_value x8
  cases hc9 : j.kind
  · try dsimp -zeta only
    with_reducible apply State.authStep_kept
    exact ks
  · try dsimp -zeta only
    apply Kept.ite
    · with_reducible apply State.cartEnd_kept
      with_reducible apply State.wbEnded_kept
      exact kx4
    · with_reducible apply State.cartEnd_kept
      with_reducible apply State.wbLost_kept
      with_reducible apply State.afterWb_kept
      exact ks
  · try dsimp -zeta only
    apply Kept.ite
    · with_reducible apply State.cartEnd_kept
      with_reducible apply State.cartReply_kept
      exact ks
    · apply Kept.ite
      · with_reducible apply State.cartEnd_kept
        with_reducible apply State.cartReply_kept
        exact kx6
      · with_reducible apply State.cartAsk_kept
        with_reducible apply State.setCax_kept
        exact ks
  · try dsimp -zeta only
    apply Kept.ite
    · with_reducible apply State.cartEnd_kept
      with_reducible apply State.cartReply_kept
      exact ks
    · apply Kept.ite
      · with_reducible apply State.cartEnd_kept
        with_reducible apply State.cartReply_kept
        exact ks
      · with_reducible apply State.cartAsk_kept
        with_reducible apply State.setCax_kept
        exact ks

theorem State.tagResponse_kept {r : State} (s : State) (a : Nat) (msg : List Byte) (ks : Kept r s) : Kept r (State.tagResponse s a msg) := by
  unfold State.tagResponse
  lift_lets
  intro x0
  clear_value x0
  intro x1
  clear_value x1
  cases hc2 : x0.job
  · try dsimp -zeta only
    exact ks
  · try dsimp -zeta only
    apply Kept.ite
    · with_reducible apply State.cartStep_kept
      exact ks
    · exact ks

theorem State.cartMsg_kept {r : State} (s : State) (addr : Nat) (slot : Nat) (body : List Byte) (ks : Kept r s) : Kept r (State.cartMsg s addr slot body) := by
  unfold State.cartMsg
  cases hc0 : s.cartAxisAt addr slot
  · try dsimp -zeta only
    exact ks
  · try dsimp -zeta only
    with_reducible apply State.tagResponse_kept
    exact ks

theorem State.cartChunk_kept {r : State} (s : State) (addr : Nat) (chunk : List Byte) (ks : Kept r s) : Kept r (State.cartChunk s addr chunk) := by
  unfold State.cartChunk
  lift_lets
  intro x0
  clear_value x0
  intro x1
  have kx1 : Kept r x1 := by
    unfold x1
    with_reducible apply State.updNode_kept
    exact ks
  clear_value x1
  cases hc2 : x0.snd
  · try dsimp -zeta only
    exact kx1
  · try dsimp -zeta only
    with_reducible apply State.cartMsg_kept
    exact kx1

theorem State.cartUnbind_kept {r : State} (s : State) (new : Plan) (ks : Kept r s) : Kept r (State.cartUnbind s new) := by
  unfold State.cartUnbind
  apply Kept.ite
  · exact ks
  · refine Kept.foldl _ ?_ ?_
    · exact ks
    · intro a0
      intro a1
      intro h2
      lift_lets
      intro x3
      clear_value x3
      apply Kept.ite
      · with_reducible apply State.askWb_kept
        exact h2
      · exact h2

theorem State.cartAuth_kept {r : State} (s : State) (src : Src) (d : Desc) (ks : Kept r s) : Kept r (State.cartAuth s src d) := by
  unfold State.cartAuth
  with_reducible apply State.soon_kept
  · exact ks
  · intro a0
    intro h1
    apply Kept.ite
    · with_reducible apply State.complete_kept
      exact h1
    · apply Kept.ite
      · with_reducible apply State.complete_kept
        exact h1
      · apply Kept.ite
        · with_reducible apply State.complete_kept
          exact h1
        · with_reducible apply State.cartEnqueue_kept
          exact h1

theorem State.cartRead_kept {r : State} (s : State) (src : Src) (d : Desc) (ks : Kept r s) : Kept r (State.cartRead s src d) := by
  unfold State.cartRead
  with_reducible apply State.soon_kept
  · exact ks
  · intro a0
    intro h1
    lift_lets
    intro x2
    clear_value x2
    apply Kept.ite
    · with_reducible apply State.complete_kept
      exact h1
    · apply Kept.ite
      · with_reducible apply State.complete_kept
        exact h1
      · with_reducible apply State.cartEnqueue_kept
        exact h1

theorem State.cartWrite_kept {r : State} (s : State) (src : Src) (d : Desc) (data : List Byte) (ks : Kept r s) : Kept r (State.cartWrite s src d data) := by
  unfold State.cartWrite
  with_reducible apply State.soon_kept
  · exact ks
  · intro a0
    intro h1
    lift_lets
    intro x2
    clear_value x2
    apply Kept.ite
    · with_reducible apply State.complete_kept
      exact h1
    · apply Kept.ite
      · with_reducible apply State.complete_kept
        exact h1
      · apply Kept.ite
        · with_reducible apply State.complete_kept
          exact h1
        · with_reducible apply State.cartEnqueue_kept
          exact h1

theorem State.dueCartPolicy_kept {r : State} (s : State) (src : Src) (d : Desc) (t : List Byte) (ks : Kept r s) : Kept r (State.dueCartPolicy s src d t) := by
  unfold State.dueCartPolicy
  lift_lets
  intro x0
  clear_value x0
  intro x1
  have kx1 : Kept r x1 := by
    unfold x1
    with_reducible apply Kept.upd
    exact ks
  clear_value x1
  with_reducible apply State.complete_kept
  refine Kept.foldl _ ?_ ?_
  · exact kx1
  · intro a2
    intro a3
    intro h4
    with_reducible apply State.derate_kept
    exact h4

theorem State.cartFlush_kept {r : State} (s : State) (src : Src) (d : Desc) (ks : Kept r s) : Kept r (State.cartFlush s src d) := by
  unfold State.cartFlush
  with_reducible apply State.soon_kept
  · exact ks
  · intro a0
    intro h1
    apply Kept.ite
    · with_reducible apply State.complete_kept
      exact h1
    · apply Kept.ite
      · with_reducible apply State.complete_kept
        exact h1
      · lift_lets
        intro x2
        clear_value x2
        intro x3
        clear_value x3
        intro x4
        have kx4 : Kept r x4 := by
          unfold x4
          with_reducible apply Kept.upd
          exact h1
        clear_value x4
        apply Kept.ite
        · with_reducible apply State.complete_kept
          exact h1
        · refine Kept.foldl _ ?_ ?_
          · exact kx4
          · intro a5
            intro a6
            intro h7
            with_reducible apply State.askWb_kept
            exact h7

theorem State.cartAbort_kept {r : State} (s : State) (a : Nat) (ks : Kept r s) : Kept r (State.cartAbort s a) := by
  unfold State.cartAbort
  lift_lets
  intro x0
  clear_value x0
  intro x1
  clear_value x1
  intro x2
  have kx2 : Kept r x2 := by
    unfold x2
    with_reducible apply State.cartState_kept
    with_reducible apply State.setCax_kept
    exact ks
  clear_value x2
  refine Kept.foldl _ ?_ ?_
  · exact kx2
  · intro a3
    intro a4
    intro h5
    apply Kept.ite
    · with_reducible apply State.wbLost_kept
      exact h5
    · with_reducible apply State.cartReply_kept
      exact h5

theorem State.cartLoose_kept {r : State} (s : State) (a : Nat) (c : Nat) (ks : Kept r s) : Kept r (State.cartLoose s a c) := by
  unfold State.cartLoose
  lift_lets
  intro x0
  have kx0 : Kept r x0 := by
    unfold x0
    cases hc1 : (s.cax a).job
    · try dsimp -zeta only
      exact ks
    · try dsimp -zeta only
      apply Kept.ite
      · exact ks
      · with_reducible apply State.cartAbort_kept
        exact ks
  clear_value x0
  intro x2
  clear_value x2
  intro x3
  have kx3 : Kept r x3 := by
    unfold x3
    with_reducible apply State.clrFlag_kept
    with_reducible apply State.setCax_kept
    exact kx0
  clear_value x3
  with_reducible apply State.deriveLife_kept
  with_reducible apply State.setClass_kept
  exact kx3

theorem State.tagPresence_kept {r : State} (s : State) (a : Nat) (on : Bool) (ks : Kept r s) : Kept r (State.tagPresence s a on) := by
  unfold State.tagPresence
  apply Kept.ite
  · exact ks
  · lift_lets
    intro x0
    have kx0 : Kept r x0 := by
      unfold x0
      with_reducible apply State.putFlag_kept
      exact ks
    clear_value x0
    intro x1
    have kx1 : Kept r x1 := by
      unfold x1
      with_reducible apply State.unAuth_kept
      with_reducible apply State.cartAbort_kept
      exact kx0
    clear_value x1
    apply Kept.ite
    · apply Kept.ite
      · with_reducible apply State.cartEnqueue_kept
        exact kx0
      · exact kx0
    · with_reducible apply State.cartRec_kept
      with_reducible apply State.setClass_kept
      exact kx1

theorem State.cartSwitch_kept {r : State} (s : State) (old : Plan) (new : Plan) (ks : Kept r s) : Kept r (State.cartSwitch s old new) := by
  unfold State.cartSwitch
  lift_lets
  intro x0
  have kx0 : Kept r x0 := by
    unfold x0
    refine Kept.foldl _ ?_ ?_
    · exact ks
    · intro a1
      intro a2
      intro h3
      apply Kept.ite
      · exact h3
      · with_reducible apply State.cartLoose_kept
        exact h3
  clear_value x0
  refine Kept.foldl _ ?_ ?_
  · exact kx0
  · intro a4
    intro a5
    intro h6
    lift_lets
    intro x7
    clear_value x7
    intro x8
    clear_value x8
    intro x9
    have kx9 : Kept r x9 := by
      unfold x9
      with_reducible apply State.cartLoose_kept
      exact h6
    clear_value x9
    cases hc10 : List.find? (fun q => q.axis == x7 && q.isLocal == a5.isLocal && q.node == a5.node && q.nslot == a5.nslot) old.axes
    · try dsimp -zeta only
      cases x8
      · try dsimp -zeta only
        exact kx9
      · try dsimp -zeta only
        with_reducible apply State.tagPresence_kept
        exact kx9
    · try dsimp -zeta only
      apply Kept.ite
      · exact h6
      · with_reducible apply State.deriveLife_kept
        exact h6

theorem State.cartDrain1_kept {r : State} (s : State) (a : Nat) (z2 : Nat) (ks : Kept r s) : Kept r (State.cartDrain1 s a z2) := by
  induction z2 generalizing s with
  | zero => exact ks
  | succ f ih =>
    unfold State.cartDrain1
    split
    · split
      · exact ih _ (State.setCax_kept _ _ _ (State.pushRing_kept _ _ _ ks))
      · exact ks
    · exact ks

theorem State.cartDrain_kept {r : State} (s : State) (ks : Kept r s) : Kept r (State.cartDrain s) := by
  unfold State.cartDrain
  refine Kept.foldl _ ?_ ?_
  · exact ks
  · intro a0
    intro a1
    intro h2
    with_reducible apply State.cartDrain1_kept
    exact h2

theorem State.cartBoundary_kept {r : State} (s : State) (ks : Kept r s) : Kept r (State.cartBoundary s) := by
  unfold State.cartBoundary
  lift_lets
  intro x0
  clear_value x0
  intro x1
  clear_value x1
  intro x2
  have kx2 : Kept r x2 := by
    unfold x2
    with_reducible apply Kept.upd
    exact ks
  clear_value x2
  intro x3
  have kx3 : Kept r x3 := by
    unfold x3
    refine Kept.foldl _ ?_ ?_
    · exact kx2
    · intro a4
      intro a5
      intro h6
      lift_lets
      intro x7
      have kx7 : Kept r x7 := by
        unfold x7
        with_reducible apply State.axWrite_kept
        exact h6
      clear_value x7
      apply Kept.ite
      · with_reducible apply State.setFld_kept
        with_reducible apply State.setFld_kept
        exact kx7
      · exact kx7
  clear_value x3
  intro x8
  clear_value x8
  intro x9
  clear_value x9
  intro x10
  have kx10 : Kept r x10 := by
    unfold x10
    apply Kept.ite
    · with_reducible apply Kept.upd
      exact kx3
    · exact kx3
  clear_value x10
  with_reducible apply State.cartDrain_kept
  exact kx10

theorem State.cartFail_kept {r : State} (s : State) (a : Nat) (j : CartJob) (ks : Kept r s) : Kept r (State.cartFail s a j) := by
  unfold State.cartFail
  cases hc0 : j.kind
  · try dsimp -zeta only
    with_reducible apply State.authEnd_kept
    exact ks
  · try dsimp -zeta only
    with_reducible apply State.cartEnd_kept
    with_reducible apply State.wbLost_kept
    with_reducible apply State.afterWb_kept
    exact ks
  · try dsimp -zeta only
    with_reducible apply State.cartEnd_kept
    with_reducible apply State.cartReply_kept
    exact ks
  · try dsimp -zeta only
    with_reducible apply State.cartEnd_kept
    with_reducible apply State.cartReply_kept
    exact ks

theorem State.removalWarning_kept {r : State} (s : State) (addr : Nat) (ks : Kept r s) : Kept r (State.removalWarning s addr) := by
  unfold State.removalWarning
  lift_lets
  intro x0
  clear_value x0
  intro x1
  have kx1 : Kept r x1 := by
    unfold x1
    refine Kept.foldl _ ?_ ?_
    · exact ks
    · intro a2
      intro a3
      intro h4
      with_reducible apply State.raise_kept
      exact h4
  clear_value x1
  intro x5
  clear_value x5
  intro x6
  have kx6 : Kept r x6 := by
    unfold x6
    with_reducible apply State.updNode_kept
    exact kx1
  clear_value x6
  intro x7
  clear_value x7
  intro x8
  have kx8 : Kept r x8 := by
    unfold x8
    with_reducible apply Kept.upd
    exact kx6
  clear_value x8
  apply Kept.ite
  · exact kx1
  · apply Kept.ite
    · with_reducible apply State.updNode_kept
      exact kx1
    · refine Kept.foldl _ ?_ ?_
      · exact kx8
      · intro a9
        intro a10
        intro h11
        with_reducible apply State.askWb_kept
        exact h11

theorem State.tagTimeout_kept {r : State} (s : State) (a : Nat) (ks : Kept r s) : Kept r (State.tagTimeout s a) := by
  unfold State.tagTimeout
  lift_lets
  intro x0
  clear_value x0
  cases hc1 : x0.job
  · try dsimp -zeta only
    exact ks
  · try dsimp -zeta only
    apply Kept.ite
    · with_reducible apply State.cartFail_kept
      exact ks
    · with_reducible apply State.cartTx_kept
      with_reducible apply State.setCax_kept
      exact ks

theorem State.wbScheduled_kept {r : State} (s : State) (a : Nat) (ks : Kept r s) : Kept r (State.wbScheduled s a) := by
  unfold State.wbScheduled
  lift_lets
  intro x0
  clear_value x0
  intro x1
  have kx1 : Kept r x1 := by
    unfold x1
    with_reducible apply State.setCax_kept
    exact ks
  clear_value x1
  apply Kept.ite
  · exact ks
  · apply Kept.ite
    · apply Kept.ite
      · with_reducible apply State.askWb_kept
        exact kx1
      · exact kx1
    · apply Kept.ite
      · exact kx1
      · with_reducible apply State.cartRec_kept
        exact kx1

end Sys2Proof.Machine
end

