-- ==== Sys2Proof/Laws/KeptFb.lean ====
section
/-! SUPPORT. What the operations of Machine/Fb.lean keep (see Laws/Kept.lean). -/

namespace Sys2Proof.Machine

open Sys2Proof

theorem State.gatesAll_kept {r : State} (s : State) (v : Int) (ks : Kept r s) : Kept r (State.gatesAll s v) := by
  unfold State.gatesAll
  refine Kept.foldl _ ?_ ?_
  · exact ks
  · intro a0
    intro a1
    intro h2
    with_reducible apply State.emit_kept
    exact h2

theorem State.clearLocal_kept {r : State} (s : State) (ks : Kept r s) : Kept r (State.clearLocal s) := by
  unfold State.clearLocal
  lift_lets
  intro x0
  have kx0 : Kept r x0 := by
    unfold x0
    with_reducible apply State.gatesAll_kept
    exact ks
  clear_value x0
  intro x1
  have kx1 : Kept r x1 := by
    unfold x1
    with_reducible apply Kept.updClear2
    exact kx0
  clear_value x1
  with_reducible apply State.gatesAll_kept
  with_reducible apply Kept.updClear
  exact kx1

theorem State.setLx_kept {r : State} (s : State) (n : Nat) (x : LxSt) (ks : Kept r s) : Kept r (State.setLx s n x) := by
  unfold State.setLx
  with_reducible apply Kept.upd
  exact ks

theorem State.profCorrect_kept {r : State} (s : State) (a : Nat) (dlt : Int) (ks : Kept r s) : Kept r (State.profCorrect s a dlt) := by
  unfold State.profCorrect
  lift_lets
  intro x0
  clear_value x0
  with_reducible apply State.setProf_kept
  exact ks

theorem State.hallAdj_kept {r : State} (s : State) (a : Nat) (f : FbSt) (f1 : FbSt) (dir : Int) (ks : Kept r s) : Kept r (State.hallAdj s a f f1 dir).1 := by
  unfold State.hallAdj
  lift_lets
  intro x0
  clear_value x0
  intro x1
  clear_value x1
  dsimp only
  with_reducible apply State.setFb_kept
  exact ks

theorem State.hallEdge_kept {r : State} (s : State) (a : Nat) (st : Nat) (at_ : Int) (ks : Kept r s) : Kept r (State.hallEdge s a st at_).1 := by
  unfold State.hallEdge
  lift_lets
  intro x0
  clear_value x0
  intro x1
  clear_value x1
  intro x2
  clear_value x2
  intro x3
  clear_value x3
  intro x4
  clear_value x4
  apply Kept.iteP
  · dsimp only
    exact ks
  · apply Kept.iteP
    · dsimp only
      with_reducible apply State.setFb_kept
      exact ks
    · apply Kept.iteP
      · dsimp only
        with_reducible apply State.setFb_kept
        exact ks
      · split
        · dsimp only
          with_reducible apply State.setFb_kept
          exact ks
        · with_reducible apply State.hallAdj_kept
          exact ks
        · with_reducible apply State.hallAdj_kept
          exact ks
        · dsimp only
          with_reducible apply State.setFb_kept
          exact ks
        · dsimp only
          with_reducible apply State.setFb_kept
          exact ks
        · dsimp only
          with_reducible apply State.setFb_kept
          exact ks

theorem State.fbMirror_kept {r : State} (s : State) (a : Nat) (ks : Kept r s) : Kept r (State.fbMirror s a) := by
  unfold State.fbMirror
  lift_lets
  intro x0
  clear_value x0
  with_reducible apply State.setRg_kept
  exact ks

theorem State.emuFlag_kept {r : State} (s : State) (e : Nat) (n : Nat) (ks : Kept r s) : Kept r (State.emuFlag s e n) := by
  unfold State.emuFlag
  with_reducible apply State.flagEvent_kept
  exact ks

theorem State.setEmu_kept {r : State} (s : State) (e : Nat) (x : Emu) (ks : Kept r s) : Kept r (State.setEmu s e x) := by
  unfold State.setEmu
  with_reducible apply Kept.upd
  exact ks

theorem State.emuHold_kept {r : State} (s : State) (a : Nat) (ks : Kept r s) : Kept r (State.emuHold s a) := by
  unfold State.emuHold
  refine Kept.foldl _ ?_ ?_
  · exact ks
  · intro a0
    intro a1
    intro h2
    with_reducible apply State.emuFlag_kept
    with_reducible apply State.setEmu_kept
    exact h2

theorem State.fbSet_kept {r : State} (s : State) (a : Nat) (st : Nat) (cause : Nat) (latched : Bool) (ks : Kept r s) : Kept r (State.fbSet s a st cause latched) := by
  unfold State.fbSet
  lift_lets
  intro x0
  clear_value x0
  intro x1
  clear_value x1
  intro x2
  clear_value x2
  intro x3
  have kx3 : Kept r x3 := by
    unfold x3
    with_reducible apply State.fbMirror_kept
    with_reducible apply State.setFb_kept
    exact ks
  clear_value x3
  intro x4
  have kx4 : Kept r x4 := by
    unfold x4
    apply Kept.ite
    · with_reducible apply State.emuHold_kept
      exact kx3
    · exact kx3
  clear_value x4
  apply Kept.ite
  · exact kx4
  · with_reducible apply State.raise_kept
    exact kx4

theorem State.fbIndex_kept {r : State} (s : State) (a : Nat) (c : Int) (ks : Kept r s) : Kept r (State.fbIndex s a c).1 := by
  unfold State.fbIndex
  lift_lets
  intro x0
  have kx0 : Kept r x0 := by
    unfold x0
    with_reducible apply State.incFld_kept
    exact ks
  clear_value x0
  intro x1
  clear_value x1
  intro x2
  clear_value x2
  intro x3
  clear_value x3
  intro x4
  have kx4 : Kept r x4 := by
    unfold x4
    with_reducible apply State.setFb_kept
    exact kx0
  clear_value x4
  intro x5
  clear_value x5
  intro x6
  have kx6 : Kept r x6 := by
    unfold x6
    apply Kept.ite
    · with_reducible apply State.setFlag_kept
      exact kx4
    · with_reducible apply State.setPar_kept
      exact kx4
  clear_value x6
  intro x7
  clear_value x7
  intro x8
  clear_value x8
  intro x9
  have kx9 : Kept r x9 := by
    unfold x9
    with_reducible apply State.profCorrect_kept
    with_reducible apply State.setFb_kept
    exact kx4
  clear_value x9
  intro x10
  clear_value x10
  apply Kept.iteP
  · dsimp only
    exact kx4
  · apply Kept.iteP
    · dsimp only
      with_reducible apply State.fbMirror_kept
      with_reducible apply State.setFb_kept
      exact kx6
    · apply Kept.iteP
      · dsimp only
        apply Kept.ite
        · with_reducible apply State.fbSet_kept
          exact kx9
        · exact kx9
      · dsimp only
        with_reducible apply State.raise_kept
        with_reducible apply State.incFld_kept
        exact kx4

theorem State.fbIndexes_kept {r : State} (s : State) (a : Nat) (l : List Int) (ks : Kept r s) : Kept r (State.fbIndexes s a l).1 := by
  unfold State.fbIndexes
  refine Kept.foldlP _ ?_ ?_
  · dsimp only
    exact ks
  · intro a0
    intro a1
    intro h2
    lift_lets
    intro x3
    have kx3 : Kept r x3.1 := by
      unfold x3
      with_reducible apply State.fbIndex_kept
      exact h2
    clear_value x3
    dsimp only
    exact kx3

theorem State.fbSkips_kept {r : State} (s : State) (a : Nat) (n : Nat) (ks : Kept r s) : Kept r (State.fbSkips s a n).1 := by
  unfold State.fbSkips
  lift_lets
  intro x0
  clear_value x0
  intro x1
  clear_value x1
  intro x2
  clear_value x2
  intro x3
  clear_value x3
  intro x4
  clear_value x4
  intro x5
  clear_value x5
  intro x6
  have kx6 : Kept r x6 := by
    unfold x6
    with_reducible apply State.setFb_kept
    with_reducible apply State.incFld_kept
    exact ks
  clear_value x6
  dsimp only
  exact kx6

theorem State.fbStatus_kept {r : State} (s : State) (a : Nat) (causes : List Nat) (ks : Kept r s) : Kept r (State.fbStatus s a causes) := by
  unfold State.fbStatus
  lift_lets
  intro x0
  clear_value x0
  intro x1
  clear_value x1
  intro x2
  have kx2 : Kept r x2 := by
    unfold x2
    with_reducible apply State.setFb_kept
    exact ks
  clear_value x2
  intro x3
  clear_value x3
  intro x4
  clear_value x4
  apply Kept.ite
  · apply Kept.ite
    · exact kx2
    · with_reducible apply State.fbSet_kept
      with_reducible apply State.setFb_kept
      with_reducible apply State.incFld_kept
      exact kx2
  · apply Kept.ite
    · apply Kept.ite
      · apply Kept.ite
        · exact kx2
        · with_reducible apply State.setFb_kept
          exact kx2
      · with_reducible apply State.fbSet_kept
        with_reducible apply State.setFb_kept
        with_reducible apply State.incFld_kept
        exact kx2
    · apply Kept.ite
      · apply Kept.ite
        · exact kx2
        · with_reducible apply State.setFb_kept
          exact kx2
      · apply Kept.ite
        · with_reducible apply State.fbSet_kept
          exact kx2
        · exact kx2

theorem State.fbSample_kept {r : State} (s : State) (a : Nat) (r2x : List Byte) (vbus : Nat) (tofs : Nat) (local_ : Bool) (localSkips : Nat) (zs : List Int) (comp : Int) (ks : Kept r s) : Kept r (State.fbSample s a r2x vbus tofs local_ localSkips zs comp) := by
  unfold State.fbSample
  lift_lets
  intro x0
  clear_value x0
  intro x1
  clear_value x1
  intro x2
  clear_value x2
  intro x3
  clear_value x3
  intro x4
  clear_value x4
  intro x5
  clear_value x5
  intro x6
  clear_value x6
  intro x7
  clear_value x7
  intro x8
  have kx8 : Kept r x8 := by
    unfold x8
    with_reducible apply State.setFb_kept
    exact ks
  clear_value x8
  intro x9
  have kx9 : Kept r x9 := by
    unfold x9
    apply Kept.ite
    · exact kx8
    · with_reducible apply State.profCorrect_kept
      exact kx8
  clear_value x9
  intro x10
  clear_value x10
  intro x11
  clear_value x11
  intro x12
  clear_value x12
  intro x13
  clear_value x13
  intro x14
  clear_value x14
  intro x15
  have kx15 : Kept r x15.1 := by
    unfold x15
    apply Kept.iteP
    · with_reducible apply State.hallEdge_kept
      exact kx9
    · dsimp only
      exact kx9
  clear_value x15
  intro x16
  have kx16 : Kept r x16 := by
    unfold x16
    exact kx15
  clear_value x16
  intro x17
  clear_value x17
  intro x18
  clear_value x18
  intro x19
  clear_value x19
  intro x20
  clear_value x20
  intro x21
  have kx21 : Kept r x21 := by
    unfold x21
    with_reducible apply State.setFb_kept
    exact kx16
  clear_value x21
  intro x22
  have kx22 : Kept r x22.1 := by
    unfold x22
    with_reducible apply State.fbIndexes_kept
    exact kx21
  clear_value x22
  intro x23
  clear_value x23
  intro x24
  have kx24 : Kept r x24.1 := by
    unfold x24
    with_reducible apply State.fbSkips_kept
    exact kx22
  clear_value x24
  intro x25
  have kx25 : Kept r x25 := by
    unfold x25
    exact kx24
  clear_value x25
  intro x26
  clear_value x26
  intro x27
  clear_value x27
  intro x28
  clear_value x28
  intro x29
  have kx29 : Kept r x29 := by
    unfold x29
    with_reducible apply State.fbStatus_kept
    exact kx25
  clear_value x29
  intro x30
  clear_value x30
  intro x31
  have kx31 : Kept r x31 := by
    unfold x31
    apply Kept.ite
    · with_reducible apply State.fbSet_kept
      exact kx29
    · exact kx29
  clear_value x31
  intro x32
  clear_value x32
  intro x33
  clear_value x33
  intro x34
  clear_value x34
  intro x35
  have kx35 : Kept r x35 := by
    unfold x35
    with_reducible apply State.setXw_kept
    with_reducible apply State.setXw_kept
    with_reducible apply State.setXi_kept
    with_reducible apply State.setXi_kept
    exact kx31
  clear_value x35
  intro x36
  have kx36 : Kept r x36 := by
    unfold x36
    with_reducible apply State.setXw_kept
    with_reducible apply State.setXw_kept
    with_reducible apply State.setXi_kept
    with_reducible apply State.setXw_kept
    exact kx35
  clear_value x36
  intro x37
  clear_value x37
  intro x38
  have kx38 : Kept r x38 := by
    unfold x38
    with_reducible apply State.setFb_kept
    exact kx36
  clear_value x38
  intro x39
  clear_value x39
  intro x40
  clear_value x40
  intro x41
  clear_value x41
  with_reducible apply State.setCtl_kept
  exact kx38

theorem State.fbRemote_kept {r : State} (s : State) (a : Nat) (r2x : List Byte) (vbus : Nat) (ks : Kept r s) : Kept r (State.fbRemote s a r2x vbus) := by
  unfold State.fbRemote
  lift_lets
  intro x0
  clear_value x0
  intro x1
  clear_value x1
  apply Kept.ite
  · with_reducible apply State.setFb_kept
    exact ks
  · with_reducible apply State.fbSample_kept
    exact ks

theorem State.clearLearn_kept {r : State} (s : State) (a : Nat) (ks : Kept r s) : Kept r (State.clearLearn s a) := by
  unfold State.clearLearn
  cases hc0 : s.actAxis a
  · try dsimp -zeta only
    exact ks
  · try dsimp -zeta only
    lift_lets
    intro x1
    clear_value x1
    intro x2
    have kx2 : Kept r x2 := by
      unfold x2
      with_reducible apply Kept.upd
      exact ks
    clear_value x2
    with_reducible apply State.xflag_kept
    with_reducible apply State.clearF_kept
    exact kx2

theorem State.afterSwitch_kept {r : State} (s : State) (old : Plan) (new : Plan) (ks : Kept r s) : Kept r (State.afterSwitch s old new) := by
  unfold State.afterSwitch
  refine Kept.foldl _ ?_ ?_
  · exact ks
  · intro a0
    intro a1
    intro h2
    lift_lets
    intro x3
    have kx3 : Kept r x3 := by
      unfold x3
      with_reducible apply State.axWrite_kept
      exact h2
    clear_value x3
    intro x4
    clear_value x4
    intro x5
    clear_value x5
    intro x6
    have kx6 : Kept r x6 := by
      unfold x6
      apply Kept.ite
      · exact kx3
      · with_reducible apply State.clearLearn_kept
        exact kx3
    clear_value x6
    intro x7
    clear_value x7
    intro x8
    clear_value x8
    intro x9
    clear_value x9
    intro x10
    have kx10 : Kept r x10 := by
      unfold x10
      with_reducible apply State.setFld_kept
      exact kx6
    clear_value x10
    intro x11
    clear_value x11
    intro x12
    have kx12 : Kept r x12 := by
      unfold x12
      with_reducible apply Kept.upd
      exact kx10
    clear_value x12
    intro x13
    have kx13 : Kept r x13 := by
      unfold x13
      refine Kept.foldl _ ?_ ?_
      · exact kx12
      · intro a14
        intro a15
        intro h16
        with_reducible apply State.emit_kept
        exact h16
    clear_value x13
    apply Kept.ite
    · apply Kept.ite
      · with_reducible apply State.worsen_kept
        with_reducible apply State.flagEvent_kept
        exact kx13
      · exact kx12
    · exact kx6

theorem State.at__kept {r : State} (s : State) (t : Nat) (ks : Kept r s) : Kept r (State.at_ s t) := by
  unfold State.at_
  with_reducible apply Kept.upd
  exact ks

theorem State.fbMissing_kept {r : State} (s : State) (a : Nat) (ks : Kept r s) : Kept r (State.fbMissing s a) := by
  unfold State.fbMissing
  lift_lets
  intro x0
  clear_value x0
  intro x1
  clear_value x1
  with_reducible apply State.fbStatus_kept
  with_reducible apply State.setFb_kept
  exact ks

theorem State.emuDrive_kept {r : State} (s : State) (e : Nat) (ks : Kept r s) : Kept r (State.emuDrive s e) := by
  unfold State.emuDrive
  lift_lets
  intro x0
  clear_value x0
  intro x1
  unfold x1
  with_reducible apply State.emit_kept
  with_reducible apply State.emit_kept
  with_reducible apply State.emit_kept
  exact ks

theorem State.emuBoundary_kept {r : State} (s : State) (ks : Kept r s) : Kept r (State.emuBoundary s) := by
  unfold State.emuBoundary
  refine Kept.foldl _ ?_ ?_
  · exact ks
  · intro a0
    intro a1
    intro h2
    lift_lets
    intro x3
    clear_value x3
    intro x4
    clear_value x4
    intro x5
    have kx5 : Kept r x5 := by
      unfold x5
      with_reducible apply State.emuDrive_kept
      with_reducible apply State.setEmu_kept
      exact h2
    clear_value x5
    intro x6
    clear_value x6
    apply Kept.ite
    · exact h2
    · apply Kept.ite
      · with_reducible apply State.emuHold_kept
        exact kx5
      · exact kx5

theorem State.emuBegin_kept {r : State} (s : State) (e : Nat) (ks : Kept r s) : Kept r (State.emuBegin s e) := by
  unfold State.emuBegin
  lift_lets
  intro x0
  clear_value x0
  cases hc1 : x0.next
  · try dsimp -zeta only
    exact ks
  · try dsimp -zeta only
    lift_lets
    intro x2
    clear_value x2
    try dsimp -zeta only
    lift_lets
    intro x3
    have kx3 : Kept r x3 := by
      unfold x3
      with_reducible apply State.setEmu_kept
      exact ks
    clear_value x3
    apply Kept.ite
    · with_reducible apply State.emuFlag_kept
      exact kx3
    · exact kx3

theorem State.emuPass1_kept {r : State} (s : State) (a : Nat) (e : Nat) (stop : Int) (ks : Kept r s) : Kept r (State.emuPass1 s a e stop) := by
  unfold State.emuPass1
  lift_lets
  intro x0
  clear_value x0
  intro x1
  clear_value x1
  intro x2
  have kx2 : Kept r x2 := by
    unfold x2
    with_reducible apply State.emuBegin_kept
    exact ks
  clear_value x2
  intro x3
  clear_value x3
  apply Kept.ite
  · exact ks
  · apply Kept.ite
    · with_reducible apply State.emuDrive_kept
      with_reducible apply State.setEmu_kept
      exact ks
    · with_reducible apply State.setEmu_kept
      exact kx2

theorem State.emuPass_kept {r : State} (s : State) (a : Nat) (stop : Int) (ks : Kept r s) : Kept r (State.emuPass s a stop) := by
  unfold State.emuPass
  lift_lets
  intro x0
  have kx0 : Kept r x0 := by
    unfold x0
    apply Kept.ite
    · with_reducible apply State.emuHold_kept
      exact ks
    · exact ks
  clear_value x0
  refine Kept.foldl _ ?_ ?_
  · exact kx0
  · intro a1
    intro a2
    intro h3
    with_reducible apply State.emuPass1_kept
    exact h3

theorem State.fbShow_kept {r : State} (s : State) (a : Nat) (ks : Kept r s) : Kept r (State.fbShow s a) := by
  unfold State.fbShow
  lift_lets
  intro x0
  clear_value x0
  with_reducible apply State.setXw_kept
  exact ks

theorem State.fbPersist_kept {r : State} (s : State) (a : Nat) (ks : Kept r s) : Kept r (State.fbPersist s a) := by
  unfold State.fbPersist
  lift_lets
  intro x0
  clear_value x0
  apply Kept.ite
  · with_reducible apply State.fbShow_kept
    with_reducible apply State.fbSet_kept
    with_reducible apply State.setFb_kept
    with_reducible apply State.incFld_kept
    exact ks
  · exact ks

theorem State.fbRecover_kept {r : State} (s : State) (a : Nat) (ks : Kept r s) : Kept r (State.fbRecover s a) := by
  unfold State.fbRecover
  lift_lets
  intro x0
  clear_value x0
  apply Kept.ite
  · with_reducible apply State.fbShow_kept
    with_reducible apply State.fbSet_kept
    exact ks
  · exact ks

end Sys2Proof.Machine
end

