-- ==== Sys2Proof/Laws/KeptLaw.lean ====
section
/-! SUPPORT. What the operations of Machine/Law.lean keep (see Laws/Kept.lean). -/

namespace Sys2Proof.Machine

open Sys2Proof

theorem State.setCst_kept {r : State} (s : State) (a : Nat) (v : Nat) (ks : Kept r s) : Kept r (State.setCst s a v) := by
  unfold State.setCst
  lift_lets
  intro x0
  have kx0 : Kept r x0 := by
    unfold x0
    with_reducible apply State.setXw_kept
    exact ks
  clear_value x0
  intro x1
  clear_value x1
  with_reducible apply State.setCtl_kept
  exact kx0

theorem State.request_kept {r : State} (s : State) (a : Nat) (m : Nat) (ks : Kept r s) : Kept r (State.request s a m) := by
  unfold State.request
  lift_lets
  intro x0
  clear_value x0
  with_reducible apply State.setCtl_kept
  exact ks

theorem State.injDone_kept {r : State} (s : State) (a : Nat) (ks : Kept r s) : Kept r (State.injDone s a) := by
  unfold State.injDone
  cases hc0 : (s.axis a).inj
  · try dsimp -zeta only
    exact ks
  · try dsimp -zeta only
    apply Kept.ite
    · with_reducible apply State.setXw_kept
      with_reducible apply State.endInj_kept
      exact ks
    · exact ks

theorem State.slessInputs_kept {r : State} (s : State) (a : Nat) (ks : Kept r s) : Kept r (State.slessInputs s a) := by
  unfold State.slessInputs
  lift_lets
  intro x0
  clear_value x0
  intro x1
  clear_value x1
  intro x2
  clear_value x2
  intro x3
  clear_value x3
  intro x4
  clear_value x4
  with_reducible apply State.setCtl_kept
  exact ks

theorem State.lossReaction_kept {r : State} (s : State) (a : Nat) (ks : Kept r s) : Kept r (State.lossReaction s a) := by
  unfold State.lossReaction
  lift_lets
  intro x0
  clear_value x0
  intro x1
  clear_value x1
  intro x2
  clear_value x2
  intro x3
  clear_value x3
  intro x4
  clear_value x4
  intro x5
  clear_value x5
  intro x6
  clear_value x6
  intro x7
  have kx7 : Kept r x7 := by
    unfold x7
    with_reducible apply State.setXw_kept
    exact ks
  clear_value x7
  intro x8
  have kx8 : Kept r x8 := by
    unfold x8
    with_reducible apply State.worsen_kept
    with_reducible apply State.commFlag_kept
    with_reducible apply State.request_kept
    with_reducible apply State.setCst_kept
    exact kx7
  clear_value x8
  intro x9
  clear_value x9
  apply Kept.ite
  · with_reducible apply State.worsen_kept
    exact ks
  · apply Kept.ite
    · apply Kept.ite
      · with_reducible apply State.worsen_kept
        exact ks
      · apply Kept.ite
        · with_reducible apply State.worsen_kept
          exact ks
        · apply Kept.ite
          · apply Kept.ite
            · with_reducible apply State.worsen_kept
              with_reducible apply State.request_kept
              with_reducible apply State.setCtl_kept
              exact ks
            · with_reducible apply State.setCtl_kept
              exact kx8
          · with_reducible apply State.worsen_kept
            exact ks
    · exact ks

theorem State.secFBP_kept {r : State} (s : State) (a : Nat) (ks : Kept r s) : Kept r (State.secFBP s a) := by
  unfold State.secFBP
  lift_lets
  intro x0
  clear_value x0
  intro x1
  clear_value x1
  intro x2
  clear_value x2
  intro x3
  clear_value x3
  intro x4
  clear_value x4
  intro x5
  clear_value x5
  intro x6
  clear_value x6
  intro x7
  clear_value x7
  intro x8
  have kx8 : Kept r x8 := by
    unfold x8
    apply Kept.ite
    · with_reducible apply State.mflag_kept
      exact ks
    · exact ks
  clear_value x8
  intro x9
  have kx9 : Kept r x9 := by
    unfold x9
    apply Kept.ite
    · with_reducible apply State.mflag_kept
      exact kx8
    · exact kx8
  clear_value x9
  intro x10
  clear_value x10
  intro x11
  clear_value x11
  intro x12
  clear_value x12
  intro x13
  clear_value x13
  intro x14
  clear_value x14
  intro x15
  clear_value x15
  intro x16
  clear_value x16
  intro x17
  clear_value x17
  intro x18
  clear_value x18
  intro x19
  clear_value x19
  intro x20
  clear_value x20
  intro x21
  clear_value x21
  intro x22
  have kx22 : Kept r x22 := by
    unfold x22
    with_reducible apply State.setCtl_kept
    exact kx9
  clear_value x22
  intro x23
  have kx23 : Kept r x23 := by
    unfold x23
    apply Kept.ite
    · with_reducible apply State.slessInputs_kept
      with_reducible apply State.setCtl_kept
      exact kx9
    · apply Kept.ite
      · with_reducible apply State.mflag_kept
        exact kx22
      · exact kx22
  clear_value x23
  intro x24
  intro x25
  have kx25 : Kept r x25 := by
    unfold x25
    with_reducible apply State.lossReaction_kept
    exact kx23
  clear_value x25
  intro x26
  clear_value x26
  apply Kept.ite
  · with_reducible apply State.setCtl_kept
    exact kx25
  · exact kx25

theorem State.secFBM_kept {r : State} (s : State) (a : Nat) (ks : Kept r s) : Kept r (State.secFBM s a) := by
  unfold State.secFBM
  lift_lets
  intro x0
  clear_value x0
  intro x1
  clear_value x1
  intro x2
  clear_value x2
  intro x3
  have kx3 : Kept r x3 := by
    unfold x3
    apply Kept.ite
    · with_reducible apply State.slessInputs_kept
      with_reducible apply State.setCtl_kept
      exact ks
    · with_reducible apply State.setCtl_kept
      exact ks
  clear_value x3
  with_reducible apply State.lossReaction_kept
  exact kx3

theorem State.holdValue_kept {r : State} (s : State) (a : Nat) (ks : Kept r s) : Kept r (State.holdValue s a) := by
  unfold State.holdValue
  apply Kept.ite
  · lift_lets
    intro x0
    clear_value x0
    intro x1
    clear_value x1
    intro x2
    clear_value x2
    intro x3
    have kx3 : Kept r x3 := by
      unfold x3
      apply Kept.ite
      · exact ks
      · with_reducible apply State.setXi_kept
        exact ks
    clear_value x3
    intro x4
    have kx4 : Kept r x4 := by
      unfold x4
      apply Kept.ite
      · with_reducible apply State.setXi_kept
        with_reducible apply State.setXi_kept
        exact kx3
      · exact kx3
    clear_value x4
    intro x5
    clear_value x5
    with_reducible apply State.setCtl_kept
    exact kx4
  · with_reducible apply State.setCtl_kept
    exact ks

theorem State.injPass_kept {r : State} (s : State) (a : Nat) (ks : Kept r s) : Kept r (State.injPass s a) := by
  unfold State.injPass
  cases hc0 : (s.axis a).inj
  · try dsimp -zeta only
    exact ks
  · try dsimp -zeta only
    apply Kept.ite
    · exact ks
    · lift_lets
      intro x1
      have kx1 : Kept r x1 := by
        unfold x1
        apply Kept.ite
        · with_reducible apply State.injMark_kept
          exact ks
        · exact ks
      clear_value x1
      intro x2
      clear_value x2
      intro x3
      clear_value x3
      intro x4
      have kx4 : Kept r x4 := by
        unfold x4
        apply Kept.ite
        · with_reducible apply State.draw_kept
          exact kx1
        · exact kx1
      clear_value x4
      intro x5
      clear_value x5
      with_reducible apply State.setXw_kept
      with_reducible apply State.setAxis_kept
      exact kx4

theorem State.secPRF_kept {r : State} (s : State) (a : Nat) (miss : Bool) (ks : Kept r s) : Kept r (State.secPRF s a miss) := by
  unfold State.secPRF
  lift_lets
  intro x0
  have kx0 : Kept r x0 := by
    unfold x0
    with_reducible apply State.holdValue_kept
    with_reducible apply State.injPass_kept
    exact ks
  clear_value x0
  intro x1
  clear_value x1
  intro x2
  clear_value x2
  intro x3
  clear_value x3
  intro x4
  clear_value x4
  intro x5
  clear_value x5
  intro x6
  clear_value x6
  intro x7
  clear_value x7
  intro x8
  clear_value x8
  intro x9
  clear_value x9
  with_reducible apply State.setCtl_kept
  exact kx0

theorem State.satFlag_kept {r : State} (s : State) (a : Nat) (ks : Kept r s) : Kept r (State.satFlag s a) := by
  unfold State.satFlag
  lift_lets
  intro x0
  clear_value x0
  with_reducible apply State.incFld_kept
  with_reducible apply State.laneFlag_kept
  with_reducible apply State.axFlag_kept
  exact ks

theorem State.satV_kept {r : State} (s : State) (a : Nat) (x : Int) (ks : Kept r s) : Kept r (State.satV s a x).1 := by
  unfold State.satV
  dsimp only
  apply Kept.ite
  · exact ks
  · with_reducible apply State.satFlag_kept
    exact ks

theorem State.preload_kept {r : State} (s : State) (a : Nat) (o : Nat) (v : Int) (l : Int) (ks : Kept r s) : Kept r (State.preload s a o v l) := by
  unfold State.preload
  lift_lets
  intro x0
  have kx0 : Kept r x0 := by
    unfold x0
    apply Kept.ite
    · exact ks
    · with_reducible apply State.mflag_kept
      exact ks
  clear_value x0
  with_reducible apply State.setXi_kept
  exact kx0

theorem State.blend_kept {r : State} (s : State) (a : Nat) (kind : Nat) (l : Int) (ks : Kept r s) : Kept r (State.blend s a kind l).1 := by
  unfold State.blend
  apply Kept.iteP
  · cases hc0 : s.blendC a
    · try dsimp -zeta only
      exact ks
    · try dsimp -zeta only
      lift_lets
      intro x1
      clear_value x1
      intro x2
      clear_value x2
      intro x3
      clear_value x3
      dsimp only
      with_reducible apply State.setCtl_kept
      exact ks
  · dsimp only
    exact ks

theorem State.secPOS_kept {r : State} (s : State) (a : Nat) (ks : Kept r s) : Kept r (State.secPOS s a) := by
  unfold State.secPOS
  apply Kept.ite
  · exact ks
  · lift_lets
    intro x0
    clear_value x0
    intro x1
    have kx1 : Kept r x1.1 := by
      unfold x1
      with_reducible apply State.satV_kept
      exact ks
    clear_value x1
    intro x2
    have kx2 : Kept r x2 := by
      unfold x2
      exact kx1
    clear_value x2
    intro x3
    clear_value x3
    intro x4
    clear_value x4
    intro x5
    clear_value x5
    intro x6
    clear_value x6
    intro x7
    clear_value x7
    intro x8
    clear_value x8
    intro x9
    have kx9 : Kept r x9 := by
      unfold x9
      apply Kept.ite
      · with_reducible apply State.setXi_kept
        with_reducible apply State.setXi_kept
        with_reducible apply State.preload_kept
        exact kx2
      · exact kx2
    clear_value x9
    intro x10
    clear_value x10
    intro x11
    clear_value x11
    intro x12
    clear_value x12
    intro x13
    clear_value x13
    intro x14
    clear_value x14
    intro x15
    have kx15 : Kept r x15 := by
      unfold x15
      with_reducible apply State.setXi_kept
      with_reducible apply State.setXi_kept
      with_reducible apply State.setXi_kept
      exact kx9
    clear_value x15
    intro x16
    have kx16 : Kept r x16.1 := by
      unfold x16
      with_reducible apply State.blend_kept
      exact kx15
    clear_value x16
    intro x17
    clear_value x17
    intro x18
    have kx18 : Kept r x18 := by
      unfold x18
      with_reducible apply State.setCtl_kept
      with_reducible apply State.setXi_kept
      exact kx16
    clear_value x18
    intro x19
    clear_value x19
    intro x20
    have kx20 : Kept r x20 := by
      unfold x20
      with_reducible apply State.worsen_kept
      with_reducible apply State.mflag_kept
      exact kx18
    clear_value x20
    intro x21
    clear_value x21
    apply Kept.ite
    · with_reducible apply State.setCtl_kept
      exact kx20
    · exact kx18

theorem State.fillBiquads_kept {r : State} (s : State) (a : Nat) (v : Int) (ks : Kept r s) : Kept r (State.fillBiquads s a v) := by
  unfold State.fillBiquads
  refine Kept.foldl _ ?_ ?_
  · exact ks
  · intro a0
    intro a1
    intro h2
    with_reducible apply State.setYi_kept
    exact h2

theorem State.velPrep_kept {r : State} (s : State) (a : Nat) (given : Option (Int × Int)) (ks : Kept r s) : Kept r (State.velPrep s a given).1 := by
  unfold State.velPrep
  lift_lets
  intro x0
  clear_value x0
  intro x1
  have kx1 : Kept r x1.1 := by
    unfold x1
    with_reducible apply State.blend_kept
    exact ks
  clear_value x1
  intro x2
  clear_value x2
  intro x3
  have kx3 : Kept r x3 := by
    unfold x3
    cases given
    · try dsimp -zeta only
      apply Kept.ite
      · with_reducible apply State.setCtl_kept
        with_reducible apply State.setXi_kept
        exact kx1
      · exact ks
    · try dsimp -zeta only
      with_reducible apply State.setCtl_kept
      with_reducible apply State.setXi_kept
      exact ks
  clear_value x3
  intro x5
  clear_value x5
  intro x6
  clear_value x6
  intro x7
  clear_value x7
  intro x8
  clear_value x8
  intro x9
  clear_value x9
  intro x10
  have kx10 : Kept r x10 := by
    unfold x10
    apply Kept.ite
    · with_reducible apply State.fillBiquads_kept
      with_reducible apply State.preload_kept
      exact kx3
    · exact kx3
  clear_value x10
  dsimp only
  exact kx10

theorem State.biquad_kept {r : State} (s : State) (a : Nat) (k : Nat) (y : Nat) (x : Int) (ks : Kept r s) : Kept r (State.biquad s a k y x).1 := by
  unfold State.biquad
  lift_lets
  intro x0
  clear_value x0
  intro x1
  clear_value x1
  intro x2
  clear_value x2
  intro x3
  clear_value x3
  intro x4
  clear_value x4
  intro x5
  have kx5 : Kept r x5.1 := by
    unfold x5
    with_reducible apply State.satV_kept
    exact ks
  clear_value x5
  intro x6
  have kx6 : Kept r x6 := by
    unfold x6
    with_reducible apply State.setYi_kept
    with_reducible apply State.setYi_kept
    with_reducible apply State.setYi_kept
    exact kx5
  clear_value x6
  dsimp only
  with_reducible apply State.setYi_kept
  with_reducible apply State.setYi_kept
  with_reducible apply State.setYi_kept
  exact kx6

theorem State.secVEL_kept {r : State} (s : State) (a : Nat) (cmd : Int) (meas : Int) (ks : Kept r s) : Kept r (State.secVEL s a cmd meas) := by
  unfold State.secVEL
  lift_lets
  intro x0
  have kx0 : Kept r x0.1 := by
    unfold x0
    with_reducible apply State.satV_kept
    exact ks
  clear_value x0
  intro x1
  have kx1 : Kept r x1 := by
    unfold x1
    exact kx0
  clear_value x1
  intro x2
  clear_value x2
  intro x3
  clear_value x3
  intro x4
  clear_value x4
  intro x5
  have kx5 : Kept r x5.1 := by
    unfold x5
    with_reducible apply State.satV_kept
    exact kx1
  clear_value x5
  intro x6
  clear_value x6
  intro x7
  have kx7 : Kept r x7.1 := by
    unfold x7
    with_reducible apply State.satV_kept
    exact kx5
  clear_value x7
  intro x8
  clear_value x8
  intro x9
  have kx9 : Kept r x9.1 := by
    unfold x9
    with_reducible apply State.satV_kept
    with_reducible apply State.setXi_kept
    exact kx7
  clear_value x9
  intro x10
  have kx10 : Kept r x10.1 := by
    unfold x10
    with_reducible apply State.satV_kept
    exact kx9
  clear_value x10
  intro x11
  have kx11 : Kept r x11.1 := by
    unfold x11
    with_reducible apply State.biquad_kept
    exact kx10
  clear_value x11
  intro x12
  have kx12 : Kept r x12.1 := by
    unfold x12
    with_reducible apply State.biquad_kept
    exact kx11
  clear_value x12
  intro x13
  have kx13 : Kept r x13.1 := by
    unfold x13
    with_reducible apply State.blend_kept
    exact kx12
  clear_value x13
  intro x14
  clear_value x14
  with_reducible apply State.setCtl_kept
  with_reducible apply State.setXi_kept
  exact kx13

theorem State.secCUR_kept {r : State} (s : State) (a : Nat) (ks : Kept r s) : Kept r (State.secCUR s a) := by
  unfold State.secCUR
  lift_lets
  intro x0
  clear_value x0
  intro x1
  clear_value x1
  intro x2
  clear_value x2
  intro x3
  clear_value x3
  intro x4
  clear_value x4
  intro x5
  clear_value x5
  intro x6
  have kx6 : Kept r x6.1 := by
    unfold x6
    apply Kept.iteP
    · dsimp only
      exact ks
    · with_reducible apply State.satV_kept
      exact ks
  clear_value x6
  intro x7
  have kx7 : Kept r x7 := by
    unfold x7
    exact kx6
  clear_value x7
  intro x8
  clear_value x8
  intro x9
  have kx9 : Kept r x9.1 := by
    unfold x9
    apply Kept.iteP
    · dsimp only
      exact kx7
    · with_reducible apply State.blend_kept
      exact kx7
  clear_value x9
  intro x10
  have kx10 : Kept r x10 := by
    unfold x10
    exact kx9
  clear_value x10
  intro x11
  clear_value x11
  intro x12
  clear_value x12
  intro x13
  clear_value x13
  intro x14
  clear_value x14
  intro x15
  clear_value x15
  intro x16
  clear_value x16
  intro x17
  clear_value x17
  intro x18
  clear_value x18
  intro x19
  have kx19 : Kept r x19 := by
    unfold x19
    apply Kept.ite
    · with_reducible apply State.mflag_kept
      exact kx10
    · exact kx10
  clear_value x19
  intro x20
  clear_value x20
  intro x21
  clear_value x21
  intro x22
  clear_value x22
  intro x23
  clear_value x23
  intro x24
  clear_value x24
  intro x25
  have kx25 : Kept r x25.1 := by
    unfold x25
    with_reducible apply State.satV_kept
    exact kx19
  clear_value x25
  intro x26
  have kx26 : Kept r x26.1 := by
    unfold x26
    with_reducible apply State.satV_kept
    exact kx25
  clear_value x26
  intro x27
  have kx27 : Kept r x27 := by
    unfold x27
    exact kx26
  clear_value x27
  intro x28
  clear_value x28
  intro x29
  clear_value x29
  intro x30
  clear_value x30
  intro x31
  clear_value x31
  intro x32
  clear_value x32
  intro x33
  clear_value x33
  intro x34
  have kx34 : Kept r x34.1 := by
    unfold x34
    with_reducible apply State.satV_kept
    exact kx27
  clear_value x34
  intro x35
  have kx35 : Kept r x35.1 := by
    unfold x35
    with_reducible apply State.satV_kept
    exact kx34
  clear_value x35
  intro x36
  clear_value x36
  with_reducible apply State.setCtl_kept
  with_reducible apply State.setXi_kept
  with_reducible apply State.setXi_kept
  exact kx35

theorem State.setOut_kept {r : State} (s : State) (a : Nat) (l : List Byte) (ks : Kept r s) : Kept r (State.setOut s a l) := by
  unfold State.setOut
  refine Kept.foldl _ ?_ ?_
  · exact ks
  · intro a0
    intro a1
    intro h2
    with_reducible apply State.setXw_kept
    exact h2

theorem State.power_kept {r : State} (s : State) (a : Nat) (vd : Int) (vq : Int) (ks : Kept r s) : Kept r (State.power s a vd vq) := by
  unfold State.power
  lift_lets
  intro x0
  clear_value x0
  intro x1
  clear_value x1
  intro x2
  clear_value x2
  intro x3
  clear_value x3
  intro x4
  have kx4 : Kept r x4 := by
    unfold x4
    with_reducible apply State.setXi_kept
    with_reducible apply State.setXi_kept
    exact ks
  clear_value x4
  with_reducible apply State.setXw_kept
  exact kx4

theorem State.secSVM_kept {r : State} (s : State) (a : Nat) (ks : Kept r s) : Kept r (State.secSVM s a) := by
  unfold State.secSVM
  lift_lets
  intro x0
  have kx0 : Kept r x0 := by
    unfold x0
    with_reducible apply State.lifePass_kept
    exact ks
  clear_value x0
  intro x1
  clear_value x1
  intro x2
  clear_value x2
  intro x3
  clear_value x3
  intro x4
  clear_value x4
  intro x5
  clear_value x5
  intro x6
  clear_value x6
  intro x7
  clear_value x7
  intro x8
  clear_value x8
  intro x9
  clear_value x9
  intro x10
  have kx10 : Kept r x10 := by
    unfold x10
    apply Kept.ite
    · with_reducible apply State.mflag_kept
      with_reducible apply State.draw_kept
      with_reducible apply State.draw_kept
      exact kx0
    · exact kx0
  clear_value x10
  intro x11
  clear_value x11
  intro x12
  clear_value x12
  intro x13
  intro x14
  have kx14 : Kept r x14 := by
    unfold x14
    with_reducible apply State.setOut_kept
    exact kx10
  clear_value x14
  intro x15
  have kx15 : Kept r x15 := by
    unfold x15
    with_reducible apply State.power_kept
    exact kx14
  clear_value x15
  intro x16
  clear_value x16
  intro x17
  clear_value x17
  intro x18
  clear_value x18
  intro x19
  clear_value x19
  intro x20
  clear_value x20
  intro x21
  clear_value x21
  intro x22
  clear_value x22
  intro x23
  clear_value x23
  intro x24
  clear_value x24
  intro x25
  clear_value x25
  intro x26
  intro x27
  have kx27 : Kept r x27 := by
    unfold x27
    with_reducible apply State.setOut_kept
    exact kx10
  clear_value x27
  intro x28
  have kx28 : Kept r x28 := by
    unfold x28
    with_reducible apply State.power_kept
    exact kx27
  clear_value x28
  intro x29
  clear_value x29
  apply Kept.ite
  · with_reducible apply State.setCtl_kept
    exact kx15
  · with_reducible apply State.setCtl_kept
    exact kx28

theorem State.reseed_kept {r : State} (s : State) (a : Nat) (ks : Kept r s) : Kept r (State.reseed s a) := by
  unfold State.reseed
  lift_lets
  intro x0
  clear_value x0
  intro x1
  clear_value x1
  intro x2
  clear_value x2
  intro x3
  clear_value x3
  intro x4
  clear_value x4
  intro x5
  have kx5 : Kept r x5 := by
    unfold x5
    with_reducible apply State.setCst_kept
    apply Kept.ite
    · with_reducible apply State.draw_kept
      exact ks
    · exact ks
  clear_value x5
  intro x6
  clear_value x6
  apply Kept.ite
  · with_reducible apply State.setCtl_kept
    exact kx5
  · exact ks

theorem State.secOBS_kept {r : State} (s : State) (a : Nat) (miss : Bool) (ks : Kept r s) : Kept r (State.secOBS s a miss) := by
  unfold State.secOBS
  lift_lets
  intro x0
  have kx0 : Kept r x0 := by
    unfold x0
    apply Kept.ite
    · exact ks
    · with_reducible apply State.reseed_kept
      exact ks
  clear_value x0
  intro x1
  clear_value x1
  intro x2
  clear_value x2
  intro x3
  clear_value x3
  intro x4
  clear_value x4
  intro x5
  clear_value x5
  intro x6
  clear_value x6
  intro x7
  clear_value x7
  intro x8
  clear_value x8
  intro x9
  clear_value x9
  intro x10
  clear_value x10
  intro x11
  clear_value x11
  intro x12
  clear_value x12
  intro x13
  clear_value x13
  intro x14
  clear_value x14
  intro x15
  clear_value x15
  intro x16
  clear_value x16
  intro x17
  clear_value x17
  intro x18
  clear_value x18
  intro x19
  clear_value x19
  intro x20
  clear_value x20
  intro x21
  clear_value x21
  intro x22
  have kx22 : Kept r x22 := by
    unfold x22
    with_reducible apply State.setCtl_kept
    exact kx0
  clear_value x22
  apply Kept.ite
  · with_reducible apply State.setCtl_kept
    exact kx0
  · with_reducible apply State.setXw_kept
    exact kx22

theorem State.wrBin_kept {r : State} (s : State) (a : Nat) (k : Nat) (v : Int) (ks : Kept r s) : Kept r (State.wrBin s a k v) := by
  unfold State.wrBin
  cases hc0 : s.learnBin a k
  · try dsimp -zeta only
    exact ks
  · try dsimp -zeta only
    with_reducible apply Kept.upd
    exact ks

theorem State.secRPC_kept {r : State} (s : State) (a : Nat) (miss : Bool) (ks : Kept r s) : Kept r (State.secRPC s a miss) := by
  unfold State.secRPC
  lift_lets
  intro x0
  clear_value x0
  intro x1
  clear_value x1
  intro x2
  clear_value x2
  intro x3
  clear_value x3
  intro x4
  clear_value x4
  intro x5
  clear_value x5
  intro x6
  clear_value x6
  intro x7
  clear_value x7
  intro x8
  clear_value x8
  intro x9
  have kx9 : Kept r x9 := by
    unfold x9
    with_reducible apply State.setCtl_kept
    with_reducible apply State.setXi_kept
    exact ks
  clear_value x9
  intro x10
  clear_value x10
  intro x11
  clear_value x11
  intro x12
  clear_value x12
  intro x13
  clear_value x13
  intro x14
  clear_value x14
  intro x15
  clear_value x15
  intro x16
  have kx16 : Kept r x16 := by
    unfold x16
    apply Kept.ite
    · exact kx9
    · with_reducible apply State.mflag_kept
      exact kx9
  clear_value x16
  intro x17
  have kx17 : Kept r x17 := by
    unfold x17
    apply Kept.ite
    · with_reducible apply State.wrBin_kept
      exact kx16
    · exact kx9
  clear_value x17
  intro x18
  clear_value x18
  intro x19
  clear_value x19
  intro x20
  have kx20 : Kept r x20 := by
    unfold x20
    apply Kept.ite
    · exact kx17
    · with_reducible apply State.mflag_kept
      exact kx17
  clear_value x20
  apply Kept.ite
  · with_reducible apply State.setXi_kept
    exact kx9
  · apply Kept.ite
    · with_reducible apply State.setXi_kept
      exact kx20
    · with_reducible apply State.setXi_kept
      exact kx17

theorem State.secOFFO_kept {r : State} (s : State) (a : Nat) (ks : Kept r s) : Kept r (State.secOFFO s a) := by
  unfold State.secOFFO
  lift_lets
  intro x0
  clear_value x0
  intro x1
  have kx1 : Kept r x1 := by
    unfold x1
    with_reducible apply State.setOut_kept
    exact ks
  clear_value x1
  intro x2
  have kx2 : Kept r x2 := by
    unfold x2
    with_reducible apply State.setXi_kept
    exact kx1
  clear_value x2
  intro x3
  have kx3 : Kept r x3 := by
    unfold x3
    with_reducible apply State.setXw_kept
    exact kx2
  clear_value x3
  intro x4
  clear_value x4
  with_reducible apply State.setCtl_kept
  exact kx3

theorem State.secFBK_kept {r : State} (s : State) (a : Nat) (ks : Kept r s) : Kept r (State.secFBK s a) := by
  unfold State.secFBK
  lift_lets
  intro x0
  clear_value x0
  intro x1
  clear_value x1
  intro x2
  clear_value x2
  intro x3
  clear_value x3
  intro x4
  clear_value x4
  intro x5
  have kx5 : Kept r x5.1 := by
    unfold x5
    with_reducible apply State.satV_kept
    exact ks
  clear_value x5
  intro x6
  clear_value x6
  intro x7
  have kx7 : Kept r x7.1 := by
    unfold x7
    apply Kept.iteP
    · dsimp only
      with_reducible apply State.setXi_kept
      exact kx5
    · exact kx5
  clear_value x7
  intro x8
  clear_value x8
  intro x9
  clear_value x9
  intro x10
  clear_value x10
  intro x11
  clear_value x11
  apply Kept.ite
  · with_reducible apply State.setXi_kept
    exact ks
  · with_reducible apply State.setCtl_kept
    with_reducible apply State.setXi_kept
    with_reducible apply State.setXi_kept
    exact kx7

end Sys2Proof.Machine
end

