-- ==== Sys2Proof/Laws/KeptNet.lean ====
section
/-! SUPPORT. What the operations of Machine/Net.lean keep (see Laws/Kept.lean). -/

namespace Sys2Proof.Machine

open Sys2Proof

theorem State.boomSeen_kept {r : State} (s : State) (addr : Nat) (closed : Bool) (ks : Kept r s) : Kept r (State.boomSeen s addr closed) := by
  unfold State.boomSeen
  cases hc0 : s.opOn 48 addr
  · try dsimp -zeta only
    exact ks
  · try dsimp -zeta only
    apply Kept.ite
    · with_reducible apply State.endOp_kept
      exact ks
    · exact ks

theorem State.admitBerth_kept {r : State} (s : State) (p : Nat) (addr : Nat) (f : RxFrame) (ks : Kept r s) : Kept r (State.admitBerth s p addr f) := by
  unfold State.admitBerth
  lift_lets
  intro x0
  clear_value x0
  intro x1
  clear_value x1
  intro x2
  clear_value x2
  intro x3
  clear_value x3
  intro x4
  clear_value x4
  intro x5
  clear_value x5
  intro x6
  have kx6 : Kept r x6 := by
    unfold x6
    with_reducible apply State.setNode_kept
    exact ks
  clear_value x6
  intro x7
  have kx7 : Kept r x7 := by
    unfold x7
    apply Kept.ite
    · with_reducible apply State.countNodes_kept
      with_reducible apply State.raise_kept
      exact kx6
    · exact kx6
  clear_value x7
  intro x8
  have kx8 : Kept r x8 := by
    unfold x8
    with_reducible apply State.clrFlag_kept
    exact kx7
  clear_value x8
  intro x9
  have kx9 : Kept r x9 := by
    unfold x9
    with_reducible apply State.clrFlag_kept
    exact kx8
  clear_value x9
  intro x10
  have kx10 : Kept r x10 := by
    unfold x10
    apply Kept.ite
    · with_reducible apply State.cartChunk_kept
      with_reducible apply State.boomSeen_kept
      exact kx9
    · exact kx9
  clear_value x10
  intro x11
  clear_value x11
  intro x12
  clear_value x12
  refine Kept.foldl _ ?_ ?_
  · exact kx10
  · intro a13
    intro a14
    intro h15
    apply Kept.ite
    · with_reducible apply State.fbRemote_kept
      exact h15
    · exact h15

theorem State.admitDev_kept {r : State} (s : State) (p : Nat) (addr : Nat) (e : Int) (ks : Kept r s) : Kept r (State.admitDev s p addr e) := by
  unfold State.admitDev
  lift_lets
  intro x0
  have kx0 : Kept r x0 := by
    unfold x0
    with_reducible apply State.setFld_kept
    exact ks
  clear_value x0
  with_reducible apply State.updNode_kept
  exact kx0

theorem State.grdFlag_kept {r : State} (s : State) (p : Nat) (n : Nat) (pos : Nat) (ks : Kept r s) : Kept r (State.grdFlag s p n pos) := by
  unfold State.grdFlag
  with_reducible apply State.raise_kept
  with_reducible apply State.setFlag_kept
  exact ks

theorem State.sendGrant_kept {r : State} (s : State) (addr : Nat) (ks : Kept r s) : Kept r (State.sendGrant s addr) := by
  unfold State.sendGrant
  with_reducible apply State.updNode_kept
  exact ks

theorem State.placeJoiner_kept {r : State} (s : State) (b : Nat) (pos : Nat) (tail : Bool) (uid : Nat) (join : List Byte) (dEst : Int) (bare : Bool) (ks : Kept r s) : Kept r (State.placeJoiner s b pos tail uid join dEst bare) := by
  unfold State.placeJoiner
  lift_lets
  intro x0
  clear_value x0
  intro x1
  clear_value x1
  intro x2
  clear_value x2
  intro x3
  clear_value x3
  intro x4
  clear_value x4
  intro x5
  clear_value x5
  intro x6
  clear_value x6
  intro x7
  clear_value x7
  intro x8
  have kx8 : Kept r x8 := by
    unfold x8
    with_reducible apply Kept.upd
    exact ks
  clear_value x8
  intro x9
  clear_value x9
  intro x10
  have kx10 : Kept r x10 := by
    unfold x10
    with_reducible apply Kept.upd
    exact ks
  clear_value x10
  cases x2
  · try dsimp -zeta only
    with_reducible apply State.grdFlag_kept
    exact kx10
  · try dsimp -zeta only
    lift_lets
    intro x12
    clear_value x12
    try dsimp -zeta only
    lift_lets
    intro x13
    clear_value x13
    with_reducible apply State.countNodes_kept
    with_reducible apply State.sendGrant_kept
    with_reducible apply State.setNode_kept
    exact kx8

theorem State.classifyJoin_kept {r : State} (s : State) (b : Nat) (tail : Bool) (pos : Nat) (uid : Nat) (join : List Byte) (dEst : Int) (ks : Kept r s) : Kept r (State.classifyJoin s b tail pos uid join dEst) := by
  unfold State.classifyJoin
  lift_lets
  intro x0
  clear_value x0
  intro x1
  have kx1 : Kept r x1 := by
    unfold x1
    with_reducible apply State.grdFlag_kept
    exact ks
  clear_value x1
  intro x2
  clear_value x2
  intro x3
  clear_value x3
  intro x4
  clear_value x4
  cases hc5 : List.find? (fun e => e.snd.uid == uid && e.snd.state != 0) s.net.nodes
  · try dsimp -zeta only
    cases hc6 : List.find? (fun e => e.fst % 256 == pos && s.occupantGone e.snd) x0
    · try dsimp -zeta only
      apply Kept.ite
      · with_reducible apply State.grdFlag_kept
        exact ks
      · with_reducible apply State.placeJoiner_kept
        exact ks
    · try dsimp -zeta only
      apply Kept.ite
      · with_reducible apply State.countNodes_kept
        with_reducible apply State.sendGrant_kept
        with_reducible apply State.setNode_kept
        exact kx1
      · with_reducible apply State.placeJoiner_kept
        exact kx1
  · try dsimp -zeta only
    apply Kept.ite
    · with_reducible apply State.grdFlag_kept
      exact ks
    · apply Kept.ite
      · with_reducible apply State.updNode_kept
        exact ks
      · with_reducible apply State.countNodes_kept
        with_reducible apply State.sendGrant_kept
        with_reducible apply State.updNode_kept
        exact ks

theorem State.releaseHeld_kept {r : State} (s : State) (ks : Kept r s) : Kept r (State.releaseHeld s) := by
  unfold State.releaseHeld
  lift_lets
  intro x0
  clear_value x0
  intro x1
  clear_value x1
  intro x2
  have kx2 : Kept r x2 := by
    unfold x2
    with_reducible apply State.clrFlag_kept
    with_reducible apply Kept.upd
    exact ks
  clear_value x2
  refine Kept.foldl _ ?_ ?_
  · exact kx2
  · intro a3
    intro a4
    intro h5
    with_reducible apply State.classifyJoin_kept
    exact h5

theorem State.queueBlock_kept {r : State} (s : State) (o : NetOp) (msg : Nat) (param : Nat) (body : List Byte) (ks : Kept r s) : Kept r (State.queueBlock s o msg param body) := by
  unfold State.queueBlock
  apply Kept.ite
  · with_reducible apply State.queueTo_kept
    exact ks
  · lift_lets
    intro x0
    clear_value x0
    with_reducible apply State.draw_kept
    with_reducible apply State.queueDyns_kept
    exact ks

theorem State.pumpOne_kept {r : State} (s : State) (o : NetOp) (ks : Kept r s) : Kept r (State.pumpOne s o) := by
  unfold State.pumpOne
  apply Kept.ite
  · lift_lets
    intro x0
    clear_value x0
    intro x1
    clear_value x1
    intro x2
    clear_value x2
    intro x3
    clear_value x3
    with_reducible apply State.updOp_kept
    with_reducible apply State.queueBlock_kept
    exact ks
  · apply Kept.ite
    · lift_lets
      intro x4
      clear_value x4
      with_reducible apply State.updOp_kept
      with_reducible apply State.queueBlock_kept
      exact ks
    · exact ks

theorem State.pumpOp_kept {r : State} (s : State) (addr : Nat) (ks : Kept r s) : Kept r (State.pumpOp s addr) := by
  unfold State.pumpOp
  refine Kept.foldl _ ?_ ?_
  · exact ks
  · intro a0
    intro a1
    intro h2
    cases hc3 : a0.transferOf addr
    · try dsimp -zeta only
      exact h2
    · try dsimp -zeta only
      with_reducible apply State.pumpOne_kept
      exact h2

theorem State.isolate_kept {r : State} (s : State) (addr : Nat) (ks : Kept r s) : Kept r (State.isolate s addr) := by
  unfold State.isolate
  lift_lets
  intro x0
  clear_value x0
  intro x1
  clear_value x1
  intro x2
  clear_value x2
  intro x3
  clear_value x3
  intro x4
  clear_value x4
  intro x5
  clear_value x5
  intro x6
  have kx6 : Kept r x6 := by
    unfold x6
    cases hc7 : if x1.tail = Bool.true then x4.head? else x4.getLast?
    · try dsimp -zeta only
      with_reducible apply Kept.upd
      exact ks
    · try dsimp -zeta only
      with_reducible apply State.queueBoom_kept
      exact ks
  clear_value x6
  intro x8
  clear_value x8
  intro x9
  have kx9 : Kept r x9 := by
    unfold x9
    refine Kept.foldl _ ?_ ?_
    · exact kx6
    · intro a10
      intro a11
      intro h12
      with_reducible apply State.setFlag_kept
      with_reducible apply State.updNode_kept
      exact h12
  clear_value x9
  intro x13
  have kx13 : Kept r x13 := by
    unfold x13
    with_reducible apply State.raise_kept
    with_reducible apply State.grdFlag_kept
    exact kx9
  clear_value x13
  intro x14
  clear_value x14
  intro x15
  clear_value x15
  apply Kept.ite
  · with_reducible apply Kept.upd
    exact kx13
  · exact kx13

theorem State.attribute_kept {r : State} (s : State) (p : Nat) (addr : Nat) (ks : Kept r s) : Kept r (State.attribute s p addr) := by
  unfold State.attribute
  lift_lets
  intro x0
  clear_value x0
  intro x1
  clear_value x1
  intro x2
  clear_value x2
  intro x3
  clear_value x3
  intro x4
  have kx4 : Kept r x4 := by
    unfold x4
    with_reducible apply State.setNode_kept
    exact ks
  clear_value x4
  intro x5
  have kx5 : Kept r x5 := by
    unfold x5
    with_reducible apply State.grdFlag_kept
    exact kx4
  clear_value x5
  apply Kept.ite
  · apply Kept.ite
    · with_reducible apply State.isolate_kept
      exact kx5
    · exact kx5
  · exact kx4

theorem State.useBerth_kept {r : State} (s : State) (p : Nat) (addr : Nat) (f : RxFrame) (ks : Kept r s) : Kept r (State.useBerth s p addr f) := by
  unfold State.useBerth
  lift_lets
  intro x0
  clear_value x0
  intro x1
  clear_value x1
  apply Kept.ite
  · exact ks
  · with_reducible apply State.admitBerth_kept
    with_reducible apply Kept.upd
    exact ks

theorem State.useTails_kept {r : State} (s : State) (keep : Nat → RxFrame → Bool) (ks : Kept r s) : Kept r (State.useTails s keep) := by
  unfold State.useTails
  lift_lets
  intro x0
  clear_value x0
  intro x1
  clear_value x1
  refine Kept.foldl _ ?_ ?_
  · with_reducible apply Kept.upd
    exact ks
  · intro a2
    intro a3
    intro h4
    with_reducible apply State.useBerth_kept
    exact h4

theorem State.cut_kept {r : State} (s : State) (p : Nat) (rule : Nat) (idx : Nat) (seg : Nat) (dev : Int) (srcAddr : Nat) (planned : Option Nat) (own : Bool) (ks : Kept r s) : Kept r (State.cut s p rule idx seg dev srcAddr planned own) := by
  unfold State.cut
  lift_lets
  intro x0
  clear_value x0
  intro x1
  clear_value x1
  intro x2
  have kx2 : Kept r x2 := by
    unfold x2
    with_reducible apply State.incFld_kept
    exact ks
  clear_value x2
  intro x3
  have kx3 : Kept r x3 := by
    unfold x3
    with_reducible apply State.setRg_kept
    exact kx2
  clear_value x3
  intro x4
  have kx4 : Kept r x4 := by
    unfold x4
    with_reducible apply State.setFld_kept
    exact kx3
  clear_value x4
  intro x5
  have kx5 : Kept r x5 := by
    unfold x5
    with_reducible apply State.grdFlag_kept
    exact kx4
  clear_value x5
  cases x0
  · try dsimp -zeta only
    exact kx5
  · try dsimp -zeta only
    lift_lets
    intro x7
    have kx7 : Kept r x7 := by
      unfold x7
      apply Kept.ite
      · with_reducible apply State.updNode_kept
        exact kx5
      · exact kx5
    clear_value x7
    with_reducible apply State.attribute_kept
    exact kx7

theorem State.useAllTails_kept {r : State} (s : State) (ks : Kept r s) : Kept r (State.useAllTails s) := by
  unfold State.useAllTails
  with_reducible apply State.useTails_kept
  exact ks

theorem State.judgeFirst_kept {r : State} (s : State) (ks : Kept r s) : Kept r (State.judgeFirst s) := by
  unfold State.judgeFirst
  refine Kept.foldl _ ?_ ?_
  · with_reducible apply Kept.upd
    exact ks
  · intro a0
    intro a1
    intro h2
    with_reducible apply State.updNode_kept
    exact h2

theorem State.echoMissed_kept {r : State} (s : State) (addr : Nat) (ks : Kept r s) : Kept r (State.echoMissed s addr) := by
  unfold State.echoMissed
  lift_lets
  intro x0
  clear_value x0
  intro x1
  clear_value x1
  intro x2
  clear_value x2
  intro x3
  have kx3 : Kept r x3 := by
    unfold x3
    with_reducible apply State.setNode_kept
    exact ks
  clear_value x3
  apply Kept.ite
  · with_reducible apply State.raise_kept
    with_reducible apply State.setFlag_kept
    exact kx3
  · exact kx3

theorem State.dataAck_kept {r : State} (s : State) (addr : Nat) (pl : List Byte) (ks : Kept r s) : Kept r (State.dataAck s addr pl) := by
  unfold State.dataAck
  lift_lets
  intro x0
  clear_value x0
  intro x1
  clear_value x1
  cases hc2 : s.transferOf addr
  · try dsimp -zeta only
    exact ks
  · try dsimp -zeta only
    lift_lets
    intro x3
    clear_value x3
    intro x4
    clear_value x4
    intro x5
    have kx5 : Kept r x5 := by
      unfold x5
      with_reducible apply State.updOp_kept
      exact ks
    clear_value x5
    intro x6
    clear_value x6
    apply Kept.ite
    · with_reducible apply State.endOp_kept
      exact ks
    · apply Kept.ite
      · with_reducible apply State.endOp_kept
        exact ks
      · apply Kept.ite
        · exact ks
        · apply Kept.ite
          · with_reducible apply State.endOp_kept
            exact kx5
          · with_reducible apply State.pumpOp_kept
            exact kx5

theorem State.setReasm_kept {r : State} (s : State) (key : Nat) (x : Reasm) (ks : Kept r s) : Kept r (State.setReasm s key x) := by
  unfold State.setReasm
  with_reducible apply Kept.upd
  exact ks

theorem State.dropReasm_kept {r : State} (s : State) (key : Nat) (ks : Kept r s) : Kept r (State.dropReasm s key) := by
  unfold State.dropReasm
  with_reducible apply State.incFld_kept
  with_reducible apply State.setReasm_kept
  exact ks

theorem State.echoRsp_kept {r : State} (s : State) (addr : Nat) (t4 : Int) (pl : List Byte) (ks : Kept r s) : Kept r (State.echoRsp s addr t4 pl) := by
  unfold State.echoRsp
  lift_lets
  intro x0
  clear_value x0
  intro x1
  clear_value x1
  intro x2
  clear_value x2
  cases hc3 : List.find? (fun e => e.no % 65536 == Sys2Proof.Machine.leAt pl 2 2) x0.echoOut
  · try dsimp -zeta only
    exact ks
  · try dsimp -zeta only
    lift_lets
    intro x4
    clear_value x4
    intro x5
    clear_value x5
    intro x6
    clear_value x6
    intro x7
    clear_value x7
    intro x8
    clear_value x8
    intro x9
    clear_value x9
    intro x10
    clear_value x10
    intro x11
    clear_value x11
    intro x12
    have kx12 : Kept r x12 := by
      unfold x12
      with_reducible apply State.setNode_kept
      exact ks
    clear_value x12
    apply Kept.ite
    · with_reducible apply State.raise_kept
      with_reducible apply State.setFlag_kept
      exact kx12
    · exact kx12

theorem State.joinReq_kept {r : State} (s : State) (p : Nat) (f : RxFrame) (ks : Kept r s) : Kept r (State.joinReq s p f) := by
  unfold State.joinReq
  lift_lets
  intro x0
  clear_value x0
  intro x1
  clear_value x1
  intro x2
  clear_value x2
  intro x3
  clear_value x3
  intro x4
  clear_value x4
  intro x5
  clear_value x5
  intro x6
  clear_value x6
  intro x7
  clear_value x7
  intro x8
  clear_value x8
  intro x9
  clear_value x9
  intro x10
  clear_value x10
  intro x11
  clear_value x11
  intro x12
  clear_value x12
  intro x13
  clear_value x13
  intro x14
  clear_value x14
  intro x15
  clear_value x15
  intro x16
  clear_value x16
  apply Kept.ite
  · exact ks
  · apply Kept.ite
    · with_reducible apply State.setFlag_kept
      with_reducible apply Kept.upd
      exact ks
    · with_reducible apply State.classifyJoin_kept
      exact ks

theorem State.nodeInfo_kept {r : State} (s : State) (addr : Nat) (pl : List Byte) (ks : Kept r s) : Kept r (State.nodeInfo s addr pl) := by
  unfold State.nodeInfo
  cases hc0 : s.opOn 49 addr
  · try dsimp -zeta only
    exact ks
  · try dsimp -zeta only
    lift_lets
    intro x1
    clear_value x1
    with_reducible apply State.endOp_kept
    with_reducible apply State.emit_kept
    exact ks

theorem State.tailsBefore_kept {r : State} (s : State) (t : Int) (ks : Kept r s) : Kept r (State.tailsBefore s t) := by
  unfold State.tailsBefore
  with_reducible apply State.useTails_kept
  exact ks

theorem State.refuse_kept {r : State} (s : State) (addr : Nat) (ks : Kept r s) : Kept r (State.refuse s addr) := by
  unfold State.refuse
  with_reducible apply Kept.upd
  exact ks

theorem State.refuseAt_kept {r : State} (s : State) (addr : Option Nat) (ks : Kept r s) : Kept r (State.refuseAt s addr) := by
  unfold State.refuseAt
  cases addr
  · try dsimp -zeta only
    exact ks
  · try dsimp -zeta only
    with_reducible apply State.refuse_kept
    exact ks

theorem State.rxCount_kept {r : State} (s : State) (p : Nat) (off : Nat) (flag : Nat) (ks : Kept r s) : Kept r (State.rxCount s p off flag) := by
  unfold State.rxCount
  with_reducible apply State.setFlag_kept
  with_reducible apply State.incFld_kept
  exact ks

theorem State.tunnelUp_kept {r : State} (s : State) (addr : Nat) (frame : List Byte) (ks : Kept r s) : Kept r (State.tunnelUp s addr frame) := by
  unfold State.tunnelUp
  lift_lets
  intro x0
  clear_value x0
  apply Kept.ite
  · refine Kept.foldl _ ?_ ?_
    · exact ks
    · intro a1
      intro a2
      intro h3
      with_reducible apply State.pushRing_kept
      exact h3
  · with_reducible apply State.loseRing_kept
    exact ks

theorem State.tunnelFrag_kept {r : State} (s : State) (addr : Nat) (pl : List Byte) (ks : Kept r s) : Kept r (State.tunnelFrag s addr pl) := by
  unfold State.tunnelFrag
  lift_lets
  intro x0
  clear_value x0
  intro x1
  clear_value x1
  intro x2
  clear_value x2
  intro x3
  clear_value x3
  intro x4
  clear_value x4
  intro x5
  clear_value x5
  intro x6
  clear_value x6
  intro x7
  clear_value x7
  intro x8
  clear_value x8
  apply Kept.ite
  · exact ks
  · apply Kept.ite
    · with_reducible apply State.dropReasm_kept
      exact ks
    · apply Kept.ite
      · with_reducible apply State.tunnelUp_kept
        with_reducible apply State.setReasm_kept
        exact ks
      · with_reducible apply State.setReasm_kept
        exact ks

theorem State.rxMsg_kept {r : State} (s : State) (p : Nat) (f : RxFrame) (ks : Kept r s) : Kept r (State.rxMsg s p f) := by
  unfold State.rxMsg
  lift_lets
  intro x0
  clear_value x0
  intro x1
  clear_value x1
  intro x2
  clear_value x2
  intro x3
  clear_value x3
  intro x4
  clear_value x4
  apply Kept.ite
  · exact ks
  · split
    · with_reducible apply State.joinReq_kept
      exact ks
    · with_reducible apply State.dataAck_kept
      exact ks
    · with_reducible apply State.echoRsp_kept
      exact ks
    · with_reducible apply State.cartMsg_kept
      exact ks
    · with_reducible apply State.tunnelFrag_kept
      exact ks
    · with_reducible apply State.nodeInfo_kept
      exact ks
    · with_reducible apply State.rxCount_kept
      exact ks

theorem State.rxValid_kept {r : State} (s : State) (p : Nat) (ks : Kept r s) : Kept r (State.rxValid s p) := by
  unfold State.rxValid
  lift_lets
  intro x0
  have kx0 : Kept r x0 := by
    unfold x0
    with_reducible apply State.incFld_kept
    exact ks
  intro x1
  clear_value x1
  intro x2
  have kx2 : Kept r x2 := by
    unfold x2
    with_reducible apply Kept.upd
    exact kx0
  apply Kept.ite
  · with_reducible apply State.raise_kept
    with_reducible apply State.setFld_kept
    exact kx2
  · exact kx2

theorem State.rxDynamic_kept {r : State} (s : State) (p : Nat) (f : RxFrame) (ks : Kept r s) : Kept r (State.rxDynamic s p f) := by
  unfold State.rxDynamic
  lift_lets
  intro x0
  clear_value x0
  intro x1
  clear_value x1
  intro x2
  clear_value x2
  intro x3
  clear_value x3
  intro x4
  clear_value x4
  intro x5
  clear_value x5
  intro x6
  clear_value x6
  intro x7
  clear_value x7
  intro x8
  clear_value x8
  intro x9
  intro x10
  clear_value x10
  apply Kept.ite
  · with_reducible apply State.cut_kept
    exact ks
  · apply Kept.ite
    · apply Kept.ite
      · with_reducible apply State.cut_kept
        exact ks
      · apply Kept.ite
        · with_reducible apply State.cut_kept
          exact ks
        · unfold x9
          split
          · with_reducible apply State.rxCount_kept
            with_reducible apply Kept.upd
            exact ks
          · with_reducible apply State.rxMsg_kept
            with_reducible apply State.rxValid_kept
            with_reducible apply Kept.upd
            exact ks
    · cases x8
      · try dsimp -zeta only
        apply Kept.ite
        · with_reducible apply State.cut_kept
          exact ks
        · with_reducible apply State.cut_kept
          exact ks
      · try dsimp -zeta only
        lift_lets
        intro x13
        clear_value x13
        intro x14
        clear_value x14
        intro x15
        clear_value x15
        intro x16
        clear_value x16
        intro x17
        have kx17 : Kept r x17 := by
          unfold x17
          with_reducible apply Kept.upd
          exact ks
        clear_value x17
        apply Kept.ite
        · with_reducible apply State.cut_kept
          exact ks
        · apply Kept.ite
          · with_reducible apply State.cut_kept
            exact ks
          · apply Kept.ite
            · with_reducible apply State.cut_kept
              exact ks
            · apply Kept.ite
              · with_reducible apply State.cut_kept
                exact ks
              · unfold x9
                split
                · with_reducible apply State.rxCount_kept
                  apply Kept.ite
                  · with_reducible apply State.admitDev_kept
                    exact kx17
                  · exact kx17
                · with_reducible apply State.rxMsg_kept
                  with_reducible apply State.rxValid_kept
                  apply Kept.ite
                  · with_reducible apply State.admitDev_kept
                    exact kx17
                  · exact kx17

theorem State.rxShadow_kept {r : State} (s : State) (p : Nat) (f : RxFrame) (ks : Kept r s) : Kept r (State.rxShadow s p f) := by
  unfold State.rxShadow
  lift_lets
  intro x0
  clear_value x0
  intro x1
  clear_value x1
  intro x2
  clear_value x2
  intro x3
  clear_value x3
  intro x4
  clear_value x4
  intro x5
  have kx5 : Kept r x5 := by
    unfold x5
    with_reducible apply State.updNode_kept
    with_reducible apply State.rxValid_kept
    exact ks
  clear_value x5
  intro x6
  clear_value x6
  intro x7
  clear_value x7
  apply Kept.ite
  · exact ks
  · cases hc8 : s.starCheck f Bool.true
    · try dsimp -zeta only
      apply Kept.ite
      · exact kx5
      · with_reducible apply State.admitBerth_kept
        with_reducible apply Kept.upd
        exact kx5
    · try dsimp -zeta only
      with_reducible apply State.rxCount_kept
      exact ks

theorem State.takeCopy_kept {r : State} (s : State) (p : Nat) (addr : Nat) (f : RxFrame) (ks : Kept r s) : Kept r (State.takeCopy s p addr f) := by
  unfold State.takeCopy
  apply Kept.ite
  · with_reducible apply Kept.upd
    exact ks
  · with_reducible apply State.useBerth_kept
    exact ks

theorem State.rxStatic_kept {r : State} (s : State) (p : Nat) (f : RxFrame) (ks : Kept r s) : Kept r (State.rxStatic s p f) := by
  unfold State.rxStatic
  lift_lets
  intro x0
  clear_value x0
  intro x1
  clear_value x1
  intro x2
  clear_value x2
  intro x3
  clear_value x3
  intro x4
  clear_value x4
  intro x5
  have kx5 : Kept r x5 := by
    unfold x5
    with_reducible apply State.refuseAt_kept
    exact ks
  clear_value x5
  apply Kept.ite
  · with_reducible apply State.cut_kept
    exact kx5
  · apply Kept.ite
    · with_reducible apply State.cut_kept
      exact kx5
    · apply Kept.ite
      · with_reducible apply State.cut_kept
        exact kx5
      · apply Kept.ite
        · with_reducible apply State.cut_kept
          exact kx5
        · cases hc6 : s.starCheck f Bool.true
          · try dsimp -zeta only
            with_reducible apply State.takeCopy_kept
            with_reducible apply State.admitDev_kept
            with_reducible apply State.rxValid_kept
            exact ks
          · try dsimp -zeta only
            with_reducible apply State.rxCount_kept
            exact kx5

theorem State.rxUplink_kept {r : State} (s : State) (p : Nat) (f : RxFrame) (ks : Kept r s) : Kept r (State.rxUplink s p f) := by
  unfold State.rxUplink
  lift_lets
  intro x0
  have kx0 : Kept r x0 := by
    unfold x0
    with_reducible apply State.tailsBefore_kept
    exact ks
  clear_value x0
  intro x1
  clear_value x1
  intro x2
  clear_value x2
  apply Kept.ite
  · exact kx0
  · apply Kept.ite
    · exact kx0
    · apply Kept.ite
      · apply Kept.ite
        · with_reducible apply State.rxShadow_kept
          exact kx0
        · exact kx0
      · apply Kept.ite
        · with_reducible apply State.rxStatic_kept
          exact kx0
        · with_reducible apply State.rxDynamic_kept
          exact kx0

end Sys2Proof.Machine
end

