-- ==== Sys2Proof/Laws/KeptPass.lean ====
section
/-! SUPPORT. What the operations of Machine/Pass.lean keep (see Laws/Kept.lean). -/

namespace Sys2Proof.Machine

open Sys2Proof

theorem State.adoptState_kept {r : State} (s : State) (a : Nat) (c : BitVec 32) (ks : Kept r s) : Kept r (State.adoptState s a c) := by
  unfold State.adoptState
  apply Kept.ite
  · exact ks
  · lift_lets
    intro x0
    clear_value x0
    intro x1
    clear_value x1
    intro x2
    clear_value x2
    intro x3
    clear_value x3
    intro x4
    have kx4 : Kept r x4 := by
      unfold x4
      with_reducible apply Kept.upd
      exact ks
    clear_value x4
    intro x5
    clear_value x5
    cases hc6 : Sys2Proof.Machine.Tab.get [] s.helm.rxState a
    · try dsimp -zeta only
      with_reducible apply State.raise_kept
      with_reducible apply State.incFld_kept
      exact ks
    · try dsimp -zeta only
      split
      · lift_lets
        intro x7
        clear_value x7
        intro x8
        have kx8 : Kept r x8 := by
          unfold x8
          apply Kept.ite
          · with_reducible apply Kept.upd
            exact kx4
          · exact kx4
        clear_value x8
        apply Kept.ite
        · refine Kept.foldl _ ?_ ?_
          · exact kx8
          · intro a9
            intro a10
            intro h11
            with_reducible apply State.setXw_kept
            exact h11
        · with_reducible apply State.raise_kept
          with_reducible apply State.incFld_kept
          exact kx4
      · with_reducible apply State.raise_kept
        with_reducible apply State.incFld_kept
        exact ks

theorem State.startFailed_kept {r : State} (s : State) (a : Nat) (ks : Kept r s) : Kept r (State.startFailed s a) := by
  unfold State.startFailed
  lift_lets
  intro x0
  clear_value x0
  intro x1
  clear_value x1
  intro x2
  have kx2 : Kept r x2 := by
    unfold x2
    with_reducible apply State.setCtl_kept
    with_reducible apply State.setCst_kept
    exact ks
  clear_value x2
  cases hc3 : x0.startCmd
  · try dsimp -zeta only
    exact kx2
  · try dsimp -zeta only
    with_reducible apply State.complete_kept
    exact kx2

theorem State.startOk_kept {r : State} (s : State) (a : Nat) (ks : Kept r s) : Kept r (State.startOk s a) := by
  unfold State.startOk
  lift_lets
  intro x0
  clear_value x0
  intro x1
  have kx1 : Kept r x1 := by
    unfold x1
    with_reducible apply State.setCtl_kept
    exact ks
  clear_value x1
  cases hc2 : x0.startCmd
  · try dsimp -zeta only
    exact kx1
  · try dsimp -zeta only
    with_reducible apply State.complete_kept
    exact kx1

theorem State.toForced_kept {r : State} (s : State) (a : Nat) (th0 : Int) (ks : Kept r s) : Kept r (State.toForced s a th0) := by
  unfold State.toForced
  lift_lets
  intro x0
  have kx0 : Kept r x0 := by
    unfold x0
    with_reducible apply State.request_kept
    with_reducible apply State.setCst_kept
    exact ks
  clear_value x0
  intro x1
  clear_value x1
  with_reducible apply State.setCtl_kept
  exact kx0

theorem State.toProbe_kept {r : State} (s : State) (a : Nat) (ks : Kept r s) : Kept r (State.toProbe s a) := by
  unfold State.toProbe
  apply Kept.ite
  · lift_lets
    intro x0
    have kx0 : Kept r x0 := by
      unfold x0
      with_reducible apply State.request_kept
      with_reducible apply State.setCst_kept
      exact ks
    clear_value x0
    intro x1
    clear_value x1
    with_reducible apply State.setCtl_kept
    exact kx0
  · with_reducible apply State.toForced_kept
    exact ks

theorem State.laneErr_kept {r : State} (s : State) (l : Nat) (a : Nat) (e : LaneErr) (ks : Kept r s) : Kept r (State.laneErr s l a e) := by
  unfold State.laneErr
  lift_lets
  intro x0
  clear_value x0
  intro x1
  clear_value x1
  intro x2
  clear_value x2
  intro x3
  have kx3 : Kept r x3 := by
    unfold x3
    with_reducible apply State.incFld_kept
    with_reducible apply State.setLane_kept
    exact ks
  clear_value x3
  apply Kept.ite
  · with_reducible apply State.raise_kept
    with_reducible apply State.axFlag_kept
    with_reducible apply State.laneFlag_kept
    exact kx3
  · with_reducible apply State.raise_kept
    with_reducible apply State.laneFlag_kept
    with_reducible apply State.incFld_kept
    exact ks

theorem State.enterRamp_kept {r : State} (s : State) (a : Nat) (ks : Kept r s) : Kept r (State.enterRamp s a) := by
  unfold State.enterRamp
  lift_lets
  intro x0
  have kx0 : Kept r x0 := by
    unfold x0
    with_reducible apply State.setCst_kept
    with_reducible apply State.setXi_kept
    with_reducible apply State.setXi_kept
    with_reducible apply State.setXi_kept
    exact ks
  clear_value x0
  intro x1
  clear_value x1
  apply Kept.ite
  · with_reducible apply State.startOk_kept
    exact kx0
  · with_reducible apply State.setCtl_kept
    exact kx0

theorem State.coastStep_kept {r : State} (s : State) (a : Nat) (ks : Kept r s) : Kept r (State.coastStep s a) := by
  unfold State.coastStep
  lift_lets
  intro x0
  clear_value x0
  intro x1
  clear_value x1
  intro x2
  clear_value x2
  intro x3
  have kx3 : Kept r x3 := by
    unfold x3
    with_reducible apply State.setCtl_kept
    exact ks
  clear_value x3
  apply Kept.ite
  · with_reducible apply State.commFlag_kept
    with_reducible apply State.setCtl_kept
    exact ks
  · apply Kept.ite
    · apply Kept.ite
      · with_reducible apply State.enterRamp_kept
        exact kx3
      · apply Kept.ite
        · with_reducible apply State.setXi_kept
          with_reducible apply State.setXi_kept
          with_reducible apply State.setXi_kept
          exact kx3
        · exact kx3
    · exact ks

theorem State.brakeHalt_kept {r : State} (s : State) (a : Nat) (ks : Kept r s) : Kept r (State.brakeHalt s a) := by
  unfold State.brakeHalt
  lift_lets
  intro x0
  have kx0 : Kept r x0 := by
    unfold x0
    with_reducible apply State.request_kept
    with_reducible apply State.setXi_kept
    with_reducible apply State.setXi_kept
    with_reducible apply State.setXi_kept
    exact ks
  clear_value x0
  intro x1
  clear_value x1
  with_reducible apply State.setCtl_kept
  exact kx0

theorem State.toBrake_kept {r : State} (s : State) (a : Nat) (ks : Kept r s) : Kept r (State.toBrake s a) := by
  unfold State.toBrake
  lift_lets
  intro x0
  have kx0 : Kept r x0 := by
    unfold x0
    with_reducible apply State.setCst_kept
    exact ks
  clear_value x0
  intro x1
  clear_value x1
  apply Kept.ite
  · with_reducible apply State.brakeHalt_kept
    exact kx0
  · with_reducible apply State.setCtl_kept
    exact kx0

theorem State.brakeStep_kept {r : State} (s : State) (a : Nat) (ks : Kept r s) : Kept r (State.brakeStep s a) := by
  unfold State.brakeStep
  lift_lets
  intro x0
  clear_value x0
  intro x1
  clear_value x1
  intro x2
  have kx2 : Kept r x2 := by
    unfold x2
    apply Kept.ite
    · with_reducible apply State.request_kept
      exact ks
    · exact ks
  clear_value x2
  intro x3
  clear_value x3
  apply Kept.ite
  · with_reducible apply State.toProbe_kept
    exact ks
  · apply Kept.ite
    · apply Kept.ite
      · exact ks
      · with_reducible apply State.brakeHalt_kept
        exact ks
    · apply Kept.ite
      · with_reducible apply State.setCtl_kept
        exact kx2
      · with_reducible apply State.setCtl_kept
        exact ks

theorem State.takeOver_kept {r : State} (s : State) (a : Nat) (ks : Kept r s) : Kept r (State.takeOver s a) := by
  unfold State.takeOver
  lift_lets
  intro x0
  clear_value x0
  intro x1
  have kx1 : Kept r x1 := by
    unfold x1
    with_reducible apply State.setCst_kept
    with_reducible apply State.setXi_kept
    with_reducible apply State.setCtl_kept
    exact ks
  clear_value x1
  with_reducible apply State.startOk_kept
  exact kx1

theorem State.holdInts_kept {r : State} (s : State) (a : Nat) (ks : Kept r s) : Kept r (State.holdInts s a) := by
  unfold State.holdInts
  refine Kept.foldl _ ?_ ?_
  · exact ks
  · intro a0
    intro a1
    intro h2
    with_reducible apply State.setXw_kept
    exact h2

theorem State.gateOff_kept {r : State} (s : State) (a : Nat) (ks : Kept r s) : Kept r (State.gateOff s a) := by
  unfold State.gateOff
  lift_lets
  intro x0
  clear_value x0
  intro x1
  clear_value x1
  with_reducible apply State.setCtl_kept
  with_reducible apply State.setXw_kept
  exact ks

theorem State.commStep_kept {r : State} (s : State) (a : Nat) (ks : Kept r s) : Kept r (State.commStep s a) := by
  unfold State.commStep
  lift_lets
  intro x0
  clear_value x0
  intro x1
  clear_value x1
  intro x2
  have kx2 : Kept r x2 := by
    unfold x2
    apply Kept.ite
    · with_reducible apply State.setCtl_kept
      exact ks
    · with_reducible apply State.setCtl_kept
      exact ks
  clear_value x2
  intro x3
  clear_value x3
  intro x4
  clear_value x4
  intro x5
  clear_value x5
  intro x6
  have kx6 : Kept r x6 := by
    unfold x6
    with_reducible apply State.commFlag_kept
    exact kx2
  clear_value x6
  intro x7
  clear_value x7
  intro x8
  clear_value x8
  intro x9
  clear_value x9
  intro x10
  clear_value x10
  intro x11
  clear_value x11
  intro x12
  have kx12 : Kept r x12 := by
    unfold x12
    with_reducible apply State.holdInts_kept
    with_reducible apply State.gateOff_kept
    with_reducible apply State.commFlag_kept
    with_reducible apply State.setCst_kept
    exact kx2
  clear_value x12
  intro x13
  clear_value x13
  intro x14
  clear_value x14
  intro x15
  clear_value x15
  split
  · apply Kept.ite
    · with_reducible apply State.toProbe_kept
      exact kx2
    · apply Kept.ite
      · with_reducible apply State.enterRamp_kept
        with_reducible apply State.request_kept
        exact kx2
      · apply Kept.ite
        · apply Kept.ite
          · with_reducible apply State.startFailed_kept
            exact kx6
          · with_reducible apply State.toBrake_kept
            exact kx6
        · apply Kept.ite
          · with_reducible apply State.toBrake_kept
            exact kx2
          · with_reducible apply State.setCtl_kept
            exact kx2
  · with_reducible apply State.brakeStep_kept
    exact kx2
  · cases hc16 : x10.hand
    · try dsimp -zeta only
      apply Kept.ite
      · apply Kept.ite
        · with_reducible apply State.takeOver_kept
          with_reducible apply State.setCtl_kept
          exact kx2
        · with_reducible apply State.setCtl_kept
          exact kx2
      · with_reducible apply State.setCtl_kept
        exact kx2
    · try dsimp -zeta only
      apply Kept.ite
      · with_reducible apply State.takeOver_kept
        with_reducible apply State.setCtl_kept
        exact kx2
      · with_reducible apply State.setCtl_kept
        exact kx2
  · apply Kept.ite
    · apply Kept.ite
      · with_reducible apply State.setCtl_kept
        exact kx12
      · apply Kept.ite
        · with_reducible apply State.setCtl_kept
          with_reducible apply State.setCst_kept
          exact kx2
        · exact kx2
    · exact kx2
  · apply Kept.ite
    · with_reducible apply State.startFailed_kept
      with_reducible apply State.request_kept
      with_reducible apply State.worsen_kept
      with_reducible apply State.commFlag_kept
      exact kx2
    · apply Kept.ite
      · with_reducible apply State.enterRamp_kept
        exact kx2
      · exact kx2
  · apply Kept.ite
    · with_reducible apply State.setCst_kept
      with_reducible apply State.worsen_kept
      with_reducible apply State.request_kept
      with_reducible apply State.holdInts_kept
      with_reducible apply State.gateOff_kept
      exact kx2
    · apply Kept.ite
      · with_reducible apply State.request_kept
        with_reducible apply State.setCst_kept
        exact kx2
      · apply Kept.ite
        · with_reducible apply State.setCst_kept
          with_reducible apply State.request_kept
          exact kx2
        · exact kx2
  · exact kx2

theorem State.probeArea_kept {r : State} (s : State) (a : Nat) (ks : Kept r s) : Kept r (State.probeArea s a) := by
  unfold State.probeArea
  lift_lets
  intro x0
  clear_value x0
  intro x1
  clear_value x1
  intro x2
  have kx2 : Kept r x2 := by
    unfold x2
    with_reducible apply State.setXi_kept
    with_reducible apply State.setXi_kept
    with_reducible apply State.setXi_kept
    exact ks
  clear_value x2
  intro x3
  have kx3 : Kept r x3 := by
    unfold x3
    with_reducible apply State.setXi_kept
    with_reducible apply State.setXi_kept
    with_reducible apply State.setXi_kept
    with_reducible apply State.setXi_kept
    exact kx2
  clear_value x3
  intro x4
  have kx4 : Kept r x4 := by
    unfold x4
    with_reducible apply State.setXi_kept
    with_reducible apply State.setXi_kept
    with_reducible apply State.setXw_kept
    exact kx3
  clear_value x4
  with_reducible apply State.setXi_kept
  with_reducible apply State.setXi_kept
  exact kx4

theorem State.listDone_kept {r : State} (s : State) (l : Nat) (a : Nat) (ks : Kept r s) : Kept r (State.listDone s l a) := by
  unfold State.listDone
  lift_lets
  intro x0
  clear_value x0
  intro x1
  have kx1 : Kept r x1 := by
    unfold x1
    with_reducible apply State.setLane_kept
    exact ks
  clear_value x1
  intro x2
  have kx2 : Kept r x2 := by
    unfold x2
    with_reducible apply State.commStep_kept
    exact kx1
  clear_value x2
  intro x3
  have kx3 : Kept r x3 := by
    unfold x3
    with_reducible apply State.injDone_kept
    apply Kept.ite
    · with_reducible apply State.probeArea_kept
      exact kx2
    · exact kx2
  clear_value x3
  intro x4
  have kx4 : Kept r x4 := by
    unfold x4
    with_reducible apply State.setXw_kept
    exact kx3
  clear_value x4
  intro x5
  clear_value x5
  with_reducible apply State.setCtl_kept
  exact kx4

theorem State.runVel_kept {r : State} (s : State) (l : Nat) (a : Nat) (last : Bool) (ks : Kept r s) : Kept r (State.runVel s l a last) := by
  unfold State.runVel
  apply Kept.ite
  · with_reducible apply State.setLane_kept
    with_reducible apply State.setCtl_kept
    exact ks
  · lift_lets
    intro x0
    clear_value x0
    intro x1
    have kx1 : Kept r x1.1 := by
      unfold x1
      with_reducible apply State.velPrep_kept
      exact ks
    clear_value x1
    intro x2
    have kx2 : Kept r x2 := by
      unfold x2
      with_reducible apply State.secVEL_kept
      exact kx1
    clear_value x2
    intro x3
    clear_value x3
    intro x4
    clear_value x4
    intro x5
    clear_value x5
    intro x6
    have kx6 : Kept r x6 := by
      unfold x6
      apply Kept.ite
      · with_reducible apply Kept.updFree
        exact kx2
      · exact kx2
    clear_value x6
    intro x7
    clear_value x7
    apply Kept.ite
    · with_reducible apply State.setLane_kept
      exact kx2
    · with_reducible apply State.setLane_kept
      exact kx6

theorem State.secSTP_kept {r : State} (s : State) (a : Nat) (ks : Kept r s) : Kept r (State.secSTP s a) := by
  unfold State.secSTP
  lift_lets
  intro x0
  clear_value x0
  intro x1
  clear_value x1
  intro x2
  clear_value x2
  intro x3
  clear_value x3
  intro x4
  have kx4 : Kept r x4 := by
    unfold x4
    with_reducible apply State.setOut_kept
    exact ks
  clear_value x4
  intro x5
  clear_value x5
  with_reducible apply State.setCtl_kept
  exact kx4

theorem State.secSTP2_kept {r : State} (s : State) (a : Nat) (ks : Kept r s) : Kept r (State.secSTP2 s a) := by
  unfold State.secSTP2
  lift_lets
  intro x0
  clear_value x0
  intro x1
  clear_value x1
  intro x2
  clear_value x2
  intro x3
  clear_value x3
  intro x4
  clear_value x4
  intro x5
  clear_value x5
  intro x6
  clear_value x6
  intro x7
  clear_value x7
  intro x8
  clear_value x8
  intro x9
  clear_value x9
  intro x10
  clear_value x10
  intro x11
  clear_value x11
  intro x12
  clear_value x12
  intro x13
  clear_value x13
  intro x14
  clear_value x14
  intro x15
  clear_value x15
  intro x16
  clear_value x16
  intro x17
  clear_value x17
  intro x18
  clear_value x18
  intro x19
  clear_value x19
  intro x20
  have kx20 : Kept r x20.1 := by
    unfold x20
    with_reducible apply State.satV_kept
    exact ks
  clear_value x20
  intro x21
  have kx21 : Kept r x21.1 := by
    unfold x21
    with_reducible apply State.satV_kept
    exact kx20
  clear_value x21
  intro x22
  clear_value x22
  intro x23
  have kx23 : Kept r x23 := by
    unfold x23
    with_reducible apply State.setCtl_kept
    with_reducible apply State.setXi_kept
    with_reducible apply State.setXi_kept
    exact kx21
  clear_value x23
  intro x24
  clear_value x24
  intro x25
  have kx25 : Kept r x25 := by
    unfold x25
    with_reducible apply State.worsen_kept
    with_reducible apply State.commFlag_kept
    exact kx23
  clear_value x25
  intro x26
  clear_value x26
  intro x27
  clear_value x27
  apply Kept.ite
  · with_reducible apply State.setCtl_kept
    exact kx25
  · apply Kept.ite
    · with_reducible apply State.setCtl_kept
      exact kx23
    · exact kx23

theorem State.probeFail_kept {r : State} (s : State) (a : Nat) (ks : Kept r s) : Kept r (State.probeFail s a) := by
  unfold State.probeFail
  lift_lets
  intro x0
  clear_value x0
  apply Kept.ite
  · with_reducible apply State.startFailed_kept
    with_reducible apply State.request_kept
    with_reducible apply State.worsen_kept
    with_reducible apply State.commFlag_kept
    exact ks
  · with_reducible apply State.setCtl_kept
    exact ks

theorem State.probeEval_kept {r : State} (s : State) (a : Nat) (ks : Kept r s) : Kept r (State.probeEval s a) := by
  unfold State.probeEval
  lift_lets
  intro x0
  clear_value x0
  intro x1
  clear_value x1
  intro x2
  clear_value x2
  intro x3
  clear_value x3
  intro x4
  clear_value x4
  intro x5
  clear_value x5
  intro x6
  clear_value x6
  intro x7
  clear_value x7
  apply Kept.ite
  · with_reducible apply State.probeFail_kept
    exact ks
  · with_reducible apply State.toForced_kept
    with_reducible apply State.setXw_kept
    exact ks

theorem State.probeMeasure_kept {r : State} (s : State) (a : Nat) (ks : Kept r s) : Kept r (State.probeMeasure s a) := by
  unfold State.probeMeasure
  lift_lets
  intro x0
  clear_value x0
  intro x1
  clear_value x1
  intro x2
  clear_value x2
  intro x3
  clear_value x3
  intro x4
  clear_value x4
  intro x5
  clear_value x5
  intro x6
  clear_value x6
  intro x7
  clear_value x7
  intro x8
  have kx8 : Kept r x8 := by
    unfold x8
    with_reducible apply State.setCtl_kept
    exact ks
  clear_value x8
  apply Kept.ite
  · exact ks
  · apply Kept.ite
    · apply Kept.ite
      · with_reducible apply State.setCtl_kept
        exact ks
      · apply Kept.ite
        · with_reducible apply State.probeFail_kept
          exact ks
        · with_reducible apply State.setCtl_kept
          exact ks
    · apply Kept.ite
      · with_reducible apply State.probeEval_kept
        exact kx8
      · exact kx8

theorem State.secPRB_kept {r : State} (s : State) (a : Nat) (miss : Bool) (ks : Kept r s) : Kept r (State.secPRB s a miss) := by
  unfold State.secPRB
  lift_lets
  intro x0
  have kx0 : Kept r x0 := by
    unfold x0
    apply Kept.ite
    · with_reducible apply State.probeMeasure_kept
      exact ks
    · exact ks
  clear_value x0
  intro x1
  clear_value x1
  intro x2
  have kx2 : Kept r x2 := by
    unfold x2
    apply Kept.ite
    · with_reducible apply State.probeFail_kept
      exact kx0
    · exact kx0
  clear_value x2
  intro x3
  clear_value x3
  intro x4
  clear_value x4
  intro x5
  have kx5 : Kept r x5 := by
    unfold x5
    with_reducible apply State.setOut_kept
    exact kx2
  clear_value x5
  intro x6
  have kx6 : Kept r x6 := by
    unfold x6
    with_reducible apply State.setOut_kept
    exact kx2
  clear_value x6
  apply Kept.ite
  · with_reducible apply State.setCtl_kept
    exact kx5
  · with_reducible apply State.setCtl_kept
    exact kx6

theorem State.runStd_kept {r : State} (s : State) (l : Nat) (a : Nat) (x : Nat) (miss : Bool) (last : Bool) (ks : Kept r s) : Kept r (State.runStd s l a x miss last) := by
  unfold State.runStd
  lift_lets
  intro x0
  have kx0 : Kept r x0 := by
    unfold x0
    with_reducible apply State.setLane_kept
    exact ks
  clear_value x0
  intro x1
  have kx1 : Kept r x1 := by
    unfold x1
    split
    · with_reducible apply State.secFBP_kept
      exact kx0
    · with_reducible apply State.secFBM_kept
      exact kx0
    · with_reducible apply State.secPRF_kept
      exact kx0
    · with_reducible apply State.secPOS_kept
      exact kx0
    · with_reducible apply State.runVel_kept
      exact kx0
    · with_reducible apply State.secCUR_kept
      exact kx0
    · with_reducible apply State.secSVM_kept
      exact kx0
    · with_reducible apply State.secOBS_kept
      exact kx0
    · with_reducible apply State.secRPC_kept
      exact kx0
    · with_reducible apply State.secOFFO_kept
      exact kx0
    · with_reducible apply State.secSTP_kept
      exact kx0
    · with_reducible apply State.secSTP2_kept
      exact kx0
    · with_reducible apply State.secPRB_kept
      exact kx0
    · with_reducible apply State.secFBK_kept
      exact kx0
    · exact kx0
  clear_value x1
  intro x2
  clear_value x2
  with_reducible apply State.setLane_kept
  exact kx1

theorem State.runSecs_kept {r : State} (s : State) (l : Nat) (a : Nat) (miss : Bool) (z4 : List Nat) (ks : Kept r s) : Kept r (State.runSecs s l a miss z4) := by
  induction z4 generalizing s with
  | nil => exact State.listDone_kept _ _ _ ks
  | cons x l' ih =>
    unfold State.runSecs
    dsimp only
    split
    · split
      · exact State.setLane_kept _ _ _ ks
      · exact ih _ (State.runStd_kept _ _ _ _ _ _ ks)
    · refine State.setLane_kept _ _ _ ?_
      split
      · exact Kept.updFree ks
      · exact ks

theorem State.beginPass_kept {r : State} (s : State) (p : PlanAxis) (c : BitVec 32) (t : Int) (miss : Bool) (errs : List LaneErr) (ks : Kept r s) : Kept r (State.beginPass s p c t miss errs) := by
  unfold State.beginPass
  lift_lets
  intro x0
  clear_value x0
  intro x1
  clear_value x1
  intro x2
  clear_value x2
  intro x3
  have kx3 : Kept r x3 := by
    unfold x3
    with_reducible apply State.adoptState_kept
    exact ks
  clear_value x3
  intro x4
  clear_value x4
  intro x5
  clear_value x5
  intro x6
  clear_value x6
  intro x7
  clear_value x7
  intro x8
  clear_value x8
  intro x9
  clear_value x9
  intro x10
  have kx10 : Kept r x10 := by
    unfold x10
    with_reducible apply State.setLane_kept
    exact kx3
  clear_value x10
  intro x11
  have kx11 : Kept r x11 := by
    unfold x11
    refine Kept.foldl _ ?_ ?_
    · exact kx10
    · intro a12
      intro a13
      intro h14
      with_reducible apply State.laneErr_kept
      exact h14
  clear_value x11
  intro x15
  clear_value x15
  intro x16
  have kx16 : Kept r x16 := by
    unfold x16
    with_reducible apply State.setFld_kept
    with_reducible apply State.setFld_kept
    exact kx11
  clear_value x16
  intro x17
  have kx17 : Kept r x17 := by
    unfold x17
    with_reducible apply State.setFld_kept
    exact kx16
  clear_value x17
  intro x18
  clear_value x18
  intro x19
  have kx19 : Kept r x19 := by
    unfold x19
    apply Kept.ite
    · with_reducible apply Kept.upd
      exact kx17
    · exact kx17
  clear_value x19
  intro x20
  have kx20 : Kept r x20 := by
    unfold x20
    apply Kept.ite
    · with_reducible apply State.fbMissing_kept
      with_reducible apply State.incFld_kept
      with_reducible apply State.laneFlag_kept
      exact kx19
    · exact kx19
  clear_value x20
  intro x21
  have kx21 : Kept r x21 := by
    unfold x21
    cases hc22 : (x20.axis x1).injEnd
    · try dsimp -zeta only
      exact kx20
    · try dsimp -zeta only
      lift_lets
      intro x23
      clear_value x23
      with_reducible apply State.setAxis_kept
      with_reducible apply State.injMark_kept
      exact kx20
  clear_value x21
  intro x24
  clear_value x24
  intro x25
  have kx25 : Kept r x25 := by
    unfold x25
    with_reducible apply State.setAxis_kept
    exact kx21
  clear_value x25
  intro x26
  have kx26 : Kept r x26 := by
    unfold x26
    with_reducible apply State.coastStep_kept
    exact kx25
  clear_value x26
  intro x27
  clear_value x27
  intro x28
  have kx28 : Kept r x28 := by
    unfold x28
    with_reducible apply State.setCtl_kept
    exact kx26
  clear_value x28
  intro x29
  clear_value x29
  with_reducible apply State.runSecs_kept
  with_reducible apply State.setLane_kept
  exact kx28

theorem State.homePass_kept {r : State} (s : State) (a : Nat) (ks : Kept r s) : Kept r (State.homePass s a) := by
  unfold State.homePass
  lift_lets
  intro x0
  clear_value x0
  intro x1
  clear_value x1
  intro x2
  clear_value x2
  apply Kept.ite
  · with_reducible apply State.setProf_kept
    exact ks
  · exact ks

theorem State.idPass_kept {r : State} (s : State) (a : Nat) (ks : Kept r s) : Kept r (State.idPass s a) := by
  unfold State.idPass
  lift_lets
  intro x0
  clear_value x0
  intro x1
  clear_value x1
  intro x2
  clear_value x2
  intro x3
  clear_value x3
  intro x4
  clear_value x4
  apply Kept.ite
  · exact ks
  · with_reducible apply State.setAxis_kept
    exact ks

theorem State.passEnd_kept {r : State} (s : State) (l : Nat) (ks : Kept r s) : Kept r (State.passEnd s l) := by
  unfold State.passEnd
  lift_lets
  intro x0
  clear_value x0
  intro x1
  clear_value x1
  intro x2
  have kx2 : Kept r x2 := by
    unfold x2
    with_reducible apply State.worsen_kept
    with_reducible apply State.laneFlag_kept
    with_reducible apply State.axFlag_kept
    with_reducible apply State.gateOff_kept
    exact ks
  clear_value x2
  intro x3
  clear_value x3
  intro x4
  have kx4 : Kept r x4 := by
    unfold x4
    apply Kept.ite
    · with_reducible apply State.setCtl_kept
      exact kx2
    · exact ks
  clear_value x4
  intro x5
  have kx5 : Kept r x5 := by
    unfold x5
    with_reducible apply State.dropLane_kept
    with_reducible apply State.worsen_kept
    with_reducible apply State.gateOff_kept
    exact kx4
  clear_value x5
  intro x6
  clear_value x6
  intro x7
  have kx7 : Kept r x7 := by
    unfold x7
    apply Kept.ite
    · with_reducible apply State.setCtl_kept
      exact kx5
    · exact kx4
  clear_value x7
  intro x8
  clear_value x8
  intro x9
  have kx9 : Kept r x9 := by
    unfold x9
    with_reducible apply State.setCtl_kept
    exact kx7
  clear_value x9
  intro x10
  clear_value x10
  intro x11
  clear_value x11
  intro x12
  clear_value x12
  intro x13
  clear_value x13
  intro x14
  have kx14 : Kept r x14 := by
    unfold x14
    with_reducible apply State.setAxis_kept
    exact kx9
  clear_value x14
  intro x15
  clear_value x15
  intro x16
  clear_value x16
  intro x17
  have kx17 : Kept r x17 := by
    unfold x17
    cases hc18 : if x14.standby = Bool.true then Option.none else x14.lxOf x1
    · try dsimp -zeta only
      exact kx14
    · try dsimp -zeta only
      with_reducible apply Kept.upd
      exact kx14
  clear_value x17
  intro x19
  have kx19 : Kept r x19 := by
    unfold x19
    apply Kept.ite
    · with_reducible apply State.emit_kept
      exact kx17
    · exact kx17
  clear_value x19
  intro x20
  have kx20 : Kept r x20 := by
    unfold x20
    apply Kept.ite
    · with_reducible apply State.axFlag_kept
      exact kx19
    · exact kx19
  clear_value x20
  intro x21
  have kx21 : Kept r x21 := by
    unfold x21
    with_reducible apply State.emuPass_kept
    with_reducible apply State.homePass_kept
    with_reducible apply State.idPass_kept
    with_reducible apply State.incFld_kept
    exact kx20
  clear_value x21
  intro x22
  clear_value x22
  intro x23
  have kx23 : Kept r x23 := by
    unfold x23
    with_reducible apply State.setLane_kept
    exact kx21
  clear_value x23
  intro x24
  have kx24 : Kept r x24 := by
    unfold x24
    with_reducible apply State.setFld_kept
    with_reducible apply State.setFld_kept
    exact kx23
  clear_value x24
  apply Kept.ite
  · exact ks
  · with_reducible apply State.flushWrites_kept
    with_reducible apply State.endStay_kept
    with_reducible apply State.flagsToNew_kept
    exact kx24

theorem State.passStart_kept {r : State} (s : State) (l : Nat) (a : Nat) (t : Int) (miss : Bool) (errs : List LaneErr) (ks : Kept r s) : Kept r (State.passStart s l a t miss errs) := by
  unfold State.passStart
  cases hc0 : s.planAxis a
  · try dsimp -zeta only
    exact ks
  · try dsimp -zeta only
    lift_lets
    intro x1
    clear_value x1
    intro x2
    clear_value x2
    intro x3
    clear_value x3
    intro x4
    clear_value x4
    apply Kept.ite
    · with_reducible apply State.beginPass_kept
      exact ks
    · exact ks

theorem State.useTailsFor_kept {r : State} (s : State) (a : Nat) (ks : Kept r s) : Kept r (State.useTailsFor s a) := by
  unfold State.useTailsFor
  cases hc0 : s.planAxis a
  · try dsimp -zeta only
    exact ks
  · try dsimp -zeta only
    with_reducible apply State.useTails_kept
    exact ks

end Sys2Proof.Machine
end

