-- ==== Sys2Proof/Laws/KeptProf.lean ====
section
/-! SUPPORT. What the operations of Machine/Prof.lean keep (see Laws/Kept.lean). -/

namespace Sys2Proof.Machine

open Sys2Proof

theorem State.homeFail_kept {r : State} (s : State) (a : Nat) (code : Nat) (ks : Kept r s) : Kept r (State.homeFail s a code) := by
  unfold State.homeFail
  lift_lets
  intro x0
  have kx0 : Kept r x0 := by
    unfold x0
    with_reducible apply State.raise_kept
    with_reducible apply State.setFlag_kept
    exact ks
  clear_value x0
  intro x1
  clear_value x1
  with_reducible apply State.setProf_kept
  exact kx0

theorem State.startRamp_kept {r : State} (s : State) (a : Nat) (st : Nat) (quick : Bool) (ks : Kept r s) : Kept r (State.startRamp s a st quick) := by
  unfold State.startRamp
  with_reducible apply State.setProf_kept
  exact ks

theorem State.flushQueue_kept {r : State} (s : State) (a : Nat) (ks : Kept r s) : Kept r (State.flushQueue s a) := by
  unfold State.flushQueue
  lift_lets
  intro x0
  clear_value x0
  intro x1
  have kx1 : Kept r x1 := by
    unfold x1
    apply Kept.ite
    · exact ks
    · with_reducible apply State.setFlag_kept
      exact ks
  clear_value x1
  with_reducible apply State.setProf_kept
  exact kx1

theorem State.startStop_kept {r : State} (s : State) (a : Nat) (quick : Bool) (ks : Kept r s) : Kept r (State.startStop s a quick) := by
  unfold State.startStop
  with_reducible apply State.startRamp_kept
  with_reducible apply State.flushQueue_kept
  exact ks

theorem State.stopAxis_kept {r : State} (s : State) (a : Nat) (op : Nat) (ks : Kept r s) : Kept r (State.stopAxis s a op) := by
  unfold State.stopAxis
  lift_lets
  intro x0
  clear_value x0
  intro x1
  have kx1 : Kept r x1 := by
    unfold x1
    with_reducible apply State.setProf_kept
    exact ks
  clear_value x1
  intro x2
  clear_value x2
  intro x3
  have kx3 : Kept r x3 := by
    unfold x3
    apply Kept.ite
    · with_reducible apply State.homeFail_kept
      exact kx1
    · exact kx1
  clear_value x3
  intro x4
  clear_value x4
  intro x5
  clear_value x5
  intro x6
  clear_value x6
  apply Kept.ite
  · exact kx1
  · apply Kept.ite
    · with_reducible apply State.setProf_kept
      exact kx3
    · apply Kept.ite
      · apply Kept.ite
        · with_reducible apply State.setProf_kept
          with_reducible apply State.startRamp_kept
          exact kx1
        · exact kx1
      · apply Kept.ite
        · apply Kept.ite
          · exact kx1
          · apply Kept.ite
            · with_reducible apply State.flushQueue_kept
              exact kx1
            · with_reducible apply State.startStop_kept
              exact kx1
        · apply Kept.ite
          · with_reducible apply State.flushQueue_kept
            exact kx1
          · with_reducible apply State.startStop_kept
            exact kx1

theorem State.resumeAxis_kept {r : State} (s : State) (a : Nat) (ks : Kept r s) : Kept r (State.resumeAxis s a) := by
  unfold State.resumeAxis
  lift_lets
  intro x0
  clear_value x0
  intro x1
  have kx1 : Kept r x1 := by
    unfold x1
    with_reducible apply State.startRamp_kept
    exact ks
  clear_value x1
  intro x2
  clear_value x2
  apply Kept.ite
  · cases hc3 : x0.paused
    · try dsimp -zeta only
      with_reducible apply State.startRamp_kept
      exact ks
    · try dsimp -zeta only
      lift_lets
      intro x4
      clear_value x4
      with_reducible apply State.setProf_kept
      exact kx1
  · exact ks

theorem State.setPosition_kept {r : State} (s : State) (a : Nat) (ph : Int) (ks : Kept r s) : Kept r (State.setPosition s a ph) := by
  unfold State.setPosition
  lift_lets
  intro x0
  clear_value x0
  intro x1
  have kx1 : Kept r x1 := by
    unfold x1
    with_reducible apply State.setProf_kept
    exact ks
  clear_value x1
  intro x2
  clear_value x2
  intro x3
  have kx3 : Kept r x3 := by
    unfold x3
    with_reducible apply State.setFb_kept
    exact kx1
  clear_value x3
  intro x4
  have kx4 : Kept r x4 := by
    unfold x4
    apply Kept.ite
    · with_reducible apply State.fbSet_kept
      exact kx3
    · exact kx3
  clear_value x4
  with_reducible apply State.fbMirror_kept
  exact kx4

theorem State.decFollow_kept {r : State} (s : State) (a : Nat) (g : RampGoal) (ks : Kept r s) : Kept r (State.decFollow s a g) := by
  unfold State.decFollow
  lift_lets
  intro x0
  clear_value x0
  intro x1
  clear_value x1
  intro x2
  clear_value x2
  intro x3
  clear_value x3
  intro x4
  clear_value x4
  intro x5
  clear_value x5
  apply Kept.ite
  · with_reducible apply State.setProf_kept
    exact ks
  · with_reducible apply State.setProf_kept
    apply Kept.ite
    · exact ks
    · with_reducible apply State.setFlag_kept
      exact ks

theorem State.homeMove_kept {r : State} (s : State) (a : Nat) (ks : Kept r s) : Kept r (State.homeMove s a) := by
  unfold State.homeMove
  lift_lets
  intro x0
  clear_value x0
  intro x1
  clear_value x1
  intro x2
  clear_value x2
  intro x3
  clear_value x3
  intro x4
  clear_value x4
  intro x5
  clear_value x5
  apply Kept.ite
  · with_reducible apply State.setProf_kept
    exact ks
  · with_reducible apply State.setProf_kept
    exact ks

theorem State.profAdvance_kept {r : State} (s : State) (a : Nat) (ks : Kept r s) : Kept r (State.profAdvance s a) := by
  unfold State.profAdvance
  lift_lets
  intro x0
  clear_value x0
  intro x1
  clear_value x1
  split
  · cases hc2 : x0.seg
    · try dsimp -zeta only
      exact ks
    · try dsimp -zeta only
      lift_lets
      intro x3
      clear_value x3
      apply Kept.ite
      · with_reducible apply State.setProf_kept
        exact ks
      · with_reducible apply State.setProf_kept
        exact ks
  · cases hc4 : x0.seg
    · try dsimp -zeta only
      with_reducible apply State.setProf_kept
      exact ks
    · try dsimp -zeta only
      with_reducible apply State.setProf_kept
      with_reducible apply State.decFollow_kept
      exact ks
  · cases hc5 : x0.seg
    · try dsimp -zeta only
      exact ks
    · try dsimp -zeta only
      with_reducible apply State.setProf_kept
      with_reducible apply State.decFollow_kept
      exact ks
  · cases hc6 : x0.seg
    · try dsimp -zeta only
      exact ks
    · try dsimp -zeta only
      with_reducible apply State.setProf_kept
      with_reducible apply State.decFollow_kept
      exact ks
  · with_reducible apply State.setProf_kept
    with_reducible apply State.decFollow_kept
    exact ks
  · with_reducible apply State.setProf_kept
    with_reducible apply State.decFollow_kept
    exact ks
  · with_reducible apply State.setProf_kept
    with_reducible apply State.decFollow_kept
    exact ks
  · with_reducible apply State.homeMove_kept
    with_reducible apply State.decFollow_kept
    exact ks
  · with_reducible apply State.setProf_kept
    with_reducible apply State.decFollow_kept
    exact ks
  · with_reducible apply State.setProf_kept
    with_reducible apply State.decFollow_kept
    exact ks
  · with_reducible apply State.setProf_kept
    exact ks

theorem State.homeEnd_kept {r : State} (s : State) (a : Nat) (ks : Kept r s) : Kept r (State.homeEnd s a) := by
  unfold State.homeEnd
  lift_lets
  intro x0
  clear_value x0
  intro x1
  have kx1 : Kept r x1 := by
    unfold x1
    with_reducible apply State.setProf_kept
    exact ks
  clear_value x1
  intro x2
  have kx2 : Kept r x2 := by
    unfold x2
    apply Kept.ite
    · with_reducible apply State.raise_kept
      exact kx1
    · exact kx1
  clear_value x2
  cases hc3 : x0.hcmd
  · try dsimp -zeta only
    exact kx2
  · try dsimp -zeta only
    apply Kept.ite
    · with_reducible apply State.complete_kept
      exact kx2
    · with_reducible apply State.complete_kept
      exact kx2

theorem State.profEvent_kept {r : State} (s : State) (a : Nat) (code : Nat) (ks : Kept r s) : Kept r (State.profEvent s a code) := by
  unfold State.profEvent
  with_reducible apply State.raise_kept
  exact ks

theorem State.limitStop_kept {r : State} (s : State) (a : Nat) (ks : Kept r s) : Kept r (State.limitStop s a) := by
  unfold State.limitStop
  lift_lets
  intro x0
  clear_value x0
  intro x1
  clear_value x1
  intro x2
  clear_value x2
  apply Kept.ite
  · with_reducible apply State.raise_kept
    with_reducible apply State.setFlag_kept
    with_reducible apply State.startStop_kept
    exact ks
  · exact ks

theorem State.followRef_kept {r : State} (s : State) (a : Nat) (ks : Kept r s) : Kept r (State.followRef s a) := by
  unfold State.followRef
  with_reducible apply State.setProf_kept
  exact ks

theorem State.startSeg_kept {r : State} (s : State) (a : Nat) (g : Seg) (ks : Kept r s) : Kept r (State.startSeg s a g) := by
  unfold State.startSeg
  lift_lets
  intro x0
  clear_value x0
  intro x1
  clear_value x1
  intro x2
  have kx2 : Kept r x2 := by
    unfold x2
    cases hc3 : g.named
    · try dsimp -zeta only
      exact ks
    · try dsimp -zeta only
      apply Kept.ite
      · exact ks
      · with_reducible apply State.setFlag_kept
        exact ks
  clear_value x2
  intro x4
  clear_value x4
  intro x5
  have kx5 : Kept r x5 := by
    unfold x5
    with_reducible apply State.startRamp_kept
    exact kx2
  clear_value x5
  intro x6
  clear_value x6
  intro x7
  clear_value x7
  intro x8
  clear_value x8
  with_reducible apply State.setProf_kept
  exact kx5

theorem State.homeCheck_kept {r : State} (s : State) (a : Nat) (ks : Kept r s) : Kept r (State.homeCheck s a) := by
  unfold State.homeCheck
  lift_lets
  intro x0
  clear_value x0
  intro x1
  clear_value x1
  intro x2
  clear_value x2
  intro x3
  clear_value x3
  intro x4
  clear_value x4
  intro x5
  clear_value x5
  intro x6
  clear_value x6
  intro x7
  have kx7 : Kept r x7 := by
    unfold x7
    with_reducible apply State.setPosition_kept
    exact ks
  clear_value x7
  intro x8
  clear_value x8
  apply Kept.ite
  · with_reducible apply State.homeFail_kept
    exact ks
  · apply Kept.ite
    · with_reducible apply State.homeFail_kept
      exact ks
    · split
      · apply Kept.ite
        · with_reducible apply State.setProf_kept
          exact ks
        · apply Kept.ite
          · with_reducible apply State.homeFail_kept
            exact ks
          · exact ks
      · apply Kept.ite
        · apply Kept.ite
          · with_reducible apply State.setProf_kept
            with_reducible apply State.setPosition_kept
            exact ks
          · with_reducible apply State.setProf_kept
            exact ks
        · apply Kept.ite
          · with_reducible apply State.homeFail_kept
            exact ks
          · exact ks
      · apply Kept.ite
        · with_reducible apply State.setProf_kept
          exact kx7
        · apply Kept.ite
          · with_reducible apply State.setProf_kept
            exact ks
          · apply Kept.ite
            · with_reducible apply State.homeFail_kept
              exact ks
            · exact ks
      · apply Kept.ite
        · with_reducible apply State.homeFail_kept
          exact ks
        · exact ks
      · apply Kept.ite
        · with_reducible apply State.homeEnd_kept
          exact ks
        · exact ks
      · apply Kept.ite
        · with_reducible apply State.homeEnd_kept
          exact ks
        · exact ks
      · exact ks

theorem State.nextSeg_kept {r : State} (s : State) (a : Nat) (ks : Kept r s) : Kept r (State.nextSeg s a) := by
  unfold State.nextSeg
  lift_lets
  intro x0
  clear_value x0
  cases hc1 : x0.q
  · try dsimp -zeta only
    exact ks
  · try dsimp -zeta only
    lift_lets
    intro x2
    clear_value x2
    try dsimp -zeta only
    apply Kept.ite
    · with_reducible apply State.startSeg_kept
      with_reducible apply State.setProf_kept
      exact ks
    · with_reducible apply State.setProf_kept
      exact ks

theorem State.endSeg_kept {r : State} (s : State) (a : Nat) (ks : Kept r s) : Kept r (State.endSeg s a) := by
  unfold State.endSeg
  lift_lets
  intro x0
  clear_value x0
  cases hc1 : x0.seg
  · try dsimp -zeta only
    exact ks
  · try dsimp -zeta only
    lift_lets
    intro x2
    have kx2 : Kept r x2 := by
      unfold x2
      apply Kept.ite
      · exact ks
      · with_reducible apply State.incFld_kept
        exact ks
    clear_value x2
    intro x3
    have kx3 : Kept r x3 := by
      unfold x3
      apply Kept.ite
      · with_reducible apply State.profEvent_kept
        exact kx2
      · exact kx2
    clear_value x3
    intro x4
    clear_value x4
    intro x5
    have kx5 : Kept r x5 := by
      unfold x5
      with_reducible apply State.setProf_kept
      exact kx3
    clear_value x5
    intro x6
    clear_value x6
    apply Kept.ite
    · apply Kept.ite
      · with_reducible apply State.startStop_kept
        with_reducible apply State.profEvent_kept
        with_reducible apply State.setFlag_kept
        exact kx5
      · with_reducible apply State.setProf_kept
        exact kx5
    · with_reducible apply State.nextSeg_kept
      with_reducible apply State.setProf_kept
      exact kx5

theorem State.profDecide_kept {r : State} (s : State) (a : Nat) (ks : Kept r s) : Kept r (State.profDecide s a) := by
  unfold State.profDecide
  lift_lets
  intro x0
  clear_value x0
  intro x1
  clear_value x1
  intro x2
  have kx2 : Kept r x2 := by
    unfold x2
    with_reducible apply State.profEvent_kept
    with_reducible apply State.setFlag_kept
    with_reducible apply State.setProf_kept
    exact ks
  clear_value x2
  intro x3
  have kx3 : Kept r x3 := by
    unfold x3
    apply Kept.ite
    · apply Kept.ite
      · with_reducible apply State.homeFail_kept
        exact kx2
      · exact kx2
    · exact ks
  clear_value x3
  intro x4
  clear_value x4
  intro x5
  have kx5 : Kept r x5 := by
    unfold x5
    apply Kept.ite
    · with_reducible apply State.homeEnd_kept
      with_reducible apply State.homeFail_kept
      exact kx3
    · apply Kept.ite
      · exact kx3
      · with_reducible apply State.homeEnd_kept
        exact kx3
  clear_value x5
  intro x6
  have kx6 : Kept r x6 := by
    unfold x6
    with_reducible apply State.flushQueue_kept
    exact kx5
  clear_value x6
  intro x7
  clear_value x7
  intro x8
  have kx8 : Kept r x8 := by
    unfold x8
    with_reducible apply State.setProf_kept
    exact kx3
  clear_value x8
  intro x9
  have kx9 : Kept r x9 := by
    unfold x9
    apply Kept.ite
    · with_reducible apply State.homeCheck_kept
      exact kx3
    · with_reducible apply State.limitStop_kept
      exact kx3
  clear_value x9
  intro x10
  clear_value x10
  intro x11
  have kx11 : Kept r x11 := by
    unfold x11
    with_reducible apply State.setProf_kept
    exact kx9
  clear_value x11
  apply Kept.ite
  · with_reducible apply State.limitStop_kept
    with_reducible apply State.startStop_kept
    exact kx3
  · apply Kept.ite
    · exact kx3
    · apply Kept.ite
      · apply Kept.ite
        · with_reducible apply State.followRef_kept
          exact kx3
        · with_reducible apply State.followRef_kept
          with_reducible apply State.setProf_kept
          exact kx6
      · apply Kept.ite
        · apply Kept.ite
          · exact kx8
          · with_reducible apply State.startSeg_kept
            exact kx8
        · split
          · with_reducible apply State.nextSeg_kept
            exact kx9
          · apply Kept.ite
            · with_reducible apply State.endSeg_kept
              exact kx9
            · exact kx9
          · apply Kept.ite
            · with_reducible apply State.endSeg_kept
              exact kx9
            · apply Kept.ite
              · with_reducible apply State.nextSeg_kept
                exact kx9
              · exact kx9
          · apply Kept.ite
            · with_reducible apply State.endSeg_kept
              exact kx9
            · exact kx9
          · apply Kept.ite
            · with_reducible apply State.endSeg_kept
              exact kx9
            · exact kx9
          · apply Kept.ite
            · with_reducible apply State.setProf_kept
              exact kx9
            · exact kx9
          · apply Kept.ite
            · with_reducible apply State.setProf_kept
              exact kx9
            · exact kx9
          · apply Kept.ite
            · with_reducible apply State.setProf_kept
              exact kx9
            · exact kx9
          · apply Kept.ite
            · exact kx9
            · apply Kept.ite
              · exact kx11
              · with_reducible apply State.startSeg_kept
                exact kx11
          · exact kx9

end Sys2Proof.Machine
end

