-- ==== Sys2Proof/Laws/KeptProfCmd.lean ====
section
/-! SUPPORT. What the operations of Machine/ProfCmd.lean keep (see Laws/Kept.lean). -/

namespace Sys2Proof.Machine

open Sys2Proof

theorem State.refCleared_kept {r : State} (s : State) (r1x : Nat) (ks : Kept r s) : Kept r (State.refCleared s r1x) := by
  unfold State.refCleared
  refine Kept.foldl _ ?_ ?_
  · exact ks
  · intro a0
    intro a1
    intro h2
    lift_lets
    intro x3
    clear_value x3
    apply Kept.ite
    · with_reducible apply State.clrFlag_kept
      exact h2
    · exact h2

theorem State.rawEdge_kept {r : State} (s : State) (a : Nat) (neg : Bool) (level : Bool) (ks : Kept r s) : Kept r (State.rawEdge s a neg level) := by
  unfold State.rawEdge
  lift_lets
  intro x0
  clear_value x0
  intro x1
  clear_value x1
  intro x2
  clear_value x2
  intro x3
  clear_value x3
  intro x4
  clear_value x4
  intro x5
  clear_value x5
  apply Kept.ite
  · exact ks
  · with_reducible apply State.setProf_kept
    exact ks

theorem State.vinWritten_kept {r : State} (s : State) (ks : Kept r s) : Kept r (State.vinWritten s) := by
  unfold State.vinWritten
  lift_lets
  intro x0
  clear_value x0
  refine Kept.foldl _ ?_ ?_
  · exact ks
  · intro a1
    intro a2
    intro h3
    refine Kept.foldl _ ?_ ?_
    · exact h3
    · intro a4
      intro a5
      intro h6
      lift_lets
      intro x7
      clear_value x7
      apply Kept.ite
      · with_reducible apply State.rawEdge_kept
        exact h6
      · exact h6

theorem State.dueStop_kept {r : State} (s : State) (src : Src) (d : Desc) (ks : Kept r s) : Kept r (State.dueStop s src d) := by
  unfold State.dueStop
  lift_lets
  intro x0
  clear_value x0
  intro x1
  clear_value x1
  intro x2
  have kx2 : Kept r x2 := by
    unfold x2
    refine Kept.foldl _ ?_ ?_
    · exact ks
    · intro a3
      intro a4
      intro h5
      with_reducible apply State.stopAxis_kept
      exact h5
  clear_value x2
  with_reducible apply State.complete_kept
  exact kx2

theorem State.dueResume_kept {r : State} (s : State) (src : Src) (d : Desc) (ks : Kept r s) : Kept r (State.dueResume s src d) := by
  unfold State.dueResume
  lift_lets
  intro x0
  clear_value x0
  intro x1
  intro x2
  clear_value x2
  intro x3
  have kx3 : Kept r x3 := by
    unfold x3
    refine Kept.foldl _ ?_ ?_
    · exact ks
    · intro a4
      intro a5
      intro h6
      with_reducible apply State.resumeAxis_kept
      exact h6
  clear_value x3
  with_reducible apply State.complete_kept
  exact kx3

theorem State.dueHome_kept {r : State} (s : State) (src : Src) (d : Desc) (ks : Kept r s) : Kept r (State.dueHome s src d) := by
  unfold State.dueHome
  cases hc0 : s.homeError d
  · try dsimp -zeta only
    lift_lets
    intro x1
    clear_value x1
    intro x2
    clear_value x2
    intro x3
    clear_value x3
    intro x4
    have kx4 : Kept r x4 := by
      unfold x4
      with_reducible apply State.startRamp_kept
      with_reducible apply State.flushQueue_kept
      exact ks
    clear_value x4
    intro x5
    clear_value x5
    intro x6
    clear_value x6
    intro x7
    clear_value x7
    intro x8
    clear_value x8
    intro x9
    have kx9 : Kept r x9 := by
      unfold x9
      with_reducible apply State.setProf_kept
      exact kx4
    clear_value x9
    intro x10
    clear_value x10
    intro x11
    have kx11 : Kept r x11 := by
      unfold x11
      with_reducible apply State.setFb_kept
      exact kx9
    clear_value x11
    apply Kept.ite
    · with_reducible apply State.setPosition_kept
      exact kx11
    · exact kx11
  · try dsimp -zeta only
    with_reducible apply State.complete_kept
    exact ks

theorem State.dueGroupSet_kept {r : State} (s : State) (src : Src) (d : Desc) (ks : Kept r s) : Kept r (State.dueGroupSet s src d) := by
  unfold State.dueGroupSet
  lift_lets
  intro x0
  clear_value x0
  intro x1
  clear_value x1
  intro x2
  clear_value x2
  apply Kept.ite
  · with_reducible apply State.complete_kept
    exact ks
  · apply Kept.ite
    · apply Kept.ite
      · with_reducible apply State.complete_kept
        exact ks
      · with_reducible apply State.complete_kept
        with_reducible apply State.setProf_kept
        exact ks
    · apply Kept.ite
      · with_reducible apply State.complete_kept
        with_reducible apply State.setProf_kept
        exact ks
      · with_reducible apply State.complete_kept
        exact ks

theorem State.refMember_kept {r : State} (s : State) (g : Nat) (halted : Bool) (a : Nat) (ks : Kept r s) : Kept r (State.refMember s g halted a) := by
  unfold State.refMember
  lift_lets
  intro x0
  clear_value x0
  intro x1
  clear_value x1
  intro x2
  have kx2 : Kept r x2 := by
    unfold x2
    with_reducible apply State.flushQueue_kept
    exact ks
  clear_value x2
  intro x3
  clear_value x3
  intro x4
  have kx4 : Kept r x4 := by
    unfold x4
    apply Kept.ite
    · exact ks
    · with_reducible apply State.setProf_kept
      exact kx2
  clear_value x4
  intro x5
  clear_value x5
  intro x6
  clear_value x6
  intro x7
  clear_value x7
  intro x8
  have kx8 : Kept r x8 := by
    unfold x8
    apply Kept.ite
    · exact kx4
    · with_reducible apply State.startRamp_kept
      exact kx4
  clear_value x8
  intro x9
  clear_value x9
  apply Kept.ite
  · exact kx4
  · apply Kept.ite
    · apply Kept.ite
      · exact kx4
      · apply Kept.ite
        · with_reducible apply State.xflag_kept
          exact kx4
        · with_reducible apply State.axWrite_kept
          exact kx4
    · apply Kept.ite
      · with_reducible apply State.setProf_kept
        exact kx8
      · exact kx4

theorem State.refGroup_kept {r : State} (s : State) (g : Nat) (ks : Kept r s) : Kept r (State.refGroup s g) := by
  unfold State.refGroup
  lift_lets
  intro x0
  clear_value x0
  intro x1
  clear_value x1
  intro x2
  clear_value x2
  intro x3
  clear_value x3
  intro x4
  clear_value x4
  intro x5
  have kx5 : Kept r x5 := by
    unfold x5
    with_reducible apply State.raise_kept
    with_reducible apply State.setFlag_kept
    exact ks
  clear_value x5
  intro x6
  have kx6 : Kept r x6 := by
    unfold x6
    apply Kept.ite
    · refine Kept.foldl _ ?_ ?_
      · exact kx5
      · intro a7
        intro a8
        intro h9
        apply Kept.ite
        · with_reducible apply State.startStop_kept
          exact h9
        · exact h9
    · exact ks
  clear_value x6
  intro x10
  have kx10 : Kept r x10 := by
    unfold x10
    with_reducible apply State.putFlag_kept
    exact kx6
  clear_value x10
  intro x11
  clear_value x11
  intro x12
  have kx12 : Kept r x12 := by
    unfold x12
    with_reducible apply State.clrFlag_kept
    with_reducible apply State.clrFlag_kept
    exact ks
  clear_value x12
  apply Kept.ite
  · refine Kept.foldl _ ?_ ?_
    · exact kx10
    · intro a13
      intro a14
      intro h15
      with_reducible apply State.refMember_kept
      exact h15
  · apply Kept.ite
    · refine Kept.foldl _ ?_ ?_
      · exact kx12
      · intro a16
        intro a17
        intro h18
        lift_lets
        intro x19
        have kx19 : Kept r x19 := by
          unfold x19
          apply Kept.ite
          · with_reducible apply State.startStop_kept
            exact h18
          · exact h18
        clear_value x19
        intro x20
        clear_value x20
        with_reducible apply State.setProf_kept
        exact kx19
    · exact ks

theorem State.debounce_kept {r : State} (s : State) (a : Nat) (neg : Bool) (ks : Kept r s) : Kept r (State.debounce s a neg) := by
  unfold State.debounce
  lift_lets
  intro x0
  clear_value x0
  intro x1
  clear_value x1
  intro x2
  clear_value x2
  intro x3
  have kx3 : Kept r x3 := by
    unfold x3
    with_reducible apply State.setProf_kept
    exact ks
  clear_value x3
  apply Kept.ite
  · apply Kept.ite
    · with_reducible apply State.homeCheck_kept
      exact kx3
    · apply Kept.ite
      · with_reducible apply State.limitStop_kept
        exact kx3
      · exact kx3
  · exact ks

theorem State.groupSet_kept {r : State} (s : State) (src : Src) (d : Desc) (ks : Kept r s) : Kept r (State.groupSet s src d) := by
  unfold State.groupSet
  with_reducible apply State.cmd_kept
  · exact ks
  · intro a0
    intro h1
    apply Kept.ite
    · with_reducible apply State.complete_kept
      exact h1
    · apply Kept.ite
      · with_reducible apply State.complete_kept
        exact h1
      · with_reducible apply State.atBoundary_kept
        exact h1

theorem State.memberStart_kept {r : State} (s : State) (a : Nat) (ks : Kept r s) : Kept r (State.memberStart s a) := by
  unfold State.memberStart
  lift_lets
  intro x0
  clear_value x0
  cases hc1 : x0.q
  · try dsimp -zeta only
    apply Kept.ite
    · exact ks
    · with_reducible apply State.raise_kept
      with_reducible apply State.setFlag_kept
      exact ks
  · try dsimp -zeta only
    lift_lets
    intro x2
    clear_value x2
    try dsimp -zeta only
    apply Kept.ite
    · apply Kept.ite
      · with_reducible apply State.setProf_kept
        exact ks
      · with_reducible apply State.writeSetp_kept
        with_reducible apply State.startSeg_kept
        with_reducible apply State.setProf_kept
        exact ks
    · apply Kept.ite
      · exact ks
      · with_reducible apply State.raise_kept
        with_reducible apply State.setFlag_kept
        exact ks

theorem State.groupStart_kept {r : State} (s : State) (g : Nat) (ks : Kept r s) : Kept r (State.groupStart s g) := by
  unfold State.groupStart
  apply Kept.ite
  · lift_lets
    intro x0
    clear_value x0
    intro x1
    have kx1 : Kept r x1 := by
      unfold x1
      apply Kept.ite
      · with_reducible apply State.raise_kept
        with_reducible apply State.setFlag_kept
        exact ks
      · exact ks
    clear_value x1
    intro x2
    have kx2 : Kept r x2 := by
      unfold x2
      refine Kept.foldl _ ?_ ?_
      · exact kx1
      · intro a3
        intro a4
        intro h5
        with_reducible apply State.memberStart_kept
        exact h5
    clear_value x2
    intro x6
    have kx6 : Kept r x6 := by
      unfold x6
      with_reducible apply State.raise_kept
      with_reducible apply State.clrFlag_kept
      with_reducible apply State.clrFlag_kept
      exact kx2
    clear_value x6
    intro x7
    clear_value x7
    intro x8
    clear_value x8
    intro x9
    have kx9 : Kept r x9 := by
      unfold x9
      with_reducible apply Kept.upd
      exact kx6
    clear_value x9
    refine Kept.foldl _ ?_ ?_
    · exact kx9
    · intro a10
      intro a11
      intro h12
      with_reducible apply State.complete_kept
      exact h12
  · exact ks

theorem State.homeStall_kept {r : State} (s : State) (a : Nat) (ks : Kept r s) : Kept r (State.homeStall s a) := by
  unfold State.homeStall
  lift_lets
  intro x0
  clear_value x0
  intro x1
  have kx1 : Kept r x1 := by
    unfold x1
    with_reducible apply State.setPosition_kept
    exact ks
  clear_value x1
  intro x2
  clear_value x2
  apply Kept.ite
  · with_reducible apply State.setProf_kept
    exact kx1
  · exact ks

theorem State.homeStart_kept {r : State} (s : State) (src : Src) (d : Desc) (ks : Kept r s) : Kept r (State.homeStart s src d) := by
  unfold State.homeStart
  with_reducible apply State.cmd_kept
  · exact ks
  · intro a0
    intro h1
    cases hc2 : a0.homeError d
    · try dsimp -zeta only
      with_reducible apply State.atBoundary_kept
      exact h1
    · try dsimp -zeta only
      with_reducible apply State.complete_kept
      exact h1

theorem State.moveResume_kept {r : State} (s : State) (src : Src) (d : Desc) (ks : Kept r s) : Kept r (State.moveResume s src d) := by
  unfold State.moveResume
  with_reducible apply State.cmd_kept
  · exact ks
  · intro a0
    intro h1
    apply Kept.ite
    · with_reducible apply State.complete_kept
      exact h1
    · with_reducible apply State.atBoundary_kept
      exact h1

theorem State.moveSeg_kept {r : State} (s : State) (src : Src) (d : Desc) (ks : Kept r s) : Kept r (State.moveSeg s src d) := by
  unfold State.moveSeg
  with_reducible apply State.cmd_kept
  · exact ks
  · intro a0
    intro h1
    cases hc2 : a0.segError d
    · try dsimp -zeta only
      lift_lets
      intro x3
      clear_value x3
      intro x4
      clear_value x4
      intro x5
      clear_value x5
      apply Kept.ite
      · with_reducible apply State.complete_kept
        with_reducible apply State.setProf_kept
        exact h1
      · exact h1
    · try dsimp -zeta only
      with_reducible apply State.complete_kept
      exact h1

theorem State.moveStartGroup_kept {r : State} (s : State) (src : Src) (d : Desc) (ks : Kept r s) : Kept r (State.moveStartGroup s src d) := by
  unfold State.moveStartGroup
  with_reducible apply State.cmd_kept
  · exact ks
  · intro a0
    intro h1
    lift_lets
    intro x2
    clear_value x2
    intro x3
    have kx3 : Kept r x3 := by
      unfold x3
      with_reducible apply State.setRg_kept
      with_reducible apply State.putFlag_kept
      with_reducible apply State.setFlag_kept
      exact h1
    clear_value x3
    intro x4
    clear_value x4
    apply Kept.ite
    · with_reducible apply State.complete_kept
      exact h1
    · apply Kept.ite
      · with_reducible apply State.complete_kept
        exact h1
      · apply Kept.ite
        · with_reducible apply State.complete_kept
          exact h1
        · with_reducible apply Kept.upd
          exact kx3

theorem State.moveStop_kept {r : State} (s : State) (src : Src) (d : Desc) (ks : Kept r s) : Kept r (State.moveStop s src d) := by
  unfold State.moveStop
  with_reducible apply State.cmd_kept
  · exact ks
  · intro a0
    intro h1
    apply Kept.ite
    · with_reducible apply State.complete_kept
      exact h1
    · apply Kept.ite
      · with_reducible apply State.complete_kept
        exact h1
      · with_reducible apply State.atBoundary_kept
        exact h1

end Sys2Proof.Machine
end

