-- ==== Sys2Proof/Laws/KeptCpu.lean ====
section
/-! SUPPORT. What the operations of Machine/Cpu.lean keep (see Laws/Kept.lean). -/

namespace Sys2Proof.Machine

open Sys2Proof

theorem State.accessErr_kept {r : State} (s : State) (a : Agent) (e : AccErr) (off : Nat) (ks : Kept r s) : Kept r (State.accessErr s a e off) := by
  unfold State.accessErr
  cases a
  · try dsimp -zeta only
    lift_lets
    intro x1
    have kx1 : Kept r x1 := by
      unfold x1
      with_reducible apply State.setFlag_kept
      exact ks
    clear_value x1
    apply Kept.ite
    · exact kx1
    · with_reducible apply State.setRg_kept
      exact kx1
  · try dsimp -zeta only
    cases hc2 : e.cpuBit
    · try dsimp -zeta only
      exact ks
    · try dsimp -zeta only
      with_reducible apply State.setFlag_kept
      exact ks

theorem State.setHart_kept {r : State} (s : State) (h : Nat) (x : HartSt) (ks : Kept r s) : Kept r (State.setHart s h x) := by
  unfold State.setHart
  with_reducible apply Kept.upd
  exact ks

theorem State.hartAt_kept {r : State} (s : State) (h : Nat) (pc : Nat) (ks : Kept r s) : Kept r (State.hartAt s h pc) := by
  unfold State.hartAt
  with_reducible apply State.setHart_kept
  exact ks

theorem State.setRun_kept {r : State} (s : State) (h : Nat) (t : Nat) (ks : Kept r s) : Kept r (State.setRun s h t) := by
  unfold State.setRun
  with_reducible apply Kept.upd
  exact ks

theorem State.wdtKick_kept {r : State} (s : State) (h : Nat) (ks : Kept r s) : Kept r (State.wdtKick s h) := by
  unfold State.wdtKick
  with_reducible apply Kept.upd
  exact ks

theorem State.hartReset_kept {r : State} (s : State) (h : Nat) (ks : Kept r s) : Kept r (State.hartReset s h) := by
  unfold State.hartReset
  lift_lets
  intro x0
  have kx0 : Kept r x0 := by
    unfold x0
    with_reducible apply State.recordReset_kept
    with_reducible apply State.hartAt_kept
    with_reducible apply State.setRun_kept
    exact ks
  clear_value x0
  apply Kept.ite
  · with_reducible apply State.wdtKick_kept
    with_reducible apply State.clrFlag_kept
    exact kx0
  · exact kx0

theorem State.hrstWrite_kept {r : State} (s : State) (v : Word) (ks : Kept r s) : Kept r (State.hrstWrite s v) := by
  unfold State.hrstWrite
  refine Kept.foldl _ ?_ ?_
  · exact ks
  · intro a0
    intro a1
    intro h2
    apply Kept.ite
    · with_reducible apply State.hartReset_kept
      with_reducible apply State.setFlag_kept
      exact h2
    · exact h2

theorem State.portWrite_kept {r : State} (s : State) (p : Nat) (k : Nat) (v : Word) (ks : Kept r s) : Kept r (State.portWrite s p k v) := by
  unfold State.portWrite
  apply Kept.ite
  · with_reducible apply State.setFlag_kept
    exact ks
  · apply Kept.ite
    · lift_lets
      intro x0
      clear_value x0
      intro x1
      clear_value x1
      intro x2
      clear_value x2
      with_reducible apply State.setFlag_kept
      with_reducible apply Kept.upd
      exact ks
    · with_reducible apply Kept.upd
      exact ks

theorem State.ifSuper_kept {r : State} (s : State) (a : Agent) (guarded : Bool) (off : Nat) (k : State → State) (ks : Kept r s) (kk : ∀ (y0 : State), Kept r y0 → Kept r (k y0)) : Kept r (State.ifSuper s a guarded off k) := by
  unfold State.ifSuper
  apply Kept.ite
  · with_reducible apply State.accessErr_kept
    exact ks
  · refine kk _ ?_
    exact ks

theorem State.semPost_kept {r : State} (s : State) (a : Agent) (n : Nat) (v : Nat) (ks : Kept r s) : Kept r (State.semPost s a n v) := by
  unfold State.semPost
  with_reducible apply State.ifSuper_kept
  · exact ks
  · intro a0
    intro h1
    lift_lets
    intro x2
    clear_value x2
    intro x3
    have kx3 : Kept r x3 := by
      unfold x3
      apply Kept.ite
      · with_reducible apply State.setFlag_kept
        exact h1
      · exact h1
    clear_value x3
    intro x4
    clear_value x4
    with_reducible apply State.tokenEdge_kept
    with_reducible apply Kept.upd
    exact kx3

theorem State.mbxAppend_kept {r : State} (s : State) (a : Agent) (m : Nat) (w : Nat) (ks : Kept r s) : Kept r (State.mbxAppend s a m w) := by
  unfold State.mbxAppend
  with_reducible apply State.ifSuper_kept
  · exact ks
  · intro a0
    intro h1
    lift_lets
    intro x2
    clear_value x2
    intro x3
    clear_value x3
    apply Kept.ite
    · with_reducible apply State.setFlag_kept
      exact h1
    · with_reducible apply State.tokenEdge_kept
      with_reducible apply Kept.upd
      exact h1

theorem State.dspStart_kept {r : State} (s : State) (t : Nat) (ks : Kept r s) : Kept r (State.dspStart s t) := by
  unfold State.dspStart
  apply Kept.ite
  · with_reducible apply State.makeReady_kept
    exact ks
  · exact ks

theorem State.unlist_kept {r : State} (s : State) (t : Nat) (ks : Kept r s) : Kept r (State.unlist s t) := by
  unfold State.unlist
  lift_lets
  intro x0
  clear_value x0
  intro x1
  clear_value x1
  intro x2
  clear_value x2
  with_reducible apply Kept.upd
  exact ks

theorem State.afterCfg_kept {r : State} (s : State) (t : Nat) (old : Word) (ks : Kept r s) : Kept r (State.afterCfg s t old) := by
  unfold State.afterCfg
  apply Kept.ite
  · with_reducible apply State.unlist_kept
    exact ks
  · apply Kept.ite
    · lift_lets
      intro x0
      clear_value x0
      intro x1
      clear_value x1
      with_reducible apply Kept.upd
      exact ks
    · exact ks

theorem State.tokenWord_kept {r : State} (s : State) (off : Nat) (v : Word) (ks : Kept r s) : Kept r (State.tokenWord s off v) := by
  unfold State.tokenWord
  lift_lets
  intro x0
  clear_value x0
  intro x1
  clear_value x1
  intro x2
  have kx2 : Kept r x2 := by
    unfold x2
    apply Kept.ite
    · with_reducible apply State.setFlag_kept
      exact ks
    · exact ks
  clear_value x2
  with_reducible apply State.setRg_kept
  exact kx2

theorem State.threadWrite_kept {r : State} (s : State) (a : Agent) (t : Nat) (k : Nat) (v : Word) (ks : Kept r s) : Kept r (State.threadWrite s a t k v) := by
  unfold State.threadWrite
  lift_lets
  intro x0
  clear_value x0
  with_reducible apply State.ifSuper_kept
  · exact ks
  · intro a1
    intro h2
    split
    · with_reducible apply State.afterCfg_kept
      with_reducible apply State.setRg_kept
      exact h2
    · with_reducible apply State.tokenWord_kept
      exact h2
    · with_reducible apply State.tokenWord_kept
      exact h2
    · with_reducible apply State.setRg_kept
      exact h2
    · with_reducible apply State.setRg_kept
      exact h2
    · with_reducible apply State.setRg_kept
      exact h2
    · with_reducible apply State.setRg_kept
      exact h2
    · with_reducible apply State.setRg_kept
      exact h2
    · with_reducible apply State.setRg_kept
      exact h2
    · exact h2

theorem State.registerWait_kept {r : State} (s : State) (t : Nat) (ks : Kept r s) : Kept r (State.registerWait s t) := by
  unfold State.registerWait
  lift_lets
  intro x0
  clear_value x0
  intro x1
  clear_value x1
  intro x2
  clear_value x2
  intro x3
  clear_value x3
  apply Kept.ite
  · with_reducible apply State.setFlag_kept
    exact ks
  · apply Kept.ite
    · with_reducible apply State.makeReady_kept
      with_reducible apply State.finishWait_kept
      exact ks
    · with_reducible apply State.tokenEdge_kept
      with_reducible apply Kept.upd
      exact ks

theorem State.xdspWrite_kept {r : State} (s : State) (h : Nat) (code : Nat) (ks : Kept r s) : Kept r (State.xdspWrite s h code) := by
  unfold State.xdspWrite
  lift_lets
  intro x0
  clear_value x0
  intro x1
  have kx1 : Kept r x1 := by
    unfold x1
    with_reducible apply State.setRun_kept
    exact ks
  clear_value x1
  intro x2
  have kx2 : Kept r x2 := by
    unfold x2
    apply Kept.ite
    · with_reducible apply State.incFld_kept
      exact kx1
    · exact kx1
  clear_value x2
  apply Kept.ite
  · exact ks
  · apply Kept.ite
    · exact kx2
    · split
      · with_reducible apply State.makeReady_kept
        exact kx2
      · with_reducible apply State.makeReady_kept
        exact kx2
      · with_reducible apply State.registerWait_kept
        exact kx2
      · exact kx2

theorem State.csrOut_kept {r : State} (s : State) (h : Nat) (csr : Nat) (v : Nat) (ks : Kept r s) : Kept r (State.csrOut s h csr v) := by
  unfold State.csrOut
  with_reducible apply State.emit_kept
  exact ks

theorem State.dispatch_kept {r : State} (s : State) (h : Nat) (ks : Kept r s) : Kept r (State.dispatch s h) := by
  unfold State.dispatch
  apply Kept.ite
  · with_reducible apply State.csrOut_kept
    exact ks
  · cases hc0 : s.bestThread h
    · try dsimp -zeta only
      with_reducible apply State.csrOut_kept
      exact ks
    · try dsimp -zeta only
      lift_lets
      intro x1
      clear_value x1
      intro x2
      have kx2 : Kept r x2 := by
        unfold x2
        with_reducible apply State.setRun_kept
        with_reducible apply State.unlist_kept
        exact ks
      clear_value x2
      intro x3
      have kx3 : Kept r x3 := by
        unfold x3
        with_reducible apply State.incFld_kept
        exact kx2
      clear_value x3
      intro x4
      have kx4 : Kept r x4 := by
        unfold x4
        with_reducible apply State.setFld_kept
        exact kx3
      clear_value x4
      with_reducible apply State.csrOut_kept
      exact kx4

theorem State.evtClaim_kept {r : State} (s : State) (h : Nat) (ks : Kept r s) : Kept r (State.evtClaim s h) := by
  unfold State.evtClaim
  cases hc0 : List.find? (fun p => p.fst == h) s.evt.hpend
  · try dsimp -zeta only
    with_reducible apply State.csrOut_kept
    exact ks
  · try dsimp -zeta only
    lift_lets
    intro x1
    clear_value x1
    intro x2
    clear_value x2
    with_reducible apply State.csrOut_kept
    with_reducible apply Kept.upd
    exact ks

theorem State.ntimeRead_kept {r : State} (s : State) (h : Nat) (ks : Kept r s) : Kept r (State.ntimeRead s h) := by
  unfold State.ntimeRead
  lift_lets
  intro x0
  clear_value x0
  intro x1
  clear_value x1
  with_reducible apply State.csrOut_kept
  with_reducible apply Kept.upd
  exact ks

theorem State.hartTrap_kept {r : State} (s : State) (h : Nat) (cause : Nat) (tval : Word) (ks : Kept r s) : Kept r (State.hartTrap s h cause tval) := by
  unfold State.hartTrap
  with_reducible apply State.setHart_kept
  exact ks

theorem State.custWatchdog_kept {r : State} (s : State) (h : Nat) (ks : Kept r s) : Kept r (State.custWatchdog s h) := by
  unfold State.custWatchdog
  apply Kept.ite
  · with_reducible apply State.raise_kept
    with_reducible apply State.hartReset_kept
    exact ks
  · exact ks

theorem State.dispatchTick_kept {r : State} (s : State) (ks : Kept r s) : Kept r (State.dispatchTick s) := by
  unfold State.dispatchTick
  with_reducible apply State.tokenEdge_kept
  with_reducible apply Kept.upd
  exact ks

end Sys2Proof.Machine
end

