-- ==== Sys2Proof/Laws/KeptStage.lean ====
section
/-! SUPPORT. What the operations of Machine/Stage.lean keep (see Laws/Kept.lean). -/

namespace Sys2Proof.Machine

open Sys2Proof

theorem State.releaseCyc_kept {r : State} (s : State) (ks : Kept r s) : Kept r (State.releaseCyc s) := by
  unfold State.releaseCyc
  lift_lets
  intro x0
  clear_value x0
  intro x1
  clear_value x1
  intro x2
  clear_value x2
  intro x3
  clear_value x3
  with_reducible apply Kept.upd
  exact ks

theorem State.stageCyc_kept {r : State} (s : State) (a : Agent) (x : Staged) (ks : Kept r s) : Kept r (State.stageCyc s a x) := by
  unfold State.stageCyc
  lift_lets
  intro x0
  clear_value x0
  intro x1
  clear_value x1
  apply Kept.ite
  · with_reducible apply Kept.upd
    exact ks
  · with_reducible apply State.accessErr_kept
    with_reducible apply Kept.upd
    exact ks

end Sys2Proof.Machine
end

