-- ==== Sys2Proof/Laws/KeptAxisCmd.lean ====
section
/-! SUPPORT. What the operations of Machine/AxisCmd.lean keep (see Laws/Kept.lean). -/

namespace Sys2Proof.Machine

open Sys2Proof

theorem State.adaptRamp_kept {r : State} (s : State) (a : Nat) (ks : Kept r s) : Kept r (State.adaptRamp s a) := by
  unfold State.adaptRamp
  lift_lets
  intro x0
  clear_value x0
  intro x1
  clear_value x1
  intro x2
  have kx2 : Kept r x2 := by
    unfold x2
    apply Kept.ite
    · exact ks
    · with_reducible apply State.setAxis_kept
      exact ks
  clear_value x2
  apply Kept.ite
  · exact kx2
  · refine Kept.foldl _ ?_ ?_
    · exact kx2
    · intro a3
      intro a4
      intro h5
      lift_lets
      intro x6
      clear_value x6
      apply Kept.ite
      · exact h5
      · apply Kept.ite
        · with_reducible apply State.xflag_kept
          exact h5
        · with_reducible apply State.axWrite_kept
          exact h5

theorem State.pvalHold_kept {r : State} (s : State) (a : Nat) (v : Word) (ks : Kept r s) : Kept r (State.pvalHold s a v) := by
  unfold State.pvalHold
  with_reducible apply State.setAxis_kept
  exact ks

theorem State.hostPar_kept {r : State} (s : State) (a : Nat) (id : Nat) (v : Word) (ks : Kept r s) : Kept r (State.hostPar s a id v) := by
  unfold State.hostPar
  apply Kept.ite
  · lift_lets
    intro x0
    clear_value x0
    intro x1
    clear_value x1
    intro x2
    have kx2 : Kept r x2 := by
      unfold x2
      apply Kept.ite
      · with_reducible apply State.xflag_kept
        exact ks
      · exact ks
    clear_value x2
    intro x3
    clear_value x3
    with_reducible apply State.axWrite_kept
    with_reducible apply State.setAxis_kept
    exact kx2
  · apply Kept.ite
    · lift_lets
      intro x4
      have kx4 : Kept r x4 := by
        unfold x4
        apply Kept.ite
        · with_reducible apply State.setFlag_kept
          exact ks
        · exact ks
      clear_value x4
      intro x5
      clear_value x5
      with_reducible apply State.axWrite_kept
      with_reducible apply State.setFb_kept
      exact kx4
    · apply Kept.ite
      · with_reducible apply State.axWrite_kept
        with_reducible apply State.setProf_kept
        exact ks
      · with_reducible apply State.axWrite_kept
        exact ks

theorem State.parFlags_kept {r : State} (s : State) (a : Nat) (ovr : Bool) (hall : Bool) (ks : Kept r s) : Kept r (State.parFlags s a ovr hall) := by
  unfold State.parFlags
  lift_lets
  intro x0
  have kx0 : Kept r x0 := by
    unfold x0
    apply Kept.ite
    · with_reducible apply State.xflag_kept
      exact ks
    · exact ks
  clear_value x0
  apply Kept.ite
  · with_reducible apply State.flagEvent_kept
    exact kx0
  · exact kx0

theorem State.clearComm_kept {r : State} (s : State) (a : Nat) (v : Word) (ks : Kept r s) : Kept r (State.clearComm s a v) := by
  unfold State.clearComm
  with_reducible apply State.setXw_kept
  exact ks

theorem State.pvalWrite_kept {r : State} (s : State) (ag : Agent) (a : Nat) (v : Word) (ks : Kept r s) : Kept r (State.pvalWrite s ag a v) := by
  unfold State.pvalWrite
  lift_lets
  intro x0
  clear_value x0
  intro x1
  clear_value x1
  intro x2
  clear_value x2
  apply Kept.ite
  · with_reducible apply State.parFlags_kept
    exact ks
  · cases hc3 : Sys2Proof.Machine.parCls x0
    · try dsimp -zeta only
      with_reducible apply State.clearComm_kept
      exact ks
    · try dsimp -zeta only
      with_reducible apply State.stageCyc_kept
      exact ks
    · try dsimp -zeta only
      with_reducible apply State.stagePlan_kept
      exact ks
    · try dsimp -zeta only
      with_reducible apply State.clearComm_kept
      exact ks
    · try dsimp -zeta only
      with_reducible apply State.clearComm_kept
      exact ks

theorem State.dropMode_kept {r : State} (s : State) (a : Nat) (src : Src) (d : Desc) (ks : Kept r s) : Kept r (State.dropMode s a src d) := by
  unfold State.dropMode
  with_reducible apply State.complete_kept
  with_reducible apply State.xflag_kept
  with_reducible apply State.xflag_kept
  exact ks

theorem State.applyMode_kept {r : State} (s : State) (a : Nat) (m : Nat) (b : Nat) (ks : Kept r s) : Kept r (State.applyMode s a m b) := by
  unfold State.applyMode
  lift_lets
  intro x0
  clear_value x0
  intro x1
  have kx1 : Kept r x1 := by
    unfold x1
    with_reducible apply State.axWrite_kept
    with_reducible apply State.endInj_kept
    exact ks
  clear_value x1
  intro x2
  have kx2 : Kept r x2 := by
    unfold x2
    with_reducible apply State.startFailed_kept
    with_reducible apply State.setCst_kept
    exact kx1
  clear_value x2
  intro x3
  clear_value x3
  apply Kept.ite
  · with_reducible apply State.setCtl_kept
    exact kx2
  · apply Kept.ite
    · with_reducible apply State.setCst_kept
      exact kx1
    · apply Kept.ite
      · with_reducible apply State.startOk_kept
        exact kx1
      · exact kx1

theorem State.startSless_kept {r : State} (s : State) (a : Nat) (m : Nat) (b : Nat) (src : Src) (d : Desc) (ks : Kept r s) : Kept r (State.startSless s a m b src d) := by
  unfold State.startSless
  lift_lets
  intro x0
  have kx0 : Kept r x0 := by
    unfold x0
    apply Kept.ite
    · with_reducible apply State.startFailed_kept
      exact ks
    · exact ks
  clear_value x0
  intro x1
  have kx1 : Kept r x1 := by
    unfold x1
    with_reducible apply State.setXw_kept
    exact kx0
  clear_value x1
  intro x2
  clear_value x2
  intro x3
  have kx3 : Kept r x3 := by
    unfold x3
    with_reducible apply State.setCtl_kept
    exact kx1
  clear_value x3
  apply Kept.ite
  · with_reducible apply State.setCst_kept
    exact kx3
  · with_reducible apply State.toProbe_kept
    apply Kept.ite
    · with_reducible apply State.commFlag_kept
      exact kx3
    · exact kx3

theorem State.hostMode_kept {r : State} (s : State) (a : Nat) (hw : Option (Nat × Nat × Bool)) (src : Src) (d : Desc) (ks : Kept r s) : Kept r (State.hostMode s a hw src d).1 := by
  unfold State.hostMode
  lift_lets
  intro x0
  clear_value x0
  intro x1
  clear_value x1
  intro x2
  have kx2 : Kept r x2 := by
    unfold x2
    with_reducible apply State.setXw_kept
    exact ks
  clear_value x2
  cases hc3 : s.modeError a (s.modeNow a) d.op0
  · try dsimp -zeta only
    cases hw
    · try dsimp -zeta only
      apply Kept.iteP
      · dsimp only
        with_reducible apply State.startSless_kept
        exact ks
      · dsimp only
        with_reducible apply State.complete_kept
        with_reducible apply State.applyMode_kept
        exact kx2
    · try dsimp -zeta only
      apply Kept.iteP
      · dsimp only
        with_reducible apply State.complete_kept
        exact ks
      · apply Kept.iteP
        · dsimp only
          with_reducible apply State.complete_kept
          with_reducible apply State.applyMode_kept
          exact ks
        · dsimp only
          with_reducible apply State.dropMode_kept
          exact ks
  · try dsimp -zeta only
    cases hw
    · try dsimp -zeta only
      split
      · dsimp only
        with_reducible apply State.complete_kept
        exact ks
      · apply Kept.iteP
        · dsimp only
          with_reducible apply State.complete_kept
          exact ks
        · dsimp only
          with_reducible apply State.dropMode_kept
          exact ks
      · dsimp only
        with_reducible apply State.complete_kept
        exact ks
      · apply Kept.iteP
        · dsimp only
          with_reducible apply State.complete_kept
          exact ks
        · apply Kept.iteP
          · dsimp only
            with_reducible apply State.complete_kept
            with_reducible apply State.applyMode_kept
            exact ks
          · dsimp only
            with_reducible apply State.dropMode_kept
            exact ks
      · apply Kept.iteP
        · dsimp only
          with_reducible apply State.startSless_kept
          exact ks
        · dsimp only
          with_reducible apply State.complete_kept
          with_reducible apply State.applyMode_kept
          exact kx2
    · try dsimp -zeta only
      split
      · dsimp only
        with_reducible apply State.complete_kept
        exact ks
      · apply Kept.iteP
        · dsimp only
          with_reducible apply State.complete_kept
          exact ks
        · dsimp only
          with_reducible apply State.dropMode_kept
          exact ks
      · dsimp only
        with_reducible apply State.complete_kept
        exact ks
      · apply Kept.iteP
        · dsimp only
          with_reducible apply State.complete_kept
          exact ks
        · apply Kept.iteP
          · dsimp only
            with_reducible apply State.complete_kept
            with_reducible apply State.applyMode_kept
            exact ks
          · dsimp only
            with_reducible apply State.dropMode_kept
            exact ks
      · apply Kept.iteP
        · dsimp only
          with_reducible apply State.startSless_kept
          exact ks
        · dsimp only
          with_reducible apply State.complete_kept
          with_reducible apply State.applyMode_kept
          exact kx2

theorem State.brakeOff_kept {r : State} (s : State) (a : Nat) (ks : Kept r s) : Kept r (State.brakeOff s a) := by
  unfold State.brakeOff
  with_reducible apply State.axWrite_kept
  with_reducible apply State.endInj_kept
  exact ks

theorem State.modeStep_kept {r : State} (s : State) (a : Nat) (sets : List (Src × Desc)) (ks : Kept r s) : Kept r (State.modeStep s a sets) := by
  unfold State.modeStep
  lift_lets
  intro x0
  clear_value x0
  intro x1
  clear_value x1
  intro x2
  have kx2 : Kept r x2 := by
    unfold x2
    with_reducible apply State.setCtl_kept
    exact ks
  clear_value x2
  intro x3
  clear_value x3
  intro x4
  have kx4 : Kept r x4 := by
    unfold x4
    with_reducible apply State.setAxis_kept
    exact kx2
  clear_value x4
  intro x5
  have kx5 : Kept r x5.1 := by
    unfold x5
    refine Kept.foldlP _ ?_ ?_
    · dsimp only
      exact kx4
    · intro a6
      intro a7
      intro h8
      with_reducible apply State.hostMode_kept
      exact h8
  clear_value x5
  intro x9
  have kx9 : Kept r x9 := by
    unfold x9
    cases hc10 : x5.snd
    · try dsimp -zeta only
      exact kx5
    · try dsimp -zeta only
      apply Kept.ite
      · exact kx5
      · apply Kept.ite
        · with_reducible apply State.brakeOff_kept
          exact kx5
        · with_reducible apply State.applyMode_kept
          exact kx5
  clear_value x9
  apply Kept.ite
  · with_reducible apply State.startFailed_kept
    exact kx9
  · exact kx9

theorem State.paramWrite_kept {r : State} (s : State) (src : Src) (d : Desc) (ks : Kept r s) : Kept r (State.paramWrite s src d) := by
  unfold State.paramWrite
  lift_lets
  intro x0
  clear_value x0
  intro x1
  clear_value x1
  intro x2
  clear_value x2
  intro x3
  clear_value x3
  apply Kept.ite
  · with_reducible apply State.complete_kept
    with_reducible apply State.parFlags_kept
    exact ks
  · cases hc4 : Sys2Proof.Machine.parCls x1
    · try dsimp -zeta only
      with_reducible apply State.complete_kept
      with_reducible apply State.clearComm_kept
      exact ks
    · try dsimp -zeta only
      with_reducible apply State.atBoundary_kept
      exact ks
    · try dsimp -zeta only
      with_reducible apply State.complete_kept
      with_reducible apply State.stagePlan_kept
      exact ks
    · try dsimp -zeta only
      with_reducible apply State.complete_kept
      with_reducible apply State.clearComm_kept
      exact ks
    · try dsimp -zeta only
      with_reducible apply State.complete_kept
      with_reducible apply State.clearComm_kept
      exact ks

theorem State.dueParam_kept {r : State} (s : State) (src : Src) (d : Desc) (ks : Kept r s) : Kept r (State.dueParam s src d) := by
  unfold State.dueParam
  with_reducible apply State.complete_kept
  with_reducible apply State.hostPar_kept
  exact ks

theorem State.paramRead_kept {r : State} (s : State) (src : Src) (d : Desc) (ks : Kept r s) : Kept r (State.paramRead s src d) := by
  unfold State.paramRead
  lift_lets
  intro x0
  clear_value x0
  intro x1
  clear_value x1
  apply Kept.ite
  · with_reducible apply State.complete_kept
    exact ks
  · apply Kept.ite
    · with_reducible apply State.complete_kept
      exact ks
    · with_reducible apply State.complete_kept
      exact ks

theorem State.dueLock_kept {r : State} (s : State) (src : Src) (d : Desc) (ks : Kept r s) : Kept r (State.dueLock s src d) := by
  unfold State.dueLock
  lift_lets
  intro x0
  clear_value x0
  intro x1
  clear_value x1
  intro x2
  clear_value x2
  with_reducible apply State.complete_kept
  with_reducible apply State.setAxis_kept
  exact ks

theorem State.dueLearn_kept {r : State} (s : State) (src : Src) (d : Desc) (ks : Kept r s) : Kept r (State.dueLearn s src d) := by
  unfold State.dueLearn
  with_reducible apply State.complete_kept
  with_reducible apply State.xflag_kept
  with_reducible apply State.clearLearn_kept
  exact ks

theorem State.dueInject_kept {r : State} (s : State) (src : Src) (d : Desc) (ks : Kept r s) : Kept r (State.dueInject s src d) := by
  unfold State.dueInject
  lift_lets
  intro x0
  clear_value x0
  intro x1
  clear_value x1
  intro x2
  clear_value x2
  intro x3
  clear_value x3
  intro x4
  clear_value x4
  apply Kept.ite
  · with_reducible apply State.complete_kept
    exact ks
  · apply Kept.ite
    · with_reducible apply State.complete_kept
      exact ks
    · apply Kept.ite
      · with_reducible apply State.complete_kept
        apply Kept.ite
        · with_reducible apply State.axWrite_kept
          with_reducible apply State.endInj_kept
          exact ks
        · exact ks
      · apply Kept.ite
        · with_reducible apply State.complete_kept
          exact ks
        · with_reducible apply State.complete_kept
          with_reducible apply State.axWrite_kept
          with_reducible apply State.setAxis_kept
          exact ks

theorem State.clearLoss_kept {r : State} (s : State) (a : Nat) (ks : Kept r s) : Kept r (State.clearLoss s a) := by
  unfold State.clearLoss
  lift_lets
  intro x0
  clear_value x0
  intro x1
  have kx1 : Kept r x1 := by
    unfold x1
    with_reducible apply State.setFb_kept
    exact ks
  clear_value x1
  apply Kept.ite
  · apply Kept.ite
    · with_reducible apply State.fbSet_kept
      exact kx1
    · with_reducible apply State.fbSet_kept
      exact kx1
  · exact ks

theorem State.dueClear_kept {r : State} (s : State) (src : Src) (d : Desc) (ks : Kept r s) : Kept r (State.dueClear s src d) := by
  unfold State.dueClear
  lift_lets
  intro x0
  clear_value x0
  intro x1
  have kx1 : Kept r x1 := by
    unfold x1
    with_reducible apply State.clearLoss_kept
    exact ks
  clear_value x1
  intro x2
  have kx2 : Kept r x2 := by
    unfold x2
    with_reducible apply State.setHealth_kept
    exact kx1
  clear_value x2
  with_reducible apply State.complete_kept
  exact kx2

theorem State.axisAdaptLock_kept {r : State} (s : State) (src : Src) (d : Desc) (ks : Kept r s) : Kept r (State.axisAdaptLock s src d) := by
  unfold State.axisAdaptLock
  with_reducible apply State.cmd_kept
  · exact ks
  · intro a0
    intro h1
    apply Kept.ite
    · with_reducible apply State.complete_kept
      exact h1
    · apply Kept.ite
      · with_reducible apply State.complete_kept
        exact h1
      · with_reducible apply State.atBoundary_kept
        exact h1

theorem State.axisClearFault_kept {r : State} (s : State) (src : Src) (d : Desc) (ks : Kept r s) : Kept r (State.axisClearFault s src d) := by
  unfold State.axisClearFault
  with_reducible apply State.cmd_kept
  · exact ks
  · intro a0
    intro h1
    apply Kept.ite
    · with_reducible apply State.complete_kept
      exact h1
    · with_reducible apply State.atBoundary_kept
      exact h1

theorem State.axisInject_kept {r : State} (s : State) (src : Src) (d : Desc) (ks : Kept r s) : Kept r (State.axisInject s src d) := by
  unfold State.axisInject
  with_reducible apply State.cmd_kept
  · exact ks
  · intro a0
    intro h1
    with_reducible apply State.atBoundary_kept
    exact h1

theorem State.axisLearnReset_kept {r : State} (s : State) (src : Src) (d : Desc) (ks : Kept r s) : Kept r (State.axisLearnReset s src d) := by
  unfold State.axisLearnReset
  with_reducible apply State.cmd_kept
  · exact ks
  · intro a0
    intro h1
    apply Kept.ite
    · with_reducible apply State.complete_kept
      exact h1
    · with_reducible apply State.atBoundary_kept
      exact h1

theorem State.axisParamRead_kept {r : State} (s : State) (src : Src) (d : Desc) (ks : Kept r s) : Kept r (State.axisParamRead s src d) := by
  unfold State.axisParamRead
  with_reducible apply State.cmd_kept
  · exact ks
  · intro a0
    intro h1
    with_reducible apply State.soon_kept
    · exact h1
    · intro a2
      intro h3
      with_reducible apply State.paramRead_kept
      exact h3

theorem State.axisParamWrite_kept {r : State} (s : State) (src : Src) (d : Desc) (ks : Kept r s) : Kept r (State.axisParamWrite s src d) := by
  unfold State.axisParamWrite
  with_reducible apply State.cmd_kept
  · exact ks
  · intro a0
    intro h1
    apply Kept.ite
    · with_reducible apply State.atBoundary_kept
      exact h1
    · with_reducible apply State.paramWrite_kept
      exact h1

theorem State.axisSetMode_kept {r : State} (s : State) (src : Src) (d : Desc) (ks : Kept r s) : Kept r (State.axisSetMode s src d) := by
  unfold State.axisSetMode
  with_reducible apply State.cmd_kept
  · exact ks
  · intro a0
    intro h1
    with_reducible apply State.atBoundary_kept
    exact h1

theorem State.commExpired_kept {r : State} (s : State) (a : Nat) (ks : Kept r s) : Kept r (State.commExpired s a) := by
  unfold State.commExpired
  lift_lets
  intro x0
  have kx0 : Kept r x0 := by
    unfold x0
    with_reducible apply State.worsen_kept
    with_reducible apply State.commFlag_kept
    with_reducible apply State.gateOff_kept
    exact ks
  clear_value x0
  with_reducible apply State.startFailed_kept
  apply Kept.ite
  · exact kx0
  · with_reducible apply State.request_kept
    exact kx0

theorem State.catchTmo_kept {r : State} (s : State) (a : Nat) (ks : Kept r s) : Kept r (State.catchTmo s a) := by
  unfold State.catchTmo
  apply Kept.ite
  · with_reducible apply State.commExpired_kept
    exact ks
  · exact ks

theorem State.fbBoundary_kept {r : State} (s : State) (a : Nat) (ks : Kept r s) : Kept r (State.fbBoundary s a) := by
  unfold State.fbBoundary
  lift_lets
  intro x0
  clear_value x0
  intro x1
  clear_value x1
  intro x2
  clear_value x2
  intro x3
  have kx3 : Kept r x3 := by
    unfold x3
    with_reducible apply State.fbStatus_kept
    with_reducible apply State.setFb_kept
    exact ks
  clear_value x3
  intro x4
  clear_value x4
  apply Kept.ite
  · exact ks
  · with_reducible apply State.setFb_kept
    exact kx3

theorem State.ledgerBoundary_kept {r : State} (s : State) (ks : Kept r s) : Kept r (State.ledgerBoundary s) := by
  unfold State.ledgerBoundary
  lift_lets
  intro x0
  clear_value x0
  intro x1
  clear_value x1
  intro x2
  have kx2 : Kept r x2 := by
    unfold x2
    with_reducible apply Kept.upd
    exact ks
  clear_value x2
  refine Kept.foldl _ ?_ ?_
  · exact kx2
  · intro a3
    intro a4
    intro h5
    with_reducible apply State.axWrite_kept
    with_reducible apply State.axWrite_kept
    exact h5

theorem State.freezeDetect_kept {r : State} (s : State) (a : Nat) (ks : Kept r s) : Kept r (State.freezeDetect s a) := by
  unfold State.freezeDetect
  lift_lets
  intro x0
  clear_value x0
  intro x1
  clear_value x1
  intro x2
  clear_value x2
  apply Kept.ite
  · with_reducible apply State.setFb_kept
    exact ks
  · apply Kept.ite
    · with_reducible apply State.setFb_kept
      exact ks
    · exact ks

theorem State.judgeJ_kept {r : State} (s : State) (a : Nat) (ks : Kept r s) : Kept r (State.judgeJ s a) := by
  unfold State.judgeJ
  lift_lets
  intro x0
  clear_value x0
  intro x1
  clear_value x1
  intro x2
  clear_value x2
  intro x3
  have kx3 : Kept r x3 := by
    unfold x3
    with_reducible apply State.setAxis_kept
    exact ks
  clear_value x3
  apply Kept.ite
  · with_reducible apply State.xflag_kept
    exact kx3
  · exact kx3

theorem State.idFit_kept {r : State} (s : State) (a : Nat) (x1 : Int) (x2 : Int) (x3 : Int) (y : Int) (ks : Kept r s) : Kept r (State.idFit s a x1 x2 x3 y) := by
  unfold State.idFit
  lift_lets
  intro x0
  clear_value x0
  intro x1
  clear_value x1
  intro x2
  clear_value x2
  intro x3
  have kx3 : Kept r x3 := by
    unfold x3
    apply Kept.ite
    · with_reducible apply Kept.updFree
      exact ks
    · exact ks
  clear_value x3
  intro x4
  clear_value x4
  intro x5
  clear_value x5
  intro x6
  have kx6 : Kept r x6 := by
    unfold x6
    apply Kept.ite
    · with_reducible apply Kept.updFree
      exact kx3
    · exact kx3
  clear_value x6
  intro x7
  clear_value x7
  intro x8
  clear_value x8
  intro x9
  clear_value x9
  intro x10
  clear_value x10
  with_reducible apply State.setAxis_kept
  exact kx6

theorem State.idBlock_kept {r : State} (s : State) (a : Nat) (ks : Kept r s) : Kept r (State.idBlock s a) := by
  unfold State.idBlock
  lift_lets
  intro x0
  clear_value x0
  intro x1
  clear_value x1
  intro x2
  clear_value x2
  intro x3
  clear_value x3
  intro x4
  clear_value x4
  intro x5
  clear_value x5
  intro x6
  clear_value x6
  intro x7
  clear_value x7
  intro x8
  clear_value x8
  intro x9
  have kx9 : Kept r x9 := by
    unfold x9
    with_reducible apply State.setAxis_kept
    exact ks
  clear_value x9
  apply Kept.ite
  · exact ks
  · with_reducible apply State.judgeJ_kept
    apply Kept.ite
    · with_reducible apply State.idFit_kept
      exact kx9
    · exact kx9

theorem State.ledgerRun_kept {r : State} (s : State) (g : Nat) (l : List PlanAxis) (c : BitVec 32) (ks : Kept r s) : Kept r (State.ledgerRun s g l c) := by
  unfold State.ledgerRun
  lift_lets
  intro x0
  clear_value x0
  intro x1
  intro x2
  clear_value x2
  intro x3
  clear_value x3
  intro x4
  clear_value x4
  intro x5
  clear_value x5
  intro x6
  clear_value x6
  intro x7
  clear_value x7
  intro x8
  clear_value x8
  intro x9
  clear_value x9
  intro x10
  clear_value x10
  intro x11
  clear_value x11
  intro x12
  clear_value x12
  intro x13
  clear_value x13
  intro x14
  clear_value x14
  intro x15
  intro x16
  clear_value x16
  intro x17
  clear_value x17
  intro x18
  have kx18 : Kept r x18 := by
    unfold x18
    with_reducible apply State.setRg_kept
    exact ks
  clear_value x18
  intro x19
  intro x20
  have kx20 : Kept r x20 := by
    unfold x20
    with_reducible apply State.setRg_kept
    with_reducible apply State.setRg_kept
    exact kx18
  clear_value x20
  intro x21
  have kx21 : Kept r x21 := by
    unfold x21
    apply Kept.ite
    · with_reducible apply State.flagEvent_kept
      exact kx20
    · exact kx20
  clear_value x21
  intro x22
  have kx22 : Kept r x22 := by
    unfold x22
    apply Kept.ite
    · with_reducible apply State.flagEvent_kept
      exact kx21
    · exact kx21
  clear_value x22
  intro x23
  have kx23 : Kept r x23 := by
    unfold x23
    apply Kept.ite
    · with_reducible apply State.flagEvent_kept
      exact kx22
    · exact kx22
  clear_value x23
  intro x24
  clear_value x24
  intro x25
  clear_value x25
  with_reducible apply Kept.upd
  exact kx23

theorem State.ledgerCompute_kept {r : State} (s : State) (g : Nat) (ks : Kept r s) : Kept r (State.ledgerCompute s g) := by
  unfold State.ledgerCompute
  lift_lets
  intro x0
  clear_value x0
  cases x0
  · try dsimp -zeta only
    exact ks
  · try dsimp -zeta only
    lift_lets
    intro x2
    clear_value x2
    intro x3
    clear_value x3
    try dsimp -zeta only
    apply Kept.ite
    · exact ks
    · with_reducible apply State.ledgerRun_kept
      exact ks

theorem State.relockTmo_kept {r : State} (s : State) (a : Nat) (ks : Kept r s) : Kept r (State.relockTmo s a) := by
  unfold State.relockTmo
  lift_lets
  intro x0
  clear_value x0
  intro x1
  clear_value x1
  intro x2
  clear_value x2
  apply Kept.ite
  · with_reducible apply State.commExpired_kept
    exact ks
  · exact ks

theorem State.scheduleAxis_kept {r : State} (s : State) (a : Nat) (ks : Kept r s) : Kept r (State.scheduleAxis s a) := by
  unfold State.scheduleAxis
  lift_lets
  intro x0
  clear_value x0
  intro x1
  clear_value x1
  intro x2
  clear_value x2
  intro x3
  clear_value x3
  intro x4
  clear_value x4
  intro x5
  clear_value x5
  intro x6
  clear_value x6
  intro x7
  clear_value x7
  intro x8
  clear_value x8
  intro x9
  clear_value x9
  intro x10
  clear_value x10
  intro x11
  have kx11 : Kept r x11 := by
    unfold x11
    with_reducible apply State.setAxis_kept
    exact ks
  clear_value x11
  apply Kept.ite
  · exact ks
  · apply Kept.ite
    · exact kx11
    · with_reducible apply State.xflag_kept
      exact kx11

theorem State.tqRampDone_kept {r : State} (s : State) (a : Nat) (ks : Kept r s) : Kept r (State.tqRampDone s a) := by
  unfold State.tqRampDone
  apply Kept.ite
  · with_reducible apply State.setCst_kept
    exact ks
  · exact ks

end Sys2Proof.Machine
end

