-- ==== Sys2Proof/Laws/KeptCan.lean ====
section
/-! SUPPORT. What the operations of Machine/Can.lean keep (see Laws/Kept.lean). -/

namespace Sys2Proof.Machine

open Sys2Proof

theorem State.setCanC_kept {r : State} (s : State) (n : Nat) (c : CanCtl) (ks : Kept r s) : Kept r (State.setCanC s n c) := by
  unfold State.setCanC
  with_reducible apply Kept.upd
  exact ks

theorem State.setCanB_kept {r : State} (s : State) (n : Nat) (b : Nat) (x : CanBuf) (ks : Kept r s) : Kept r (State.setCanB s n b x) := by
  unfold State.setCanB
  lift_lets
  intro x0
  clear_value x0
  intro x1
  have kx1 : Kept r x1 := by
    unfold x1
    with_reducible apply State.setCanC_kept
    exact ks
  clear_value x1
  intro x2
  clear_value x2
  intro x3
  clear_value x3
  intro x4
  clear_value x4
  intro x5
  clear_value x5
  intro x6
  clear_value x6
  with_reducible apply State.setFld_kept
  with_reducible apply State.setFld_kept
  exact kx1

theorem State.canEnd_kept {r : State} (s : State) (n : Nat) (b : Nat) (st : St) (lo : Nat) (hi : Nat) (ks : Kept r s) : Kept r (State.canEnd s n b st lo hi) := by
  unfold State.canEnd
  cases hc0 : (s.canB n b).tx
  · try dsimp -zeta only
    exact ks
  · try dsimp -zeta only
    lift_lets
    intro x1
    clear_value x1
    intro x2
    have kx2 : Kept r x2 := by
      unfold x2
      with_reducible apply State.setCanB_kept
      exact ks
    clear_value x2
    intro x3
    have kx3 : Kept r x3 := by
      unfold x3
      apply Kept.ite
      · with_reducible apply State.setFld_kept
        exact kx2
      · exact kx2
    clear_value x3
    with_reducible apply State.complete_kept
    exact kx3

theorem State.canFlush_kept {r : State} (s : State) (ks : Kept r s) : Kept r (State.canFlush s) := by
  unfold State.canFlush
  refine Kept.foldl _ ?_ ?_
  · exact ks
  · intro a0
    intro a1
    intro h2
    lift_lets
    intro x3
    have kx3 : Kept r x3 := by
      unfold x3
      refine Kept.foldl _ ?_ ?_
      · exact h2
      · intro a4
        intro a5
        intro h6
        with_reducible apply State.canEnd_kept
        exact h6
    clear_value x3
    intro x7
    clear_value x7
    intro x8
    have kx8 : Kept r x8 := by
      unfold x8
      with_reducible apply State.setCanC_kept
      exact kx3
    clear_value x8
    intro x9
    have kx9 : Kept r x9 := by
      unfold x9
      cases hc10 : x7.sleep
      · try dsimp -zeta only
        exact kx8
      · try dsimp -zeta only
        with_reducible apply State.complete_kept
        exact kx8
    clear_value x9
    cases hc11 : x7.recover
    · try dsimp -zeta only
      exact kx9
    · try dsimp -zeta only
      with_reducible apply State.complete_kept
      exact kx9

theorem State.canCfgErr_kept {r : State} (s : State) (n : Nat) (ks : Kept r s) : Kept r (State.canCfgErr s n) := by
  unfold State.canCfgErr
  with_reducible apply State.setFlag_kept
  exact ks

theorem State.canMb_kept {r : State} (s : State) (n : Nat) (b : Nat) (k : State → State) (ks : Kept r s) (kk : ∀ (y0 : State), Kept r y0 → Kept r (k y0)) : Kept r (State.canMb s n b k) := by
  unfold State.canMb
  apply Kept.ite
  · with_reducible apply State.canCfgErr_kept
    exact ks
  · refine kk _ ?_
    exact ks

theorem State.canLock_kept {r : State} (s : State) (n : Nat) (b : Nat) (ks : Kept r s) : Kept r (State.canLock s n b) := by
  unfold State.canLock
  with_reducible apply State.canMb_kept
  · exact ks
  · intro a0
    intro h1
    with_reducible apply State.setCanB_kept
    exact h1

theorem State.canPop_kept {r : State} (s : State) (n : Nat) (b : Nat) (ks : Kept r s) : Kept r (State.canPop s n b) := by
  unfold State.canPop
  lift_lets
  intro x0
  clear_value x0
  with_reducible apply State.setCanB_kept
  exact ks

theorem State.canRel_kept {r : State} (s : State) (n : Nat) (b : Nat) (ks : Kept r s) : Kept r (State.canRel s n b) := by
  unfold State.canRel
  with_reducible apply State.canMb_kept
  · exact ks
  · intro a0
    intro h1
    with_reducible apply State.canPop_kept
    exact h1

theorem State.canAbort_kept {r : State} (s : State) (n : Nat) (b : Nat) (ks : Kept r s) : Kept r (State.canAbort s n b) := by
  unfold State.canAbort
  cases hc0 : (s.canB n b).tx
  · try dsimp -zeta only
    exact ks
  · try dsimp -zeta only
    apply Kept.ite
    · with_reducible apply State.setCanB_kept
      exact ks
    · with_reducible apply State.canEnd_kept
      exact ks

theorem State.setCanAct_kept {r : State} (s : State) (n : Nat) (v : Nat) (ks : Kept r s) : Kept r (State.setCanAct s n v) := by
  unfold State.setCanAct
  with_reducible apply State.setFld_kept
  exact ks

theorem State.canDropSleep_kept {r : State} (s : State) (n : Nat) (ks : Kept r s) : Kept r (State.canDropSleep s n) := by
  unfold State.canDropSleep
  cases hc0 : (s.canC n).sleep
  · try dsimp -zeta only
    exact ks
  · try dsimp -zeta only
    with_reducible apply State.complete_kept
    with_reducible apply State.setCanC_kept
    exact ks

theorem State.canStb_kept {r : State} (s : State) (n : Nat) (ks : Kept r s) : Kept r (State.canStb s n) := by
  unfold State.canStb
  with_reducible apply State.emit_kept
  exact ks

theorem State.canKick_kept {r : State} (s : State) (n : Nat) (ks : Kept r s) : Kept r (State.canKick s n) := by
  unfold State.canKick
  apply Kept.ite
  · cases hc0 : s.canPick n
    · try dsimp -zeta only
      exact ks
    · try dsimp -zeta only
      lift_lets
      intro x1
      clear_value x1
      intro x2
      have kx2 : Kept r x2 := by
        unfold x2
        with_reducible apply State.setCanB_kept
        exact ks
      clear_value x2
      with_reducible apply State.emit_kept
      with_reducible apply State.setCanAct_kept
      exact kx2
  · exact ks

theorem State.canCtlWrite_kept {r : State} (s : State) (n : Nat) (v : Word) (ks : Kept r s) : Kept r (State.canCtlWrite s n v) := by
  unfold State.canCtlWrite
  lift_lets
  intro x0
  clear_value x0
  intro x1
  clear_value x1
  intro x2
  clear_value x2
  apply Kept.ite
  · exact ks
  · cases hc3 : if Sys2Proof.Machine.bits x1 31 16 = 0 then (s.fld x0 31 16, Bool.true) else (Sys2Proof.Machine.bits x1 31 16, Bool.false)
    try dsimp -zeta only
    lift_lets
    intro x4
    clear_value x4
    try dsimp -zeta only
    lift_lets
    intro x5
    have kx5 : Kept r x5 := by
      unfold x5
      apply Kept.ite
      · with_reducible apply State.setFlag_kept
        exact ks
      · exact ks
    clear_value x5
    intro x6
    have kx6 : Kept r x6 := by
      unfold x6
      with_reducible apply State.setRg_kept
      exact kx5
    clear_value x6
    intro x7
    have kx7 : Kept r x7 := by
      unfold x7
      with_reducible apply State.putFlag_kept
      exact kx6
    clear_value x7
    intro x8
    clear_value x8
    intro x9
    have kx9 : Kept r x9 := by
      unfold x9
      with_reducible apply State.canDropSleep_kept
      exact kx6
    clear_value x9
    apply Kept.ite
    · apply Kept.ite
      · apply Kept.ite
        · with_reducible apply State.setCanAct_kept
          exact kx7
        · exact kx7
      · with_reducible apply State.canCfgErr_kept
        with_reducible apply State.setRg_kept
        exact kx5
    · apply Kept.ite
      · apply Kept.ite
        · exact kx9
        · with_reducible apply State.canStb_kept
          with_reducible apply State.clrFlag_kept
          with_reducible apply State.setCanAct_kept
          exact kx9
      · apply Kept.ite
        · exact kx6
        · with_reducible apply State.canKick_kept
          with_reducible apply State.putFlag_kept
          exact kx6

theorem State.canDrain_kept {r : State} (s : State) (n : Nat) (z2 : Nat) (ks : Kept r s) : Kept r (State.canDrain s n z2) := by
  induction z2 generalizing s with
  | zero => exact ks
  | succ f ih =>
    unfold State.canDrain
    split
    · split
      · dsimp only
        split
        · exact ih _ (State.canPop_kept _ _ _ (Kept.foldl _ (State.setCanC_kept _ _ _ ks) fun x e hx => State.pushRing_kept _ _ _ hx))
        · exact ks
      · exact ks
    · exact ks

theorem State.canMbCfgSet_kept {r : State} (s : State) (n : Nat) (b : Nat) (v : Word) (ks : Kept r s) : Kept r (State.canMbCfgSet s n b v) := by
  unfold State.canMbCfgSet
  lift_lets
  intro x0
  have kx0 : Kept r x0 := by
    unfold x0
    with_reducible apply State.setRg_kept
    exact ks
  clear_value x0
  intro x1
  clear_value x1
  apply Kept.ite
  · with_reducible apply State.canDrain_kept
    exact kx0
  · with_reducible apply State.setCanB_kept
    exact kx0

theorem State.canRecover_kept {r : State} (s : State) (src : Src) (d : Desc) (ks : Kept r s) : Kept r (State.canRecover s src d) := by
  unfold State.canRecover
  lift_lets
  intro x0
  clear_value x0
  intro x1
  clear_value x1
  intro x2
  have kx2 : Kept r x2 := by
    unfold x2
    with_reducible apply State.setCanC_kept
    exact ks
  clear_value x2
  apply Kept.ite
  · with_reducible apply State.complete_kept
    exact ks
  · apply Kept.ite
    · with_reducible apply State.complete_kept
      exact ks
    · apply Kept.ite
      · with_reducible apply State.complete_kept
        exact ks
      · apply Kept.ite
        · with_reducible apply State.complete_kept
          exact ks
        · apply Kept.ite
          · exact kx2
          · with_reducible apply State.setCanAct_kept
            exact kx2

theorem State.canSleep_kept {r : State} (s : State) (src : Src) (d : Desc) (ks : Kept r s) : Kept r (State.canSleep s src d) := by
  unfold State.canSleep
  lift_lets
  intro x0
  clear_value x0
  intro x1
  clear_value x1
  apply Kept.ite
  · with_reducible apply State.complete_kept
    exact ks
  · apply Kept.ite
    · with_reducible apply State.complete_kept
      exact ks
    · apply Kept.ite
      · with_reducible apply State.complete_kept
        exact ks
      · apply Kept.ite
        · with_reducible apply State.complete_kept
          exact ks
        · with_reducible apply State.setCanC_kept
          exact ks

theorem State.canFailed_kept {r : State} (s : State) (n : Nat) (cause : Nat) (ks : Kept r s) : Kept r (State.canFailed s n cause) := by
  unfold State.canFailed
  cases hc0 : s.canActive n
  · try dsimp -zeta only
    exact ks
  · try dsimp -zeta only
    apply Kept.ite
    · with_reducible apply State.canEnd_kept
      exact ks
    · apply Kept.ite
      · with_reducible apply State.canEnd_kept
        exact ks
      · with_reducible apply State.setCanB_kept
        exact ks

theorem State.canArbLost_kept {r : State} (s : State) (n : Nat) (ks : Kept r s) : Kept r (State.canArbLost s n) := by
  unfold State.canArbLost
  apply Kept.ite
  · with_reducible apply State.setCanAct_kept
    with_reducible apply State.canFailed_kept
    exact ks
  · exact ks

theorem State.canAsleep_kept {r : State} (s : State) (n : Nat) (ks : Kept r s) : Kept r (State.canAsleep s n) := by
  unfold State.canAsleep
  cases hc0 : (s.canC n).sleep
  · try dsimp -zeta only
    exact ks
  · try dsimp -zeta only
    apply Kept.ite
    · exact ks
    · lift_lets
      intro x1
      clear_value x1
      intro x2
      have kx2 : Kept r x2 := by
        unfold x2
        with_reducible apply State.setCanC_kept
        exact ks
      clear_value x2
      with_reducible apply State.complete_kept
      with_reducible apply State.canStb_kept
      with_reducible apply State.putFlag_kept
      with_reducible apply State.setCanAct_kept
      exact kx2

theorem State.canBackoffEnd_kept {r : State} (s : State) (n : Nat) (b : Nat) (ks : Kept r s) : Kept r (State.canBackoffEnd s n b) := by
  unfold State.canBackoffEnd
  apply Kept.ite
  · with_reducible apply State.canKick_kept
    with_reducible apply State.setCanB_kept
    exact ks
  · exact ks

theorem State.canBoundary_kept {r : State} (s : State) (ks : Kept r s) : Kept r (State.canBoundary s) := by
  unfold State.canBoundary
  refine Kept.foldl _ ?_ ?_
  · exact ks
  · intro a0
    intro a1
    intro h2
    with_reducible apply State.canKick_kept
    exact h2

theorem State.canBusOff_kept {r : State} (s : State) (n : Nat) (ks : Kept r s) : Kept r (State.canBusOff s n) := by
  unfold State.canBusOff
  apply Kept.ite
  · exact ks
  · lift_lets
    intro x0
    clear_value x0
    intro x1
    have kx1 : Kept r x1 := by
      unfold x1
      cases hc2 : s.canActive n
      · try dsimp -zeta only
        exact ks
      · try dsimp -zeta only
        lift_lets
        intro x3
        clear_value x3
        try dsimp -zeta only
        with_reducible apply State.setCanB_kept
        exact ks
    clear_value x1
    intro x4
    have kx4 : Kept r x4 := by
      unfold x4
      cases x0
      · try dsimp -zeta only
        exact kx1
      · try dsimp -zeta only
        with_reducible apply State.setFld_kept
        with_reducible apply State.setFlag_kept
        exact kx1
    clear_value x4
    intro x6
    have kx6 : Kept r x6 := by
      unfold x6
      with_reducible apply State.setFlag_kept
      with_reducible apply State.setFld_kept
      exact kx4
    clear_value x6
    intro x7
    have kx7 : Kept r x7 := by
      unfold x7
      with_reducible apply State.setCanAct_kept
      exact kx6
    clear_value x7
    with_reducible apply State.canDropSleep_kept
    with_reducible apply State.raise_kept
    exact kx7

theorem State.canCollide_kept {r : State} (s : State) (n : Nat) (b : Nat) (ks : Kept r s) : Kept r (State.canCollide s n b) := by
  unfold State.canCollide
  lift_lets
  intro x0
  clear_value x0
  intro x1
  clear_value x1
  intro x2
  have kx2 : Kept r x2 := by
    unfold x2
    with_reducible apply State.setCanB_kept
    exact ks
  clear_value x2
  intro x3
  have kx3 : Kept r x3 := by
    unfold x3
    with_reducible apply State.raise_kept
    with_reducible apply State.setFlag_kept
    with_reducible apply State.setFlag_kept
    exact kx2
  clear_value x3
  intro x4
  clear_value x4
  apply Kept.ite
  · apply Kept.ite
    · with_reducible apply State.setCanB_kept
      exact kx3
    · exact kx3
  · exact kx2

theorem State.canCount_kept {r : State} (s : State) (n : Nat) (tec : Nat) (recv : Nat) (ks : Kept r s) : Kept r (State.canCount s n tec recv) := by
  unfold State.canCount
  lift_lets
  intro x0
  clear_value x0
  intro x1
  have kx1 : Kept r x1 := by
    unfold x1
    with_reducible apply State.setCanC_kept
    exact ks
  clear_value x1
  intro x2
  have kx2 : Kept r x2 := by
    unfold x2
    with_reducible apply State.setRg_kept
    exact kx1
  clear_value x2
  intro x3
  clear_value x3
  intro x4
  have kx4 : Kept r x4 := by
    unfold x4
    with_reducible apply State.setFld_kept
    exact kx2
  clear_value x4
  intro x5
  have kx5 : Kept r x5 := by
    unfold x5
    apply Kept.ite
    · with_reducible apply State.setFlag_kept
      exact kx4
    · exact kx4
  clear_value x5
  apply Kept.ite
  · exact kx2
  · with_reducible apply State.raise_kept
    exact kx5

theorem State.canIdle_kept {r : State} (s : State) (n : Nat) (ks : Kept r s) : Kept r (State.canIdle s n) := by
  unfold State.canIdle
  apply Kept.ite
  · apply Kept.ite
    · with_reducible apply State.setCanAct_kept
      exact ks
    · with_reducible apply State.canKick_kept
      with_reducible apply State.setCanAct_kept
      exact ks
  · exact ks

theorem State.canError_kept {r : State} (s : State) (n : Nat) (e : CanErr) (ks : Kept r s) : Kept r (State.canError s n e) := by
  unfold State.canError
  lift_lets
  intro x0
  clear_value x0
  intro x1
  clear_value x1
  intro x2
  have kx2 : Kept r x2 := by
    unfold x2
    apply Kept.ite
    · exact ks
    · with_reducible apply State.incFld_kept
      exact ks
  clear_value x2
  intro x3
  clear_value x3
  intro x4
  clear_value x4
  intro x5
  clear_value x5
  intro x6
  have kx6 : Kept r x6 := by
    unfold x6
    with_reducible apply State.canCount_kept
    exact kx2
  clear_value x6
  intro x7
  have kx7 : Kept r x7 := by
    unfold x7
    cases hc8 : x6.canActive n
    · try dsimp -zeta only
      exact kx6
    · try dsimp -zeta only
      apply Kept.ite
      · with_reducible apply State.canCollide_kept
        exact kx6
      · exact kx6
  clear_value x7
  intro x9
  have kx9 : Kept r x9 := by
    unfold x9
    apply Kept.ite
    · with_reducible apply State.canFailed_kept
      exact kx7
    · exact kx7
  clear_value x9
  apply Kept.ite
  · exact ks
  · apply Kept.ite
    · exact ks
    · apply Kept.ite
      · with_reducible apply State.canIdle_kept
        exact kx9
      · exact kx9

theorem State.canException_kept {r : State} (s : State) (n : Nat) (ks : Kept r s) : Kept r (State.canException s n) := by
  unfold State.canException
  lift_lets
  intro x0
  clear_value x0
  apply Kept.ite
  · exact ks
  · apply Kept.ite
    · with_reducible apply State.setCanAct_kept
      with_reducible apply State.setFlag_kept
      with_reducible apply State.canFailed_kept
      exact ks
    · with_reducible apply State.canError_kept
      with_reducible apply State.setCanAct_kept
      exact ks

theorem State.canIntegrated_kept {r : State} (s : State) (n : Nat) (ks : Kept r s) : Kept r (State.canIntegrated s n) := by
  unfold State.canIntegrated
  apply Kept.ite
  · with_reducible apply State.canKick_kept
    with_reducible apply State.setCanAct_kept
    exact ks
  · exact ks

theorem State.canLose_kept {r : State} (s : State) (n : Nat) (b : Nat) (ks : Kept r s) : Kept r (State.canLose s n b) := by
  unfold State.canLose
  lift_lets
  intro x0
  have kx0 : Kept r x0 := by
    unfold x0
    with_reducible apply State.incFld_kept
    with_reducible apply State.incFld_kept
    exact ks
  clear_value x0
  intro x1
  clear_value x1
  intro x2
  have kx2 : Kept r x2 := by
    unfold x2
    apply Kept.ite
    · with_reducible apply State.setCanC_kept
      exact kx0
    · exact kx0
  clear_value x2
  with_reducible apply State.raise_kept
  with_reducible apply State.setFlag_kept
  with_reducible apply State.setFlag_kept
  exact kx2

theorem State.canModeSwitch_kept {r : State} (s : State) (n : Nat) (ks : Kept r s) : Kept r (State.canModeSwitch s n) := by
  unfold State.canModeSwitch
  apply Kept.ite
  · exact ks
  · with_reducible apply State.canKick_kept
    with_reducible apply State.putFlag_kept
    exact ks

theorem State.canRxOk_kept {r : State} (s : State) (n : Nat) (ks : Kept r s) : Kept r (State.canRxOk s n) := by
  unfold State.canRxOk
  lift_lets
  intro x0
  clear_value x0
  apply Kept.ite
  · exact ks
  · apply Kept.ite
    · with_reducible apply State.draw_kept
      with_reducible apply State.canCount_kept
      exact ks
    · with_reducible apply State.canCount_kept
      exact ks

theorem State.canStore_kept {r : State} (s : State) (n : Nat) (f : CanFrame) (ks : Kept r s) : Kept r (State.canStore s n f) := by
  unfold State.canStore
  cases hc0 : List.find? (fun b => s.canMatch n b f) (List.range 64)
  · try dsimp -zeta only
    with_reducible apply State.setFlag_kept
    exact ks
  · try dsimp -zeta only
    lift_lets
    intro x1
    clear_value x1
    intro x2
    apply Kept.ite
    · unfold x2
      with_reducible apply State.canDrain_kept
      with_reducible apply State.incFld_kept
      with_reducible apply State.setCanB_kept
      exact ks
    · apply Kept.ite
      · unfold x2
        with_reducible apply State.canDrain_kept
        with_reducible apply State.incFld_kept
        with_reducible apply State.setCanB_kept
        exact ks
      · apply Kept.ite
        · unfold x2
          with_reducible apply State.canDrain_kept
          with_reducible apply State.incFld_kept
          with_reducible apply State.canLose_kept
          with_reducible apply State.setCanB_kept
          exact ks
        · with_reducible apply State.canLose_kept
          exact ks

theorem State.canReceived_kept {r : State} (s : State) (n : Nat) (f : CanBits) (ks : Kept r s) : Kept r (State.canReceived s n f) := by
  unfold State.canReceived
  lift_lets
  intro x0
  clear_value x0
  intro x1
  have kx1 : Kept r x1 := by
    unfold x1
    with_reducible apply State.canRxOk_kept
    with_reducible apply State.canStore_kept
    exact ks
  clear_value x1
  apply Kept.ite
  · apply Kept.ite
    · exact kx1
    · with_reducible apply State.canIdle_kept
      with_reducible apply State.setCanAct_kept
      exact kx1
  · exact ks

theorem State.canRecovered_kept {r : State} (s : State) (n : Nat) (ks : Kept r s) : Kept r (State.canRecovered s n) := by
  unfold State.canRecovered
  apply Kept.ite
  · lift_lets
    intro x0
    clear_value x0
    intro x1
    have kx1 : Kept r x1 := by
      unfold x1
      with_reducible apply State.setCanC_kept
      exact ks
    clear_value x1
    intro x2
    have kx2 : Kept r x2 := by
      unfold x2
      with_reducible apply State.setCanAct_kept
      with_reducible apply State.setFld_kept
      with_reducible apply State.setRg_kept
      exact kx1
    clear_value x2
    intro x3
    have kx3 : Kept r x3 := by
      unfold x3
      with_reducible apply State.raise_kept
      exact kx2
    clear_value x3
    intro x4
    have kx4 : Kept r x4 := by
      unfold x4
      cases hc5 : x0.recover
      · try dsimp -zeta only
        exact kx3
      · try dsimp -zeta only
        with_reducible apply State.complete_kept
        exact kx3
    clear_value x4
    with_reducible apply State.canKick_kept
    exact kx4
  · exact ks

theorem State.canSent_kept {r : State} (s : State) (n : Nat) (ts : Word) (cyc : Word) (delay : Nat) (ks : Kept r s) : Kept r (State.canSent s n ts cyc delay) := by
  unfold State.canSent
  cases hc0 : s.canActive n
  · try dsimp -zeta only
    exact ks
  · try dsimp -zeta only
    lift_lets
    intro x1
    intro x2
    have kx2 : Kept r x2 := by
      unfold x2
      with_reducible apply State.setFld_kept
      exact ks
    clear_value x2
    intro x3
    have kx3 : Kept r x3 := by
      unfold x3
      apply Kept.ite
      · apply Kept.ite
        · with_reducible apply State.setFlag_kept
          exact kx2
        · exact kx2
      · exact ks
    clear_value x3
    intro x4
    have kx4 : Kept r x4 := by
      unfold x4
      with_reducible apply State.incFld_kept
      exact kx3
    clear_value x4
    intro x5
    have kx5 : Kept r x5 := by
      unfold x5
      with_reducible apply State.canCount_kept
      exact kx4
    clear_value x5
    intro x6
    clear_value x6
    intro x7
    clear_value x7
    intro x8
    have kx8 : Kept r x8 := by
      unfold x8
      apply Kept.ite
      · with_reducible apply State.canStore_kept
        exact kx5
      · exact kx5
    clear_value x8
    with_reducible apply State.canIdle_kept
    with_reducible apply State.canEnd_kept
    exact kx8

theorem State.canTx_kept {r : State} (s : State) (src : Src) (d : Desc) (data : Option (List Byte)) (ks : Kept r s) : Kept r (State.canTx s src d data) := by
  unfold State.canTx
  lift_lets
  intro x0
  clear_value x0
  intro x1
  clear_value x1
  intro x2
  clear_value x2
  intro x3
  clear_value x3
  intro x4
  clear_value x4
  intro x5
  clear_value x5
  intro x6
  clear_value x6
  intro x7
  clear_value x7
  intro x8
  clear_value x8
  intro x9
  clear_value x9
  intro x10
  clear_value x10
  apply Kept.ite
  · with_reducible apply State.complete_kept
    exact ks
  · apply Kept.ite
    · with_reducible apply State.complete_kept
      exact ks
    · apply Kept.ite
      · with_reducible apply State.complete_kept
        exact ks
      · apply Kept.ite
        · with_reducible apply State.complete_kept
          exact ks
        · apply Kept.ite
          · exact ks
          · cases x9
            · try dsimp -zeta only
              with_reducible apply State.complete_kept
              exact ks
            · try dsimp -zeta only
              lift_lets
              intro x12
              clear_value x12
              with_reducible apply State.canKick_kept
              with_reducible apply State.setCanB_kept
              exact ks

theorem State.canWake_kept {r : State} (s : State) (n : Nat) (ks : Kept r s) : Kept r (State.canWake s n) := by
  unfold State.canWake
  with_reducible apply State.raise_kept
  with_reducible apply State.canStb_kept
  with_reducible apply State.setCanAct_kept
  with_reducible apply State.setFlag_kept
  exact ks

theorem State.canWakeFrame_kept {r : State} (s : State) (n : Nat) (f : CanBits) (ks : Kept r s) : Kept r (State.canWakeFrame s n f) := by
  unfold State.canWakeFrame
  apply Kept.ite
  · with_reducible apply State.canStore_kept
    with_reducible apply State.canWake_kept
    exact ks
  · exact ks

end Sys2Proof.Machine
end

