-- ==== Sys2Proof/Laws/KeptNetCmd.lean ====
section
/-! SUPPORT. What the operations of Machine/NetCmd.lean keep (see Laws/Kept.lean). -/

namespace Sys2Proof.Machine

open Sys2Proof

theorem State.addOp_kept {r : State} (s : State) (o : NetOp) (ks : Kept r s) : Kept r (State.addOp s o) := by
  unfold State.addOp
  with_reducible apply State.setOps_kept
  exact ks

theorem State.netBoom_kept {r : State} (s : State) (src : Src) (d : Desc) (ks : Kept r s) : Kept r (State.netBoom s src d) := by
  unfold State.netBoom
  lift_lets
  intro x0
  clear_value x0
  intro x1
  have kx1 : Kept r x1 := by
    unfold x1
    with_reducible apply State.addOp_kept
    with_reducible apply State.queueBoom_kept
    exact ks
  clear_value x1
  cases hc2 : s.nodeStatus x0
  · try dsimp -zeta only
    apply Kept.ite
    · with_reducible apply State.complete_kept
      exact ks
    · apply Kept.ite
      · with_reducible apply State.atBoundary_kept
        exact kx1
      · exact kx1
  · try dsimp -zeta only
    with_reducible apply State.complete_kept
    exact ks

theorem State.resumePort_kept {r : State} (s : State) (addr : Nat) (ks : Kept r s) : Kept r (State.resumePort s addr) := by
  unfold State.resumePort
  lift_lets
  intro x0
  clear_value x0
  intro x1
  clear_value x1
  with_reducible apply Kept.upd
  exact ks

theorem State.netQuery_kept {r : State} (s : State) (src : Src) (d : Desc) (ks : Kept r s) : Kept r (State.netQuery s src d) := by
  unfold State.netQuery
  apply Kept.ite
  · with_reducible apply State.complete_kept
    exact ks
  · apply Kept.ite
    · with_reducible apply State.complete_kept
      exact ks
    · apply Kept.ite
      · with_reducible apply State.complete_kept
        exact ks
      · with_reducible apply State.queueTo_kept
        with_reducible apply State.addOp_kept
        exact ks

theorem State.netReset_kept {r : State} (s : State) (src : Src) (d : Desc) (ks : Kept r s) : Kept r (State.netReset s src d) := by
  unfold State.netReset
  cases hc0 : s.nodeStatus d.tgt
  · try dsimp -zeta only
    with_reducible apply State.addOp_kept
    exact ks
  · try dsimp -zeta only
    with_reducible apply State.complete_kept
    exact ks

theorem State.netTransfer_kept {r : State} (s : State) (src : Src) (opc : Nat) (d : Desc) (image : Option (List Byte)) (ks : Kept r s) : Kept r (State.netTransfer s src opc d image) := by
  unfold State.netTransfer
  lift_lets
  intro x0
  clear_value x0
  intro x1
  clear_value x1
  intro x2
  clear_value x2
  intro x3
  clear_value x3
  intro x4
  clear_value x4
  cases x3
  · try dsimp -zeta only
    apply Kept.ite
    · with_reducible apply State.complete_kept
      exact ks
    · apply Kept.ite
      · with_reducible apply State.complete_kept
        exact ks
      · cases image
        · try dsimp -zeta only
          with_reducible apply State.complete_kept
          exact ks
        · try dsimp -zeta only
          lift_lets
          intro x7
          clear_value x7
          with_reducible apply State.pumpOp_kept
          with_reducible apply State.addOp_kept
          exact ks
  · try dsimp -zeta only
    with_reducible apply State.complete_kept
    exact ks

theorem State.tunnelTx_kept {r : State} (s : State) (src : Src) (d : Desc) (frame : Option (List Byte)) (ks : Kept r s) : Kept r (State.tunnelTx s src d frame) := by
  unfold State.tunnelTx
  lift_lets
  intro x0
  clear_value x0
  intro x1
  clear_value x1
  intro x2
  clear_value x2
  intro x3
  clear_value x3
  intro x4
  have kx4 : Kept r x4 := by
    unfold x4
    with_reducible apply Kept.upd
    exact ks
  clear_value x4
  cases hc5 : s.nodeStatus x0
  · try dsimp -zeta only
    apply Kept.ite
    · with_reducible apply State.complete_kept
      exact ks
    · cases frame
      · try dsimp -zeta only
        with_reducible apply State.complete_kept
        exact ks
      · try dsimp -zeta only
        lift_lets
        intro x7
        have kx7 : Kept r x7 := by
          unfold x7
          refine Kept.foldl _ ?_ ?_
          · exact kx4
          · intro a8
            intro a9
            intro h10
            with_reducible apply State.queueDyn_kept
            exact h10
        clear_value x7
        with_reducible apply State.complete_kept
        exact kx7
  · try dsimp -zeta only
    with_reducible apply State.complete_kept
    exact ks

theorem State.autoJoin_kept {r : State} (s : State) (a : Nat) (ks : Kept r s) : Kept r (State.autoJoin s a) := by
  unfold State.autoJoin
  lift_lets
  intro x0
  clear_value x0
  apply Kept.ite
  · with_reducible apply State.queueBoom_kept
    with_reducible apply State.setNode_kept
    exact ks
  · exact ks

theorem State.berthSend_kept {r : State} (s : State) (addr : Nat) (part : Bool) (ks : Kept r s) : Kept r (State.berthSend s addr part) := by
  unfold State.berthSend
  lift_lets
  intro x0
  have kx0 : Kept r x0 := by
    unfold x0
    with_reducible apply State.useTails_kept
    exact ks
  clear_value x0
  intro x1
  clear_value x1
  intro x2
  clear_value x2
  intro x3
  clear_value x3
  intro x4
  clear_value x4
  intro x5
  clear_value x5
  intro x6
  clear_value x6
  intro x7
  clear_value x7
  intro x8
  clear_value x8
  intro x9
  clear_value x9
  intro x10
  clear_value x10
  intro x11
  clear_value x11
  intro x12
  clear_value x12
  intro x13
  clear_value x13
  intro x14
  clear_value x14
  intro x15
  clear_value x15
  intro x16
  clear_value x16
  intro x17
  clear_value x17
  intro x18
  clear_value x18
  intro x19
  clear_value x19
  intro x20
  have kx20 : Kept r x20 := by
    unfold x20
    with_reducible apply State.setNode_kept
    exact kx0
  clear_value x20
  apply Kept.ite
  · exact kx0
  · with_reducible apply State.sendFrame_kept
    exact kx20

theorem State.blockResend_kept {r : State} (s : State) (a : Nat) (ks : Kept r s) : Kept r (State.blockResend s a) := by
  unfold State.blockResend
  cases hc0 : s.transferOf a
  · try dsimp -zeta only
    exact ks
  · try dsimp -zeta only
    split
    · exact ks
    · apply Kept.ite
      · with_reducible apply State.endOp_kept
        exact ks
      · lift_lets
        intro x2
        clear_value x2
        intro x3
        clear_value x3
        intro x4
        clear_value x4
        intro x5
        clear_value x5
        intro x6
        have kx6 : Kept r x6 := by
          unfold x6
          refine Kept.foldl _ ?_ ?_
          · exact ks
          · intro a7
            intro a8
            intro h9
            with_reducible apply State.queueTo_kept
            exact h9
        clear_value x6
        with_reducible apply State.updOp_kept
        exact kx6

theorem State.boomTimeout_kept {r : State} (s : State) (a : Nat) (ks : Kept r s) : Kept r (State.boomTimeout s a) := by
  unfold State.boomTimeout
  cases hc0 : s.opOn 48 a
  · try dsimp -zeta only
    exact ks
  · try dsimp -zeta only
    apply Kept.ite
    · with_reducible apply State.endOp_kept
      exact ks
    · exact ks

theorem State.boundaryRecord_kept {r : State} (s : State) (ks : Kept r s) : Kept r (State.boundaryRecord s) := by
  unfold State.boundaryRecord
  apply Kept.ite
  · lift_lets
    intro x0
    clear_value x0
    intro x1
    clear_value x1
    intro x2
    clear_value x2
    intro x3
    clear_value x3
    intro x4
    clear_value x4
    intro x5
    clear_value x5
    intro x6
    clear_value x6
    with_reducible apply State.emit_kept
    exact ks
  · exact ks

theorem State.portAges_kept {r : State} (s : State) (p : Nat) (ks : Kept r s) : Kept r (State.portAges s p) := by
  unfold State.portAges
  lift_lets
  intro x0
  clear_value x0
  intro x1
  clear_value x1
  intro x2
  clear_value x2
  intro x3
  have kx3 : Kept r x3 := by
    unfold x3
    with_reducible apply Kept.upd
    exact ks
  clear_value x3
  intro x4
  have kx4 : Kept r x4 := by
    unfold x4
    apply Kept.ite
    · exact kx3
    · with_reducible apply State.raise_kept
      with_reducible apply State.putFlag_kept
      exact kx3
  clear_value x4
  intro x5
  clear_value x5
  intro x6
  clear_value x6
  intro x7
  have kx7 : Kept r x7 := by
    unfold x7
    with_reducible apply Kept.upd
    exact kx4
  clear_value x7
  apply Kept.ite
  · with_reducible apply State.raise_kept
    with_reducible apply State.setFld_kept
    exact kx7
  · exact kx7

theorem State.sendSail_kept {r : State} (s : State) (ks : Kept r s) : Kept r (State.sendSail s) := by
  unfold State.sendSail
  apply Kept.ite
  · refine Kept.foldl _ ?_ ?_
    · exact ks
    · intro a0
      intro a1
      intro h2
      apply Kept.ite
      · lift_lets
        intro x3
        clear_value x3
        intro x4
        clear_value x4
        intro x5
        clear_value x5
        with_reducible apply State.sendFrame_kept
        exact h2
      · exact h2
  · exact ks

theorem State.netRepeat_kept {r : State} (s : State) (ks : Kept r s) : Kept r (State.netRepeat s) := by
  unfold State.netRepeat
  lift_lets
  intro x0
  have kx0 : Kept r x0 := by
    unfold x0
    refine Kept.foldl _ ?_ ?_
    · exact ks
    · intro a1
      intro a2
      intro h3
      apply Kept.ite
      · with_reducible apply State.updNode_kept
        with_reducible apply State.queueTo_kept
        exact h3
      · exact h3
  clear_value x0
  refine Kept.foldl _ ?_ ?_
  · exact kx0
  · intro a4
    intro a5
    intro h6
    apply Kept.ite
    · with_reducible apply State.updOp_kept
      with_reducible apply State.queueTo_kept
      exact h6
    · apply Kept.ite
      · with_reducible apply State.pumpOp_kept
        exact h6
      · exact h6

theorem State.drawGrants_kept {r : State} (s : State) (ks : Kept r s) : Kept r (State.drawGrants s) := by
  unfold State.drawGrants
  lift_lets
  intro x0
  clear_value x0
  intro x1
  clear_value x1
  intro x2
  clear_value x2
  intro x3
  clear_value x3
  intro x4
  clear_value x4
  intro x5
  have kx5 : Kept r x5 := by
    unfold x5
    with_reducible apply Kept.upd
    exact ks
  clear_value x5
  refine Kept.foldl _ ?_ ?_
  · exact kx5
  · intro a6
    intro a7
    intro h8
    with_reducible apply State.updNode_kept
    exact h8

theorem State.netBoundary_kept {r : State} (s : State) (ks : Kept r s) : Kept r (State.netBoundary s) := by
  unfold State.netBoundary
  lift_lets
  intro x0
  have kx0 : Kept r x0 := by
    unfold x0
    refine Kept.foldl _ ?_ ?_
    · with_reducible apply State.judgeFirst_kept
      exact ks
    · intro a1
      intro a2
      intro h3
      with_reducible apply State.portAges_kept
      exact h3
  clear_value x0
  intro x4
  have kx4 : Kept r x4 := by
    unfold x4
    refine Kept.foldl _ ?_ ?_
    · exact kx0
    · intro a5
      intro a6
      intro h7
      with_reducible apply State.echoMissed_kept
      with_reducible apply State.updNode_kept
      exact h7
  clear_value x4
  intro x8
  clear_value x8
  intro x9
  have kx9 : Kept r x9 := by
    unfold x9
    with_reducible apply Kept.upd
    exact kx4
  clear_value x9
  intro x10
  have kx10 : Kept r x10 := by
    unfold x10
    with_reducible apply State.sendSail_kept
    exact kx9
  clear_value x10
  intro x11
  have kx11 : Kept r x11 := by
    unfold x11
    with_reducible apply State.netRepeat_kept
    exact kx10
  clear_value x11
  with_reducible apply State.drawGrants_kept
  exact kx11

theorem State.echoSent_kept {r : State} (s : State) (m : DynMsg) (x : Nat) (t1 : Nat) (ks : Kept r s) : Kept r (State.echoSent s m x t1) := by
  unfold State.echoSent
  lift_lets
  intro x0
  clear_value x0
  intro x1
  clear_value x1
  intro x2
  clear_value x2
  intro x3
  clear_value x3
  intro x4
  have kx4 : Kept r x4 := by
    unfold x4
    with_reducible apply State.updNode_kept
    exact ks
  clear_value x4
  intro x5
  clear_value x5
  apply Kept.ite
  · with_reducible apply Kept.upd
    exact kx4
  · with_reducible apply State.expectFrom_kept
    exact kx4

theorem State.expectAnswers_kept {r : State} (s : State) (m : DynMsg) (ks : Kept r s) : Kept r (State.expectAnswers s m) := by
  unfold State.expectAnswers
  lift_lets
  intro x0
  split
  · unfold x0
    refine Kept.foldl _ ?_ ?_
    · exact ks
    · intro a1
      intro a2
      intro h3
      with_reducible apply State.expectFrom_kept
      exact h3
  · unfold x0
    refine Kept.foldl _ ?_ ?_
    · exact ks
    · intro a4
      intro a5
      intro h6
      with_reducible apply State.expectFrom_kept
      exact h6
  · unfold x0
    refine Kept.foldl _ ?_ ?_
    · exact ks
    · intro a7
      intro a8
      intro h9
      with_reducible apply State.expectFrom_kept
      exact h9
  · exact ks

theorem State.dynSend_kept {r : State} (s : State) (b : Nat) (ks : Kept r s) : Kept r (State.dynSend s b) := by
  unfold State.dynSend
  lift_lets
  intro x0
  clear_value x0
  intro x1
  clear_value x1
  intro x2
  clear_value x2
  intro x3
  clear_value x3
  intro x4
  have kx4 : Kept r x4 := by
    unfold x4
    with_reducible apply Kept.upd
    exact ks
  clear_value x4
  apply Kept.ite
  · exact ks
  · refine Kept.foldl _ ?_ ?_
    · exact kx4
    · intro a5
      intro a6
      intro h7
      lift_lets
      intro x8
      clear_value x8
      intro x9
      clear_value x9
      intro x10
      clear_value x10
      intro x11
      clear_value x11
      intro x12
      have kx12 : Kept r x12 := by
        unfold x12
        with_reducible apply State.sendFrame_kept
        exact h7
      clear_value x12
      apply Kept.ite
      · with_reducible apply State.echoSent_kept
        exact kx12
      · with_reducible apply State.expectAnswers_kept
        exact kx12

theorem State.echoSchedule_kept {r : State} (s : State) (a : Nat) (ks : Kept r s) : Kept r (State.echoSchedule s a) := by
  unfold State.echoSchedule
  lift_lets
  intro x0
  clear_value x0
  intro x1
  clear_value x1
  intro x2
  clear_value x2
  intro x3
  have kx3 : Kept r x3 := by
    unfold x3
    with_reducible apply State.setNode_kept
    exact ks
  clear_value x3
  apply Kept.ite
  · exact ks
  · with_reducible apply State.draw_kept
    with_reducible apply State.queueDyn_kept
    exact kx3

theorem State.freezeBoom_kept {r : State} (s : State) (b : Nat) (ks : Kept r s) : Kept r (State.freezeBoom s b) := by
  unfold State.freezeBoom
  cases hc0 : Sys2Proof.Machine.Tab.get [] s.net.booms b
  · try dsimp -zeta only
    exact ks
  · try dsimp -zeta only
    lift_lets
    intro x1
    clear_value x1
    intro x2
    clear_value x2
    intro x3
    clear_value x3
    intro x4
    clear_value x4
    intro x5
    clear_value x5
    with_reducible apply Kept.upd
    exact ks

theorem State.sailFreeze_kept {r : State} (s : State) (ks : Kept r s) : Kept r (State.sailFreeze s) := by
  unfold State.sailFreeze
  lift_lets
  intro x0
  have kx0 : Kept r x0 := by
    unfold x0
    with_reducible apply State.serveSound_kept
    exact ks
  clear_value x0
  intro x1
  clear_value x1
  intro x2
  clear_value x2
  intro x3
  clear_value x3
  intro x4
  clear_value x4
  intro x5
  clear_value x5
  intro x6
  clear_value x6
  intro x7
  clear_value x7
  intro x8
  clear_value x8
  intro x9
  clear_value x9
  intro x10
  have kx10 : Kept r x10 := by
    unfold x10
    with_reducible apply Kept.upd
    exact kx0
  clear_value x10
  with_reducible apply State.boundaryRecord_kept
  refine Kept.foldl _ ?_ ?_
  · exact kx10
  · intro a11
    intro a12
    intro h13
    with_reducible apply State.freezeBoom_kept
    exact h13

theorem State.nodeAbsent_kept {r : State} (s : State) (a : Nat) (ks : Kept r s) : Kept r (State.nodeAbsent s a) := by
  unfold State.nodeAbsent
  lift_lets
  intro x0
  clear_value x0
  intro x1
  have kx1 : Kept r x1 := by
    unfold x1
    apply Kept.ite
    · with_reducible apply State.countNodes_kept
      with_reducible apply State.raise_kept
      with_reducible apply State.setNode_kept
      exact ks
    · exact ks
  clear_value x1
  apply Kept.ite
  · cases hc2 : x1.opOn 50 a
    · try dsimp -zeta only
      exact kx1
    · try dsimp -zeta only
      apply Kept.ite
      · with_reducible apply State.endOp_kept
        exact kx1
      · exact kx1
  · exact ks

theorem State.overrun_kept {r : State} (s : State) (p : Nat) (f : RxFrame) (ks : Kept r s) : Kept r (State.overrun s p f) := by
  unfold State.overrun
  lift_lets
  intro x0
  have kx0 : Kept r x0 := by
    unfold x0
    with_reducible apply State.tailsBefore_kept
    exact ks
  clear_value x0
  intro x1
  clear_value x1
  intro x2
  clear_value x2
  intro x3
  clear_value x3
  intro x4
  clear_value x4
  intro x5
  clear_value x5
  intro x6
  have kx6 : Kept r x6 := by
    unfold x6
    with_reducible apply State.refuseAt_kept
    exact kx0
  clear_value x6
  intro x7
  clear_value x7
  intro x8
  clear_value x8
  apply Kept.ite
  · exact kx0
  · apply Kept.ite
    · with_reducible apply State.cut_kept
      exact kx6
    · with_reducible apply State.cut_kept
      exact kx0

theorem State.portSync_kept {r : State} (s : State) (p : Nat) (sync : Bool) (pins : Nat) (ks : Kept r s) : Kept r (State.portSync s p sync pins) := by
  unfold State.portSync
  lift_lets
  intro x0
  clear_value x0
  intro x1
  have kx1 : Kept r x1 := by
    unfold x1
    with_reducible apply Kept.upd
    exact ks
  clear_value x1
  intro x2
  clear_value x2
  apply Kept.ite
  · exact kx1
  · with_reducible apply State.raise_kept
    with_reducible apply State.setFld_kept
    exact kx1

theorem State.queryTimeout_kept {r : State} (s : State) (a : Nat) (ks : Kept r s) : Kept r (State.queryTimeout s a) := by
  unfold State.queryTimeout
  cases hc0 : s.opOn 49 a
  · try dsimp -zeta only
    exact ks
  · try dsimp -zeta only
    apply Kept.ite
    · with_reducible apply State.endOp_kept
      with_reducible apply State.emit_kept
      exact ks
    · exact ks

theorem State.resetTimeout_kept {r : State} (s : State) (a : Nat) (ks : Kept r s) : Kept r (State.resetTimeout s a) := by
  unfold State.resetTimeout
  cases hc0 : s.opOn 50 a
  · try dsimp -zeta only
    exact ks
  · try dsimp -zeta only
    apply Kept.ite
    · with_reducible apply State.endOp_kept
      exact ks
    · exact ks

theorem State.sailReturn_kept {r : State} (s : State) (p : Nat) (f : RxFrame) (ks : Kept r s) : Kept r (State.sailReturn s p f) := by
  unfold State.sailReturn
  apply Kept.ite
  · with_reducible apply Kept.upd
    exact ks
  · exact ks

theorem State.tunnelTimeout_kept {r : State} (s : State) (a : Nat) (ks : Kept r s) : Kept r (State.tunnelTimeout s a) := by
  unfold State.tunnelTimeout
  refine Kept.foldl _ ?_ ?_
  · exact ks
  · intro a0
    intro a1
    intro h2
    with_reducible apply State.dropReasm_kept
    exact h2

end Sys2Proof.Machine
end

