-- ==== Sys2Proof/Laws/KeptTime.lean ====
section
/-! SUPPORT. What the operations of Machine/Time.lean keep (see Laws/Kept.lean). -/

namespace Sys2Proof.Machine

open Sys2Proof

theorem State.ppsOut_kept {r : State} (s : State) (high : Bool) (ks : Kept r s) : Kept r (State.ppsOut s high) := by
  unfold State.ppsOut
  lift_lets
  intro x0
  clear_value x0
  intro x1
  clear_value x1
  apply Kept.ite
  · exact ks
  · with_reducible apply State.emit_kept
    with_reducible apply Kept.upd
    exact ks

theorem State.timeSet_kept {r : State} (s : State) (src : Src) (d : Desc) (ks : Kept r s) : Kept r (State.timeSet s src d) := by
  unfold State.timeSet
  apply Kept.ite
  · with_reducible apply State.complete_kept
    exact ks
  · apply Kept.ite
    · with_reducible apply State.complete_kept
      exact ks
    · with_reducible apply Kept.upd
      exact ks

theorem State.stepWait_kept {r : State} (s : State) (ks : Kept r s) : Kept r (State.stepWait s) := by
  unfold State.stepWait
  cases hc0 : s.tim.step
  · try dsimp -zeta only
    exact ks
  · try dsimp -zeta only
    with_reducible apply Kept.upd
    exact ks

theorem State.siteFlag_kept {r : State} (s : State) (ks : Kept r s) : Kept r (State.siteFlag s) := by
  unfold State.siteFlag
  with_reducible apply State.putFlag_kept
  exact ks

theorem State.holdExpiry_kept {r : State} (s : State) (ks : Kept r s) : Kept r (State.holdExpiry s) := by
  unfold State.holdExpiry
  apply Kept.ite
  · with_reducible apply State.siteFlag_kept
    with_reducible apply Kept.upd
    exact ks
  · exact ks

theorem State.networkStart_kept {r : State} (s : State) (ks : Kept r s) : Kept r (State.networkStart s) := by
  unfold State.networkStart
  apply Kept.ite
  · lift_lets
    intro x0
    clear_value x0
    intro x1
    have kx1 : Kept r x1 := by
      unfold x1
      with_reducible apply State.sailFreeze_kept
      with_reducible apply Kept.upd
      exact ks
    clear_value x1
    intro x2
    clear_value x2
    intro x3
    clear_value x3
    intro x4
    have kx4 : Kept r x4 := by
      unfold x4
      with_reducible apply Kept.upd
      exact kx1
    clear_value x4
    with_reducible apply State.drawGrants_kept
    with_reducible apply State.sendSail_kept
    with_reducible apply State.setFlag_kept
    exact kx4
  · exact ks

theorem State.siteLock_kept {r : State} (s : State) (on : Bool) (ks : Kept r s) : Kept r (State.siteLock s on) := by
  unfold State.siteLock
  apply Kept.ite
  · exact ks
  · apply Kept.ite
    · with_reducible apply State.raise_kept
      with_reducible apply State.setFlag_kept
      exact ks
    · with_reducible apply State.raise_kept
      with_reducible apply State.setFlag_kept
      with_reducible apply State.clrFlag_kept
      exact ks

theorem State.ppsEdge_kept {r : State} (s : State) (t : Nat) (ks : Kept r s) : Kept r (State.ppsEdge s t) := by
  unfold State.ppsEdge
  lift_lets
  intro x0
  have kx0 : Kept r x0 := by
    unfold x0
    with_reducible apply State.setFlag_kept
    exact ks
  clear_value x0
  intro x1
  have kx1 : Kept r x1 := by
    unfold x1
    with_reducible apply State.setRg_kept
    with_reducible apply State.setRg_kept
    exact kx0
  clear_value x1
  intro x2
  have kx2 : Kept r x2 := by
    unfold x2
    with_reducible apply State.clrFlag_kept
    exact kx1
  clear_value x2
  intro x3
  have kx3 : Kept r x3 := by
    unfold x3
    with_reducible apply State.draw_kept
    with_reducible apply State.setRg_kept
    exact kx2
  clear_value x3
  intro x4
  clear_value x4
  intro x5
  clear_value x5
  intro x6
  clear_value x6
  intro x7
  have kx7 : Kept r x7 := by
    unfold x7
    with_reducible apply Kept.upd
    exact kx3
  clear_value x7
  intro x8
  have kx8 : Kept r x8 := by
    unfold x8
    apply Kept.ite
    · with_reducible apply State.siteLock_kept
      exact kx7
    · apply Kept.ite
      · with_reducible apply State.siteLock_kept
        exact kx7
      · apply Kept.ite
        · with_reducible apply State.siteLock_kept
          exact kx7
        · exact kx7
  clear_value x8
  intro x9
  clear_value x9
  intro x10
  clear_value x10
  intro x11
  have kx11 : Kept r x11 := by
    unfold x11
    cases hc12 : x8.tim.setCmd
    · try dsimp -zeta only
      exact kx8
    · try dsimp -zeta only
      lift_lets
      intro x13
      clear_value x13
      intro x14
      clear_value x14
      apply Kept.ite
      · exact kx8
      · with_reducible apply Kept.upd
        exact kx8
  clear_value x11
  apply Kept.ite
  · exact kx0
  · with_reducible apply State.siteFlag_kept
    exact kx11

theorem State.ppsTimeout_kept {r : State} (s : State) (ks : Kept r s) : Kept r (State.ppsTimeout s) := by
  unfold State.ppsTimeout
  apply Kept.ite
  · exact ks
  · apply Kept.ite
    · with_reducible apply State.clrFlag_kept
      exact ks
    · lift_lets
      intro x0
      clear_value x0
      intro x1
      have kx1 : Kept r x1 := by
        unfold x1
        with_reducible apply State.siteLock_kept
        with_reducible apply State.clrFlag_kept
        exact ks
      clear_value x1
      intro x2
      clear_value x2
      with_reducible apply State.siteFlag_kept
      with_reducible apply State.setFlag_kept
      with_reducible apply Kept.upd
      exact kx1

theorem State.setTimeout_kept {r : State} (s : State) (ks : Kept r s) : Kept r (State.setTimeout s) := by
  unfold State.setTimeout
  cases hc0 : s.tim.setCmd
  · try dsimp -zeta only
    exact ks
  · try dsimp -zeta only
    cases hc1 : s.tim.step
    · try dsimp -zeta only
      with_reducible apply State.complete_kept
      with_reducible apply Kept.upd
      exact ks
    · try dsimp -zeta only
      exact ks

theorem State.timeStep_kept {r : State} (s : State) (ks : Kept r s) : Kept r (State.timeStep s) := by
  unfold State.timeStep
  cases hc0 : s.tim.step
  · try dsimp -zeta only
    exact ks
  · try dsimp -zeta only
    split
    · lift_lets
      intro x1
      clear_value x1
      intro x2
      have kx2 : Kept r x2 := by
        unfold x2
        with_reducible apply Kept.upd
        exact ks
      clear_value x2
      intro x3
      have kx3 : Kept r x3 := by
        unfold x3
        with_reducible apply State.raise_kept
        with_reducible apply State.setFlag_kept
        exact kx2
      clear_value x3
      intro x4
      have kx4 : Kept r x4 := by
        unfold x4
        apply Kept.ite
        · exact kx3
        · with_reducible apply State.siteFlag_kept
          with_reducible apply State.siteLock_kept
          with_reducible apply State.setFlag_kept
          exact kx3
      clear_value x4
      intro x5
      clear_value x5
      intro x6
      clear_value x6
      intro x7
      have kx7 : Kept r x7 := by
        unfold x7
        with_reducible apply Kept.upd
        exact kx4
      clear_value x7
      cases x5
      · try dsimp -zeta only
        exact kx7
      · try dsimp -zeta only
        with_reducible apply State.complete_kept
        exact kx7
    · exact ks

end Sys2Proof.Machine
end

