-- ==== Sys2Proof/Laws/KeptPilotCmd.lean ====
section
/-! SUPPORT. What the operations of Machine/PilotCmd.lean keep (see Laws/Kept.lean). -/

namespace Sys2Proof.Machine

open Sys2Proof

theorem State.activatePlanPars_kept {r : State} (s : State) (ks : Kept r s) : Kept r (State.activatePlanPars s) := by
  unfold State.activatePlanPars
  lift_lets
  intro x0
  clear_value x0
  intro x1
  have kx1 : Kept r x1 := by
    unfold x1
    refine Kept.foldl _ ?_ ?_
    · exact ks
    · intro a2
      intro a3
      intro h4
      with_reducible apply State.axWrite_kept
      exact h4
  clear_value x1
  intro x5
  clear_value x5
  with_reducible apply Kept.upd
  exact kx1

theorem State.activatePlanRegs_kept {r : State} (s : State) (ks : Kept r s) : Kept r (State.activatePlanRegs s) := by
  unfold State.activatePlanRegs
  refine Kept.foldl _ ?_ ?_
  · exact ks
  · intro a0
    intro a1
    intro h2
    with_reducible apply State.applyWrite_kept
    exact h2

theorem State.setPlanState_kept {r : State} (s : State) (v : Nat) (ks : Kept r s) : Kept r (State.setPlanState s v) := by
  unfold State.setPlanState
  with_reducible apply State.setFld_kept
  exact ks

theorem State.announce_kept {r : State} (s : State) (n : BitVec 32) (cmd : Option (Src × Desc)) (ks : Kept r s) : Kept r (State.announce s n cmd) := by
  unfold State.announce
  lift_lets
  intro x0
  have kx0 : Kept r x0 := by
    unfold x0
    cases hc1 : s.pilot.new
    · try dsimp -zeta only
      exact ks
    · try dsimp -zeta only
      with_reducible apply State.cartUnbind_kept
      exact ks
  clear_value x0
  intro x2
  clear_value x2
  with_reducible apply State.emit_kept
  with_reducible apply State.setRg_kept
  with_reducible apply State.setPlanState_kept
  with_reducible apply Kept.upd
  exact kx0

theorem State.returnPlanValues_kept {r : State} (s : State) (ks : Kept r s) : Kept r (State.returnPlanValues s) := by
  unfold State.returnPlanValues
  with_reducible apply Kept.upd
  exact ks

theorem State.usePlanValues_kept {r : State} (s : State) (m : Nat) (ks : Kept r s) : Kept r (State.usePlanValues s m) := by
  unfold State.usePlanValues
  with_reducible apply Kept.upd
  exact ks

theorem State.startPrepare_kept {r : State} (s : State) (cmd : Option (Src × Desc)) (m : Nat) (ks : Kept r s) : Kept r (State.startPrepare s cmd m) := by
  unfold State.startPrepare
  lift_lets
  intro x0
  have kx0 : Kept r x0 := by
    unfold x0
    apply Kept.ite
    · with_reducible apply State.returnPlanValues_kept
      exact ks
    · exact ks
  clear_value x0
  intro x1
  have kx1 : Kept r x1 := by
    unfold x1
    with_reducible apply State.usePlanValues_kept
    with_reducible apply State.setFld_kept
    with_reducible apply State.dropBank_kept
    exact kx0
  clear_value x1
  intro x2
  clear_value x2
  intro x3
  clear_value x3
  with_reducible apply State.setPlanState_kept
  with_reducible apply State.setFld_kept
  with_reducible apply State.clrFlag_kept
  with_reducible apply Kept.upd
  exact kx1

theorem State.planPrepare_kept {r : State} (s : State) (src : Src) (d : Desc) (m : Nat) (ks : Kept r s) : Kept r (State.planPrepare s src d m) := by
  unfold State.planPrepare
  lift_lets
  intro x0
  clear_value x0
  intro x1
  clear_value x1
  intro x2
  clear_value x2
  apply Kept.ite
  · with_reducible apply State.complete_kept
    exact ks
  · with_reducible apply State.startPrepare_kept
    with_reducible apply Kept.upd
    exact ks

theorem State.planIdle_kept {r : State} (s : State) (ks : Kept r s) : Kept r (State.planIdle s) := by
  unfold State.planIdle
  with_reducible apply State.releaseHeld_kept
  with_reducible apply State.setPlanState_kept
  exact ks

theorem State.planAbort_kept {r : State} (s : State) (src : Src) (d : Desc) (ks : Kept r s) : Kept r (State.planAbort s src d) := by
  unfold State.planAbort
  lift_lets
  intro x0
  clear_value x0
  intro x1
  clear_value x1
  intro x2
  have kx2 : Kept r x2 := by
    unfold x2
    with_reducible apply State.dropBank_kept
    with_reducible apply State.returnPlanValues_kept
    with_reducible apply State.setFld_kept
    exact ks
  clear_value x2
  intro x3
  clear_value x3
  intro x4
  clear_value x4
  apply Kept.ite
  · with_reducible apply State.complete_kept
    exact ks
  · apply Kept.ite
    · with_reducible apply State.complete_kept
      with_reducible apply State.planIdle_kept
      with_reducible apply Kept.upd
      exact kx2
    · apply Kept.ite
      · with_reducible apply Kept.upd
        exact ks
      · with_reducible apply State.complete_kept
        exact ks

theorem State.planReport_kept {r : State} (s : State) (src : Src) (d : Desc) (ks : Kept r s) : Kept r (State.planReport s src d) := by
  unfold State.planReport
  cases hc0 : s.actAxis d.tgt
  · try dsimp -zeta only
    with_reducible apply State.complete_kept
    exact ks
  · try dsimp -zeta only
    with_reducible apply State.complete_kept
    exact ks

theorem State.switchTo_kept {r : State} (s : State) (p : Plan) (ks : Kept r s) : Kept r (State.switchTo s p) := by
  unfold State.switchTo
  lift_lets
  intro x0
  clear_value x0
  intro x1
  have kx1 : Kept r x1 := by
    unfold x1
    refine Kept.foldl _ ?_ ?_
    · exact ks
    · intro a2
      intro a3
      intro h4
      lift_lets
      intro x5
      clear_value x5
      intro x6
      clear_value x6
      with_reducible apply State.setNode_kept
      exact h4
  clear_value x1
  intro x7
  clear_value x7
  intro x8
  clear_value x8
  intro x9
  have kx9 : Kept r x9 := by
    unfold x9
    with_reducible apply Kept.upd
    exact kx1
  clear_value x9
  intro x10
  clear_value x10
  intro x11
  have kx11 : Kept r x11 := by
    unfold x11
    with_reducible apply Kept.upd
    exact kx9
  clear_value x11
  intro x12
  have kx12 : Kept r x12 := by
    unfold x12
    with_reducible apply State.activatePlanRegs_kept
    with_reducible apply State.setRg_kept
    exact kx11
  clear_value x12
  intro x13
  have kx13 : Kept r x13 := by
    unfold x13
    with_reducible apply State.setFld_kept
    with_reducible apply State.setFld_kept
    exact kx12
  clear_value x13
  intro x14
  have kx14 : Kept r x14 := by
    unfold x14
    with_reducible apply State.setRg_kept
    exact kx13
  clear_value x14
  intro x15
  have kx15 : Kept r x15 := by
    unfold x15
    refine Kept.foldl _ ?_ ?_
    · exact kx14
    · intro a16
      intro a17
      intro h18
      with_reducible apply State.setRg_kept
      exact h18
  clear_value x15
  intro x19
  have kx19 : Kept r x19 := by
    unfold x19
    with_reducible apply State.activatePlanPars_kept
    with_reducible apply State.moveLanes_kept
    exact kx15
  clear_value x19
  intro x20
  have kx20 : Kept r x20 := by
    unfold x20
    refine Kept.foldl _ ?_ ?_
    · exact kx19
    · intro a21
      intro a22
      intro h23
      with_reducible apply State.writeSetp_kept
      exact h23
  clear_value x20
  with_reducible apply State.raise_kept
  with_reducible apply State.acqSwitch_kept
  with_reducible apply State.cartSwitch_kept
  with_reducible apply State.afterSwitch_kept
  exact kx20

theorem State.autoPrepare_kept {r : State} (s : State) (ks : Kept r s) : Kept r (State.autoPrepare s) := by
  unfold State.autoPrepare
  apply Kept.ite
  · with_reducible apply State.startPrepare_kept
    with_reducible apply Kept.upd
    exact ks
  · exact ks

theorem State.rejectPlan_kept {r : State} (s : State) (code : Nat) (obj : Nat) (ks : Kept r s) : Kept r (State.rejectPlan s code obj) := by
  unfold State.rejectPlan
  lift_lets
  intro x0
  clear_value x0
  intro x1
  have kx1 : Kept r x1 := by
    unfold x1
    with_reducible apply State.setRg_kept
    with_reducible apply State.dropBank_kept
    with_reducible apply State.returnPlanValues_kept
    exact ks
  clear_value x1
  intro x2
  have kx2 : Kept r x2 := by
    unfold x2
    with_reducible apply State.pilotFlag_kept
    exact kx1
  clear_value x2
  intro x3
  clear_value x3
  intro x4
  clear_value x4
  intro x5
  have kx5 : Kept r x5 := by
    unfold x5
    with_reducible apply Kept.upd
    exact kx2
  clear_value x5
  intro x6
  have kx6 : Kept r x6 := by
    unfold x6
    with_reducible apply State.planIdle_kept
    exact kx5
  clear_value x6
  cases x3
  · try dsimp -zeta only
    exact kx6
  · try dsimp -zeta only
    with_reducible apply State.complete_kept
    exact kx6

theorem State.startIso_kept {r : State} (s : State) (ks : Kept r s) : Kept r (State.startIso s) := by
  unfold State.startIso
  lift_lets
  intro x0
  clear_value x0
  intro x1
  clear_value x1
  intro x2
  have kx2 : Kept r x2 := by
    unfold x2
    apply Kept.ite
    · with_reducible apply State.pilotFlag_kept
      exact ks
    · exact ks
  clear_value x2
  intro x3
  have kx3 : Kept r x3 := by
    unfold x3
    apply Kept.ite
    · with_reducible apply State.emit_kept
      exact kx2
    · exact kx2
  clear_value x3
  intro x4
  have kx4 : Kept r x4 := by
    unfold x4
    apply Kept.ite
    · with_reducible apply State.rejectPlan_kept
      exact kx3
    · exact kx3
  clear_value x4
  intro x5
  clear_value x5
  apply Kept.ite
  · exact ks
  · with_reducible apply State.startPrepare_kept
    with_reducible apply Kept.upd
    exact kx4

theorem State.closeBeyond_kept {r : State} (s : State) (r1x : IsoReq) (ks : Kept r s) : Kept r (State.closeBeyond s r1x) := by
  unfold State.closeBeyond
  lift_lets
  intro x0
  clear_value x0
  apply Kept.ite
  · with_reducible apply State.queueBoom_kept
    exact ks
  · exact ks

theorem State.grantPlan_kept {r : State} (s : State) (p : Plan) (ks : Kept r s) : Kept r (State.grantPlan s p) := by
  unfold State.grantPlan
  refine Kept.foldl _ ?_ ?_
  · exact ks
  · intro a0
    intro a1
    intro h2
    lift_lets
    intro x3
    clear_value x3
    intro x4
    clear_value x4
    cases hc5 : List.find? (fun h => h.noBerth && h.branch * 256 + h.pos == a1.addr) a0.net.held
    · try dsimp -zeta only
      apply Kept.ite
      · exact h2
      · with_reducible apply State.queueTo_kept
        exact h2
    · try dsimp -zeta only
      with_reducible apply State.queueTo_kept
      exact h2

theorem State.mirrorBoundary_kept {r : State} (s : State) (ks : Kept r s) : Kept r (State.mirrorBoundary s) := by
  unfold State.mirrorBoundary
  cases hc0 : s.helm.mirror
  · try dsimp -zeta only
    exact ks
  · try dsimp -zeta only
    apply Kept.ite
    · lift_lets
      intro x1
      have kx1 : Kept r x1 := by
        unfold x1
        with_reducible apply State.grantPlan_kept
        exact ks
      clear_value x1
      intro x2
      clear_value x2
      intro x3
      have kx3 : Kept r x3 := by
        unfold x3
        with_reducible apply Kept.upd
        exact kx1
      apply Kept.ite
      · with_reducible apply State.setRg_kept
        with_reducible apply State.setFlag_kept
        exact kx3
      · exact kx3
    · exact ks

theorem State.planSnapshot_kept {r : State} (s : State) (ks : Kept r s) : Kept r (State.planSnapshot s) := by
  unfold State.planSnapshot
  apply Kept.ite
  · lift_lets
    intro x0
    clear_value x0
    intro x1
    clear_value x1
    cases hc2 : Sys2Proof.Machine.computePlan s.planInputs x0
    · try dsimp -zeta only
      with_reducible apply Kept.upd
      exact ks
    · try dsimp -zeta only
      with_reducible apply Kept.upd
      exact ks
  · exact ks

theorem State.pilotBoundary_kept {r : State} (s : State) (ks : Kept r s) : Kept r (State.pilotBoundary s) := by
  unfold State.pilotBoundary
  lift_lets
  intro x0
  clear_value x0
  intro x1
  clear_value x1
  intro x2
  have kx2 : Kept r x2 := by
    unfold x2
    with_reducible apply Kept.upd
    exact ks
  clear_value x2
  intro x3
  have kx3 : Kept r x3 := by
    unfold x3
    apply Kept.ite
    · with_reducible apply State.rejectPlan_kept
      with_reducible apply State.emit_kept
      exact kx2
    · exact kx2
  clear_value x3
  intro x4
  have kx4 : Kept r x4 := by
    unfold x4
    apply Kept.ite
    · refine Kept.foldl _ ?_ ?_
      · exact kx3
      · intro a5
        intro a6
        intro h7
        with_reducible apply State.complete_kept
        exact h7
    · exact ks
  clear_value x4
  intro x8
  have kx8 : Kept r x8 := by
    unfold x8
    with_reducible apply State.planSnapshot_kept
    exact kx4
  clear_value x8
  intro x9
  clear_value x9
  apply Kept.ite
  · cases hc10 : x8.pilot.job
    · try dsimp -zeta only
      exact kx8
    · try dsimp -zeta only
      lift_lets
      intro x11
      have kx11 : Kept r x11 := by
        unfold x11
        with_reducible apply State.grantPlan_kept
        exact kx8
      clear_value x11
      with_reducible apply Kept.upd
      exact kx11
  · exact kx8

theorem State.grantMiss_kept {r : State} (s : State) (a : Nat) (ks : Kept r s) : Kept r (State.grantMiss s a) := by
  unfold State.grantMiss
  lift_lets
  intro x0
  clear_value x0
  apply Kept.ite
  · with_reducible apply State.sendGrant_kept
    with_reducible apply State.pilotFlag_kept
    exact ks
  · exact ks

theorem State.planCommit_kept {r : State} (s : State) (src : Src) (d : Desc) (ks : Kept r s) : Kept r (State.planCommit s src d) := by
  unfold State.planCommit
  lift_lets
  intro x0
  clear_value x0
  apply Kept.ite
  · with_reducible apply State.complete_kept
    exact ks
  · apply Kept.ite
    · with_reducible apply State.complete_kept
      exact ks
    · apply Kept.ite
      · with_reducible apply State.complete_kept
        exact ks
      · cases hc1 : s.pilot.new
        · try dsimp -zeta only
          with_reducible apply State.complete_kept
          exact ks
        · try dsimp -zeta only
          apply Kept.ite
          · with_reducible apply State.announce_kept
            exact ks
          · with_reducible apply State.complete_kept
            exact ks

theorem State.planComputed_kept {r : State} (s : State) (ks : Kept r s) : Kept r (State.planComputed s) := by
  unfold State.planComputed
  apply Kept.ite
  · cases hc0 : s.pilot.rej
    · try dsimp -zeta only
      cases hc1 : s.pilot.job
      · try dsimp -zeta only
        exact ks
      · try dsimp -zeta only
        with_reducible apply State.emit_kept
        with_reducible apply State.loadBank_kept
        with_reducible apply State.setPlanState_kept
        with_reducible apply Kept.upd
        exact ks
    · try dsimp -zeta only
      with_reducible apply State.rejectPlan_kept
      exact ks
  · exact ks

theorem State.planLoad_kept {r : State} (s : State) (l : List Nat) (ks : Kept r s) : Kept r (State.planLoad s l) := by
  unfold State.planLoad
  cases l
  · try dsimp -zeta only
    with_reducible apply State.dropBank_kept
    with_reducible apply Kept.upd
    exact ks
  · try dsimp -zeta only
    split
    · with_reducible apply State.loadBank_kept
      with_reducible apply Kept.upd
      exact ks
    · with_reducible apply Kept.upd
      exact ks
    · with_reducible apply Kept.upd
      exact ks
    · with_reducible apply State.dropBank_kept
      with_reducible apply Kept.upd
      exact ks

theorem State.planPrepared_kept {r : State} (s : State) (ks : Kept r s) : Kept r (State.planPrepared s) := by
  unfold State.planPrepared
  apply Kept.ite
  · cases hc0 : s.pilot.job
    · try dsimp -zeta only
      exact ks
    · try dsimp -zeta only
      lift_lets
      intro x1
      clear_value x1
      intro x2
      clear_value x2
      intro x3
      have kx3 : Kept r x3 := by
        unfold x3
        with_reducible apply Kept.upd
        exact ks
      clear_value x3
      intro x4
      have kx4 : Kept r x4 := by
        unfold x4
        with_reducible apply State.setFld_kept
        with_reducible apply State.setPlanState_kept
        exact kx3
      clear_value x4
      intro x5
      have kx5 : Kept r x5 := by
        unfold x5
        cases x1
        · try dsimp -zeta only
          exact kx4
        · try dsimp -zeta only
          with_reducible apply State.complete_kept
          exact kx4
      clear_value x5
      apply Kept.ite
      · with_reducible apply State.announce_kept
        exact kx5
      · exact kx5
  · exact ks

theorem State.startMirror_kept {r : State} (s : State) (ks : Kept r s) : Kept r (State.startMirror s) := by
  unfold State.startMirror
  apply Kept.ite
  · lift_lets
    intro x0
    clear_value x0
    intro x1
    clear_value x1
    intro x2
    clear_value x2
    intro x3
    clear_value x3
    intro x4
    clear_value x4
    intro x5
    clear_value x5
    with_reducible apply State.emit_kept
    with_reducible apply Kept.upd
    exact ks
  · exact ks

theorem State.planRelease_kept {r : State} (s : State) (ks : Kept r s) : Kept r (State.planRelease s) := by
  unfold State.planRelease
  apply Kept.ite
  · lift_lets
    intro x0
    clear_value x0
    intro x1
    clear_value x1
    intro x2
    have kx2 : Kept r x2 := by
      unfold x2
      with_reducible apply Kept.upd
      exact ks
    clear_value x2
    intro x3
    clear_value x3
    intro x4
    clear_value x4
    intro x5
    have kx5 : Kept r x5 := by
      unfold x5
      refine Kept.foldl _ ?_ ?_
      · with_reducible apply Kept.upd
        exact kx2
      · intro a6
        intro a7
        intro h8
        with_reducible apply State.closeBeyond_kept
        exact h8
    clear_value x5
    intro x9
    have kx9 : Kept r x9 := by
      unfold x9
      with_reducible apply State.startMirror_kept
      with_reducible apply State.planIdle_kept
      with_reducible apply State.setRg_kept
      exact kx5
    clear_value x9
    intro x10
    have kx10 : Kept r x10 := by
      unfold x10
      cases x0
      · try dsimp -zeta only
        exact kx9
      · try dsimp -zeta only
        with_reducible apply State.complete_kept
        exact kx9
    clear_value x10
    with_reducible apply State.startIso_kept
    exact kx10
  · exact ks

theorem State.planSwitch_kept {r : State} (s : State) (ks : Kept r s) : Kept r (State.planSwitch s) := by
  unfold State.planSwitch
  apply Kept.ite
  · cases hc0 : s.pilot.new
    · try dsimp -zeta only
      exact ks
    · try dsimp -zeta only
      with_reducible apply State.switchTo_kept
      exact ks
  · exact ks

theorem State.uplink_kept {r : State} (s : State) (p : Nat) (f : RxFrame) (ks : Kept r s) : Kept r (State.uplink s p f) := by
  unfold State.uplink
  with_reducible apply State.startIso_kept
  with_reducible apply State.rxUplink_kept
  exact ks

end Sys2Proof.Machine
end

