-- ==== Sys2Proof/Laws/KeptHelm.lean ====
section
/-! SUPPORT. What the operations of Machine/Helm.lean keep (see Laws/Kept.lean). -/

namespace Sys2Proof.Machine

open Sys2Proof

theorem State.driveHelm_kept {r : State} (s : State) (on : Bool) (ks : Kept r s) : Kept r (State.driveHelm s on) := by
  unfold State.driveHelm
  with_reducible apply State.putFlag_kept
  with_reducible apply State.emit_kept
  exact ks

theorem State.relayGrant_kept {r : State} (s : State) (src : Src) (d : Desc) (ks : Kept r s) : Kept r (State.relayGrant s src d) := by
  unfold State.relayGrant
  lift_lets
  intro x0
  clear_value x0
  apply Kept.ite
  · with_reducible apply State.complete_kept
    exact ks
  · apply Kept.ite
    · with_reducible apply State.complete_kept
      exact ks
    · apply Kept.ite
      · with_reducible apply State.complete_kept
        exact ks
      · with_reducible apply State.complete_kept
        with_reducible apply State.emit_kept
        exact ks

theorem State.cableBreak_kept {r : State} (s : State) (b : Nat) (pos : Nat) (ks : Kept r s) : Kept r (State.cableBreak s b pos) := by
  unfold State.cableBreak
  apply Kept.ite
  · lift_lets
    intro x0
    have kx0 : Kept r x0 := by
      unfold x0
      with_reducible apply State.setFlag_kept
      exact ks
    clear_value x0
    intro x1
    have kx1 : Kept r x1 := by
      unfold x1
      apply Kept.ite
      · with_reducible apply State.emit_kept
        exact kx0
      · exact kx0
    clear_value x1
    intro x2
    clear_value x2
    intro x3
    clear_value x3
    intro x4
    have kx4 : Kept r x4 := by
      unfold x4
      refine Kept.foldl _ ?_ ?_
      · exact kx1
      · intro a5
        intro a6
        intro h7
        with_reducible apply State.updNode_kept
        exact h7
    clear_value x4
    intro x8
    clear_value x8
    with_reducible apply State.startIso_kept
    with_reducible apply Kept.upd
    exact kx4
  · exact ks

theorem State.chainLane_kept {r : State} (s : State) (l : Nat) (up : Bool) (ks : Kept r s) : Kept r (State.chainLane s l up) := by
  unfold State.chainLane
  apply Kept.ite
  · exact ks
  · lift_lets
    intro x0
    have kx0 : Kept r x0 := by
      unfold x0
      with_reducible apply State.raise_kept
      with_reducible apply State.putFlag_kept
      exact ks
    clear_value x0
    apply Kept.ite
    · with_reducible apply State.setFlag_kept
      exact kx0
    · exact kx0

theorem State.resyncBoundary_kept {r : State} (s : State) (ks : Kept r s) : Kept r (State.resyncBoundary s) := by
  unfold State.resyncBoundary
  lift_lets
  intro x0
  clear_value x0
  intro x1
  clear_value x1
  intro x2
  clear_value x2
  intro x3
  have kx3 : Kept r x3 := by
    unfold x3
    with_reducible apply Kept.upd
    exact ks
  clear_value x3
  apply Kept.ite
  · apply Kept.ite
    · with_reducible apply State.setFld_kept
      exact kx3
    · exact kx3
  · exact ks

theorem State.setHelm_kept {r : State} (s : State) (v : Nat) (ks : Kept r s) : Kept r (State.setHelm s v) := by
  unfold State.setHelm
  with_reducible apply State.setFld_kept
  exact ks

theorem State.giveUpNow_kept {r : State} (s : State) (st : Nat) (ks : Kept r s) : Kept r (State.giveUpNow s st) := by
  unfold State.giveUpNow
  with_reducible apply State.raise_kept
  with_reducible apply State.clrFlag_kept
  with_reducible apply State.driveHelm_kept
  with_reducible apply State.setHelm_kept
  exact ks

theorem State.diagFail_kept {r : State} (s : State) (code : Nat) (ks : Kept r s) : Kept r (State.diagFail s code) := by
  unfold State.diagFail
  apply Kept.ite
  · exact ks
  · lift_lets
    intro x0
    have kx0 : Kept r x0 := by
      unfold x0
      with_reducible apply State.incFld_kept
      with_reducible apply State.setFld_kept
      exact ks
    clear_value x0
    intro x1
    have kx1 : Kept r x1 := by
      unfold x1
      with_reducible apply State.raise_kept
      exact kx0
    clear_value x1
    intro x2
    clear_value x2
    apply Kept.ite
    · exact kx1
    · apply Kept.ite
      · with_reducible apply State.giveUpNow_kept
        exact kx1
      · apply Kept.ite
        · with_reducible apply State.giveUpNow_kept
          exact kx1
        · apply Kept.ite
          · with_reducible apply Kept.upd
            exact kx1
          · exact kx1

theorem State.setRelay_kept {r : State} (s : State) (b : Nat) (on : Bool) (ks : Kept r s) : Kept r (State.setRelay s b on) := by
  unfold State.setRelay
  apply Kept.ite
  · exact ks
  · with_reducible apply State.raise_kept
    with_reducible apply State.putFlag_kept
    exact ks

theorem State.dropRelays_kept {r : State} (s : State) (ks : Kept r s) : Kept r (State.dropRelays s) := by
  unfold State.dropRelays
  refine Kept.foldl _ ?_ ?_
  · exact ks
  · intro a0
    intro a1
    intro h2
    with_reducible apply State.setRelay_kept
    exact h2

theorem State.giveUp_kept {r : State} (s : State) (ks : Kept r s) : Kept r (State.giveUp s) := by
  unfold State.giveUp
  apply Kept.ite
  · cases hc0 : s.helm.giveUp
    · try dsimp -zeta only
      cases hc1 : s.helm.handover
      · try dsimp -zeta only
        exact ks
      · try dsimp -zeta only
        apply Kept.ite
        · exact ks
        · with_reducible apply State.setFld_kept
          with_reducible apply State.giveUpNow_kept
          exact ks
    · try dsimp -zeta only
      apply Kept.ite
      · exact ks
      · with_reducible apply State.giveUpNow_kept
        with_reducible apply Kept.upd
        exact ks
  · exact ks

theorem State.handover_kept {r : State} (s : State) (src : Src) (d : Desc) (ks : Kept r s) : Kept r (State.handover s src d) := by
  unfold State.handover
  apply Kept.ite
  · with_reducible apply State.complete_kept
    exact ks
  · with_reducible apply Kept.upd
    exact ks

theorem State.heartbeat_kept {r : State} (s : State) (st : Nat) (sy : Nat) (cyc : BitVec 32) (nt : Nat) (ks : Kept r s) : Kept r (State.heartbeat s st sy cyc nt) := by
  unfold State.heartbeat
  apply Kept.ite
  · exact ks
  · lift_lets
    intro x0
    clear_value x0
    intro x1
    have kx1 : Kept r x1 := by
      unfold x1
      with_reducible apply Kept.upd
      exact ks
    clear_value x1
    intro x2
    have kx2 : Kept r x2 := by
      unfold x2
      apply Kept.ite
      · with_reducible apply Kept.upd
        exact kx1
      · exact kx1
    clear_value x2
    intro x3
    clear_value x3
    cases hc4 : x2.helm.handover
    · try dsimp -zeta only
      exact kx2
    · try dsimp -zeta only
      apply Kept.ite
      · with_reducible apply State.complete_kept
        with_reducible apply State.raise_kept
        with_reducible apply Kept.upd
        exact kx2
      · exact kx2

theorem State.helmClaimFrom_kept {r : State} (s : State) (st : Nat) (ks : Kept r s) : Kept r (State.helmClaimFrom s st) := by
  unfold State.helmClaimFrom
  apply Kept.ite
  · with_reducible apply State.driveHelm_kept
    with_reducible apply State.setHelm_kept
    exact ks
  · exact ks

theorem State.takeMigration_kept {r : State} (s : State) (ks : Kept r s) : Kept r (State.takeMigration s) := by
  unfold State.takeMigration
  cases hc0 : s.pilot.new
  · try dsimp -zeta only
    with_reducible apply Kept.upd
    exact ks
  · try dsimp -zeta only
    cases hc1 : s.pilot.chainAt
    · try dsimp -zeta only
      with_reducible apply Kept.upd
      exact ks
    · try dsimp -zeta only
      apply Kept.ite
      · with_reducible apply State.setRg_kept
        with_reducible apply State.setFld_kept
        with_reducible apply State.setPlanState_kept
        with_reducible apply Kept.upd
        exact ks
      · with_reducible apply Kept.upd
        exact ks

theorem State.helmTake_kept {r : State} (s : State) (ks : Kept r s) : Kept r (State.helmTake s) := by
  unfold State.helmTake
  apply Kept.ite
  · lift_lets
    intro x0
    have kx0 : Kept r x0 := by
      unfold x0
      with_reducible apply State.raise_kept
      with_reducible apply State.setHelm_kept
      exact ks
    clear_value x0
    intro x1
    have kx1 : Kept r x1 := by
      unfold x1
      with_reducible apply State.takeMigration_kept
      exact kx0
    clear_value x1
    intro x2
    have kx2 : Kept r x2 := by
      unfold x2
      cases hc3 : x1.helm.mirror
      · try dsimp -zeta only
        exact kx1
      · try dsimp -zeta only
        apply Kept.ite
        · with_reducible apply State.setFld_kept
          exact kx1
        · with_reducible apply State.switchTo_kept
          exact kx1
    clear_value x2
    intro x4
    clear_value x4
    apply Kept.ite
    · with_reducible apply State.setRg_kept
      with_reducible apply State.setFlag_kept
      with_reducible apply Kept.upd
      exact kx2
    · exact kx0
  · exact ks

theorem State.partnerHelm_kept {r : State} (s : State) (level : Bool) (ks : Kept r s) : Kept r (State.partnerHelm s level) := by
  unfold State.partnerHelm
  apply Kept.ite
  · exact ks
  · lift_lets
    intro x0
    have kx0 : Kept r x0 := by
      unfold x0
      with_reducible apply State.raise_kept
      with_reducible apply State.putFlag_kept
      exact ks
    clear_value x0
    intro x1
    have kx1 : Kept r x1 := by
      unfold x1
      with_reducible apply State.setFlag_kept
      exact kx0
    clear_value x1
    apply Kept.ite
    · apply Kept.ite
      · with_reducible apply State.setFlag_kept
        exact kx1
      · exact kx1
    · with_reducible apply State.dropRelays_kept
      exact kx0

theorem State.relayFrame_kept {r : State} (s : State) (b : Nat) (up : Bool) (start : Nat) (bytes : List Byte) (ks : Kept r s) : Kept r (State.relayFrame s b up start bytes) := by
  unfold State.relayFrame
  apply Kept.ite
  · apply Kept.ite
    · with_reducible apply State.emit_kept
      exact ks
    · with_reducible apply State.emit_kept
      exact ks
  · exact ks

theorem State.resyncCheck_kept {r : State} (s : State) (role : Nat) (variant : Nat) (mgr : Nat) (ver : Nat) (digest : Bool) (ks : Kept r s) : Kept r (State.resyncCheck s role variant mgr ver digest) := by
  unfold State.resyncCheck
  apply Kept.ite
  · lift_lets
    intro x0
    have kx0 : Kept r x0 := by
      unfold x0
      with_reducible apply State.raise_kept
      with_reducible apply State.setRg_kept
      exact ks
    clear_value x0
    intro x1
    clear_value x1
    intro x2
    have kx2 : Kept r x2 := by
      unfold x2
      with_reducible apply Kept.upd
      exact kx0
    clear_value x2
    intro x3
    clear_value x3
    intro x4
    clear_value x4
    intro x5
    have kx5 : Kept r x5 := by
      unfold x5
      with_reducible apply State.setFlag_kept
      with_reducible apply State.setFld_kept
      exact kx2
    clear_value x5
    apply Kept.ite
    · with_reducible apply State.setFld_kept
      exact kx2
    · apply Kept.ite
      · with_reducible apply State.draw_kept
        with_reducible apply State.raise_kept
        exact kx5
      · with_reducible apply State.raise_kept
        exact kx5
  · exact ks

theorem State.sailConflict_kept {r : State} (s : State) (p : Nat) (f : RxFrame) (ks : Kept r s) : Kept r (State.sailConflict s p f) := by
  unfold State.sailConflict
  apply Kept.ite
  · with_reducible apply State.diagFail_kept
    exact ks
  · exact ks

end Sys2Proof.Machine
end

