-- ==== Sys2Proof/Laws/KeptSafe.lean ====
section
/-! SUPPORT. What the operations of Machine/Safe.lean keep (see Laws/Kept.lean). -/

namespace Sys2Proof.Machine

open Sys2Proof

theorem State.setSch_kept {r : State} (s : State) (st : Bool) (c : SafeCh) (ks : Kept r s) : Kept r (State.setSch s st c) := by
  unfold State.setSch
  apply Kept.ite
  · with_reducible apply Kept.upd
    exact ks
  · with_reducible apply Kept.upd
    exact ks

theorem State.safeDrain_kept {r : State} (z0 : Nat) (z1 : State) (kz1 : Kept r z1) : Kept r (State.safeDrain z0 z1) := by
  induction z0 generalizing z1 with
  | zero => exact kz1
  | succ f ih =>
    unfold State.safeDrain
    split
    · split
      · exact ih _ (Kept.upd (State.pushRing_kept _ _ _ kz1))
      · exact kz1
    · exact kz1

theorem State.safeRec_kept {r : State} (s : State) (st : Bool) (kind : Nat) (num : Nat) (ks : Kept r s) : Kept r (State.safeRec s st kind num) := by
  unfold State.safeRec
  lift_lets
  intro x0
  clear_value x0
  intro x1
  clear_value x1
  intro x2
  have kx2 : Kept r x2 := by
    unfold x2
    with_reducible apply State.loseRing_kept
    exact ks
  clear_value x2
  intro x3
  clear_value x3
  apply Kept.ite
  · with_reducible apply State.flagEvent_kept
    exact kx2
  · with_reducible apply State.safeDrain_kept
    with_reducible apply Kept.upd
    exact ks

theorem State.safeRegs_kept {r : State} (s : State) (st : Bool) (ks : Kept r s) : Kept r (State.safeRegs s st) := by
  unfold State.safeRegs
  lift_lets
  intro x0
  clear_value x0
  intro x1
  clear_value x1
  intro x2
  have kx2 : Kept r x2 := by
    unfold x2
    with_reducible apply State.setRg_kept
    with_reducible apply State.setRg_kept
    exact ks
  clear_value x2
  intro x3
  have kx3 : Kept r x3 := by
    unfold x3
    with_reducible apply State.setFld_kept
    with_reducible apply State.setFld_kept
    exact kx2
  clear_value x3
  intro x4
  have kx4 : Kept r x4 := by
    unfold x4
    with_reducible apply State.setRg_kept
    with_reducible apply State.setFld_kept
    exact kx3
  clear_value x4
  with_reducible apply State.setFld_kept
  exact kx4

theorem State.clearFaults_kept {r : State} (s : State) (st : Bool) (ks : Kept r s) : Kept r (State.clearFaults s st) := by
  unfold State.clearFaults
  lift_lets
  intro x0
  clear_value x0
  intro x1
  clear_value x1
  intro x2
  clear_value x2
  intro x3
  clear_value x3
  intro x4
  clear_value x4
  intro x5
  have kx5 : Kept r x5 := by
    unfold x5
    with_reducible apply State.setSch_kept
    exact ks
  clear_value x5
  intro x6
  have kx6 : Kept r x6 := by
    unfold x6
    refine Kept.foldl _ ?_ ?_
    · exact kx5
    · intro a7
      intro a8
      intro h9
      apply Kept.ite
      · with_reducible apply State.safeRec_kept
        exact h9
      · exact h9
  clear_value x6
  refine Kept.foldl _ ?_ ?_
  · exact kx6
  · intro a10
    intro a11
    intro h12
    apply Kept.ite
    · with_reducible apply State.safeRec_kept
      exact h12
    · exact h12

theorem State.ackAccept_kept {r : State} (s : State) (st : Bool) (ks : Kept r s) : Kept r (State.ackAccept s st) := by
  unfold State.ackAccept
  lift_lets
  intro x0
  clear_value x0
  intro x1
  clear_value x1
  intro x2
  clear_value x2
  intro x3
  clear_value x3
  intro x4
  have kx4 : Kept r x4 := by
    unfold x4
    with_reducible apply State.setSch_kept
    exact ks
  clear_value x4
  intro x5
  have kx5 : Kept r x5 := by
    unfold x5
    with_reducible apply State.safeRec_kept
    with_reducible apply State.raise_kept
    exact kx4
  clear_value x5
  apply Kept.ite
  · exact ks
  · with_reducible apply State.safeRegs_kept
    with_reducible apply State.clearFaults_kept
    apply Kept.ite
    · with_reducible apply State.safeRec_kept
      exact kx5
    · exact kx5

theorem State.ackSplit_kept {r : State} (s : State) (st : Bool) (ks : Kept r s) : Kept r (State.ackSplit s st) := by
  unfold State.ackSplit
  lift_lets
  intro x0
  clear_value x0
  cases hc1 : x0.ackWait
  · try dsimp -zeta only
    exact ks
  · try dsimp -zeta only
    lift_lets
    intro x2
    clear_value x2
    intro x3
    clear_value x3
    intro x4
    have kx4 : Kept r x4 := by
      unfold x4
      with_reducible apply State.setFlag_kept
      with_reducible apply State.setSch_kept
      exact ks
    clear_value x4
    with_reducible apply State.safeRegs_kept
    with_reducible apply State.safeRec_kept
    with_reducible apply State.raise_kept
    exact kx4

theorem State.safeExt_kept {r : State} (s : State) (st : Bool) (bit_ : Nat) (src : Nat) (num : Nat) (ks : Kept r s) : Kept r (State.safeExt s st bit_ src num) := by
  unfold State.safeExt
  with_reducible apply State.safeRec_kept
  with_reducible apply State.raise_kept
  with_reducible apply State.setFlag_kept
  exact ks

theorem State.ackStuckAt_kept {r : State} (s : State) (st : Bool) (ks : Kept r s) : Kept r (State.ackStuckAt s st) := by
  unfold State.ackStuckAt
  lift_lets
  intro x0
  clear_value x0
  cases hc1 : Sys2Proof.Machine.imgAck x0.img
  · try dsimp -zeta only
    exact ks
  · try dsimp -zeta only
    apply Kept.ite
    · with_reducible apply State.safeExt_kept
      with_reducible apply State.setSch_kept
      exact ks
    · exact ks

theorem State.driveSides_kept {r : State} (s : State) (st : Bool) (old : Nat) (new : Nat) (ks : Kept r s) : Kept r (State.driveSides s st old new) := by
  unfold State.driveSides
  refine Kept.foldl _ ?_ ?_
  · exact ks
  · intro a0
    intro a1
    intro h2
    apply Kept.ite
    · exact h2
    · with_reducible apply State.emit_kept
      exact h2

theorem State.startSafety_kept {r : State} (s : State) (ks : Kept r s) : Kept r (State.startSafety s) := by
  unfold State.startSafety
  apply Kept.ite
  · exact ks
  · with_reducible apply State.setFld_kept
    with_reducible apply State.setFld_kept
    exact ks

theorem State.clearStbd_kept {r : State} (s : State) (ks : Kept r s) : Kept r (State.clearStbd s) := by
  unfold State.clearStbd
  lift_lets
  intro x0
  have kx0 : Kept r x0 := by
    unfold x0
    with_reducible apply State.driveSides_kept
    exact ks
  clear_value x0
  intro x1
  clear_value x1
  with_reducible apply Kept.updClear
  exact kx0

theorem State.safeOff_kept {r : State} (s : State) (a : Nat) (off : Nat) (ks : Kept r s) : Kept r (State.safeOff s a off) := by
  unfold State.safeOff
  cases hc0 : Sys2Proof.Machine.imgAxg s.safe.p.img a
  · try dsimp -zeta only
    exact ks
  · try dsimp -zeta only
    apply Kept.ite
    · with_reducible apply State.request_kept
      exact ks
    · exact ks

theorem State.demandGroups_kept {r : State} (s : State) (st : Bool) (old : Nat) (new : Nat) (ks : Kept r s) : Kept r (State.demandGroups s st old new) := by
  unfold State.demandGroups
  apply Kept.ite
  · exact ks
  · with_reducible apply Kept.upd
    exact ks

theorem State.safeDown_kept {r : State} (s : State) (st : Bool) (ks : Kept r s) : Kept r (State.safeDown s st) := by
  unfold State.safeDown
  lift_lets
  intro x0
  clear_value x0
  intro x1
  have kx1 : Kept r x1 := by
    unfold x1
    with_reducible apply State.demandGroups_kept
    with_reducible apply State.driveSides_kept
    exact ks
  clear_value x1
  with_reducible apply State.safeRegs_kept
  with_reducible apply State.setSch_kept
  exact kx1

theorem State.safeDrop_kept {r : State} (s : State) (ks : Kept r s) : Kept r (State.safeDrop s) := by
  unfold State.safeDrop
  cases hc0 : s.safe.load
  · try dsimp -zeta only
    exact ks
  · try dsimp -zeta only
    lift_lets
    intro x1
    clear_value x1
    intro x2
    clear_value x2
    intro x3
    have kx3 : Kept r x3 := by
      unfold x3
      with_reducible apply State.setSch_kept
      with_reducible apply State.setSch_kept
      exact ks
    clear_value x3
    intro x4
    clear_value x4
    with_reducible apply State.complete_kept
    with_reducible apply State.raise_kept
    with_reducible apply Kept.upd
    exact kx3

theorem State.safeEnter_kept {r : State} (s : State) (st : Bool) (n : Nat) (ks : Kept r s) : Kept r (State.safeEnter s st n) := by
  unfold State.safeEnter
  apply Kept.ite
  · exact ks
  · with_reducible apply State.safeRec_kept
    with_reducible apply State.raise_kept
    with_reducible apply State.setFld_kept
    exact ks

theorem State.safeFault_kept {r : State} (s : State) (st : Bool) (code : Nat) (ks : Kept r s) : Kept r (State.safeFault s st code) := by
  unfold State.safeFault
  apply Kept.ite
  · exact ks
  · lift_lets
    intro x0
    have kx0 : Kept r x0 := by
      unfold x0
      with_reducible apply State.safeRec_kept
      with_reducible apply State.setFld_kept
      with_reducible apply State.safeDown_kept
      exact ks
    clear_value x0
    intro x1
    have kx1 : Kept r x1 := by
      unfold x1
      apply Kept.ite
      · with_reducible apply State.raise_kept
        exact kx0
      · apply Kept.ite
        · with_reducible apply State.raise_kept
          exact kx0
        · exact kx0
    clear_value x1
    with_reducible apply State.safeDrop_kept
    with_reducible apply State.safeEnter_kept
    exact kx1

theorem State.safeLoad_kept {r : State} (s : State) (src : Src) (d : Desc) (img : List Byte) (ks : Kept r s) : Kept r (State.safeLoad s src d img) := by
  unfold State.safeLoad
  lift_lets
  intro x0
  clear_value x0
  intro x1
  intro x2
  clear_value x2
  intro x3
  clear_value x3
  intro x4
  clear_value x4
  intro x5
  clear_value x5
  intro x6
  have kx6 : Kept r x6 := by
    unfold x6
    with_reducible apply State.setSch_kept
    with_reducible apply State.setSch_kept
    exact ks
  clear_value x6
  intro x7
  clear_value x7
  apply Kept.ite
  · with_reducible apply State.complete_kept
    exact ks
  · apply Kept.ite
    · unfold x1
      with_reducible apply State.complete_kept
      with_reducible apply State.raise_kept
      exact ks
    · apply Kept.ite
      · unfold x1
        with_reducible apply State.complete_kept
        with_reducible apply State.raise_kept
        exact ks
      · apply Kept.ite
        · with_reducible apply Kept.upd
          exact kx6
        · apply Kept.ite
          · with_reducible apply State.complete_kept
            with_reducible apply State.raise_kept
            with_reducible apply State.safeFault_kept
            with_reducible apply State.safeFault_kept
            exact ks
          · unfold x1
            with_reducible apply State.complete_kept
            with_reducible apply State.raise_kept
            exact ks

theorem State.safeStatus_kept {r : State} (s : State) (src : Src) (d : Desc) (ks : Kept r s) : Kept r (State.safeStatus s src d) := by
  unfold State.safeStatus
  with_reducible apply State.complete_kept
  exact ks

theorem State.applyOutputs_kept {r : State} (s : State) (st : Bool) (ks : Kept r s) : Kept r (State.applyOutputs s st) := by
  unfold State.applyOutputs
  lift_lets
  intro x0
  clear_value x0
  intro x1
  intro x2
  clear_value x2
  intro x3
  clear_value x3
  intro x4
  clear_value x4
  intro x5
  have kx5 : Kept r x5 := by
    unfold x5
    with_reducible apply State.demandGroups_kept
    with_reducible apply State.driveSides_kept
    exact ks
  clear_value x5
  intro x6
  clear_value x6
  intro x7
  have kx7 : Kept r x7 := by
    unfold x7
    with_reducible apply State.setSch_kept
    exact kx5
  clear_value x7
  intro x8
  have kx8 : Kept r x8 := by
    unfold x8
    refine Kept.foldl _ ?_ ?_
    · exact kx7
    · intro a9
      intro a10
      intro h11
      apply Kept.ite
      · exact h11
      · with_reducible apply State.safeRec_kept
        exact h11
  clear_value x8
  refine Kept.foldl _ ?_ ?_
  · exact kx8
  · intro a12
    intro a13
    intro h14
    apply Kept.ite
    · exact h14
    · with_reducible apply State.safeRec_kept
      exact h14

theorem State.crossCheck_kept {r : State} (s : State) (st : Bool) (ks : Kept r s) : Kept r (State.crossCheck s st) := by
  unfold State.crossCheck
  lift_lets
  intro x0
  clear_value x0
  intro x1
  clear_value x1
  intro x2
  clear_value x2
  intro x3
  clear_value x3
  intro x4
  clear_value x4
  intro x5
  clear_value x5
  intro x6
  have kx6 : Kept r x6 := by
    unfold x6
    with_reducible apply State.putFlag_kept
    with_reducible apply State.setSch_kept
    exact ks
  clear_value x6
  apply Kept.ite
  · apply Kept.ite
    · with_reducible apply State.safeFault_kept
      exact kx6
    · apply Kept.ite
      · with_reducible apply State.safeFault_kept
        exact kx6
      · exact kx6
  · exact kx6

theorem State.safeStop_kept {r : State} (s : State) (a : Nat) (ks : Kept r s) : Kept r (State.safeStop s a) := by
  unfold State.safeStop
  lift_lets
  intro x0
  clear_value x0
  intro x1
  have kx1 : Kept r x1 := by
    unfold x1
    apply Kept.ite
    · with_reducible apply State.homeFail_kept
      exact ks
    · exact ks
  clear_value x1
  intro x2
  have kx2 : Kept r x2 := by
    unfold x2
    apply Kept.ite
    · exact kx1
    · with_reducible apply State.homeEnd_kept
      exact kx1
  clear_value x2
  intro x3
  have kx3 : Kept r x3 := by
    unfold x3
    with_reducible apply State.flushQueue_kept
    exact kx2
  clear_value x3
  intro x4
  clear_value x4
  cases hc5 : s.stopDec a
  · try dsimp -zeta only
    apply Kept.ite
    · with_reducible apply State.setProf_kept
      exact ks
    · exact ks
  · try dsimp -zeta only
    apply Kept.ite
    · exact ks
    · apply Kept.ite
      · with_reducible apply State.setProf_kept
        exact ks
      · with_reducible apply State.setProf_kept
        exact kx3

theorem State.safeBoundary_kept {r : State} (s : State) (ks : Kept r s) : Kept r (State.safeBoundary s) := by
  unfold State.safeBoundary
  lift_lets
  intro x0
  clear_value x0
  intro x1
  clear_value x1
  intro x2
  have kx2 : Kept r x2 := by
    unfold x2
    with_reducible apply Kept.upd
    exact ks
  clear_value x2
  intro x3
  have kx3 : Kept r x3 := by
    unfold x3
    refine Kept.foldl _ ?_ ?_
    · exact kx2
    · intro a4
      intro a5
      intro h6
      with_reducible apply State.safeStop_kept
      with_reducible apply State.safeOff_kept
      exact h6
  clear_value x3
  with_reducible apply State.safeDrain_kept
  exact kx3

theorem State.outFail_kept {r : State} (s : State) (st : Bool) (m : Nat) (ks : Kept r s) : Kept r (State.outFail s st m) := by
  unfold State.outFail
  lift_lets
  intro x0
  clear_value x0
  apply Kept.ite
  · exact ks
  · with_reducible apply State.safeExt_kept
    with_reducible apply State.setSch_kept
    exact ks

theorem State.darkTest_kept {r : State} (s : State) (st : Bool) (m : Nat) (fell : Bool) (ks : Kept r s) : Kept r (State.darkTest s st m fell) := by
  unfold State.darkTest
  lift_lets
  intro x0
  clear_value x0
  intro x1
  have kx1 : Kept r x1 := by
    unfold x1
    with_reducible apply State.emit_kept
    with_reducible apply State.emit_kept
    exact ks
  clear_value x1
  apply Kept.ite
  · apply Kept.ite
    · exact kx1
    · with_reducible apply State.outFail_kept
      exact kx1
  · exact ks

theorem State.discrepancy_kept {r : State} (s : State) (st : Bool) (j : Nat) (ks : Kept r s) : Kept r (State.discrepancy s st j) := by
  unfold State.discrepancy
  lift_lets
  intro x0
  clear_value x0
  intro x1
  clear_value x1
  intro x2
  clear_value x2
  apply Kept.ite
  · with_reducible apply State.safeExt_kept
    with_reducible apply State.setSch_kept
    exact ks
  · exact ks

theorem State.evalFuncs_kept {r : State} (s : State) (st : Bool) (ks : Kept r s) : Kept r (State.evalFuncs s st) := by
  unfold State.evalFuncs
  lift_lets
  intro x0
  clear_value x0
  intro x1
  clear_value x1
  intro x2
  clear_value x2
  intro x3
  clear_value x3
  intro x4
  intro x5
  clear_value x5
  intro x6
  clear_value x6
  intro x7
  clear_value x7
  intro x8
  intro x9
  clear_value x9
  intro x10
  clear_value x10
  intro x11
  clear_value x11
  intro x12
  have kx12 : Kept r x12 := by
    unfold x12
    with_reducible apply State.setSch_kept
    exact ks
  clear_value x12
  intro x13
  have kx13 : Kept r x13 := by
    unfold x13
    refine Kept.foldl _ ?_ ?_
    · exact kx12
    · intro a14
      intro a15
      intro h16
      apply Kept.ite
      · with_reducible apply State.safeRec_kept
        with_reducible apply State.raise_kept
        exact h16
      · apply Kept.ite
        · with_reducible apply State.safeRec_kept
          with_reducible apply State.raise_kept
          exact h16
        · exact h16
  clear_value x13
  exact kx13

theorem State.imageStart_kept {r : State} (s : State) (st : Bool) (ks : Kept r s) : Kept r (State.imageStart s st) := by
  unfold State.imageStart
  lift_lets
  intro x0
  clear_value x0
  intro x1
  have kx1 : Kept r x1 := by
    unfold x1
    with_reducible apply State.safeDown_kept
    exact ks
  clear_value x1
  intro x2
  clear_value x2
  cases hc3 : x0.newImg
  · try dsimp -zeta only
    exact ks
  · try dsimp -zeta only
    lift_lets
    intro x4
    clear_value x4
    intro x5
    clear_value x5
    intro x6
    have kx6 : Kept r x6 := by
      unfold x6
      with_reducible apply State.setSch_kept
      exact kx1
    clear_value x6
    intro x7
    have kx7 : Kept r x7 := by
      unfold x7
      refine Kept.foldl _ ?_ ?_
      · exact kx6
      · intro a8
        intro a9
        intro h10
        with_reducible apply State.setRg_kept
        exact h10
    clear_value x7
    intro x11
    have kx11 : Kept r x11 := by
      unfold x11
      with_reducible apply State.putFlag_kept
      exact kx7
    clear_value x11
    intro x12
    have kx12 : Kept r x12 := by
      unfold x12
      with_reducible apply State.safeEnter_kept
      with_reducible apply State.safeRec_kept
      with_reducible apply State.raise_kept
      exact kx11
    clear_value x12
    intro x13
    clear_value x13
    cases hc14 : x12.safe.load
    · try dsimp -zeta only
      exact kx12
    · try dsimp -zeta only
      apply Kept.ite
      · with_reducible apply State.complete_kept
        with_reducible apply Kept.upd
        exact kx12
      · exact kx12

theorem State.inputFilter_kept {r : State} (s : State) (st : Bool) (k : Nat) (lvl : Bool) (ks : Kept r s) : Kept r (State.inputFilter s st k lvl) := by
  unfold State.inputFilter
  lift_lets
  intro x0
  clear_value x0
  intro x1
  clear_value x1
  apply Kept.ite
  · exact ks
  · with_reducible apply State.safeRegs_kept
    with_reducible apply State.setSch_kept
    exact ks

theorem State.writePdu_kept {r : State} (s : State) (st : Bool) (ks : Kept r s) : Kept r (State.writePdu s st) := by
  unfold State.writePdu
  lift_lets
  intro x0
  clear_value x0
  intro x1
  clear_value x1
  intro x2
  clear_value x2
  intro x3
  have kx3 : Kept r x3 := by
    unfold x3
    with_reducible apply State.setRg_kept
    with_reducible apply State.setSch_kept
    exact ks
  clear_value x3
  intro x4
  clear_value x4
  apply Kept.ite
  · with_reducible apply Kept.upd
    exact kx3
  · with_reducible apply Kept.upd
    exact kx3

theorem State.safetyCycle_kept {r : State} (s : State) (st : Bool) (raw : Nat) (sofb : Nat) (ks : Kept r s) : Kept r (State.safetyCycle s st raw sofb) := by
  unfold State.safetyCycle
  lift_lets
  intro x0
  clear_value x0
  intro x1
  clear_value x1
  intro x2
  have kx2 : Kept r x2 := by
    unfold x2
    with_reducible apply State.setSch_kept
    exact ks
  clear_value x2
  intro x3
  have kx3 : Kept r x3 := by
    unfold x3
    apply Kept.ite
    · with_reducible apply State.imageStart_kept
      exact kx2
    · with_reducible apply State.applyOutputs_kept
      with_reducible apply State.evalFuncs_kept
      exact kx2
  clear_value x3
  intro x4
  have kx4 : Kept r x4 := by
    unfold x4
    with_reducible apply State.writePdu_kept
    exact kx3
  clear_value x4
  intro x5
  clear_value x5
  intro x6
  have kx6 : Kept r x6 := by
    unfold x6
    with_reducible apply State.setSch_kept
    exact kx4
  clear_value x6
  intro x7
  have kx7 : Kept r x7 := by
    unfold x7
    with_reducible apply State.crossCheck_kept
    exact kx6
  clear_value x7
  intro x8
  clear_value x8
  intro x9
  clear_value x9
  intro x10
  clear_value x10
  apply Kept.ite
  · exact ks
  · with_reducible apply State.safeRegs_kept
    with_reducible apply State.setSch_kept
    exact kx7

theorem State.selftestDone_kept {r : State} (s : State) (st : Bool) (pass : Bool) (ks : Kept r s) : Kept r (State.selftestDone s st pass) := by
  unfold State.selftestDone
  apply Kept.ite
  · exact ks
  · apply Kept.ite
    · with_reducible apply State.safeEnter_kept
      exact ks
    · with_reducible apply State.safeFault_kept
      exact ks

theorem State.ss1Expiry_kept {r : State} (s : State) (st : Bool) (f : Nat) (ks : Kept r s) : Kept r (State.ss1Expiry s st f) := by
  unfold State.ss1Expiry
  lift_lets
  intro x0
  clear_value x0
  with_reducible apply State.setSch_kept
  exact ks

theorem State.stoCheck_kept {r : State} (s : State) (g : Nat) (ks : Kept r s) : Kept r (State.stoCheck s g) := by
  unfold State.stoCheck
  lift_lets
  intro x0
  clear_value x0
  intro x1
  clear_value x1
  apply Kept.ite
  · refine Kept.foldl _ ?_ ?_
    · exact ks
    · intro a2
      intro a3
      intro h4
      apply Kept.ite
      · exact h4
      · with_reducible apply State.raise_kept
        exact h4
  · exact ks

theorem State.testPulse_kept {r : State} (s : State) (src : Nat) (before : Nat) (lows : Nat) (ks : Kept r s) : Kept r (State.testPulse s src before lows) := by
  unfold State.testPulse
  lift_lets
  intro x0
  clear_value x0
  intro x1
  have kx1 : Kept r x1 := by
    unfold x1
    with_reducible apply State.emit_kept
    with_reducible apply State.emit_kept
    exact ks
  clear_value x1
  apply Kept.ite
  · exact ks
  · refine Kept.foldl _ ?_ ?_
    · exact kx1
    · intro a2
      intro a3
      intro h4
      apply Kept.ite
      · exact h4
      · apply Kept.ite
        · apply Kept.ite
          · with_reducible apply State.setSch_kept
            exact h4
          · with_reducible apply State.safeExt_kept
            with_reducible apply State.setSch_kept
            exact h4
        · apply Kept.ite
          · with_reducible apply State.setSch_kept
            exact h4
          · exact h4

end Sys2Proof.Machine
end

