-- ==== Sys2Proof/Laws/KeptBoot.lean ====
section
/-! SUPPORT. What the operations of Machine/Boot.lean keep (see Laws/Kept.lean). -/

namespace Sys2Proof.Machine

open Sys2Proof

theorem State.keelInterrupted_kept {r : State} (s : State) (ks : Kept r s) : Kept r (State.keelInterrupted s) := by
  unfold State.keelInterrupted
  cases hc0 : s.boot.keelJob
  · try dsimp -zeta only
    exact ks
  · try dsimp -zeta only
    lift_lets
    intro x1
    clear_value x1
    intro x2
    clear_value x2
    intro x3
    clear_value x3
    intro x4
    clear_value x4
    with_reducible apply Kept.updFree
    exact ks

theorem State.portsOff_kept {r : State} (s : State) (l : List Nat) (ks : Kept r s) : Kept r (State.portsOff s l) := by
  unfold State.portsOff
  refine Kept.foldl _ ?_ ?_
  · exact ks
  · intro a0
    intro a1
    intro h2
    with_reducible apply State.emit_kept
    exact h2

theorem State.loadFused_kept {r : State} (s : State) (p : Nat → Bool) (ks : Kept r s) : Kept r (State.loadFused s p) := by
  unfold State.loadFused
  lift_lets
  intro x0
  have kx0 : Kept r x0 := by
    unfold x0
    apply Kept.ite
    · with_reducible apply State.setRg_kept
      exact ks
    · exact ks
  clear_value x0
  apply Kept.ite
  · with_reducible apply State.setRg_kept
    exact kx0
  · exact kx0

theorem State.keelLoad_kept {r : State} (s : State) (ks : Kept r s) : Kept r (State.keelLoad s) := by
  unfold State.keelLoad
  lift_lets
  intro x0
  clear_value x0
  intro x1
  clear_value x1
  intro x2
  clear_value x2
  with_reducible apply State.loadFused_kept
  with_reducible apply Kept.upd
  exact ks

theorem State.blank_kept {r : State} (s : State) (ks : Kept r s) : Kept r (State.blank s) :=
  ⟨ks.pending, fun _ => rfl, ks.out, ks.free⟩

theorem State.clearAll_kept {r : State} (s : State) (ks : Kept r s) : Kept r (State.clearAll s) := by
  unfold State.clearAll
  lift_lets
  intro x0
  have kx0 : Kept r x0 := by
    unfold x0
    with_reducible apply State.keelInterrupted_kept
    exact ks
  clear_value x0
  intro x1
  clear_value x1
  intro x2
  clear_value x2
  intro x3
  have kx3 : Kept r x3 := by
    unfold x3
    with_reducible apply State.driveSides_kept
    with_reducible apply State.driveSides_kept
    exact kx0
  clear_value x3
  intro x4
  have kx4 : Kept r x4 := by
    unfold x4
    with_reducible apply State.portsOff_kept
    apply Kept.ite
    · with_reducible apply State.driveHelm_kept
      exact kx3
    · exact kx3
  clear_value x4
  intro x5
  have kx5 : Kept r x5 := by
    unfold x5
    apply Kept.ite
    · with_reducible apply State.gatesAll_kept
      exact kx4
    · exact kx4
  clear_value x5
  intro x6
  have kx6 : Kept r x6 := by
    unfold x6
    with_reducible apply State.keelLoad_kept
    with_reducible apply State.blank_kept
    exact kx5
  clear_value x6
  apply Kept.ite
  · with_reducible apply State.setFlag_kept
    with_reducible apply State.setFlag_kept
    exact kx6
  · exact kx6

theorem State.startUp_kept {r : State} (s : State) (ks : Kept r s) : Kept r (State.startUp s) := by
  unfold State.startUp
  lift_lets
  intro x0
  have kx0 : Kept r x0 := by
    unfold x0
    with_reducible apply State.keelLoad_kept
    exact ks
  clear_value x0
  intro x1
  have kx1 : Kept r x1 := by
    unfold x1
    with_reducible apply State.setFlag_kept
    with_reducible apply State.setRg_kept
    exact kx0
  clear_value x1
  intro x2
  have kx2 : Kept r x2 := by
    unfold x2
    with_reducible apply State.setRg_kept
    exact kx1
  clear_value x2
  intro x3
  have kx3 : Kept r x3 := by
    unfold x3
    with_reducible apply State.setRg_kept
    exact kx2
  clear_value x3
  intro x4
  have kx4 : Kept r x4 := by
    unfold x4
    with_reducible apply State.setFld_kept
    with_reducible apply State.setFld_kept
    exact kx3
  clear_value x4
  intro x5
  clear_value x5
  with_reducible apply State.gatesAll_kept
  with_reducible apply State.startSafety_kept
  with_reducible apply Kept.upd
  exact kx4

theorem State.fullReset_kept {r : State} (s : State) (code : Nat) (ks : Kept r s) : Kept r (State.fullReset s code) := by
  unfold State.fullReset
  apply Kept.ite
  · exact ks
  · lift_lets
    intro x0
    clear_value x0
    intro x1
    clear_value x1
    intro x2
    have kx2 : Kept r x2 := by
      unfold x2
      with_reducible apply State.setRg_kept
      with_reducible apply State.clearAll_kept
      exact ks
    clear_value x2
    intro x3
    clear_value x3
    with_reducible apply State.recordReset_kept
    with_reducible apply State.startUp_kept
    with_reducible apply Kept.upd
    exact kx2

theorem State.chipReset_kept {r : State} (s : State) (w : Word) (ks : Kept r s) : Kept r (State.chipReset s w) := by
  unfold State.chipReset
  apply Kept.ite
  · with_reducible apply State.fullReset_kept
    exact ks
  · with_reducible apply State.setFld_kept
    exact ks

theorem State.clearLaneDom_kept {r : State} (s : State) (lo : Nat) (other : Nat) (ks : Kept r s) : Kept r (State.clearLaneDom s lo other) := by
  have k0 := State.clearLanes_kept s lo (lo + 8) ks
  have k : Kept r { s.clearLanes lo (lo + 8) with regs := Tab.clearRange s.regs (LANEN_B + lo * 0x1000) (LANEN_B + (lo + 8) * 0x1000) } :=
    ⟨k0.pending, fun c => Tab.clearRange_wf _ _ _ _ (ks.canonical c), k0.out, k0.free⟩
  exact Kept.ite (Kept.foldl _ k fun _ _ h => State.setLane_kept _ _ _ h) (Kept.foldl _ k fun _ _ h => State.setFld_kept _ _ _ _ _ h)

theorem State.clearHost_kept {r : State} (s : State) (ks : Kept r s) : Kept r (State.clearHost s) := by
  unfold State.clearHost
  with_reducible apply Kept.updClear
  exact ks

theorem State.clearDomain_kept {r : State} (s : State) (c : Nat) (ks : Kept r s) : Kept r (State.clearDomain s c) := by
  unfold State.clearDomain
  lift_lets
  intro x0
  split
  · with_reducible apply State.clearLaneDom_kept
    exact ks
  · with_reducible apply State.clearLaneDom_kept
    exact ks
  · with_reducible apply State.runStops_kept
    refine Kept.foldl _ ?_ ?_
    · with_reducible apply State.portsOff_kept
      exact ks
    · intro a1
      intro a2
      intro h3
      unfold x0
      with_reducible apply Kept.updClear
      exact h3
  · with_reducible apply State.runStops_kept
    refine Kept.foldl _ ?_ ?_
    · with_reducible apply State.portsOff_kept
      exact ks
    · intro a4
      intro a5
      intro h6
      unfold x0
      with_reducible apply Kept.updClear
      exact h6
  · with_reducible apply State.clearHost_kept
    exact ks
  · with_reducible apply State.clearLocal_kept
    with_reducible apply State.canFlush_kept
    exact ks
  · with_reducible apply State.clearStbd_kept
    exact ks
  · exact ks

theorem State.domainReset_kept {r : State} (s : State) (w : Word) (ks : Kept r s) : Kept r (State.domainReset s w) := by
  unfold State.domainReset
  lift_lets
  intro x0
  clear_value x0
  apply Kept.ite
  · exact ks
  · with_reducible apply State.recordReset_kept
    refine Kept.foldl _ ?_ ?_
    · exact ks
    · intro a1
      intro a2
      intro h3
      with_reducible apply State.clearDomain_kept
      exact h3

theorem State.startTest_kept {r : State} (s : State) (src : Src) (opc : Nat) (d : Desc) (okTarget : Bool) (pre : Bool) (ks : Kept r s) : Kept r (State.startTest s src opc d okTarget pre) := by
  unfold State.startTest
  apply Kept.ite
  · with_reducible apply State.complete_kept
    exact ks
  · apply Kept.ite
    · with_reducible apply State.complete_kept
      exact ks
    · with_reducible apply Kept.upd
      exact ks

theorem State.portTest_kept {r : State} (s : State) (src : Src) (d : Desc) (ks : Kept r s) : Kept r (State.portTest s src d) := by
  unfold State.portTest
  lift_lets
  intro x0
  clear_value x0
  apply Kept.ite
  · with_reducible apply State.complete_kept
    exact ks
  · apply Kept.ite
    · with_reducible apply State.complete_kept
      exact ks
    · apply Kept.ite
      · with_reducible apply State.complete_kept
        exact ks
      · with_reducible apply State.startTest_kept
        exact ks

theorem State.testLane_kept {r : State} (s : State) (src : Src) (d : Desc) (ks : Kept r s) : Kept r (State.testLane s src d) := by
  unfold State.testLane
  lift_lets
  intro x0
  clear_value x0
  apply Kept.ite
  · with_reducible apply State.complete_kept
    exact ks
  · apply Kept.ite
    · with_reducible apply State.complete_kept
      exact ks
    · with_reducible apply State.startTest_kept
      exact ks

theorem State.testHart_kept {r : State} (s : State) (src : Src) (d : Desc) (ks : Kept r s) : Kept r (State.testHart s src d) := by
  unfold State.testHart
  lift_lets
  intro x0
  have kx0 : Kept r x0 := by
    unfold x0
    with_reducible apply State.startTest_kept
    exact ks
  clear_value x0
  intro x1
  clear_value x1
  apply Kept.ite
  · with_reducible apply Kept.upd
    exact kx0
  · exact kx0

theorem State.testMemory_kept {r : State} (s : State) (src : Src) (d : Desc) (ks : Kept r s) : Kept r (State.testMemory s src d) := by
  unfold State.testMemory
  with_reducible apply State.startTest_kept
  exact ks

theorem State.pdSwitch_kept {r : State} (s : State) (src : Src) (d : Desc) (ks : Kept r s) : Kept r (State.pdSwitch s src d) := by
  unfold State.pdSwitch
  lift_lets
  intro x0
  clear_value x0
  intro x1
  clear_value x1
  intro x2
  clear_value x2
  apply Kept.ite
  · with_reducible apply State.complete_kept
    exact ks
  · apply Kept.ite
    · with_reducible apply State.complete_kept
      exact ks
    · apply Kept.ite
      · with_reducible apply State.complete_kept
        exact ks
      · apply Kept.ite
        · with_reducible apply State.complete_kept
          exact ks
        · apply Kept.ite
          · with_reducible apply State.complete_kept
            exact ks
          · with_reducible apply Kept.upd
            exact ks

theorem State.keelEnd_kept {r : State} (s : State) (src : Src) (d : Desc) (code : Nat) (st : St) (ks : Kept r s) : Kept r (State.keelEnd s src d code st) := by
  unfold State.keelEnd
  lift_lets
  intro x0
  have kx0 : Kept r x0 := by
    unfold x0
    with_reducible apply State.setRg_kept
    exact ks
  clear_value x0
  with_reducible apply State.complete_kept
  with_reducible apply State.raise_kept
  exact kx0

theorem State.keelProgram_kept {r : State} (s : State) (src : Src) (d : Desc) (ks : Kept r s) : Kept r (State.keelProgram s src d) := by
  unfold State.keelProgram
  lift_lets
  intro x0
  clear_value x0
  intro x1
  clear_value x1
  cases hc2 : Sys2Proof.Machine.groupOf x0
  · try dsimp -zeta only
    with_reducible apply State.complete_kept
    exact ks
  · try dsimp -zeta only
    apply Kept.ite
    · with_reducible apply State.complete_kept
      exact ks
    · apply Kept.ite
      · with_reducible apply State.complete_kept
        exact ks
      · apply Kept.ite
        · with_reducible apply State.keelEnd_kept
          exact ks
        · apply Kept.ite
          · with_reducible apply State.keelEnd_kept
            exact ks
          · apply Kept.ite
            · with_reducible apply State.keelEnd_kept
              exact ks
            · apply Kept.ite
              · with_reducible apply State.keelEnd_kept
                exact ks
              · with_reducible apply State.setRg_kept
                with_reducible apply Kept.upd
                exact ks

theorem State.bootImage_kept {r : State} (s : State) (img : List Byte) (slot : Bool) (fallback : Bool) (ks : Kept r s) : Kept r (State.bootImage s img slot fallback) := by
  unfold State.bootImage
  lift_lets
  intro x0
  clear_value x0
  intro x1
  clear_value x1
  intro x2
  clear_value x2
  intro x3
  clear_value x3
  intro x4
  clear_value x4
  intro x5
  clear_value x5
  intro x6
  clear_value x6
  intro x7
  have kx7 : Kept r x7 := by
    unfold x7
    with_reducible apply Kept.upd
    exact ks
  clear_value x7
  intro x8
  have kx8 : Kept r x8 := by
    unfold x8
    refine Kept.foldl _ ?_ ?_
    · exact kx7
    · intro a9
      intro a10
      intro h11
      with_reducible apply State.hartAt_kept
      exact h11
  clear_value x8
  intro x12
  have kx12 : Kept r x12 := by
    unfold x12
    apply Kept.ite
    · exact kx8
    · refine Kept.foldl _ ?_ ?_
      · exact kx8
      · intro a13
        intro a14
        intro h15
        with_reducible apply State.hartAt_kept
        exact h15
  clear_value x12
  intro x16
  have kx16 : Kept r x16 := by
    unfold x16
    with_reducible apply State.setFld_kept
    with_reducible apply State.setFld_kept
    with_reducible apply State.setFld_kept
    exact kx12
  clear_value x16
  intro x17
  have kx17 : Kept r x17 := by
    unfold x17
    with_reducible apply State.setFld_kept
    exact kx16
  clear_value x17
  with_reducible apply State.setFld_kept
  exact kx17

theorem State.fwStage_kept {r : State} (s : State) (src : Src) (d : Desc) (image : Option (List Byte)) (ks : Kept r s) : Kept r (State.fwStage s src d image) := by
  unfold State.fwStage
  lift_lets
  intro x0
  clear_value x0
  intro x1
  clear_value x1
  apply Kept.ite
  · with_reducible apply State.complete_kept
    exact ks
  · apply Kept.ite
    · with_reducible apply State.complete_kept
      exact ks
    · cases image
      · try dsimp -zeta only
        with_reducible apply State.complete_kept
        exact ks
      · try dsimp -zeta only
        lift_lets
        intro x3
        clear_value x3
        intro x4
        clear_value x4
        apply Kept.ite
        · with_reducible apply State.complete_kept
          with_reducible apply State.setFld_kept
          exact ks
        · apply Kept.ite
          · with_reducible apply State.complete_kept
            with_reducible apply State.bootImage_kept
            exact ks
          · with_reducible apply Kept.upd
            exact ks

theorem State.eccError_kept {r : State} (s : State) (mem : Nat) (bank : Nat) (word : Nat) (corr : Bool) (hart : Option (Fin 4)) (ks : Kept r s) : Kept r (State.eccError s mem bank word corr hart) := by
  unfold State.eccError
  lift_lets
  intro x0
  have kx0 : Kept r x0 := by
    unfold x0
    with_reducible apply State.raise_kept
    exact ks
  clear_value x0
  intro x1
  clear_value x1
  apply Kept.ite
  · exact kx0
  · apply Kept.ite
    · with_reducible apply State.diagFail_kept
      exact kx0
    · apply Kept.ite
      · cases hart
        · try dsimp -zeta only
          exact kx0
        · try dsimp -zeta only
          with_reducible apply State.hartTrap_kept
          exact kx0
      · apply Kept.ite
        · with_reducible apply State.diagFail_kept
          with_reducible apply Kept.upd
          exact kx0
        · apply Kept.ite
          · with_reducible apply State.diagFail_kept
            exact kx0
          · exact kx0

theorem State.flr_kept {r : State} (s : State) (ks : Kept r s) : Kept r (State.flr s) := by
  unfold State.flr
  lift_lets
  intro x0
  clear_value x0
  intro x1
  clear_value x1
  intro x2
  have kx2 : Kept r x2 := by
    unfold x2
    with_reducible apply State.clearHost_kept
    exact ks
  clear_value x2
  intro x3
  clear_value x3
  with_reducible apply State.recordReset_kept
  with_reducible apply State.setRg_kept
  with_reducible apply Kept.upd
  exact kx2

theorem State.fwStageDone_kept {r : State} (s : State) (readback : Bool) (ks : Kept r s) : Kept r (State.fwStageDone s readback) := by
  unfold State.fwStageDone
  cases hc0 : s.boot.fwJob
  · try dsimp -zeta only
    exact ks
  · try dsimp -zeta only
    lift_lets
    intro x1
    clear_value x1
    intro x2
    clear_value x2
    intro x3
    have kx3 : Kept r x3 := by
      unfold x3
      with_reducible apply State.emit_kept
      with_reducible apply Kept.upd
      exact ks
    clear_value x3
    intro x4
    clear_value x4
    apply Kept.ite
    · with_reducible apply State.complete_kept
      with_reducible apply State.emit_kept
      with_reducible apply Kept.upd
      exact kx3
    · with_reducible apply State.complete_kept
      exact kx3

theorem State.imageVerify_kept {r : State} (s : State) (slotB : Bool) (image : Option (List Byte)) (ks : Kept r s) : Kept r (State.imageVerify s slotB image) := by
  unfold State.imageVerify
  lift_lets
  intro x0
  clear_value x0
  intro x1
  have kx1 : Kept r x1 := by
    unfold x1
    with_reducible apply State.setFld_kept
    exact ks
  intro x2
  clear_value x2
  intro x3
  have kx3 : Kept r x3 := by
    unfold x3
    with_reducible apply Kept.upd
    exact kx1
  apply Kept.ite
  · exact ks
  · apply Kept.ite
    · with_reducible apply State.bootImage_kept
      exact ks
    · apply Kept.ite
      · with_reducible apply State.setFld_kept
        exact kx3
      · exact kx3

theorem State.keelDone_kept {r : State} (s : State) (t : Word) (c : Word) (ks : Kept r s) : Kept r (State.keelDone s t c) := by
  unfold State.keelDone
  cases hc0 : s.boot.keelJob
  · try dsimp -zeta only
    exact ks
  · try dsimp -zeta only
    lift_lets
    intro x1
    clear_value x1
    intro x2
    have kx2 : Kept r x2 := by
      unfold x2
      with_reducible apply Kept.upd
      exact ks
    clear_value x2
    intro x3
    have kx3 : Kept r x3 := by
      unfold x3
      with_reducible apply State.loadFused_kept
      exact kx2
    clear_value x3
    apply Kept.ite
    · with_reducible apply State.keelEnd_kept
      exact kx3
    · with_reducible apply State.keelEnd_kept
      exact kx3

theorem State.pdDone_kept {r : State} (s : State) (c : Nat) (ks : Kept r s) : Kept r (State.pdDone s c) := by
  unfold State.pdDone
  cases hc0 : List.find? (fun j => j.snd.tgt == c) s.boot.pdJobs
  · try dsimp -zeta only
    exact ks
  · try dsimp -zeta only
    lift_lets
    intro x1
    clear_value x1
    intro x2
    clear_value x2
    intro x3
    have kx3 : Kept r x3 := by
      unfold x3
      with_reducible apply Kept.upd
      exact ks
    clear_value x3
    intro x4
    have kx4 : Kept r x4 := by
      unfold x4
      with_reducible apply State.putFlag_kept
      exact kx3
    clear_value x4
    intro x5
    have kx5 : Kept r x5 := by
      unfold x5
      apply Kept.ite
      · with_reducible apply State.recordReset_kept
        with_reducible apply State.clearDomain_kept
        exact kx4
      · apply Kept.ite
        · with_reducible apply State.clearHost_kept
          exact kx4
        · apply Kept.ite
          · with_reducible apply State.gatesAll_kept
            with_reducible apply State.canFlush_kept
            exact kx4
          · exact kx4
    clear_value x5
    with_reducible apply State.complete_kept
    with_reducible apply State.raise_kept
    exact kx5

theorem State.porRelease_kept {r : State} (s : State) (bootsel : Nat) (vpp : Bool) (ks : Kept r s) : Kept r (State.porRelease s bootsel vpp) := by
  unfold State.porRelease
  apply Kept.ite
  · exact ks
  · lift_lets
    intro x0
    clear_value x0
    intro x1
    have kx1 : Kept r x1 := by
      unfold x1
      with_reducible apply State.startUp_kept
      with_reducible apply Kept.upd
      exact ks
    clear_value x1
    intro x2
    have kx2 : Kept r x2 := by
      unfold x2
      apply Kept.ite
      · with_reducible apply State.setFlag_kept
        exact kx1
      · exact kx1
    clear_value x2
    with_reducible apply State.raise_kept
    exact kx2

theorem State.railReturn_kept {r : State} (s : State) (k : Nat) (ks : Kept r s) : Kept r (State.railReturn s k) := by
  unfold State.railReturn
  apply Kept.ite
  · exact ks
  · lift_lets
    intro x0
    have kx0 : Kept r x0 := by
      unfold x0
      with_reducible apply State.setFlag_kept
      exact ks
    clear_value x0
    intro x1
    clear_value x1
    apply Kept.ite
    · with_reducible apply Kept.upd
      exact kx0
    · apply Kept.ite
      · with_reducible apply State.startSafety_kept
        exact kx0
      · exact kx0

theorem State.superReset_kept {r : State} (s : State) (ks : Kept r s) : Kept r (State.superReset s) := by
  unfold State.superReset
  lift_lets
  intro x0
  have kx0 : Kept r x0 := by
    unfold x0
    with_reducible apply State.diagFail_kept
    exact ks
  clear_value x0
  intro x1
  clear_value x1
  intro x2
  clear_value x2
  intro x3
  clear_value x3
  intro x4
  clear_value x4
  intro x5
  have kx5 : Kept r x5 := by
    unfold x5
    with_reducible apply Kept.upd
    exact kx0
  clear_value x5
  intro x6
  have kx6 : Kept r x6 := by
    unfold x6
    with_reducible apply State.hartAt_kept
    with_reducible apply State.hartAt_kept
    exact kx5
  clear_value x6
  intro x7
  have kx7 : Kept r x7 := by
    unfold x7
    apply Kept.ite
    · with_reducible apply State.rejectPlan_kept
      exact kx6
    · exact kx6
  clear_value x7
  with_reducible apply State.recordReset_kept
  exact kx7

theorem State.supplyTrip_kept {r : State} (s : State) (k : Nat) (ks : Kept r s) : Kept r (State.supplyTrip s k) := by
  unfold State.supplyTrip
  apply Kept.ite
  · lift_lets
    intro x0
    have kx0 : Kept r x0 := by
      unfold x0
      with_reducible apply State.raise_kept
      with_reducible apply State.setFlag_kept
      with_reducible apply State.clrFlag_kept
      exact ks
    clear_value x0
    intro x1
    clear_value x1
    intro x2
    have kx2 : Kept r x2 := by
      unfold x2
      apply Kept.ite
      · with_reducible apply Kept.upd
        exact kx0
      · exact kx0
    clear_value x2
    intro x3
    have kx3 : Kept r x3 := by
      unfold x3
      apply Kept.ite
      · with_reducible apply State.safeFault_kept
        with_reducible apply State.clearStbd_kept
        exact kx2
      · exact kx2
    clear_value x3
    apply Kept.ite
    · exact kx3
    · with_reducible apply State.diagFail_kept
      exact kx3
  · exact ks

theorem State.testDone_kept {r : State} (s : State) (opc : Nat) (tgt : Nat) (r3x : Nat) (ks : Kept r s) : Kept r (State.testDone s opc tgt r3x) := by
  unfold State.testDone
  cases hc0 : List.find? (fun t => t.opc == opc && t.desc.tgt == tgt) s.boot.tests
  · try dsimp -zeta only
    exact ks
  · try dsimp -zeta only
    lift_lets
    intro x1
    clear_value x1
    intro x2
    clear_value x2
    intro x3
    have kx3 : Kept r x3 := by
      unfold x3
      with_reducible apply Kept.upd
      exact ks
    clear_value x3
    intro x4
    clear_value x4
    intro x5
    have kx5 : Kept r x5 := by
      unfold x5
      apply Kept.ite
      · with_reducible apply State.dropLane_kept
        exact kx3
      · exact kx3
    clear_value x5
    with_reducible apply State.complete_kept
    with_reducible apply State.raise_kept
    exact kx5

theorem State.thermal_kept {r : State} (s : State) (tj : BitVec 8) (ks : Kept r s) : Kept r (State.thermal s tj) := by
  unfold State.thermal
  lift_lets
  intro x0
  clear_value x0
  intro x1
  clear_value x1
  intro x2
  clear_value x2
  intro x3
  clear_value x3
  intro x4
  clear_value x4
  intro x5
  have kx5 : Kept r x5 := by
    unfold x5
    with_reducible apply State.putFlag_kept
    with_reducible apply State.putFlag_kept
    with_reducible apply State.setFld_kept
    exact ks
  clear_value x5
  intro x6
  have kx6 : Kept r x6 := by
    unfold x6
    apply Kept.ite
    · with_reducible apply State.raise_kept
      with_reducible apply State.setFlag_kept
      exact kx5
    · exact kx5
  clear_value x6
  apply Kept.ite
  · with_reducible apply State.diagFail_kept
    with_reducible apply State.raise_kept
    with_reducible apply State.setFlag_kept
    exact kx6
  · exact kx6

end Sys2Proof.Machine
end

