-- ==== Sys2Proof/Laws/KeptLaneCmd.lean ====
section
/-! SUPPORT. What the operations of Machine/LaneCmd.lean keep (see Laws/Kept.lean). -/

namespace Sys2Proof.Machine

open Sys2Proof

theorem State.cflag_kept {r : State} (s : State) (n : Nat) (ks : Kept r s) : Kept r (State.cflag s n) := by
  unfold State.cflag
  with_reducible apply State.raise_kept
  with_reducible apply State.setFlag_kept
  exact ks

theorem State.manifestStore_kept {r : State} (s : State) (hi : Word) (ks : Kept r s) : Kept r (State.manifestStore s hi) := by
  unfold State.manifestStore
  lift_lets
  intro x0
  clear_value x0
  intro x1
  clear_value x1
  intro x2
  clear_value x2
  intro x3
  have kx3 : Kept r x3 := by
    unfold x3
    with_reducible apply State.setFld_kept
    exact ks
  clear_value x3
  intro x4
  clear_value x4
  intro x5
  clear_value x5
  intro x6
  have kx6 : Kept r x6 := by
    unfold x6
    refine Kept.foldl _ ?_ ?_
    · exact kx3
    · intro a7
      intro a8
      intro h9
      lift_lets
      intro x10
      clear_value x10
      with_reducible apply State.setLane_kept
      exact h9
  clear_value x6
  apply Kept.ite
  · with_reducible apply State.cflag_kept
    exact kx3
  · apply Kept.ite
    · with_reducible apply State.cflag_kept
      exact kx6
    · exact kx6

theorem State.startCheck_kept {r : State} (s : State) (list : Nat) (ks : Kept r s) : Kept r (State.startCheck s list) := by
  unfold State.startCheck
  with_reducible apply State.setFlag_kept
  exact ks

theorem State.checkDone_kept {r : State} (s : State) (list : Nat) (ks : Kept r s) : Kept r (State.checkDone s list) := by
  unfold State.checkDone
  apply Kept.ite
  · lift_lets
    intro x0
    clear_value x0
    intro x1
    clear_value x1
    intro x2
    clear_value x2
    with_reducible apply State.setRg_kept
    apply Kept.ite
    · exact ks
    · with_reducible apply State.draw_kept
      exact ks
  · exact ks

theorem State.laneOuter_kept {r : State} (s : State) (l : Nat) (a : Nat) (w : LaneWord) (e : LaneEff) (ks : Kept r s) : Kept r (State.laneOuter s l a w e) := by
  unfold State.laneOuter
  lift_lets
  intro x0
  have kx0 : Kept r x0 := by
    unfold x0
    apply Kept.ite
    · with_reducible apply State.incFld_kept
      with_reducible apply State.laneFlag_kept
      with_reducible apply State.axFlag_kept
      exact ks
    · exact ks
  clear_value x0
  intro x1
  have kx1 : Kept r x1 := by
    unfold x1
    apply Kept.ite
    · with_reducible apply State.laneFlag_kept
      with_reducible apply State.axFlag_kept
      exact kx0
    · exact kx0
  clear_value x1
  intro x2
  have kx2 : Kept r x2 := by
    unfold x2
    cases hc3 : e.mflag
    · try dsimp -zeta only
      exact kx1
    · try dsimp -zeta only
      with_reducible apply State.mflag_kept
      exact kx1
  clear_value x2
  intro x4
  have kx4 : Kept r x4 := by
    unfold x4
    cases hc5 : e.life
    · try dsimp -zeta only
      exact kx2
    · try dsimp -zeta only
      with_reducible apply State.addLife_kept
      exact kx2
  clear_value x4
  intro x6
  clear_value x6
  intro x7
  have kx7 : Kept r x7 := by
    unfold x7
    cases hc8 : e.lwr
    · try dsimp -zeta only
      exact kx4
    · try dsimp -zeta only
      with_reducible apply State.setLane_kept
      with_reducible apply State.wrBin_kept
      exact kx4
  clear_value x7
  intro x9
  clear_value x9
  cases hc10 : e.lrd
  · try dsimp -zeta only
    exact kx7
  · try dsimp -zeta only
    lift_lets
    intro x11
    clear_value x11
    intro x12
    clear_value x12
    intro x13
    have kx13 : Kept r x13 := by
      unfold x13
      apply Kept.ite
      · with_reducible apply State.draw_kept
        exact kx7
      · exact kx7
    clear_value x13
    with_reducible apply State.setLane_kept
    exact kx13

theorem State.laneRun_kept {r : State} (s : State) (l : Nat) (op : Nat) (w : LaneWord) (f : LaneSt → LaneWord → LaneEff) (ks : Kept r s) : Kept r (State.laneRun s l op w f) := by
  unfold State.laneRun
  apply Kept.ite
  · lift_lets
    intro x0
    clear_value x0
    intro x1
    clear_value x1
    intro x2
    have kx2 : Kept r x2 := by
      unfold x2
      with_reducible apply State.laneOuter_kept
      with_reducible apply State.setLane_kept
      exact ks
    clear_value x2
    intro x3
    clear_value x3
    apply Kept.ite
    · with_reducible apply State.runSecs_kept
      exact kx2
    · exact kx2
  · exact ks

end Sys2Proof.Machine
end

