-- ==== Sys2Proof/Laws/KeptLocal.lean ====
section
/-! SUPPORT. What the operations of Machine/Local.lean keep (see Laws/Kept.lean). -/

namespace Sys2Proof.Machine

open Sys2Proof

theorem State.refClear_kept {r : State} (s : State) (r1x : Nat) (ks : Kept r s) : Kept r (State.refClear s r1x) := by
  unfold State.refClear
  with_reducible apply State.refCleared_kept
  with_reducible apply State.clrFlag_kept
  exact ks

theorem State.adcCode_kept {r : State} (s : State) (c : Nat) (code : Nat) (ks : Kept r s) : Kept r (State.adcCode s c code) := by
  unfold State.adcCode
  lift_lets
  intro x0
  clear_value x0
  intro x1
  have kx1 : Kept r x1 := by
    unfold x1
    with_reducible apply Kept.upd
    exact ks
  clear_value x1
  with_reducible apply State.setRg_kept
  exact kx1

theorem State.adcDone_kept {r : State} (s : State) (n : Nat) (ia : Nat) (ib : Nat) (vb : Nat) (ks : Kept r s) : Kept r (State.adcDone s n ia ib vb) := by
  unfold State.adcDone
  lift_lets
  intro x0
  clear_value x0
  intro x1
  clear_value x1
  intro x2
  clear_value x2
  intro x3
  clear_value x3
  intro x4
  clear_value x4
  intro x5
  have kx5 : Kept r x5 := by
    unfold x5
    with_reducible apply State.adcCode_kept
    with_reducible apply State.adcCode_kept
    with_reducible apply State.adcCode_kept
    exact ks
  clear_value x5
  intro x6
  clear_value x6
  intro x7
  have kx7 : Kept r x7 := by
    unfold x7
    with_reducible apply State.setLx_kept
    exact kx5
  clear_value x7
  intro x8
  clear_value x8
  cases hc9 : s.axisOfLx n
  · try dsimp -zeta only
    exact ks
  · try dsimp -zeta only
    cases hc10 : x0.conv
    · try dsimp -zeta only
      exact ks
    · try dsimp -zeta only
      lift_lets
      intro x11
      intro x12
      clear_value x12
      intro x13
      clear_value x13
      intro x14
      clear_value x14
      intro x15
      clear_value x15
      intro x16
      have kx16 : Kept r x16 := by
        unfold x16
        apply Kept.ite
        · with_reducible apply State.setFb_kept
          exact kx7
        · exact kx7
      clear_value x16
      try dsimp -zeta only
      apply Kept.ite
      · unfold x11
        lift_lets
        intro x17
        clear_value x17
        with_reducible apply State.setFb_kept
        exact kx7
      · split
        · unfold x11
          lift_lets
          intro x19
          clear_value x19
          with_reducible apply State.setFb_kept
          exact kx7
        · lift_lets
          intro x20
          clear_value x20
          intro x21
          clear_value x21
          with_reducible apply State.fbSample_kept
          exact kx16

theorem State.convert_kept {r : State} (s : State) (cores : List Nat) (ks : Kept r s) : Kept r (State.convert s cores).1 := by
  unfold State.convert
  lift_lets
  intro x0
  clear_value x0
  intro x1
  clear_value x1
  dsimp only
  with_reducible apply Kept.upd
  exact ks

theorem State.adcScan_kept {r : State} (s : State) (c : Nat) (code : Nat) (ks : Kept r s) : Kept r (State.adcScan s c code) := by
  unfold State.adcScan
  apply Kept.ite
  · lift_lets
    intro x0
    have kx0 : Kept r x0 := by
      unfold x0
      with_reducible apply State.convert_kept
      exact ks
    clear_value x0
    intro x1
    clear_value x1
    with_reducible apply State.adcCode_kept
    with_reducible apply Kept.upd
    exact kx0
  · exact ks

theorem State.localFlag_kept {r : State} (s : State) (n : Nat) (ks : Kept r s) : Kept r (State.localFlag s n) := by
  unfold State.localFlag
  with_reducible apply State.flagEvent_kept
  exact ks

theorem State.adcTrigger_kept {r : State} (s : State) (n : Nat) (open_ : Bool) (ks : Kept r s) : Kept r (State.adcTrigger s n open_) := by
  unfold State.adcTrigger
  cases hc0 : s.axisOfLx n
  · try dsimp -zeta only
    exact ks
  · try dsimp -zeta only
    apply Kept.ite
    · exact ks
    · lift_lets
      intro x1
      clear_value x1
      intro x2
      clear_value x2
      intro x3
      have kx3 : Kept r x3 := by
        unfold x3
        apply Kept.ite
        · with_reducible apply State.localFlag_kept
          with_reducible apply State.incFld_kept
          exact ks
        · exact ks
      clear_value x3
      intro x4
      clear_value x4
      intro x5
      have kx5 : Kept r x5 := by
        unfold x5
        with_reducible apply State.convert_kept
        exact kx3
      clear_value x5
      intro x6
      clear_value x6
      intro x7
      clear_value x7
      intro x8
      clear_value x8
      intro x9
      clear_value x9
      with_reducible apply State.setLx_kept
      exact kx5

theorem State.driveGates_kept {r : State} (s : State) (n : Nat) (ks : Kept r s) : Kept r (State.driveGates s n) := by
  unfold State.driveGates
  apply Kept.ite
  · refine Kept.foldl _ ?_ ?_
    · exact ks
    · intro a0
      intro a1
      intro h2
      with_reducible apply State.emit_kept
      exact h2
  · exact ks

theorem State.gatesBack_kept {r : State} (s : State) (n : Nat) (ks : Kept r s) : Kept r (State.gatesBack s n) := by
  unfold State.gatesBack
  lift_lets
  intro x0
  clear_value x0
  intro x1
  have kx1 : Kept r x1 := by
    unfold x1
    apply Kept.ite
    · with_reducible apply State.setLx_kept
      exact ks
    · exact ks
  clear_value x1
  with_reducible apply State.driveGates_kept
  exact kx1

theorem State.fltClear_kept {r : State} (s : State) (v : Nat) (ks : Kept r s) : Kept r (State.fltClear s v) := by
  unfold State.fltClear
  lift_lets
  intro x0
  clear_value x0
  intro x1
  clear_value x1
  intro x2
  clear_value x2
  intro x3
  have kx3 : Kept r x3 := by
    unfold x3
    refine Kept.foldl _ ?_ ?_
    · exact ks
    · intro a4
      intro a5
      intro h6
      with_reducible apply State.clrFlag_kept
      exact h6
  clear_value x3
  refine Kept.foldl _ ?_ ?_
  · exact kx3
  · intro a7
    intro a8
    intro h9
    apply Kept.ite
    · exact h9
    · with_reducible apply State.gatesBack_kept
      exact h9

theorem State.tripLatch_kept {r : State} (s : State) (i : Nat) (ks : Kept r s) : Kept r (State.tripLatch s i) := by
  unfold State.tripLatch
  lift_lets
  intro x0
  have kx0 : Kept r x0 := by
    unfold x0
    with_reducible apply State.setFlag_kept
    with_reducible apply State.setFlag_kept
    exact ks
  clear_value x0
  intro x1
  clear_value x1
  intro x2
  clear_value x2
  intro x3
  have kx3 : Kept r x3 := by
    unfold x3
    with_reducible apply Kept.upd
    exact kx0
  clear_value x3
  intro x4
  have kx4 : Kept r x4 := by
    unfold x4
    refine Kept.foldl _ ?_ ?_
    · exact kx3
    · intro a5
      intro a6
      intro h7
      with_reducible apply State.driveGates_kept
      exact h7
  clear_value x4
  with_reducible apply State.raise_kept
  exact kx4

theorem State.fltTrip_kept {r : State} (s : State) (i : Nat) (ks : Kept r s) : Kept r (State.fltTrip s i) := by
  unfold State.fltTrip
  apply Kept.ite
  · with_reducible apply State.tripLatch_kept
    exact ks
  · exact ks

theorem State.fltPolarity_kept {r : State} (s : State) (old : Word) (ks : Kept r s) : Kept r (State.fltPolarity s old) := by
  unfold State.fltPolarity
  lift_lets
  intro x0
  clear_value x0
  intro x1
  have kx1 : Kept r x1 := by
    unfold x1
    with_reducible apply State.setFld_kept
    exact ks
  clear_value x1
  refine Kept.foldl _ ?_ ?_
  · exact kx1
  · intro a2
    intro a3
    intro h4
    with_reducible apply State.fltTrip_kept
    exact h4

theorem State.refInput_kept {r : State} (s : State) (r1x : Nat) (ks : Kept r s) : Kept r (State.refInput s r1x) := by
  unfold State.refInput
  apply Kept.ite
  · exact ks
  · lift_lets
    intro x0
    clear_value x0
    intro x1
    clear_value x1
    intro x2
    clear_value x2
    with_reducible apply State.setRg_kept
    exact ks

theorem State.refBoundary_kept {r : State} (s : State) (m : List (Nat × Bool)) (ks : Kept r s) : Kept r (State.refBoundary s m) := by
  unfold State.refBoundary
  lift_lets
  intro x0
  have kx0 : Kept r x0 := by
    unfold x0
    refine Kept.foldl _ ?_ ?_
    · exact ks
    · intro a1
      intro a2
      intro h3
      apply Kept.ite
      · exact h3
      · with_reducible apply State.putFlag_kept
        with_reducible apply Kept.upd
        exact h3
  clear_value x0
  refine Kept.foldl _ ?_ ?_
  · exact kx0
  · intro a4
    intro a5
    intro h6
    with_reducible apply State.refInput_kept
    exact h6

theorem State.edgeTaken_kept {r : State} (s : State) (n : Nat) (new : Nat) (ks : Kept r s) : Kept r (State.edgeTaken s n new) := by
  unfold State.edgeTaken
  lift_lets
  intro x0
  clear_value x0
  intro x1
  clear_value x1
  intro x2
  have kx2 : Kept r x2 := by
    unfold x2
    with_reducible apply State.setLx_kept
    exact ks
  clear_value x2
  intro x3
  clear_value x3
  cases hc4 : x2.axisOfLx n
  · try dsimp -zeta only
    exact kx2
  · try dsimp -zeta only
    lift_lets
    intro x5
    clear_value x5
    intro x6
    clear_value x6
    intro x7
    clear_value x7
    intro x8
    clear_value x8
    intro x9
    have kx9 : Kept r x9.1 := by
      unfold x9
      with_reducible apply State.hallEdge_kept
      exact kx2
    clear_value x9
    intro x10
    clear_value x10
    split
    · with_reducible apply State.setFb_kept
      exact kx2
    · apply Kept.ite
      · exact kx2
      · with_reducible apply State.setFb_kept
        exact kx9
    · exact kx2

theorem State.emuEdge_kept {r : State} (s : State) (e : Nat) (t : Nat) (ks : Kept r s) : Kept r (State.emuEdge s e t) := by
  unfold State.emuEdge
  lift_lets
  intro x0
  clear_value x0
  intro x1
  clear_value x1
  intro x2
  have kx2 : Kept r x2 := by
    unfold x2
    apply Kept.ite
    · with_reducible apply State.emuBegin_kept
      exact ks
    · exact ks
  clear_value x2
  apply Kept.ite
  · with_reducible apply State.emuDrive_kept
    with_reducible apply State.setEmu_kept
    exact kx2
  · exact kx2

theorem State.feedbackEdge_kept {r : State} (s : State) (n : Nat) (new : Nat) (ks : Kept r s) : Kept r (State.feedbackEdge s n new) := by
  unfold State.feedbackEdge
  apply Kept.ite
  · with_reducible apply State.edgeTaken_kept
    exact ks
  · exact ks

theorem State.latchClear_kept {r : State} (s : State) (v : Nat) (active : Nat) (ks : Kept r s) : Kept r (State.latchClear s v active) := by
  unfold State.latchClear
  apply Kept.ite
  · with_reducible apply State.fltClear_kept
    with_reducible apply State.setFld_kept
    exact ks
  · exact ks

theorem State.probeEnd_kept {r : State} (s : State) (n : Nat) (ia : Nat) (ib : Nat) (ks : Kept r s) : Kept r (State.probeEnd s n ia ib) := by
  unfold State.probeEnd
  lift_lets
  intro x0
  clear_value x0
  intro x1
  clear_value x1
  intro x2
  clear_value x2
  intro x3
  clear_value x3
  intro x4
  have kx4 : Kept r x4 := by
    unfold x4
    with_reducible apply State.convert_kept
    exact ks
  clear_value x4
  intro x5
  have kx5 : Kept r x5 := by
    unfold x5
    with_reducible apply State.adcCode_kept
    with_reducible apply State.adcCode_kept
    exact kx4
  clear_value x5
  intro x6
  clear_value x6
  apply Kept.ite
  · with_reducible apply State.setLx_kept
    exact ks
  · with_reducible apply State.setLx_kept
    exact kx5

theorem State.refLoss_kept {r : State} (s : State) (r1x : Nat) (ks : Kept r s) : Kept r (State.refLoss s r1x) := by
  unfold State.refLoss
  lift_lets
  intro x0
  clear_value x0
  intro x1
  clear_value x1
  apply Kept.ite
  · exact ks
  · with_reducible apply State.flagEvent_kept
    exact ks

theorem State.ssiBurst_kept {r : State} (s : State) (n : Nat) (w : Nat) (ks : Kept r s) : Kept r (State.ssiBurst s n w) := by
  unfold State.ssiBurst
  cases hc0 : s.axisOfLx n
  · try dsimp -zeta only
    exact ks
  · try dsimp -zeta only
    cases hc1 : (s.lx n).conv
    · try dsimp -zeta only
      exact ks
    · try dsimp -zeta only
      lift_lets
      intro x2
      clear_value x2
      intro x3
      clear_value x3
      intro x4
      clear_value x4
      intro x5
      clear_value x5
      intro x6
      clear_value x6
      intro x7
      clear_value x7
      intro x8
      clear_value x8
      intro x9
      clear_value x9
      intro x10
      clear_value x10
      intro x11
      clear_value x11
      intro x12
      clear_value x12
      intro x13
      clear_value x13
      intro x14
      clear_value x14
      intro x15
      clear_value x15
      intro x16
      have kx16 : Kept r x16 := by
        unfold x16
        with_reducible apply State.emit_kept
        with_reducible apply Kept.upd
        exact ks
      clear_value x16
      intro x17
      clear_value x17
      intro x18
      clear_value x18
      apply Kept.ite
      · exact ks
      · apply Kept.ite
        · with_reducible apply State.setLx_kept
          exact kx16
        · with_reducible apply State.setLx_kept
          exact ks

theorem State.stepPulse_kept {r : State} (s : State) (n : Nat) (ks : Kept r s) : Kept r (State.stepPulse s n) := by
  unfold State.stepPulse
  lift_lets
  intro x0
  clear_value x0
  intro x1
  clear_value x1
  intro x2
  clear_value x2
  intro x3
  clear_value x3
  intro x4
  clear_value x4
  intro x5
  clear_value x5
  intro x6
  clear_value x6
  intro x7
  clear_value x7
  intro x8
  clear_value x8
  intro x9
  clear_value x9
  intro x10
  have kx10 : Kept r x10 := by
    unfold x10
    with_reducible apply State.setLx_kept
    exact ks
  clear_value x10
  apply Kept.ite
  · exact ks
  · apply Kept.ite
    · apply Kept.ite
      · exact ks
      · with_reducible apply State.emit_kept
        with_reducible apply State.setLx_kept
        exact ks
    · apply Kept.ite
      · exact ks
      · with_reducible apply State.emit_kept
        with_reducible apply State.setRg_kept
        exact kx10

theorem State.updatePoint_kept {r : State} (s : State) (n : Nat) (t : Nat) (ks : Kept r s) : Kept r (State.updatePoint s n t) := by
  unfold State.updatePoint
  lift_lets
  intro x0
  clear_value x0
  intro x1
  clear_value x1
  intro x2
  intro x3
  clear_value x3
  intro x4
  intro x5
  clear_value x5
  intro x6
  clear_value x6
  intro x7
  clear_value x7
  intro x8
  clear_value x8
  intro x9
  clear_value x9
  intro x10
  have kx10 : Kept r x10 := by
    unfold x10
    with_reducible apply State.driveGates_kept
    with_reducible apply State.setLx_kept
    exact ks
  clear_value x10
  intro x11
  clear_value x11
  intro x12
  have kx12 : Kept r x12 := by
    unfold x12
    with_reducible apply State.setLx_kept
    exact kx10
  clear_value x12
  apply Kept.ite
  · exact ks
  · apply Kept.ite
    · with_reducible apply State.driveGates_kept
      exact kx12
    · exact kx10

end Sys2Proof.Machine
end

