-- ==== Sys2Proof/Laws/KeptRead.lean ====
section
/-! SUPPORT. What the operations of Machine/Read.lean keep (see Laws/Kept.lean). -/

namespace Sys2Proof.Machine

open Sys2Proof

theorem State.clearRc_kept {r : State} (s : State) (off : Nat) (ks : Kept r s) : Kept r (State.clearRc s off) := by
  unfold State.clearRc
  lift_lets
  intro x0
  clear_value x0
  refine Kept.foldl _ ?_ ?_
  · exact ks
  · intro a1
    intro a2
    intro h3
    with_reducible apply State.setFld_kept
    exact h3

theorem State.readReg_kept {r : State} (s : State) (a : Agent) (boff : Nat) (ks : Kept r s) : Kept r (State.readReg s a boff).1 := by
  unfold State.readReg
  lift_lets
  intro x0
  clear_value x0
  intro x1
  intro x2
  clear_value x2
  intro x3
  clear_value x3
  intro x4
  clear_value x4
  intro x5
  have kx5 : Kept r x5 := by
    unfold x5
    with_reducible apply Kept.upd
    exact ks
  clear_value x5
  intro x6
  clear_value x6
  intro x7
  clear_value x7
  intro x8
  have kx8 : Kept r x8 := by
    unfold x8
    apply Kept.ite
    · with_reducible apply Kept.upd
      exact kx5
    · exact kx5
  clear_value x8
  apply Kept.iteP
  · dsimp only
    with_reducible apply State.accessErr_kept
    exact ks
  · dsimp only
    with_reducible apply State.clearRc_kept
    exact kx8

theorem State.readOut_kept {r : State} (s : State) (a : Agent) (boff : Nat) (ks : Kept r s) : Kept r (State.readOut s a boff) := by
  unfold State.readOut
  apply Kept.ite
  · lift_lets
    intro x0
    have kx0 : Kept r x0.1 := by
      unfold x0
      with_reducible apply State.readReg_kept
      exact ks
    clear_value x0
    with_reducible apply State.emit_kept
    exact kx0
  · exact ks

end Sys2Proof.Machine
end

