-- ==== Sys2Proof/Laws/KeptSound.lean ====
section
/-! SUPPORT. What the operations of Machine/Sound.lean keep (see Laws/Kept.lean). -/

namespace Sys2Proof.Machine

open Sys2Proof

theorem State.dumpDrain_kept {r : State} (z0 : Nat) (z1 : State) (kz1 : Kept r z1) : Kept r (State.dumpDrain z0 z1) := by
  induction z0 generalizing z1 with
  | zero => exact kz1
  | succ f ih =>
    unfold State.dumpDrain
    split
    · exact kz1
    · split
      · exact ih _ (State.complete_kept _ _ _ _ _ _ _ (Kept.upd kz1))
      · split
        · exact ih _ (Kept.upd (State.pushRing_kept _ _ _ kz1))
        · exact kz1

theorem State.snapDump_kept {r : State} (s : State) (src : Src) (d : Desc) (ks : Kept r s) : Kept r (State.snapDump s src d) := by
  unfold State.snapDump
  lift_lets
  intro x0
  clear_value x0
  intro x1
  clear_value x1
  intro x2
  clear_value x2
  intro x3
  clear_value x3
  intro x4
  clear_value x4
  intro x5
  clear_value x5
  intro x6
  clear_value x6
  intro x7
  clear_value x7
  apply Kept.ite
  · with_reducible apply State.complete_kept
    exact ks
  · with_reducible apply State.dumpDrain_kept
    with_reducible apply Kept.upd
    exact ks

theorem State.latchOn_kept {r : State} (s : State) (v : Nat → Word) (b : Nat) (seq : Nat) (t : Nat) (skew : Nat) (ks : Kept r s) : Kept r (State.latchOn s v b seq t skew) := by
  unfold State.latchOn
  lift_lets
  intro x0
  clear_value x0
  intro x1
  have kx1 : Kept r x1 := by
    unfold x1
    with_reducible apply State.setRg_kept
    exact ks
  clear_value x1
  intro x2
  have kx2 : Kept r x2 := by
    unfold x2
    with_reducible apply State.setRg_kept
    with_reducible apply State.setRg_kept
    with_reducible apply State.setRg_kept
    exact kx1
  clear_value x2
  refine Kept.foldl _ ?_ ?_
  · exact kx2
  · intro a3
    intro a4
    intro h5
    with_reducible apply State.setRg_kept
    exact h5

theorem State.latchBlock_kept {r : State} (s : State) (v : Nat → Word) (b : Nat) (seq : Nat) (t : Nat) (skew : Nat) (ks : Kept r s) : Kept r (State.latchBlock s v b seq t skew) := by
  unfold State.latchBlock
  cases hc0 : Sys2Proof.Machine.snapDomain b
  · try dsimp -zeta only
    with_reducible apply State.latchOn_kept
    exact ks
  · try dsimp -zeta only
    apply Kept.ite
    · with_reducible apply State.latchOn_kept
      exact ks
    · with_reducible apply State.setFlag_kept
      exact ks

theorem State.tearDumps_kept {r : State} (s : State) (ks : Kept r s) : Kept r (State.tearDumps s) := by
  unfold State.tearDumps
  lift_lets
  intro x0
  clear_value x0
  intro x1
  clear_value x1
  intro x2
  have kx2 : Kept r x2 := by
    unfold x2
    with_reducible apply Kept.upd
    exact ks
  clear_value x2
  refine Kept.foldl _ ?_ ?_
  · exact kx2
  · intro a3
    intro a4
    intro h5
    with_reducible apply State.complete_kept
    with_reducible apply State.setFlag_kept
    exact h5

theorem State.soundLatch_kept {r : State} (s : State) (skews : List Byte) (ks : Kept r s) : Kept r (State.soundLatch s skews) := by
  unfold State.soundLatch
  cases hc0 : s.acq.sound
  · try dsimp -zeta only
    exact ks
  · try dsimp -zeta only
    apply Kept.ite
    · exact ks
    · lift_lets
      intro x1
      have kx1 : Kept r x1 := by
        unfold x1
        with_reducible apply Kept.upd
        exact ks
      clear_value x1
      intro x2
      have kx2 : Kept r x2 := by
        unfold x2
        with_reducible apply State.tearDumps_kept
        exact kx1
      clear_value x2
      intro x3
      clear_value x3
      intro x4
      have kx4 : Kept r x4 := by
        unfold x4
        with_reducible apply State.setRg_kept
        exact kx2
      clear_value x4
      intro x5
      clear_value x5
      intro x6
      have kx6 : Kept r x6 := by
        unfold x6
        refine Kept.foldl _ ?_ ?_
        · exact kx4
        · intro a7
          intro a8
          intro h9
          with_reducible apply State.setRg_kept
          exact h9
      clear_value x6
      intro x10
      intro x11
      have kx11 : Kept r x11 := by
        unfold x11
        refine Kept.foldl _ ?_ ?_
        · exact kx6
        · intro a12
          intro a13
          intro h14
          with_reducible apply State.setRg_kept
          exact h14
      clear_value x11
      intro x15
      intro x16
      have kx16 : Kept r x16 := by
        unfold x16
        refine Kept.foldl _ ?_ ?_
        · exact kx11
        · intro a17
          intro a18
          intro h19
          with_reducible apply State.latchBlock_kept
          exact h19
      clear_value x16
      intro x20
      have kx20 : Kept r x20 := by
        unfold x20
        refine Kept.foldl _ ?_ ?_
        · exact kx16
        · intro a21
          intro a22
          intro h23
          refine Kept.foldl _ ?_ ?_
          · exact h23
          · intro a24
            intro a25
            intro h26
            with_reducible apply State.setRg_kept
            exact h26
      clear_value x20
      intro x27
      have kx27 : Kept r x27 := by
        unfold x27
        refine Kept.foldl _ ?_ ?_
        · exact kx20
        · intro a28
          intro a29
          intro h30
          with_reducible apply State.setRg_kept
          exact h30
      clear_value x27
      intro x31
      clear_value x31
      intro x32
      have kx32 : Kept r x32 := by
        unfold x32
        with_reducible apply Kept.upd
        exact kx27
      clear_value x32
      intro x33
      have kx33 : Kept r x33 := by
        unfold x33
        with_reducible apply State.setFld_kept
        exact kx32
      clear_value x33
      intro x34
      have kx34 : Kept r x34 := by
        unfold x34
        apply Kept.ite
        · refine Kept.foldl _ ?_ ?_
          · exact kx33
          · intro a35
            intro a36
            intro h37
            apply Kept.ite
            · with_reducible apply State.logMark_kept
              exact h37
            · exact h37
        · exact kx33
      clear_value x34
      intro x38
      have kx38 : Kept r x38 := by
        unfold x38
        with_reducible apply State.raise_kept
        exact kx34
      clear_value x38
      split
      · with_reducible apply State.complete_kept
        exact kx38
      · exact kx38

end Sys2Proof.Machine
end

