-- ==== Sys2Proof/Laws/KeptRegWrite.lean ====
section
/-! SUPPORT. What the operations of Machine/RegWrite.lean keep (see Laws/Kept.lean). -/

namespace Sys2Proof.Machine

open Sys2Proof

theorem State.cpuWrite_kept {r : State} (s : State) (a : Agent) (o : Nat) (w : Word) (ks : Kept r s) {t : State} (e : State.cpuWrite s a o w = some t) : Kept r t := by
  refine (?_ : KeptOpt r _) t e
  unfold State.cpuWrite
  repeat' with_reducible first
    | exact KeptOpt.none
    | apply KeptOpt.ite
    | exact KeptOpt.some (State.hrstWrite_kept _ _ ks)
    | exact KeptOpt.some (State.portWrite_kept _ _ _ _ ks)
    | exact KeptOpt.some (State.semPost_kept _ _ _ _ ks)
    | exact KeptOpt.some (State.mbxAppend_kept _ _ _ _ ks)
    | exact KeptOpt.some (State.dspStart_kept _ _ ks)
    | exact KeptOpt.some (State.unlist_kept _ _ ks)
    | split

theorem State.actionWrite_kept {r : State} (s : State) (a : Agent) (off : Nat) (w : Word) (ks : Kept r s) {t : State} (e : State.actionWrite s a off w = some t) : Kept r t := by
  refine (?_ : KeptOpt r _) t e
  unfold State.actionWrite
  dsimp only
  split
  all_goals skip
  repeat' with_reducible first
    | exact KeptOpt.none
    | apply KeptOpt.ite
    | exact KeptOpt.some (ks)
    | exact KeptOpt.some (State.chipReset_kept _ _ ks)
    | exact KeptOpt.some (State.domainReset_kept _ _ ks)
    | exact KeptOpt.some (State.setRg_kept _ _ _ ks)
    | exact KeptOpt.some (State.manifestStore_kept _ _ ks)
    | exact KeptOpt.some (State.clearFlags_kept _ _ _ ks)
    | exact KeptOpt.some (State.canLock_kept _ _ _ ks)
    | exact KeptOpt.some (State.canRel_kept _ _ _ ks)
    | exact KeptOpt.some (State.canAbort_kept _ _ _ ks)
    | exact KeptOpt.some (Kept.ite (State.refClear_kept _ _ ks) ks)
    | split
  exact fun _ e => State.cpuWrite_kept _ _ _ _ ks e

theorem State.ringUnmask_kept {r : State} (s : State) (r1x : Nat) (ks : Kept r s) : Kept r (State.ringUnmask s r1x) := by
  unfold State.ringUnmask
  apply Kept.ite
  · exact ks
  · with_reducible apply State.ringEvent_kept
    exact ks

theorem State.afterWrite_kept {r : State} (s : State) (off : Nat) (old : Word) (b : BitWrite) (ks : Kept r s) : Kept r (State.afterWrite s off old b) := by
  unfold State.afterWrite
  lift_lets
  intro x0
  clear_value x0
  intro x1
  clear_value x1
  split
  · apply Kept.ite
    · apply Kept.ite
      · with_reducible apply State.releaseCyc_kept
        exact ks
      · exact ks
    · apply Kept.ite
      · apply Kept.ite
        · with_reducible apply State.ringUnmask_kept
          exact ks
        · exact ks
      · exact ks
  · apply Kept.ite
    · with_reducible apply State.ppsOut_kept
      exact ks
    · exact ks
  · apply Kept.ite
    · with_reducible apply State.startCheck_kept
      exact ks
    · exact ks
  · apply Kept.ite
    · with_reducible apply State.pvalHold_kept
      exact ks
    · exact ks
  · apply Kept.ite
    · with_reducible apply State.vinWritten_kept
      exact ks
    · exact ks
  · apply Kept.ite
    · with_reducible apply State.fltClear_kept
      with_reducible apply State.fltPolarity_kept
      exact ks
    · apply Kept.ite
      · with_reducible apply State.driveGates_kept
        exact ks
      · exact ks
  · exact ks

theorem State.setOvr_kept {r : State} (s : State) (off : Nat) (ks : Kept r s) : Kept r (State.setOvr s off) := by
  unfold State.setOvr
  lift_lets
  intro x0
  clear_value x0
  apply Kept.ite
  · with_reducible apply State.laneFlag_kept
    exact ks
  · with_reducible apply State.setFlag_kept
    exact ks

theorem State.netCfgErr_kept {r : State} (s : State) (p : Nat) (ks : Kept r s) : Kept r (State.netCfgErr s p) := by
  unfold State.netCfgErr
  with_reducible apply State.flagEvent_kept
  exact ks

theorem State.guarded_kept {r : State} (s : State) (off : Nat) (old : Word) (new : Word) (ks : Kept r s) {t : State} (e : State.guarded s off old new = some t) : Kept r t := by
  refine (?_ : KeptOpt r _) t e
  unfold State.guarded
  dsimp only
  split
  all_goals skip
  repeat' with_reducible first
    | exact KeptOpt.none
    | apply KeptOpt.ite
    | exact KeptOpt.some (State.setFlag_kept _ _ _ ks)
    | exact KeptOpt.some (State.netCfgErr_kept _ _ ks)
    | exact KeptOpt.some (State.cflag_kept _ _ ks)
    | exact KeptOpt.some (State.localFlag_kept _ _ ks)
    | exact KeptOpt.some (State.canCfgErr_kept _ _ ks)
    | split

theorem State.ringResize_kept {r : State} (s : State) (r1x : Nat) (n : Nat) (ks : Kept r s) : Kept r (State.ringResize s r1x n) := by
  unfold State.ringResize
  apply Kept.ite
  · with_reducible apply State.clrFlag_kept
    exact ks
  · with_reducible apply State.setFlag_kept
    with_reducible apply State.setRingX_kept
    exact ks

theorem State.ringStart_kept {r : State} (s : State) (r1x : Nat) (ks : Kept r s) : Kept r (State.ringStart s r1x) := by
  unfold State.ringStart
  with_reducible apply State.setFlag_kept
  exact ks

theorem State.ringStop_kept {r : State} (s : State) (r1x : Nat) (ks : Kept r s) : Kept r (State.ringStop s r1x) := by
  unfold State.ringStop
  with_reducible apply State.clrFlag_kept
  with_reducible apply State.clrFlag_kept
  exact ks

theorem State.ringRst_kept {r : State} (s : State) (r1x : Nat) (ks : Kept r s) : Kept r (State.ringRst s r1x) := by
  unfold State.ringRst
  apply Kept.ite
  · exact ks
  · lift_lets
    intro x0
    clear_value x0
    intro x1
    clear_value x1
    with_reducible apply State.ringRefresh_kept
    with_reducible apply State.clrFlag_kept
    with_reducible apply State.setRingX_kept
    with_reducible apply State.setRg_kept
    exact ks

theorem State.ringCfgWrite_kept {r : State} (s : State) (r1x : Nat) (m : Word) (v : Word) (rst : Bool) (ks : Kept r s) : Kept r (State.ringCfgWrite s r1x m v rst) := by
  unfold State.ringCfgWrite
  lift_lets
  intro x0
  clear_value x0
  intro x1
  clear_value x1
  intro x2
  clear_value x2
  intro x3
  clear_value x3
  intro x4
  have kx4 : Kept r x4 := by
    unfold x4
    apply Kept.ite
    · with_reducible apply State.setOvr_kept
      exact ks
    · exact ks
  clear_value x4
  intro x5
  have kx5 : Kept r x5 := by
    unfold x5
    apply Kept.ite
    · with_reducible apply State.setFld_kept
      exact kx4
    · exact kx4
  clear_value x5
  intro x6
  have kx6 : Kept r x6 := by
    unfold x6
    apply Kept.ite
    · exact kx5
    · with_reducible apply State.setFld_kept
      exact kx5
  clear_value x6
  intro x7
  have kx7 : Kept r x7 := by
    unfold x7
    apply Kept.ite
    · apply Kept.ite
      · with_reducible apply State.ringResize_kept
        exact kx6
      · with_reducible apply State.setFld_kept
        exact kx6
    · exact kx6
  clear_value x7
  intro x8
  have kx8 : Kept r x8 := by
    unfold x8
    apply Kept.ite
    · apply Kept.ite
      · apply Kept.ite
        · exact kx7
        · with_reducible apply State.ringStart_kept
          with_reducible apply State.setFlag_kept
          exact kx7
      · apply Kept.ite
        · with_reducible apply State.ringStop_kept
          exact kx7
        · exact kx7
    · exact kx7
  clear_value x8
  apply Kept.ite
  · apply Kept.ite
    · with_reducible apply State.setFlag_kept
      with_reducible apply State.ringRst_kept
      with_reducible apply State.clrFlag_kept
      exact kx8
    · with_reducible apply State.ringRst_kept
      exact kx8
  · exact kx8

theorem State.pvalAccess_kept {r : State} (s : State) (ag : Agent) (off : Nat) (new : Word) (b : BitWrite) (ks : Kept r s) : Kept r (State.pvalAccess s ag off new b) := by
  unfold State.pvalAccess
  apply Kept.ite
  · with_reducible apply State.pvalWrite_kept
    exact ks
  · exact ks

theorem State.clearOnes_kept {r : State} (s : State) (fs : List Fld) (off : Nat) (v : Word) (ks : Kept r s) : Kept r (State.clearOnes s fs off v) := by
  unfold State.clearOnes
  lift_lets
  intro x0
  clear_value x0
  apply Kept.ite
  · exact ks
  · with_reducible apply State.setRg_kept
    exact ks

theorem State.takeWrite_kept {r : State} (s : State) (a : Agent) (boff : Nat) (fs : List Fld) (m : Word) (b : BitWrite) (cmd : Bool) (ks : Kept r s) : Kept r (State.takeWrite s a boff fs m b cmd) := by
  unfold State.takeWrite
  lift_lets
  intro x0
  clear_value x0
  intro x1
  intro x2
  clear_value x2
  intro x3
  clear_value x3
  intro x4
  clear_value x4
  intro x5
  clear_value x5
  intro x6
  clear_value x6
  intro x7
  clear_value x7
  intro x8
  clear_value x8
  intro x9
  have kx9 : Kept r x9 := by
    unfold x9
    apply Kept.ite
    · with_reducible apply State.accessErr_kept
      exact ks
    · exact ks
  clear_value x9
  intro x10
  have kx10 : Kept r x10 := by
    unfold x10
    apply Kept.ite
    · exact kx9
    · with_reducible apply State.setRg_kept
      exact kx9
  clear_value x10
  intro x11
  have kx11 : Kept r x11 := by
    unfold x11
    apply Kept.ite
    · exact kx10
    · with_reducible apply State.stageCyc_kept
      exact kx10
  clear_value x11
  intro x12
  have kx12 : Kept r x12 := by
    unfold x12
    apply Kept.ite
    · exact kx11
    · with_reducible apply State.enWritten_kept
      with_reducible apply State.stagePlan_kept
      exact kx11
  clear_value x12
  intro x13
  have kx13 : Kept r x13 := by
    unfold x13
    apply Kept.ite
    · with_reducible apply State.clearOnes_kept
      exact kx12
    · exact kx12
  clear_value x13
  with_reducible apply State.afterWrite_kept
  exact kx13

theorem State.fieldWrite_kept {r : State} (s : State) (a : Agent) (boff : Nat) (b : BitWrite) (cmd : Bool) (ks : Kept r s) : Kept r (State.fieldWrite s a boff b cmd) := by
  unfold State.fieldWrite
  lift_lets
  intro x0
  clear_value x0
  intro x1
  clear_value x1
  intro x2
  clear_value x2
  intro x3
  clear_value x3
  intro x4
  clear_value x4
  intro x5
  have kx5 : Kept r x5 := by
    unfold x5
    apply Kept.ite
    · with_reducible apply State.setOvr_kept
      exact ks
    · exact ks
  clear_value x5
  intro x6
  clear_value x6
  apply Kept.ite
  · apply Kept.ite
    · with_reducible apply State.setOvr_kept
      exact ks
    · exact ks
  · cases hc7 : s.guarded x0 x2 x4
    · try dsimp -zeta only
      apply Kept.ite
      · with_reducible apply State.ringCfgWrite_kept
        exact kx5
      · apply Kept.ite
        · with_reducible apply State.canCtlWrite_kept
          exact kx5
        · apply Kept.ite
          · with_reducible apply State.canMbCfgSet_kept
            exact kx5
          · apply Kept.ite
            · with_reducible apply State.threadWrite_kept
              exact kx5
            · apply Kept.ite
              · with_reducible apply State.pvalAccess_kept
                exact kx5
              · with_reducible apply State.takeWrite_kept
                exact kx5
    · try dsimp -zeta only
      refine State.guarded_kept _ _ _ _ ?_ (by assumption)
      exact ks

theorem State.writeNow_kept {r : State} (s : State) (a : Agent) (boff : Nat) (w : Word) (cmd : Bool) (ks : Kept r s) : Kept r (State.writeNow s a boff w cmd) := by
  unfold State.writeNow
  dsimp only
  split
  · rename_i t ht
    split at ht
    · exact State.actionWrite_kept s a _ w ks ht
    · cases ht
  · exact State.fieldWrite_kept _ _ _ _ _ ks

theorem State.blockWrite_kept {r : State} (s : State) (a : Agent) (boff : Nat) (w : Word) (cmd : Bool) (ks : Kept r s) : Kept r (State.blockWrite s a boff w cmd) := by
  unfold State.blockWrite
  lift_lets
  intro x0
  clear_value x0
  intro x1
  clear_value x1
  intro x2
  clear_value x2
  intro x3
  clear_value x3
  apply Kept.ite
  · with_reducible apply Kept.upd
    exact ks
  · cases hc4 : s.entryNamed boff w
    · try dsimp -zeta only
      with_reducible apply State.writeNow_kept
      exact ks
    · try dsimp -zeta only
      refine Kept.foldl _ ?_ ?_
      · with_reducible apply Kept.upd
        exact ks
      · intro a5
        intro a6
        intro h7
        with_reducible apply State.startCheck_kept
        exact h7

theorem State.busWrite_kept {r : State} (s : State) (a : Agent) (boff : Nat) (w : Word) (full : Bool) (cmd : Bool) (ks : Kept r s) : Kept r (State.busWrite s a boff w full cmd) := by
  unfold State.busWrite
  lift_lets
  intro x0
  clear_value x0
  apply Kept.ite
  · exact ks
  · apply Kept.ite
    · with_reducible apply State.accessErr_kept
      exact ks
    · apply Kept.ite
      · with_reducible apply State.accessErr_kept
        exact ks
      · cases hc1 : Sys2Proof.Machine.guardGroup x0
        · try dsimp -zeta only
          with_reducible apply State.blockWrite_kept
          exact ks
        · try dsimp -zeta only
          apply Kept.ite
          · with_reducible apply State.accessErr_kept
            exact ks
          · with_reducible apply State.blockWrite_kept
            exact ks

theorem State.msixStore_kept {r : State} (s : State) (v : Nat) (m : MsixV) (ks : Kept r s) : Kept r (State.msixStore s v m) := by
  unfold State.msixStore
  lift_lets
  intro x0
  clear_value x0
  intro x1
  have kx1 : Kept r x1 := by
    unfold x1
    with_reducible apply Kept.upd
    exact ks
  clear_value x1
  intro x2
  clear_value x2
  apply Kept.ite
  · with_reducible apply State.sendMsix_kept
    with_reducible apply Kept.upd
    exact kx1
  · exact kx1

theorem State.msixControl_kept {r : State} (s : State) (en : Bool) (mask : Bool) (ks : Kept r s) : Kept r (State.msixControl s en mask) := by
  unfold State.msixControl
  lift_lets
  intro x0
  clear_value x0
  intro x1
  have kx1 : Kept r x1 := by
    unfold x1
    with_reducible apply Kept.upd
    exact ks
  clear_value x1
  refine Kept.foldl _ ?_ ?_
  · exact kx1
  · intro a2
    intro a3
    intro h4
    with_reducible apply State.msixStore_kept
    exact h4

theorem State.configWrite_kept {r : State} (s : State) (o : Nat) (w : Word) (ks : Kept r s) : Kept r (State.configWrite s o w) := by
  unfold State.configWrite
  apply Kept.ite
  · lift_lets
    intro x0
    clear_value x0
    intro x1
    clear_value x1
    intro x2
    clear_value x2
    with_reducible apply Kept.upd
    exact ks
  · apply Kept.ite
    · with_reducible apply State.msixControl_kept
      exact ks
    · exact ks

theorem State.doorbell_kept {r : State} (s : State) (r1x : Nat) (v : Word) (ks : Kept r s) : Kept r (State.doorbell s r1x v) := by
  unfold State.doorbell
  lift_lets
  intro x0
  clear_value x0
  intro x1
  clear_value x1
  apply Kept.ite
  · with_reducible apply State.ringFlag_kept
    exact ks
  · with_reducible apply State.applyResize_kept
    with_reducible apply State.ringRefresh_kept
    with_reducible apply State.setFld_kept
    exact ks

theorem State.freeDoorbells_kept {r : State} (s : State) (ks : Kept r s) : Kept r (State.freeDoorbells s) := by
  unfold State.freeDoorbells
  apply Kept.ite
  · exact ks
  · refine Kept.foldl _ ?_ ?_
    · with_reducible apply Kept.upd
      exact ks
    · intro a0
      intro a1
      intro h2
      with_reducible apply State.doorbell_kept
      exact h2

theorem State.entryTaken_kept {r : State} (s : State) (ks : Kept r s) : Kept r (State.entryTaken s) := by
  unfold State.entryTaken
  cases hc0 : s.mem.entry
  · try dsimp -zeta only
    exact ks
  · try dsimp -zeta only
    apply Kept.ite
    · exact ks
    · with_reducible apply State.writeNow_kept
      with_reducible apply Kept.upd
      exact ks

theorem State.replayOne_kept {r : State} (s : State) (p : Posted) (ks : Kept r s) : Kept r (State.replayOne s p) := by
  unfold State.replayOne
  cases hc0 : p.word
  · try dsimp -zeta only
    with_reducible apply State.readOut_kept
    exact ks
  · try dsimp -zeta only
    with_reducible apply State.blockWrite_kept
    exact ks

theorem State.replayLane_kept {r : State} (s : State) (z1 : Nat) (ks : Kept r s) : Kept r (State.replayLane s z1) := by
  induction z1 generalizing s with
  | zero => exact ks
  | succ f ih =>
    unfold State.replayLane
    split
    · exact ks
    · split
      · exact ks
      · exact ih _ (State.replayOne_kept _ _ (Kept.upd ks))

theorem State.listCheckDone_kept {r : State} (s : State) (list : Nat) (ks : Kept r s) : Kept r (State.listCheckDone s list) := by
  unfold State.listCheckDone
  lift_lets
  intro x0
  have kx0 : Kept r x0 := by
    unfold x0
    with_reducible apply State.entryTaken_kept
    with_reducible apply State.checkDone_kept
    exact ks
  clear_value x0
  with_reducible apply State.freeDoorbells_kept
  with_reducible apply State.replayLane_kept
  exact kx0

theorem State.readAccess_kept {r : State} (s : State) (a : Agent) (boff : Nat) (ks : Kept r s) : Kept r (State.readAccess s a boff) := by
  unfold State.readAccess
  apply Kept.ite
  · with_reducible apply Kept.upd
    exact ks
  · with_reducible apply State.readOut_kept
    exact ks

theorem State.lowWordRead_kept {r : State} (s : State) (agent : Agent) (off : Nat) (space : Space) (ks : Kept r s) : Kept r (State.lowWordRead s agent off space) := by
  unfold State.lowWordRead
  cases space
  · try dsimp -zeta only
    with_reducible apply State.readAccess_kept
    exact ks
  · try dsimp -zeta only
    cases agent
    · try dsimp -zeta only
      apply Kept.ite
      · with_reducible apply State.emit_kept
        exact ks
      · exact ks
    · try dsimp -zeta only
      exact ks
  · try dsimp -zeta only
    cases agent
    · try dsimp -zeta only
      apply Kept.ite
      · with_reducible apply State.emit_kept
        exact ks
      · exact ks
    · try dsimp -zeta only
      exact ks
  · try dsimp -zeta only
    cases agent
    · try dsimp -zeta only
      apply Kept.ite
      · with_reducible apply State.emit_kept
        exact ks
      · exact ks
    · try dsimp -zeta only
      exact ks

theorem State.msixWord_kept {r : State} (s : State) (k : Nat) (w : Word) (ks : Kept r s) : Kept r (State.msixWord s k w) := by
  unfold State.msixWord
  lift_lets
  intro x0
  clear_value x0
  intro x1
  clear_value x1
  split
  · with_reducible apply State.msixStore_kept
    exact ks
  · with_reducible apply State.msixStore_kept
    exact ks
  · with_reducible apply State.msixStore_kept
    exact ks
  · with_reducible apply State.msixStore_kept
    exact ks

theorem State.ringDoorbell_kept {r : State} (s : State) (r1x : Nat) (v : Word) (ks : Kept r s) : Kept r (State.ringDoorbell s r1x v) := by
  unfold State.ringDoorbell
  apply Kept.ite
  · exact ks
  · lift_lets
    intro x0
    clear_value x0
    intro x1
    have kx1 : Kept r x1 := by
      unfold x1
      with_reducible apply State.setRingX_kept
      exact ks
    clear_value x1
    intro x2
    clear_value x2
    apply Kept.ite
    · with_reducible apply Kept.upd
      exact kx1
    · with_reducible apply State.doorbell_kept
      exact kx1

theorem State.spaceWrite_kept {r : State} (s : State) (sp : Space) (o : Nat) (w : Word) (ks : Kept r s) : Kept r (State.spaceWrite s sp o w) := by
  unfold State.spaceWrite
  cases sp
  · try dsimp -zeta only
    exact ks
  · try dsimp -zeta only
    apply Kept.ite
    · with_reducible apply State.ringDoorbell_kept
      exact ks
    · exact ks
  · try dsimp -zeta only
    apply Kept.ite
    · with_reducible apply State.msixWord_kept
      exact ks
    · exact ks
  · try dsimp -zeta only
    with_reducible apply State.configWrite_kept
    exact ks

theorem State.registerWrite_kept {r : State} (s : State) (agent : Agent) (off : Nat) (value : Word) (full : Bool) (space : Space) (ks : Kept r s) : Kept r (State.registerWrite s agent off value full space) := by
  unfold State.registerWrite
  cases space
  · try dsimp -zeta only
    with_reducible apply State.busWrite_kept
    exact ks
  · try dsimp -zeta only
    cases agent
    · try dsimp -zeta only
      apply Kept.ite
      · with_reducible apply State.spaceWrite_kept
        exact ks
      · exact ks
    · try dsimp -zeta only
      exact ks
  · try dsimp -zeta only
    cases agent
    · try dsimp -zeta only
      apply Kept.ite
      · with_reducible apply State.spaceWrite_kept
        exact ks
      · exact ks
    · try dsimp -zeta only
      exact ks
  · try dsimp -zeta only
    cases agent
    · try dsimp -zeta only
      apply Kept.ite
      · with_reducible apply State.spaceWrite_kept
        exact ks
      · exact ks
    · try dsimp -zeta only
      exact ks

end Sys2Proof.Machine
end

