-- ==== Sys2Proof/Laws/KeptHost.lean ====
section
/-! SUPPORT. What the operations of Machine/Host.lean keep (see Laws/Kept.lean). -/

namespace Sys2Proof.Machine

open Sys2Proof

theorem State.regWriteBody_kept {r : State} (s : State) (src : Src) (d : Desc) (ks : Kept r s) : Kept r (State.regWriteBody s src d) := by
  unfold State.regWriteBody
  with_reducible apply State.complete_kept
  with_reducible apply State.busWrite_kept
  exact ks

theorem State.regRead_kept {r : State} (s : State) (src : Src) (d : Desc) (ks : Kept r s) : Kept r (State.regRead s src d) := by
  unfold State.regRead
  with_reducible apply State.soon_kept
  · exact ks
  · intro a0
    intro h1
    lift_lets
    intro x2
    clear_value x2
    intro x3
    have kx3 : Kept r x3.1 := by
      unfold x3
      with_reducible apply State.readReg_kept
      exact h1
    clear_value x3
    apply Kept.ite
    · with_reducible apply State.complete_kept
      exact h1
    · apply Kept.ite
      · with_reducible apply State.complete_kept
        exact h1
      · with_reducible apply State.complete_kept
        exact kx3

theorem State.begin_kept {r : State} (s : State) (src : Src) (opc : Nat) (d : Desc) (cq : Nat) (ks : Kept r s) : Kept r (State.begin s src opc d cq) := by
  unfold State.begin
  lift_lets
  intro x0
  clear_value x0
  intro x1
  clear_value x1
  intro x2
  have kx2 : Kept r x2 := by
    unfold x2
    with_reducible apply Kept.upd
    exact ks
  clear_value x2
  apply Kept.ite
  · exact kx2
  · with_reducible apply State.complete_kept
    exact kx2

theorem State.cqStall_kept {r : State} (s : State) (q : Nat) (ks : Kept r s) : Kept r (State.cqStall s q) := by
  unfold State.cqStall
  apply Kept.ite
  · with_reducible apply State.ringFlag_kept
    exact ks
  · exact ks

theorem State.dmaError_kept {r : State} (s : State) (r1x : Nat) (ks : Kept r s) : Kept r (State.dmaError s r1x) := by
  unfold State.dmaError
  apply Kept.ite
  · with_reducible apply State.ringFlag_kept
    with_reducible apply State.clrFlag_kept
    exact ks
  · exact ks

theorem State.holdOver_kept {r : State} (s : State) (r1x : Nat) (ks : Kept r s) : Kept r (State.holdOver s r1x) := by
  unfold State.holdOver
  apply Kept.ite
  · with_reducible apply State.ringEvent_kept
    exact ks
  · exact ks

theorem State.msixUnmask_kept {r : State} (s : State) (v : Nat) (addr : Nat) (data : Nat) (ks : Kept r s) : Kept r (State.msixUnmask s v addr data) := by
  unfold State.msixUnmask
  apply Kept.ite
  · with_reducible apply State.msixStore_kept
    exact ks
  · exact ks

theorem State.regWrite_kept {r : State} (s : State) (src : Src) (d : Desc) (ks : Kept r s) : Kept r (State.regWrite s src d) := by
  unfold State.regWrite
  cases hc0 : s.regWriteError src d
  · try dsimp -zeta only
    with_reducible apply State.soon_kept
    · exact ks
    · intro a1
      intro h2
      with_reducible apply State.regWriteBody_kept
      exact h2
  · try dsimp -zeta only
    with_reducible apply State.complete_kept
    exact ks

theorem State.reportWrite_kept {r : State} (s : State) (r1x : Nat) (ks : Kept r s) : Kept r (State.reportWrite s r1x) := by
  unfold State.reportWrite
  apply Kept.ite
  · with_reducible apply State.logDrain_kept
    exact ks
  · apply Kept.ite
    · with_reducible apply State.canDrain_kept
      exact ks
    · apply Kept.ite
      · with_reducible apply State.safeDrain_kept
        exact ks
      · apply Kept.ite
        · with_reducible apply State.cartDrain_kept
          exact ks
        · apply Kept.ite
          · with_reducible apply State.dumpDrain_kept
            exact ks
          · exact ks

theorem State.takeHead_kept {r : State} (s : State) (h : Head) (ks : Kept r s) : Kept r (State.takeHead s h) := by
  unfold State.takeHead
  lift_lets
  intro x0
  clear_value x0
  intro x1
  clear_value x1
  intro x2
  clear_value x2
  intro x3
  have kx3 : Kept r x3 := by
    unfold x3
    with_reducible apply State.applyResize_kept
    with_reducible apply State.writeback_kept
    with_reducible apply State.ringRefresh_kept
    with_reducible apply State.setFld_kept
    exact ks
  clear_value x3
  intro x4
  have kx4 : Kept r x4.1 := by
    unfold x4
    with_reducible apply State.countRing_kept
    exact kx3
  clear_value x4
  intro x5
  have kx5 : Kept r x5 := by
    unfold x5
    apply Kept.ite
    · with_reducible apply State.ringEvent_kept
      exact kx4
    · exact kx4
  clear_value x5
  with_reducible apply State.begin_kept
  exact kx5

theorem State.takePort_kept {r : State} (s : State) (ks : Kept r s) : Kept r (State.takePort s) := by
  unfold State.takePort
  cases hc0 : List.find? (fun e => !s.fenceHolds (Sys2Proof.Src.port (if e.fst = 0 then 0 else 1)) e.snd.snd) s.cpu.portQ
  · try dsimp -zeta only
    exact ks
  · try dsimp -zeta only
    lift_lets
    intro x1
    clear_value x1
    intro x2
    clear_value x2
    with_reducible apply State.begin_kept
    with_reducible apply Kept.upd
    exact ks

theorem State.take_kept {r : State} (s : State) (heads : List Head) (ks : Kept r s) : Kept r (State.take s heads) := by
  unfold State.take
  lift_lets
  intro x0
  clear_value x0
  intro x1
  have kx1 : Kept r x1 := by
    unfold x1
    cases x0
    · try dsimp -zeta only
      apply Kept.ite
      · exact ks
      · with_reducible apply State.takePort_kept
        exact ks
    · try dsimp -zeta only
      with_reducible apply State.takeHead_kept
      exact ks
  clear_value x1
  refine Kept.foldl _ ?_ ?_
  · exact kx1
  · intro a3
    intro a4
    intro h5
    cases hc6 : a3.takeFrom heads fun k => k == a4
    · try dsimp -zeta only
      exact h5
    · try dsimp -zeta only
      with_reducible apply State.takeHead_kept
      exact h5

end Sys2Proof.Machine
end

