-- ==== Sys2Proof/Laws/KeptSync.lean ====
section
/-! SUPPORT. What the operations of Machine/Sync.lean keep (see Laws/Kept.lean). -/

namespace Sys2Proof.Machine

open Sys2Proof

theorem State.setLife_kept {r : State} (s : State) (a : Nat) (m : List Byte) (ks : Kept r s) : Kept r (State.setLife s a m) := by
  unfold State.setLife
  lift_lets
  intro x0
  clear_value x0
  intro x1
  clear_value x1
  intro x2
  clear_value x2
  intro x3
  clear_value x3
  intro x4
  clear_value x4
  intro x5
  clear_value x5
  intro x6
  clear_value x6
  with_reducible apply State.setCax_kept
  with_reducible apply Kept.upd
  exact ks

theorem State.sweepWrite_kept {r : State} (s : State) (k : Nat) (w : Word) (ks : Kept r s) : Kept r (State.sweepWrite s k w) := by
  unfold State.sweepWrite
  apply Kept.ite
  · with_reducible apply Kept.upd
    exact ks
  · apply Kept.ite
    · lift_lets
      intro x0
      clear_value x0
      intro x1
      clear_value x1
      intro x2
      clear_value x2
      with_reducible apply State.setLife_kept
      exact ks
    · exact ks

theorem State.bulkDone_kept {r : State} (s : State) (regs : List (Nat × Word)) (plan : List Nat) (mirror : List Nat) (slots : List (Nat × Nat × Word)) (mem : List (Nat × Word)) (profs : List (Nat × List Int)) (ks : Kept r s) : Kept r (State.bulkDone s regs plan mirror slots mem profs) := by
  unfold State.bulkDone
  apply Kept.ite
  · lift_lets
    intro x0
    have kx0 : Kept r x0 := by
      unfold x0
      refine Kept.foldl _ ?_ ?_
      · exact ks
      · intro a1
        intro a2
        intro h3
        apply Kept.ite
        · with_reducible apply State.setRg_kept
          exact h3
        · exact h3
    clear_value x0
    intro x4
    clear_value x4
    intro x5
    clear_value x5
    intro x6
    clear_value x6
    intro x7
    have kx7 : Kept r x7 := by
      unfold x7
      with_reducible apply Kept.upd
      exact kx0
    clear_value x7
    intro x8
    clear_value x8
    intro x9
    have kx9 : Kept r x9 := by
      unfold x9
      with_reducible apply Kept.upd
      exact kx7
    clear_value x9
    intro x10
    have kx10 : Kept r x10 := by
      unfold x10
      with_reducible apply State.setRg_kept
      with_reducible apply State.setFld_kept
      exact kx9
    clear_value x10
    intro x11
    have kx11 : Kept r x11 := by
      unfold x11
      refine Kept.foldl _ ?_ ?_
      · exact kx10
      · intro a12
        intro a13
        intro h14
        apply Kept.ite
        · with_reducible apply State.setXw_kept
          exact h14
        · with_reducible apply State.setYw_kept
          exact h14
    clear_value x11
    intro x15
    have kx15 : Kept r x15 := by
      unfold x15
      refine Kept.foldl _ ?_ ?_
      · exact kx11
      · intro a16
        intro a17
        intro h18
        with_reducible apply State.sweepWrite_kept
        exact h18
    clear_value x15
    intro x19
    have kx19 : Kept r x19 := by
      unfold x19
      refine Kept.foldl _ ?_ ?_
      · exact kx15
      · intro a20
        intro a21
        intro h22
        with_reducible apply State.setProf_kept
        exact h22
    clear_value x19
    with_reducible apply State.setFld_kept
    exact kx19
  · exact ks

theorem State.rxAxis_kept {r : State} (s : State) (a : Nat) (c : Nat) (fl : Nat) (carry : List Nat) (ks : Kept r s) : Kept r (State.rxAxis s a c fl carry) := by
  unfold State.rxAxis
  apply Kept.ite
  · with_reducible apply Kept.upd
    exact ks
  · exact ks

theorem State.rxBoundary_kept {r : State} (s : State) (c : BitVec 32) (planAct : Nat) (ws : List (Nat × Word × Word)) (cs : List (Nat × Desc)) (ks : Kept r s) : Kept r (State.rxBoundary s c planAct ws cs) := by
  unfold State.rxBoundary
  apply Kept.ite
  · lift_lets
    intro x0
    clear_value x0
    intro x1
    clear_value x1
    intro x2
    clear_value x2
    with_reducible apply Kept.upd
    exact ks
  · exact ks

theorem State.sweepSend_kept {r : State} (s : State) (ks : Kept r s) : Kept r (State.sweepSend s) := by
  unfold State.sweepSend
  apply Kept.ite
  · lift_lets
    intro x0
    clear_value x0
    intro x1
    clear_value x1
    intro x2
    clear_value x2
    intro x3
    clear_value x3
    with_reducible apply State.emit_kept
    with_reducible apply Kept.upd
    exact ks
  · exact ks

theorem State.sweepTake_kept {r : State} (s : State) (p : Nat) (ws : List Word) (ks : Kept r s) : Kept r (State.sweepTake s p ws) := by
  unfold State.sweepTake
  apply Kept.ite
  · lift_lets
    intro x0
    have kx0 : Kept r x0 := by
      unfold x0
      refine Kept.foldl _ ?_ ?_
      · exact ks
      · intro a1
        intro a2
        intro h3
        with_reducible apply State.sweepWrite_kept
        exact h3
    clear_value x0
    intro x4
    clear_value x4
    with_reducible apply Kept.upd
    exact kx0
  · exact ks

end Sys2Proof.Machine
end

