-- ==== Sys2Proof/Laws/KeptBoundary.lean ====
section
/-! SUPPORT. What the operations of Machine/Boundary.lean keep (see Laws/Kept.lean). -/

namespace Sys2Proof.Machine

open Sys2Proof

theorem State.advance_kept {r : State} (s : State) (ks : Kept r s) : Kept r (State.advance s) := by
  unfold State.advance
  lift_lets
  intro x0
  clear_value x0
  intro x1
  clear_value x1
  intro x2
  have kx2 : Kept r x2 := by
    unfold x2
    with_reducible apply Kept.upd
    exact ks
  clear_value x2
  refine Kept.foldl _ ?_ ?_
  · exact kx2
  · intro a3
    intro a4
    intro h5
    lift_lets
    intro x6
    clear_value x6
    with_reducible apply State.setFld_kept
    with_reducible apply State.setLane_kept
    exact h5

theorem State.portSwitched_kept {r : State} (s : State) (p : Nat) (old : Bool) (ks : Kept r s) : Kept r (State.portSwitched s p old) := by
  unfold State.portSwitched
  lift_lets
  intro x0
  have kx0 : Kept r x0 := by
    unfold x0
    with_reducible apply State.driveTxDis_kept
    exact ks
  clear_value x0
  intro x1
  clear_value x1
  apply Kept.ite
  · exact kx0
  · with_reducible apply State.runStops_kept
    with_reducible apply Kept.upd
    exact kx0

theorem State.applyCyc_kept {r : State} (s : State) (x : Staged) (ks : Kept r s) : Kept r (State.applyCyc s x) := by
  unfold State.applyCyc
  apply Kept.ite
  · with_reducible apply State.hostPar_kept
    exact ks
  · lift_lets
    intro x0
    clear_value x0
    intro x1
    have kx1 : Kept r x1 := by
      unfold x1
      with_reducible apply State.applyWrite_kept
      exact ks
    clear_value x1
    apply Kept.ite
    · with_reducible apply State.portSwitched_kept
      exact kx1
    · exact kx1

theorem State.dueRegWrite_kept {r : State} (s : State) (src : Src) (d : Desc) (ks : Kept r s) : Kept r (State.dueRegWrite s src d) := by
  unfold State.dueRegWrite
  cases hc0 : s.regWriteError src d
  · try dsimp -zeta only
    lift_lets
    intro x1
    have kx1 : Kept r x1 := by
      unfold x1
      with_reducible apply State.regWriteBody_kept
      exact ks
    clear_value x1
    intro x2
    clear_value x2
    intro x3
    clear_value x3
    refine Kept.foldl _ ?_ ?_
    · with_reducible apply Kept.upd
      exact kx1
    · intro a4
      intro a5
      intro h6
      with_reducible apply State.applyCyc_kept
      exact h6
  · try dsimp -zeta only
    with_reducible apply State.complete_kept
    exact ks

theorem State.runDue_kept {r : State} (s : State) (x : Due) (ks : Kept r s) : Kept r (State.runDue s x) := by
  unfold State.runDue
  lift_lets
  intro x0
  clear_value x0
  intro x1
  clear_value x1
  split
  · with_reducible apply State.complete_kept
    exact ks
  · with_reducible apply State.dueRegWrite_kept
    exact ks
  · with_reducible apply State.regRead_kept
    exact ks
  · with_reducible apply State.complete_kept
    exact ks
  · apply Kept.ite
    · with_reducible apply State.paramWrite_kept
      exact ks
    · with_reducible apply State.dueParam_kept
      exact ks
  · with_reducible apply State.paramRead_kept
    exact ks
  · with_reducible apply State.dueLock_kept
    exact ks
  · with_reducible apply State.dueLearn_kept
    exact ks
  · with_reducible apply State.dueInject_kept
    exact ks
  · with_reducible apply State.dueClear_kept
    exact ks
  · with_reducible apply State.planPrepare_kept
    exact ks
  · with_reducible apply State.planAbort_kept
    exact ks
  · with_reducible apply State.planReport_kept
    exact ks
  · apply Kept.ite
    · with_reducible apply State.netBoom_kept
      exact ks
    · with_reducible apply State.resumePort_kept
      exact ks
  · with_reducible apply State.netQuery_kept
    exact ks
  · with_reducible apply State.netReset_kept
    exact ks
  · with_reducible apply State.netTransfer_kept
    exact ks
  · with_reducible apply State.netTransfer_kept
    exact ks
  · with_reducible apply State.portTest_kept
    exact ks
  · with_reducible apply State.timeSet_kept
    exact ks
  · with_reducible apply State.dueStop_kept
    exact ks
  · with_reducible apply State.dueResume_kept
    exact ks
  · with_reducible apply State.dueHome_kept
    exact ks
  · with_reducible apply State.dueGroupSet_kept
    exact ks
  · with_reducible apply State.logConfig_kept
    exact ks
  · with_reducible apply State.dueLogStart_kept
    exact ks
  · with_reducible apply State.dueLogStop_kept
    exact ks
  · with_reducible apply State.logMaskLoad_kept
    exact ks
  · with_reducible apply State.logTrigger_kept
    exact ks
  · with_reducible apply State.soundFire_kept
    exact ks
  · with_reducible apply State.snapDump_kept
    exact ks
  · with_reducible apply State.canRecover_kept
    exact ks
  · with_reducible apply State.canSleep_kept
    exact ks
  · with_reducible apply State.cartAuth_kept
    exact ks
  · with_reducible apply State.cartRead_kept
    exact ks
  · with_reducible apply State.cartWrite_kept
    exact ks
  · with_reducible apply State.dueCartPolicy_kept
    exact ks
  · with_reducible apply State.cartFlush_kept
    exact ks
  · with_reducible apply State.safeLoad_kept
    exact ks
  · with_reducible apply State.safeStatus_kept
    exact ks
  · with_reducible apply State.relayGrant_kept
    exact ks
  · with_reducible apply State.testLane_kept
    exact ks
  · with_reducible apply State.testHart_kept
    exact ks
  · with_reducible apply State.testMemory_kept
    exact ks
  · with_reducible apply State.pdSwitch_kept
    exact ks
  · with_reducible apply State.keelProgram_kept
    exact ks
  · with_reducible apply State.fwStage_kept
    exact ks
  · with_reducible apply State.tunnelTx_kept
    exact ks
  · exact ks

theorem State.applyModes_kept {r : State} (s : State) (modes : List Due) (ks : Kept r s) : Kept r (State.applyModes s modes) := by
  unfold State.applyModes
  refine Kept.foldl _ ?_ ?_
  · exact ks
  · intro a0
    intro a1
    intro h2
    with_reducible apply State.modeStep_kept
    exact h2

theorem State.applyDue_kept {r : State} (s : State) (ks : Kept r s) : Kept r (State.applyDue s) := by
  unfold State.applyDue
  lift_lets
  intro x0
  clear_value x0
  intro x1
  clear_value x1
  intro x2
  clear_value x2
  intro x3
  have kx3 : Kept r x3 := by
    unfold x3
    with_reducible apply Kept.upd
    exact ks
  clear_value x3
  intro x4
  have kx4 : Kept r x4 := by
    unfold x4
    refine Kept.foldl _ ?_ ?_
    · exact kx3
    · intro a5
      intro a6
      intro h7
      with_reducible apply State.runDue_kept
      exact h7
  clear_value x4
  with_reducible apply State.applyModes_kept
  exact kx4

theorem State.applyStage_kept {r : State} (s : State) (ks : Kept r s) : Kept r (State.applyStage s) := by
  unfold State.applyStage
  apply Kept.ite
  · exact ks
  · lift_lets
    intro x0
    clear_value x0
    intro x1
    clear_value x1
    intro x2
    clear_value x2
    intro x3
    clear_value x3
    intro x4
    clear_value x4
    refine Kept.foldl _ ?_ ?_
    · with_reducible apply Kept.upd
      exact ks
    · intro a5
      intro a6
      intro h7
      with_reducible apply State.applyCyc_kept
      exact h7

theorem State.rxCommand_kept {r : State} (s : State) (e : Nat × Desc) (ks : Kept r s) : Kept r (State.rxCommand s e) := by
  unfold State.rxCommand
  lift_lets
  intro x0
  clear_value x0
  intro x1
  clear_value x1
  intro x2
  clear_value x2
  intro x3
  clear_value x3
  intro x4
  have kx4 : Kept r x4 := by
    unfold x4
    with_reducible apply Kept.upd
    exact ks
  clear_value x4
  intro x5
  clear_value x5
  intro x6
  have kx6 : Kept r x6 := by
    unfold x6
    apply Kept.ite
    · with_reducible apply State.modeStep_kept
      exact kx4
    · with_reducible apply State.runDue_kept
      exact kx4
  clear_value x6
  with_reducible apply State.release_kept
  exact kx6

theorem State.endStays_kept {r : State} (s : State) (l : List PlanAxis) (ks : Kept r s) : Kept r (State.endStays s l) := by
  unfold State.endStays
  refine Kept.foldl _ ?_ ?_
  · exact ks
  · intro a0
    intro a1
    intro h2
    apply Kept.ite
    · with_reducible apply State.flushWrites_kept
      with_reducible apply State.endStay_kept
      exact h2
    · exact h2

theorem State.followPlan_kept {r : State} (s : State) (planAct : Nat) (ks : Kept r s) : Kept r (State.followPlan s planAct) := by
  unfold State.followPlan
  lift_lets
  intro x0
  clear_value x0
  intro x1
  have kx1 : Kept r x1 := by
    unfold x1
    cases hc2 : s.pilot.new
    · try dsimp -zeta only
      exact ks
    · try dsimp -zeta only
      lift_lets
      intro x3
      have kx3 : Kept r x3 := by
        unfold x3
        with_reducible apply State.endStays_kept
        with_reducible apply State.switchTo_kept
        exact ks
      clear_value x3
      intro x4
      clear_value x4
      intro x5
      clear_value x5
      apply Kept.ite
      · with_reducible apply Kept.upd
        exact kx3
      · exact ks
  clear_value x1
  intro x6
  clear_value x6
  intro x7
  clear_value x7
  cases hc8 : x1.helm.mirror
  · try dsimp -zeta only
    exact kx1
  · try dsimp -zeta only
    apply Kept.ite
    · with_reducible apply State.endStays_kept
      with_reducible apply State.moveLanes_kept
      with_reducible apply Kept.upd
      exact kx1
    · exact kx1

theorem State.applyStream_kept {r : State} (s : State) (div : Bool) (ks : Kept r s) : Kept r (State.applyStream s div) := by
  unfold State.applyStream
  cases hc0 : s.helm.rxCyc
  · try dsimp -zeta only
    exact ks
  · try dsimp -zeta only
    apply Kept.ite
    · exact ks
    · lift_lets
      intro x1
      clear_value x1
      intro x2
      clear_value x2
      intro x3
      have kx3 : Kept r x3 := by
        unfold x3
        apply Kept.ite
        · with_reducible apply State.setFlag_kept
          exact ks
        · exact ks
      clear_value x3
      intro x4
      clear_value x4
      intro x5
      have kx5 : Kept r x5 := by
        unfold x5
        with_reducible apply Kept.upd
        exact kx3
      clear_value x5
      intro x6
      have kx6 : Kept r x6 := by
        unfold x6
        refine Kept.foldl _ ?_ ?_
        · exact kx5
        · intro a7
          intro a8
          intro h9
          with_reducible apply State.applyCyc_kept
          exact h9
      clear_value x6
      intro x10
      have kx10 : Kept r x10 := by
        unfold x10
        refine Kept.foldl _ ?_ ?_
        · exact kx6
        · intro a11
          intro a12
          intro h13
          with_reducible apply State.rxCommand_kept
          exact h13
      clear_value x10
      apply Kept.ite
      · with_reducible apply State.followPlan_kept
        exact kx10
      · exact kx10

theorem State.eachAxis_kept {r : State} (s : State) (f : State → Nat → State) (ks : Kept r s) (kf : ∀ (y0 : State) (y1 : Nat), Kept r y0 → Kept r (f y0 y1)) : Kept r (State.eachAxis s f) := by
  unfold State.eachAxis
  exact Kept.foldl _ ks fun x a hx => kf x a hx

theorem State.faultBoundary_kept {r : State} (s : State) (ks : Kept r s) : Kept r (State.faultBoundary s) := by
  unfold State.faultBoundary
  lift_lets
  intro x0
  have kx0 : Kept r x0 := by
    unfold x0
    with_reducible apply State.eachAxis_kept
    · with_reducible apply State.eachAxis_kept
      · exact ks
      · intro a1
        intro a2
        intro h3
        with_reducible apply State.fbBoundary_kept
        exact h3
    · intro a4
      intro a5
      intro h6
      with_reducible apply State.worsen_kept
      exact h6
  clear_value x0
  intro x7
  clear_value x7
  with_reducible apply Kept.upd
  exact kx0

theorem State.profBoundary_kept {r : State} (s : State) (refs : List (Nat × Bool)) (ks : Kept r s) : Kept r (State.profBoundary s refs) := by
  unfold State.profBoundary
  lift_lets
  intro x0
  have kx0 : Kept r x0 := by
    unfold x0
    with_reducible apply State.refBoundary_kept
    exact ks
  clear_value x0
  intro x1
  have kx1 : Kept r x1 := by
    unfold x1
    refine Kept.foldl _ ?_ ?_
    · exact kx0
    · intro a2
      intro a3
      intro h4
      with_reducible apply State.refGroup_kept
      exact h4
  clear_value x1
  with_reducible apply State.eachAxis_kept
  · exact kx1
  · intro a5
    intro a6
    intro h7
    with_reducible apply State.writeSetp_kept
    with_reducible apply State.profDecide_kept
    exact h7

theorem State.unplacedFlag_kept {r : State} (s : State) (ks : Kept r s) : Kept r (State.unplacedFlag s) := by
  unfold State.unplacedFlag
  apply Kept.ite
  · with_reducible apply State.pilotFlag_kept
    exact ks
  · exact ks

theorem State.cycleBoundary_kept {r : State} (s : State) (refs : List (Nat × Bool)) (ks : Kept r s) : Kept r (State.cycleBoundary s refs) := by
  unfold State.cycleBoundary
  lift_lets
  intro x0
  have kx0 : Kept r x0 := by
    unfold x0
    with_reducible apply State.advance_kept
    with_reducible apply State.endStays_kept
    with_reducible apply State.acqClose_kept
    with_reducible apply State.serveSound_kept
    with_reducible apply State.useAllTails_kept
    exact ks
  clear_value x0
  intro x1
  have kx1 : Kept r x1 := by
    unfold x1
    with_reducible apply State.stepWait_kept
    with_reducible apply State.acqOpen_kept
    exact kx0
  clear_value x1
  intro x2
  have kx2 : Kept r x2 := by
    unfold x2
    with_reducible apply State.eachAxis_kept
    · exact kx1
    · intro a3
      intro a4
      intro h5
      lift_lets
      intro x6
      clear_value x6
      with_reducible apply State.setProf_kept
      exact h5
  clear_value x2
  intro x7
  have kx7 : Kept r x7 := by
    unfold x7
    with_reducible apply State.eachAxis_kept
    · exact kx2
    · intro a8
      intro a9
      intro h10
      with_reducible apply State.profAdvance_kept
      exact h10
  clear_value x7
  intro x11
  clear_value x11
  intro x12
  have kx12 : Kept r x12 := by
    unfold x12
    with_reducible apply State.faultBoundary_kept
    with_reducible apply State.safeBoundary_kept
    with_reducible apply State.freeDoorbells_kept
    with_reducible apply State.applyStage_kept
    exact kx7
  clear_value x12
  intro x13
  have kx13 : Kept r x13 := by
    unfold x13
    with_reducible apply State.emuBoundary_kept
    with_reducible apply State.applyStream_kept
    with_reducible apply State.applyDue_kept
    exact kx12
  clear_value x13
  intro x14
  have kx14 : Kept r x14 := by
    unfold x14
    with_reducible apply State.ledgerBoundary_kept
    with_reducible apply State.eachAxis_kept
    · exact kx13
    · intro a15
      intro a16
      intro h17
      with_reducible apply State.adaptRamp_kept
      exact h17
  clear_value x14
  intro x18
  have kx18 : Kept r x18 := by
    unfold x18
    with_reducible apply State.mirrorBoundary_kept
    with_reducible apply State.pilotBoundary_kept
    with_reducible apply State.profBoundary_kept
    exact kx14
  clear_value x18
  intro x19
  have kx19 : Kept r x19 := by
    unfold x19
    with_reducible apply State.unplacedFlag_kept
    with_reducible apply State.resyncBoundary_kept
    with_reducible apply State.netBoundary_kept
    exact kx18
  clear_value x19
  with_reducible apply State.canBoundary_kept
  with_reducible apply State.cartBoundary_kept
  exact kx19

end Sys2Proof.Machine
end

