-- ==== Sys2Proof/Laws/KeptHart.lean ====
section
/-! SUPPORT. What the operations of Machine/Hart.lean keep (see Laws/Kept.lean). -/

namespace Sys2Proof.Machine

open Sys2Proof

theorem State.sramStore_kept {r : State} (s : State) (h : Nat) (addr : Nat) (v : Nat) (ks : Kept r s) : Kept r (State.sramStore s h addr v) := by
  unfold State.sramStore
  lift_lets
  intro x0
  clear_value x0
  intro x1
  clear_value x1
  intro x2
  have kx2 : Kept r x2 := by
    unfold x2
    with_reducible apply Kept.upd
    exact ks
  clear_value x2
  refine Kept.foldl _ ?_ ?_
  · exact kx2
  · intro a3
    intro a4
    intro h5
    lift_lets
    intro x6
    clear_value x6
    apply Kept.ite
    · with_reducible apply State.setHart_kept
      exact h5
    · with_reducible apply State.setHart_kept
      exact h5

theorem State.hartStore_kept {r : State} (s : State) (h : Nat) (addr : Nat) (size : Nat) (v : Nat) (ks : Kept r s) {t : State} (e : State.hartStore s h addr size v = some t) : Kept r t := by
  unfold State.hartStore at e
  dsimp only at e
  split at e
  · cases e; exact State.sramStore_kept _ _ _ _ ks
  · split at e
    · cases e; exact State.busWrite_kept _ _ _ _ _ _ ks
    · cases e
  · cases e

theorem State.csrStore_kept {r : State} (s : State) (h : Nat) (n : Nat) (v : Word) (ks : Kept r s) : Kept r (State.csrStore s h n v) := by
  unfold State.csrStore
  split
  · with_reducible apply State.xdspWrite_kept
    exact ks
  · exact ks
  · exact ks
  · with_reducible apply State.wdtKick_kept
    exact ks
  · with_reducible apply State.setHart_kept
    exact ks

/-- What an instruction leaves keeps what it should, trap or not. -/
def Ran.Keeps (r : State) : Ran → Prop
  | .ok s => Kept r s
  | .trap s _ _ => Kept r s

/-- A read that answers a state and a value keeps what it should. -/
def KeptRead {α : Type} (r : State) (o : Option (State × α)) : Prop := ∀ t v, o = some (t, v) → Kept r t

theorem KeptRead.none {α : Type} {r : State} : KeptRead (α := α) r none := by intro t v h; cases h
theorem KeptRead.some {α : Type} {r u : State} {x : α} (h : Kept r u) : KeptRead r (some (u, x)) := by intro t v e; cases e; exact h
theorem KeptRead.map {α : Type} {r u : State} {o : Option α} (h : Kept r u) : KeptRead r (o.map (fun v => (u, v))) := by
  cases o with
  | none => exact KeptRead.none
  | some x => exact KeptRead.some h

theorem State.fetchHalf_kept {r : State} (s : State) (h addr : Nat) (ks : Kept r s) : KeptRead r (s.fetchHalf h addr) := by
  unfold State.fetchHalf
  dsimp only
  split
  · exact KeptRead.some (State.setHart_kept _ _ _ ks)
  · exact KeptRead.some (State.setHart_kept _ _ _ ks)
  · exact KeptRead.none

theorem State.hartLoad_kept {r : State} (s : State) (h addr size : Nat) (ks : Kept r s) : KeptRead r (s.hartLoad h addr size) := by
  unfold State.hartLoad
  dsimp only
  split
  · exact KeptRead.none
  · split
    · exact KeptRead.some (State.readReg_kept _ _ _ ks)
    · exact KeptRead.none
  · exact KeptRead.some (State.setHart_kept _ _ _ ks)

theorem State.csrRead_kept {r : State} (s : State) (h n : Nat) (ks : Kept r s) : KeptRead r (s.csrRead h n) := by
  unfold State.csrRead
  split
  all_goals first
    | exact KeptRead.some (State.dispatch_kept _ _ ks)
    | exact KeptRead.some (State.evtClaim_kept _ _ ks)
    | exact KeptRead.some (State.ntimeRead_kept _ _ ks)
    | exact KeptRead.some ks
    | exact KeptRead.map (Kept.updFree ks)
    | exact KeptRead.map ks

theorem State.csrOp_kept {r : State} (s : State) (h n : Nat) (rd : Bool) (f : Option (Word → Word)) (ks : Kept r s) :
    KeptRead r (s.csrOp h n rd f) := by
  unfold State.csrOp
  dsimp only
  split
  · exact KeptRead.none
  · split
    · have k : ∀ g : Option (Word → Word), Kept r (match g with | some g => s.csrStore h n (g 0) | none => s) := by
        intro g
        cases g with
        | none => exact ks
        | some g => exact State.csrStore_kept _ _ _ _ ks
      split
      · exact State.csrRead_kept _ _ _ (k f)
      · exact KeptRead.some (k f)
    · have k : ∀ t v, (if rd then s.csrRead h n else if (s.csrRead h n).isSome then some (s, 0) else none) = some (t, v) → Kept r t := by
        intro t v e
        split at e
        · exact State.csrRead_kept s h n ks t v e
        · split at e
          · cases e; exact ks
          · cases e
      split
      · exact KeptRead.none
      · rename_i t old e
        split
        · exact KeptRead.some (State.csrStore_kept _ _ _ _ (k _ _ e))
        · exact KeptRead.some (k _ _ e)

theorem State.runLoad_kept {r : State} (s : State) (h f3 rd addr : Nat) (float : Bool) (w next : Word) (ks : Kept r s) :
    (s.runLoad h f3 rd addr float w next).Keeps r := by
  unfold State.runLoad
  dsimp only
  split
  · exact ks
  · split
    · exact ks
    · split
      · exact ks
      · rename_i t v e
        have k := State.hartLoad_kept s h addr _ ks t v e
        split
        · exact State.setHart_kept _ _ _ k
        · exact State.setHart_kept _ _ _ k

theorem State.runStore_kept {r : State} (s : State) (h f3 addr : Nat) (v : Word) (float : Bool) (w next : Word) (ks : Kept r s) :
    (s.runStore h f3 addr v float w next).Keeps r := by
  unfold State.runStore
  dsimp only
  split
  · exact ks
  · split
    · exact ks
    · split
      · exact ks
      · rename_i t e
        exact State.setHart_kept _ _ _ (State.hartStore_kept s h addr _ _ ks e)

theorem State.runAtomic_kept {r : State} (s : State) (h : Nat) (w next : Word) (ks : Kept r s) : (s.runAtomic h w next).Keeps r := by
  unfold State.runAtomic
  dsimp only
  repeat' first
    | exact ks
    | exact State.setHart_kept _ _ _ (State.setHart_kept _ _ _ ks)
    | exact State.setHart_kept _ _ _ (State.sramStore_kept _ _ _ _ (State.setHart_kept _ _ _ ks))
    | exact State.setHart_kept _ _ _ (State.sramStore_kept _ _ _ _ ks)
    | split

theorem State.runSystem_kept {r : State} (s : State) (h : Nat) (w next : Word) (ks : Kept r s) : (s.runSystem h w next).Keeps r := by
  unfold State.runSystem
  dsimp only
  split
  · repeat' first
      | exact ks
      | exact State.setHart_kept _ _ _ ks
      | split
  · split
    · exact ks
    · split
      · exact ks
      · rename_i t old e
        exact State.setHart_kept _ _ _ (State.csrOp_kept _ _ _ _ _ ks _ _ e)

theorem State.runFma_kept {r : State} (s : State) (h : Nat) (w next : Word) (ks : Kept r s) : (s.runFma h w next).Keeps r := by
  unfold State.runFma
  dsimp only
  repeat' first
    | exact ks
    | exact State.setHart_kept _ _ _ ks
    | split

theorem State.runFloat_kept {r : State} (s : State) (h : Nat) (w next : Word) (ks : Kept r s) : (s.runFloat h w next).Keeps r := by
  unfold State.runFloat
  dsimp only
  repeat' first
    | exact ks
    | exact State.setHart_kept _ _ _ ks
    | split

theorem State.runAlu_kept {r : State} (s : State) (h : Nat) (w next : Word) (ks : Kept r s) : (s.runAlu h w next).Keeps r := by
  unfold State.runAlu
  dsimp only
  repeat' first
    | exact ks
    | exact State.setHart_kept _ _ _ ks
    | split

theorem State.runInstr_kept {r : State} (s : State) (h : Nat) (w next : Word) (ks : Kept r s) : (s.runInstr h w next).Keeps r := by
  unfold State.runInstr
  dsimp only
  split
  · exact ks
  · split
    all_goals first
      | exact State.runLoad_kept _ _ _ _ _ _ _ _ ks
      | exact State.runStore_kept _ _ _ _ _ _ _ _ ks
      | exact State.runAtomic_kept _ _ _ _ ks
      | exact State.runSystem_kept _ _ _ _ ks
      | exact State.runFma_kept _ _ _ _ ks
      | exact State.runFloat_kept _ _ _ _ ks
      | exact State.runAlu_kept _ _ _ _ ks
      | exact ks
      | exact State.setHart_kept _ _ _ ks
      | (repeat' first
          | exact ks
          | exact State.setHart_kept _ _ _ ks
          | split)

theorem State.runFetched_kept {r : State} (s : State) (h : Nat) (ks : Kept r s) : (s.runFetched h).Keeps r := by
  unfold State.runFetched
  dsimp only
  split
  · exact ks
  · rename_i t lo e
    have k := State.fetchHalf_kept s h _ ks t lo e
    split
    · split
      · exact State.runInstr_kept _ _ _ _ k
      · exact k
    · split
      · exact k
      · rename_i u hi e2
        exact State.runInstr_kept _ _ _ _ (State.fetchHalf_kept t h _ k u hi e2)

theorem State.hartStep_kept {r : State} (s : State) (h : Nat) (ks : Kept r s) : Kept r (State.hartStep s h) := by
  unfold State.hartStep
  dsimp only
  have k1 := State.setHart_kept (r := r) s h { s.hart h with mcycle := ((s.hart h).mcycle + 1) % 2 ^ 64 } ks
  split
  · exact ks
  · split
    · exact k1
    · have k2 := fun x => State.setHart_kept (r := r) _ h x k1
      split
      · exact State.setHart_kept _ _ _ (k2 _)
      · have k3 := State.runFetched_kept (r := r) _ h (k2 { (s.setHart h { s.hart h with mcycle := ((s.hart h).mcycle + 1) % 2 ^ 64 }).hart h with wfi := false })
        split
        · rename_i t e
          rw [e] at k3
          exact State.setHart_kept _ _ _ k3
        · rename_i t c v e
          rw [e] at k3
          exact State.hartTrap_kept _ _ _ _ k3

theorem State.cpuEdge_kept {r : State} (s : State) (core : Option (Fin 4)) (ks : Kept r s) : Kept r (State.cpuEdge s core) := by
  unfold State.cpuEdge
  with_reducible apply State.tokenEdge_kept
  cases core
  · try dsimp -zeta only
    exact ks
  · try dsimp -zeta only
    with_reducible apply State.hartStep_kept
    exact ks

end Sys2Proof.Machine
end

