-- ==== Sys2Proof/Laws/KeptExec.lean ====
section
/-! SUPPORT. Every command answers a next state and keeps what Laws/Kept.lean says, one lemma for each meaning. -/

namespace Sys2Proof.Machine

open Sys2Proof

theorem execNop_kept : ∀ r x0 x1 x2, Kept r x2 → ∃ t, execNop x0 x1 x2 = Host.Outcome.next t ∧ Kept r t := by
  intro r x0 x1 x2 k
  refine ⟨_, rfl, ?_⟩
  with_reducible apply State.cmd_kept
  · exact k
  · intro a0
    intro h1
    with_reducible apply State.soon_kept
    · exact h1
    · intro a2
      intro h3
      with_reducible apply State.complete_kept
      exact h3

theorem execRegWrite_kept : ∀ r x0 x1 x2, Kept r x2 → ∃ t, execRegWrite x0 x1 x2 = Host.Outcome.next t ∧ Kept r t := by
  intro r x0 x1 x2 k
  refine ⟨_, rfl, ?_⟩
  with_reducible apply State.cmd_kept
  · exact k
  · intro a0
    intro h1
    with_reducible apply State.regWrite_kept
    exact h1

theorem execRegRead_kept : ∀ r x0 x1 x2, Kept r x2 → ∃ t, execRegRead x0 x1 x2 = Host.Outcome.next t ∧ Kept r t := by
  intro r x0 x1 x2 k
  refine ⟨_, rfl, ?_⟩
  with_reducible apply State.cmd_kept
  · exact k
  · intro a0
    intro h1
    with_reducible apply State.regRead_kept
    exact h1

theorem execWaitCycle_kept : ∀ r x0 x1 x2, Kept r x2 → ∃ t, execWaitCycle x0 x1 x2 = Host.Outcome.next t ∧ Kept r t := by
  intro r x0 x1 x2 k
  refine ⟨_, rfl, ?_⟩
  with_reducible apply State.cmd_kept
  · exact k
  · intro a0
    intro h1
    with_reducible apply State.atBoundary_kept
    exact h1

theorem execRegisterWrite_kept : ∀ r x0 x1 x2 x3 x4 x5, Kept r x5 → ∃ t, execRegisterWrite x0 x1 x2 x3 x4 x5 = Host.Outcome.next t ∧ Kept r t := by
  intro r x0 x1 x2 x3 x4 x5 k
  refine ⟨_, rfl, ?_⟩
  with_reducible apply State.registerWrite_kept
  exact k

theorem execAliasSetWrite_kept : ∀ r x0 x1 x2 x3 x4, Kept r x4 → ∃ t, execAliasSetWrite x0 x1 x2 x3 x4 = Host.Outcome.next t ∧ Kept r t := by
  intro r x0 x1 x2 x3 x4 k
  refine ⟨_, rfl, ?_⟩
  with_reducible apply State.busWrite_kept
  exact k

theorem execAliasClrWrite_kept : ∀ r x0 x1 x2 x3 x4, Kept r x4 → ∃ t, execAliasClrWrite x0 x1 x2 x3 x4 = Host.Outcome.next t ∧ Kept r t := by
  intro r x0 x1 x2 x3 x4 k
  refine ⟨_, rfl, ?_⟩
  with_reducible apply State.busWrite_kept
  exact k

theorem execAliasMaskWrite_kept : ∀ r x0 x1 x2 x3 x4, Kept r x4 → ∃ t, execAliasMaskWrite x0 x1 x2 x3 x4 = Host.Outcome.next t ∧ Kept r t := by
  intro r x0 x1 x2 x3 x4 k
  refine ⟨_, rfl, ?_⟩
  with_reducible apply State.busWrite_kept
  exact k

theorem execLowWordRead_kept : ∀ r x0 x1 x2 x3, Kept r x3 → ∃ t, execLowWordRead x0 x1 x2 x3 = Host.Outcome.next t ∧ Kept r t := by
  intro r x0 x1 x2 x3 k
  refine ⟨_, rfl, ?_⟩
  with_reducible apply State.lowWordRead_kept
  exact k

theorem execRcFieldRead_kept : ∀ r x0 x1 x2, Kept r x2 → ∃ t, execRcFieldRead x0 x1 x2 = Host.Outcome.next t ∧ Kept r t := by
  intro r x0 x1 x2 k
  refine ⟨_, rfl, ?_⟩
  with_reducible apply State.readAccess_kept
  exact k

theorem execDoorbellWrite_kept : ∀ r x0 x1 x2, Kept r x2 → ∃ t, execDoorbellWrite x0 x1 x2 = Host.Outcome.next t ∧ Kept r t := by
  intro r x0 x1 x2 k
  refine ⟨_, rfl, ?_⟩
  with_reducible apply State.ringDoorbell_kept
  exact k

theorem execRingReset_kept : ∀ r x0 x1, Kept r x1 → ∃ t, execRingReset x0 x1 = Host.Outcome.next t ∧ Kept r t := by
  intro r x0 x1 k
  refine ⟨_, rfl, ?_⟩
  with_reducible apply State.busWrite_kept
  exact k

theorem execRingDisable_kept : ∀ r x0 x1, Kept r x1 → ∃ t, execRingDisable x0 x1 = Host.Outcome.next t ∧ Kept r t := by
  intro r x0 x1 k
  refine ⟨_, rfl, ?_⟩
  with_reducible apply State.busWrite_kept
  exact k

theorem execRingResizeRequest_kept : ∀ r x0 x1 x2, Kept r x2 → ∃ t, execRingResizeRequest x0 x1 x2 = Host.Outcome.next t ∧ Kept r t := by
  intro r x0 x1 x2 k
  refine ⟨_, rfl, ?_⟩
  with_reducible apply State.busWrite_kept
  exact k

theorem execCmdPauseWrite_kept : ∀ r x0 x1, Kept r x1 → ∃ t, execCmdPauseWrite x0 x1 = Host.Outcome.next t ∧ Kept r t := by
  intro r x0 x1 k
  refine ⟨_, rfl, ?_⟩
  with_reducible apply State.busWrite_kept
  exact k

theorem execMsixVectorUnmask_kept : ∀ r x0 x1 x2 x3, Kept r x3 → ∃ t, execMsixVectorUnmask x0 x1 x2 x3 = Host.Outcome.next t ∧ Kept r t := by
  intro r x0 x1 x2 x3 k
  refine ⟨_, rfl, ?_⟩
  with_reducible apply State.msixUnmask_kept
  exact k

theorem execRingIrqUnmask_kept : ∀ r x0 x1, Kept r x1 → ∃ t, execRingIrqUnmask x0 x1 = Host.Outcome.next t ∧ Kept r t := by
  intro r x0 x1 k
  refine ⟨_, rfl, ?_⟩
  with_reducible apply State.busWrite_kept
  exact k

theorem execReportRingWrite_kept : ∀ r x0 x1, Kept r x1 → ∃ t, execReportRingWrite x0 x1 = Host.Outcome.next t ∧ Kept r t := by
  intro r x0 x1 k
  refine ⟨_, rfl, ?_⟩
  with_reducible apply State.reportWrite_kept
  exact k

theorem execRingIrqHoldExpiry_kept : ∀ r x0 x1, Kept r x1 → ∃ t, execRingIrqHoldExpiry x0 x1 = Host.Outcome.next t ∧ Kept r t := by
  intro r x0 x1 k
  refine ⟨_, rfl, ?_⟩
  with_reducible apply State.holdOver_kept
  exact k

theorem execCompletionRingStall_kept : ∀ r x0 x1, Kept r x1 → ∃ t, execCompletionRingStall x0 x1 = Host.Outcome.next t ∧ Kept r t := by
  intro r x0 x1 k
  refine ⟨_, rfl, ?_⟩
  with_reducible apply State.cqStall_kept
  exact k

theorem execRingDmaError_kept : ∀ r x0 x1, Kept r x1 → ∃ t, execRingDmaError x0 x1 = Host.Outcome.next t ∧ Kept r t := by
  intro r x0 x1 k
  refine ⟨_, rfl, ?_⟩
  with_reducible apply State.dmaError_kept
  exact k

theorem execDescriptorTake_kept : ∀ r x0 x1, Kept r x1 → ∃ t, execDescriptorTake x0 x1 = Host.Outcome.next t ∧ Kept r t := by
  intro r x0 x1 k
  refine ⟨_, rfl, ?_⟩
  with_reducible apply State.take_kept
  exact k

theorem execCycleBoundary_kept : ∀ r x0 x1, Kept r x1 → ∃ t, execCycleBoundary x0 x1 = Host.Outcome.next t ∧ Kept r t := by
  intro r x0 x1 k
  refine ⟨_, rfl, ?_⟩
  with_reducible apply State.cycleBoundary_kept
  exact k

theorem execManifestWordStore_kept : ∀ r x0 x1, Kept r x1 → ∃ t, execManifestWordStore x0 x1 = Host.Outcome.next t ∧ Kept r t := by
  intro r x0 x1 k
  refine ⟨_, rfl, ?_⟩
  with_reducible apply State.busWrite_kept
  exact k

theorem execLaneSlistWrite_kept : ∀ r x0 x1 x2 x3, Kept r x3 → ∃ t, execLaneSlistWrite x0 x1 x2 x3 = Host.Outcome.next t ∧ Kept r t := by
  intro r x0 x1 x2 x3 k
  refine ⟨_, rfl, ?_⟩
  with_reducible apply State.busWrite_kept
  exact k

theorem execLaneEntryWrite_kept : ∀ r x0 x1 x2 x3, Kept r x3 → ∃ t, execLaneEntryWrite x0 x1 x2 x3 = Host.Outcome.next t ∧ Kept r t := by
  intro r x0 x1 x2 x3 k
  refine ⟨_, rfl, ?_⟩
  with_reducible apply State.busWrite_kept
  exact k

theorem execListCheckDone_kept : ∀ r x0 x1, Kept r x1 → ∃ t, execListCheckDone x0 x1 = Host.Outcome.next t ∧ Kept r t := by
  intro r x0 x1 k
  refine ⟨_, rfl, ?_⟩
  with_reducible apply State.listCheckDone_kept
  exact k

theorem execPortCfgWrite_kept : ∀ r x0 x1 x2, Kept r x2 → ∃ t, execPortCfgWrite x0 x1 x2 = Host.Outcome.next t ∧ Kept r t := by
  intro r x0 x1 x2 k
  refine ⟨_, rfl, ?_⟩
  with_reducible apply State.busWrite_kept
  exact k

theorem execNetBoom_kept : ∀ r x0 x1 x2, Kept r x2 → ∃ t, execNetBoom x0 x1 x2 = Host.Outcome.next t ∧ Kept r t := by
  intro r x0 x1 x2 k
  refine ⟨_, rfl, ?_⟩
  with_reducible apply State.cmd_kept
  · exact k
  · intro a0
    intro h1
    with_reducible apply State.soon_kept
    · exact h1
    · intro a2
      intro h3
      with_reducible apply State.netBoom_kept
      exact h3

theorem execNetNodeQuery_kept : ∀ r x0 x1 x2, Kept r x2 → ∃ t, execNetNodeQuery x0 x1 x2 = Host.Outcome.next t ∧ Kept r t := by
  intro r x0 x1 x2 k
  refine ⟨_, rfl, ?_⟩
  with_reducible apply State.cmd_kept
  · exact k
  · intro a0
    intro h1
    with_reducible apply State.soon_kept
    · exact h1
    · intro a2
      intro h3
      with_reducible apply State.netQuery_kept
      exact h3

theorem execNetNodeReset_kept : ∀ r x0 x1 x2, Kept r x2 → ∃ t, execNetNodeReset x0 x1 x2 = Host.Outcome.next t ∧ Kept r t := by
  intro r x0 x1 x2 k
  refine ⟨_, rfl, ?_⟩
  with_reducible apply State.cmd_kept
  · exact k
  · intro a0
    intro h1
    with_reducible apply State.soon_kept
    · exact h1
    · intro a2
      intro h3
      with_reducible apply State.netReset_kept
      exact h3

theorem execNetWorkerParam_kept : ∀ r x0 x1 x2 x3, Kept r x3 → ∃ t, execNetWorkerParam x0 x1 x2 x3 = Host.Outcome.next t ∧ Kept r t := by
  intro r x0 x1 x2 x3 k
  refine ⟨_, rfl, ?_⟩
  with_reducible apply State.cmd_kept
  · exact k
  · intro a0
    intro h1
    with_reducible apply State.soonData_kept
    · exact h1
    · intro a2
      intro h3
      with_reducible apply State.netTransfer_kept
      exact h3

theorem execNetWorkerFw_kept : ∀ r x0 x1 x2 x3, Kept r x3 → ∃ t, execNetWorkerFw x0 x1 x2 x3 = Host.Outcome.next t ∧ Kept r t := by
  intro r x0 x1 x2 x3 k
  refine ⟨_, rfl, ?_⟩
  with_reducible apply State.cmd_kept
  · exact k
  · intro a0
    intro h1
    with_reducible apply State.soonData_kept
    · exact h1
    · intro a2
      intro h3
      with_reducible apply State.netTransfer_kept
      exact h3

theorem execNetPortTest_kept : ∀ r x0 x1 x2, Kept r x2 → ∃ t, execNetPortTest x0 x1 x2 = Host.Outcome.next t ∧ Kept r t := by
  intro r x0 x1 x2 k
  refine ⟨_, rfl, ?_⟩
  with_reducible apply State.cmd_kept
  · exact k
  · intro a0
    intro h1
    with_reducible apply State.soon_kept
    · exact h1
    · intro a2
      intro h3
      with_reducible apply State.portTest_kept
      exact h3

theorem execTimeSet_kept : ∀ r x0 x1 x2, Kept r x2 → ∃ t, execTimeSet x0 x1 x2 = Host.Outcome.next t ∧ Kept r t := by
  intro r x0 x1 x2 k
  refine ⟨_, rfl, ?_⟩
  with_reducible apply State.cmd_kept
  · exact k
  · intro a0
    intro h1
    with_reducible apply State.soon_kept
    · exact h1
    · intro a2
      intro h3
      with_reducible apply State.timeSet_kept
      exact h3

theorem execTunnelTx_kept : ∀ r x0 x1 x2 x3, Kept r x3 → ∃ t, execTunnelTx x0 x1 x2 x3 = Host.Outcome.next t ∧ Kept r t := by
  intro r x0 x1 x2 x3 k
  refine ⟨_, rfl, ?_⟩
  with_reducible apply State.cmd_kept
  · exact k
  · intro a0
    intro h1
    with_reducible apply State.soonData_kept
    · exact h1
    · intro a2
      intro h3
      with_reducible apply State.tunnelTx_kept
      exact h3

theorem execBerthUp_kept : ∀ r x0 x1 x2, Kept r x2 → ∃ t, execBerthUp x0 x1 x2 = Host.Outcome.next t ∧ Kept r t := by
  intro r x0 x1 x2 k
  refine ⟨_, rfl, ?_⟩
  with_reducible apply State.uplink_kept
  exact k

theorem execGuardianOverrun_kept : ∀ r x0 x1 x2, Kept r x2 → ∃ t, execGuardianOverrun x0 x1 x2 = Host.Outcome.next t ∧ Kept r t := by
  intro r x0 x1 x2 k
  refine ⟨_, rfl, ?_⟩
  with_reducible apply State.startIso_kept
  with_reducible apply State.overrun_kept
  exact k

theorem execSailRingReturn_kept : ∀ r x0 x1 x2, Kept r x2 → ∃ t, execSailRingReturn x0 x1 x2 = Host.Outcome.next t ∧ Kept r t := by
  intro r x0 x1 x2 k
  refine ⟨_, rfl, ?_⟩
  with_reducible apply State.sailReturn_kept
  exact k

theorem execHelmSailConflict_kept : ∀ r x0 x1 x2, Kept r x2 → ∃ t, execHelmSailConflict x0 x1 x2 = Host.Outcome.next t ∧ Kept r t := by
  intro r x0 x1 x2 k
  refine ⟨_, rfl, ?_⟩
  with_reducible apply State.sailConflict_kept
  exact k

theorem execAutoJoinBoomOpen_kept : ∀ r x0 x1, Kept r x1 → ∃ t, execAutoJoinBoomOpen x0 x1 = Host.Outcome.next t ∧ Kept r t := by
  intro r x0 x1 k
  refine ⟨_, rfl, ?_⟩
  with_reducible apply State.autoJoin_kept
  exact k

theorem execNodeAbsent_kept : ∀ r x0 x1, Kept r x1 → ∃ t, execNodeAbsent x0 x1 = Host.Outcome.next t ∧ Kept r t := by
  intro r x0 x1 k
  refine ⟨_, rfl, ?_⟩
  with_reducible apply State.nodeAbsent_kept
  exact k

theorem execDownlinkBerthSend_kept : ∀ r x0 x1 x2, Kept r x2 → ∃ t, execDownlinkBerthSend x0 x1 x2 = Host.Outcome.next t ∧ Kept r t := by
  intro r x0 x1 x2 k
  refine ⟨_, rfl, ?_⟩
  with_reducible apply State.berthSend_kept
  exact k

theorem execDynSegmentDownlink_kept : ∀ r x0 x1, Kept r x1 → ∃ t, execDynSegmentDownlink x0 x1 = Host.Outcome.next t ∧ Kept r t := by
  intro r x0 x1 k
  refine ⟨_, rfl, ?_⟩
  with_reducible apply State.dynSend_kept
  exact k

theorem execJoinReq_kept : ∀ r x0 x1 x2, Kept r x2 → ∃ t, execJoinReq x0 x1 x2 = Host.Outcome.next t ∧ Kept r t := by
  intro r x0 x1 x2 k
  refine ⟨_, rfl, ?_⟩
  with_reducible apply State.uplink_kept
  exact k

theorem execDataAck_kept : ∀ r x0 x1 x2, Kept r x2 → ∃ t, execDataAck x0 x1 x2 = Host.Outcome.next t ∧ Kept r t := by
  intro r x0 x1 x2 k
  refine ⟨_, rfl, ?_⟩
  with_reducible apply State.uplink_kept
  exact k

theorem execEchoRsp_kept : ∀ r x0 x1 x2, Kept r x2 → ∃ t, execEchoRsp x0 x1 x2 = Host.Outcome.next t ∧ Kept r t := by
  intro r x0 x1 x2 k
  refine ⟨_, rfl, ?_⟩
  with_reducible apply State.uplink_kept
  exact k

theorem execCartRsp_kept : ∀ r x0 x1 x2, Kept r x2 → ∃ t, execCartRsp x0 x1 x2 = Host.Outcome.next t ∧ Kept r t := by
  intro r x0 x1 x2 k
  refine ⟨_, rfl, ?_⟩
  with_reducible apply State.uplink_kept
  exact k

theorem execNodeInfo_kept : ∀ r x0 x1 x2, Kept r x2 → ∃ t, execNodeInfo x0 x1 x2 = Host.Outcome.next t ∧ Kept r t := by
  intro r x0 x1 x2 k
  refine ⟨_, rfl, ?_⟩
  with_reducible apply State.uplink_kept
  exact k

theorem execTunnelUpFragment_kept : ∀ r x0 x1 x2, Kept r x2 → ∃ t, execTunnelUpFragment x0 x1 x2 = Host.Outcome.next t ∧ Kept r t := by
  intro r x0 x1 x2 k
  refine ⟨_, rfl, ?_⟩
  with_reducible apply State.uplink_kept
  exact k

theorem execTunnelReassemblyTimeout_kept : ∀ r x0 x1, Kept r x1 → ∃ t, execTunnelReassemblyTimeout x0 x1 = Host.Outcome.next t ∧ Kept r t := by
  intro r x0 x1 k
  refine ⟨_, rfl, ?_⟩
  with_reducible apply State.tunnelTimeout_kept
  exact k

theorem execTransferBlockResend_kept : ∀ r x0 x1, Kept r x1 → ∃ t, execTransferBlockResend x0 x1 = Host.Outcome.next t ∧ Kept r t := by
  intro r x0 x1 k
  refine ⟨_, rfl, ?_⟩
  with_reducible apply State.blockResend_kept
  exact k

theorem execEchoSchedule_kept : ∀ r x0 x1, Kept r x1 → ∃ t, execEchoSchedule x0 x1 = Host.Outcome.next t ∧ Kept r t := by
  intro r x0 x1 k
  refine ⟨_, rfl, ?_⟩
  with_reducible apply State.echoSchedule_kept
  exact k

theorem execNetBoomTimeout_kept : ∀ r x0 x1, Kept r x1 → ∃ t, execNetBoomTimeout x0 x1 = Host.Outcome.next t ∧ Kept r t := by
  intro r x0 x1 k
  refine ⟨_, rfl, ?_⟩
  with_reducible apply State.boomTimeout_kept
  exact k

theorem execNodeResetTimeout_kept : ∀ r x0 x1, Kept r x1 → ∃ t, execNodeResetTimeout x0 x1 = Host.Outcome.next t ∧ Kept r t := by
  intro r x0 x1 k
  refine ⟨_, rfl, ?_⟩
  with_reducible apply State.resetTimeout_kept
  exact k

theorem execNodeQueryTimeout_kept : ∀ r x0 x1, Kept r x1 → ∃ t, execNodeQueryTimeout x0 x1 = Host.Outcome.next t ∧ Kept r t := by
  intro r x0 x1 k
  refine ⟨_, rfl, ?_⟩
  with_reducible apply State.queryTimeout_kept
  exact k

theorem execUplinkFrameRejected_kept : ∀ r x0 x1 x2, Kept r x2 → ∃ t, execUplinkFrameRejected x0 x1 x2 = Host.Outcome.next t ∧ Kept r t := by
  intro r x0 x1 x2 k
  refine ⟨_, rfl, ?_⟩
  with_reducible apply State.uplink_kept
  exact k

theorem execPortSyncChange_kept : ∀ r x0 x1 x2 x3, Kept r x3 → ∃ t, execPortSyncChange x0 x1 x2 x3 = Host.Outcome.next t ∧ Kept r t := by
  intro r x0 x1 x2 x3 k
  refine ⟨_, rfl, ?_⟩
  with_reducible apply State.portSync_kept
  exact k

theorem execGrantMiss_kept : ∀ r x0 x1, Kept r x1 → ∃ t, execGrantMiss x0 x1 = Host.Outcome.next t ∧ Kept r t := by
  intro r x0 x1 k
  refine ⟨_, rfl, ?_⟩
  with_reducible apply State.grantMiss_kept
  exact k

theorem execPpsInEdge_kept : ∀ r x0 x1, Kept r x1 → ∃ t, execPpsInEdge x0 x1 = Host.Outcome.next t ∧ Kept r t := by
  intro r x0 x1 k
  refine ⟨_, rfl, ?_⟩
  with_reducible apply State.ppsEdge_kept
  exact k

theorem execPpsOutPulse_kept : ∀ r x0 x1, Kept r x1 → ∃ t, execPpsOutPulse x0 x1 = Host.Outcome.next t ∧ Kept r t := by
  intro r x0 x1 k
  refine ⟨_, rfl, ?_⟩
  with_reducible apply State.ppsOut_kept
  exact k

theorem execPlanPrepare_kept : ∀ r x0 x1 x2, Kept r x2 → ∃ t, execPlanPrepare x0 x1 x2 = Host.Outcome.next t ∧ Kept r t := by
  intro r x0 x1 x2 k
  refine ⟨_, rfl, ?_⟩
  with_reducible apply State.cmd_kept
  · exact k
  · intro a0
    intro h1
    lift_lets
    intro x2
    clear_value x2
    apply Kept.ite
    · with_reducible apply State.atBoundary_kept
      exact h1
    · with_reducible apply State.planPrepare_kept
      exact h1

theorem execPlanCommit_kept : ∀ r x0 x1 x2, Kept r x2 → ∃ t, execPlanCommit x0 x1 x2 = Host.Outcome.next t ∧ Kept r t := by
  intro r x0 x1 x2 k
  refine ⟨_, rfl, ?_⟩
  with_reducible apply State.cmd_kept
  · exact k
  · intro a0
    intro h1
    with_reducible apply State.planCommit_kept
    exact h1

theorem execPlanAbort_kept : ∀ r x0 x1 x2, Kept r x2 → ∃ t, execPlanAbort x0 x1 x2 = Host.Outcome.next t ∧ Kept r t := by
  intro r x0 x1 x2 k
  refine ⟨_, rfl, ?_⟩
  with_reducible apply State.cmd_kept
  · exact k
  · intro a0
    intro h1
    with_reducible apply State.soon_kept
    · exact h1
    · intro a2
      intro h3
      with_reducible apply State.planAbort_kept
      exact h3

theorem execPlanReport_kept : ∀ r x0 x1 x2, Kept r x2 → ∃ t, execPlanReport x0 x1 x2 = Host.Outcome.next t ∧ Kept r t := by
  intro r x0 x1 x2 k
  refine ⟨_, rfl, ?_⟩
  with_reducible apply State.cmd_kept
  · exact k
  · intro a0
    intro h1
    with_reducible apply State.soon_kept
    · exact h1
    · intro a2
      intro h3
      with_reducible apply State.planReport_kept
      exact h3

theorem execPlanLoadReceive_kept : ∀ r x0 x1, Kept r x1 → ∃ t, execPlanLoadReceive x0 x1 = Host.Outcome.next t ∧ Kept r t := by
  intro r x0 x1 k
  refine ⟨_, rfl, ?_⟩
  with_reducible apply State.planLoad_kept
  exact k

theorem execPassStart_kept : ∀ r x0 x1 x2 x3 x4, Kept r x4 → ∃ t, execPassStart x0 x1 x2 x3 x4 = Host.Outcome.next t ∧ Kept r t := by
  intro r x0 x1 x2 x3 x4 k
  refine ⟨_, rfl, ?_⟩
  with_reducible apply State.passStart_kept
  with_reducible apply State.useTailsFor_kept
  exact k

theorem execPassStartMissing_kept : ∀ r x0 x1 x2 x3 x4, Kept r x4 → ∃ t, execPassStartMissing x0 x1 x2 x3 x4 = Host.Outcome.next t ∧ Kept r t := by
  intro r x0 x1 x2 x3 x4 k
  refine ⟨_, rfl, ?_⟩
  with_reducible apply State.passStart_kept
  with_reducible apply State.useTailsFor_kept
  exact k

theorem execPassEnd_kept : ∀ r x0 x1, Kept r x1 → ∃ t, execPassEnd x0 x1 = Host.Outcome.next t ∧ Kept r t := by
  intro r x0 x1 k
  refine ⟨_, rfl, ?_⟩
  with_reducible apply State.passEnd_kept
  exact k

theorem execLaneNop_kept : ∀ r x0 x1 x2, Kept r x2 → ∃ t, execLaneNop x0 x1 x2 = Host.Outcome.next t ∧ Kept r t := by
  intro r x0 x1 x2 k
  refine ⟨_, rfl, ?_⟩
  with_reducible apply State.laneRun_kept
  exact k

theorem execLaneEnd_kept : ∀ r x0 x1 x2, Kept r x2 → ∃ t, execLaneEnd x0 x1 x2 = Host.Outcome.next t ∧ Kept r t := by
  intro r x0 x1 x2 k
  refine ⟨_, rfl, ?_⟩
  with_reducible apply State.laneRun_kept
  exact k

theorem execLaneRep_kept : ∀ r x0 x1 x2, Kept r x2 → ∃ t, execLaneRep x0 x1 x2 = Host.Outcome.next t ∧ Kept r t := by
  intro r x0 x1 x2 k
  refine ⟨_, rfl, ?_⟩
  with_reducible apply State.laneRun_kept
  exact k

theorem execLaneLdk_kept : ∀ r x0 x1 x2, Kept r x2 → ∃ t, execLaneLdk x0 x1 x2 = Host.Outcome.next t ∧ Kept r t := by
  intro r x0 x1 x2 k
  refine ⟨_, rfl, ?_⟩
  with_reducible apply State.laneRun_kept
  exact k

theorem execLaneAgp_kept : ∀ r x0 x1 x2, Kept r x2 → ∃ t, execLaneAgp x0 x1 x2 = Host.Outcome.next t ∧ Kept r t := by
  intro r x0 x1 x2 k
  refine ⟨_, rfl, ?_⟩
  with_reducible apply State.laneRun_kept
  exact k

theorem execLaneAgm_kept : ∀ r x0 x1 x2, Kept r x2 → ∃ t, execLaneAgm x0 x1 x2 = Host.Outcome.next t ∧ Kept r t := by
  intro r x0 x1 x2 k
  refine ⟨_, rfl, ?_⟩
  with_reducible apply State.laneRun_kept
  exact k

theorem execLaneAgl_kept : ∀ r x0 x1 x2, Kept r x2 → ∃ t, execLaneAgl x0 x1 x2 = Host.Outcome.next t ∧ Kept r t := by
  intro r x0 x1 x2 k
  refine ⟨_, rfl, ?_⟩
  with_reducible apply State.laneRun_kept
  exact k

theorem execLaneAgr_kept : ∀ r x0 x1 x2, Kept r x2 → ∃ t, execLaneAgr x0 x1 x2 = Host.Outcome.next t ∧ Kept r t := by
  intro r x0 x1 x2 k
  refine ⟨_, rfl, ?_⟩
  with_reducible apply State.laneRun_kept
  exact k

theorem execLaneAdd_kept : ∀ r x0 x1 x2, Kept r x2 → ∃ t, execLaneAdd x0 x1 x2 = Host.Outcome.next t ∧ Kept r t := by
  intro r x0 x1 x2 k
  refine ⟨_, rfl, ?_⟩
  with_reducible apply State.laneRun_kept
  exact k

theorem execLaneAddc_kept : ∀ r x0 x1 x2, Kept r x2 → ∃ t, execLaneAddc x0 x1 x2 = Host.Outcome.next t ∧ Kept r t := by
  intro r x0 x1 x2 k
  refine ⟨_, rfl, ?_⟩
  with_reducible apply State.laneRun_kept
  exact k

theorem execLaneSub_kept : ∀ r x0 x1 x2, Kept r x2 → ∃ t, execLaneSub x0 x1 x2 = Host.Outcome.next t ∧ Kept r t := by
  intro r x0 x1 x2 k
  refine ⟨_, rfl, ?_⟩
  with_reducible apply State.laneRun_kept
  exact k

theorem execLaneSubc_kept : ∀ r x0 x1 x2, Kept r x2 → ∃ t, execLaneSubc x0 x1 x2 = Host.Outcome.next t ∧ Kept r t := by
  intro r x0 x1 x2 k
  refine ⟨_, rfl, ?_⟩
  with_reducible apply State.laneRun_kept
  exact k

theorem execLaneAdds_kept : ∀ r x0 x1 x2, Kept r x2 → ∃ t, execLaneAdds x0 x1 x2 = Host.Outcome.next t ∧ Kept r t := by
  intro r x0 x1 x2 k
  refine ⟨_, rfl, ?_⟩
  with_reducible apply State.laneRun_kept
  exact k

theorem execLaneSubs_kept : ∀ r x0 x1 x2, Kept r x2 → ∃ t, execLaneSubs x0 x1 x2 = Host.Outcome.next t ∧ Kept r t := by
  intro r x0 x1 x2 k
  refine ⟨_, rfl, ?_⟩
  with_reducible apply State.laneRun_kept
  exact k

theorem execLaneNegs_kept : ∀ r x0 x1 x2, Kept r x2 → ∃ t, execLaneNegs x0 x1 x2 = Host.Outcome.next t ∧ Kept r t := by
  intro r x0 x1 x2 k
  refine ⟨_, rfl, ?_⟩
  with_reducible apply State.laneRun_kept
  exact k

theorem execLaneAbss_kept : ∀ r x0 x1 x2, Kept r x2 → ∃ t, execLaneAbss x0 x1 x2 = Host.Outcome.next t ∧ Kept r t := by
  intro r x0 x1 x2 k
  refine ⟨_, rfl, ?_⟩
  with_reducible apply State.laneRun_kept
  exact k

theorem execLaneMin_kept : ∀ r x0 x1 x2, Kept r x2 → ∃ t, execLaneMin x0 x1 x2 = Host.Outcome.next t ∧ Kept r t := by
  intro r x0 x1 x2 k
  refine ⟨_, rfl, ?_⟩
  with_reducible apply State.laneRun_kept
  exact k

theorem execLaneMax_kept : ∀ r x0 x1 x2, Kept r x2 → ∃ t, execLaneMax x0 x1 x2 = Host.Outcome.next t ∧ Kept r t := by
  intro r x0 x1 x2 k
  refine ⟨_, rfl, ?_⟩
  with_reducible apply State.laneRun_kept
  exact k

theorem execLaneClamp_kept : ∀ r x0 x1 x2, Kept r x2 → ∃ t, execLaneClamp x0 x1 x2 = Host.Outcome.next t ∧ Kept r t := by
  intro r x0 x1 x2 k
  refine ⟨_, rfl, ?_⟩
  with_reducible apply State.laneRun_kept
  exact k

theorem execLaneClamp2_kept : ∀ r x0 x1 x2, Kept r x2 → ∃ t, execLaneClamp2 x0 x1 x2 = Host.Outcome.next t ∧ Kept r t := by
  intro r x0 x1 x2 k
  refine ⟨_, rfl, ?_⟩
  with_reducible apply State.laneRun_kept
  exact k

theorem execLaneSel_kept : ∀ r x0 x1 x2, Kept r x2 → ∃ t, execLaneSel x0 x1 x2 = Host.Outcome.next t ∧ Kept r t := by
  intro r x0 x1 x2 k
  refine ⟨_, rfl, ?_⟩
  with_reducible apply State.laneRun_kept
  exact k

theorem execLaneBlend_kept : ∀ r x0 x1 x2, Kept r x2 → ∃ t, execLaneBlend x0 x1 x2 = Host.Outcome.next t ∧ Kept r t := by
  intro r x0 x1 x2 k
  refine ⟨_, rfl, ?_⟩
  with_reducible apply State.laneRun_kept
  exact k

theorem execLaneAsl_kept : ∀ r x0 x1 x2, Kept r x2 → ∃ t, execLaneAsl x0 x1 x2 = Host.Outcome.next t ∧ Kept r t := by
  intro r x0 x1 x2 k
  refine ⟨_, rfl, ?_⟩
  with_reducible apply State.laneRun_kept
  exact k

theorem execLaneAsr_kept : ∀ r x0 x1 x2, Kept r x2 → ∃ t, execLaneAsr x0 x1 x2 = Host.Outcome.next t ∧ Kept r t := by
  intro r x0 x1 x2 k
  refine ⟨_, rfl, ?_⟩
  with_reducible apply State.laneRun_kept
  exact k

theorem execLaneLsr_kept : ∀ r x0 x1 x2, Kept r x2 → ∃ t, execLaneLsr x0 x1 x2 = Host.Outcome.next t ∧ Kept r t := by
  intro r x0 x1 x2 k
  refine ⟨_, rfl, ?_⟩
  with_reducible apply State.laneRun_kept
  exact k

theorem execLaneAnd_kept : ∀ r x0 x1 x2, Kept r x2 → ∃ t, execLaneAnd x0 x1 x2 = Host.Outcome.next t ∧ Kept r t := by
  intro r x0 x1 x2 k
  refine ⟨_, rfl, ?_⟩
  with_reducible apply State.laneRun_kept
  exact k

theorem execLaneOr_kept : ∀ r x0 x1 x2, Kept r x2 → ∃ t, execLaneOr x0 x1 x2 = Host.Outcome.next t ∧ Kept r t := by
  intro r x0 x1 x2 k
  refine ⟨_, rfl, ?_⟩
  with_reducible apply State.laneRun_kept
  exact k

theorem execLaneXor_kept : ∀ r x0 x1 x2, Kept r x2 → ∃ t, execLaneXor x0 x1 x2 = Host.Outcome.next t ∧ Kept r t := by
  intro r x0 x1 x2 k
  refine ⟨_, rfl, ?_⟩
  with_reducible apply State.laneRun_kept
  exact k

theorem execLaneFlagc_kept : ∀ r x0 x1 x2, Kept r x2 → ∃ t, execLaneFlagc x0 x1 x2 = Host.Outcome.next t ∧ Kept r t := by
  intro r x0 x1 x2 k
  refine ⟨_, rfl, ?_⟩
  with_reducible apply State.laneRun_kept
  exact k

theorem execLaneLdix_kept : ∀ r x0 x1 x2, Kept r x2 → ∃ t, execLaneLdix x0 x1 x2 = Host.Outcome.next t ∧ Kept r t := by
  intro r x0 x1 x2 k
  refine ⟨_, rfl, ?_⟩
  with_reducible apply State.laneRun_kept
  exact k

theorem execLaneMpy_kept : ∀ r x0 x1 x2, Kept r x2 → ∃ t, execLaneMpy x0 x1 x2 = Host.Outcome.next t ∧ Kept r t := by
  intro r x0 x1 x2 k
  refine ⟨_, rfl, ?_⟩
  with_reducible apply State.laneRun_kept
  exact k

theorem execLaneMac_kept : ∀ r x0 x1 x2, Kept r x2 → ∃ t, execLaneMac x0 x1 x2 = Host.Outcome.next t ∧ Kept r t := by
  intro r x0 x1 x2 k
  refine ⟨_, rfl, ?_⟩
  with_reducible apply State.laneRun_kept
  exact k

theorem execLaneMsu_kept : ∀ r x0 x1 x2, Kept r x2 → ∃ t, execLaneMsu x0 x1 x2 = Host.Outcome.next t ∧ Kept r t := by
  intro r x0 x1 x2 k
  refine ⟨_, rfl, ?_⟩
  with_reducible apply State.laneRun_kept
  exact k

theorem execLaneDmpy_kept : ∀ r x0 x1 x2, Kept r x2 → ∃ t, execLaneDmpy x0 x1 x2 = Host.Outcome.next t ∧ Kept r t := by
  intro r x0 x1 x2 k
  refine ⟨_, rfl, ?_⟩
  with_reducible apply State.laneRun_kept
  exact k

theorem execLaneDmac_kept : ∀ r x0 x1 x2, Kept r x2 → ∃ t, execLaneDmac x0 x1 x2 = Host.Outcome.next t ∧ Kept r t := by
  intro r x0 x1 x2 k
  refine ⟨_, rfl, ?_⟩
  with_reducible apply State.laneRun_kept
  exact k

theorem execLaneFtap_kept : ∀ r x0 x1 x2, Kept r x2 → ∃ t, execLaneFtap x0 x1 x2 = Host.Outcome.next t ∧ Kept r t := by
  intro r x0 x1 x2 k
  refine ⟨_, rfl, ?_⟩
  with_reducible apply State.laneRun_kept
  exact k

theorem execLaneLda_kept : ∀ r x0 x1 x2, Kept r x2 → ∃ t, execLaneLda x0 x1 x2 = Host.Outcome.next t ∧ Kept r t := by
  intro r x0 x1 x2 k
  refine ⟨_, rfl, ?_⟩
  with_reducible apply State.laneRun_kept
  exact k

theorem execLaneSta_kept : ∀ r x0 x1 x2, Kept r x2 → ∃ t, execLaneSta x0 x1 x2 = Host.Outcome.next t ∧ Kept r t := by
  intro r x0 x1 x2 k
  refine ⟨_, rfl, ?_⟩
  with_reducible apply State.laneRun_kept
  exact k

theorem execLaneAclr_kept : ∀ r x0 x1 x2, Kept r x2 → ∃ t, execLaneAclr x0 x1 x2 = Host.Outcome.next t ∧ Kept r t := by
  intro r x0 x1 x2 k
  refine ⟨_, rfl, ?_⟩
  with_reducible apply State.laneRun_kept
  exact k

theorem execLaneAadd_kept : ∀ r x0 x1 x2, Kept r x2 → ∃ t, execLaneAadd x0 x1 x2 = Host.Outcome.next t ∧ Kept r t := by
  intro r x0 x1 x2 k
  refine ⟨_, rfl, ?_⟩
  with_reducible apply State.laneRun_kept
  exact k

theorem execLaneLrd_kept : ∀ r x0 x1 x2, Kept r x2 → ∃ t, execLaneLrd x0 x1 x2 = Host.Outcome.next t ∧ Kept r t := by
  intro r x0 x1 x2 k
  refine ⟨_, rfl, ?_⟩
  with_reducible apply State.laneRun_kept
  exact k

theorem execLaneLwr_kept : ∀ r x0 x1 x2, Kept r x2 → ∃ t, execLaneLwr x0 x1 x2 = Host.Outcome.next t ∧ Kept r t := by
  intro r x0 x1 x2 k
  refine ⟨_, rfl, ?_⟩
  with_reducible apply State.laneRun_kept
  exact k

theorem execLaneLife_kept : ∀ r x0 x1 x2, Kept r x2 → ∃ t, execLaneLife x0 x1 x2 = Host.Outcome.next t ∧ Kept r t := by
  intro r x0 x1 x2 k
  refine ⟨_, rfl, ?_⟩
  with_reducible apply State.laneRun_kept
  exact k

theorem execAxisSetMode_kept : ∀ r x0 x1 x2, Kept r x2 → ∃ t, execAxisSetMode x0 x1 x2 = Host.Outcome.next t ∧ Kept r t := by
  intro r x0 x1 x2 k
  refine ⟨_, rfl, ?_⟩
  with_reducible apply State.axisSetMode_kept
  exact k

theorem execAxisParamWrite_kept : ∀ r x0 x1 x2, Kept r x2 → ∃ t, execAxisParamWrite x0 x1 x2 = Host.Outcome.next t ∧ Kept r t := by
  intro r x0 x1 x2 k
  refine ⟨_, rfl, ?_⟩
  with_reducible apply State.axisParamWrite_kept
  exact k

theorem execAxisParamRead_kept : ∀ r x0 x1 x2, Kept r x2 → ∃ t, execAxisParamRead x0 x1 x2 = Host.Outcome.next t ∧ Kept r t := by
  intro r x0 x1 x2 k
  refine ⟨_, rfl, ?_⟩
  with_reducible apply State.axisParamRead_kept
  exact k

theorem execAxisAdaptLock_kept : ∀ r x0 x1 x2, Kept r x2 → ∃ t, execAxisAdaptLock x0 x1 x2 = Host.Outcome.next t ∧ Kept r t := by
  intro r x0 x1 x2 k
  refine ⟨_, rfl, ?_⟩
  with_reducible apply State.axisAdaptLock_kept
  exact k

theorem execAxisLearnReset_kept : ∀ r x0 x1 x2, Kept r x2 → ∃ t, execAxisLearnReset x0 x1 x2 = Host.Outcome.next t ∧ Kept r t := by
  intro r x0 x1 x2 k
  refine ⟨_, rfl, ?_⟩
  with_reducible apply State.axisLearnReset_kept
  exact k

theorem execAxisInject_kept : ∀ r x0 x1 x2, Kept r x2 → ∃ t, execAxisInject x0 x1 x2 = Host.Outcome.next t ∧ Kept r t := by
  intro r x0 x1 x2 k
  refine ⟨_, rfl, ?_⟩
  with_reducible apply State.axisInject_kept
  exact k

theorem execAxisClearFault_kept : ∀ r x0 x1 x2, Kept r x2 → ∃ t, execAxisClearFault x0 x1 x2 = Host.Outcome.next t ∧ Kept r t := by
  intro r x0 x1 x2 k
  refine ⟨_, rfl, ?_⟩
  with_reducible apply State.axisClearFault_kept
  exact k

theorem execIdBlock_kept : ∀ r x0 x1, Kept r x1 → ∃ t, execIdBlock x0 x1 = Host.Outcome.next t ∧ Kept r t := by
  intro r x0 x1 k
  refine ⟨_, rfl, ?_⟩
  with_reducible apply State.idBlock_kept
  exact k

theorem execFreezeDetect_kept : ∀ r x0 x1, Kept r x1 → ∃ t, execFreezeDetect x0 x1 = Host.Outcome.next t ∧ Kept r t := by
  intro r x0 x1 k
  refine ⟨_, rfl, ?_⟩
  with_reducible apply State.freezeDetect_kept
  exact k

theorem execFeedbackRecovery_kept : ∀ r x0 x1, Kept r x1 → ∃ t, execFeedbackRecovery x0 x1 = Host.Outcome.next t ∧ Kept r t := by
  intro r x0 x1 k
  refine ⟨_, rfl, ?_⟩
  with_reducible apply State.fbRecover_kept
  exact k

theorem execFeedbackPersistLatch_kept : ∀ r x0 x1, Kept r x1 → ∃ t, execFeedbackPersistLatch x0 x1 = Host.Outcome.next t ∧ Kept r t := by
  intro r x0 x1 k
  refine ⟨_, rfl, ?_⟩
  with_reducible apply State.fbPersist_kept
  exact k

theorem execCatchTmoExpiry_kept : ∀ r x0 x1, Kept r x1 → ∃ t, execCatchTmoExpiry x0 x1 = Host.Outcome.next t ∧ Kept r t := by
  intro r x0 x1 k
  refine ⟨_, rfl, ?_⟩
  with_reducible apply State.catchTmo_kept
  exact k

theorem execObsRelockExpiry_kept : ∀ r x0 x1, Kept r x1 → ∃ t, execObsRelockExpiry x0 x1 = Host.Outcome.next t ∧ Kept r t := by
  intro r x0 x1 k
  refine ⟨_, rfl, ?_⟩
  with_reducible apply State.relockTmo_kept
  exact k

theorem execTqRampComplete_kept : ∀ r x0 x1, Kept r x1 → ∃ t, execTqRampComplete x0 x1 = Host.Outcome.next t ∧ Kept r t := by
  intro r x0 x1 k
  refine ⟨_, rfl, ?_⟩
  with_reducible apply State.tqRampDone_kept
  exact k

theorem execLedgerCompute_kept : ∀ r x0 x1, Kept r x1 → ∃ t, execLedgerCompute x0 x1 = Host.Outcome.next t ∧ Kept r t := by
  intro r x0 x1 k
  refine ⟨_, rfl, ?_⟩
  with_reducible apply State.ledgerCompute_kept
  exact k

theorem execAxPvalLoWrite_kept : ∀ r x0 x1 x2, Kept r x2 → ∃ t, execAxPvalLoWrite x0 x1 x2 = Host.Outcome.next t ∧ Kept r t := by
  intro r x0 x1 x2 k
  refine ⟨_, rfl, ?_⟩
  with_reducible apply State.pvalWrite_kept
  exact k

theorem execAxPvalHiWrite_kept : ∀ r x0 x1 x2, Kept r x2 → ∃ t, execAxPvalHiWrite x0 x1 x2 = Host.Outcome.next t ∧ Kept r t := by
  intro r x0 x1 x2 k
  refine ⟨_, rfl, ?_⟩
  with_reducible apply State.pvalHold_kept
  exact k

theorem execFltTrip_kept : ∀ r x0 x1, Kept r x1 → ∃ t, execFltTrip x0 x1 = Host.Outcome.next t ∧ Kept r t := by
  intro r x0 x1 k
  refine ⟨_, rfl, ?_⟩
  with_reducible apply State.fltTrip_kept
  exact k

theorem execLocalFltLatchClear_kept : ∀ r x0 x1 x2, Kept r x2 → ∃ t, execLocalFltLatchClear x0 x1 x2 = Host.Outcome.next t ∧ Kept r t := by
  intro r x0 x1 x2 k
  refine ⟨_, rfl, ?_⟩
  with_reducible apply State.latchClear_kept
  exact k

theorem execAdcTrigger_kept : ∀ r x0 x1 x2 x3, Kept r x3 → ∃ t, execAdcTrigger x0 x1 x2 x3 = Host.Outcome.next t ∧ Kept r t := by
  intro r x0 x1 x2 x3 k
  refine ⟨_, rfl, ?_⟩
  with_reducible apply State.adcTrigger_kept
  with_reducible apply State.at__kept
  exact k

theorem execAdcConversionDone_kept : ∀ r x0 x1 x2 x3 x4, Kept r x4 → ∃ t, execAdcConversionDone x0 x1 x2 x3 x4 = Host.Outcome.next t ∧ Kept r t := by
  intro r x0 x1 x2 x3 x4 k
  refine ⟨_, rfl, ?_⟩
  with_reducible apply State.adcDone_kept
  exact k

theorem execAdcScanConversion_kept : ∀ r x0 x1 x2, Kept r x2 → ∃ t, execAdcScanConversion x0 x1 x2 = Host.Outcome.next t ∧ Kept r t := by
  intro r x0 x1 x2 k
  refine ⟨_, rfl, ?_⟩
  with_reducible apply State.adcScan_kept
  exact k

theorem execSsiBurst_kept : ∀ r x0 x1 x2, Kept r x2 → ∃ t, execSsiBurst x0 x1 x2 = Host.Outcome.next t ∧ Kept r t := by
  intro r x0 x1 x2 k
  refine ⟨_, rfl, ?_⟩
  with_reducible apply State.ssiBurst_kept
  exact k

theorem execPwmUpdatePoint_kept : ∀ r x0 x1 x2, Kept r x2 → ∃ t, execPwmUpdatePoint x0 x1 x2 = Host.Outcome.next t ∧ Kept r t := by
  intro r x0 x1 x2 k
  refine ⟨_, rfl, ?_⟩
  with_reducible apply State.updatePoint_kept
  with_reducible apply State.at__kept
  exact k

theorem execStepPulse_kept : ∀ r x0 x1 x2, Kept r x2 → ∃ t, execStepPulse x0 x1 x2 = Host.Outcome.next t ∧ Kept r t := by
  intro r x0 x1 x2 k
  refine ⟨_, rfl, ?_⟩
  with_reducible apply State.stepPulse_kept
  with_reducible apply State.at__kept
  exact k

theorem execEmuEdge_kept : ∀ r x0 x1 x2, Kept r x2 → ∃ t, execEmuEdge x0 x1 x2 = Host.Outcome.next t ∧ Kept r t := by
  intro r x0 x1 x2 k
  refine ⟨_, rfl, ?_⟩
  with_reducible apply State.emuEdge_kept
  with_reducible apply State.at__kept
  exact k

theorem execRefInputLoss_kept : ∀ r x0 x1, Kept r x1 → ∃ t, execRefInputLoss x0 x1 = Host.Outcome.next t ∧ Kept r t := by
  intro r x0 x1 k
  refine ⟨_, rfl, ?_⟩
  with_reducible apply State.refLoss_kept
  exact k

theorem execRefLostClear_kept : ∀ r x0 x1, Kept r x1 → ∃ t, execRefLostClear x0 x1 = Host.Outcome.next t ∧ Kept r t := by
  intro r x0 x1 k
  refine ⟨_, rfl, ?_⟩
  with_reducible apply State.refClear_kept
  exact k

theorem execLocalFeedbackEdge_kept : ∀ r x0 x1 x2 x3, Kept r x3 → ∃ t, execLocalFeedbackEdge x0 x1 x2 x3 = Host.Outcome.next t ∧ Kept r t := by
  intro r x0 x1 x2 x3 k
  refine ⟨_, rfl, ?_⟩
  with_reducible apply State.feedbackEdge_kept
  with_reducible apply State.at__kept
  exact k

theorem execProbePulseEnd_kept : ∀ r x0 x1 x2 x3 x4, Kept r x4 → ∃ t, execProbePulseEnd x0 x1 x2 x3 x4 = Host.Outcome.next t ∧ Kept r t := by
  intro r x0 x1 x2 x3 x4 k
  refine ⟨_, rfl, ?_⟩
  with_reducible apply State.probeEnd_kept
  with_reducible apply State.at__kept
  exact k

theorem execMoveSeg_kept : ∀ r x0 x1 x2, Kept r x2 → ∃ t, execMoveSeg x0 x1 x2 = Host.Outcome.next t ∧ Kept r t := by
  intro r x0 x1 x2 k
  refine ⟨_, rfl, ?_⟩
  with_reducible apply State.moveSeg_kept
  exact k

theorem execMoveStartGroup_kept : ∀ r x0 x1 x2, Kept r x2 → ∃ t, execMoveStartGroup x0 x1 x2 = Host.Outcome.next t ∧ Kept r t := by
  intro r x0 x1 x2 k
  refine ⟨_, rfl, ?_⟩
  with_reducible apply State.moveStartGroup_kept
  exact k

theorem execMoveStop_kept : ∀ r x0 x1 x2, Kept r x2 → ∃ t, execMoveStop x0 x1 x2 = Host.Outcome.next t ∧ Kept r t := by
  intro r x0 x1 x2 k
  refine ⟨_, rfl, ?_⟩
  with_reducible apply State.moveStop_kept
  exact k

theorem execMoveResume_kept : ∀ r x0 x1 x2, Kept r x2 → ∃ t, execMoveResume x0 x1 x2 = Host.Outcome.next t ∧ Kept r t := by
  intro r x0 x1 x2 k
  refine ⟨_, rfl, ?_⟩
  with_reducible apply State.moveResume_kept
  exact k

theorem execHomeStart_kept : ∀ r x0 x1 x2, Kept r x2 → ∃ t, execHomeStart x0 x1 x2 = Host.Outcome.next t ∧ Kept r t := by
  intro r x0 x1 x2 k
  refine ⟨_, rfl, ?_⟩
  with_reducible apply State.homeStart_kept
  exact k

theorem execGroupSet_kept : ∀ r x0 x1 x2, Kept r x2 → ∃ t, execGroupSet x0 x1 x2 = Host.Outcome.next t ∧ Kept r t := by
  intro r x0 x1 x2 k
  refine ⟨_, rfl, ?_⟩
  with_reducible apply State.groupSet_kept
  exact k

theorem execGroupStart_kept : ∀ r x0 x1, Kept r x1 → ∃ t, execGroupStart x0 x1 = Host.Outcome.next t ∧ Kept r t := by
  intro r x0 x1 k
  refine ⟨_, rfl, ?_⟩
  with_reducible apply State.groupStart_kept
  exact k

theorem execLimitRawEdge_kept : ∀ r x0 x1 x2 x3 x4, Kept r x4 → ∃ t, execLimitRawEdge x0 x1 x2 x3 x4 = Host.Outcome.next t ∧ Kept r t := by
  intro r x0 x1 x2 x3 x4 k
  refine ⟨_, rfl, ?_⟩
  with_reducible apply State.rawEdge_kept
  with_reducible apply State.at__kept
  exact k

theorem execLimitDebounce_kept : ∀ r x0 x1 x2, Kept r x2 → ∃ t, execLimitDebounce x0 x1 x2 = Host.Outcome.next t ∧ Kept r t := by
  intro r x0 x1 x2 k
  refine ⟨_, rfl, ?_⟩
  with_reducible apply State.debounce_kept
  exact k

theorem execHomeStallDetect_kept : ∀ r x0 x1, Kept r x1 → ∃ t, execHomeStallDetect x0 x1 = Host.Outcome.next t ∧ Kept r t := by
  intro r x0 x1 k
  refine ⟨_, rfl, ?_⟩
  with_reducible apply State.homeStall_kept
  exact k

theorem execCartAuth_kept : ∀ r x0 x1 x2, Kept r x2 → ∃ t, execCartAuth x0 x1 x2 = Host.Outcome.next t ∧ Kept r t := by
  intro r x0 x1 x2 k
  refine ⟨_, rfl, ?_⟩
  with_reducible apply State.cmd_kept
  · exact k
  · intro a0
    intro h1
    with_reducible apply State.cartAuth_kept
    exact h1

theorem execCartRead_kept : ∀ r x0 x1 x2, Kept r x2 → ∃ t, execCartRead x0 x1 x2 = Host.Outcome.next t ∧ Kept r t := by
  intro r x0 x1 x2 k
  refine ⟨_, rfl, ?_⟩
  with_reducible apply State.cmd_kept
  · exact k
  · intro a0
    intro h1
    with_reducible apply State.cartRead_kept
    exact h1

theorem execCartWrite_kept : ∀ r x0 x1 x2 x3, Kept r x3 → ∃ t, execCartWrite x0 x1 x2 x3 = Host.Outcome.next t ∧ Kept r t := by
  intro r x0 x1 x2 x3 k
  refine ⟨_, rfl, ?_⟩
  with_reducible apply State.cmd_kept
  · exact k
  · intro a0
    intro h1
    cases x2
    · try dsimp -zeta only
      with_reducible apply State.complete_kept
      exact h1
    · try dsimp -zeta only
      with_reducible apply State.cartWrite_kept
      exact h1

theorem execCartPolicy_kept : ∀ r x0 x1 x2 x3, Kept r x3 → ∃ t, execCartPolicy x0 x1 x2 x3 = Host.Outcome.next t ∧ Kept r t := by
  intro r x0 x1 x2 x3 k
  refine ⟨_, rfl, ?_⟩
  with_reducible apply State.cmd_kept
  · exact k
  · intro a0
    intro h1
    cases x2
    · try dsimp -zeta only
      with_reducible apply State.complete_kept
      exact h1
    · try dsimp -zeta only
      apply Kept.ite
      · with_reducible apply State.atBoundary_kept
        exact h1
      · with_reducible apply State.complete_kept
        exact h1

theorem execCartFlush_kept : ∀ r x0 x1 x2, Kept r x2 → ∃ t, execCartFlush x0 x1 x2 = Host.Outcome.next t ∧ Kept r t := by
  intro r x0 x1 x2 k
  refine ⟨_, rfl, ?_⟩
  with_reducible apply State.cmd_kept
  · exact k
  · intro a0
    intro h1
    with_reducible apply State.cartFlush_kept
    exact h1

theorem execTagResponse_kept : ∀ r x0 x1 x2, Kept r x2 → ∃ t, execTagResponse x0 x1 x2 = Host.Outcome.next t ∧ Kept r t := by
  intro r x0 x1 x2 k
  refine ⟨_, rfl, ?_⟩
  with_reducible apply State.tagResponse_kept
  exact k

theorem execTagTimeout_kept : ∀ r x0 x1, Kept r x1 → ∃ t, execTagTimeout x0 x1 = Host.Outcome.next t ∧ Kept r t := by
  intro r x0 x1 k
  refine ⟨_, rfl, ?_⟩
  with_reducible apply State.tagTimeout_kept
  exact k

theorem execTagPresenceChange_kept : ∀ r x0 x1 x2, Kept r x2 → ∃ t, execTagPresenceChange x0 x1 x2 = Host.Outcome.next t ∧ Kept r t := by
  intro r x0 x1 x2 k
  refine ⟨_, rfl, ?_⟩
  apply Kept.ite
  · with_reducible apply State.tagPresence_kept
    exact k
  · exact k

theorem execRemovalWarning_kept : ∀ r x0 x1, Kept r x1 → ∃ t, execRemovalWarning x0 x1 = Host.Outcome.next t ∧ Kept r t := by
  intro r x0 x1 k
  refine ⟨_, rfl, ?_⟩
  with_reducible apply State.removalWarning_kept
  exact k

theorem execWritebackScheduled_kept : ∀ r x0 x1, Kept r x1 → ∃ t, execWritebackScheduled x0 x1 = Host.Outcome.next t ∧ Kept r t := by
  intro r x0 x1 k
  refine ⟨_, rfl, ?_⟩
  with_reducible apply State.wbScheduled_kept
  exact k

theorem execSafeConfigLoad_kept : ∀ r x0 x1 x2 x3, Kept r x3 → ∃ t, execSafeConfigLoad x0 x1 x2 x3 = Host.Outcome.next t ∧ Kept r t := by
  intro r x0 x1 x2 x3 k
  refine ⟨_, rfl, ?_⟩
  with_reducible apply State.cmd_kept
  · exact k
  · intro a0
    intro h1
    cases x2
    · try dsimp -zeta only
      with_reducible apply State.complete_kept
      exact h1
    · try dsimp -zeta only
      with_reducible apply State.soon_kept
      · exact h1
      · intro a3
        intro h4
        with_reducible apply State.safeLoad_kept
        exact h4

theorem execSafeStatus_kept : ∀ r x0 x1 x2, Kept r x2 → ∃ t, execSafeStatus x0 x1 x2 = Host.Outcome.next t ∧ Kept r t := by
  intro r x0 x1 x2 k
  refine ⟨_, rfl, ?_⟩
  with_reducible apply State.cmd_kept
  · exact k
  · intro a0
    intro h1
    with_reducible apply State.soon_kept
    · exact h1
    · intro a2
      intro h3
      with_reducible apply State.safeStatus_kept
      exact h3

theorem execSafetyCycleStart_kept : ∀ r x0 x1 x2 x3, Kept r x3 → ∃ t, execSafetyCycleStart x0 x1 x2 x3 = Host.Outcome.next t ∧ Kept r t := by
  intro r x0 x1 x2 x3 k
  refine ⟨_, rfl, ?_⟩
  with_reducible apply State.safetyCycle_kept
  exact k

theorem execSafetyInputFilterChange_kept : ∀ r x0 x1 x2 x3, Kept r x3 → ∃ t, execSafetyInputFilterChange x0 x1 x2 x3 = Host.Outcome.next t ∧ Kept r t := by
  intro r x0 x1 x2 x3 k
  refine ⟨_, rfl, ?_⟩
  with_reducible apply State.inputFilter_kept
  exact k

theorem execTestPulse_kept : ∀ r x0 x1 x2 x3, Kept r x3 → ∃ t, execTestPulse x0 x1 x2 x3 = Host.Outcome.next t ∧ Kept r t := by
  intro r x0 x1 x2 x3 k
  refine ⟨_, rfl, ?_⟩
  with_reducible apply State.testPulse_kept
  exact k

theorem execDiscrepancyTimeout_kept : ∀ r x0 x1 x2, Kept r x2 → ∃ t, execDiscrepancyTimeout x0 x1 x2 = Host.Outcome.next t ∧ Kept r t := by
  intro r x0 x1 x2 k
  refine ⟨_, rfl, ?_⟩
  with_reducible apply State.discrepancy_kept
  exact k

theorem execAckAccept_kept : ∀ r x0 x1, Kept r x1 → ∃ t, execAckAccept x0 x1 = Host.Outcome.next t ∧ Kept r t := by
  intro r x0 x1 k
  refine ⟨_, rfl, ?_⟩
  with_reducible apply State.ackAccept_kept
  exact k

theorem execAckStuck_kept : ∀ r x0 x1, Kept r x1 → ∃ t, execAckStuck x0 x1 = Host.Outcome.next t ∧ Kept r t := by
  intro r x0 x1 k
  refine ⟨_, rfl, ?_⟩
  with_reducible apply State.ackStuckAt_kept
  exact k

theorem execAckSplit_kept : ∀ r x0 x1, Kept r x1 → ∃ t, execAckSplit x0 x1 = Host.Outcome.next t ∧ Kept r t := by
  intro r x0 x1 k
  refine ⟨_, rfl, ?_⟩
  with_reducible apply State.ackSplit_kept
  exact k

theorem execSs1DelayExpiry_kept : ∀ r x0 x1 x2, Kept r x2 → ∃ t, execSs1DelayExpiry x0 x1 x2 = Host.Outcome.next t ∧ Kept r t := by
  intro r x0 x1 x2 k
  refine ⟨_, rfl, ?_⟩
  with_reducible apply State.ss1Expiry_kept
  exact k

theorem execReadbackTimeout_kept : ∀ r x0 x1 x2, Kept r x2 → ∃ t, execReadbackTimeout x0 x1 x2 = Host.Outcome.next t ∧ Kept r t := by
  intro r x0 x1 x2 k
  refine ⟨_, rfl, ?_⟩
  with_reducible apply State.outFail_kept
  exact k

theorem execDarkTest_kept : ∀ r x0 x1 x2 x3, Kept r x3 → ∃ t, execDarkTest x0 x1 x2 x3 = Host.Outcome.next t ∧ Kept r t := by
  intro r x0 x1 x2 x3 k
  refine ⟨_, rfl, ?_⟩
  with_reducible apply State.darkTest_kept
  exact k

theorem execSafetySelftestDone_kept : ∀ r x0 x1 x2, Kept r x2 → ∃ t, execSafetySelftestDone x0 x1 x2 = Host.Outcome.next t ∧ Kept r t := by
  intro r x0 x1 x2 k
  refine ⟨_, rfl, ?_⟩
  with_reducible apply State.selftestDone_kept
  exact k

theorem execStoReportCheck_kept : ∀ r x0 x1, Kept r x1 → ∃ t, execStoReportCheck x0 x1 = Host.Outcome.next t ∧ Kept r t := by
  intro r x0 x1 k
  refine ⟨_, rfl, ?_⟩
  with_reducible apply State.stoCheck_kept
  exact k

theorem execSafetyInternalFault_kept : ∀ r x0 x1 x2, Kept r x2 → ∃ t, execSafetyInternalFault x0 x1 x2 = Host.Outcome.next t ∧ Kept r t := by
  intro r x0 x1 x2 k
  refine ⟨_, rfl, ?_⟩
  with_reducible apply State.safeFault_kept
  exact k

theorem execLogConfig_kept : ∀ r x0 x1 x2 x3, Kept r x3 → ∃ t, execLogConfig x0 x1 x2 x3 = Host.Outcome.next t ∧ Kept r t := by
  intro r x0 x1 x2 x3 k
  refine ⟨_, rfl, ?_⟩
  with_reducible apply State.cmd_kept
  · exact k
  · intro a0
    intro h1
    cases x2
    · try dsimp -zeta only
      with_reducible apply State.complete_kept
      exact h1
    · try dsimp -zeta only
      with_reducible apply State.logConfig_kept
      exact h1

theorem execLogStart_kept : ∀ r x0 x1 x2, Kept r x2 → ∃ t, execLogStart x0 x1 x2 = Host.Outcome.next t ∧ Kept r t := by
  intro r x0 x1 x2 k
  refine ⟨_, rfl, ?_⟩
  with_reducible apply State.cmd_kept
  · exact k
  · intro a0
    intro h1
    apply Kept.ite
    · with_reducible apply State.complete_kept
      exact h1
    · with_reducible apply State.atBoundary_kept
      exact h1

theorem execLogStop_kept : ∀ r x0 x1 x2, Kept r x2 → ∃ t, execLogStop x0 x1 x2 = Host.Outcome.next t ∧ Kept r t := by
  intro r x0 x1 x2 k
  refine ⟨_, rfl, ?_⟩
  with_reducible apply State.cmd_kept
  · exact k
  · intro a0
    intro h1
    apply Kept.ite
    · with_reducible apply State.complete_kept
      exact h1
    · with_reducible apply State.atBoundary_kept
      exact h1

theorem execLogMaskLoad_kept : ∀ r x0 x1 x2 x3, Kept r x3 → ∃ t, execLogMaskLoad x0 x1 x2 x3 = Host.Outcome.next t ∧ Kept r t := by
  intro r x0 x1 x2 x3 k
  refine ⟨_, rfl, ?_⟩
  with_reducible apply State.cmd_kept
  · exact k
  · intro a0
    intro h1
    cases x2
    · try dsimp -zeta only
      with_reducible apply State.complete_kept
      exact h1
    · try dsimp -zeta only
      with_reducible apply State.logMaskLoad_kept
      exact h1

theorem execLogTrigger_kept : ∀ r x0 x1 x2, Kept r x2 → ∃ t, execLogTrigger x0 x1 x2 = Host.Outcome.next t ∧ Kept r t := by
  intro r x0 x1 x2 k
  refine ⟨_, rfl, ?_⟩
  with_reducible apply State.cmd_kept
  · exact k
  · intro a0
    intro h1
    with_reducible apply State.soon_kept
    · exact h1
    · intro a2
      intro h3
      with_reducible apply State.logTrigger_kept
      exact h3

theorem execSoundFire_kept : ∀ r x0 x1 x2, Kept r x2 → ∃ t, execSoundFire x0 x1 x2 = Host.Outcome.next t ∧ Kept r t := by
  intro r x0 x1 x2 k
  refine ⟨_, rfl, ?_⟩
  with_reducible apply State.cmd_kept
  · exact k
  · intro a0
    intro h1
    with_reducible apply State.soon_kept
    · exact h1
    · intro a2
      intro h3
      with_reducible apply State.soundFire_kept
      exact h3

theorem execSnapDump_kept : ∀ r x0 x1 x2, Kept r x2 → ∃ t, execSnapDump x0 x1 x2 = Host.Outcome.next t ∧ Kept r t := by
  intro r x0 x1 x2 k
  refine ⟨_, rfl, ?_⟩
  with_reducible apply State.cmd_kept
  · exact k
  · intro a0
    intro h1
    with_reducible apply State.soon_kept
    · exact h1
    · intro a2
      intro h3
      with_reducible apply State.snapDump_kept
      exact h3

theorem execLogSample_kept : ∀ r x0 x1, Kept r x1 → ∃ t, execLogSample x0 x1 = Host.Outcome.next t ∧ Kept r t := by
  intro r x0 x1 k
  refine ⟨_, rfl, ?_⟩
  with_reducible apply State.logSample_kept
  exact k

theorem execLogRearm_kept : ∀ r x0 x1, Kept r x1 → ∃ t, execLogRearm x0 x1 = Host.Outcome.next t ∧ Kept r t := by
  intro r x0 x1 k
  refine ⟨_, rfl, ?_⟩
  with_reducible apply State.logRearm_kept
  exact k

theorem execLogResizeGap_kept : ∀ r x0 x1, Kept r x1 → ∃ t, execLogResizeGap x0 x1 = Host.Outcome.next t ∧ Kept r t := by
  intro r x0 x1 k
  refine ⟨_, rfl, ?_⟩
  with_reducible apply State.logResize_kept
  exact k

theorem execSoundingLatch_kept : ∀ r x0 x1, Kept r x1 → ∃ t, execSoundingLatch x0 x1 = Host.Outcome.next t ∧ Kept r t := by
  intro r x0 x1 k
  refine ⟨_, rfl, ?_⟩
  with_reducible apply State.soundLatch_kept
  exact k

theorem execXdspPreempt_kept : ∀ r x0 x1, Kept r x1 → ∃ t, execXdspPreempt x0 x1 = Host.Outcome.next t ∧ Kept r t := by
  intro r x0 x1 k
  refine ⟨_, rfl, ?_⟩
  with_reducible apply State.xdspWrite_kept
  exact k

theorem execXdspYield_kept : ∀ r x0 x1, Kept r x1 → ∃ t, execXdspYield x0 x1 = Host.Outcome.next t ∧ Kept r t := by
  intro r x0 x1 k
  refine ⟨_, rfl, ?_⟩
  with_reducible apply State.xdspWrite_kept
  exact k

theorem execXdspWait_kept : ∀ r x0 x1, Kept r x1 → ∃ t, execXdspWait x0 x1 = Host.Outcome.next t ∧ Kept r t := by
  intro r x0 x1 k
  refine ⟨_, rfl, ?_⟩
  with_reducible apply State.xdspWrite_kept
  exact k

theorem execXdspStop_kept : ∀ r x0 x1, Kept r x1 → ∃ t, execXdspStop x0 x1 = Host.Outcome.next t ∧ Kept r t := by
  intro r x0 x1 k
  refine ⟨_, rfl, ?_⟩
  with_reducible apply State.xdspWrite_kept
  exact k

theorem execXdspDispatch_kept : ∀ r x0 x1, Kept r x1 → ∃ t, execXdspDispatch x0 x1 = Host.Outcome.next t ∧ Kept r t := by
  intro r x0 x1 k
  refine ⟨_, rfl, ?_⟩
  with_reducible apply State.dispatch_kept
  exact k

theorem execXevtclaim_kept : ∀ r x0 x1, Kept r x1 → ∃ t, execXevtclaim x0 x1 = Host.Outcome.next t ∧ Kept r t := by
  intro r x0 x1 k
  refine ⟨_, rfl, ?_⟩
  with_reducible apply State.evtClaim_kept
  exact k

theorem execXwdt_kept : ∀ r x0 x1, Kept r x1 → ∃ t, execXwdt x0 x1 = Host.Outcome.next t ∧ Kept r t := by
  intro r x0 x1 k
  refine ⟨_, rfl, ?_⟩
  with_reducible apply State.wdtKick_kept
  exact k

theorem execXntimel_kept : ∀ r x0 x1, Kept r x1 → ∃ t, execXntimel x0 x1 = Host.Outcome.next t ∧ Kept r t := by
  intro r x0 x1 k
  refine ⟨_, rfl, ?_⟩
  with_reducible apply State.ntimeRead_kept
  exact k

theorem execTokenMatch_kept : ∀ r x0 x1, Kept r x1 → ∃ t, execTokenMatch x0 x1 = Host.Outcome.next t ∧ Kept r t := by
  intro r x0 x1 k
  refine ⟨_, rfl, ?_⟩
  with_reducible apply State.cpuEdge_kept
  exact k

theorem execDspStart_kept : ∀ r x0 x1, Kept r x1 → ∃ t, execDspStart x0 x1 = Host.Outcome.next t ∧ Kept r t := by
  intro r x0 x1 k
  refine ⟨_, rfl, ?_⟩
  with_reducible apply State.dspStart_kept
  exact k

theorem execDspStop_kept : ∀ r x0 x1, Kept r x1 → ∃ t, execDspStop x0 x1 = Host.Outcome.next t ∧ Kept r t := by
  intro r x0 x1 k
  refine ⟨_, rfl, ?_⟩
  with_reducible apply State.unlist_kept
  exact k

theorem execSemaphorePost_kept : ∀ r x0 x1 x2 x3, Kept r x3 → ∃ t, execSemaphorePost x0 x1 x2 x3 = Host.Outcome.next t ∧ Kept r t := by
  intro r x0 x1 x2 x3 k
  refine ⟨_, rfl, ?_⟩
  with_reducible apply State.semPost_kept
  exact k

theorem execMailboxAppend_kept : ∀ r x0 x1 x2 x3, Kept r x3 → ∃ t, execMailboxAppend x0 x1 x2 x3 = Host.Outcome.next t ∧ Kept r t := by
  intro r x0 x1 x2 x3 k
  refine ⟨_, rfl, ?_⟩
  with_reducible apply State.mbxAppend_kept
  exact k

theorem execThreadBlockWrite_kept : ∀ r x0 x1 x2 x3 x4, Kept r x4 → ∃ t, execThreadBlockWrite x0 x1 x2 x3 x4 = Host.Outcome.next t ∧ Kept r t := by
  intro r x0 x1 x2 x3 x4 k
  refine ⟨_, rfl, ?_⟩
  with_reducible apply State.threadWrite_kept
  exact k

theorem execCommandPortSubmit_kept : ∀ r x0 x1 x2, Kept r x2 → ∃ t, execCommandPortSubmit x0 x1 x2 = Host.Outcome.next t ∧ Kept r t := by
  intro r x0 x1 x2 k
  refine ⟨_, rfl, ?_⟩
  with_reducible apply State.portWrite_kept
  exact k

theorem execCpuHrstWrite_kept : ∀ r x0 x1, Kept r x1 → ∃ t, execCpuHrstWrite x0 x1 = Host.Outcome.next t ∧ Kept r t := by
  intro r x0 x1 k
  refine ⟨_, rfl, ?_⟩
  with_reducible apply State.hrstWrite_kept
  exact k

theorem execCustomerHartWatchdog_kept : ∀ r x0 x1, Kept r x1 → ∃ t, execCustomerHartWatchdog x0 x1 = Host.Outcome.next t ∧ Kept r t := by
  intro r x0 x1 k
  refine ⟨_, rfl, ?_⟩
  with_reducible apply State.custWatchdog_kept
  exact k

theorem execCanTx_kept : ∀ r x0 x1 x2 x3, Kept r x3 → ∃ t, execCanTx x0 x1 x2 x3 = Host.Outcome.next t ∧ Kept r t := by
  intro r x0 x1 x2 x3 k
  refine ⟨_, rfl, ?_⟩
  with_reducible apply State.cmd_kept
  · exact k
  · intro a0
    intro h1
    with_reducible apply State.canTx_kept
    exact h1

theorem execCanRecover_kept : ∀ r x0 x1 x2, Kept r x2 → ∃ t, execCanRecover x0 x1 x2 = Host.Outcome.next t ∧ Kept r t := by
  intro r x0 x1 x2 k
  refine ⟨_, rfl, ?_⟩
  with_reducible apply State.cmd_kept
  · exact k
  · intro a0
    intro h1
    with_reducible apply State.soon_kept
    · exact h1
    · intro a2
      intro h3
      with_reducible apply State.canRecover_kept
      exact h3

theorem execCanSleep_kept : ∀ r x0 x1 x2, Kept r x2 → ∃ t, execCanSleep x0 x1 x2 = Host.Outcome.next t ∧ Kept r t := by
  intro r x0 x1 x2 k
  refine ⟨_, rfl, ?_⟩
  with_reducible apply State.cmd_kept
  · exact k
  · intro a0
    intro h1
    with_reducible apply State.soon_kept
    · exact h1
    · intro a2
      intro h3
      with_reducible apply State.canSleep_kept
      exact h3

theorem execHelmHandover_kept : ∀ r x0 x1 x2, Kept r x2 → ∃ t, execHelmHandover x0 x1 x2 = Host.Outcome.next t ∧ Kept r t := by
  intro r x0 x1 x2 k
  refine ⟨_, rfl, ?_⟩
  with_reducible apply State.cmd_kept
  · exact k
  · intro a0
    intro h1
    with_reducible apply State.handover_kept
    exact h1

theorem execHelmRelayGrant_kept : ∀ r x0 x1 x2, Kept r x2 → ∃ t, execHelmRelayGrant x0 x1 x2 = Host.Outcome.next t ∧ Kept r t := by
  intro r x0 x1 x2 k
  refine ⟨_, rfl, ?_⟩
  with_reducible apply State.cmd_kept
  · exact k
  · intro a0
    intro h1
    with_reducible apply State.soon_kept
    · exact h1
    · intro a2
      intro h3
      with_reducible apply State.relayGrant_kept
      exact h3

theorem execTestLane_kept : ∀ r x0 x1 x2, Kept r x2 → ∃ t, execTestLane x0 x1 x2 = Host.Outcome.next t ∧ Kept r t := by
  intro r x0 x1 x2 k
  refine ⟨_, rfl, ?_⟩
  with_reducible apply State.cmd_kept
  · exact k
  · intro a0
    intro h1
    with_reducible apply State.soon_kept
    · exact h1
    · intro a2
      intro h3
      with_reducible apply State.testLane_kept
      exact h3

theorem execTestHart_kept : ∀ r x0 x1 x2, Kept r x2 → ∃ t, execTestHart x0 x1 x2 = Host.Outcome.next t ∧ Kept r t := by
  intro r x0 x1 x2 k
  refine ⟨_, rfl, ?_⟩
  with_reducible apply State.cmd_kept
  · exact k
  · intro a0
    intro h1
    with_reducible apply State.soon_kept
    · exact h1
    · intro a2
      intro h3
      with_reducible apply State.testHart_kept
      exact h3

theorem execTestMemory_kept : ∀ r x0 x1 x2, Kept r x2 → ∃ t, execTestMemory x0 x1 x2 = Host.Outcome.next t ∧ Kept r t := by
  intro r x0 x1 x2 k
  refine ⟨_, rfl, ?_⟩
  with_reducible apply State.cmd_kept
  · exact k
  · intro a0
    intro h1
    with_reducible apply State.soon_kept
    · exact h1
    · intro a2
      intro h3
      with_reducible apply State.testMemory_kept
      exact h3

theorem execPdSwitch_kept : ∀ r x0 x1 x2, Kept r x2 → ∃ t, execPdSwitch x0 x1 x2 = Host.Outcome.next t ∧ Kept r t := by
  intro r x0 x1 x2 k
  refine ⟨_, rfl, ?_⟩
  with_reducible apply State.cmd_kept
  · exact k
  · intro a0
    intro h1
    with_reducible apply State.soon_kept
    · exact h1
    · intro a2
      intro h3
      with_reducible apply State.pdSwitch_kept
      exact h3

theorem execKeelProgram_kept : ∀ r x0 x1 x2, Kept r x2 → ∃ t, execKeelProgram x0 x1 x2 = Host.Outcome.next t ∧ Kept r t := by
  intro r x0 x1 x2 k
  refine ⟨_, rfl, ?_⟩
  with_reducible apply State.cmd_kept
  · exact k
  · intro a0
    intro h1
    with_reducible apply State.soon_kept
    · exact h1
    · intro a2
      intro h3
      with_reducible apply State.keelProgram_kept
      exact h3

theorem execFwStage_kept : ∀ r x0 x1 x2 x3, Kept r x3 → ∃ t, execFwStage x0 x1 x2 x3 = Host.Outcome.next t ∧ Kept r t := by
  intro r x0 x1 x2 x3 k
  refine ⟨_, rfl, ?_⟩
  with_reducible apply State.cmd_kept
  · exact k
  · intro a0
    intro h1
    with_reducible apply State.soonData_kept
    · exact h1
    · intro a2
      intro h3
      with_reducible apply State.fwStage_kept
      exact h3

theorem execPartnerHelmChange_kept : ∀ r x0 x1, Kept r x1 → ∃ t, execPartnerHelmChange x0 x1 = Host.Outcome.next t ∧ Kept r t := by
  intro r x0 x1 k
  refine ⟨_, rfl, ?_⟩
  with_reducible apply State.partnerHelm_kept
  exact k

theorem execSelfDiagnosisFail_kept : ∀ r x0 x1, Kept r x1 → ∃ t, execSelfDiagnosisFail x0 x1 = Host.Outcome.next t ∧ Kept r t := by
  intro r x0 x1 k
  refine ⟨_, rfl, ?_⟩
  with_reducible apply State.diagFail_kept
  exact k

theorem execHeartbeatReceive_kept : ∀ r x0 x1 x2 x3 x4, Kept r x4 → ∃ t, execHeartbeatReceive x0 x1 x2 x3 x4 = Host.Outcome.next t ∧ Kept r t := by
  intro r x0 x1 x2 x3 x4 k
  refine ⟨_, rfl, ?_⟩
  with_reducible apply State.heartbeat_kept
  exact k

theorem execChainLaneChange_kept : ∀ r x0 x1 x2, Kept r x2 → ∃ t, execChainLaneChange x0 x1 x2 = Host.Outcome.next t ∧ Kept r t := by
  intro r x0 x1 x2 k
  refine ⟨_, rfl, ?_⟩
  with_reducible apply State.chainLane_kept
  exact k

theorem execRelayGrantMessage_kept : ∀ r x0 x1 x2, Kept r x2 → ∃ t, execRelayGrantMessage x0 x1 x2 = Host.Outcome.next t ∧ Kept r t := by
  intro r x0 x1 x2 k
  refine ⟨_, rfl, ?_⟩
  apply Kept.ite
  · with_reducible apply State.setRelay_kept
    exact k
  · exact k

theorem execRelayFrame_kept : ∀ r x0 x1 x2 x3 x4, Kept r x4 → ∃ t, execRelayFrame x0 x1 x2 x3 x4 = Host.Outcome.next t ∧ Kept r t := by
  intro r x0 x1 x2 x3 x4 k
  refine ⟨_, rfl, ?_⟩
  with_reducible apply State.relayFrame_kept
  exact k

theorem execCableBreak_kept : ∀ r x0 x1 x2, Kept r x2 → ∃ t, execCableBreak x0 x1 x2 = Host.Outcome.next t ∧ Kept r t := by
  intro r x0 x1 x2 k
  refine ⟨_, rfl, ?_⟩
  with_reducible apply State.cableBreak_kept
  exact k

theorem execResyncCheck_kept : ∀ r x0 x1 x2 x3 x4 x5, Kept r x5 → ∃ t, execResyncCheck x0 x1 x2 x3 x4 x5 = Host.Outcome.next t ∧ Kept r t := by
  intro r x0 x1 x2 x3 x4 x5 k
  refine ⟨_, rfl, ?_⟩
  with_reducible apply State.resyncCheck_kept
  exact k

theorem execResyncBulkDone_kept : ∀ r x0 x1 x2 x3 x4 x5 x6, Kept r x6 → ∃ t, execResyncBulkDone x0 x1 x2 x3 x4 x5 x6 = Host.Outcome.next t ∧ Kept r t := by
  intro r x0 x1 x2 x3 x4 x5 x6 k
  refine ⟨_, rfl, ?_⟩
  with_reducible apply State.bulkDone_kept
  exact k

theorem execInServiceTestDone_kept : ∀ r x0 x1 x2 x3, Kept r x3 → ∃ t, execInServiceTestDone x0 x1 x2 x3 = Host.Outcome.next t ∧ Kept r t := by
  intro r x0 x1 x2 x3 k
  refine ⟨_, rfl, ?_⟩
  with_reducible apply State.testDone_kept
  exact k

theorem execPorRelease_kept : ∀ r x0 x1 x2, Kept r x2 → ∃ t, execPorRelease x0 x1 x2 = Host.Outcome.next t ∧ Kept r t := by
  intro r x0 x1 x2 k
  refine ⟨_, rfl, ?_⟩
  with_reducible apply State.porRelease_kept
  exact k

theorem execPcieLinkUp_kept : ∀ r x0 x1 x2, Kept r x2 → ∃ t, execPcieLinkUp x0 x1 x2 = Host.Outcome.next t ∧ Kept r t := by
  intro r x0 x1 x2 k
  refine ⟨_, rfl, ?_⟩
  apply Kept.ite
  · with_reducible apply State.setFld_kept
    with_reducible apply Kept.upd
    exact k
  · exact k

theorem execSupervisorWatchdogReset_kept : ∀ r x0 x1, Kept r x1 → ∃ t, execSupervisorWatchdogReset x0 x1 = Host.Outcome.next t ∧ Kept r t := by
  intro r x0 x1 k
  refine ⟨_, rfl, ?_⟩
  with_reducible apply State.superReset_kept
  exact k

theorem execChipReset_kept : ∀ r x0 x1, Kept r x1 → ∃ t, execChipReset x0 x1 = Host.Outcome.next t ∧ Kept r t := by
  intro r x0 x1 k
  refine ⟨_, rfl, ?_⟩
  with_reducible apply State.chipReset_kept
  exact k

theorem execPerDomainReset_kept : ∀ r x0 x1, Kept r x1 → ∃ t, execPerDomainReset x0 x1 = Host.Outcome.next t ∧ Kept r t := by
  intro r x0 x1 k
  refine ⟨_, rfl, ?_⟩
  with_reducible apply State.domainReset_kept
  exact k

theorem execPdSwitchDone_kept : ∀ r x0 x1, Kept r x1 → ∃ t, execPdSwitchDone x0 x1 = Host.Outcome.next t ∧ Kept r t := by
  intro r x0 x1 k
  refine ⟨_, rfl, ?_⟩
  with_reducible apply State.pdDone_kept
  exact k

theorem execPllRelock_kept : ∀ r x0 x1, Kept r x1 → ∃ t, execPllRelock x0 x1 = Host.Outcome.next t ∧ Kept r t := by
  intro r x0 x1 k
  refine ⟨_, rfl, ?_⟩
  apply Kept.ite
  · with_reducible apply State.setFlag_kept
    with_reducible apply State.setFlag_kept
    exact k
  · with_reducible apply State.setFlag_kept
    exact k

theorem execClockMonitorFault_kept : ∀ r x0 x1, Kept r x1 → ∃ t, execClockMonitorFault x0 x1 = Host.Outcome.next t ∧ Kept r t := by
  intro r x0 x1 k
  refine ⟨_, rfl, ?_⟩
  apply Kept.ite
  · with_reducible apply State.raise_kept
    with_reducible apply State.clrFlag_kept
    exact k
  · with_reducible apply State.diagFail_kept
    with_reducible apply State.clrFlag_kept
    exact k

theorem execSupplyMonitorTrip_kept : ∀ r x0 x1, Kept r x1 → ∃ t, execSupplyMonitorTrip x0 x1 = Host.Outcome.next t ∧ Kept r t := by
  intro r x0 x1 k
  refine ⟨_, rfl, ?_⟩
  with_reducible apply State.supplyTrip_kept
  exact k

theorem execSupplyRailReturn_kept : ∀ r x0 x1, Kept r x1 → ∃ t, execSupplyRailReturn x0 x1 = Host.Outcome.next t ∧ Kept r t := by
  intro r x0 x1 k
  refine ⟨_, rfl, ?_⟩
  with_reducible apply State.railReturn_kept
  exact k

theorem execThermalCrossing_kept : ∀ r x0 x1, Kept r x1 → ∃ t, execThermalCrossing x0 x1 = Host.Outcome.next t ∧ Kept r t := by
  intro r x0 x1 k
  refine ⟨_, rfl, ?_⟩
  with_reducible apply State.thermal_kept
  exact k

theorem execImageVerify_kept : ∀ r x0 x1 x2, Kept r x2 → ∃ t, execImageVerify x0 x1 x2 = Host.Outcome.next t ∧ Kept r t := by
  intro r x0 x1 x2 k
  refine ⟨_, rfl, ?_⟩
  with_reducible apply State.imageVerify_kept
  exact k

theorem execKeelProgramDone_kept : ∀ r x0 x1 x2, Kept r x2 → ∃ t, execKeelProgramDone x0 x1 x2 = Host.Outcome.next t ∧ Kept r t := by
  intro r x0 x1 x2 k
  refine ⟨_, rfl, ?_⟩
  with_reducible apply State.keelDone_kept
  exact k

theorem execFwStageDone_kept : ∀ r x0 x1, Kept r x1 → ∃ t, execFwStageDone x0 x1 = Host.Outcome.next t ∧ Kept r t := by
  intro r x0 x1 k
  refine ⟨_, rfl, ?_⟩
  with_reducible apply State.fwStageDone_kept
  exact k

theorem execMemoryEccError_kept : ∀ r x0 x1 x2 x3 x4 x5, Kept r x5 → ∃ t, execMemoryEccError x0 x1 x2 x3 x4 x5 = Host.Outcome.next t ∧ Kept r t := by
  intro r x0 x1 x2 x3 x4 x5 k
  refine ⟨_, rfl, ?_⟩
  with_reducible apply State.eccError_kept
  exact k

theorem execBoundaryRecordReceive_kept : ∀ r x0 x1 x2 x3 x4 x5, Kept r x5 → ∃ t, execBoundaryRecordReceive x0 x1 x2 x3 x4 x5 = Host.Outcome.next t ∧ Kept r t := by
  intro r x0 x1 x2 x3 x4 x5 k
  refine ⟨_, rfl, ?_⟩
  with_reducible apply State.rxBoundary_kept
  exact k

theorem execAxisStateReceive_kept : ∀ r x0 x1 x2 x3 x4, Kept r x4 → ∃ t, execAxisStateReceive x0 x1 x2 x3 x4 = Host.Outcome.next t ∧ Kept r t := by
  intro r x0 x1 x2 x3 x4 k
  refine ⟨_, rfl, ?_⟩
  with_reducible apply State.rxAxis_kept
  exact k

theorem execSweepReceive_kept : ∀ r x0 x1 x2, Kept r x2 → ∃ t, execSweepReceive x0 x1 x2 = Host.Outcome.next t ∧ Kept r t := by
  intro r x0 x1 x2 k
  refine ⟨_, rfl, ?_⟩
  with_reducible apply State.sweepTake_kept
  exact k

theorem execCanInitLeave_kept : ∀ r x0 x1 x2, Kept r x2 → ∃ t, execCanInitLeave x0 x1 x2 = Host.Outcome.next t ∧ Kept r t := by
  intro r x0 x1 x2 k
  refine ⟨_, rfl, ?_⟩
  apply Kept.ite
  · with_reducible apply State.canCtlWrite_kept
    exact k
  · exact k

theorem execCanMbLock_kept : ∀ r x0 x1 x2, Kept r x2 → ∃ t, execCanMbLock x0 x1 x2 = Host.Outcome.next t ∧ Kept r t := by
  intro r x0 x1 x2 k
  refine ⟨_, rfl, ?_⟩
  apply Kept.ite
  · with_reducible apply State.canLock_kept
    exact k
  · exact k

theorem execCanMbRel_kept : ∀ r x0 x1 x2, Kept r x2 → ∃ t, execCanMbRel x0 x1 x2 = Host.Outcome.next t ∧ Kept r t := by
  intro r x0 x1 x2 k
  refine ⟨_, rfl, ?_⟩
  apply Kept.ite
  · with_reducible apply State.canRel_kept
    exact k
  · exact k

theorem execCanMbAbort_kept : ∀ r x0 x1 x2, Kept r x2 → ∃ t, execCanMbAbort x0 x1 x2 = Host.Outcome.next t ∧ Kept r t := by
  intro r x0 x1 x2 k
  refine ⟨_, rfl, ?_⟩
  apply Kept.ite
  · with_reducible apply State.canAbort_kept
    exact k
  · exact k

theorem execCanIntegrationDone_kept : ∀ r x0 x1, Kept r x1 → ∃ t, execCanIntegrationDone x0 x1 = Host.Outcome.next t ∧ Kept r t := by
  intro r x0 x1 k
  refine ⟨_, rfl, ?_⟩
  with_reducible apply State.canIntegrated_kept
  exact k

theorem execCanFrameReceived_kept : ∀ r x0 x1 x2, Kept r x2 → ∃ t, execCanFrameReceived x0 x1 x2 = Host.Outcome.next t ∧ Kept r t := by
  intro r x0 x1 x2 k
  refine ⟨_, rfl, ?_⟩
  with_reducible apply State.canReceived_kept
  exact k

theorem execCanRxToRing_kept : ∀ r x0 x1, Kept r x1 → ∃ t, execCanRxToRing x0 x1 = Host.Outcome.next t ∧ Kept r t := by
  intro r x0 x1 k
  refine ⟨_, rfl, ?_⟩
  with_reducible apply State.canDrain_kept
  exact k

theorem execCanFrameSent_kept : ∀ r x0 x1 x2 x3 x4, Kept r x4 → ∃ t, execCanFrameSent x0 x1 x2 x3 x4 = Host.Outcome.next t ∧ Kept r t := by
  intro r x0 x1 x2 x3 x4 k
  refine ⟨_, rfl, ?_⟩
  with_reducible apply State.canSent_kept
  exact k

theorem execCanArbitrationLost_kept : ∀ r x0 x1, Kept r x1 → ∃ t, execCanArbitrationLost x0 x1 = Host.Outcome.next t ∧ Kept r t := by
  intro r x0 x1 k
  refine ⟨_, rfl, ?_⟩
  with_reducible apply State.canArbLost_kept
  exact k

theorem execCanBusError_kept : ∀ r x0 x1 x2, Kept r x2 → ∃ t, execCanBusError x0 x1 x2 = Host.Outcome.next t ∧ Kept r t := by
  intro r x0 x1 x2 k
  refine ⟨_, rfl, ?_⟩
  with_reducible apply State.canError_kept
  exact k

theorem execCanBusOff_kept : ∀ r x0 x1, Kept r x1 → ∃ t, execCanBusOff x0 x1 = Host.Outcome.next t ∧ Kept r t := by
  intro r x0 x1 k
  refine ⟨_, rfl, ?_⟩
  with_reducible apply State.canBusOff_kept
  exact k

theorem execCanRecoveryComplete_kept : ∀ r x0 x1, Kept r x1 → ∃ t, execCanRecoveryComplete x0 x1 = Host.Outcome.next t ∧ Kept r t := by
  intro r x0 x1 k
  refine ⟨_, rfl, ?_⟩
  with_reducible apply State.canRecovered_kept
  exact k

theorem execCanBackoffEnd_kept : ∀ r x0 x1 x2, Kept r x2 → ∃ t, execCanBackoffEnd x0 x1 x2 = Host.Outcome.next t ∧ Kept r t := by
  intro r x0 x1 x2 k
  refine ⟨_, rfl, ?_⟩
  with_reducible apply State.canBackoffEnd_kept
  exact k

theorem execCanSleepEntry_kept : ∀ r x0 x1, Kept r x1 → ∃ t, execCanSleepEntry x0 x1 = Host.Outcome.next t ∧ Kept r t := by
  intro r x0 x1 k
  refine ⟨_, rfl, ?_⟩
  with_reducible apply State.canAsleep_kept
  exact k

theorem execCanEdgeWake_kept : ∀ r x0 x1, Kept r x1 → ∃ t, execCanEdgeWake x0 x1 = Host.Outcome.next t ∧ Kept r t := by
  intro r x0 x1 k
  refine ⟨_, rfl, ?_⟩
  apply Kept.ite
  · with_reducible apply State.canWake_kept
    exact k
  · exact k

theorem execCanWakeFrame_kept : ∀ r x0 x1 x2, Kept r x2 → ∃ t, execCanWakeFrame x0 x1 x2 = Host.Outcome.next t ∧ Kept r t := by
  intro r x0 x1 x2 k
  refine ⟨_, rfl, ?_⟩
  with_reducible apply State.canWakeFrame_kept
  exact k

theorem execCanHelmModeSwitch_kept : ∀ r x0 x1, Kept r x1 → ∃ t, execCanHelmModeSwitch x0 x1 = Host.Outcome.next t ∧ Kept r t := by
  intro r x0 x1 k
  refine ⟨_, rfl, ?_⟩
  with_reducible apply State.canModeSwitch_kept
  exact k

theorem execCanProtocolException_kept : ∀ r x0 x1, Kept r x1 → ∃ t, execCanProtocolException x0 x1 = Host.Outcome.next t ∧ Kept r t := by
  intro r x0 x1 k
  refine ⟨_, rfl, ?_⟩
  with_reducible apply State.canException_kept
  exact k

theorem execCycHoldRelease_kept : ∀ r x0, Kept r x0 → ∃ t, execCycHoldRelease x0 = Host.Outcome.next t ∧ Kept r t := by
  intro r x0 k
  refine ⟨_, rfl, ?_⟩
  with_reducible apply State.busWrite_kept
  exact k

theorem execSailFreeze_kept : ∀ r x0, Kept r x0 → ∃ t, execSailFreeze x0 = Host.Outcome.next t ∧ Kept r t := by
  intro r x0 k
  refine ⟨_, rfl, ?_⟩
  with_reducible apply State.sailFreeze_kept
  exact k

theorem execNetworkStart_kept : ∀ r x0, Kept r x0 → ∃ t, execNetworkStart x0 = Host.Outcome.next t ∧ Kept r t := by
  intro r x0 k
  refine ⟨_, rfl, ?_⟩
  with_reducible apply State.networkStart_kept
  exact k

theorem execPpsTimeout_kept : ∀ r x0, Kept r x0 → ∃ t, execPpsTimeout x0 = Host.Outcome.next t ∧ Kept r t := by
  intro r x0 k
  refine ⟨_, rfl, ?_⟩
  with_reducible apply State.ppsTimeout_kept
  exact k

theorem execHoldoverExpiry_kept : ∀ r x0, Kept r x0 → ∃ t, execHoldoverExpiry x0 = Host.Outcome.next t ∧ Kept r t := by
  intro r x0 k
  refine ⟨_, rfl, ?_⟩
  with_reducible apply State.holdExpiry_kept
  exact k

theorem execTimeStep_kept : ∀ r x0, Kept r x0 → ∃ t, execTimeStep x0 = Host.Outcome.next t ∧ Kept r t := by
  intro r x0 k
  refine ⟨_, rfl, ?_⟩
  with_reducible apply State.timeStep_kept
  exact k

theorem execTimeSetTimeout_kept : ∀ r x0, Kept r x0 → ∃ t, execTimeSetTimeout x0 = Host.Outcome.next t ∧ Kept r t := by
  intro r x0 k
  refine ⟨_, rfl, ?_⟩
  with_reducible apply State.setTimeout_kept
  exact k

theorem execSlewEnd_kept : ∀ r x0, Kept r x0 → ∃ t, execSlewEnd x0 = Host.Outcome.next t ∧ Kept r t := by
  intro r x0 k
  refine ⟨_, rfl, ?_⟩
  with_reducible apply State.clrFlag_kept
  with_reducible apply Kept.upd
  exact k

theorem execPlanComputed_kept : ∀ r x0, Kept r x0 → ∃ t, execPlanComputed x0 = Host.Outcome.next t ∧ Kept r t := by
  intro r x0 k
  refine ⟨_, rfl, ?_⟩
  with_reducible apply State.planComputed_kept
  exact k

theorem execPlanPrepared_kept : ∀ r x0, Kept r x0 → ∃ t, execPlanPrepared x0 = Host.Outcome.next t ∧ Kept r t := by
  intro r x0 k
  refine ⟨_, rfl, ?_⟩
  with_reducible apply State.planPrepared_kept
  exact k

theorem execAutoPlanPrepare_kept : ∀ r x0, Kept r x0 → ∃ t, execAutoPlanPrepare x0 = Host.Outcome.next t ∧ Kept r t := by
  intro r x0 k
  refine ⟨_, rfl, ?_⟩
  with_reducible apply State.autoPrepare_kept
  exact k

theorem execPlanSwitch_kept : ∀ r x0, Kept r x0 → ∃ t, execPlanSwitch x0 = Host.Outcome.next t ∧ Kept r t := by
  intro r x0 k
  refine ⟨_, rfl, ?_⟩
  with_reducible apply State.planSwitch_kept
  exact k

theorem execPlanRelease_kept : ∀ r x0, Kept r x0 → ∃ t, execPlanRelease x0 = Host.Outcome.next t ∧ Kept r t := by
  intro r x0 k
  refine ⟨_, rfl, ?_⟩
  with_reducible apply State.planRelease_kept
  exact k

theorem execAdaptSchedule_kept : ∀ r x0, Kept r x0 → ∃ t, execAdaptSchedule x0 = Host.Outcome.next t ∧ Kept r t := by
  intro r x0 k
  refine ⟨_, rfl, ?_⟩
  refine Kept.foldl _ ?_ ?_
  · exact k
  · intro a0
    intro a1
    intro h2
    with_reducible apply State.scheduleAxis_kept
    exact h2

theorem execDispatchTick_kept : ∀ r x0, Kept r x0 → ∃ t, execDispatchTick x0 = Host.Outcome.next t ∧ Kept r t := by
  intro r x0 k
  refine ⟨_, rfl, ?_⟩
  with_reducible apply State.dispatchTick_kept
  exact k

theorem execHelmClaim_kept : ∀ r x0, Kept r x0 → ∃ t, execHelmClaim x0 = Host.Outcome.next t ∧ Kept r t := by
  intro r x0 k
  refine ⟨_, rfl, ?_⟩
  with_reducible apply State.helmClaimFrom_kept
  exact k

theorem execHelmContend_kept : ∀ r x0, Kept r x0 → ∃ t, execHelmContend x0 = Host.Outcome.next t ∧ Kept r t := by
  intro r x0 k
  refine ⟨_, rfl, ?_⟩
  apply Kept.ite
  · with_reducible apply State.driveHelm_kept
    with_reducible apply State.setHelm_kept
    exact k
  · exact k

theorem execHelmQuietExpiry_kept : ∀ r x0, Kept r x0 → ∃ t, execHelmQuietExpiry x0 = Host.Outcome.next t ∧ Kept r t := by
  intro r x0 k
  refine ⟨_, rfl, ?_⟩
  with_reducible apply State.helmClaimFrom_kept
  exact k

theorem execHelmQuietYield_kept : ∀ r x0, Kept r x0 → ∃ t, execHelmQuietYield x0 = Host.Outcome.next t ∧ Kept r t := by
  intro r x0 k
  refine ⟨_, rfl, ?_⟩
  apply Kept.ite
  · with_reducible apply State.setHelm_kept
    exact k
  · exact k

theorem execHelmTake_kept : ∀ r x0, Kept r x0 → ∃ t, execHelmTake x0 = Host.Outcome.next t ∧ Kept r t := by
  intro r x0 k
  refine ⟨_, rfl, ?_⟩
  with_reducible apply State.helmTake_kept
  exact k

theorem execHelmReadbackFail_kept : ∀ r x0, Kept r x0 → ∃ t, execHelmReadbackFail x0 = Host.Outcome.next t ∧ Kept r t := by
  intro r x0 k
  refine ⟨_, rfl, ?_⟩
  apply Kept.ite
  · with_reducible apply State.diagFail_kept
    with_reducible apply State.clrFlag_kept
    exact k
  · exact k

theorem execGiveUp_kept : ∀ r x0, Kept r x0 → ∃ t, execGiveUp x0 = Host.Outcome.next t ∧ Kept r t := by
  intro r x0 k
  refine ⟨_, rfl, ?_⟩
  with_reducible apply State.giveUp_kept
  exact k

theorem execHelmForcedReset_kept : ∀ r x0, Kept r x0 → ∃ t, execHelmForcedReset x0 = Host.Outcome.next t ∧ Kept r t := by
  intro r x0 k
  refine ⟨_, rfl, ?_⟩
  apply Kept.ite
  · with_reducible apply State.fullReset_kept
    exact k
  · exact k

theorem execHeartbeatSend_kept : ∀ r x0, Kept r x0 → ∃ t, execHeartbeatSend x0 = Host.Outcome.next t ∧ Kept r t := by
  intro r x0 k
  refine ⟨_, rfl, ?_⟩
  apply Kept.ite
  · with_reducible apply State.emit_kept
    exact k
  · exact k

theorem execHeartbeatLoss_kept : ∀ r x0, Kept r x0 → ∃ t, execHeartbeatLoss x0 = Host.Outcome.next t ∧ Kept r t := by
  intro r x0 k
  refine ⟨_, rfl, ?_⟩
  with_reducible apply State.dropRelays_kept
  with_reducible apply Kept.upd
  exact k

theorem execResyncSynced_kept : ∀ r x0, Kept r x0 → ∃ t, execResyncSynced x0 = Host.Outcome.next t ∧ Kept r t := by
  intro r x0 k
  refine ⟨_, rfl, ?_⟩
  apply Kept.ite
  · with_reducible apply State.raise_kept
    with_reducible apply State.setFld_kept
    exact k
  · exact k

theorem execPowerOnReset_kept : ∀ r x0, Kept r x0 → ∃ t, execPowerOnReset x0 = Host.Outcome.next t ∧ Kept r t := by
  intro r x0 k
  refine ⟨_, rfl, ?_⟩
  with_reducible apply State.clearAll_kept
  exact k

theorem execResetN_kept : ∀ r x0, Kept r x0 → ∃ t, execResetN x0 = Host.Outcome.next t ∧ Kept r t := by
  intro r x0 k
  refine ⟨_, rfl, ?_⟩
  with_reducible apply State.fullReset_kept
  exact k

theorem execPerst_kept : ∀ r x0, Kept r x0 → ∃ t, execPerst x0 = Host.Outcome.next t ∧ Kept r t := by
  intro r x0 k
  refine ⟨_, rfl, ?_⟩
  with_reducible apply State.recordReset_kept
  with_reducible apply State.clearHost_kept
  exact k

theorem execFlr_kept : ∀ r x0, Kept r x0 → ∃ t, execFlr x0 = Host.Outcome.next t ∧ Kept r t := by
  intro r x0 k
  refine ⟨_, rfl, ?_⟩
  with_reducible apply State.flr_kept
  exact k

theorem execPcieLinkLoss_kept : ∀ r x0, Kept r x0 → ∃ t, execPcieLinkLoss x0 = Host.Outcome.next t ∧ Kept r t := by
  intro r x0 k
  refine ⟨_, rfl, ?_⟩
  with_reducible apply State.recordReset_kept
  with_reducible apply State.clearHost_kept
  exact k

theorem execPllNLockLoss_kept : ∀ r x0, Kept r x0 → ∃ t, execPllNLockLoss x0 = Host.Outcome.next t ∧ Kept r t := by
  intro r x0 k
  refine ⟨_, rfl, ?_⟩
  with_reducible apply State.diagFail_kept
  with_reducible apply State.raise_kept
  with_reducible apply State.setFlag_kept
  with_reducible apply State.clrFlag_kept
  with_reducible apply State.clrFlag_kept
  with_reducible apply State.clrFlag_kept
  exact k

theorem execPllCLockLoss_kept : ∀ r x0, Kept r x0 → ∃ t, execPllCLockLoss x0 = Host.Outcome.next t ∧ Kept r t := by
  intro r x0 k
  refine ⟨_, rfl, ?_⟩
  with_reducible apply State.raise_kept
  with_reducible apply State.setFlag_kept
  with_reducible apply State.clrFlag_kept
  exact k

theorem execSweepTransfer_kept : ∀ r x0, Kept r x0 → ∃ t, execSweepTransfer x0 = Host.Outcome.next t ∧ Kept r t := by
  intro r x0 k
  refine ⟨_, rfl, ?_⟩
  with_reducible apply State.sweepSend_kept
  exact k

end Sys2Proof.Machine
end

