-- ==== Sys2Proof/Laws/State.lean ====
section
/-! SUPPORT. What each update of the state leaves alone, one lemma for each update and each field, true by definition. -/

namespace Sys2Proof.Machine

open Sys2Proof

@[simp] theorem State.setRg_pending (s : State) (off : Nat) (w : Word) : (s.setRg off w).pending = s.pending := rfl
@[simp] theorem State.setRg_free (s : State) (off : Nat) (w : Word) : (s.setRg off w).free = s.free := rfl
@[simp] theorem State.setRg_out (s : State) (off : Nat) (w : Word) : (s.setRg off w).out = s.out := rfl
@[simp] theorem State.setRg_host (s : State) (off : Nat) (w : Word) : (s.setRg off w).host = s.host := rfl
@[simp] theorem State.setRg_evt (s : State) (off : Nat) (w : Word) : (s.setRg off w).evt = s.evt := rfl
@[simp] theorem State.setRg_cpu (s : State) (off : Nat) (w : Word) : (s.setRg off w).cpu = s.cpu := rfl
@[simp] theorem State.setRg_net (s : State) (off : Nat) (w : Word) : (s.setRg off w).net = s.net := rfl
@[simp] theorem State.setRg_tim (s : State) (off : Nat) (w : Word) : (s.setRg off w).tim = s.tim := rfl
@[simp] theorem State.setRg_pilot (s : State) (off : Nat) (w : Word) : (s.setRg off w).pilot = s.pilot := rfl
@[simp] theorem State.setRg_helm (s : State) (off : Nat) (w : Word) : (s.setRg off w).helm = s.helm := rfl
@[simp] theorem State.setRg_boot (s : State) (off : Nat) (w : Word) : (s.setRg off w).boot = s.boot := rfl
@[simp] theorem State.setRg_lanes (s : State) (off : Nat) (w : Word) : (s.setRg off w).lanes = s.lanes := rfl
@[simp] theorem State.setRg_mem (s : State) (off : Nat) (w : Word) : (s.setRg off w).mem = s.mem := rfl
@[simp] theorem State.setRg_axes (s : State) (off : Nat) (w : Word) : (s.setRg off w).axes = s.axes := rfl
@[simp] theorem State.setRg_loc (s : State) (off : Nat) (w : Word) : (s.setRg off w).loc = s.loc := rfl
@[simp] theorem State.setRg_cart (s : State) (off : Nat) (w : Word) : (s.setRg off w).cart = s.cart := rfl
@[simp] theorem State.setRg_safe (s : State) (off : Nat) (w : Word) : (s.setRg off w).safe = s.safe := rfl
@[simp] theorem State.setRg_acq (s : State) (off : Nat) (w : Word) : (s.setRg off w).acq = s.acq := rfl
@[simp] theorem State.setRg_can (s : State) (off : Nat) (w : Word) : (s.setRg off w).can = s.can := rfl
@[simp] theorem State.setRg_cycle (s : State) (off : Nat) (w : Word) : (s.setRg off w).cycle = s.cycle := rfl
@[simp] theorem State.setRg_bnd (s : State) (off : Nat) (w : Word) : (s.setRg off w).bnd = s.bnd := rfl
@[simp] theorem State.setRg_ntime (s : State) (off : Nat) (w : Word) : (s.setRg off w).ntime = s.ntime := rfl
@[simp] theorem State.setFld_pending (s : State) (off : Nat) (hi : Nat) (lo : Nat) (v : Nat) : (s.setFld off hi lo v).pending = s.pending := rfl
@[simp] theorem State.setFld_free (s : State) (off : Nat) (hi : Nat) (lo : Nat) (v : Nat) : (s.setFld off hi lo v).free = s.free := rfl
@[simp] theorem State.setFld_out (s : State) (off : Nat) (hi : Nat) (lo : Nat) (v : Nat) : (s.setFld off hi lo v).out = s.out := rfl
@[simp] theorem State.setFld_host (s : State) (off : Nat) (hi : Nat) (lo : Nat) (v : Nat) : (s.setFld off hi lo v).host = s.host := rfl
@[simp] theorem State.setFld_evt (s : State) (off : Nat) (hi : Nat) (lo : Nat) (v : Nat) : (s.setFld off hi lo v).evt = s.evt := rfl
@[simp] theorem State.setFld_cpu (s : State) (off : Nat) (hi : Nat) (lo : Nat) (v : Nat) : (s.setFld off hi lo v).cpu = s.cpu := rfl
@[simp] theorem State.setFld_net (s : State) (off : Nat) (hi : Nat) (lo : Nat) (v : Nat) : (s.setFld off hi lo v).net = s.net := rfl
@[simp] theorem State.setFld_tim (s : State) (off : Nat) (hi : Nat) (lo : Nat) (v : Nat) : (s.setFld off hi lo v).tim = s.tim := rfl
@[simp] theorem State.setFld_pilot (s : State) (off : Nat) (hi : Nat) (lo : Nat) (v : Nat) : (s.setFld off hi lo v).pilot = s.pilot := rfl
@[simp] theorem State.setFld_helm (s : State) (off : Nat) (hi : Nat) (lo : Nat) (v : Nat) : (s.setFld off hi lo v).helm = s.helm := rfl
@[simp] theorem State.setFld_boot (s : State) (off : Nat) (hi : Nat) (lo : Nat) (v : Nat) : (s.setFld off hi lo v).boot = s.boot := rfl
@[simp] theorem State.setFld_lanes (s : State) (off : Nat) (hi : Nat) (lo : Nat) (v : Nat) : (s.setFld off hi lo v).lanes = s.lanes := rfl
@[simp] theorem State.setFld_mem (s : State) (off : Nat) (hi : Nat) (lo : Nat) (v : Nat) : (s.setFld off hi lo v).mem = s.mem := rfl
@[simp] theorem State.setFld_axes (s : State) (off : Nat) (hi : Nat) (lo : Nat) (v : Nat) : (s.setFld off hi lo v).axes = s.axes := rfl
@[simp] theorem State.setFld_loc (s : State) (off : Nat) (hi : Nat) (lo : Nat) (v : Nat) : (s.setFld off hi lo v).loc = s.loc := rfl
@[simp] theorem State.setFld_cart (s : State) (off : Nat) (hi : Nat) (lo : Nat) (v : Nat) : (s.setFld off hi lo v).cart = s.cart := rfl
@[simp] theorem State.setFld_safe (s : State) (off : Nat) (hi : Nat) (lo : Nat) (v : Nat) : (s.setFld off hi lo v).safe = s.safe := rfl
@[simp] theorem State.setFld_acq (s : State) (off : Nat) (hi : Nat) (lo : Nat) (v : Nat) : (s.setFld off hi lo v).acq = s.acq := rfl
@[simp] theorem State.setFld_can (s : State) (off : Nat) (hi : Nat) (lo : Nat) (v : Nat) : (s.setFld off hi lo v).can = s.can := rfl
@[simp] theorem State.setFld_cycle (s : State) (off : Nat) (hi : Nat) (lo : Nat) (v : Nat) : (s.setFld off hi lo v).cycle = s.cycle := rfl
@[simp] theorem State.setFld_bnd (s : State) (off : Nat) (hi : Nat) (lo : Nat) (v : Nat) : (s.setFld off hi lo v).bnd = s.bnd := rfl
@[simp] theorem State.setFld_ntime (s : State) (off : Nat) (hi : Nat) (lo : Nat) (v : Nat) : (s.setFld off hi lo v).ntime = s.ntime := rfl
@[simp] theorem State.setFlag_pending (s : State) (off : Nat) (n : Nat) : (s.setFlag off n).pending = s.pending := rfl
@[simp] theorem State.setFlag_free (s : State) (off : Nat) (n : Nat) : (s.setFlag off n).free = s.free := rfl
@[simp] theorem State.setFlag_out (s : State) (off : Nat) (n : Nat) : (s.setFlag off n).out = s.out := rfl
@[simp] theorem State.setFlag_host (s : State) (off : Nat) (n : Nat) : (s.setFlag off n).host = s.host := rfl
@[simp] theorem State.setFlag_evt (s : State) (off : Nat) (n : Nat) : (s.setFlag off n).evt = s.evt := rfl
@[simp] theorem State.setFlag_cpu (s : State) (off : Nat) (n : Nat) : (s.setFlag off n).cpu = s.cpu := rfl
@[simp] theorem State.setFlag_net (s : State) (off : Nat) (n : Nat) : (s.setFlag off n).net = s.net := rfl
@[simp] theorem State.setFlag_tim (s : State) (off : Nat) (n : Nat) : (s.setFlag off n).tim = s.tim := rfl
@[simp] theorem State.setFlag_pilot (s : State) (off : Nat) (n : Nat) : (s.setFlag off n).pilot = s.pilot := rfl
@[simp] theorem State.setFlag_helm (s : State) (off : Nat) (n : Nat) : (s.setFlag off n).helm = s.helm := rfl
@[simp] theorem State.setFlag_boot (s : State) (off : Nat) (n : Nat) : (s.setFlag off n).boot = s.boot := rfl
@[simp] theorem State.setFlag_lanes (s : State) (off : Nat) (n : Nat) : (s.setFlag off n).lanes = s.lanes := rfl
@[simp] theorem State.setFlag_mem (s : State) (off : Nat) (n : Nat) : (s.setFlag off n).mem = s.mem := rfl
@[simp] theorem State.setFlag_axes (s : State) (off : Nat) (n : Nat) : (s.setFlag off n).axes = s.axes := rfl
@[simp] theorem State.setFlag_loc (s : State) (off : Nat) (n : Nat) : (s.setFlag off n).loc = s.loc := rfl
@[simp] theorem State.setFlag_cart (s : State) (off : Nat) (n : Nat) : (s.setFlag off n).cart = s.cart := rfl
@[simp] theorem State.setFlag_safe (s : State) (off : Nat) (n : Nat) : (s.setFlag off n).safe = s.safe := rfl
@[simp] theorem State.setFlag_acq (s : State) (off : Nat) (n : Nat) : (s.setFlag off n).acq = s.acq := rfl
@[simp] theorem State.setFlag_can (s : State) (off : Nat) (n : Nat) : (s.setFlag off n).can = s.can := rfl
@[simp] theorem State.setFlag_cycle (s : State) (off : Nat) (n : Nat) : (s.setFlag off n).cycle = s.cycle := rfl
@[simp] theorem State.setFlag_bnd (s : State) (off : Nat) (n : Nat) : (s.setFlag off n).bnd = s.bnd := rfl
@[simp] theorem State.setFlag_ntime (s : State) (off : Nat) (n : Nat) : (s.setFlag off n).ntime = s.ntime := rfl
@[simp] theorem State.clrFlag_pending (s : State) (off : Nat) (n : Nat) : (s.clrFlag off n).pending = s.pending := rfl
@[simp] theorem State.clrFlag_free (s : State) (off : Nat) (n : Nat) : (s.clrFlag off n).free = s.free := rfl
@[simp] theorem State.clrFlag_out (s : State) (off : Nat) (n : Nat) : (s.clrFlag off n).out = s.out := rfl
@[simp] theorem State.clrFlag_host (s : State) (off : Nat) (n : Nat) : (s.clrFlag off n).host = s.host := rfl
@[simp] theorem State.clrFlag_evt (s : State) (off : Nat) (n : Nat) : (s.clrFlag off n).evt = s.evt := rfl
@[simp] theorem State.clrFlag_cpu (s : State) (off : Nat) (n : Nat) : (s.clrFlag off n).cpu = s.cpu := rfl
@[simp] theorem State.clrFlag_net (s : State) (off : Nat) (n : Nat) : (s.clrFlag off n).net = s.net := rfl
@[simp] theorem State.clrFlag_tim (s : State) (off : Nat) (n : Nat) : (s.clrFlag off n).tim = s.tim := rfl
@[simp] theorem State.clrFlag_pilot (s : State) (off : Nat) (n : Nat) : (s.clrFlag off n).pilot = s.pilot := rfl
@[simp] theorem State.clrFlag_helm (s : State) (off : Nat) (n : Nat) : (s.clrFlag off n).helm = s.helm := rfl
@[simp] theorem State.clrFlag_boot (s : State) (off : Nat) (n : Nat) : (s.clrFlag off n).boot = s.boot := rfl
@[simp] theorem State.clrFlag_lanes (s : State) (off : Nat) (n : Nat) : (s.clrFlag off n).lanes = s.lanes := rfl
@[simp] theorem State.clrFlag_mem (s : State) (off : Nat) (n : Nat) : (s.clrFlag off n).mem = s.mem := rfl
@[simp] theorem State.clrFlag_axes (s : State) (off : Nat) (n : Nat) : (s.clrFlag off n).axes = s.axes := rfl
@[simp] theorem State.clrFlag_loc (s : State) (off : Nat) (n : Nat) : (s.clrFlag off n).loc = s.loc := rfl
@[simp] theorem State.clrFlag_cart (s : State) (off : Nat) (n : Nat) : (s.clrFlag off n).cart = s.cart := rfl
@[simp] theorem State.clrFlag_safe (s : State) (off : Nat) (n : Nat) : (s.clrFlag off n).safe = s.safe := rfl
@[simp] theorem State.clrFlag_acq (s : State) (off : Nat) (n : Nat) : (s.clrFlag off n).acq = s.acq := rfl
@[simp] theorem State.clrFlag_can (s : State) (off : Nat) (n : Nat) : (s.clrFlag off n).can = s.can := rfl
@[simp] theorem State.clrFlag_cycle (s : State) (off : Nat) (n : Nat) : (s.clrFlag off n).cycle = s.cycle := rfl
@[simp] theorem State.clrFlag_bnd (s : State) (off : Nat) (n : Nat) : (s.clrFlag off n).bnd = s.bnd := rfl
@[simp] theorem State.clrFlag_ntime (s : State) (off : Nat) (n : Nat) : (s.clrFlag off n).ntime = s.ntime := rfl
@[simp] theorem State.putFlag_pending (s : State) (off : Nat) (n : Nat) (b : Bool) : (s.putFlag off n b).pending = s.pending := rfl
@[simp] theorem State.putFlag_free (s : State) (off : Nat) (n : Nat) (b : Bool) : (s.putFlag off n b).free = s.free := rfl
@[simp] theorem State.putFlag_out (s : State) (off : Nat) (n : Nat) (b : Bool) : (s.putFlag off n b).out = s.out := rfl
@[simp] theorem State.putFlag_host (s : State) (off : Nat) (n : Nat) (b : Bool) : (s.putFlag off n b).host = s.host := rfl
@[simp] theorem State.putFlag_evt (s : State) (off : Nat) (n : Nat) (b : Bool) : (s.putFlag off n b).evt = s.evt := rfl
@[simp] theorem State.putFlag_cpu (s : State) (off : Nat) (n : Nat) (b : Bool) : (s.putFlag off n b).cpu = s.cpu := rfl
@[simp] theorem State.putFlag_net (s : State) (off : Nat) (n : Nat) (b : Bool) : (s.putFlag off n b).net = s.net := rfl
@[simp] theorem State.putFlag_tim (s : State) (off : Nat) (n : Nat) (b : Bool) : (s.putFlag off n b).tim = s.tim := rfl
@[simp] theorem State.putFlag_pilot (s : State) (off : Nat) (n : Nat) (b : Bool) : (s.putFlag off n b).pilot = s.pilot := rfl
@[simp] theorem State.putFlag_helm (s : State) (off : Nat) (n : Nat) (b : Bool) : (s.putFlag off n b).helm = s.helm := rfl
@[simp] theorem State.putFlag_boot (s : State) (off : Nat) (n : Nat) (b : Bool) : (s.putFlag off n b).boot = s.boot := rfl
@[simp] theorem State.putFlag_lanes (s : State) (off : Nat) (n : Nat) (b : Bool) : (s.putFlag off n b).lanes = s.lanes := rfl
@[simp] theorem State.putFlag_mem (s : State) (off : Nat) (n : Nat) (b : Bool) : (s.putFlag off n b).mem = s.mem := rfl
@[simp] theorem State.putFlag_axes (s : State) (off : Nat) (n : Nat) (b : Bool) : (s.putFlag off n b).axes = s.axes := rfl
@[simp] theorem State.putFlag_loc (s : State) (off : Nat) (n : Nat) (b : Bool) : (s.putFlag off n b).loc = s.loc := rfl
@[simp] theorem State.putFlag_cart (s : State) (off : Nat) (n : Nat) (b : Bool) : (s.putFlag off n b).cart = s.cart := rfl
@[simp] theorem State.putFlag_safe (s : State) (off : Nat) (n : Nat) (b : Bool) : (s.putFlag off n b).safe = s.safe := rfl
@[simp] theorem State.putFlag_acq (s : State) (off : Nat) (n : Nat) (b : Bool) : (s.putFlag off n b).acq = s.acq := rfl
@[simp] theorem State.putFlag_can (s : State) (off : Nat) (n : Nat) (b : Bool) : (s.putFlag off n b).can = s.can := rfl
@[simp] theorem State.putFlag_cycle (s : State) (off : Nat) (n : Nat) (b : Bool) : (s.putFlag off n b).cycle = s.cycle := rfl
@[simp] theorem State.putFlag_bnd (s : State) (off : Nat) (n : Nat) (b : Bool) : (s.putFlag off n b).bnd = s.bnd := rfl
@[simp] theorem State.putFlag_ntime (s : State) (off : Nat) (n : Nat) (b : Bool) : (s.putFlag off n b).ntime = s.ntime := rfl
@[simp] theorem State.incFld_pending (s : State) (off : Nat) (hi : Nat) (lo : Nat) (i : Nat) : (s.incFld off hi lo i).pending = s.pending := rfl
@[simp] theorem State.incFld_free (s : State) (off : Nat) (hi : Nat) (lo : Nat) (i : Nat) : (s.incFld off hi lo i).free = s.free := rfl
@[simp] theorem State.incFld_out (s : State) (off : Nat) (hi : Nat) (lo : Nat) (i : Nat) : (s.incFld off hi lo i).out = s.out := rfl
@[simp] theorem State.incFld_host (s : State) (off : Nat) (hi : Nat) (lo : Nat) (i : Nat) : (s.incFld off hi lo i).host = s.host := rfl
@[simp] theorem State.incFld_evt (s : State) (off : Nat) (hi : Nat) (lo : Nat) (i : Nat) : (s.incFld off hi lo i).evt = s.evt := rfl
@[simp] theorem State.incFld_cpu (s : State) (off : Nat) (hi : Nat) (lo : Nat) (i : Nat) : (s.incFld off hi lo i).cpu = s.cpu := rfl
@[simp] theorem State.incFld_net (s : State) (off : Nat) (hi : Nat) (lo : Nat) (i : Nat) : (s.incFld off hi lo i).net = s.net := rfl
@[simp] theorem State.incFld_tim (s : State) (off : Nat) (hi : Nat) (lo : Nat) (i : Nat) : (s.incFld off hi lo i).tim = s.tim := rfl
@[simp] theorem State.incFld_pilot (s : State) (off : Nat) (hi : Nat) (lo : Nat) (i : Nat) : (s.incFld off hi lo i).pilot = s.pilot := rfl
@[simp] theorem State.incFld_helm (s : State) (off : Nat) (hi : Nat) (lo : Nat) (i : Nat) : (s.incFld off hi lo i).helm = s.helm := rfl
@[simp] theorem State.incFld_boot (s : State) (off : Nat) (hi : Nat) (lo : Nat) (i : Nat) : (s.incFld off hi lo i).boot = s.boot := rfl
@[simp] theorem State.incFld_lanes (s : State) (off : Nat) (hi : Nat) (lo : Nat) (i : Nat) : (s.incFld off hi lo i).lanes = s.lanes := rfl
@[simp] theorem State.incFld_mem (s : State) (off : Nat) (hi : Nat) (lo : Nat) (i : Nat) : (s.incFld off hi lo i).mem = s.mem := rfl
@[simp] theorem State.incFld_axes (s : State) (off : Nat) (hi : Nat) (lo : Nat) (i : Nat) : (s.incFld off hi lo i).axes = s.axes := rfl
@[simp] theorem State.incFld_loc (s : State) (off : Nat) (hi : Nat) (lo : Nat) (i : Nat) : (s.incFld off hi lo i).loc = s.loc := rfl
@[simp] theorem State.incFld_cart (s : State) (off : Nat) (hi : Nat) (lo : Nat) (i : Nat) : (s.incFld off hi lo i).cart = s.cart := rfl
@[simp] theorem State.incFld_safe (s : State) (off : Nat) (hi : Nat) (lo : Nat) (i : Nat) : (s.incFld off hi lo i).safe = s.safe := rfl
@[simp] theorem State.incFld_acq (s : State) (off : Nat) (hi : Nat) (lo : Nat) (i : Nat) : (s.incFld off hi lo i).acq = s.acq := rfl
@[simp] theorem State.incFld_can (s : State) (off : Nat) (hi : Nat) (lo : Nat) (i : Nat) : (s.incFld off hi lo i).can = s.can := rfl
@[simp] theorem State.incFld_cycle (s : State) (off : Nat) (hi : Nat) (lo : Nat) (i : Nat) : (s.incFld off hi lo i).cycle = s.cycle := rfl
@[simp] theorem State.incFld_bnd (s : State) (off : Nat) (hi : Nat) (lo : Nat) (i : Nat) : (s.incFld off hi lo i).bnd = s.bnd := rfl
@[simp] theorem State.incFld_ntime (s : State) (off : Nat) (hi : Nat) (lo : Nat) (i : Nat) : (s.incFld off hi lo i).ntime = s.ntime := rfl
@[simp] theorem State.emit_pending (s : State) (e : Emit) : (s.emit e).pending = s.pending := rfl
@[simp] theorem State.emit_free (s : State) (e : Emit) : (s.emit e).free = s.free := rfl
@[simp] theorem State.emit_regs (s : State) (e : Emit) : (s.emit e).regs = s.regs := rfl
@[simp] theorem State.emit_host (s : State) (e : Emit) : (s.emit e).host = s.host := rfl
@[simp] theorem State.emit_evt (s : State) (e : Emit) : (s.emit e).evt = s.evt := rfl
@[simp] theorem State.emit_cpu (s : State) (e : Emit) : (s.emit e).cpu = s.cpu := rfl
@[simp] theorem State.emit_net (s : State) (e : Emit) : (s.emit e).net = s.net := rfl
@[simp] theorem State.emit_tim (s : State) (e : Emit) : (s.emit e).tim = s.tim := rfl
@[simp] theorem State.emit_pilot (s : State) (e : Emit) : (s.emit e).pilot = s.pilot := rfl
@[simp] theorem State.emit_helm (s : State) (e : Emit) : (s.emit e).helm = s.helm := rfl
@[simp] theorem State.emit_boot (s : State) (e : Emit) : (s.emit e).boot = s.boot := rfl
@[simp] theorem State.emit_lanes (s : State) (e : Emit) : (s.emit e).lanes = s.lanes := rfl
@[simp] theorem State.emit_mem (s : State) (e : Emit) : (s.emit e).mem = s.mem := rfl
@[simp] theorem State.emit_axes (s : State) (e : Emit) : (s.emit e).axes = s.axes := rfl
@[simp] theorem State.emit_loc (s : State) (e : Emit) : (s.emit e).loc = s.loc := rfl
@[simp] theorem State.emit_cart (s : State) (e : Emit) : (s.emit e).cart = s.cart := rfl
@[simp] theorem State.emit_safe (s : State) (e : Emit) : (s.emit e).safe = s.safe := rfl
@[simp] theorem State.emit_acq (s : State) (e : Emit) : (s.emit e).acq = s.acq := rfl
@[simp] theorem State.emit_can (s : State) (e : Emit) : (s.emit e).can = s.can := rfl
@[simp] theorem State.emit_cycle (s : State) (e : Emit) : (s.emit e).cycle = s.cycle := rfl
@[simp] theorem State.emit_bnd (s : State) (e : Emit) : (s.emit e).bnd = s.bnd := rfl
@[simp] theorem State.emit_ntime (s : State) (e : Emit) : (s.emit e).ntime = s.ntime := rfl
@[simp] theorem State.draw_pending (s : State) : (s.draw).pending = s.pending := rfl
@[simp] theorem State.draw_out (s : State) : (s.draw).out = s.out := rfl
@[simp] theorem State.draw_regs (s : State) : (s.draw).regs = s.regs := rfl
@[simp] theorem State.draw_host (s : State) : (s.draw).host = s.host := rfl
@[simp] theorem State.draw_evt (s : State) : (s.draw).evt = s.evt := rfl
@[simp] theorem State.draw_cpu (s : State) : (s.draw).cpu = s.cpu := rfl
@[simp] theorem State.draw_net (s : State) : (s.draw).net = s.net := rfl
@[simp] theorem State.draw_tim (s : State) : (s.draw).tim = s.tim := rfl
@[simp] theorem State.draw_pilot (s : State) : (s.draw).pilot = s.pilot := rfl
@[simp] theorem State.draw_helm (s : State) : (s.draw).helm = s.helm := rfl
@[simp] theorem State.draw_boot (s : State) : (s.draw).boot = s.boot := rfl
@[simp] theorem State.draw_lanes (s : State) : (s.draw).lanes = s.lanes := rfl
@[simp] theorem State.draw_mem (s : State) : (s.draw).mem = s.mem := rfl
@[simp] theorem State.draw_axes (s : State) : (s.draw).axes = s.axes := rfl
@[simp] theorem State.draw_loc (s : State) : (s.draw).loc = s.loc := rfl
@[simp] theorem State.draw_cart (s : State) : (s.draw).cart = s.cart := rfl
@[simp] theorem State.draw_safe (s : State) : (s.draw).safe = s.safe := rfl
@[simp] theorem State.draw_acq (s : State) : (s.draw).acq = s.acq := rfl
@[simp] theorem State.draw_can (s : State) : (s.draw).can = s.can := rfl
@[simp] theorem State.draw_cycle (s : State) : (s.draw).cycle = s.cycle := rfl
@[simp] theorem State.draw_bnd (s : State) : (s.draw).bnd = s.bnd := rfl
@[simp] theorem State.draw_ntime (s : State) : (s.draw).ntime = s.ntime := rfl
@[simp] theorem State.setRingX_pending (s : State) (r : Nat) (x : RingX) : (s.setRingX r x).pending = s.pending := rfl
@[simp] theorem State.setRingX_free (s : State) (r : Nat) (x : RingX) : (s.setRingX r x).free = s.free := rfl
@[simp] theorem State.setRingX_out (s : State) (r : Nat) (x : RingX) : (s.setRingX r x).out = s.out := rfl
@[simp] theorem State.setRingX_regs (s : State) (r : Nat) (x : RingX) : (s.setRingX r x).regs = s.regs := rfl
@[simp] theorem State.setRingX_evt (s : State) (r : Nat) (x : RingX) : (s.setRingX r x).evt = s.evt := rfl
@[simp] theorem State.setRingX_cpu (s : State) (r : Nat) (x : RingX) : (s.setRingX r x).cpu = s.cpu := rfl
@[simp] theorem State.setRingX_net (s : State) (r : Nat) (x : RingX) : (s.setRingX r x).net = s.net := rfl
@[simp] theorem State.setRingX_tim (s : State) (r : Nat) (x : RingX) : (s.setRingX r x).tim = s.tim := rfl
@[simp] theorem State.setRingX_pilot (s : State) (r : Nat) (x : RingX) : (s.setRingX r x).pilot = s.pilot := rfl
@[simp] theorem State.setRingX_helm (s : State) (r : Nat) (x : RingX) : (s.setRingX r x).helm = s.helm := rfl
@[simp] theorem State.setRingX_boot (s : State) (r : Nat) (x : RingX) : (s.setRingX r x).boot = s.boot := rfl
@[simp] theorem State.setRingX_lanes (s : State) (r : Nat) (x : RingX) : (s.setRingX r x).lanes = s.lanes := rfl
@[simp] theorem State.setRingX_mem (s : State) (r : Nat) (x : RingX) : (s.setRingX r x).mem = s.mem := rfl
@[simp] theorem State.setRingX_axes (s : State) (r : Nat) (x : RingX) : (s.setRingX r x).axes = s.axes := rfl
@[simp] theorem State.setRingX_loc (s : State) (r : Nat) (x : RingX) : (s.setRingX r x).loc = s.loc := rfl
@[simp] theorem State.setRingX_cart (s : State) (r : Nat) (x : RingX) : (s.setRingX r x).cart = s.cart := rfl
@[simp] theorem State.setRingX_safe (s : State) (r : Nat) (x : RingX) : (s.setRingX r x).safe = s.safe := rfl
@[simp] theorem State.setRingX_acq (s : State) (r : Nat) (x : RingX) : (s.setRingX r x).acq = s.acq := rfl
@[simp] theorem State.setRingX_can (s : State) (r : Nat) (x : RingX) : (s.setRingX r x).can = s.can := rfl
@[simp] theorem State.setRingX_cycle (s : State) (r : Nat) (x : RingX) : (s.setRingX r x).cycle = s.cycle := rfl
@[simp] theorem State.setRingX_bnd (s : State) (r : Nat) (x : RingX) : (s.setRingX r x).bnd = s.bnd := rfl
@[simp] theorem State.setRingX_ntime (s : State) (r : Nat) (x : RingX) : (s.setRingX r x).ntime = s.ntime := rfl
@[simp] theorem State.defer_pending (s : State) (x : Due) : (s.defer x).pending = s.pending := rfl
@[simp] theorem State.defer_free (s : State) (x : Due) : (s.defer x).free = s.free := rfl
@[simp] theorem State.defer_out (s : State) (x : Due) : (s.defer x).out = s.out := rfl
@[simp] theorem State.defer_regs (s : State) (x : Due) : (s.defer x).regs = s.regs := rfl
@[simp] theorem State.defer_evt (s : State) (x : Due) : (s.defer x).evt = s.evt := rfl
@[simp] theorem State.defer_cpu (s : State) (x : Due) : (s.defer x).cpu = s.cpu := rfl
@[simp] theorem State.defer_net (s : State) (x : Due) : (s.defer x).net = s.net := rfl
@[simp] theorem State.defer_tim (s : State) (x : Due) : (s.defer x).tim = s.tim := rfl
@[simp] theorem State.defer_pilot (s : State) (x : Due) : (s.defer x).pilot = s.pilot := rfl
@[simp] theorem State.defer_helm (s : State) (x : Due) : (s.defer x).helm = s.helm := rfl
@[simp] theorem State.defer_boot (s : State) (x : Due) : (s.defer x).boot = s.boot := rfl
@[simp] theorem State.defer_lanes (s : State) (x : Due) : (s.defer x).lanes = s.lanes := rfl
@[simp] theorem State.defer_mem (s : State) (x : Due) : (s.defer x).mem = s.mem := rfl
@[simp] theorem State.defer_axes (s : State) (x : Due) : (s.defer x).axes = s.axes := rfl
@[simp] theorem State.defer_loc (s : State) (x : Due) : (s.defer x).loc = s.loc := rfl
@[simp] theorem State.defer_cart (s : State) (x : Due) : (s.defer x).cart = s.cart := rfl
@[simp] theorem State.defer_safe (s : State) (x : Due) : (s.defer x).safe = s.safe := rfl
@[simp] theorem State.defer_acq (s : State) (x : Due) : (s.defer x).acq = s.acq := rfl
@[simp] theorem State.defer_can (s : State) (x : Due) : (s.defer x).can = s.can := rfl
@[simp] theorem State.defer_cycle (s : State) (x : Due) : (s.defer x).cycle = s.cycle := rfl
@[simp] theorem State.defer_bnd (s : State) (x : Due) : (s.defer x).bnd = s.bnd := rfl
@[simp] theorem State.defer_ntime (s : State) (x : Due) : (s.defer x).ntime = s.ntime := rfl
@[simp] theorem State.atBoundary_pending (s : State) (src : Src) (opc : Nat) (d : Desc) (data : List Byte) (aux : Nat) : (s.atBoundary src opc d data aux).pending = s.pending := rfl
@[simp] theorem State.atBoundary_free (s : State) (src : Src) (opc : Nat) (d : Desc) (data : List Byte) (aux : Nat) : (s.atBoundary src opc d data aux).free = s.free := rfl
@[simp] theorem State.atBoundary_out (s : State) (src : Src) (opc : Nat) (d : Desc) (data : List Byte) (aux : Nat) : (s.atBoundary src opc d data aux).out = s.out := rfl
@[simp] theorem State.atBoundary_regs (s : State) (src : Src) (opc : Nat) (d : Desc) (data : List Byte) (aux : Nat) : (s.atBoundary src opc d data aux).regs = s.regs := rfl
@[simp] theorem State.atBoundary_evt (s : State) (src : Src) (opc : Nat) (d : Desc) (data : List Byte) (aux : Nat) : (s.atBoundary src opc d data aux).evt = s.evt := rfl
@[simp] theorem State.atBoundary_cpu (s : State) (src : Src) (opc : Nat) (d : Desc) (data : List Byte) (aux : Nat) : (s.atBoundary src opc d data aux).cpu = s.cpu := rfl
@[simp] theorem State.atBoundary_net (s : State) (src : Src) (opc : Nat) (d : Desc) (data : List Byte) (aux : Nat) : (s.atBoundary src opc d data aux).net = s.net := rfl
@[simp] theorem State.atBoundary_tim (s : State) (src : Src) (opc : Nat) (d : Desc) (data : List Byte) (aux : Nat) : (s.atBoundary src opc d data aux).tim = s.tim := rfl
@[simp] theorem State.atBoundary_pilot (s : State) (src : Src) (opc : Nat) (d : Desc) (data : List Byte) (aux : Nat) : (s.atBoundary src opc d data aux).pilot = s.pilot := rfl
@[simp] theorem State.atBoundary_helm (s : State) (src : Src) (opc : Nat) (d : Desc) (data : List Byte) (aux : Nat) : (s.atBoundary src opc d data aux).helm = s.helm := rfl
@[simp] theorem State.atBoundary_boot (s : State) (src : Src) (opc : Nat) (d : Desc) (data : List Byte) (aux : Nat) : (s.atBoundary src opc d data aux).boot = s.boot := rfl
@[simp] theorem State.atBoundary_lanes (s : State) (src : Src) (opc : Nat) (d : Desc) (data : List Byte) (aux : Nat) : (s.atBoundary src opc d data aux).lanes = s.lanes := rfl
@[simp] theorem State.atBoundary_mem (s : State) (src : Src) (opc : Nat) (d : Desc) (data : List Byte) (aux : Nat) : (s.atBoundary src opc d data aux).mem = s.mem := rfl
@[simp] theorem State.atBoundary_axes (s : State) (src : Src) (opc : Nat) (d : Desc) (data : List Byte) (aux : Nat) : (s.atBoundary src opc d data aux).axes = s.axes := rfl
@[simp] theorem State.atBoundary_loc (s : State) (src : Src) (opc : Nat) (d : Desc) (data : List Byte) (aux : Nat) : (s.atBoundary src opc d data aux).loc = s.loc := rfl
@[simp] theorem State.atBoundary_cart (s : State) (src : Src) (opc : Nat) (d : Desc) (data : List Byte) (aux : Nat) : (s.atBoundary src opc d data aux).cart = s.cart := rfl
@[simp] theorem State.atBoundary_safe (s : State) (src : Src) (opc : Nat) (d : Desc) (data : List Byte) (aux : Nat) : (s.atBoundary src opc d data aux).safe = s.safe := rfl
@[simp] theorem State.atBoundary_acq (s : State) (src : Src) (opc : Nat) (d : Desc) (data : List Byte) (aux : Nat) : (s.atBoundary src opc d data aux).acq = s.acq := rfl
@[simp] theorem State.atBoundary_can (s : State) (src : Src) (opc : Nat) (d : Desc) (data : List Byte) (aux : Nat) : (s.atBoundary src opc d data aux).can = s.can := rfl
@[simp] theorem State.atBoundary_cycle (s : State) (src : Src) (opc : Nat) (d : Desc) (data : List Byte) (aux : Nat) : (s.atBoundary src opc d data aux).cycle = s.cycle := rfl
@[simp] theorem State.atBoundary_bnd (s : State) (src : Src) (opc : Nat) (d : Desc) (data : List Byte) (aux : Nat) : (s.atBoundary src opc d data aux).bnd = s.bnd := rfl
@[simp] theorem State.atBoundary_ntime (s : State) (src : Src) (opc : Nat) (d : Desc) (data : List Byte) (aux : Nat) : (s.atBoundary src opc d data aux).ntime = s.ntime := rfl
@[simp] theorem State.release_pending (s : State) (src : Src) (opc : Nat) (d : Desc) : (s.release src opc d).pending = s.pending := rfl
@[simp] theorem State.release_free (s : State) (src : Src) (opc : Nat) (d : Desc) : (s.release src opc d).free = s.free := rfl
@[simp] theorem State.release_out (s : State) (src : Src) (opc : Nat) (d : Desc) : (s.release src opc d).out = s.out := rfl
@[simp] theorem State.release_regs (s : State) (src : Src) (opc : Nat) (d : Desc) : (s.release src opc d).regs = s.regs := rfl
@[simp] theorem State.release_evt (s : State) (src : Src) (opc : Nat) (d : Desc) : (s.release src opc d).evt = s.evt := rfl
@[simp] theorem State.release_cpu (s : State) (src : Src) (opc : Nat) (d : Desc) : (s.release src opc d).cpu = s.cpu := rfl
@[simp] theorem State.release_net (s : State) (src : Src) (opc : Nat) (d : Desc) : (s.release src opc d).net = s.net := rfl
@[simp] theorem State.release_tim (s : State) (src : Src) (opc : Nat) (d : Desc) : (s.release src opc d).tim = s.tim := rfl
@[simp] theorem State.release_pilot (s : State) (src : Src) (opc : Nat) (d : Desc) : (s.release src opc d).pilot = s.pilot := rfl
@[simp] theorem State.release_helm (s : State) (src : Src) (opc : Nat) (d : Desc) : (s.release src opc d).helm = s.helm := rfl
@[simp] theorem State.release_boot (s : State) (src : Src) (opc : Nat) (d : Desc) : (s.release src opc d).boot = s.boot := rfl
@[simp] theorem State.release_lanes (s : State) (src : Src) (opc : Nat) (d : Desc) : (s.release src opc d).lanes = s.lanes := rfl
@[simp] theorem State.release_mem (s : State) (src : Src) (opc : Nat) (d : Desc) : (s.release src opc d).mem = s.mem := rfl
@[simp] theorem State.release_axes (s : State) (src : Src) (opc : Nat) (d : Desc) : (s.release src opc d).axes = s.axes := rfl
@[simp] theorem State.release_loc (s : State) (src : Src) (opc : Nat) (d : Desc) : (s.release src opc d).loc = s.loc := rfl
@[simp] theorem State.release_cart (s : State) (src : Src) (opc : Nat) (d : Desc) : (s.release src opc d).cart = s.cart := rfl
@[simp] theorem State.release_safe (s : State) (src : Src) (opc : Nat) (d : Desc) : (s.release src opc d).safe = s.safe := rfl
@[simp] theorem State.release_acq (s : State) (src : Src) (opc : Nat) (d : Desc) : (s.release src opc d).acq = s.acq := rfl
@[simp] theorem State.release_can (s : State) (src : Src) (opc : Nat) (d : Desc) : (s.release src opc d).can = s.can := rfl
@[simp] theorem State.release_cycle (s : State) (src : Src) (opc : Nat) (d : Desc) : (s.release src opc d).cycle = s.cycle := rfl
@[simp] theorem State.release_bnd (s : State) (src : Src) (opc : Nat) (d : Desc) : (s.release src opc d).bnd = s.bnd := rfl
@[simp] theorem State.release_ntime (s : State) (src : Src) (opc : Nat) (d : Desc) : (s.release src opc d).ntime = s.ntime := rfl
@[simp] theorem State.stagePlan_pending (s : State) (x : Staged) : (s.stagePlan x).pending = s.pending := rfl
@[simp] theorem State.stagePlan_free (s : State) (x : Staged) : (s.stagePlan x).free = s.free := rfl
@[simp] theorem State.stagePlan_out (s : State) (x : Staged) : (s.stagePlan x).out = s.out := rfl
@[simp] theorem State.stagePlan_regs (s : State) (x : Staged) : (s.stagePlan x).regs = s.regs := rfl
@[simp] theorem State.stagePlan_evt (s : State) (x : Staged) : (s.stagePlan x).evt = s.evt := rfl
@[simp] theorem State.stagePlan_cpu (s : State) (x : Staged) : (s.stagePlan x).cpu = s.cpu := rfl
@[simp] theorem State.stagePlan_net (s : State) (x : Staged) : (s.stagePlan x).net = s.net := rfl
@[simp] theorem State.stagePlan_tim (s : State) (x : Staged) : (s.stagePlan x).tim = s.tim := rfl
@[simp] theorem State.stagePlan_pilot (s : State) (x : Staged) : (s.stagePlan x).pilot = s.pilot := rfl
@[simp] theorem State.stagePlan_helm (s : State) (x : Staged) : (s.stagePlan x).helm = s.helm := rfl
@[simp] theorem State.stagePlan_boot (s : State) (x : Staged) : (s.stagePlan x).boot = s.boot := rfl
@[simp] theorem State.stagePlan_lanes (s : State) (x : Staged) : (s.stagePlan x).lanes = s.lanes := rfl
@[simp] theorem State.stagePlan_mem (s : State) (x : Staged) : (s.stagePlan x).mem = s.mem := rfl
@[simp] theorem State.stagePlan_axes (s : State) (x : Staged) : (s.stagePlan x).axes = s.axes := rfl
@[simp] theorem State.stagePlan_loc (s : State) (x : Staged) : (s.stagePlan x).loc = s.loc := rfl
@[simp] theorem State.stagePlan_cart (s : State) (x : Staged) : (s.stagePlan x).cart = s.cart := rfl
@[simp] theorem State.stagePlan_safe (s : State) (x : Staged) : (s.stagePlan x).safe = s.safe := rfl
@[simp] theorem State.stagePlan_acq (s : State) (x : Staged) : (s.stagePlan x).acq = s.acq := rfl
@[simp] theorem State.stagePlan_can (s : State) (x : Staged) : (s.stagePlan x).can = s.can := rfl
@[simp] theorem State.stagePlan_cycle (s : State) (x : Staged) : (s.stagePlan x).cycle = s.cycle := rfl
@[simp] theorem State.stagePlan_bnd (s : State) (x : Staged) : (s.stagePlan x).bnd = s.bnd := rfl
@[simp] theorem State.stagePlan_ntime (s : State) (x : Staged) : (s.stagePlan x).ntime = s.ntime := rfl
@[simp] theorem State.setNode_pending (s : State) (a : Nat) (n : Node) : (s.setNode a n).pending = s.pending := rfl
@[simp] theorem State.setNode_free (s : State) (a : Nat) (n : Node) : (s.setNode a n).free = s.free := rfl
@[simp] theorem State.setNode_out (s : State) (a : Nat) (n : Node) : (s.setNode a n).out = s.out := rfl
@[simp] theorem State.setNode_regs (s : State) (a : Nat) (n : Node) : (s.setNode a n).regs = s.regs := rfl
@[simp] theorem State.setNode_host (s : State) (a : Nat) (n : Node) : (s.setNode a n).host = s.host := rfl
@[simp] theorem State.setNode_evt (s : State) (a : Nat) (n : Node) : (s.setNode a n).evt = s.evt := rfl
@[simp] theorem State.setNode_cpu (s : State) (a : Nat) (n : Node) : (s.setNode a n).cpu = s.cpu := rfl
@[simp] theorem State.setNode_tim (s : State) (a : Nat) (n : Node) : (s.setNode a n).tim = s.tim := rfl
@[simp] theorem State.setNode_pilot (s : State) (a : Nat) (n : Node) : (s.setNode a n).pilot = s.pilot := rfl
@[simp] theorem State.setNode_helm (s : State) (a : Nat) (n : Node) : (s.setNode a n).helm = s.helm := rfl
@[simp] theorem State.setNode_boot (s : State) (a : Nat) (n : Node) : (s.setNode a n).boot = s.boot := rfl
@[simp] theorem State.setNode_lanes (s : State) (a : Nat) (n : Node) : (s.setNode a n).lanes = s.lanes := rfl
@[simp] theorem State.setNode_mem (s : State) (a : Nat) (n : Node) : (s.setNode a n).mem = s.mem := rfl
@[simp] theorem State.setNode_axes (s : State) (a : Nat) (n : Node) : (s.setNode a n).axes = s.axes := rfl
@[simp] theorem State.setNode_loc (s : State) (a : Nat) (n : Node) : (s.setNode a n).loc = s.loc := rfl
@[simp] theorem State.setNode_cart (s : State) (a : Nat) (n : Node) : (s.setNode a n).cart = s.cart := rfl
@[simp] theorem State.setNode_safe (s : State) (a : Nat) (n : Node) : (s.setNode a n).safe = s.safe := rfl
@[simp] theorem State.setNode_acq (s : State) (a : Nat) (n : Node) : (s.setNode a n).acq = s.acq := rfl
@[simp] theorem State.setNode_can (s : State) (a : Nat) (n : Node) : (s.setNode a n).can = s.can := rfl
@[simp] theorem State.setNode_cycle (s : State) (a : Nat) (n : Node) : (s.setNode a n).cycle = s.cycle := rfl
@[simp] theorem State.setNode_bnd (s : State) (a : Nat) (n : Node) : (s.setNode a n).bnd = s.bnd := rfl
@[simp] theorem State.setNode_ntime (s : State) (a : Nat) (n : Node) : (s.setNode a n).ntime = s.ntime := rfl
@[simp] theorem State.setOps_pending (s : State) (l : List NetOp) : (s.setOps l).pending = s.pending := rfl
@[simp] theorem State.setOps_free (s : State) (l : List NetOp) : (s.setOps l).free = s.free := rfl
@[simp] theorem State.setOps_out (s : State) (l : List NetOp) : (s.setOps l).out = s.out := rfl
@[simp] theorem State.setOps_regs (s : State) (l : List NetOp) : (s.setOps l).regs = s.regs := rfl
@[simp] theorem State.setOps_host (s : State) (l : List NetOp) : (s.setOps l).host = s.host := rfl
@[simp] theorem State.setOps_evt (s : State) (l : List NetOp) : (s.setOps l).evt = s.evt := rfl
@[simp] theorem State.setOps_cpu (s : State) (l : List NetOp) : (s.setOps l).cpu = s.cpu := rfl
@[simp] theorem State.setOps_tim (s : State) (l : List NetOp) : (s.setOps l).tim = s.tim := rfl
@[simp] theorem State.setOps_pilot (s : State) (l : List NetOp) : (s.setOps l).pilot = s.pilot := rfl
@[simp] theorem State.setOps_helm (s : State) (l : List NetOp) : (s.setOps l).helm = s.helm := rfl
@[simp] theorem State.setOps_boot (s : State) (l : List NetOp) : (s.setOps l).boot = s.boot := rfl
@[simp] theorem State.setOps_lanes (s : State) (l : List NetOp) : (s.setOps l).lanes = s.lanes := rfl
@[simp] theorem State.setOps_mem (s : State) (l : List NetOp) : (s.setOps l).mem = s.mem := rfl
@[simp] theorem State.setOps_axes (s : State) (l : List NetOp) : (s.setOps l).axes = s.axes := rfl
@[simp] theorem State.setOps_loc (s : State) (l : List NetOp) : (s.setOps l).loc = s.loc := rfl
@[simp] theorem State.setOps_cart (s : State) (l : List NetOp) : (s.setOps l).cart = s.cart := rfl
@[simp] theorem State.setOps_safe (s : State) (l : List NetOp) : (s.setOps l).safe = s.safe := rfl
@[simp] theorem State.setOps_acq (s : State) (l : List NetOp) : (s.setOps l).acq = s.acq := rfl
@[simp] theorem State.setOps_can (s : State) (l : List NetOp) : (s.setOps l).can = s.can := rfl
@[simp] theorem State.setOps_cycle (s : State) (l : List NetOp) : (s.setOps l).cycle = s.cycle := rfl
@[simp] theorem State.setOps_bnd (s : State) (l : List NetOp) : (s.setOps l).bnd = s.bnd := rfl
@[simp] theorem State.setOps_ntime (s : State) (l : List NetOp) : (s.setOps l).ntime = s.ntime := rfl
@[simp] theorem State.addOp_pending (s : State) (o : NetOp) : (s.addOp o).pending = s.pending := rfl
@[simp] theorem State.addOp_free (s : State) (o : NetOp) : (s.addOp o).free = s.free := rfl
@[simp] theorem State.addOp_out (s : State) (o : NetOp) : (s.addOp o).out = s.out := rfl
@[simp] theorem State.addOp_regs (s : State) (o : NetOp) : (s.addOp o).regs = s.regs := rfl
@[simp] theorem State.addOp_host (s : State) (o : NetOp) : (s.addOp o).host = s.host := rfl
@[simp] theorem State.addOp_evt (s : State) (o : NetOp) : (s.addOp o).evt = s.evt := rfl
@[simp] theorem State.addOp_cpu (s : State) (o : NetOp) : (s.addOp o).cpu = s.cpu := rfl
@[simp] theorem State.addOp_tim (s : State) (o : NetOp) : (s.addOp o).tim = s.tim := rfl
@[simp] theorem State.addOp_pilot (s : State) (o : NetOp) : (s.addOp o).pilot = s.pilot := rfl
@[simp] theorem State.addOp_helm (s : State) (o : NetOp) : (s.addOp o).helm = s.helm := rfl
@[simp] theorem State.addOp_boot (s : State) (o : NetOp) : (s.addOp o).boot = s.boot := rfl
@[simp] theorem State.addOp_lanes (s : State) (o : NetOp) : (s.addOp o).lanes = s.lanes := rfl
@[simp] theorem State.addOp_mem (s : State) (o : NetOp) : (s.addOp o).mem = s.mem := rfl
@[simp] theorem State.addOp_axes (s : State) (o : NetOp) : (s.addOp o).axes = s.axes := rfl
@[simp] theorem State.addOp_loc (s : State) (o : NetOp) : (s.addOp o).loc = s.loc := rfl
@[simp] theorem State.addOp_cart (s : State) (o : NetOp) : (s.addOp o).cart = s.cart := rfl
@[simp] theorem State.addOp_safe (s : State) (o : NetOp) : (s.addOp o).safe = s.safe := rfl
@[simp] theorem State.addOp_acq (s : State) (o : NetOp) : (s.addOp o).acq = s.acq := rfl
@[simp] theorem State.addOp_can (s : State) (o : NetOp) : (s.addOp o).can = s.can := rfl
@[simp] theorem State.addOp_cycle (s : State) (o : NetOp) : (s.addOp o).cycle = s.cycle := rfl
@[simp] theorem State.addOp_bnd (s : State) (o : NetOp) : (s.addOp o).bnd = s.bnd := rfl
@[simp] theorem State.addOp_ntime (s : State) (o : NetOp) : (s.addOp o).ntime = s.ntime := rfl
@[simp] theorem State.queueDyn_pending (s : State) (m : DynMsg) : (s.queueDyn m).pending = s.pending := rfl
@[simp] theorem State.queueDyn_free (s : State) (m : DynMsg) : (s.queueDyn m).free = s.free := rfl
@[simp] theorem State.queueDyn_out (s : State) (m : DynMsg) : (s.queueDyn m).out = s.out := rfl
@[simp] theorem State.queueDyn_regs (s : State) (m : DynMsg) : (s.queueDyn m).regs = s.regs := rfl
@[simp] theorem State.queueDyn_host (s : State) (m : DynMsg) : (s.queueDyn m).host = s.host := rfl
@[simp] theorem State.queueDyn_evt (s : State) (m : DynMsg) : (s.queueDyn m).evt = s.evt := rfl
@[simp] theorem State.queueDyn_cpu (s : State) (m : DynMsg) : (s.queueDyn m).cpu = s.cpu := rfl
@[simp] theorem State.queueDyn_tim (s : State) (m : DynMsg) : (s.queueDyn m).tim = s.tim := rfl
@[simp] theorem State.queueDyn_pilot (s : State) (m : DynMsg) : (s.queueDyn m).pilot = s.pilot := rfl
@[simp] theorem State.queueDyn_helm (s : State) (m : DynMsg) : (s.queueDyn m).helm = s.helm := rfl
@[simp] theorem State.queueDyn_boot (s : State) (m : DynMsg) : (s.queueDyn m).boot = s.boot := rfl
@[simp] theorem State.queueDyn_lanes (s : State) (m : DynMsg) : (s.queueDyn m).lanes = s.lanes := rfl
@[simp] theorem State.queueDyn_mem (s : State) (m : DynMsg) : (s.queueDyn m).mem = s.mem := rfl
@[simp] theorem State.queueDyn_axes (s : State) (m : DynMsg) : (s.queueDyn m).axes = s.axes := rfl
@[simp] theorem State.queueDyn_loc (s : State) (m : DynMsg) : (s.queueDyn m).loc = s.loc := rfl
@[simp] theorem State.queueDyn_cart (s : State) (m : DynMsg) : (s.queueDyn m).cart = s.cart := rfl
@[simp] theorem State.queueDyn_safe (s : State) (m : DynMsg) : (s.queueDyn m).safe = s.safe := rfl
@[simp] theorem State.queueDyn_acq (s : State) (m : DynMsg) : (s.queueDyn m).acq = s.acq := rfl
@[simp] theorem State.queueDyn_can (s : State) (m : DynMsg) : (s.queueDyn m).can = s.can := rfl
@[simp] theorem State.queueDyn_cycle (s : State) (m : DynMsg) : (s.queueDyn m).cycle = s.cycle := rfl
@[simp] theorem State.queueDyn_bnd (s : State) (m : DynMsg) : (s.queueDyn m).bnd = s.bnd := rfl
@[simp] theorem State.queueDyn_ntime (s : State) (m : DynMsg) : (s.queueDyn m).ntime = s.ntime := rfl
@[simp] theorem State.queueBoom_pending (s : State) (addr : Nat) (close cmd : Bool) : (s.queueBoom addr close cmd).pending = s.pending := rfl
@[simp] theorem State.queueBoom_free (s : State) (addr : Nat) (close cmd : Bool) : (s.queueBoom addr close cmd).free = s.free := rfl
@[simp] theorem State.queueBoom_out (s : State) (addr : Nat) (close cmd : Bool) : (s.queueBoom addr close cmd).out = s.out := rfl
@[simp] theorem State.queueBoom_regs (s : State) (addr : Nat) (close cmd : Bool) : (s.queueBoom addr close cmd).regs = s.regs := rfl
@[simp] theorem State.queueBoom_host (s : State) (addr : Nat) (close cmd : Bool) : (s.queueBoom addr close cmd).host = s.host := rfl
@[simp] theorem State.queueBoom_evt (s : State) (addr : Nat) (close cmd : Bool) : (s.queueBoom addr close cmd).evt = s.evt := rfl
@[simp] theorem State.queueBoom_cpu (s : State) (addr : Nat) (close cmd : Bool) : (s.queueBoom addr close cmd).cpu = s.cpu := rfl
@[simp] theorem State.queueBoom_tim (s : State) (addr : Nat) (close cmd : Bool) : (s.queueBoom addr close cmd).tim = s.tim := rfl
@[simp] theorem State.queueBoom_pilot (s : State) (addr : Nat) (close cmd : Bool) : (s.queueBoom addr close cmd).pilot = s.pilot := rfl
@[simp] theorem State.queueBoom_helm (s : State) (addr : Nat) (close cmd : Bool) : (s.queueBoom addr close cmd).helm = s.helm := rfl
@[simp] theorem State.queueBoom_boot (s : State) (addr : Nat) (close cmd : Bool) : (s.queueBoom addr close cmd).boot = s.boot := rfl
@[simp] theorem State.queueBoom_lanes (s : State) (addr : Nat) (close cmd : Bool) : (s.queueBoom addr close cmd).lanes = s.lanes := rfl
@[simp] theorem State.queueBoom_mem (s : State) (addr : Nat) (close cmd : Bool) : (s.queueBoom addr close cmd).mem = s.mem := rfl
@[simp] theorem State.queueBoom_axes (s : State) (addr : Nat) (close cmd : Bool) : (s.queueBoom addr close cmd).axes = s.axes := rfl
@[simp] theorem State.queueBoom_loc (s : State) (addr : Nat) (close cmd : Bool) : (s.queueBoom addr close cmd).loc = s.loc := rfl
@[simp] theorem State.queueBoom_cart (s : State) (addr : Nat) (close cmd : Bool) : (s.queueBoom addr close cmd).cart = s.cart := rfl
@[simp] theorem State.queueBoom_safe (s : State) (addr : Nat) (close cmd : Bool) : (s.queueBoom addr close cmd).safe = s.safe := rfl
@[simp] theorem State.queueBoom_acq (s : State) (addr : Nat) (close cmd : Bool) : (s.queueBoom addr close cmd).acq = s.acq := rfl
@[simp] theorem State.queueBoom_can (s : State) (addr : Nat) (close cmd : Bool) : (s.queueBoom addr close cmd).can = s.can := rfl
@[simp] theorem State.queueBoom_cycle (s : State) (addr : Nat) (close cmd : Bool) : (s.queueBoom addr close cmd).cycle = s.cycle := rfl
@[simp] theorem State.queueBoom_bnd (s : State) (addr : Nat) (close cmd : Bool) : (s.queueBoom addr close cmd).bnd = s.bnd := rfl
@[simp] theorem State.queueBoom_ntime (s : State) (addr : Nat) (close cmd : Bool) : (s.queueBoom addr close cmd).ntime = s.ntime := rfl
@[simp] theorem State.setLane_pending (s : State) (l : Nat) (x : LaneSt) : (s.setLane l x).pending = s.pending := rfl
@[simp] theorem State.setLane_free (s : State) (l : Nat) (x : LaneSt) : (s.setLane l x).free = s.free := rfl
@[simp] theorem State.setLane_out (s : State) (l : Nat) (x : LaneSt) : (s.setLane l x).out = s.out := rfl
@[simp] theorem State.setLane_regs (s : State) (l : Nat) (x : LaneSt) : (s.setLane l x).regs = s.regs := rfl
@[simp] theorem State.setLane_host (s : State) (l : Nat) (x : LaneSt) : (s.setLane l x).host = s.host := rfl
@[simp] theorem State.setLane_evt (s : State) (l : Nat) (x : LaneSt) : (s.setLane l x).evt = s.evt := rfl
@[simp] theorem State.setLane_cpu (s : State) (l : Nat) (x : LaneSt) : (s.setLane l x).cpu = s.cpu := rfl
@[simp] theorem State.setLane_net (s : State) (l : Nat) (x : LaneSt) : (s.setLane l x).net = s.net := rfl
@[simp] theorem State.setLane_tim (s : State) (l : Nat) (x : LaneSt) : (s.setLane l x).tim = s.tim := rfl
@[simp] theorem State.setLane_pilot (s : State) (l : Nat) (x : LaneSt) : (s.setLane l x).pilot = s.pilot := rfl
@[simp] theorem State.setLane_helm (s : State) (l : Nat) (x : LaneSt) : (s.setLane l x).helm = s.helm := rfl
@[simp] theorem State.setLane_boot (s : State) (l : Nat) (x : LaneSt) : (s.setLane l x).boot = s.boot := rfl
@[simp] theorem State.setLane_mem (s : State) (l : Nat) (x : LaneSt) : (s.setLane l x).mem = s.mem := rfl
@[simp] theorem State.setLane_axes (s : State) (l : Nat) (x : LaneSt) : (s.setLane l x).axes = s.axes := rfl
@[simp] theorem State.setLane_loc (s : State) (l : Nat) (x : LaneSt) : (s.setLane l x).loc = s.loc := rfl
@[simp] theorem State.setLane_cart (s : State) (l : Nat) (x : LaneSt) : (s.setLane l x).cart = s.cart := rfl
@[simp] theorem State.setLane_safe (s : State) (l : Nat) (x : LaneSt) : (s.setLane l x).safe = s.safe := rfl
@[simp] theorem State.setLane_acq (s : State) (l : Nat) (x : LaneSt) : (s.setLane l x).acq = s.acq := rfl
@[simp] theorem State.setLane_can (s : State) (l : Nat) (x : LaneSt) : (s.setLane l x).can = s.can := rfl
@[simp] theorem State.setLane_cycle (s : State) (l : Nat) (x : LaneSt) : (s.setLane l x).cycle = s.cycle := rfl
@[simp] theorem State.setLane_bnd (s : State) (l : Nat) (x : LaneSt) : (s.setLane l x).bnd = s.bnd := rfl
@[simp] theorem State.setLane_ntime (s : State) (l : Nat) (x : LaneSt) : (s.setLane l x).ntime = s.ntime := rfl
@[simp] theorem State.setAxis_pending (s : State) (a : Nat) (x : AxisSt) : (s.setAxis a x).pending = s.pending := rfl
@[simp] theorem State.setAxis_free (s : State) (a : Nat) (x : AxisSt) : (s.setAxis a x).free = s.free := rfl
@[simp] theorem State.setAxis_out (s : State) (a : Nat) (x : AxisSt) : (s.setAxis a x).out = s.out := rfl
@[simp] theorem State.setAxis_regs (s : State) (a : Nat) (x : AxisSt) : (s.setAxis a x).regs = s.regs := rfl
@[simp] theorem State.setAxis_host (s : State) (a : Nat) (x : AxisSt) : (s.setAxis a x).host = s.host := rfl
@[simp] theorem State.setAxis_evt (s : State) (a : Nat) (x : AxisSt) : (s.setAxis a x).evt = s.evt := rfl
@[simp] theorem State.setAxis_cpu (s : State) (a : Nat) (x : AxisSt) : (s.setAxis a x).cpu = s.cpu := rfl
@[simp] theorem State.setAxis_net (s : State) (a : Nat) (x : AxisSt) : (s.setAxis a x).net = s.net := rfl
@[simp] theorem State.setAxis_tim (s : State) (a : Nat) (x : AxisSt) : (s.setAxis a x).tim = s.tim := rfl
@[simp] theorem State.setAxis_pilot (s : State) (a : Nat) (x : AxisSt) : (s.setAxis a x).pilot = s.pilot := rfl
@[simp] theorem State.setAxis_helm (s : State) (a : Nat) (x : AxisSt) : (s.setAxis a x).helm = s.helm := rfl
@[simp] theorem State.setAxis_boot (s : State) (a : Nat) (x : AxisSt) : (s.setAxis a x).boot = s.boot := rfl
@[simp] theorem State.setAxis_lanes (s : State) (a : Nat) (x : AxisSt) : (s.setAxis a x).lanes = s.lanes := rfl
@[simp] theorem State.setAxis_mem (s : State) (a : Nat) (x : AxisSt) : (s.setAxis a x).mem = s.mem := rfl
@[simp] theorem State.setAxis_loc (s : State) (a : Nat) (x : AxisSt) : (s.setAxis a x).loc = s.loc := rfl
@[simp] theorem State.setAxis_cart (s : State) (a : Nat) (x : AxisSt) : (s.setAxis a x).cart = s.cart := rfl
@[simp] theorem State.setAxis_safe (s : State) (a : Nat) (x : AxisSt) : (s.setAxis a x).safe = s.safe := rfl
@[simp] theorem State.setAxis_acq (s : State) (a : Nat) (x : AxisSt) : (s.setAxis a x).acq = s.acq := rfl
@[simp] theorem State.setAxis_can (s : State) (a : Nat) (x : AxisSt) : (s.setAxis a x).can = s.can := rfl
@[simp] theorem State.setAxis_cycle (s : State) (a : Nat) (x : AxisSt) : (s.setAxis a x).cycle = s.cycle := rfl
@[simp] theorem State.setAxis_bnd (s : State) (a : Nat) (x : AxisSt) : (s.setAxis a x).bnd = s.bnd := rfl
@[simp] theorem State.setAxis_ntime (s : State) (a : Nat) (x : AxisSt) : (s.setAxis a x).ntime = s.ntime := rfl
@[simp] theorem State.setProf_pending (s : State) (a : Nat) (c : ProfSt) : (s.setProf a c).pending = s.pending := rfl
@[simp] theorem State.setProf_free (s : State) (a : Nat) (c : ProfSt) : (s.setProf a c).free = s.free := rfl
@[simp] theorem State.setProf_out (s : State) (a : Nat) (c : ProfSt) : (s.setProf a c).out = s.out := rfl
@[simp] theorem State.setProf_regs (s : State) (a : Nat) (c : ProfSt) : (s.setProf a c).regs = s.regs := rfl
@[simp] theorem State.setProf_host (s : State) (a : Nat) (c : ProfSt) : (s.setProf a c).host = s.host := rfl
@[simp] theorem State.setProf_evt (s : State) (a : Nat) (c : ProfSt) : (s.setProf a c).evt = s.evt := rfl
@[simp] theorem State.setProf_cpu (s : State) (a : Nat) (c : ProfSt) : (s.setProf a c).cpu = s.cpu := rfl
@[simp] theorem State.setProf_net (s : State) (a : Nat) (c : ProfSt) : (s.setProf a c).net = s.net := rfl
@[simp] theorem State.setProf_tim (s : State) (a : Nat) (c : ProfSt) : (s.setProf a c).tim = s.tim := rfl
@[simp] theorem State.setProf_pilot (s : State) (a : Nat) (c : ProfSt) : (s.setProf a c).pilot = s.pilot := rfl
@[simp] theorem State.setProf_helm (s : State) (a : Nat) (c : ProfSt) : (s.setProf a c).helm = s.helm := rfl
@[simp] theorem State.setProf_boot (s : State) (a : Nat) (c : ProfSt) : (s.setProf a c).boot = s.boot := rfl
@[simp] theorem State.setProf_lanes (s : State) (a : Nat) (c : ProfSt) : (s.setProf a c).lanes = s.lanes := rfl
@[simp] theorem State.setProf_mem (s : State) (a : Nat) (c : ProfSt) : (s.setProf a c).mem = s.mem := rfl
@[simp] theorem State.setProf_loc (s : State) (a : Nat) (c : ProfSt) : (s.setProf a c).loc = s.loc := rfl
@[simp] theorem State.setProf_cart (s : State) (a : Nat) (c : ProfSt) : (s.setProf a c).cart = s.cart := rfl
@[simp] theorem State.setProf_safe (s : State) (a : Nat) (c : ProfSt) : (s.setProf a c).safe = s.safe := rfl
@[simp] theorem State.setProf_acq (s : State) (a : Nat) (c : ProfSt) : (s.setProf a c).acq = s.acq := rfl
@[simp] theorem State.setProf_can (s : State) (a : Nat) (c : ProfSt) : (s.setProf a c).can = s.can := rfl
@[simp] theorem State.setProf_cycle (s : State) (a : Nat) (c : ProfSt) : (s.setProf a c).cycle = s.cycle := rfl
@[simp] theorem State.setProf_bnd (s : State) (a : Nat) (c : ProfSt) : (s.setProf a c).bnd = s.bnd := rfl
@[simp] theorem State.setProf_ntime (s : State) (a : Nat) (c : ProfSt) : (s.setProf a c).ntime = s.ntime := rfl
@[simp] theorem State.setCax_pending (s : State) (a : Nat) (c : CartAx) : (s.setCax a c).pending = s.pending := rfl
@[simp] theorem State.setCax_free (s : State) (a : Nat) (c : CartAx) : (s.setCax a c).free = s.free := rfl
@[simp] theorem State.setCax_out (s : State) (a : Nat) (c : CartAx) : (s.setCax a c).out = s.out := rfl
@[simp] theorem State.setCax_regs (s : State) (a : Nat) (c : CartAx) : (s.setCax a c).regs = s.regs := rfl
@[simp] theorem State.setCax_host (s : State) (a : Nat) (c : CartAx) : (s.setCax a c).host = s.host := rfl
@[simp] theorem State.setCax_evt (s : State) (a : Nat) (c : CartAx) : (s.setCax a c).evt = s.evt := rfl
@[simp] theorem State.setCax_cpu (s : State) (a : Nat) (c : CartAx) : (s.setCax a c).cpu = s.cpu := rfl
@[simp] theorem State.setCax_net (s : State) (a : Nat) (c : CartAx) : (s.setCax a c).net = s.net := rfl
@[simp] theorem State.setCax_tim (s : State) (a : Nat) (c : CartAx) : (s.setCax a c).tim = s.tim := rfl
@[simp] theorem State.setCax_pilot (s : State) (a : Nat) (c : CartAx) : (s.setCax a c).pilot = s.pilot := rfl
@[simp] theorem State.setCax_helm (s : State) (a : Nat) (c : CartAx) : (s.setCax a c).helm = s.helm := rfl
@[simp] theorem State.setCax_boot (s : State) (a : Nat) (c : CartAx) : (s.setCax a c).boot = s.boot := rfl
@[simp] theorem State.setCax_lanes (s : State) (a : Nat) (c : CartAx) : (s.setCax a c).lanes = s.lanes := rfl
@[simp] theorem State.setCax_mem (s : State) (a : Nat) (c : CartAx) : (s.setCax a c).mem = s.mem := rfl
@[simp] theorem State.setCax_axes (s : State) (a : Nat) (c : CartAx) : (s.setCax a c).axes = s.axes := rfl
@[simp] theorem State.setCax_loc (s : State) (a : Nat) (c : CartAx) : (s.setCax a c).loc = s.loc := rfl
@[simp] theorem State.setCax_safe (s : State) (a : Nat) (c : CartAx) : (s.setCax a c).safe = s.safe := rfl
@[simp] theorem State.setCax_acq (s : State) (a : Nat) (c : CartAx) : (s.setCax a c).acq = s.acq := rfl
@[simp] theorem State.setCax_can (s : State) (a : Nat) (c : CartAx) : (s.setCax a c).can = s.can := rfl
@[simp] theorem State.setCax_cycle (s : State) (a : Nat) (c : CartAx) : (s.setCax a c).cycle = s.cycle := rfl
@[simp] theorem State.setCax_bnd (s : State) (a : Nat) (c : CartAx) : (s.setCax a c).bnd = s.bnd := rfl
@[simp] theorem State.setCax_ntime (s : State) (a : Nat) (c : CartAx) : (s.setCax a c).ntime = s.ntime := rfl
@[simp] theorem State.setLog_pending (s : State) (n : Nat) (l : LogSt) : (s.setLog n l).pending = s.pending := rfl
@[simp] theorem State.setLog_free (s : State) (n : Nat) (l : LogSt) : (s.setLog n l).free = s.free := rfl
@[simp] theorem State.setLog_out (s : State) (n : Nat) (l : LogSt) : (s.setLog n l).out = s.out := rfl
@[simp] theorem State.setLog_regs (s : State) (n : Nat) (l : LogSt) : (s.setLog n l).regs = s.regs := rfl
@[simp] theorem State.setLog_host (s : State) (n : Nat) (l : LogSt) : (s.setLog n l).host = s.host := rfl
@[simp] theorem State.setLog_evt (s : State) (n : Nat) (l : LogSt) : (s.setLog n l).evt = s.evt := rfl
@[simp] theorem State.setLog_cpu (s : State) (n : Nat) (l : LogSt) : (s.setLog n l).cpu = s.cpu := rfl
@[simp] theorem State.setLog_net (s : State) (n : Nat) (l : LogSt) : (s.setLog n l).net = s.net := rfl
@[simp] theorem State.setLog_tim (s : State) (n : Nat) (l : LogSt) : (s.setLog n l).tim = s.tim := rfl
@[simp] theorem State.setLog_pilot (s : State) (n : Nat) (l : LogSt) : (s.setLog n l).pilot = s.pilot := rfl
@[simp] theorem State.setLog_helm (s : State) (n : Nat) (l : LogSt) : (s.setLog n l).helm = s.helm := rfl
@[simp] theorem State.setLog_boot (s : State) (n : Nat) (l : LogSt) : (s.setLog n l).boot = s.boot := rfl
@[simp] theorem State.setLog_lanes (s : State) (n : Nat) (l : LogSt) : (s.setLog n l).lanes = s.lanes := rfl
@[simp] theorem State.setLog_mem (s : State) (n : Nat) (l : LogSt) : (s.setLog n l).mem = s.mem := rfl
@[simp] theorem State.setLog_axes (s : State) (n : Nat) (l : LogSt) : (s.setLog n l).axes = s.axes := rfl
@[simp] theorem State.setLog_loc (s : State) (n : Nat) (l : LogSt) : (s.setLog n l).loc = s.loc := rfl
@[simp] theorem State.setLog_cart (s : State) (n : Nat) (l : LogSt) : (s.setLog n l).cart = s.cart := rfl
@[simp] theorem State.setLog_safe (s : State) (n : Nat) (l : LogSt) : (s.setLog n l).safe = s.safe := rfl
@[simp] theorem State.setLog_can (s : State) (n : Nat) (l : LogSt) : (s.setLog n l).can = s.can := rfl
@[simp] theorem State.setLog_cycle (s : State) (n : Nat) (l : LogSt) : (s.setLog n l).cycle = s.cycle := rfl
@[simp] theorem State.setLog_bnd (s : State) (n : Nat) (l : LogSt) : (s.setLog n l).bnd = s.bnd := rfl
@[simp] theorem State.setLog_ntime (s : State) (n : Nat) (l : LogSt) : (s.setLog n l).ntime = s.ntime := rfl
@[simp] theorem State.setCanC_pending (s : State) (n : Nat) (c : CanCtl) : (s.setCanC n c).pending = s.pending := rfl
@[simp] theorem State.setCanC_free (s : State) (n : Nat) (c : CanCtl) : (s.setCanC n c).free = s.free := rfl
@[simp] theorem State.setCanC_out (s : State) (n : Nat) (c : CanCtl) : (s.setCanC n c).out = s.out := rfl
@[simp] theorem State.setCanC_regs (s : State) (n : Nat) (c : CanCtl) : (s.setCanC n c).regs = s.regs := rfl
@[simp] theorem State.setCanC_host (s : State) (n : Nat) (c : CanCtl) : (s.setCanC n c).host = s.host := rfl
@[simp] theorem State.setCanC_evt (s : State) (n : Nat) (c : CanCtl) : (s.setCanC n c).evt = s.evt := rfl
@[simp] theorem State.setCanC_cpu (s : State) (n : Nat) (c : CanCtl) : (s.setCanC n c).cpu = s.cpu := rfl
@[simp] theorem State.setCanC_net (s : State) (n : Nat) (c : CanCtl) : (s.setCanC n c).net = s.net := rfl
@[simp] theorem State.setCanC_tim (s : State) (n : Nat) (c : CanCtl) : (s.setCanC n c).tim = s.tim := rfl
@[simp] theorem State.setCanC_pilot (s : State) (n : Nat) (c : CanCtl) : (s.setCanC n c).pilot = s.pilot := rfl
@[simp] theorem State.setCanC_helm (s : State) (n : Nat) (c : CanCtl) : (s.setCanC n c).helm = s.helm := rfl
@[simp] theorem State.setCanC_boot (s : State) (n : Nat) (c : CanCtl) : (s.setCanC n c).boot = s.boot := rfl
@[simp] theorem State.setCanC_lanes (s : State) (n : Nat) (c : CanCtl) : (s.setCanC n c).lanes = s.lanes := rfl
@[simp] theorem State.setCanC_mem (s : State) (n : Nat) (c : CanCtl) : (s.setCanC n c).mem = s.mem := rfl
@[simp] theorem State.setCanC_axes (s : State) (n : Nat) (c : CanCtl) : (s.setCanC n c).axes = s.axes := rfl
@[simp] theorem State.setCanC_loc (s : State) (n : Nat) (c : CanCtl) : (s.setCanC n c).loc = s.loc := rfl
@[simp] theorem State.setCanC_cart (s : State) (n : Nat) (c : CanCtl) : (s.setCanC n c).cart = s.cart := rfl
@[simp] theorem State.setCanC_safe (s : State) (n : Nat) (c : CanCtl) : (s.setCanC n c).safe = s.safe := rfl
@[simp] theorem State.setCanC_acq (s : State) (n : Nat) (c : CanCtl) : (s.setCanC n c).acq = s.acq := rfl
@[simp] theorem State.setCanC_cycle (s : State) (n : Nat) (c : CanCtl) : (s.setCanC n c).cycle = s.cycle := rfl
@[simp] theorem State.setCanC_bnd (s : State) (n : Nat) (c : CanCtl) : (s.setCanC n c).bnd = s.bnd := rfl
@[simp] theorem State.setCanC_ntime (s : State) (n : Nat) (c : CanCtl) : (s.setCanC n c).ntime = s.ntime := rfl
@[simp] theorem State.setCanB_pending (s : State) (n : Nat) (b : Nat) (x : CanBuf) : (s.setCanB n b x).pending = s.pending := rfl
@[simp] theorem State.setCanB_free (s : State) (n : Nat) (b : Nat) (x : CanBuf) : (s.setCanB n b x).free = s.free := rfl
@[simp] theorem State.setCanB_out (s : State) (n : Nat) (b : Nat) (x : CanBuf) : (s.setCanB n b x).out = s.out := rfl
@[simp] theorem State.setCanB_host (s : State) (n : Nat) (b : Nat) (x : CanBuf) : (s.setCanB n b x).host = s.host := rfl
@[simp] theorem State.setCanB_evt (s : State) (n : Nat) (b : Nat) (x : CanBuf) : (s.setCanB n b x).evt = s.evt := rfl
@[simp] theorem State.setCanB_cpu (s : State) (n : Nat) (b : Nat) (x : CanBuf) : (s.setCanB n b x).cpu = s.cpu := rfl
@[simp] theorem State.setCanB_net (s : State) (n : Nat) (b : Nat) (x : CanBuf) : (s.setCanB n b x).net = s.net := rfl
@[simp] theorem State.setCanB_tim (s : State) (n : Nat) (b : Nat) (x : CanBuf) : (s.setCanB n b x).tim = s.tim := rfl
@[simp] theorem State.setCanB_pilot (s : State) (n : Nat) (b : Nat) (x : CanBuf) : (s.setCanB n b x).pilot = s.pilot := rfl
@[simp] theorem State.setCanB_helm (s : State) (n : Nat) (b : Nat) (x : CanBuf) : (s.setCanB n b x).helm = s.helm := rfl
@[simp] theorem State.setCanB_boot (s : State) (n : Nat) (b : Nat) (x : CanBuf) : (s.setCanB n b x).boot = s.boot := rfl
@[simp] theorem State.setCanB_lanes (s : State) (n : Nat) (b : Nat) (x : CanBuf) : (s.setCanB n b x).lanes = s.lanes := rfl
@[simp] theorem State.setCanB_mem (s : State) (n : Nat) (b : Nat) (x : CanBuf) : (s.setCanB n b x).mem = s.mem := rfl
@[simp] theorem State.setCanB_axes (s : State) (n : Nat) (b : Nat) (x : CanBuf) : (s.setCanB n b x).axes = s.axes := rfl
@[simp] theorem State.setCanB_loc (s : State) (n : Nat) (b : Nat) (x : CanBuf) : (s.setCanB n b x).loc = s.loc := rfl
@[simp] theorem State.setCanB_cart (s : State) (n : Nat) (b : Nat) (x : CanBuf) : (s.setCanB n b x).cart = s.cart := rfl
@[simp] theorem State.setCanB_safe (s : State) (n : Nat) (b : Nat) (x : CanBuf) : (s.setCanB n b x).safe = s.safe := rfl
@[simp] theorem State.setCanB_acq (s : State) (n : Nat) (b : Nat) (x : CanBuf) : (s.setCanB n b x).acq = s.acq := rfl
@[simp] theorem State.setCanB_cycle (s : State) (n : Nat) (b : Nat) (x : CanBuf) : (s.setCanB n b x).cycle = s.cycle := rfl
@[simp] theorem State.setCanB_bnd (s : State) (n : Nat) (b : Nat) (x : CanBuf) : (s.setCanB n b x).bnd = s.bnd := rfl
@[simp] theorem State.setCanB_ntime (s : State) (n : Nat) (b : Nat) (x : CanBuf) : (s.setCanB n b x).ntime = s.ntime := rfl
@[simp] theorem State.setLx_pending (s : State) (n : Nat) (x : LxSt) : (s.setLx n x).pending = s.pending := rfl
@[simp] theorem State.setLx_free (s : State) (n : Nat) (x : LxSt) : (s.setLx n x).free = s.free := rfl
@[simp] theorem State.setLx_out (s : State) (n : Nat) (x : LxSt) : (s.setLx n x).out = s.out := rfl
@[simp] theorem State.setLx_regs (s : State) (n : Nat) (x : LxSt) : (s.setLx n x).regs = s.regs := rfl
@[simp] theorem State.setLx_host (s : State) (n : Nat) (x : LxSt) : (s.setLx n x).host = s.host := rfl
@[simp] theorem State.setLx_evt (s : State) (n : Nat) (x : LxSt) : (s.setLx n x).evt = s.evt := rfl
@[simp] theorem State.setLx_cpu (s : State) (n : Nat) (x : LxSt) : (s.setLx n x).cpu = s.cpu := rfl
@[simp] theorem State.setLx_net (s : State) (n : Nat) (x : LxSt) : (s.setLx n x).net = s.net := rfl
@[simp] theorem State.setLx_tim (s : State) (n : Nat) (x : LxSt) : (s.setLx n x).tim = s.tim := rfl
@[simp] theorem State.setLx_pilot (s : State) (n : Nat) (x : LxSt) : (s.setLx n x).pilot = s.pilot := rfl
@[simp] theorem State.setLx_helm (s : State) (n : Nat) (x : LxSt) : (s.setLx n x).helm = s.helm := rfl
@[simp] theorem State.setLx_boot (s : State) (n : Nat) (x : LxSt) : (s.setLx n x).boot = s.boot := rfl
@[simp] theorem State.setLx_lanes (s : State) (n : Nat) (x : LxSt) : (s.setLx n x).lanes = s.lanes := rfl
@[simp] theorem State.setLx_mem (s : State) (n : Nat) (x : LxSt) : (s.setLx n x).mem = s.mem := rfl
@[simp] theorem State.setLx_axes (s : State) (n : Nat) (x : LxSt) : (s.setLx n x).axes = s.axes := rfl
@[simp] theorem State.setLx_cart (s : State) (n : Nat) (x : LxSt) : (s.setLx n x).cart = s.cart := rfl
@[simp] theorem State.setLx_safe (s : State) (n : Nat) (x : LxSt) : (s.setLx n x).safe = s.safe := rfl
@[simp] theorem State.setLx_acq (s : State) (n : Nat) (x : LxSt) : (s.setLx n x).acq = s.acq := rfl
@[simp] theorem State.setLx_can (s : State) (n : Nat) (x : LxSt) : (s.setLx n x).can = s.can := rfl
@[simp] theorem State.setLx_cycle (s : State) (n : Nat) (x : LxSt) : (s.setLx n x).cycle = s.cycle := rfl
@[simp] theorem State.setLx_bnd (s : State) (n : Nat) (x : LxSt) : (s.setLx n x).bnd = s.bnd := rfl
@[simp] theorem State.setLx_ntime (s : State) (n : Nat) (x : LxSt) : (s.setLx n x).ntime = s.ntime := rfl
@[simp] theorem State.setRun_pending (s : State) (h : Nat) (t : Nat) : (s.setRun h t).pending = s.pending := rfl
@[simp] theorem State.setRun_free (s : State) (h : Nat) (t : Nat) : (s.setRun h t).free = s.free := rfl
@[simp] theorem State.setRun_out (s : State) (h : Nat) (t : Nat) : (s.setRun h t).out = s.out := rfl
@[simp] theorem State.setRun_regs (s : State) (h : Nat) (t : Nat) : (s.setRun h t).regs = s.regs := rfl
@[simp] theorem State.setRun_host (s : State) (h : Nat) (t : Nat) : (s.setRun h t).host = s.host := rfl
@[simp] theorem State.setRun_evt (s : State) (h : Nat) (t : Nat) : (s.setRun h t).evt = s.evt := rfl
@[simp] theorem State.setRun_net (s : State) (h : Nat) (t : Nat) : (s.setRun h t).net = s.net := rfl
@[simp] theorem State.setRun_tim (s : State) (h : Nat) (t : Nat) : (s.setRun h t).tim = s.tim := rfl
@[simp] theorem State.setRun_pilot (s : State) (h : Nat) (t : Nat) : (s.setRun h t).pilot = s.pilot := rfl
@[simp] theorem State.setRun_helm (s : State) (h : Nat) (t : Nat) : (s.setRun h t).helm = s.helm := rfl
@[simp] theorem State.setRun_boot (s : State) (h : Nat) (t : Nat) : (s.setRun h t).boot = s.boot := rfl
@[simp] theorem State.setRun_lanes (s : State) (h : Nat) (t : Nat) : (s.setRun h t).lanes = s.lanes := rfl
@[simp] theorem State.setRun_mem (s : State) (h : Nat) (t : Nat) : (s.setRun h t).mem = s.mem := rfl
@[simp] theorem State.setRun_axes (s : State) (h : Nat) (t : Nat) : (s.setRun h t).axes = s.axes := rfl
@[simp] theorem State.setRun_loc (s : State) (h : Nat) (t : Nat) : (s.setRun h t).loc = s.loc := rfl
@[simp] theorem State.setRun_cart (s : State) (h : Nat) (t : Nat) : (s.setRun h t).cart = s.cart := rfl
@[simp] theorem State.setRun_safe (s : State) (h : Nat) (t : Nat) : (s.setRun h t).safe = s.safe := rfl
@[simp] theorem State.setRun_acq (s : State) (h : Nat) (t : Nat) : (s.setRun h t).acq = s.acq := rfl
@[simp] theorem State.setRun_can (s : State) (h : Nat) (t : Nat) : (s.setRun h t).can = s.can := rfl
@[simp] theorem State.setRun_cycle (s : State) (h : Nat) (t : Nat) : (s.setRun h t).cycle = s.cycle := rfl
@[simp] theorem State.setRun_bnd (s : State) (h : Nat) (t : Nat) : (s.setRun h t).bnd = s.bnd := rfl
@[simp] theorem State.setRun_ntime (s : State) (h : Nat) (t : Nat) : (s.setRun h t).ntime = s.ntime := rfl
@[simp] theorem State.unlist_pending (s : State) (t : Nat) : (s.unlist t).pending = s.pending := rfl
@[simp] theorem State.unlist_free (s : State) (t : Nat) : (s.unlist t).free = s.free := rfl
@[simp] theorem State.unlist_out (s : State) (t : Nat) : (s.unlist t).out = s.out := rfl
@[simp] theorem State.unlist_regs (s : State) (t : Nat) : (s.unlist t).regs = s.regs := rfl
@[simp] theorem State.unlist_host (s : State) (t : Nat) : (s.unlist t).host = s.host := rfl
@[simp] theorem State.unlist_evt (s : State) (t : Nat) : (s.unlist t).evt = s.evt := rfl
@[simp] theorem State.unlist_net (s : State) (t : Nat) : (s.unlist t).net = s.net := rfl
@[simp] theorem State.unlist_tim (s : State) (t : Nat) : (s.unlist t).tim = s.tim := rfl
@[simp] theorem State.unlist_pilot (s : State) (t : Nat) : (s.unlist t).pilot = s.pilot := rfl
@[simp] theorem State.unlist_helm (s : State) (t : Nat) : (s.unlist t).helm = s.helm := rfl
@[simp] theorem State.unlist_boot (s : State) (t : Nat) : (s.unlist t).boot = s.boot := rfl
@[simp] theorem State.unlist_lanes (s : State) (t : Nat) : (s.unlist t).lanes = s.lanes := rfl
@[simp] theorem State.unlist_mem (s : State) (t : Nat) : (s.unlist t).mem = s.mem := rfl
@[simp] theorem State.unlist_axes (s : State) (t : Nat) : (s.unlist t).axes = s.axes := rfl
@[simp] theorem State.unlist_loc (s : State) (t : Nat) : (s.unlist t).loc = s.loc := rfl
@[simp] theorem State.unlist_cart (s : State) (t : Nat) : (s.unlist t).cart = s.cart := rfl
@[simp] theorem State.unlist_safe (s : State) (t : Nat) : (s.unlist t).safe = s.safe := rfl
@[simp] theorem State.unlist_acq (s : State) (t : Nat) : (s.unlist t).acq = s.acq := rfl
@[simp] theorem State.unlist_can (s : State) (t : Nat) : (s.unlist t).can = s.can := rfl
@[simp] theorem State.unlist_cycle (s : State) (t : Nat) : (s.unlist t).cycle = s.cycle := rfl
@[simp] theorem State.unlist_bnd (s : State) (t : Nat) : (s.unlist t).bnd = s.bnd := rfl
@[simp] theorem State.unlist_ntime (s : State) (t : Nat) : (s.unlist t).ntime = s.ntime := rfl
@[simp] theorem State.setCtl_pending (s : State) (a : Nat) (c : Ctl) : (s.setCtl a c).pending = s.pending := rfl
@[simp] theorem State.setCtl_free (s : State) (a : Nat) (c : Ctl) : (s.setCtl a c).free = s.free := rfl
@[simp] theorem State.setCtl_out (s : State) (a : Nat) (c : Ctl) : (s.setCtl a c).out = s.out := rfl
@[simp] theorem State.setCtl_regs (s : State) (a : Nat) (c : Ctl) : (s.setCtl a c).regs = s.regs := rfl
@[simp] theorem State.setCtl_host (s : State) (a : Nat) (c : Ctl) : (s.setCtl a c).host = s.host := rfl
@[simp] theorem State.setCtl_evt (s : State) (a : Nat) (c : Ctl) : (s.setCtl a c).evt = s.evt := rfl
@[simp] theorem State.setCtl_cpu (s : State) (a : Nat) (c : Ctl) : (s.setCtl a c).cpu = s.cpu := rfl
@[simp] theorem State.setCtl_net (s : State) (a : Nat) (c : Ctl) : (s.setCtl a c).net = s.net := rfl
@[simp] theorem State.setCtl_tim (s : State) (a : Nat) (c : Ctl) : (s.setCtl a c).tim = s.tim := rfl
@[simp] theorem State.setCtl_pilot (s : State) (a : Nat) (c : Ctl) : (s.setCtl a c).pilot = s.pilot := rfl
@[simp] theorem State.setCtl_helm (s : State) (a : Nat) (c : Ctl) : (s.setCtl a c).helm = s.helm := rfl
@[simp] theorem State.setCtl_boot (s : State) (a : Nat) (c : Ctl) : (s.setCtl a c).boot = s.boot := rfl
@[simp] theorem State.setCtl_lanes (s : State) (a : Nat) (c : Ctl) : (s.setCtl a c).lanes = s.lanes := rfl
@[simp] theorem State.setCtl_mem (s : State) (a : Nat) (c : Ctl) : (s.setCtl a c).mem = s.mem := rfl
@[simp] theorem State.setCtl_loc (s : State) (a : Nat) (c : Ctl) : (s.setCtl a c).loc = s.loc := rfl
@[simp] theorem State.setCtl_cart (s : State) (a : Nat) (c : Ctl) : (s.setCtl a c).cart = s.cart := rfl
@[simp] theorem State.setCtl_safe (s : State) (a : Nat) (c : Ctl) : (s.setCtl a c).safe = s.safe := rfl
@[simp] theorem State.setCtl_acq (s : State) (a : Nat) (c : Ctl) : (s.setCtl a c).acq = s.acq := rfl
@[simp] theorem State.setCtl_can (s : State) (a : Nat) (c : Ctl) : (s.setCtl a c).can = s.can := rfl
@[simp] theorem State.setCtl_cycle (s : State) (a : Nat) (c : Ctl) : (s.setCtl a c).cycle = s.cycle := rfl
@[simp] theorem State.setCtl_bnd (s : State) (a : Nat) (c : Ctl) : (s.setCtl a c).bnd = s.bnd := rfl
@[simp] theorem State.setCtl_ntime (s : State) (a : Nat) (c : Ctl) : (s.setCtl a c).ntime = s.ntime := rfl
@[simp] theorem State.setHart_pending (s : State) (h : Nat) (x : HartSt) : (s.setHart h x).pending = s.pending := rfl
@[simp] theorem State.setHart_free (s : State) (h : Nat) (x : HartSt) : (s.setHart h x).free = s.free := rfl
@[simp] theorem State.setHart_out (s : State) (h : Nat) (x : HartSt) : (s.setHart h x).out = s.out := rfl
@[simp] theorem State.setHart_regs (s : State) (h : Nat) (x : HartSt) : (s.setHart h x).regs = s.regs := rfl
@[simp] theorem State.setHart_host (s : State) (h : Nat) (x : HartSt) : (s.setHart h x).host = s.host := rfl
@[simp] theorem State.setHart_evt (s : State) (h : Nat) (x : HartSt) : (s.setHart h x).evt = s.evt := rfl
@[simp] theorem State.setHart_net (s : State) (h : Nat) (x : HartSt) : (s.setHart h x).net = s.net := rfl
@[simp] theorem State.setHart_tim (s : State) (h : Nat) (x : HartSt) : (s.setHart h x).tim = s.tim := rfl
@[simp] theorem State.setHart_pilot (s : State) (h : Nat) (x : HartSt) : (s.setHart h x).pilot = s.pilot := rfl
@[simp] theorem State.setHart_helm (s : State) (h : Nat) (x : HartSt) : (s.setHart h x).helm = s.helm := rfl
@[simp] theorem State.setHart_boot (s : State) (h : Nat) (x : HartSt) : (s.setHart h x).boot = s.boot := rfl
@[simp] theorem State.setHart_lanes (s : State) (h : Nat) (x : HartSt) : (s.setHart h x).lanes = s.lanes := rfl
@[simp] theorem State.setHart_mem (s : State) (h : Nat) (x : HartSt) : (s.setHart h x).mem = s.mem := rfl
@[simp] theorem State.setHart_axes (s : State) (h : Nat) (x : HartSt) : (s.setHart h x).axes = s.axes := rfl
@[simp] theorem State.setHart_loc (s : State) (h : Nat) (x : HartSt) : (s.setHart h x).loc = s.loc := rfl
@[simp] theorem State.setHart_cart (s : State) (h : Nat) (x : HartSt) : (s.setHart h x).cart = s.cart := rfl
@[simp] theorem State.setHart_safe (s : State) (h : Nat) (x : HartSt) : (s.setHart h x).safe = s.safe := rfl
@[simp] theorem State.setHart_acq (s : State) (h : Nat) (x : HartSt) : (s.setHart h x).acq = s.acq := rfl
@[simp] theorem State.setHart_can (s : State) (h : Nat) (x : HartSt) : (s.setHart h x).can = s.can := rfl
@[simp] theorem State.setHart_cycle (s : State) (h : Nat) (x : HartSt) : (s.setHart h x).cycle = s.cycle := rfl
@[simp] theorem State.setHart_bnd (s : State) (h : Nat) (x : HartSt) : (s.setHart h x).bnd = s.bnd := rfl
@[simp] theorem State.setHart_ntime (s : State) (h : Nat) (x : HartSt) : (s.setHart h x).ntime = s.ntime := rfl
@[simp] theorem State.setEmu_pending (s : State) (e : Nat) (x : Emu) : (s.setEmu e x).pending = s.pending := rfl
@[simp] theorem State.setEmu_free (s : State) (e : Nat) (x : Emu) : (s.setEmu e x).free = s.free := rfl
@[simp] theorem State.setEmu_out (s : State) (e : Nat) (x : Emu) : (s.setEmu e x).out = s.out := rfl
@[simp] theorem State.setEmu_regs (s : State) (e : Nat) (x : Emu) : (s.setEmu e x).regs = s.regs := rfl
@[simp] theorem State.setEmu_host (s : State) (e : Nat) (x : Emu) : (s.setEmu e x).host = s.host := rfl
@[simp] theorem State.setEmu_evt (s : State) (e : Nat) (x : Emu) : (s.setEmu e x).evt = s.evt := rfl
@[simp] theorem State.setEmu_cpu (s : State) (e : Nat) (x : Emu) : (s.setEmu e x).cpu = s.cpu := rfl
@[simp] theorem State.setEmu_net (s : State) (e : Nat) (x : Emu) : (s.setEmu e x).net = s.net := rfl
@[simp] theorem State.setEmu_tim (s : State) (e : Nat) (x : Emu) : (s.setEmu e x).tim = s.tim := rfl
@[simp] theorem State.setEmu_pilot (s : State) (e : Nat) (x : Emu) : (s.setEmu e x).pilot = s.pilot := rfl
@[simp] theorem State.setEmu_helm (s : State) (e : Nat) (x : Emu) : (s.setEmu e x).helm = s.helm := rfl
@[simp] theorem State.setEmu_boot (s : State) (e : Nat) (x : Emu) : (s.setEmu e x).boot = s.boot := rfl
@[simp] theorem State.setEmu_lanes (s : State) (e : Nat) (x : Emu) : (s.setEmu e x).lanes = s.lanes := rfl
@[simp] theorem State.setEmu_mem (s : State) (e : Nat) (x : Emu) : (s.setEmu e x).mem = s.mem := rfl
@[simp] theorem State.setEmu_axes (s : State) (e : Nat) (x : Emu) : (s.setEmu e x).axes = s.axes := rfl
@[simp] theorem State.setEmu_cart (s : State) (e : Nat) (x : Emu) : (s.setEmu e x).cart = s.cart := rfl
@[simp] theorem State.setEmu_safe (s : State) (e : Nat) (x : Emu) : (s.setEmu e x).safe = s.safe := rfl
@[simp] theorem State.setEmu_acq (s : State) (e : Nat) (x : Emu) : (s.setEmu e x).acq = s.acq := rfl
@[simp] theorem State.setEmu_can (s : State) (e : Nat) (x : Emu) : (s.setEmu e x).can = s.can := rfl
@[simp] theorem State.setEmu_cycle (s : State) (e : Nat) (x : Emu) : (s.setEmu e x).cycle = s.cycle := rfl
@[simp] theorem State.setEmu_bnd (s : State) (e : Nat) (x : Emu) : (s.setEmu e x).bnd = s.bnd := rfl
@[simp] theorem State.setEmu_ntime (s : State) (e : Nat) (x : Emu) : (s.setEmu e x).ntime = s.ntime := rfl

end Sys2Proof.Machine
end

