-- ==== Sys2Proof/Tests/Slice0.lean ====
section
/-! SUPPORT. Tests: ill-formed commands are refused, single steps give what the spec says, and every statement's hypotheses are met
together by a state and operands (one witness for each clause). -/

namespace Sys2Proof.Tests

set_option linter.unusedVariables false
set_option Elab.async false

open Sys2Proof Sys2Proof.Machine

/-! ### States -/

/-- A unit that holds the helm, all domains powered, ring 0 and completion ring 4 enabled with 16 entries. -/
def up : State := { State.reset with regs := [(0x00010, 0xFF), (0x10410, 0x00000041 ||| 0x200), (0x10418, 1), (0x10490, 0x41), (0x10498, 1), (0x30000, 0x0101), (0x140004, 3)], boot := { State.reset.boot with kcls := Tab.set 0 State.reset.boot.kcls 1 1, kval := Tab.set 0 State.reset.boot.kval 1 1 } }
def nx : Host.Outcome State Fault Refusal → Option State | .next s => some s | _ => none
def is (o : Host.Outcome State Fault Refusal) (t : State) : Bool := nx o == some t
def d0 : Desc := { flags := 0, target := 0, tag := 7, op0 := 0, op1 := 0, op2 := 0, op3 := 0, op4 := 0, op5 := 0 }
def dc : Desc := { d0 with flags := 1 }
def after (s : State) (c : Instr) : State := (nx (exec c s)).getD s
def up2 : State := after up (.doorbellWrite 0 3)
def hd : Head := { ring := 0, opcode := 0x30, desc := dc }
def up3 : State := up2.setRg (rIdx 0) 0x00020003
def up4 : State := (up.setRg (LANE_B+4) 0x1005).setRg LANE_B 5
def ringOn (s : State) (r : Nat) : State := (s.setRg (rCfg r) 0x41).setRg (rStat r) 1
def m1 : Node := { state := 2, upb := 0, dnb := 0, join := [0, 0, 0, 0, 2] }
/-- Port 3 enabled with member node 0x301 and an uplink grant for it. -/
def rx : State := { up.setRg (pCfg 3) 1 with net := { nodes := [(0x301, m1)], grants := [(0x301, 1, 4, 0)] } }
def rxOps (s : State) (l : List NetOp) : State := { s with net := { s.net with ops := l } }
def rxNode (s : State) (n : Node) : State := s.setNode 0x301 n
def frm (typ src : Nat) (t : Int) (k : StartSet) (pl : List Byte) : RxFrame :=
  { t := t, set := k, cv := false, bytes := frameBytes (headerBytes typ src 0x300 (pl.length / 4) 0 0 0 1 0 1) pl }
def msg (pl : List Byte) : RxFrame := frm 8 0x301 (tDyn up.rate + 140) .dyn pl
def opn (k : Nat) : NetOp := { src := .ring 0, opc := k, desc := d0, addr := 0x301 }
def dn : Desc := { d0 with target := 0x301 }
def lw (dst sa sb : BitVec 4) : LaneWord := { dst := dst, sa := sa, sb := sb, imm := 4, xm := 0, ym := 0 }
/-- Lane 2 at one instruction in customer manifest memory, with data in its registers. -/
def ln (op : Nat) (w : LaneWord) : State := { up with lanes := [(2, { busy := true, fetching := true, pc := 0x1000, man := [(0x1000, encodeLane op w)], axis := 5, d := [(0, 9), (2, 0x90000000), (3, 0xA0000001), (4, 0x80000000)], acc := [(0, -5), (1, 77)], accOld := [(1, 33)], carry := true, y := [(0x500, 12)] })] }
def pa : PlanAxis := { axis := 5, lane := 2, start := 0, stop := 1000000, div := 1, phase := 0, isLocal := false, node := 0x301, nslot := 0, mcyc := 10 }
def pl1 : Plan := { id := 1, axes := [pa] }
def pl2 : Plan := { id := 2, axes := [pa], rate := 2 }
/-- Axis 5 on node 0x301 and lane 2 under plan 1. -/
def px : State := { rx with pilot := { act := pl1 } }
def d8 : Desc := { d0 with flags := 8 }
def dt (a : Nat) : Desc := { d0 with target := BitVec.ofNat 16 a }
def pw (s : State) (k : Nat) (v : Word) : State := s.axWrite 5 k v
/-- Axis 6 as a local axis on LX2 and lane 3. -/
def pb : PlanAxis := { axis := 6, lane := 3, start := 0, stop := 1000000, div := 1, phase := 0, isLocal := true, node := 0, nslot := 2, mcyc := 10 }
def lx0 : State := { up with pilot := { act := { id := 1, axes := [pb] } } }
def px3 : State := px.setXw 5 0x30 3
def img0 (ack : Byte) : List Byte := [0x43, 0x58, 0x53, 0x46, 1, 1, ack, 10] ++ List.replicate 504 0
def img1 : List Byte := (img0 0x80).set 0x20 1
/-- Both safety channels in RUN. -/
def sf (st : Nat) (i : List Byte) : State := { (up.setFld SAFEP_B 3 0 st).setFld SAFES_B 3 0 st with safe := { p := { img := i }, s := { img := i } } }
def mc : Node := { m1 with join := [0, 0, 0, 0, 2, 2] }
/-- Axis 5 with a cartridge on node 0x301. -/
def cx : State := px.setNode 0x301 mc
def cxj (j : CartJob) : State := cx.setCax 5 { job := some j, msg := [3], sends := 3 }
def seg1 : Seg := segOf { d0 with op3 := 100 } false
def lg (x : LogSt) : State := { up with acq := { log := [(2, x)] } }
def plist : List (Nat × Bool × Nat × Bool) := (probeList 64 [5, 6, 0, 0]).getD []
/-- Hart 2 runs thread 200, which is enabled and waits for the given tokens. -/
def hw (toks : List Nat) : State := { (up.setRg (thCfg 200) 0x2401) with cpu := { running := [0, 1, 2, 3], run := [(2, 200)] } }
/-- Controller 1 with given ACT, buffers and CAN_MB_CFG of buffers 5 (transmit) and 6 (receive). -/
def cn (act : Nat) (c : CanCtl) : State := { ((((up.setRg (canReg 1 0) 0x640010).setCanAct 1 act).setRg (mbCfg 1 5) 3).setRg (mbCfg 1 6) 1) with can := { ctl := [(1, c)] } }
def dcan : Desc := { dt 5 with op0 := 0x20000001, op1 := 4 }
def txa (a s : Bool) : CanTx := { src := .ring 19, desc := dcan, idw := 0x20000001, len := 4, rtr := false, single := s, data := [0, 0, 0, 0], active := a }
def bufA (s : Bool) : CanCtl := { bufs := [(5, { tx := some (txa true s) })] }
def fb : CanBits := { idw := 0x20000000, len := 2, rtr := false, esi := false, data := [1, 2], ts := 9, cyc := 3 }
def setTec (s : State) (n : Nat) : State := s.setFld (canEcnt 1) 8 0 n
/-- A unit with the given HELM_STAT; `hsh` with the given partner record besides. -/
def hs (v : Word) : State := up.setRg HELM_STAT v
def hsh (v : Word) (h : HelmSt) : State := { hs v with helm := h }
def roleB (s : State) : State := { s with boot := { s.boot with kval := Tab.set 0 s.boot.kval 1 2 } }
def hrdy : HelmSt := { hbAlive := true, hbSync := 3 }
def bs (b : BootSt) : State := { up with boot := b }
/-- The smallest image that verifies while FWHASH is unprogrammed. -/
def signed : List Byte := ([67, 88, 70, 87, 1, 0, 1, 0, 0, 1, 0, 0] : List Byte) ++ List.replicate 20 0 ++ beBytes 32 0xE3B0C44298FC1C149AFBF4C8996FB92427AE41E4649B934CA495991B7852B855 ++
  beBytes 32 0xF121A0A2A4511A21D10B752D741EDCCAB492EAA43B45E573213A5DDCFBB03456 ++ beBytes 32 0x65C62DDEB9EA72DBDF5D5076FF99A103B0723A0D4A154B10E2C47088F3233306 ++
  beBytes 32 0xEC770A187CEB6FE71BB8FD02AEC6B044E39191B1B78795F1C62AF26E23080F19 ++ beBytes 32 0xEC770A187CEB6FE71BB8FD02AEC6B044E39191B1B78795F1C62AF26E23080F19 ++ List.replicate 64 0
/-- Customer list l (standard section 0x180) is being checked, for a waiting write of entry 3, word 1. -/
def entW (l : Nat) : State := let s := (up.setRg (LANE_B + 0x400 + l * 0x10) 0x8180).setFlag (slen l) 20
  { s with mem := { s.mem with entry := some { agent := .host, boff := LANE_B + 0x134, word := some 0x11020304 } } }
/-- A standby that closes the ring of branch 3, with a node record. -/
def stby : State := (rx.setRg HELM_STAT 0).setRg (pCfg 3) 7
/-- `up` at a boundary, before the staged writes take effect. -/
def vB : State := (((up.useAllTails.serveSound.acqClose.endStays []).advance.acqOpen.stepWait.eachAxis (fun s a => s.setProf a { s.prof a with stopped := false, tqHost := false })).eachAxis State.profAdvance)
/-- Hart 2 at ADDI x1, x0, 1 in the customer part of CPU SRAM, and the two steps of its CK_CPU cycle before the instruction. -/
def hx : State := { (up.setFlag TOP_CLK 1) with cpu := { running := [0, 1, 2, 3], sram := [(0x40000, 0x00100093)], harts := [(2, { pc := 0x10100000, mstatus := 8, mie := 0x20000 })] } }
def hxu : State := hx.setHart 2 { hx.hart 2 with mcycle := 1 }
def hxv : State := hxu.setHart 2 { hxu.hart 2 with wfi := false }
def hxe : State := { hx with evt := { hpend := [(2, 40)] } }
def hxu2 : State := hxe.setHart 2 { hxe.hart 2 with mcycle := 1 }
def hxv2 : State := hxu2.setHart 2 { hxu2.hart 2 with wfi := false }

/-! ### Well-formed commands: an ill-formed one for each check -/

theorem test_wf_desc : wellFormed (.nop (.ring 0) d0) = true := by decide
theorem test_illFormed_src : wellFormed (.nop (.ring 4) d0) = false := by decide
theorem test_illFormed_offset : wellFormed (.registerWrite .host 0x10013 0 15 .regs) = false := by decide
theorem test_illFormed_reportRing : wellFormed (.reportRingWrite 0) = false := by decide
theorem test_illFormed_headRing : wellFormed (.descriptorTake [{ ring := 4, opcode := 0, desc := d0 }]) = false := by decide
theorem test_illFormed_headTwice :
    wellFormed (.descriptorTake [{ ring := 1, opcode := 0, desc := d0 }, { ring := 1, opcode := 0, desc := d0 }]) = false := by decide
theorem test_illFormed_refs : wellFormed (.cycleBoundary [(0, true), (0, true), (0, true), (0, true), (0, true)]) = false := by decide
theorem test_illFormed_frame : wellFormed (.berthUp 0 { t := 0, set := .berth, cv := false, bytes := List.replicate 109 0 }) = false := by decide
theorem test_illFormed_tagMsg : wellFormed (.tagResponse 0 [0x81, 2, 0]) = false := by decide
theorem test_illFormed_latch : wellFormed (.soundingLatch []) = false := by decide
theorem test_illFormed_canData : wellFormed (.canFrameReceived 0 { fb with len := 3 }) = false := by decide
theorem test_illFormed_canRemote : wellFormed (.canWakeFrame 0 { fb with rtr := true }) = false := by decide
theorem test_illFormed_relay : wellFormed (.relayFrame 0 true 0 (List.replicate 109 0)) = false := by decide
theorem test_illFormed_bulk : wellFormed (.resyncBulkDone [(0x400000, 0)] [] [] [] [] []) = false := by decide
theorem test_illFormed_record : wellFormed (.boundaryRecordReceive 0 0 [(2, 0, 0)] [] []) = false := by decide
theorem test_illFormed_carry : wellFormed (.axisStateReceive 0 0 0 []) = false := by decide
theorem test_illFormed_sweep : wellFormed (.sweepReceive 0x3FFFF [0, 0]) = false := by decide

/-! ### The spec's worked examples and formats -/

/-- Spec 03, worked example after R134: the header bytes of an uplink frame. -/
theorem test_header_uplink : headerBytes 2 0x609 0x600 24 4 0xC3 2 0 0 0x2A = [0x12, 0x09, 0x06, 0x60, 0x98, 0xC3, 0x02, 0x2A] := by decide
/-- The same example: the header bytes of its downlink answer. -/
theorem test_header_downlink : headerBytes 3 0x600 0x609 24 4 0xC3 5 0 0 0x2A = [0x13, 0x00, 0x96, 0x60, 0x98, 0xC3, 0x05, 0x2A] := by decide
/-- The CRC-32 of IEEE 802.3 of the nine digits (its published check value). -/
theorem test_crc32 : crc32 [0x31, 0x32, 0x33, 0x34, 0x35, 0x36, 0x37, 0x38, 0x39] = 0xCBF43926 := by decide +kernel
/-- Spec 03, worked example after R146: a frame of 1,518 bytes makes 17 fragments, the last of 46 bytes padded by 2. -/
theorem test_tunnel_fragments : (tunnelFrags 17 0 (List.replicate 1518 (0 : Byte))).length = 17 ∧
    ((tunnelFrags 17 0 (List.replicate 1518 (0 : Byte))).getLast?).map (fun f => (f.1, f.2.1, f.2.2.1)) = some (16, true, 2) := by decide +kernel
/-- Spec 02, after R57: mask 0x0030, data 0x0010 sets bits [5:4] to 0b01 and leaves all other bits. -/
theorem test_mask_window : (after (up.setRg 0x10014 0x2A) (.aliasMaskWrite .host 0x10014 0x00300010 15)).rg 0x10014 = 0x1A := by decide +kernel
/-- R624: PORT_CFG with EN = 1 is kept by a write that would change TXPOL, and CFG_ERR is set. -/
theorem test_port_cfg_guard : (after ((up.setRg (pCfg 3) 1)) (.portCfgWrite 3 0x401)).rg (pCfg 3) = 1 ∧
    (after ((up.setRg (pCfg 3) 1)) (.portCfgWrite 3 0x401)).fld NET_FLAGS 31 0 ≠ 0 := by decide +kernel
/-- Spec 02, worked example after R86: with a shrink from 256 to 64 entries pending, an index of 64 is not taken and sets DB_ERR, an index of 14 is taken. -/
def shrunk : State := ((up.setRg (rCfg 2) 0x81).setRg (rStat 2) 1).setRg (rIdx 2) 0x00C800E6
theorem test_resize_doorbell :
    (after (after shrunk (.ringResizeRequest 2 6)) (.doorbellWrite 2 64)).fld (rIdx 2) 15 0 = 230 ∧
    (after (after shrunk (.ringResizeRequest 2 6)) (.doorbellWrite 2 14)).fld (rIdx 2) 15 0 = 14 := by decide +kernel
/-- Spec 03, worked example after R146: the dynamic segment of a 31.25 µs cycle holds 50 minislots. -/
theorem test_minislots_32k : minislots 1 = 50 := by decide
/-- Spec 06: a lane instruction and its word agree (the fields of Table 6.5). -/
theorem test_lane_word : decodeLane (encodeLane 0x0E (lw 1 2 3)) = (0x0E, lw 1 2 3) := by decide
/-- R307 and the example after R309: CPR 4,096, reference 1,000, an index at 9,194 deviates by 2. -/
theorem test_index_deviation : idxDev 9194 1000 4096 = 2 := by decide
/-- Spec 09, worked example after R371: P_adm 380 W of 1,200 W give RGF 0x2888_8889. -/
theorem test_rgf : rgfOf true 38000 120000 = 0x28888889 := by decide
/-- Spec 10, worked example: the HERMITE segment at t = 400 of 800 cycles writes into SETP PREF = 0x2_8000_0000 (640 counts), VREF = 0x0002_E148, AREF = 0x0001_3A93. -/
theorem test_hermite_setp : shrRnd (hermite 0 0 (2048 * 2 ^ 48) (divRnd (384 * 2 ^ 48) 100) 400 800).1 24 = 640 * 2 ^ 24 ∧
    shrRnd (hermite 0 0 (2048 * 2 ^ 48) (divRnd (384 * 2 ^ 48) 100) 400 800).2.1 32 = 0x0002E148 ∧
    shrRnd (hermite 0 0 (2048 * 2 ^ 48) (divRnd (384 * 2 ^ 48) 100) 400 800).2.2 24 = 0x00013A93 := by decide +kernel
/-- Spec 15, worked example after R538: the reset values of the bit timing meet R538. -/
theorem test_can_timing : ((State.reset.setRg (canReg 2 8) 0x0F0F3E01).setRg (canReg 2 0xC) 0x03030E00).canTiming 2 false = true := by decide +kernel
/-- FIPS 197, appendix B (the block cipher of R411): the example block. -/
theorem test_aes : aes128 [0x2b, 0x7e, 0x15, 0x16, 0x28, 0xae, 0xd2, 0xa6, 0xab, 0xf7, 0x15, 0x88, 0x09, 0xcf, 0x4f, 0x3c]
    [0x32, 0x43, 0xf6, 0xa8, 0x88, 0x5a, 0x30, 0x8d, 0x31, 0x31, 0x98, 0xa2, 0xe0, 0x37, 0x07, 0x34] =
    [0x39, 0x25, 0x84, 0x1d, 0x02, 0xdc, 0x09, 0xfb, 0xdc, 0x11, 0x85, 0x97, 0x19, 0x6a, 0x0b, 0x32] := by decide +kernel
/-- FIPS 180-4 (R592): the digest of "abc" begins with 0xBA7816BF. -/
theorem test_sha256 : (sha256 [0x61, 0x62, 0x63]).take 4 = [0xBA, 0x78, 0x16, 0xBF] := by decide +kernel

/-! ### Lane instructions on small operands -/

/-- ADD wraps and sets CARRY; ADDS saturates (spec 06). -/
theorem test_lane_add : (opAdd { d := [(2, 0x90000000), (3, 0xA0000001)] } (lw 1 2 3)).d = some 0x30000001 := by decide
theorem test_lane_adds : (opAdds { d := [(2, 0x90000000), (3, 0xA0000001)] } (lw 1 2 3)).d = some 0x80000000 := by decide
theorem test_lane_subs : (opSubs { d := [(2, 0x80000000), (3, 1)] } (lw 1 2 3)).d = some 0x80000000 := by decide
theorem test_lane_abss : (opAbss { d := [(2, 0x80000000)] } (lw 1 2 0)).d = some 0x7FFFFFFF := by decide
theorem test_lane_asr : (opAsr { d := [(2, 0x80000000)] } (lw 1 2 0)).d = some 0xF8000000 := by decide
theorem test_lane_lsr : (opLsr { d := [(2, 0x80000000)] } (lw 1 2 0)).d = some 0x08000000 := by decide
theorem test_lane_mpy : (opMpy { d := [(2, 0xFFFFFFFF), (3, 2)] } (lw 1 2 3)).acc = [(1, -2)] := by decide

/-! ### Single steps -/

/-- An empty queue idles (assumption log 1). -/
theorem test_step_idle : is (step State.reset) State.reset = true := by decide +kernel
/-- A network cycle number wraps (R15). -/
theorem test_boundary_wraps : (after { up with cycle := 0xFFFFFFFF } (.cycleBoundary [])).cycle = 0 := by decide +kernel
/-- A NOP with COMP completes into ring 4 with status OK. -/
theorem test_nop_completes : (after up (.nop (.ring 0) dc)).out ≠ [] ∧ (after up (.nop (.ring 0) d0)).out = [] := by decide +kernel
/-- A semaphore saturates at 65,535 and says so (R524). -/
theorem test_semaphore_saturates : (after { up with cpu := { up.cpu with sem := [(200, 65530)] } } (.semaphorePost .host 200 10)).cpu.sem = [(200, 65535)] := by decide +kernel

/-- RV32I: ADDI x1, x0, 1 at hart 2 writes x1 and moves the pc by 4. -/
theorem test_hart_addi : ((after hx (.tokenMatch (some 2))).hart 2).getX 1 = 1 ∧ ((after hx (.tokenMatch (some 2))).hart 2).pc = 0x10100004 := by
  decide +kernel
/-- IEEE 754 single precision: 1.5 + 2.25 = 3.75, exact. -/
theorem test_float_add : fltAdd 0 (fltOf 0x3FC00000) (fltOf 0x40100000) = (0x40700000, 0) := by decide +kernel
/-- IEEE 754: 1 ÷ 3 rounds to nearest even, inexact (flag 1). -/
theorem test_float_div : fltDiv 0 (fltOf 0x3F800000) (fltOf 0x40400000) = (0x3EAAAAAB, 1) := by decide +kernel
/-- R18 and R24: a token word with a reserved KIND in its low token keeps the old one and sets OVR; reserved bits read 0. -/
theorem test_token_word : (after (up.setRg (thCfg 7 + 4) 0x00001002) (.threadBlockWrite (.hart 0) 7 1 0x2F055001)).rg (thCfg 7 + 4) = 0x20051002 ∧
    (after (up.setRg (thCfg 7 + 4) 0x00001002) (.threadBlockWrite (.hart 0) 7 1 0x2F055001)).flag CPU_FLAGS 0 = true := by decide +kernel

/-! ### Witnesses: states and operands that meet the hypotheses of each statement -/

theorem witness_HostCommandsComplete :
    (∃ (s : State) (src : Src) (d : Desc), s.accepts src 0x00 d) ∧
    (∃ (s : State) (src : Src) (d : Desc), s.accepts src 0x01 d ∧
      s.regWriteError src d = none) ∧
    (∃ (s : State) (src : Src) (d : Desc), s.accepts src 0x02 d ∧
      d.op0.toNat % 4 = 0 ∧
      d.op0.toNat < 0x1000000 ∧
      s.regOff (d.op0.toNat % 0x400000) = false) ∧
    (∃ (s : State) (src : Src) (d : Desc), s.precheck src 0x03 d = none) :=
  ⟨⟨up, .ring 0, d0, by decide +kernel⟩,
   ⟨up, .ring 0, { d0 with op0 := 0x10014, op1 := 5 }, by decide +kernel⟩,
   ⟨up, .ring 0, { d0 with op0 := 0x10014 }, by decide +kernel⟩,
   ⟨up, .ring 0, { d0 with flags := 8, op5 := 5 }, by decide +kernel⟩⟩

theorem witness_CompletionWrites :
    (∃ (s : State) (r : Fin 32) (opc : Nat) (d : Desc) (lo : Nat) (hi : Nat), d.comp = false ∧
      s.isLost (.ring r) opc d = false) ∧
    (∃ (s : State) (r : Fin 32) (opc : Nat) (d : Desc) (st : St) (lo : Nat) (hi : Nat), ((d.comp = true ∨ st ≠ .ok)) ∧
      s.isLost (.ring r) opc d = false ∧
      s.ringAlive (s.slotOf (.ring r) opc d) = true) ∧
    (∃ (s : State) (r : Fin 32) (opc : Nat) (d : Desc) (st : St) (lo : Nat) (hi : Nat), s.isLost (.ring r) opc d = true) :=
  ⟨⟨up, 0, 0, d0, 0, 0, by decide +kernel⟩,
   ⟨up, 0, 0, dc, .ok, 1, 2, by decide +kernel⟩,
   ⟨{ up with host := { up.host with lost := [{ src := .ring 0, opcode := 0, desc := dc, cq := 4 }] } }, 0, 0, dc, .ok, 1, 2, by decide +kernel⟩⟩

theorem witness_RegisterWindows :
    (∃ (s : State) (v : Word), s.hostReaches (HOST_B + 0x14) ∧
      v &&& 0xFFFF ≠ 0) ∧
    (∃ (s : State) (v : Word), s.hostReaches (HOST_B + 0x14) ∧
      v &&& 0xFFFF ≠ 0) ∧
    (∃ (s : State) (v : Word), s.hostReaches (HOST_B + 0x14) ∧
      v &&& 0xFFFF ≠ 0 ∧
      s.rg (HOST_B + 0x14) &&& ~~~v &&& 0xFFFF ≠ 0) ∧
    (∃ (s : State) (v : Word), s.hostReaches (HOST_B + 0x14) ∧
      v >>> 16 ≠ 0 ∧
      ((s.rg (HOST_B + 0x14) &&& ~~~(v >>> 16)) ||| (v &&& (v >>> 16))) &&& 0xFFFF ≠ 0) ∧
    (∃ (s : State) (v : Word), s.hostReaches (HOST_B + 0x14) ∧
      v &&& 0xFFFF = 0) ∧
    (∃ (s : State) (v : Word), s.hostReaches (HOST_B + 0x14) ∧
      v >>> 16 = 0) :=
  ⟨⟨up, 0xABCD1234, by decide +kernel⟩,
   ⟨up, 0xABCD1234, by decide +kernel⟩,
   ⟨up.setRg (HOST_B + 0x14) 0xFF, 0xABCD1234, by decide +kernel⟩,
   ⟨up, 0x00FF1234, by decide +kernel⟩,
   ⟨up, 0xABCD0000, by decide +kernel⟩,
   ⟨up, 0x1234, by decide +kernel⟩⟩

theorem witness_RegisterWriteDiscarded :
    (∃ (s : State) (off : BitVec 22) (v : Word) (be : BitVec 4), s.reaches .host = true ∧
      be ≠ 15) ∧
    (∃ (s : State) (off : BitVec 22) (v : Word), s.reaches .host = true ∧
      off.toNat % 4 = 0 ∧
      s.regOff off.toNat = true) ∧
    (∃ (s : State) (off : BitVec 22) (v : Word) (g : Nat), s.reaches .host = true ∧
      off.toNat % 4 = 0 ∧
      s.regOff off.toNat = false ∧
      guardGroup off.toNat = some g ∧
      s.mapDenies g 0 = true) ∧
    (∃ (s : State) (v : Word), s.hostReaches (HOST_B + 0x14) ∧
      v &&& 0xFFFF = 0) ∧
    (∃ (s : State) (off : BitVec 22) (v : Word) (be : BitVec 4), s.reaches .host = false) ∧
    (∃ (s : State) (off : BitVec 24), s.reaches .host = true ∧
      s.regOff (off.toNat % 0x400000 / 4 * 4) = true ∧
      s.readWaits .host off.toNat = false) :=
  ⟨⟨up, 0x10014, 5, 3, by decide +kernel⟩,
   ⟨up.setRg 0x10 0x24, 0xB0000, 5, by decide +kernel⟩,
   ⟨up.setRg KEEL_ACCESS 1, 0xF0000, 5, 0, by decide +kernel⟩,
   ⟨up, 0xABCD0000, by decide +kernel⟩,
   ⟨State.reset, 0x10014, 5, 15, by decide +kernel⟩,
   ⟨up.setRg 0x10 0x24, 0xB0000, by decide +kernel⟩⟩

theorem witness_RegisterReads :
    (∃ (s : State) (a : Agent), s.reaches a = true) ∧
    (∃ (s : State) (a : Agent) (e : Nat × Nat), s.reaches a = true ∧
      s.host.latch.find? (fun e => e.1 == agentNo a * 2 ^ 24 + 0x40004) = some e) ∧
    (∃ (s : State) (a : Agent) (r : Fin 32), s.reaches a = true ∧
      s.powered 5 = true) ∧
    (∃ (s : State) (off : BitVec 24), s.reaches .host = true ∧
      s.readWaits .host off.toNat = true) ∧
    (∃ (s : State) (r : Fin 32), s.reaches .host = true) ∧
    (∃ (s : State) (v : Fin 64), s.reaches .host = true) :=
  ⟨⟨up, .host, by decide +kernel⟩,
   ⟨{ up with host := { up.host with latch := [(0x40004, 7)] } }, .host, (0x40004, 7), by decide +kernel⟩,
   ⟨up, .hart 1, 4, by decide +kernel⟩,
   ⟨{ up with mem := { up.mem with posted := [{ agent := .host, boff := 0x60110, word := some 5 }] } }, 0x60004, by decide +kernel⟩,
   ⟨up, 3, by decide +kernel⟩,
   ⟨up, 3, by decide +kernel⟩⟩

theorem witness_RingCommands :
    (∃ (s : State) (r : Fin 32) (v : Word), s.reaches .host = true ∧
      s.dbBad r.val (bits v 15 0) = false ∧
      s.resizing r.val = false ∧
      s.hostBehind = false ∧
      s.host.dbHeld = []) ∧
    (∃ (s : State) (r : Fin 32) (v : Word), s.reaches .host = true ∧
      s.ringSize r.val ≤ bits v 15 0 ∧
      s.hostBehind = false ∧
      s.host.dbHeld = []) ∧
    (∃ (s : State) (r : Fin 32) (v : Word), s.reaches .host = true ∧
      ((s.hostBehind = true ∨ s.host.dbHeld ≠ []))) ∧
    (∃ (s : State) (h : Head), h.ring.val < 4 ∧
      s.mayTake h = true ∧
      opcodeOnRing h.opcode.toNat h.ring.val = true ∧
      opcodes.contains h.opcode.toNat = true) ∧
    (∃ (s : State) (r : Fin 32), s.ringEn r.val = true ∧
      s.flag (rStat r.val) 0 = true) ∧
    (∃ (s : State) (b : Bool), s.ringEn (if b then 5 else 4) = true ∧
      s.flag (rStat (if b then 5 else 4)) 2 = true) ∧
    (∃ (s : State) (r : Fin 32), (s.ringX r.val).holdRun = true ∧
      s.fld (rIrq r.val) 23 8 ≠ 0) ∧
    (∃ (s : State) (x : List Byte), s.safe.log = [x] ∧
      s.ringRoom 27 = true) ∧
    (∃ (s : State), s.ringRoom 27 = false) :=
  ⟨⟨up, 0, 3, by decide +kernel⟩,
   ⟨up, 0, 16, by decide +kernel⟩,
   ⟨{ up with host := { up.host with dbHeld := [(1, 2)] } }, 0, 3, by decide +kernel⟩,
   ⟨up2, hd, by decide +kernel⟩,
   ⟨up, 0, by decide +kernel⟩,
   ⟨up.setFlag (rStat 4) 2, false, by decide +kernel⟩,
   ⟨(up.setRingX 0 { holdRun := true }).setFld (rIrq 0) 23 8 5, 0, by decide +kernel⟩,
   ⟨{ ringOn up 27 with safe := { log := [List.replicate 64 1] } }, List.replicate 64 1, by decide +kernel⟩,
   ⟨up, by decide +kernel⟩⟩

theorem witness_RingRegisters :
    (∃ (s : State) (r : Fin 32), s.reaches .host = true ∧
      s.powered 5 = true ∧
      s.ringEn r.val = false ∧
      s.pendValue (rCfg r.val) = s.rg (rCfg r.val)) ∧
    (∃ (s : State) (r : Fin 32), s.reaches .host = true ∧
      s.powered 5 = true ∧
      s.ringEn r.val = true) ∧
    (∃ (s : State) (r : Fin 32) (n : BitVec 5), s.reaches .host = true ∧
      s.powered 5 = true ∧
      s.ringEn r.val = true ∧
      s.pendValue (rCfg r.val) = s.rg (rCfg r.val) ∧
      4 ≤ n.toNat ∧
      n.toNat ≤ 16 ∧
      n.toNat ≠ s.fld (rCfg r.val) 8 4) ∧
    (∃ (s : State) (r : Fin 32), s.reaches .host = true ∧
      s.powered 5 = true ∧
      s.flag (rIrq r.val) 31 = true) ∧
    (∃ (s : State), s.reaches .host = true ∧
      s.powered 5 = true ∧
      s.flag HOST_CTL 0 = true) ∧
    (∃ (s : State) (b : Bool), s.reaches .host = true ∧
      s.powered 5 = true) ∧
    (∃ (s : State) (v : Fin 64) (a : BitVec 64) (x : Word), s.reaches .host = true ∧
      (s.msixV v.val).pba = false) ∧
    (∃ (s : State) (v : Fin 64) (a : BitVec 64) (x : Word), s.reaches .host = true ∧
      (s.msixV v.val).pba = true ∧
      s.host.msixOn = true) :=
  ⟨⟨up.setRg (rCfg 1) 0x40, 1, by decide +kernel⟩,
   ⟨up2, 0, by decide +kernel⟩,
   ⟨up3, 0, 5, by decide +kernel⟩,
   ⟨up3.setFlag (rIrq 0) 31, 0, by decide +kernel⟩,
   ⟨up.setFlag HOST_CTL 0, by decide +kernel⟩,
   ⟨up, true, by decide +kernel⟩,
   ⟨up, 3, 16, 5, by decide +kernel⟩,
   ⟨{ up with host := { up.host with msixEn := true, msix := [(3, { pba := true })] } }, 3, 16, 5, by decide +kernel⟩⟩

theorem witness_ManifestAccess :
    (∃ (s : State) (hi : Word), s.reaches .host = true ∧
      s.checking = false ∧
      0x1000 ≤ s.fld (LANE_B + 4) 12 0 ∧
      s.pageUsed ((s.fld (LANE_B + 4) 12 0 - 0x1000) / 0x800) = false ∧
      ((∀ l : Fin 16, bit (s.rg LANE_B) l.val = true → s.powered (l.val / 8) = true))) ∧
    (∃ (s : State) (l : Fin 64) (p : Fin 4) (v : Word), s.hostReaches (LANE_B + 0x400 + l.val * 0x10 + p.val * 4) ∧
      s.checking = false ∧
      16 ≤ l.val) ∧
    (∃ (s : State) (l : Fin 64) (p : Fin 4) (v : Word), s.hostReaches (LANE_B + 0x400 + l.val * 0x10 + p.val * 4) ∧
      s.checking = false ∧
      l.val < 16) ∧
    (∃ (s : State) (e : Fin 16) (j : Fin 4) (v : Word), s.hostReaches (LANE_B + 0x100 + e.val * 0x10 + j.val * 4) ∧
      s.checking = false ∧
      1 ≤ e.val ∧
      entryChecks v = []) ∧
    (∃ (s : State) (e : Fin 16) (j : Fin 4) (v : Word), s.hostReaches (LANE_B + 0x100 + e.val * 0x10 + j.val * 4) ∧
      s.checking = false ∧
      1 ≤ e.val ∧
      entryChecks v ≠ [] ∧
      (s.rg (LANE_B + 0x100 + e.val * 0x10 + j.val * 4) ^^^ v) &&& 0x3F3F3F3F ≠ 0) ∧
    (∃ (s : State) (t : State) (l : Fin 64) (e : Fin 16) (j : Fin 4) (v : Word), s.mem.posted = [] ∧
      t = s.checkDone l.val ∧
      t.checking = false ∧
      s.mem.entry = some { agent := .host, boff := LANE_B + 0x100 + e.val * 0x10 + j.val * 4, word := some v } ∧
      1 ≤ e.val ∧
      t.pendValue (LANE_B + 0x100 + e.val * 0x10 + j.val * 4) = t.rg (LANE_B + 0x100 + e.val * 0x10 + j.val * 4) ∧
      (t.rg (LANE_B + 0x100 + e.val * 0x10 + j.val * 4) ^^^ v) &&& 0x3F3F3F3F ≠ 0) ∧
    (∃ (s : State) (l : Fin 64), s.flag (slen l.val) 20 = true ∧
      s.mem.posted = [] ∧
      s.mem.entry = none ∧
      s.host.dbHeld = [] ∧
      (s.checkList l.val).2 = (0, true)) ∧
    (∃ (s : State) (l : Fin 64), s.flag (slen l.val) 20 = true ∧
      s.mem.posted = [] ∧
      s.mem.entry = none ∧
      s.host.dbHeld = [] ∧
      (s.checkList l.val).2.1 ≠ 0) :=
  ⟨⟨up4, 0x12, by decide +kernel⟩,
   ⟨up, 17, 1, 0x80018002, by decide +kernel⟩,
   ⟨up, 7, 1, 0x80018002, by decide +kernel⟩,
   ⟨up, 3, 1, 0x01020304, by decide +kernel⟩,
   ⟨up, 3, 1, 0x11020304, by decide +kernel⟩,
   ⟨(entW 17), (entW 17).checkDone 17, 17, 3, 1, 0x11020304, by decide +kernel⟩,
   ⟨(up.setRg (LANE_B + 0x510) 0x8180).setFlag (slen 17) 20, 17, by decide +kernel⟩,
   ⟨(up.setRg (LANE_B + 0x510) 0).setFlag (slen 17) 20, 17, by decide +kernel⟩⟩

theorem witness_UplinkFrames :
    (∃ (s : State) (p : Fin 16) (f : RxFrame) (k : Nat), s.rxReaches p.val f ∧
      s.topo p.val ≠ 2 ∧
      k < berthCount s.rate ∧
      hSrc (hdrNum f.bytes) % 256 ≠ 0xFF ∧
      berthStart k ≤ f.t ∧
      f.t ≤ berthStart k + 48 ∧
      f.t < tDyn s.rate ∧
      s.plannedAt (s.branchOf p.val) k = some (hSrc (hdrNum f.bytes)) ∧
      f.t + 8 * (f.bytes.length + 4) ≤ berthStart k + 976 ∧
      s.starCheck f true = none ∧
      s.branchOf p.val * 64 + k ∉ s.net.upUsed) ∧
    (∃ (s : State) (p : Fin 16) (f : RxFrame) (k : Nat), s.rxReaches p.val f ∧
      s.topo p.val = 2 ∧
      k < berthCount s.rate ∧
      hSrc (hdrNum f.bytes) % 256 ≠ 0xFF ∧
      berthStart k ≤ f.t ∧
      f.t ≤ berthStart k + 48 ∧
      f.t < tDyn s.rate ∧
      s.plannedAt (s.branchOf p.val) k = some (hSrc (hdrNum f.bytes)) ∧
      f.t + 8 * (f.bytes.length + 4) ≤ berthStart k + 976 ∧
      s.starCheck f true = none) ∧
    (∃ (s : State) (p : Fin 16) (f : RxFrame) (n : Node), s.hears p.val f.bytes = true ∧
      s.net.stopped.any (fun x => x.1 == p.val) = false ∧
      s.ownFrame p.val f = false ∧
      s.topo p.val = 3 ∧
      s.holder = false ∧
      s.net.tailHeld = [] ∧
      hType (hdrNum f.bytes) = 2 ∧
      n = s.node (hSrc (hdrNum f.bytes)) ∧
      n.state ≠ 0 ∧
      hSrc (hdrNum f.bytes) / 256 = s.branchOf p.val ∧
      hPart (hdrNum f.bytes) = 0 ∧
      hSlot (hdrNum f.bytes) = n.upb ∧
      s.starCheck f true = none ∧
      s.branchOf p.val * 64 + n.upb ∈ s.net.upUsed) ∧
    (∃ (s : State) (p : Fin 16) (f : RxFrame), s.rxReaches p.val f ∧
      hSrc (hdrNum f.bytes) % 256 ≠ 0xFF ∧
      452 ≤ f.t ∧
      f.t < tDyn s.rate ∧
      some (hSrc (hdrNum f.bytes)) ≠ s.plannedAt (s.branchOf p.val) 0 ∧
      f.t ≤ 548) ∧
    (∃ (s : State) (p : Fin 16) (f : RxFrame), s.hears p.val f.bytes = true ∧
      ((s.topo p.val ≠ 3 ∨ s.holder = true)) ∧
      s.net.tailHeld = [] ∧
      452 ≤ f.t ∧
      f.t ≤ 548) ∧
    (∃ (s : State) (p : Fin 16) (f : RxFrame), s.rxReaches p.val f ∧
      hSrc (hdrNum f.bytes) = s.branchOf p.val * 256 + 0xFF ∧
      absI (f.t - tDyn s.rate) ≤ 48 ∧
      1 ≤ minislots s.rate ∧
      p.val ∉ s.net.joinUsed ∧
      s.starCheck f false = none ∧
      leAt (framePayload f.bytes) 0 1 = 1) ∧
    (∃ (s : State) (p : Fin 16) (f : RxFrame), s.rxReaches p.val f ∧
      hSrc (hdrNum f.bytes) % 256 = 0xFF ∧
      absI (f.t - tDyn s.rate) ≤ 48 ∧
      1 ≤ minislots s.rate ∧
      ((p.val ∈ s.net.joinUsed ∨ hSrc (hdrNum f.bytes) / 256 ≠ s.branchOf p.val))) :=
  ⟨⟨rx, 3, frm 2 0x301 510 .berth [], 0, by decide +kernel⟩,
   ⟨rx.setRg (pCfg 3) 0x35, 3, frm 2 0x301 510 .berth [], 0, by decide +kernel⟩,
   ⟨{ stby with net := { rx.net with upUsed := [3 * 64] } }, 3, frm 2 0x301 900 .berth [], m1, by decide +kernel⟩,
   ⟨rx, 3, frm 2 0x302 500 .berth [], by decide +kernel⟩,
   ⟨rx, 3, frm 2 0x301 500 .berth [], by decide +kernel⟩,
   ⟨rx, 3, frm 8 0x3FF (tDyn up.rate + 10) .dyn [1, 0, 0, 0], by decide +kernel⟩,
   ⟨{ rx with net := { rx.net with joinUsed := [3] } }, 3, frm 8 0x3FF (tDyn up.rate + 10) .dyn [1, 0, 0, 0], by decide +kernel⟩⟩

theorem witness_UplinkMessages :
    (∃ (s : State) (p : Fin 16) (f : RxFrame) (g : Nat × Nat × Nat × Nat) (o : NetOp), s.rxGranted p.val f g ∧
      leAt (framePayload f.bytes) 0 1 = 6 ∧
      (s.rxTaken p.val f g).net.ops.find? (fun o => (o.opc == 0x33 || o.opc == 0x34) && (o.addr == g.1 || o.nodes.contains g.1)) = some o ∧
      leAt (framePayload f.bytes) 2 2 % 256 = 3) ∧
    (∃ (s : State) (p : Fin 16) (f : RxFrame) (g : Nat × Nat × Nat × Nat) (e : Echo), s.rxGranted p.val f g ∧
      leAt (framePayload f.bytes) 0 1 = 8 ∧
      ((s.rxTaken p.val f g).node g.1).echoOut.find? (fun e => e.no % 65536 == leAt (framePayload f.bytes) 2 2) = some e ∧
      e.tail = false ∧
      ((s.rxTaken p.val f g).node g.1).echoAns < 7) ∧
    (∃ (s : State) (p : Fin 16) (f : RxFrame) (g : Nat × Nat × Nat × Nat), s.rxGranted p.val f g ∧
      leAt (framePayload f.bytes) 0 1 = 0x0A) ∧
    (∃ (s : State) (p : Fin 16) (f : RxFrame) (g : Nat × Nat × Nat × Nat) (o : NetOp), s.rxGranted p.val f g ∧
      leAt (framePayload f.bytes) 0 1 = 0x0D ∧
      (s.rxTaken p.val f g).opOn 0x31 g.1 = some o) ∧
    (∃ (s : State) (p : Fin 16) (f : RxFrame) (g : Nat × Nat × Nat × Nat), s.rxGranted p.val f g ∧
      leAt (framePayload f.bytes) 0 1 = 0x0B ∧
      (Tab.get {} (s.rxTaken p.val f g).net.reasm (reasmKey g.1 (leAt (framePayload f.bytes) 1 1)) : Reasm) = {} ∧
      leAt (framePayload f.bytes) 2 2 % 64 = 0) ∧
    (∃ (s : State) (p : Fin 16) (f : RxFrame), s.hears p.val f.bytes = true ∧
      ((s.topo p.val = 2 ∨ s.topo p.val = 3)) ∧
      s.ownFrame p.val f = true ∧
      hType (hdrNum f.bytes) = 1) :=
  ⟨⟨rxOps rx [opn 0x33], 3, msg [6, 0, 3, 0], (0x301, 1, 4, 0), opn 0x33, by decide +kernel⟩,
   ⟨rxNode rx { m1 with echoOut := [{ no := 5, t1 := 0, tail := false }] }, 3, msg [8, 0, 5, 0, 0, 0, 0, 0], (0x301, 1, 4, 0), { no := 5, t1 := 0, tail := false }, by decide +kernel⟩,
   ⟨rx, 3, msg [0x0A, 0, 0, 0], (0x301, 1, 4, 0), by decide +kernel⟩,
   ⟨rxOps rx [opn 0x31], 3, msg [0x0D, 0, 0, 0], (0x301, 1, 4, 0), opn 0x31, by decide +kernel⟩,
   ⟨rx, 3, msg [0x0B, 9, 0, 0, 1, 2, 3, 4], (0x301, 1, 4, 0), by decide +kernel⟩,
   ⟨up.setRg (pCfg 3) 7, 3, frm 1 0x300 20 .sail [], by decide +kernel⟩⟩

theorem witness_NodeCommands :
    (∃ (s : State) (src : Src) (d : Desc), s.accepts src 0x30 d ∧
      s.nodeStatus d.tgt = none ∧
      d.op0 = 1) ∧
    (∃ (s : State) (src : Src) (d : Desc), s.accepts src 0x31 d ∧
      d.tgt < 0x1000 ∧
      reservedPos d.tgt = false ∧
      (s.node d.tgt).state ≠ 0) ∧
    (∃ (s : State) (src : Src) (d : Desc), s.accepts src 0x32 d ∧
      s.nodeStatus d.tgt = none) ∧
    (∃ (s : State) (src : Src) (d : Desc) (l : List Byte), s.accepts src 0x33 d ∧
      s.nodeStatus d.tgt = none ∧
      d.op2 ≠ 0 ∧
      s.net.ops.any (fun o => (o.opc == 0x33 || o.opc == 0x34) && (o.addr == d.tgt || o.targets.contains d.tgt)) = false ∧
      l ≠ []) ∧
    (∃ (s : State) (src : Src) (d : Desc) (l : List Byte), s.accepts src 0x34 d ∧
      s.nodeStatus d.tgt = none ∧
      d.tgt % 256 ≠ 0xFF ∧
      d.op2 ≠ 0 ∧
      s.net.ops.any (fun o => (o.opc == 0x33 || o.opc == 0x34) && (o.addr == d.tgt || o.targets.contains d.tgt)) = false ∧
      l ≠ []) ∧
    (∃ (s : State) (src : Src) (d : Desc) (l : List Byte), s.accepts src 0xB0 d ∧
      s.nodeStatus d.tgt = none ∧
      64 ≤ d.op2.toNat ∧
      d.op2.toNat ≤ 1518) :=
  ⟨⟨rx, .ring 0, { dn with op0 := 1 }, by decide +kernel⟩,
   ⟨rx, .ring 0, dn, by decide +kernel⟩,
   ⟨rx, .ring 0, dn, by decide +kernel⟩,
   ⟨rx, .ring 0, { dn with op2 := 4 }, [1, 2, 3, 4], by decide +kernel⟩,
   ⟨rx, .ring 0, { dn with op2 := 4 }, [1, 2, 3, 4], by decide +kernel⟩,
   ⟨rx, .ring 29, { dn with op2 := 64 }, List.replicate 64 5, by decide +kernel⟩⟩

theorem witness_NodeCommandsRefused :
    (∃ (s : State) (src : Src) (d : Desc), s.accepts src 0x30 d ∧
      d.tgt < 0x1000 ∧
      25 ≤ d.tgt % 256 ∧
      d.tgt % 256 ≤ 254) ∧
    (∃ (s : State) (src : Src) (d : Desc), s.accepts src 0x31 d ∧
      d.tgt < 0x1000 ∧
      d.tgt % 256 ≤ 24 ∧
      (s.node d.tgt).state = 0) ∧
    (∃ (s : State) (src : Src) (d : Desc), s.accepts src 0x30 d ∧
      s.nodeStatus d.tgt = none ∧
      1 < d.op0.toNat) ∧
    (∃ (s : State) (src : Src) (d : Desc) (l : Option (List Byte)), s.accepts src 0xB0 d ∧
      s.nodeStatus d.tgt = none ∧
      1518 < d.op2.toNat) ∧
    (∃ (s : State) (src : Src) (d : Desc), s.accepts src 0x33 d ∧
      s.nodeStatus d.tgt = none ∧
      d.op2 ≠ 0 ∧
      s.net.ops.any (fun o => (o.opc == 0x33 || o.opc == 0x34) && (o.addr == d.tgt || o.targets.contains d.tgt)) = false) :=
  ⟨⟨rx, .ring 0, { d0 with target := 0x319 }, by decide +kernel⟩,
   ⟨rx, .ring 0, { d0 with target := 0x302 }, by decide +kernel⟩,
   ⟨rx, .ring 0, { dn with op0 := 2 }, by decide +kernel⟩,
   ⟨rx, .ring 29, { dn with op2 := 1519 }, none, by decide +kernel⟩,
   ⟨rx, .ring 0, { dn with op2 := 4 }, by decide +kernel⟩⟩

theorem witness_NodeTimers :
    (∃ (s : State) (a : Fin 4096), s.flag (grd (a.val / 256)) 1 = true ∧
      16 ≤ (s.node a.val).admitted ∧
      (s.node a.val).allOk = true ∧
      (s.node a.val).autoOpened = false ∧
      (s.node a.val).state = 2) ∧
    (∃ (s : State) (a : Fin 4096), s.absent16 (s.node a.val) = true ∧
      (s.node a.val).state = 2 ∧
      s.opOn 0x32 a.val = none) ∧
    (∃ (s : State) (a : Fin 4096) (x : Nat × Reasm), s.net.reasm.filter (fun e => e.1 / 256 == a.val && e.2.active && decide (64 ≤ (s.cycle - e.2.start).toNat)) = [x]) ∧
    (∃ (s : State) (a : Fin 4096) (o : NetOp) (b : Nat × Nat × BitVec 32 × List Nat), s.net.ops.find? (fun o => (o.opc == 0x33 || o.opc == 0x34) && (o.addr == a.val || o.nodes.contains a.val)) = some o ∧
      o.blocks.find? (fun b => decide (16 ≤ (s.cycle - b.2.2.1).toNat)) = some b ∧
      8 ≤ b.2.1) ∧
    (∃ (s : State) (a : Fin 4096), (s.node a.val).state = 2 ∧
      s.topo (a.val / 256) ≠ 1) ∧
    (∃ (s : State) (a : Fin 4096) (o : NetOp), s.opOn 0x30 a.val = some o ∧
      o.sent = true ∧
      10 < (s.cycle - o.cyc0).toNat) ∧
    (∃ (s : State) (a : Fin 4096) (o : NetOp), s.opOn 0x32 a.val = some o ∧
      o.left = 0 ∧
      64 ≤ (s.cycle - o.cyc0).toNat ∧
      s.absent16 (s.node a.val) = false) ∧
    (∃ (s : State) (a : Fin 4096) (o : NetOp), s.opOn 0x31 a.val = some o ∧
      64 ≤ (s.cycle - o.cyc0).toNat) ∧
    (∃ (s : State) (p : Fin 16) (pins : BitVec 3), s.fld (pStat p.val) 1 0 = 0) ∧
    (∃ (s : State) (p : Fin 16) (pins : BitVec 3), s.fld (pStat p.val) 1 0 ≠ 0) :=
  ⟨⟨rxNode (rx.setFlag (grd 3) 1) { m1 with admitted := 16 }, 0x301, by decide +kernel⟩,
   ⟨rx, 0x301, by decide +kernel⟩,
   ⟨{ rx with net := { rx.net with reasm := [(0x30105, { active := true })] }, cycle := 64 }, 0x301, (0x30105, { active := true }), by decide +kernel⟩,
   ⟨{ rxOps rx [{ opn 0x33 with blocks := [(0, 8, 0, [0x301])] }] with cycle := 16 }, 0x301, { opn 0x33 with blocks := [(0, 8, 0, [0x301])] }, (0, 8, 0, [0x301]), by decide +kernel⟩,
   ⟨rx, 0x301, by decide +kernel⟩,
   ⟨{ rxOps rx [{ opn 0x30 with sent := true }] with cycle := 11 }, 0x301, { opn 0x30 with sent := true }, by decide +kernel⟩,
   ⟨{ (rxNode (rxOps rx [opn 0x32]) { m1 with seen := true, lastSeen := 60 }) with cycle := 64 }, 0x301, opn 0x32, by decide +kernel⟩,
   ⟨{ rxOps rx [opn 0x31] with cycle := 64 }, 0x301, opn 0x31, by decide +kernel⟩,
   ⟨rx, 3, 1, by decide +kernel⟩,
   ⟨rx.setFld (pStat 3) 1 0 1, 3, 1, by decide +kernel⟩⟩

theorem witness_Downlink :
    (∃ (s : State) (a : Fin 4096), (s.node a.val).state = 2 ∧
      (s.node a.val).dnb ≠ 255 ∧
      nodeNax (s.node a.val) ≠ 0 ∧
      s.net.stopped = [] ∧
      s.net.tailHeld = [] ∧
      s.pilot.switched = false) ∧
    (∃ (s : State) (b : Fin 16) (m : DynMsg), s.flag TIME_STAT 1 = true ∧
      s.net.dynQ = [m] ∧
      m.addr / 256 = b.val ∧
      m.cls ≠ 3 ∧
      s.net.stopped = [] ∧
      (16 + m.body.length) * 8 ≤ minislots s.rate * 128) :=
  ⟨⟨rx, 0x301, by decide +kernel⟩,
   ⟨{ rx.setFlag TIME_STAT 1 with net := { rx.net with dynQ := [{ cls := 4, addr := 0x301, tail := false, body := [1, 2, 3, 4] }] } }, 3, { cls := 4, addr := 0x301, tail := false, body := [1, 2, 3, 4] }, by decide +kernel⟩⟩

theorem witness_NetworkTime :
    (∃ (s : State) (x : BitVec 64), s.flag TIME_CFG 0 = true ∧
      s.tim.setCmd = none) ∧
    (∃ (s : State) (x : BitVec 64), s.flag TIME_CFG 0 = false) ∧
    (∃ (s : State), s.flag TIME_CFG 0 = true ∧
      s.flag TIME_STAT 2 = true) ∧
    (∃ (s : State), s.flag TIME_STAT 4 = true) ∧
    (∃ (s : State) (k : Int), s.tim.step = some (0, k, 0) ∧
      s.tim.setCmd = none) ∧
    (∃ (s : State) (src : Src) (d : Desc), s.tim.setCmd = some (src, d) ∧
      s.tim.step = none) ∧
    (∃ (s : State), s.flag TIME_CFG 2 = true ∧
      s.tim.ppsOut = false) ∧
    (∃ (s : State) (src : Src) (d : Desc), s.accepts src 0x36 d ∧
      s.flag TIME_CFG 0 = true ∧
      s.tim.setCmd = none) ∧
    (∃ (s : State), s.mayStart = true ∧
      s.flag TIME_STAT 1 = false ∧
      s.flag TIME_STAT 6 = false) :=
  ⟨⟨up.setFlag TIME_CFG 0, 1000000000, by decide +kernel⟩,
   ⟨up.clrFlag TIME_CFG 0, 5, by decide +kernel⟩,
   ⟨(up.setFlag TIME_CFG 0).setFlag TIME_STAT 2, by decide +kernel⟩,
   ⟨up.setFlag TIME_STAT 4, by decide +kernel⟩,
   ⟨{ up with tim := { up.tim with step := some (0, 2, 0) } }, 2, by decide +kernel⟩,
   ⟨{ up with tim := { up.tim with setCmd := some (.ring 0, d0) } }, .ring 0, d0, by decide +kernel⟩,
   ⟨up.setFlag TIME_CFG 2, by decide +kernel⟩,
   ⟨up.setFlag TIME_CFG 0, .ring 0, d0, by decide +kernel⟩,
   ⟨rx.setFlag TIME_STAT 0, by decide +kernel⟩⟩

theorem witness_LaneDataInstructions :
    (∃ (s : State) (l : Fin 16) (w : LaneWord), s.laneAt l.val 0x03 w) ∧
    (∃ (s : State) (l : Fin 16) (w : LaneWord), s.laneAt l.val 0x10 w) ∧
    (∃ (s : State) (l : Fin 16) (w : LaneWord), s.laneAt l.val 0x11 w) ∧
    (∃ (s : State) (l : Fin 16) (w : LaneWord), s.laneAt l.val 0x12 w) ∧
    (∃ (s : State) (l : Fin 16) (w : LaneWord), s.laneAt l.val 0x13 w) ∧
    (∃ (s : State) (l : Fin 16) (w : LaneWord), s.laneAt l.val 0x18 w) ∧
    (∃ (s : State) (l : Fin 16) (w : LaneWord), s.laneAt l.val 0x19 w) ∧
    (∃ (s : State) (l : Fin 16) (w : LaneWord), s.laneAt l.val 0x1A w) ∧
    (∃ (s : State) (l : Fin 16) (w : LaneWord), s.laneAt l.val 0x1B w) ∧
    (∃ (s : State) (l : Fin 16) (w : LaneWord), s.laneAt l.val 0x1C w) ∧
    (∃ (s : State) (l : Fin 16) (w : LaneWord), s.laneAt l.val 0x1F w) ∧
    (∃ (s : State) (l : Fin 16) (w : LaneWord), s.laneAt l.val 0x20 w) ∧
    (∃ (s : State) (l : Fin 16) (w : LaneWord), s.laneAt l.val 0x21 w) ∧
    (∃ (s : State) (l : Fin 16) (w : LaneWord), s.laneAt l.val 0x22 w) ∧
    (∃ (s : State) (l : Fin 16) (w : LaneWord), s.laneAt l.val 0x23 w) ∧
    (∃ (s : State) (l : Fin 16) (w : LaneWord), s.laneAt l.val 0x25 w ∧
      ((s.lane l.val).gen 7).l ≠ 0) ∧
    (∃ (s : State) (l : Fin 16) (w : LaneWord), s.laneAt l.val 0x25 w ∧
      ((s.lane l.val).gen 7).l = 0) :=
  ⟨⟨ln 0x03 (lw 1 2 3), 2, lw 1 2 3, by decide +kernel⟩,
   ⟨ln 0x10 (lw 1 2 3), 2, lw 1 2 3, by decide +kernel⟩,
   ⟨ln 0x11 (lw 1 2 3), 2, lw 1 2 3, by decide +kernel⟩,
   ⟨ln 0x12 (lw 1 2 3), 2, lw 1 2 3, by decide +kernel⟩,
   ⟨ln 0x13 (lw 1 2 3), 2, lw 1 2 3, by decide +kernel⟩,
   ⟨ln 0x18 (lw 1 2 3), 2, lw 1 2 3, by decide +kernel⟩,
   ⟨ln 0x19 (lw 1 2 3), 2, lw 1 2 3, by decide +kernel⟩,
   ⟨ln 0x1A (lw 1 2 3), 2, lw 1 2 3, by decide +kernel⟩,
   ⟨ln 0x1B (lw 1 2 3), 2, lw 1 2 3, by decide +kernel⟩,
   ⟨ln 0x1C (lw 1 2 3), 2, lw 1 2 3, by decide +kernel⟩,
   ⟨ln 0x1F (lw 1 2 3), 2, lw 1 2 3, by decide +kernel⟩,
   ⟨ln 0x20 (lw 1 2 3), 2, lw 1 2 3, by decide +kernel⟩,
   ⟨ln 0x21 (lw 1 2 3), 2, lw 1 2 3, by decide +kernel⟩,
   ⟨ln 0x22 (lw 1 2 3), 2, lw 1 2 3, by decide +kernel⟩,
   ⟨ln 0x23 (lw 1 2 3), 2, lw 1 2 3, by decide +kernel⟩,
   ⟨(ln 0x25 (lw 1 2 3)).setLane 2 { (ln 0x25 (lw 1 2 3)).lane 2 with ag := [(7, { l := 8, b := 0x500 })] }, 2, lw 1 2 3, by decide +kernel⟩,
   ⟨ln 0x25 (lw 1 2 3), 2, lw 1 2 3, by decide +kernel⟩⟩

theorem witness_LaneSaturatingInstructions :
    (∃ (s : State) (l : Fin 16) (w : LaneWord), s.laneAt l.val 0x14 w) ∧
    (∃ (s : State) (l : Fin 16) (w : LaneWord), s.laneAt l.val 0x15 w) ∧
    (∃ (s : State) (l : Fin 16) (w : LaneWord), s.laneAt l.val 0x16 w) ∧
    (∃ (s : State) (l : Fin 16) (w : LaneWord), s.laneAt l.val 0x17 w) ∧
    (∃ (s : State) (l : Fin 16) (w : LaneWord), s.laneAt l.val 0x1D w) ∧
    (∃ (s : State) (l : Fin 16) (w : LaneWord), s.laneAt l.val 0x1E w) ∧
    (∃ (s : State) (l : Fin 16) (w : LaneWord), s.laneAt l.val 0x37 w) :=
  ⟨⟨ln 0x14 (lw 1 2 3), 2, lw 1 2 3, by decide +kernel⟩,
   ⟨ln 0x15 (lw 1 2 3), 2, lw 1 2 3, by decide +kernel⟩,
   ⟨ln 0x16 (lw 1 2 3), 2, lw 1 2 3, by decide +kernel⟩,
   ⟨ln 0x17 (lw 1 2 3), 2, lw 1 2 3, by decide +kernel⟩,
   ⟨ln 0x1D (lw 1 2 3), 2, lw 1 2 3, by decide +kernel⟩,
   ⟨ln 0x1E (lw 1 2 3), 2, lw 1 2 3, by decide +kernel⟩,
   ⟨ln 0x37 (lw 1 9 3), 2, lw 1 9 3, by decide +kernel⟩⟩

theorem witness_LaneAccumulatorInstructions :
    (∃ (s : State) (l : Fin 16) (w : LaneWord), s.laneAt l.val 0x30 w) ∧
    (∃ (s : State) (l : Fin 16) (w : LaneWord), s.laneAt l.val 0x31 w) ∧
    (∃ (s : State) (l : Fin 16) (w : LaneWord), s.laneAt l.val 0x32 w) ∧
    (∃ (s : State) (l : Fin 16) (w : LaneWord), s.laneAt l.val 0x36 w) ∧
    (∃ (s : State) (l : Fin 16) (w : LaneWord), s.laneAt l.val 0x38 w) ∧
    (∃ (s : State) (l : Fin 16) (w : LaneWord), s.laneAt l.val 0x39 w) ∧
    (∃ (s : State) (l : Fin 16) (w : LaneWord), s.laneAt l.val 0x33 w) ∧
    (∃ (s : State) (l : Fin 16) (w : LaneWord), s.laneAt l.val 0x34 w ∧
      -(2 ^ 79) ≤ (s.lane l.val).accu (w.dst.toNat % 4) + (s.opA l.val w).toInt * (s.opB l.val w).toInt ∧
      (s.lane l.val).accu (w.dst.toNat % 4) + (s.opA l.val w).toInt * (s.opB l.val w).toInt ≤ 2 ^ 79 - 1 ∧
      -(2 ^ 79) ≤ (s.lane l.val).accu ((w.dst ^^^ 1).toNat % 4) + ((s.lane l.val).src (w.sa ^^^ 1)).toInt * ((s.lane l.val).src (w.sb ^^^ 1)).toInt ∧
      (s.lane l.val).accu ((w.dst ^^^ 1).toNat % 4) + ((s.lane l.val).src (w.sa ^^^ 1)).toInt * ((s.lane l.val).src (w.sb ^^^ 1)).toInt ≤ 2 ^ 79 - 1) ∧
    (∃ (s : State) (l : Fin 16) (w : LaneWord), s.laneAt l.val 0x35 w ∧
      -(2 ^ 79) ≤ (s.lane l.val).accu (w.dst.toNat % 4) + ((s.lane l.val).readX (((s.lane l.val).gen (w.imm.toNat % 4)).ea 0)).toInt *
      ((s.lane l.val).readY (((s.lane l.val).gen (4 + w.imm.toNat / 4 % 4)).ea 0)).toInt ∧
      (s.lane l.val).accu (w.dst.toNat % 4) + ((s.lane l.val).readX (((s.lane l.val).gen (w.imm.toNat % 4)).ea 0)).toInt *
      ((s.lane l.val).readY (((s.lane l.val).gen (4 + w.imm.toNat / 4 % 4)).ea 0)).toInt ≤ 2 ^ 79 - 1) :=
  ⟨⟨ln 0x30 (lw 8 2 3), 2, lw 8 2 3, by decide +kernel⟩,
   ⟨ln 0x31 (lw 8 2 3), 2, lw 8 2 3, by decide +kernel⟩,
   ⟨ln 0x32 (lw 8 2 3), 2, lw 8 2 3, by decide +kernel⟩,
   ⟨ln 0x36 (lw 8 2 3), 2, lw 8 2 3, by decide +kernel⟩,
   ⟨ln 0x38 (lw 8 2 3), 2, lw 8 2 3, by decide +kernel⟩,
   ⟨ln 0x39 (lw 8 9 3), 2, lw 8 9 3, by decide +kernel⟩,
   ⟨ln 0x33 (lw 8 2 3), 2, lw 8 2 3, by decide +kernel⟩,
   ⟨ln 0x34 (lw 8 2 3), 2, lw 8 2 3, by decide +kernel⟩,
   ⟨{ ln 0x35 (lw 8 2 3) with lanes := [(2, { (ln 0x35 (lw 8 2 3)).lane 2 with ag := [(0, { p := 0x600 }), (5, { p := 0x500 })] })] }, 2, lw 8 2 3, by decide +kernel⟩⟩

theorem witness_LaneControlInstructions :
    (∃ (s : State) (l : Fin 16) (w : LaneWord), s.laneAt l.val 0x00 w) ∧
    (∃ (s : State) (l : Fin 16) (w : LaneWord), s.laneAt l.val 0x01 w) ∧
    (∃ (s : State) (l : Fin 16) (w : LaneWord), s.laneAt l.val 0x02 w) ∧
    (∃ (s : State) (l : Fin 16) (w : LaneWord), s.laneAt l.val 0x04 w) ∧
    (∃ (s : State) (l : Fin 16) (w : LaneWord), s.laneAt l.val 0x05 w) ∧
    (∃ (s : State) (l : Fin 16) (w : LaneWord), s.laneAt l.val 0x06 w) ∧
    (∃ (s : State) (l : Fin 16) (w : LaneWord), s.laneAt l.val 0x07 w) ∧
    (∃ (s : State) (l : Fin 16) (w : LaneWord), s.laneAt l.val 0x24 w) ∧
    (∃ (s : State) (l : Fin 16) (w : LaneWord), s.laneAt l.val 0x3C w ∧
      (s.lane l.val).lwrAt = none) ∧
    (∃ (s : State) (l : Fin 16) (w : LaneWord), s.laneAt l.val 0x3D w) ∧
    (∃ (s : State) (l : Fin 16) (w : LaneWord), s.laneAt l.val 0x3E w) :=
  ⟨⟨ln 0x00 (lw 1 2 3), 2, lw 1 2 3, by decide +kernel⟩,
   ⟨ln 0x01 (lw 1 2 3), 2, lw 1 2 3, by decide +kernel⟩,
   ⟨ln 0x02 (lw 1 2 3), 2, lw 1 2 3, by decide +kernel⟩,
   ⟨ln 0x04 (lw 1 2 3), 2, lw 1 2 3, by decide +kernel⟩,
   ⟨ln 0x05 (lw 1 2 3), 2, lw 1 2 3, by decide +kernel⟩,
   ⟨ln 0x06 (lw 1 2 3), 2, lw 1 2 3, by decide +kernel⟩,
   ⟨ln 0x07 (lw 1 2 3), 2, lw 1 2 3, by decide +kernel⟩,
   ⟨ln 0x24 (lw 1 2 3), 2, lw 1 2 3, by decide +kernel⟩,
   ⟨ln 0x3C (lw 1 2 3), 2, lw 1 2 3, by decide +kernel⟩,
   ⟨ln 0x3D (lw 1 2 3), 2, lw 1 2 3, by decide +kernel⟩,
   ⟨ln 0x3E (lw 1 2 3), 2, lw 1 2 3, by decide +kernel⟩⟩

theorem witness_Passes :
    (∃ (s : State) (l : Fin 16) (a : Fin 256) (t : Int) (e : List LaneErr) (p : PlanAxis), s.planAxis a.val = some p ∧
      (s.axis a.val).stay = none ∧
      p.lane = l.val ∧
      (s.lane l.val).busy = false ∧
      (s.passCycle a.val t).toNat % p.div = p.phase ∧
      (s.axis a.val).startedFor ≠ some (s.passCycle a.val t) ∧
      (s.fb a.val).arrivedAt = some (s.passCycle a.val t) ∧
      s.orderOk p (s.passCycle a.val t) = true ∧
      p.axis = a.val ∧
      s.net.tailHeld = []) ∧
    (∃ (s : State) (l : Fin 16) (a : Fin 256) (t : Int) (e : List LaneErr) (p : PlanAxis), s.planAxis a.val = some p ∧
      (s.axis a.val).stay = none ∧
      p.lane = l.val ∧
      (s.lane l.val).busy = false ∧
      (s.passCycle a.val t).toNat % p.div = p.phase ∧
      (s.axis a.val).startedFor ≠ some (s.passCycle a.val t) ∧
      (s.fb a.val).arrivedAt ≠ some (s.passCycle a.val t) ∧
      (p.start : Int) ≤ t * 2500 ∧
      s.orderOk p (s.passCycle a.val t) = true ∧
      p.axis = a.val ∧
      s.net.tailHeld = []) ∧
    (∃ (s : State) (l : Fin 16) (a : Fin 256) (t : Int) (e : List LaneErr), s.planAxis a.val = none) ∧
    (∃ (s : State) (l : Fin 16), (s.lane l.val).busy = true) ∧
    (∃ (s : State) (l : Fin 16), (s.lane l.val).busy = false) :=
  ⟨⟨px.setFb 5 { arrivedAt := some 0 }, 2, 5, 0, [], pa, by decide +kernel⟩,
   ⟨px, 2, 5, 0, [], pa, by decide +kernel⟩,
   ⟨up, 2, 5, 0, [], by decide +kernel⟩,
   ⟨ln 0 (lw 0 0 0), 2, by decide +kernel⟩,
   ⟨up, 2, by decide +kernel⟩⟩

theorem witness_PlanCommands :
    (∃ (s : State) (src : Src) (d : Desc), s.accepts src 0x20 d ∧
      ((s.planState = 0 ∨ s.planState = 3)) ∧
      s.boot.pdJobs.any (fun j => j.2.tgt ≤ 1) = false ∧
      (∀ x ∈ s.host.planUsed ++ s.host.plan, x.seq < s.host.planSeq)) ∧
    (∃ (s : State) (src : Src) (d : Desc), s.accepts src 0x20 d ∧
      ((s.planState = 1 ∨ s.planState = 2 ∨ s.planState = 4))) ∧
    (∃ (s : State) (src : Src) (d : Desc) (p : Plan), s.precheck src 0x21 d = none ∧
      s.planState = 3 ∧
      d.atCycle = true ∧
      16 ≤ (d.op5 - s.cycle).toNat ∧
      (d.op5 - s.cycle).toNat < 2 ^ 31 ∧
      s.pilot.new = some p ∧
      d.op0.toNat = p.id ∧
      s.rateOk d.op5 p.rate = true) ∧
    (∃ (s : State) (src : Src) (d : Desc), s.precheck src 0x21 d = none ∧
      s.planState = 3 ∧
      d.atCycle = true ∧
      isFuture d.op5 s.cycle = false) ∧
    (∃ (s : State) (src : Src) (d : Desc) (p : Plan), s.accepts src 0x22 d ∧
      s.planState = 3 ∧
      s.pilot.new = some p ∧
      d.op0.toNat = p.id ∧
      p.id ≠ 0) ∧
    (∃ (s : State) (src : Src) (d : Desc), s.accepts src 0x22 d ∧
      ((s.planState = 1 ∨ s.planState = 2)) ∧
      d.op0 = 0) ∧
    (∃ (s : State) (src : Src) (d : Desc) (p : PlanAxis), s.accepts src 0x23 d ∧
      s.actAxis d.tgt = some p) ∧
    (∃ (s : State) (src : Src) (d : Desc), s.accepts src 0x23 d ∧
      s.actAxis d.tgt = none) :=
  ⟨⟨up, .ring 0, d0, by decide +kernel⟩,
   ⟨up.setPlanState 1, .ring 0, d0, by decide +kernel⟩,
   ⟨{ px.setPlanState 3 with pilot := { act := pl1, new := some pl2 } }, .ring 0, { d8 with op0 := 2, op5 := 16 }, pl2, by decide +kernel⟩,
   ⟨up.setPlanState 3, .ring 0, { d8 with op0 := 2, op5 := 0 }, by decide +kernel⟩,
   ⟨{ px.setPlanState 3 with pilot := { act := pl1, new := some pl2 } }, .ring 0, { d0 with op0 := 2 }, pl2, by decide +kernel⟩,
   ⟨up.setPlanState 1, .ring 0, d0, by decide +kernel⟩,
   ⟨px, .ring 0, { d0 with target := 5 }, pa, by decide +kernel⟩,
   ⟨px, .ring 0, { d0 with target := 6 }, by decide +kernel⟩⟩

theorem witness_PlanSteps :
    (∃ (s : State) (p : Plan), s.planState = 1 ∧
      s.pilot.snapWait = false ∧
      s.pilot.stop = false ∧
      s.pilot.rej = none ∧
      s.pilot.job = some p) ∧
    (∃ (s : State) (r : Nat × Nat), s.planState = 1 ∧
      s.pilot.snapWait = false ∧
      s.pilot.stop = false ∧
      s.pilot.rej = some r) ∧
    (∃ (s : State), ((s.planState = 1 ∨ s.planState = 2)) ∧
      s.pilot.stop = true) ∧
    (∃ (s : State) (p : Plan) (src : Src) (d : Desc), s.planState = 2 ∧
      s.pilot.loadLeft = 0 ∧
      s.pilot.stop = false ∧
      s.pilot.job = some p ∧
      s.pilot.cmd = some (src, d) ∧
      s.pilot.autoCommit = false) ∧
    (∃ (s : State), s.flag PILOT_CFG 8 = true ∧
      s.unplaced = true ∧
      s.planState = 0 ∧
      (∀ x ∈ s.host.planUsed ++ s.host.plan, x.seq < s.host.planSeq)) ∧
    (∃ (s : State) (p : Plan), s.planState = 4 ∧
      s.cycle = s.pilot.commitAt ∧
      s.pilot.switched = false ∧
      s.pilot.new = some p ∧
      p.id < 256) ∧
    (∃ (s : State) (src : Src) (d : Desc), s.planState = 4 ∧
      s.pilot.switched = true ∧
      isFuture s.cycle s.pilot.commitAt = true ∧
      s.pilot.isoRun = [] ∧
      s.pilot.commitCmd = some (src, d)) ∧
    (∃ (s : State) (n : Fin 4096), s.pilot.switched = true ∧
      (s.node n.val).state = 2 ∧
      (s.node n.val).seen = false) ∧
    (∃ (s : State) (src : Src) (d : Desc), s.planState = 4 ∧
      s.pilot.switched = true ∧
      isFuture s.cycle s.pilot.commitAt = true ∧
      s.pilot.isoRun = [] ∧
      s.pilot.isoReq = [] ∧
      s.pilot.commitCmd = some (src, d) ∧
      s.net.held = []) :=
  ⟨⟨{ up.setPlanState 1 with pilot := { job := some pl2 } }, pl2, by decide +kernel⟩,
   ⟨{ up.setPlanState 1 with pilot := { rej := some (3, 4) } }, (3, 4), by decide +kernel⟩,
   ⟨{ up.setPlanState 2 with pilot := { stop := true } }, by decide +kernel⟩,
   ⟨{ up.setPlanState 2 with pilot := { job := some pl2, cmd := some (.ring 0, d0) } }, pl2, .ring 0, d0, by decide +kernel⟩,
   ⟨(px.setFlag PILOT_CFG 8).setRg (axc1 6) 0x10301, by decide +kernel⟩,
   ⟨{ px.setPlanState 4 with pilot := { act := pl1, new := some pl2 } }, pl2, by decide +kernel⟩,
   ⟨{ px.setPlanState 4 with pilot := { act := pl2, old := some pl1, switched := true, commitCmd := some (.ring 0, d0) }, cycle := 1 }, .ring 0, d0, by decide +kernel⟩,
   ⟨{ px with pilot := { act := pl1, switched := true } }, 0x301, by decide +kernel⟩,
   ⟨{ px.setPlanState 4 with pilot := { act := pl2, old := some pl1, switched := true, commitCmd := some (.ring 0, d0) }, cycle := 1 }, .ring 0, d0, by decide +kernel⟩⟩

theorem witness_CycleBoundaries :
    (∃ (s : State) (u : State) (v : State) (w : State) (b : Bool) (refs : List (Nat × Bool)), u = s.useAllTails.serveSound.acqClose.endStays ((s.pilot.old.map (fun o => o.axes)).getD []) ∧
      v = (u.advance.acqOpen.stepWait.eachAxis (fun s a => s.setProf a { s.prof a with stopped := false, tqHost := false })).eachAxis
      State.profAdvance ∧
      b = v.diverges (if v.flag HOST_CTL 0 then [] else v.host.cyc.filter (fun x => x.defer == 0))
      (v.host.due.filter (fun x => !isFuture x.cyc v.cycle)) ∧
      w = ((v.applyStage.freeDoorbells.safeBoundary.faultBoundary.applyDue.applyStream b).emuBoundary.eachAxis State.adaptRamp).ledgerBoundary) ∧
    (∃ (s : State), s.flag HOST_CTL 0 = true) ∧
    (∃ (s : State) (x : Staged), s.flag HOST_CTL 0 = false ∧
      s.host.cyc = [x] ∧
      s.host.cycHeld = [] ∧
      x.defer = 0 ∧
      x.off < 0x30000) ∧
    (∃ (s : State) (x : Staged), s.flag HOST_CTL 0 = false ∧
      s.host.cyc = [x] ∧
      s.host.cycHeld = [] ∧
      0 < x.defer) ∧
    (∃ (s : State) (p : Fin 16) (v : Word), s.hostReaches (pCfg p.val) ∧
      s.portEn p.val = false ∧
      bit v 9 = false ∧
      s.host.cyc.length < 1024 ∧
      s.host.cycHeld = []) ∧
    (∃ (s : State) (p : Fin 16) (v : Word), s.hostReaches (pCfg p.val) ∧
      s.portEn p.val = false ∧
      bit v 9 = false ∧
      s.host.cyc.length < 1024 ∧
      s.host.cycHeld = []) ∧
    (∃ (s : State) (p : Fin 16) (v : Word), s.hostReaches (pCfg p.val) ∧
      s.portEn p.val = true ∧
      bit v 9 = false ∧
      differ (s.rg (pCfg p.val)) v 0x1F00 = true) :=
  ⟨⟨up, up.useAllTails.serveSound.acqClose.endStays [], vB, ((vB.applyStage.freeDoorbells.safeBoundary.faultBoundary.applyDue.applyStream false).emuBoundary.eachAxis State.adaptRamp).ledgerBoundary, false, [], by decide +kernel⟩,
   ⟨up.setFlag HOST_CTL 0, by decide +kernel⟩,
   ⟨{ up with host := { up.host with cyc := [{ off := 0x10014, mask := 0xFF, val := 0x12, defer := 0 }] } }, { off := 0x10014, mask := 0xFF, val := 0x12, defer := 0 }, by decide +kernel⟩,
   ⟨{ up with host := { up.host with cyc := [{ off := 0x10014, mask := 0xFF, val := 0x12, defer := 1 }] } }, { off := 0x10014, mask := 0xFF, val := 0x12, defer := 1 }, by decide +kernel⟩,
   ⟨up, 3, 0xCF5, by decide +kernel⟩,
   ⟨up, 3, 0xCF5, by decide +kernel⟩,
   ⟨rx, 3, 0xCF5, by decide +kernel⟩⟩

theorem witness_AxisCommands :
    (∃ (s : State) (src : Src) (d : Desc), s.precheck src 0x10 d = none) ∧
    (∃ (s : State) (src : Src) (d : Desc), s.accepts src 0x11 d ∧
      d.tgt < 256 ∧
      (s.parCheck d.tgt d.op0.toNat d.op1).1 = .ok ∧
      parCls d.op0.toNat = .cyc) ∧
    (∃ (s : State) (src : Src) (d : Desc), s.accepts src 0x11 d ∧
      d.tgt < 256 ∧
      (s.parCheck d.tgt d.op0.toNat d.op1).1 = .ok ∧
      parCls d.op0.toNat = .plan) ∧
    (∃ (s : State) (src : Src) (d : Desc), s.accepts src 0x11 d ∧
      256 ≤ d.tgt) ∧
    (∃ (s : State) (src : Src) (d : Desc), s.accepts src 0x12 d ∧
      d.tgt < 256 ∧
      (parRow d.op0.toNat).isSome = true ∧
      d.op1 = 0) ∧
    (∃ (s : State) (src : Src) (d : Desc), s.accepts src 0x12 d ∧
      d.tgt < 256 ∧
      (parRow d.op0.toNat).isSome = true ∧
      d.op1 = 1) ∧
    (∃ (s : State) (src : Src) (d : Desc), s.accepts src 0x13 d ∧
      d.tgt < 256 ∧
      d.op0.toNat < 2) ∧
    (∃ (s : State) (src : Src) (d : Desc), s.accepts src 0x14 d ∧
      d.tgt < 256 ∧
      s.pn d.tgt 0x26 ≠ 0) ∧
    (∃ (s : State) (src : Src) (d : Desc), s.precheck src 0x15 d = none) ∧
    (∃ (s : State) (src : Src) (d : Desc), s.accepts src 0x16 d ∧
      d.tgt < 256) ∧
    (∃ (s : State) (a : Fin 256) (v : Word), (s.parCheck a.val (s.fld (axReg a.val 0xC) 15 0) v).1 = .ok ∧
      parCls (s.fld (axReg a.val 0xC) 15 0) = .cyc ∧
      s.host.cyc.length < 1024 ∧
      s.host.cycHeld = []) ∧
    (∃ (s : State) (src : Src) (d : Desc), s.accepts src 0x12 d ∧
      256 ≤ d.tgt) ∧
    (∃ (s : State) (src : Src) (d : Desc), s.accepts src 0x12 d ∧
      d.tgt < 256 ∧
      (((parRow d.op0.toNat).isSome = false ∨ 2 ≤ d.op1.toNat))) ∧
    (∃ (s : State) (a : Fin 256) (pid : Fin 1024), (∀ x ∈ s.host.planUsed ++ s.host.plan ++ s.host.cyc ++ s.host.cycHeld, x.off ≠ parOff a.val pid.val) ∧
      ((∀ x ∈ s.host.due, x.opc = 0x11 → x.desc.tgt = a.val → x.desc.op0.toNat ≠ pid.val))) :=
  ⟨⟨px, .ring 0, dt 5, by decide +kernel⟩,
   ⟨px, .ring 0, { dt 5 with op0 := 4, op1 := 7 }, by decide +kernel⟩,
   ⟨px, .ring 0, { dt 5 with op0 := 0x26, op1 := 2 }, by decide +kernel⟩,
   ⟨px, .ring 0, dt 256, by decide +kernel⟩,
   ⟨px, .ring 0, { dt 5 with op0 := 4 }, by decide +kernel⟩,
   ⟨px, .ring 0, { dt 5 with op0 := 4, op1 := 1 }, by decide +kernel⟩,
   ⟨px, .ring 0, { dt 5 with op0 := 1 }, by decide +kernel⟩,
   ⟨pw px 0x26 2, .ring 0, dt 5, by decide +kernel⟩,
   ⟨px, .ring 0, { dt 5 with flags := 8, op5 := 3 }, by decide +kernel⟩,
   ⟨px, .ring 0, dt 5, by decide +kernel⟩,
   ⟨px.setFld (axReg 5 0xC) 15 0 4, 5, 9, by decide +kernel⟩,
   ⟨px, .ring 0, dt 256, by decide +kernel⟩,
   ⟨px, .ring 0, { dt 5 with op0 := 4, op1 := 2 }, by decide +kernel⟩,
   ⟨px, 5, 4, by decide +kernel⟩⟩

theorem witness_AxisBoundaryEffects :
    (∃ (s : State) (src : Src) (d : Desc) (c : BitVec 32) (x : List Byte), d.tgt < 256) ∧
    (∃ (s : State) (src : Src) (d : Desc) (c : BitVec 32), adaptPars.contains d.op0.toNat = false ∧
      d.op0.toNat ≠ 0x1F ∧
      d.op0.toNat ≠ 0x108) ∧
    (∃ (s : State) (src : Src) (d : Desc) (a : Nat), (s.axis a).health ≠ 2 ∧
      (s.axis a).faulted = false ∧
      (s.ctl a).req = none ∧
      s.modeError a (s.modeNow a) d.op0 = none ∧
      ((s.modeNow a = 0 → isLoop (bits d.op0 2 0) = true → s.sless a = false))) ∧
    (∃ (s : State) (src : Src) (d : Desc) (a : Nat) (e : St), (s.axis a).health ≠ 2 ∧
      (s.axis a).faulted = false ∧
      (s.ctl a).req = none ∧
      s.modeError a (s.modeNow a) d.op0 = some e) ∧
    (∃ (s : State) (src : Src) (d : Desc) (c : BitVec 32), adaptPars.contains d.op0.toNat = true ∧
      ((s.rampFrozen d.tgt = true ∨ (s.axis d.tgt).sup.targets = []))) ∧
    (∃ (s : State) (src : Src) (d : Desc) (c : BitVec 32) (v : Int), adaptPars.contains d.op0.toNat = true ∧
      s.rampFrozen d.tgt = false ∧
      (s.axis d.tgt).sup.targets = [(d.op0.toNat, v)] ∧
      v ≠ sgn (s.parNow d.tgt d.op0.toNat)) ∧
    (∃ (s : State) (src : Src) (d : Desc) (c : BitVec 32), d.op0.toNat = 0x108 ∧
      (s.fb d.tgt).loadRef ≠ some s.ntime) ∧
    (∃ (s : State) (src : Src) (d : Desc) (c : BitVec 32), d.op0.toNat = 0x108 ∧
      (s.fb d.tgt).loadRef = some s.ntime) ∧
    (∃ (s : State) (src : Src) (d : Desc) (c : BitVec 32), d.op0.toNat = 0x1F) :=
  ⟨⟨px, .ring 0, { dt 5 with op0 := 1 }, 0, [], by decide +kernel⟩,
   ⟨px, .ring 0, { dt 5 with op0 := 4 }, 0, by decide +kernel⟩,
   ⟨px, .ring 0, { dt 5 with op0 := 1 }, 5, by decide +kernel⟩,
   ⟨px, .ring 0, { dt 5 with op0 := 0 }, 5, .ok, by decide +kernel⟩,
   ⟨px, .ring 0, { dt 5 with op0 := 8, op1 := 3 }, 0, by decide +kernel⟩,
   ⟨px.setAxis 5 { sup := { targets := [(8, 77)] } }, .ring 0, { dt 5 with op0 := 8, op1 := 3 }, 0, 77, by decide +kernel⟩,
   ⟨px, .ring 0, { dt 5 with op0 := 0x108, op1 := 3 }, 0, by decide +kernel⟩,
   ⟨px.setFb 5 { loadRef := some px.ntime }, .ring 0, { dt 5 with op0 := 0x108, op1 := 3 }, 0, by decide +kernel⟩,
   ⟨px, .ring 0, { dt 5 with op0 := 0x1F, op1 := 3 }, 0, by decide +kernel⟩⟩

theorem witness_AxisEvents :
    (∃ (s : State) (a : Fin 256), s.pn a.val 0x113 ≤ (s.ctl a.val).frzN) ∧
    (∃ (s : State) (a : Fin 256), (s.ctl a.val).frzN < s.pn a.val 0x113 ∧
      s.pn a.val 0x113 ≤ (s.ctl a.val).obsN) ∧
    (∃ (s : State) (a : Fin 256), (s.fb a.val).st = 2 ∧
      (s.fb a.val).latched = false ∧
      s.pn a.val 0x115 ≤ (s.fb a.val).clean ∧
      (s.fb a.val).mem.1 = 0) ∧
    (∃ (s : State) (a : Fin 256), (s.fb a.val).st = 2 ∧
      (s.fb a.val).latched = false ∧
      s.pn a.val 0x116 ≤ (s.fb a.val).trans) ∧
    (∃ (s : State) (a : Fin 256), s.cst a.val = 2 ∧
      (s.ctl a.val).cstT + s.pn a.val 0x20D * 1000000 ≤ s.ntime) ∧
    (∃ (s : State) (a : Fin 256), s.cst a.val = 8 ∧
      (s.ctl a.val).lossT + s.pn a.val 0x209 * 1000000 ≤ s.ntime) ∧
    (∃ (s : State) (a : Fin 256), s.cst a.val = 5 ∧
      s.pn a.val 0x20A ≤ (s.ctl a.val).cstN) ∧
    (∃ (s : State), s.axes = []) ∧
    (∃ (s : State) (a : Nat), (((s.axis a).sup.valid = false ∨ bit (s.par a 0x30) 1 = false ∨ s.rampFrozen a = true))) ∧
    (∃ (s : State) (a : Nat) (x : AxisSt), s.axes = [(a, x)]) ∧
    (∃ (s : State) (a : Fin 256) (t : Nat), s.cst a.val = 4 ∧
      (s.ctl a.val).reachT = some t ∧
      (s.ctl a.val).hand = none ∧
      t + s.pn a.val 0x209 * 1000000 ≤ s.ntime) ∧
    (∃ (s : State) (a : Fin 256), 8 ≤ (s.axis a.val).sup.n ∧
      (s.axis a.val).sup.ok = false) ∧
    (∃ (s : State) (a : Fin 256) (p : Int), 8 ≤ (s.axis a.val).sup.n ∧
      (s.axis a.val).sup.ok = true ∧
      (s.axis a.val).sup.sumV ≠ 0 ∧
      (s.axis a.val).sup.prevV = some p ∧
      (((s.axis a.val).sup.prevOk = true ∨ s.pz a.val 0x3B * 64 * s.kr a.val ≤ absI ((s.axis a.val).sup.sumV - p) * 256))) ∧
    (∃ (s : State) (a : Fin 256), (s.axis a.val).sup.n < 8) ∧
    (∃ (s : State) (g : Fin 32), s.groupAxes g.val = []) ∧
    (∃ (s : State) (g : Fin 32) (p : PlanAxis) (r : List PlanAxis), g.val ≠ 0 ∧
      s.groupAxes g.val = p :: r ∧
      (∀ q ∈ p :: r, (s.axis q.axis).lastPass = (s.axis p.axis).lastPass ∧ (s.axis q.axis).startedFor = some (s.axis p.axis).lastPass) ∧
      Tab.get 0 s.mem.ledAt g.val ≠ (s.axis p.axis).lastPass.toNat + 1) ∧
    (∃ (s : State) (g : Fin 32) (p : PlanAxis), g.val ≠ 0 ∧
      s.groupAxes g.val = [p] ∧
      (s.axis p.axis).startedFor = some (s.axis p.axis).lastPass ∧
      Tab.get 0 s.mem.ledAt g.val ≠ (s.axis p.axis).lastPass.toNat + 1) :=
  ⟨⟨px.setCtl 5 { frzN := 70000 }, 5, by decide +kernel⟩,
   ⟨(pw px 0x113 100).setCtl 5 { frzN := 0, obsN := 70000 }, 5, by decide +kernel⟩,
   ⟨px.setFb 5 { st := 2, cause := 3, clean := 70000, mem := (0, 4) }, 5, by decide +kernel⟩,
   ⟨px.setFb 5 { st := 2, cause := 3, trans := 70000, idxValid := true }, 5, by decide +kernel⟩,
   ⟨{ px.setXw 5 0x2D 2 with ntime := 100000000000 }, 5, by decide +kernel⟩,
   ⟨{ px.setXw 5 0x2D 8 with ntime := 100000000000 }, 5, by decide +kernel⟩,
   ⟨(px.setXw 5 0x2D 5).setCtl 5 { cstN := 70000 }, 5, by decide +kernel⟩,
   ⟨up, by decide +kernel⟩,
   ⟨px, 5, by decide +kernel⟩,
   ⟨{ up with axes := [(5, {})] }, 5, {}, by decide +kernel⟩,
   ⟨{ (px.setXw 5 0x2D 4).setCtl 5 { (px.setXw 5 0x2D 4).ctl 5 with reachT := some 7 } with ntime := 100000000000 }, 5, 7, by decide +kernel⟩,
   ⟨px.setAxis 5 { sup := { n := 8, ok := false, sumV := 3 } }, 5, by decide +kernel⟩,
   ⟨px.setAxis 5 { sup := { n := 8, sumV := 3, prevV := some 1, prevOk := true } }, 5, 1, by decide +kernel⟩,
   ⟨px, 5, by decide +kernel⟩,
   ⟨up, 3, by decide +kernel⟩,
   ⟨({ px with pilot := { act := { id := 1, axes := [{ pa with grp := 3 }] } } }).setAxis 5 { startedFor := some 4, lastPass := 4 }, 3, { pa with grp := 3 }, [], by decide +kernel⟩,
   ⟨({ px with pilot := { act := { id := 1, axes := [{ pa with grp := 3 }] } } }).setAxis 5 { startedFor := some 4, lastPass := 4 }, 3, { pa with grp := 3 }, by decide +kernel⟩⟩

theorem witness_LocalAxes :
    (∃ (s : State) (i : Fin 8), s.powered 6 = true) ∧
    (∃ (s : State) (i : Fin 8), s.powered 6 = false) ∧
    (∃ (s : State) (v : Byte) (act : Byte), s.powered 6 = false) ∧
    (∃ (s : State) (v : Byte) (act : Byte) (i : Fin 8), s.powered 6 = true ∧
      v.getLsbD i.val = true ∧
      act.getLsbD i.val = false) ∧
    (∃ (s : State) (v : Byte) (act : Byte) (i : Fin 8), s.flag LOCAL_FLT i.val = true ∧
      act.getLsbD i.val = true) ∧
    (∃ (s : State) (n : Fin 8) (t : Nat) (b : Bool) (a : Nat), (s.at_ t).axisOfLx n.val = some a ∧
      s.powered 6 = true ∧
      (((s.at_ t).chans n.val).map (fun c => c / 8)).any (s.at_ t).coreBusy = false) ∧
    (∃ (s : State) (n : Fin 8) (t : Nat) (b : Bool), s.powered 6 = false) ∧
    (∃ (s : State) (n : Fin 8) (ia : BitVec 14) (ib : BitVec 14) (vb : BitVec 14), ((s.axisOfLx n.val = none ∨ (s.lx n.val).conv = none))) ∧
    (∃ (s : State) (n : Fin 8) (ia : BitVec 14) (ib : BitVec 14) (vb : BitVec 14) (a : Nat) (trig : Nat), s.axisOfLx n.val = some a ∧
      (s.lx n.val).conv = some trig ∧
      (s.lx n.val).probeMiss = true) ∧
    (∃ (s : State) (n : Fin 8) (ia : BitVec 14) (ib : BitVec 14) (vb : BitVec 14) (a : Nat) (trig : Nat), s.axisOfLx n.val = some a ∧
      (s.lx n.val).conv = some trig ∧
      (s.lx n.val).probeMiss = false ∧
      (s.lx n.val).probe = none ∧
      ((s.fbKind a = 1 ∨ s.fbKind a = 2))) ∧
    (∃ (s : State) (c : Fin 24) (x : BitVec 14), s.powered 6 = true ∧
      s.scanNext (c.val / 8) = some c.val ∧
      s.coreBusy (c.val / 8) = false) ∧
    (∃ (s : State) (c : Fin 24) (x : BitVec 14), s.scanNext (c.val / 8) ≠ some c.val) ∧
    (∃ (s : State) (n : Fin 8) (w : BitVec 64) (a : Nat) (trig : Nat), s.axisOfLx n.val = some a ∧
      (s.lx n.val).conv = some trig ∧
      s.fbKind a = 4 ∧
      Tab.get none s.loc.ssiAt (bits (s.par a 0x100) 5 4) = none ∧
      bits (s.par a 0x10F) 24 21 = 0) ∧
    (∃ (s : State) (n : Fin 8) (w : BitVec 64) (a : Nat) (trig : Nat) (e : Int), s.axisOfLx n.val = some a ∧
      (s.lx n.val).conv = some trig ∧
      s.fbKind a = 4 ∧
      Tab.get none s.loc.ssiAt (bits (s.par a 0x100) 5 4) = some e ∧
      (trig : Int) + 200 - s.ssiNs a < e + s.fld (LOCAL_B + 0x700 + bits (s.par a 0x100) 5 4 * 8) 23 16 * 1000) ∧
    (∃ (s : State) (n : Fin 8) (t : Nat), (s.lx n.val).wait ≠ [] ∧
      leAt (s.lx n.val).wait 6 1 % 8 ≠ 4 ∧
      leAt (s.lx n.val).wait 6 1 % 8 ≠ 5 ∧
      (s.at_ t).isUpdate n.val t = true ∧
      (s.lx n.val).waitFrom ≤ (((s.bnd + t : Nat) : Int) * 1000 + 999)) ∧
    (∃ (s : State) (n : Fin 8) (t : Nat), (((s.at_ t).isUpdate n.val t = false ∨ (((s.bnd + t : Nat) : Int) * 1000 + 999 < (s.lx n.val).waitFrom)))) ∧
    (∃ (s : State) (n : Fin 8) (t : Nat), leAt (s.lx n.val).img 6 1 % 16 = 12 ∧
      (s.at_ t).gatesForced n.val = false ∧
      (s.lx n.val).steps < wrapS 32 (leAt (s.lx n.val).img 0 4) ∧
      0 < (s.at_ t).stepRate n.val (s.at_ t).nowCyc ∧
      (s.lx n.val).nextStep ≤ (s.at_ t).nowCyc ∧
      (s.at_ t).inInterval n.val (s.at_ t).nowCyc = true ∧
      (s.lx n.val).dirNeg = false ∧
      (s.lx n.val).dirAt + s.fld (lxReg n.val 0x10) 25 16 ≤ (s.at_ t).nowCyc) ∧
    (∃ (s : State) (n : Fin 8) (t : Nat), (s.at_ t).inInterval n.val (s.at_ t).nowCyc = false) ∧
    (∃ (s : State) (e : Fin 4) (t : Nat), s.powered 6 = true ∧
      (s.emu e.val).next = none ∧
      (s.emu e.val).due (((s.bnd + t : Nat) : Int) * 1000 + 999) = true ∧
      (s.emu e.val).out < (s.emu e.val).tgt) ∧
    (∃ (s : State) (e : Fin 4) (t : Nat), (s.emu e.val).next = none ∧
      (s.emu e.val).lost = true) ∧
    (∃ (s : State) (r : Fin 4), 2 ≤ s.fld (refCfg r.val) 1 0 ∧
      s.flag (refStat r.val) 0 = false) ∧
    (∃ (s : State) (n : Fin 8) (l : BitVec 6) (t : Nat), s.powered 6 = false) ∧
    (∃ (s : State) (n : Fin 8) (l : BitVec 6) (t : Nat), s.powered 6 = true ∧
      (s.at_ t).axisOfLx n.val = none) ∧
    (∃ (s : State) (n : Fin 8) (l : BitVec 6) (t : Nat) (a : Nat), s.powered 6 = true ∧
      (s.at_ t).axisOfLx n.val = some a ∧
      (s.at_ t).fbKind a = 1 ∧
      l.toNat / 4 = (s.lx n.val).pins / 4 ∧
      l.toNat % 4 = 1 ∧
      (s.lx n.val).pins % 4 = 0) ∧
    (∃ (s : State) (n : Fin 8) (t : Nat) (ia : BitVec 14) (ib : BitVec 14), (((s.at_ t).coreBusy (((s.at_ t).chans n.val).getD 0 0 / 8) = true ∨
      (s.at_ t).coreBusy (((s.at_ t).chans n.val).getD 1 0 / 8) = true))) ∧
    (∃ (s : State) (n : Fin 8) (t : Nat) (ia : BitVec 14) (ib : BitVec 14), (s.at_ t).coreBusy (((s.at_ t).chans n.val).getD 0 0 / 8) = false ∧
      (s.at_ t).coreBusy (((s.at_ t).chans n.val).getD 1 0 / 8) = false) :=
  ⟨⟨lx0.setRg (LOCAL_B + 4) 0x0F, 0, by decide +kernel⟩,
   ⟨up.clrFlag TOP_PDSTAT 6, 3, by decide +kernel⟩,
   ⟨up.clrFlag TOP_PDSTAT 6, 8, 8, by decide +kernel⟩,
   ⟨lx0.setFlag LOCAL_FLT 3, 8, 0, 3, by decide +kernel⟩,
   ⟨lx0.setFlag LOCAL_FLT 3, 8, 8, 3, by decide +kernel⟩,
   ⟨lx0, 2, 100, false, 6, by decide +kernel⟩,
   ⟨up.clrFlag TOP_PDSTAT 6, 2, 100, false, by decide +kernel⟩,
   ⟨lx0, 2, 1, 2, 3, by decide +kernel⟩,
   ⟨lx0.setLx 2 { conv := some 100, probeMiss := true }, 2, 1, 2, 3, 6, 100, by decide +kernel⟩,
   ⟨(lx0.setLx 2 { conv := some 100, held := (7, 0, 2), zs := [-3] }).axWrite 6 0x100 1, 2, 1, 2, 3, 6, 100, by decide +kernel⟩,
   ⟨lx0.setFlag (LOCAL_B + 0x10) 20, 20, 77, by decide +kernel⟩,
   ⟨lx0, 20, 77, by decide +kernel⟩,
   ⟨(lx0.setLx 2 { conv := some 100 }).axWrite 6 0x100 4, 2, 0x123456, 6, 100, by decide +kernel⟩,
   ⟨({ lx0.setLx 2 { conv := some 100 } with loc := { (lx0.setLx 2 { conv := some 100 }).loc with ssiAt := [(0, some 50000)] } }).axWrite 6 0x100 4, 2, 0x123456, 6, 100, 50000, by decide +kernel⟩,
   ⟨(lx0.setLx 2 { wait := [10, 0, 20, 0, 30, 0, 3, 0, 0, 0] }).setRg (lxReg 2 0) 0x9C4, 2, 0, by decide +kernel⟩,
   ⟨lx0, 2, 7, by decide +kernel⟩,
   ⟨((lx0.setLx 2 { img := [50, 0, 0, 0, 0, 0, 12, 0], rate0 := 100, rate1 := 100 }).setRg (lxReg 2 0x10) 10), 2, 5000, by decide +kernel⟩,
   ⟨lx0, 2, 1000000000, by decide +kernel⟩,
   ⟨lx0.setEmu 1 { on := true, tgt := 9, len := 1000000, edges := 9 }, 1, 200, by decide +kernel⟩,
   ⟨lx0.setEmu 1 { on := true, lost := true }, 1, 200, by decide +kernel⟩,
   ⟨lx0.setFld (refCfg 2) 1 0 2, 2, by decide +kernel⟩,
   ⟨up.clrFlag TOP_PDSTAT 6, 2, 5, 100, by decide +kernel⟩,
   ⟨lx0, 5, 3, 100, by decide +kernel⟩,
   ⟨lx0.axWrite 6 0x100 1, 2, 1, 100, 6, by decide +kernel⟩,
   ⟨{ lx0 with loc := { busy := [(0, 500)] } }, 2, 100, 1, 2, by decide +kernel⟩,
   ⟨lx0, 2, 100, 1, 2, by decide +kernel⟩⟩

theorem witness_MotionCommands :
    (∃ (s : State) (src : Src) (d : Desc), s.precheck src 0x40 d = none ∧
      s.segError d = none ∧
      (s.prof d.tgt).q.length < 16 ∧
      (s.prof d.tgt).q ≠ []) ∧
    (∃ (s : State) (src : Src) (d : Desc), s.precheck src 0x40 d = none ∧
      s.segError d = none ∧
      16 ≤ (s.prof d.tgt).q.length) ∧
    (∃ (s : State) (src : Src) (d : Desc), s.precheck src 0x40 d = none ∧
      s.hasPass d.tgt = true ∧
      s.driven d.tgt = false) ∧
    (∃ (s : State) (src : Src) (d : Desc), s.precheck src 0x41 d = none ∧
      d.tgt < 32 ∧
      s.members d.tgt ≠ [] ∧
      s.flag (pgReg d.tgt 8) 0 = false ∧
      d.op0 = 0) ∧
    (∃ (s : State) (src : Src) (d : Desc), s.precheck src 0x41 d = none ∧
      32 ≤ d.tgt) ∧
    (∃ (s : State) (src : Src) (d : Desc), s.accepts src 0x42 d ∧
      d.tgt < 256 ∧
      1 ≤ d.op0.toNat ∧
      d.op0.toNat ≤ 3) ∧
    (∃ (s : State) (src : Src) (d : Desc), s.accepts src 0x43 d ∧
      d.tgt < 256) ∧
    (∃ (s : State) (src : Src) (d : Desc), s.accepts src 0x44 d ∧
      s.homeError d = none) ∧
    (∃ (s : State) (src : Src) (d : Desc) (e : St), s.accepts src 0x44 d ∧
      s.homeError d = some e) ∧
    (∃ (s : State) (src : Src) (d : Desc), s.accepts src 0x45 d ∧
      d.tgt < 32 ∧
      d.op0.toNat < 256 ∧
      d.op1.toNat < 2) ∧
    (∃ (s : State) (src : Src) (d : Desc), s.accepts src 0x45 d ∧
      32 ≤ d.tgt) :=
  ⟨⟨px3.setProf 5 { st := 1, q := [seg1] }, .ring 6, { dt 5 with op3 := 100 }, by decide +kernel⟩,
   ⟨px3.setProf 5 { st := 1, q := List.replicate 16 seg1 }, .ring 6, { dt 5 with op3 := 100 }, by decide +kernel⟩,
   ⟨px, .ring 6, { dt 5 with op3 := 100 }, by decide +kernel⟩,
   ⟨px3.setProf 5 { group := some 4 }, .ring 0, { dt 4 with flags := 8, op5 := 9 }, by decide +kernel⟩,
   ⟨px3, .ring 0, { dt 32 with flags := 8, op5 := 9 }, by decide +kernel⟩,
   ⟨px3, .ring 0, { dt 5 with op0 := 1 }, by decide +kernel⟩,
   ⟨px3, .ring 0, dt 5, by decide +kernel⟩,
   ⟨px3, .ring 0, { dt 5 with op0 := 3, op2 := 9 }, by decide +kernel⟩,
   ⟨px, .ring 0, dt 5, .badTarget, by decide +kernel⟩,
   ⟨px3, .ring 0, { dt 5 with op0 := 5, op1 := 1 }, by decide +kernel⟩,
   ⟨px3, .ring 0, dt 32, by decide +kernel⟩⟩

theorem witness_MotionEvents :
    (∃ (s : State) (g : Fin 32), s.flag (pgReg g.val 8) 0 = true ∧
      s.rg (pgReg g.val 0xC) = s.cycle ∧
      s.flag (pgReg g.val 8) 1 = false ∧
      s.members g.val = [] ∧
      s.mem.starts = []) ∧
    (∃ (s : State) (g : Fin 32), s.flag (pgReg g.val 8) 0 = false) ∧
    (∃ (s : State) (a : Nat) (x : Seg) (r : List Seg), (s.prof a).q = x :: r ∧
      x.hold = true ∧
      (s.prof a).stopped = false ∧
      (s.prof a).seg = none ∧
      (s.prof a).st = 1 ∧
      (s.prof a).lastEnd = none) ∧
    (∃ (s : State) (a : Nat), (s.prof a).q = [] ∧
      (s.prof a).stopped = false) ∧
    (∃ (s : State) (a : Fin 256) (neg : Bool) (lv : Bool) (t : Nat), (s.prof a.val).limRaw.getD (b2n neg) false = lv) ∧
    (∃ (s : State) (a : Fin 256) (neg : Bool) (lv : Bool) (t : Nat), (s.prof a.val).limRaw.getD (b2n neg) false ≠ lv ∧
      (s.prof a.val).limEdges.getD (b2n neg) [] = []) ∧
    (∃ (s : State) (a : Fin 256) (neg : Bool), (s.prof a.val).limDeb.getD (b2n neg) false ≠ (s.prof a.val).limRaw.getD (b2n neg) false ∧
      (s.prof a.val).limAt.getD (b2n neg) 0 + s.pn a.val 0x307 * 1000 ≤ s.bnd ∧
      (s.prof a.val).st ≠ 0xA ∧
      s.driven a.val = false) ∧
    (∃ (s : State) (a : Fin 256) (neg : Bool), s.bnd < (s.prof a.val).limAt.getD (b2n neg) 0 + s.pn a.val 0x307 * 1000) ∧
    (∃ (s : State) (a : Fin 256), (s.prof a.val).st = 0xA ∧
      (s.prof a.val).home = 4 ∧
      s.pn a.val 0x30C ≤ (s.prof a.val).stallN) ∧
    (∃ (s : State) (a : Fin 256), (s.prof a.val).home ≠ 4) :=
  ⟨⟨(up.setFlag (pgReg 3 8) 0), 3, by decide +kernel⟩,
   ⟨up, 3, by decide +kernel⟩,
   ⟨px3.setProf 5 { st := 1, q := [{ seg1 with hold := true }] }, 5, { seg1 with hold := true }, [], by decide +kernel⟩,
   ⟨px3, 5, by decide +kernel⟩,
   ⟨px3, 5, false, false, 100, by decide +kernel⟩,
   ⟨px3, 5, true, true, 100, by decide +kernel⟩,
   ⟨{ px.setProf 5 { limRaw := [true, false] } with bnd := 1000000000 }, 5, false, by decide +kernel⟩,
   ⟨px.setProf 5 { limAt := [5, 0] }, 5, false, by decide +kernel⟩,
   ⟨px.setProf 5 { st := 0xA, home := 4, stallN := 100000 }, 5, by decide +kernel⟩,
   ⟨px, 5, by decide +kernel⟩⟩

theorem witness_CartridgeCommands :
    (∃ (s : State) (src : Src) (d : Desc) (j : CartJob), s.accepts src 0x70 d ∧
      d.tgt < 256 ∧
      s.holder = true ∧
      (s.cartChan d.tgt).isSome = true ∧
      (s.cax d.tgt).job = some j) ∧
    (∃ (s : State) (src : Src) (d : Desc), s.accepts src 0x70 d ∧
      d.tgt < 256 ∧
      s.holder = true ∧
      (s.cartChan d.tgt).isSome = true) ∧
    (∃ (s : State) (src : Src) (d : Desc), s.accepts src 0x70 d ∧
      d.tgt < 256 ∧
      s.holder = false) ∧
    (∃ (s : State) (src : Src) (d : Desc), s.accepts src 0x71 d ∧
      d.tgt < 256 ∧
      (s.cartChan d.tgt).isSome = true ∧
      1 ≤ d.op1.toNat ∧
      d.op0.toNat + d.op1.toNat ≤ 1024) ∧
    (∃ (s : State) (src : Src) (d : Desc), s.accepts src 0x71 d ∧
      d.tgt < 256 ∧
      (s.cartChan d.tgt).isSome = true ∧
      1024 < d.op0.toNat + d.op1.toNat) ∧
    (∃ (s : State) (src : Src) (d : Desc) (l : List Byte), s.accepts src 0x72 d ∧
      d.tgt < 256 ∧
      (s.cartChan d.tgt).isSome = true ∧
      1 ≤ d.op1.toNat ∧
      0xC0 ≤ d.op0.toNat ∧
      d.op0.toNat + d.op1.toNat ≤ 0x400 ∧
      (s.cax d.tgt).auth = true) ∧
    (∃ (s : State) (src : Src) (d : Desc) (l : List Byte), s.accepts src 0x72 d ∧
      d.tgt < 256 ∧
      (s.cartChan d.tgt).isSome = true ∧
      1 ≤ d.op1.toNat ∧
      0xC0 ≤ d.op0.toNat ∧
      d.op0.toNat + d.op1.toNat ≤ 0x400 ∧
      (s.cax d.tgt).auth = false) ∧
    (∃ (s : State) (src : Src) (d : Desc), s.accepts src 0x72 d) ∧
    (∃ (s : State) (src : Src) (d : Desc) (t : List Byte), s.accepts src 0x73 d ∧
      policyOk (slice t 0 64) = true) ∧
    (∃ (s : State) (src : Src) (d : Desc) (t : List Byte), s.accepts src 0x73 d ∧
      policyOk (slice t 0 64) = false) ∧
    (∃ (s : State) (src : Src) (d : Desc), s.accepts src 0x74 d ∧
      ((d.tgt < 256 ∨ d.tgt = 0xFFFF)) ∧
      s.holder = true ∧
      s.cart.ax.any (fun e => e.2.auth) = false) ∧
    (∃ (s : State) (src : Src) (d : Desc) (a : Nat) (x : CartAx), s.accepts src 0x74 d ∧
      d.tgt = 0xFFFF ∧
      s.holder = true ∧
      s.cart.ax = [(a, x)] ∧
      x.auth = true) :=
  ⟨⟨cxj { kind := .read }, .ring 0, dt 5, { kind := .read }, by decide +kernel⟩,
   ⟨cx, .ring 0, dt 5, by decide +kernel⟩,
   ⟨{ cx with regs := Tab.set 0 cx.regs 0x140004 0 }, .ring 0, dt 5, by decide +kernel⟩,
   ⟨cx, .ring 0, { dt 5 with op0 := 0, op1 := 1024 }, by decide +kernel⟩,
   ⟨cx, .ring 0, { dt 5 with op0 := 1, op1 := 1024 }, by decide +kernel⟩,
   ⟨cx.setCax 5 { auth := true }, .ring 0, { dt 5 with op0 := 0xC0, op1 := 4 }, [1, 2, 3, 4], by decide +kernel⟩,
   ⟨cx, .ring 0, { dt 5 with op0 := 0xC0, op1 := 4 }, [1, 2, 3, 4], by decide +kernel⟩,
   ⟨cx, .ring 0, dt 5, by decide +kernel⟩,
   ⟨cx, .ring 0, d0, (List.replicate 48 0 ++ [0xF4, 1]) ++ List.replicate 14 0, by decide +kernel⟩,
   ⟨cx, .ring 0, d0, List.replicate 64 0, by decide +kernel⟩,
   ⟨cx, .ring 0, dt 5, by decide +kernel⟩,
   ⟨cx.setCax 5 { auth := true }, .ring 0, dt 0xFFFF, 5, { auth := true }, by decide +kernel⟩⟩

theorem witness_CartridgeEvents :
    (∃ (s : State) (a : Fin 256) (m : List Byte), (s.cax a.val).job = none) ∧
    (∃ (s : State) (a : Fin 256) (m : List Byte) (j : CartJob), (s.cax a.val).job = some j ∧
      leAt m 0 1 ≠ leAt (s.cax a.val).msg 0 1 + 0x80) ∧
    (∃ (s : State) (a : Fin 256) (m : List Byte) (j : CartJob), (s.cax a.val).job = some j ∧
      j.kind = .read ∧
      (s.cax a.val).msg ≠ [] ∧
      leAt m 0 1 = leAt (s.cax a.val).msg 0 1 + 0x80 ∧
      leAt m 1 1 = j.len + 1 ∧
      m.length = j.len + 3 ∧
      1 ≤ j.len ∧
      leAt (m.drop 2) 0 1 = 0 ∧
      (s.cax a.val).got = [] ∧
      j.cmd = none) ∧
    (∃ (s : State) (a : Fin 256) (j : CartJob), (s.cax a.val).job = some j ∧
      (s.cax a.val).sends < 3) ∧
    (∃ (s : State) (a : Fin 256) (j : CartJob), (s.cax a.val).job = some j ∧
      3 ≤ (s.cax a.val).sends ∧
      j.kind = .read) ∧
    (∃ (s : State) (a : Fin 256) (b : Bool), s.cartChan a.val = none) ∧
    (∃ (s : State) (a : Fin 256), (s.cartChan a.val).isSome = true ∧
      s.cartPresent a.val = false ∧
      s.flag CART_CFG 0 = false) ∧
    (∃ (s : State) (a : Fin 256), (s.cartChan a.val).isSome = true ∧
      s.cartPresent a.val = true ∧
      (s.cax a.val).job = none ∧
      (s.cax a.val).queue = []) ∧
    (∃ (s : State) (n : Fin 4096), s.holder = false ∧
      (∀ p ∈ s.pilot.act.axes, p.node ≠ n.val)) ∧
    (∃ (s : State) (a : Fin 256), s.flag CART_CFG 1 = false) ∧
    (∃ (s : State) (a : Fin 256), s.flag CART_CFG 1 = true ∧
      (s.cax a.val).wbDone ≠ some s.wbIval ∧
      (s.cax a.val).auth = true ∧
      s.holder = true) ∧
    (∃ (s : State) (n : Fin 4096) (p : PlanAxis), s.holder = false ∧
      s.pilot.act.axes = [p] ∧
      p.isLocal = false ∧
      p.node = n.val ∧
      s.cartPresent p.axis = true) ∧
    (∃ (s : State) (n : Fin 4096) (p : PlanAxis), s.holder = true ∧
      s.pilot.act.axes = [p] ∧
      p.isLocal = false ∧
      p.node = n.val ∧
      s.cartPresent p.axis = true ∧
      (s.cax p.axis).auth = false ∧
      bit (ofNat (s.node n.val).ncmd) 1 = false) :=
  ⟨⟨cx, 5, [1], by decide +kernel⟩,
   ⟨cxj { kind := .read }, 5, [1], { kind := .read }, by decide +kernel⟩,
   ⟨cxj { kind := .read, len := 1 }, 5, [0x83, 2, 0, 9], { kind := .read, len := 1 }, by decide +kernel⟩,
   ⟨cx.setCax 5 { job := some { kind := .read }, sends := 1 }, 5, { kind := .read }, by decide +kernel⟩,
   ⟨cxj { kind := .read }, 5, { kind := .read }, by decide +kernel⟩,
   ⟨px, 5, true, by decide +kernel⟩,
   ⟨cx.clrFlag CART_CFG 0, 5, by decide +kernel⟩,
   ⟨cx.putFlag (cartReg 5 0) 7 true, 5, by decide +kernel⟩,
   ⟨{ cx with regs := Tab.set 0 cx.regs 0x140004 0 }, 0x302, by decide +kernel⟩,
   ⟨cx.clrFlag CART_CFG 1, 5, by decide +kernel⟩,
   ⟨cx.setCax 5 { auth := true }, 5, by decide +kernel⟩,
   ⟨{ (cx.putFlag (cartReg 5 0) 7 true) with regs := Tab.set 0 (cx.putFlag (cartReg 5 0) 7 true).regs 0x140004 0 }, 0x301, pa, by decide +kernel⟩,
   ⟨cx.putFlag (cartReg 5 0) 7 true, 0x301, pa, by decide +kernel⟩⟩

theorem witness_SafetyCommands :
    (∃ (s : State) (src : Src) (d : Desc) (i : List Byte), s.accepts src 0x80 d ∧
      s.isIC = true ∧
      d.op2 = 512 ∧
      imageOk s.mgrId (slice i 0 512) = true ∧
      s.digestOk (sha256 (slice i 0 512)) = true ∧
      s.safeState false = 2 ∧
      s.safeState true = 2) ∧
    (∃ (s : State) (src : Src) (d : Desc) (i : List Byte), s.accepts src 0x80 d ∧
      s.isIC = true ∧
      imageOk s.mgrId (slice i 0 512) = false) ∧
    (∃ (s : State) (src : Src) (d : Desc) (i : List Byte), s.accepts src 0x80 d ∧
      s.isIC = true ∧
      d.op2 = 512 ∧
      imageOk s.mgrId (slice i 0 512) = true ∧
      s.digestOk (sha256 (slice i 0 512)) = false) ∧
    (∃ (s : State) (src : Src) (d : Desc), s.accepts src 0x80 d) ∧
    (∃ (s : State) (src : Src) (d : Desc), s.accepts src 0x81 d) :=
  ⟨⟨sf 2 [], .ring 0, { d0 with op2 := 512 }, img0 0x80, by decide +kernel⟩,
   ⟨sf 2 [], .ring 0, { d0 with op2 := 512 }, [], by decide +kernel⟩,
   ⟨{ sf 2 [] with boot := { up.boot with fuseT := [(8, 1)] } }, .ring 0, { d0 with op2 := 512 }, img0 0x80, by decide +kernel⟩,
   ⟨sf 2 [], .ring 0, d0, by decide +kernel⟩,
   ⟨sf 2 [], .ring 0, d0, by decide +kernel⟩⟩

theorem witness_SafetyInputs :
    (∃ (s : State) (b : Bool) (k : Fin 16) (lv : Bool), s.safeState b ≠ 0 ∧
      s.chanOn b = true) ∧
    (∃ (s : State) (b : Bool) (j : Fin 8), s.safeState b = 3 ∧
      imgPairEn (s.sch b).img j.val = true ∧
      imgAnti (s.sch b).img j.val = false ∧
      (s.sch b).filt.testBit (2 * j.val) ≠ (s.sch b).filt.testBit (2 * j.val + 1) ∧
      (s.sch b).disc.testBit j.val = false) ∧
    (∃ (s : State) (k : Fin 4) (x : BitVec 16) (y : BitVec 16), s.safeState (decide (2 ≤ k.val)) ≠ 3) ∧
    (∃ (s : State) (k : Fin 4) (x : BitVec 16) (y : BitVec 16), s.safeState (decide (2 ≤ k.val)) = 3 ∧
      (∀ n : Fin 16, imgSrc (s.sch (decide (2 ≤ k.val))).img n.val ≠ k.val + 1)) ∧
    (∃ (s : State) (b : Bool) (x : BitVec 16) (y : Byte), s.safeState b = 0) ∧
    (∃ (s : State) (b : Bool) (x : BitVec 16) (y : Byte), s.safeState b ≠ 0 ∧
      s.chanOn b = true ∧
      (s.sch b).newImg = none) :=
  ⟨⟨(sf 3 img1).setSch false { img := img1, disc := 1, filt := 2 }, false, 1, false, by decide +kernel⟩,
   ⟨(sf 3 img1).setSch false { img := img1, filt := 1 }, false, 0, by decide +kernel⟩,
   ⟨sf 2 [], 0, 0, 0, by decide +kernel⟩,
   ⟨sf 3 (img0 0x80), 3, 0, 0, by decide +kernel⟩,
   ⟨sf 0 [], true, 0, 0, by decide +kernel⟩,
   ⟨(sf 3 (img0 0x80)).setFlag 0x20 2, true, 0xFFFF, 0, by decide +kernel⟩⟩

theorem witness_SafetyEvents :
    (∃ (s : State) (b : Bool), s.safeState b = 3 ∧
      (imgAck (s.sch b).img).isSome = true ∧
      (s.sch b).ackStuck = false ∧
      (s.sch (!b)).word.acks = (s.sch b).acks + 1) ∧
    (∃ (s : State) (b : Bool) (k : Nat), s.safeState b = 3 ∧
      imgAck (s.sch b).img = some k ∧
      (s.sch b).filt.testBit k = true ∧
      (s.sch b).ackStuck = false) ∧
    (∃ (s : State) (b : Bool) (w : Nat × Nat), (s.sch b).ackWait = some w) ∧
    (∃ (s : State) (b : Bool), (s.sch b).ackWait = none) ∧
    (∃ (s : State) (b : Bool) (m : Fin 4), s.safeState b = 3 ∧
      (s.sch b).outF.testBit m.val = false) ∧
    (∃ (s : State) (b : Bool) (m : Fin 4), s.safeState b = 3 ∧
      imgB (s.sch b).img (0xB0 + 4 * m.val) % 2 = 1 ∧
      (s.sch b).side.testBit m.val = true) ∧
    (∃ (s : State) (b : Bool) (m : Fin 4) (x : Bool), (s.sch b).side.testBit m.val = false) ∧
    (∃ (s : State), s.safeState false = 1) ∧
    (∃ (s : State), s.safeState false = 1) ∧
    (∃ (s : State) (b : Bool), s.safeState b ≠ 0 ∧
      s.safeState b ≠ 4) ∧
    (∃ (s : State) (b : Bool) (c : Fin 3), s.safeState b = 4) ∧
    (∃ (s : State) (g : Fin 16), s.safeState false ≠ 3) ∧
    (∃ (s : State) (g : Fin 16) (p : PlanAxis), s.safeState false = 3 ∧
      s.safe.p.stog.testBit g.val = false ∧
      s.pilot.act.axes = [p] ∧
      p.isLocal = false ∧
      imgAxg s.safe.p.img p.axis = some g.val ∧
      bit (ofNat (s.node p.node).nstat) 1 = false) :=
  ⟨⟨(sf 3 (img0 0)).setSch true { img := img0 0, word := { acks := 1 } }, false, by decide +kernel⟩,
   ⟨(sf 3 (img0 2)).setSch true { img := img0 2, filt := 4 }, true, 2, by decide +kernel⟩,
   ⟨(sf 3 (img0 0)).setSch false { ackWait := some (3, 0) }, false, (3, 0), by decide +kernel⟩,
   ⟨sf 3 (img0 0), true, by decide +kernel⟩,
   ⟨sf 3 (img0 0), false, 3, by decide +kernel⟩,
   ⟨(sf 3 ((img0 0).set 0xB4 1)).setSch true { img := (img0 0).set 0xB4 1, side := 2 }, true, 1, by decide +kernel⟩,
   ⟨sf 3 (img0 0), true, 1, false, by decide +kernel⟩,
   ⟨sf 1 [], by decide +kernel⟩,
   ⟨sf 1 [], by decide +kernel⟩,
   ⟨sf 3 (img0 0), false, by decide +kernel⟩,
   ⟨sf 4 (img0 0), false, 2, by decide +kernel⟩,
   ⟨sf 2 [], 4, by decide +kernel⟩,
   ⟨{ sf 3 (img0 0) with pilot := px.pilot }, 0, pa, by decide +kernel⟩⟩

theorem witness_AcquisitionCommands :
    (∃ (s : State) (src : Src) (d : Desc) (m : List Byte) (ws : List (Nat × Bool × Nat × Bool)), s.accepts src 0x50 d ∧
      d.tgt < 8 ∧
      (s.log d.tgt).st = 0 ∧
      probeList 64 (slice m 0 256) = some ws ∧
      ws.length ≤ 64 ∧
      1 ≤ d.op2.toNat ∧
      d.op2.toNat ≤ 0xFFFF) ∧
    (∃ (s : State) (src : Src) (d : Desc) (m : List Byte), s.accepts src 0x50 d ∧
      d.tgt < 8 ∧
      (s.log d.tgt).st ≠ 0) ∧
    (∃ (s : State) (src : Src) (d : Desc), s.accepts src 0x50 d) ∧
    (∃ (s : State) (src : Src) (d : Desc), s.accepts src 0x51 d ∧
      d.tgt < 8) ∧
    (∃ (s : State) (src : Src) (d : Desc), s.accepts src 0x52 d ∧
      d.tgt < 8) ∧
    (∃ (s : State) (src : Src) (d : Desc) (m : List Byte), s.accepts src 0x53 d ∧
      d.tgt < 8 ∧
      d.op2.toNat < 64 ∧
      oneWord (s.log d.tgt) d.op2.toNat = true ∧
      (s.log d.tgt).m0.win = none) ∧
    (∃ (s : State) (src : Src) (d : Desc), s.accepts src 0x54 d ∧
      d.tgt < 8) ∧
    (∃ (s : State) (src : Src) (d : Desc), s.accepts src 0x54 d ∧
      8 ≤ d.tgt) ∧
    (∃ (s : State) (src : Src) (d : Desc), s.accepts src 0x55 d ∧
      s.evt.sound = [] ∧
      s.acq.sound = none ∧
      op64 d.op0 d.op1 % 8 = 0 ∧
      s.ntime + 1000 ≤ op64 d.op0 d.op1 ∧
      op64 d.op0 d.op1 ≤ s.ntime + 1000000000 ∧
      s.holder = false) ∧
    (∃ (s : State) (src : Src) (d : Desc) (x : Sounding), s.accepts src 0x55 d ∧
      s.evt.sound = [] ∧
      s.acq.sound = some x ∧
      op64 d.op0 d.op1 % 8 = 0 ∧
      op64 d.op0 d.op1 ≤ s.ntime + 1000000000) ∧
    (∃ (s : State) (src : Src) (d : Desc), s.accepts src 0x56 d ∧
      ((d.tgt = 7 ∨ 0x14 < d.tgt))) ∧
    (∃ (s : State) (src : Src) (d : Desc), s.accepts src 0x56 d ∧
      d.tgt ≤ 0x14 ∧
      d.tgt ≠ 7 ∧
      s.ringRoom 31 = false ∧
      s.acq.dumps = []) :=
  ⟨⟨up, .ring 0, { dt 2 with op2 := 4 }, [5, 6, 0, 0], plist, by decide +kernel⟩,
   ⟨lg { st := 2 }, .ring 0, { dt 2 with op2 := 4 }, [], by decide +kernel⟩,
   ⟨up, .ring 0, dt 2, by decide +kernel⟩,
   ⟨up, .ring 0, dt 2, by decide +kernel⟩,
   ⟨up, .ring 0, dt 2, by decide +kernel⟩,
   ⟨lg { list := plist }, .ring 0, dt 2, [1, 2], by decide +kernel⟩,
   ⟨up, .ring 0, dt 2, by decide +kernel⟩,
   ⟨up, .ring 0, dt 8, by decide +kernel⟩,
   ⟨{ up with regs := Tab.set 0 up.regs 0x140004 0 }, .ring 0, { d0 with op0 := 2000 }, by decide +kernel⟩,
   ⟨{ up with acq := { sound := some { t := 8, workers := false, cmd := none } } }, .ring 0, { d0 with op0 := 2000 }, { t := 8, workers := false, cmd := none }, by decide +kernel⟩,
   ⟨up, .ring 0, dt 7, by decide +kernel⟩,
   ⟨up, .ring 0, dt 3, by decide +kernel⟩⟩

theorem witness_AcquisitionEvents :
    (∃ (s : State) (n : Fin 8), (s.log n.val).cyc = []) ∧
    (∃ (s : State) (n : Fin 8) (x : LogCyc), (s.log n.val).cyc = [x] ∧
      x.sample = true ∧
      x.words = none ∧
      x.closed = false) ∧
    (∃ (s : State) (n : Fin 8), 2 ≤ (s.log n.val).st ∧
      (s.log n.val).armed = false ∧
      s.flag (logReg n.val 4) 5 = true ∧
      (s.rg (logReg n.val 0xC)).toNat ≤ (s.log n.val).ignored) ∧
    (∃ (s : State) (n : Fin 8), (s.log n.val).armed = true) ∧
    (∃ (s : State) (n : Fin 8), (s.log n.val).next = none) ∧
    (∃ (s : State) (n : Fin 8) (ps : List Nat), (s.log n.val).next = some ps ∧
      (s.log n.val).staged = [] ∧
      (s.log n.val).st = 2 ∧
      ((∀ k : Fin 8, k ≠ n → ∀ p ∈ (s.log k.val).pages, p ∉ ps))) ∧
    (∃ (s : State) (l : List Byte), s.acq.sound = none) ∧
    (∃ (s : State) (l : List Byte) (x : Sounding), s.acq.sound = some x ∧
      x.t < s.bnd + s.tCyc ∧
      x.cmd = none ∧
      s.acq.dumps = [] ∧
      s.flag SOUND_CFG 1 = false) :=
  ⟨⟨up, 2, by decide +kernel⟩,
   ⟨lg { list := plist, cyc := [{ c := 0, bnd := 0, sample := true }] }, 2, { c := 0, bnd := 0, sample := true }, by decide +kernel⟩,
   ⟨(lg { st := 2, ignored := 5 }).setFlag (logReg 2 4) 5, 2, by decide +kernel⟩,
   ⟨lg { st := 2, armed := true }, 2, by decide +kernel⟩,
   ⟨up, 2, by decide +kernel⟩,
   ⟨lg { st := 2, next := some [1, 2] }, 2, [1, 2], by decide +kernel⟩,
   ⟨up, [], by decide +kernel⟩,
   ⟨{ up.clrFlag SOUND_CFG 1 with acq := { sound := some { t := 8, workers := false, cmd := none } } }, [], { t := 8, workers := false, cmd := none }, by decide +kernel⟩⟩

theorem witness_DispatcherCsrs :
    (∃ (s : State) (h : Fin 4), 256 ≤ s.runOf h.val) ∧
    (∃ (s : State) (h : Fin 4), s.runOf h.val < 256 ∧
      s.thEn (s.runOf h.val) = true) ∧
    (∃ (s : State) (h : Fin 4), s.runOf h.val < 256 ∧
      s.thEn (s.runOf h.val) = true) ∧
    (∃ (s : State) (h : Fin 4), s.runOf h.val < 256 ∧
      s.thEn (s.runOf h.val) = true ∧
      waitInvalid (s.runOf h.val) (s.tokens (s.runOf h.val)) = true) ∧
    (∃ (s : State) (h : Fin 4), s.runOf h.val < 256 ∧
      s.thEn (s.runOf h.val) = true ∧
      waitInvalid (s.runOf h.val) (s.tokens (s.runOf h.val)) = false ∧
      (s.tokens (s.runOf h.val)).all (fun k => tokKind k == 0) = false) ∧
    (∃ (s : State) (h : Fin 4), s.runOf h.val < 256) ∧
    (∃ (s : State) (h : Fin 4) (t : Nat), s.hartServed h.val = true ∧
      s.bestThread h.val = some t ∧
      t < 256) ∧
    (∃ (s : State) (h : Fin 4), ((s.hartServed h.val = false ∨ s.bestThread h.val = none))) ∧
    (∃ (s : State) (h : Fin 4) (e : Nat) (r : List (Nat × Nat)), s.evt.hpend = (h.val, e) :: r ∧
      (h.val, e) ∉ r) ∧
    (∃ (s : State) (h : Fin 4), (∀ p ∈ s.evt.hpend, p.1 ≠ h.val)) :=
  ⟨⟨up, 1, by decide +kernel⟩,
   ⟨hw [], 2, by decide +kernel⟩,
   ⟨hw [], 2, by decide +kernel⟩,
   ⟨(hw []).setRg (thCfg 200 + 4) 0x5000, 2, by decide +kernel⟩,
   ⟨(hw []).setRg (thCfg 200 + 4) 0x1005, 2, by decide +kernel⟩,
   ⟨hw [], 2, by decide +kernel⟩,
   ⟨{ hw [] with cpu := { running := [0, 1, 2, 3], ready := [200] } }, 2, 200, by decide +kernel⟩,
   ⟨up, 2, by decide +kernel⟩,
   ⟨{ up with evt := { hpend := [(1, 40)] } }, 1, 40, [], by decide +kernel⟩,
   ⟨up, 1, by decide +kernel⟩⟩

theorem witness_ClusterCommands :
    (∃ (s : State), s.cpu.waits = []) ∧
    (∃ (s : State) (w : Wait), s.cpu.waits = [w] ∧
      w.toks.all (fun k => tokKind k == 1) = true ∧
      w.matched = [false, false, false, false] ∧
      w.toks.length = 4) ∧
    (∃ (s : State), s.cpu.waits = []) ∧
    (∃ (s : State) (v : Word), s.isStopped (bits v 7 0) = true ∧
      s.thEn (bits v 7 0) = true) ∧
    (∃ (s : State) (v : Word), s.isStopped (bits v 7 0) = false) ∧
    (∃ (s : State) (a : Agent) (n : Fin 256) (v : Word), ((128 ≤ n.val ∨ isSuper a = true)) ∧
      s.cpu.waits = [] ∧
      Tab.get 0 s.cpu.sem n.val + v.toNat ≤ 65535) ∧
    (∃ (s : State) (n : Fin 256) (v : Word), n.val < 128) ∧
    (∃ (s : State) (a : Agent) (m : Fin 64) (v : Word), ((32 ≤ m.val ∨ isSuper a = true)) ∧
      s.cpu.waits = [] ∧
      (Tab.get [] s.cpu.mbx m.val).length < 8) ∧
    (∃ (s : State) (a : Agent) (m : Fin 64) (v : Word), ((32 ≤ m.val ∨ isSuper a = true)) ∧
      8 ≤ (Tab.get [] s.cpu.mbx m.val).length) ∧
    (∃ (s : State) (a : Agent) (t : Fin 256) (v : Word), ((128 ≤ t.val ∨ isSuper a = true)) ∧
      bits v 15 12 ≤ 4 ∧
      bits v 31 28 ≤ 4) ∧
    (∃ (s : State) (a : Agent) (t : Fin 256) (v : Word), ((128 ≤ t.val ∨ isSuper a = true)) ∧
      4 < bits v 15 12 ∧
      bits v 31 28 ≤ 4) ∧
    (∃ (s : State) (a : Agent) (t : Fin 256) (v : Word), ((128 ≤ t.val ∨ isSuper a = true)) ∧
      v.getLsbD 13 = false) ∧
    (∃ (s : State) (h : Fin 2) (t : Fin 256) (k : Fin 16) (v : Word), t.val < 128) ∧
    (∃ (s : State) (p : Fin 2) (v : Word), s.flag (cPort p.val + 0x30) 0 = false) ∧
    (∃ (s : State) (p : Fin 2) (v : Word), s.flag (cPort p.val + 0x30) 0 = true) ∧
    (∃ (s : State) (v : Word), v.getLsbD 2 = true ∧
      v.getLsbD 3 = false ∧
      s.cpu.custImage = false) ∧
    (∃ (s : State) (h : Fin 2), s.flag (CPU_B + 0x8 + h.val * 4) 31 = true ∧
      s.cpu.custImage = false) ∧
    (∃ (s : State) (h : Fin 2), s.flag (CPU_B + 0x8 + h.val * 4) 31 = false) ∧
    (∃ (s : State) (h : Fin 4), s.hartClocked h.val = false) ∧
    (∃ (s : State) (u : State) (v : State) (h : Fin 4), s.hartClocked h.val = true ∧
      u = s.setHart h.val { s.hart h.val with mcycle := ((s.hart h.val).mcycle + 1) % 2 ^ 64 } ∧
      v = u.setHart h.val { u.hart h.val with wfi := false } ∧
      u.irqs h.val = 0 ∧
      (u.hart h.val).wfi = false) ∧
    (∃ (s : State) (u : State) (v : State) (h : Fin 4), s.hartClocked h.val = true ∧
      u = s.setHart h.val { s.hart h.val with mcycle := ((s.hart h.val).mcycle + 1) % 2 ^ 64 } ∧
      v = u.setHart h.val { u.hart h.val with wfi := false } ∧
      u.irqs h.val ≠ 0 ∧
      (((v.hart h.val).machine = false ∨ bit (v.hart h.val).mstatus 3 = true))) ∧
    (∃ (s : State) (h : Nat) (w : Word) (next : Word), bits w 6 0 = 0x13 ∧
      bits w 14 12 = 0) :=
  ⟨⟨up, by decide +kernel⟩,
   ⟨{ up with cpu := { waits := [{ thread := 200, toks := [0x1001, 0x1002, 0x1003, 0x1004], matched := [false, false, false, false], any := false, wake := 0 }] } }, { thread := 200, toks := [0x1001, 0x1002, 0x1003, 0x1004], matched := [false, false, false, false], any := false, wake := 0 }, by decide +kernel⟩,
   ⟨up, by decide +kernel⟩,
   ⟨(hw []).setRg (thCfg 201) 0x2401, 201, by decide +kernel⟩,
   ⟨hw [], 200, by decide +kernel⟩,
   ⟨up, .host, 200, 5, by decide +kernel⟩,
   ⟨up, 7, 5, by decide +kernel⟩,
   ⟨up, .hart 3, 63, 5, by decide +kernel⟩,
   ⟨{ up with cpu := { mbx := [(63, List.replicate 8 1)] } }, .hart 3, 63, 5, by decide +kernel⟩,
   ⟨up, .hart 0, 7, 5, by decide +kernel⟩,
   ⟨up, .hart 0, 7, 0x5001, by decide +kernel⟩,
   ⟨up, .hart 0, 7, 1, by decide +kernel⟩,
   ⟨up, 0, 7, 0, 5, by decide +kernel⟩,
   ⟨up, 1, 5, by decide +kernel⟩,
   ⟨up.setFlag (cPort 1 + 0x30) 0, 1, 5, by decide +kernel⟩,
   ⟨up, 4, by decide +kernel⟩,
   ⟨up.setFlag (CPU_B + 0xC) 31, 1, by decide +kernel⟩,
   ⟨up, 1, by decide +kernel⟩,
   ⟨up, 2, by decide +kernel⟩,
   ⟨hx, hxu, hxv, 2, by decide +kernel⟩,
   ⟨hxe, hxu2, hxv2, 2, by decide +kernel⟩,
   ⟨hx, 2, 0x00100093, 0x10100004, by decide +kernel⟩⟩

theorem witness_CanTransmission :
    (∃ (s : State) (n : Fin 4) (r : Fin 32) (d : Desc), r.val = 18 + n.val ∧
      s.accepts (.ring r) 0x60 d ∧
      s.powered 6 = true ∧
      d.tgt < 64 ∧
      s.flag (mbCfg n.val d.tgt) 0 = true ∧
      s.flag (mbCfg n.val d.tgt) 1 = true ∧
      (s.canB n.val d.tgt).tx = none ∧
      s.canAct n.val ≠ 2 ∧
      bits d.op0 31 30 = 0 ∧
      ((d.op0.getLsbD 29 = true ∨ bits d.op0 17 0 = 0)) ∧
      d.op1.toNat ≤ 8) ∧
    (∃ (s : State) (n : Fin 4) (r : Fin 32) (d : Desc), r.val = 18 + n.val ∧
      s.accepts (.ring r) 0x60 d ∧
      s.powered 6 = true ∧
      d.tgt < 64 ∧
      s.flag (mbCfg n.val d.tgt) 0 = true ∧
      s.flag (mbCfg n.val d.tgt) 1 = true ∧
      (s.canC n.val).bufs = [] ∧
      s.canAct n.val = 2 ∧
      s.canEst n.val = 0 ∧
      s.canTec n.val < 256 ∧
      s.flag (canStat n.val) 5 = false ∧
      s.holder = true ∧
      (s.canC n.val).sleep = none ∧
      bits d.op0 31 30 = 0 ∧
      ((d.op0.getLsbD 29 = true ∨ bits d.op0 17 0 = 0)) ∧
      d.op1.toNat ≤ 8) ∧
    (∃ (s : State) (n : Fin 4) (r : Fin 32) (d : Desc) (x : CanTx), r.val = 18 + n.val ∧
      s.accepts (.ring r) 0x60 d ∧
      s.powered 6 = true ∧
      d.tgt < 64 ∧
      s.flag (mbCfg n.val d.tgt) 0 = true ∧
      s.flag (mbCfg n.val d.tgt) 1 = true ∧
      (s.canB n.val d.tgt).tx = some x ∧
      bits d.op0 31 30 = 0 ∧
      ((d.op0.getLsbD 29 = true ∨ bits d.op0 17 0 = 0)) ∧
      d.op1.toNat ≤ 8) ∧
    (∃ (s : State) (n : Fin 4) (r : Fin 32) (d : Desc) (l : Option (List Byte)), r.val = 18 + n.val ∧
      s.accepts (.ring r) 0x60 d ∧
      s.powered 6 = true ∧
      d.tgt < 64 ∧
      s.flag (mbCfg n.val d.tgt) 1 = false) ∧
    (∃ (s : State) (n : Fin 4) (r : Fin 32) (d : Desc) (l : Option (List Byte)), r.val = 18 + n.val ∧
      s.accepts (.ring r) 0x60 d ∧
      s.powered 6 = false) ∧
    (∃ (s : State) (n : Fin 4) (ts : Word) (cyc : Word) (k : BitVec 7) (b : Nat) (x : CanTx), s.canActive n.val = some (b, x) ∧
      (s.canB n.val b).tx = some x ∧
      (s.canB n.val b).front = none ∧
      x.idw < 2 ^ 30 ∧
      s.flag (canReg n.val 0) 8 = false ∧
      s.canEst n.val = 0 ∧
      s.canTec n.val < 128 ∧
      (s.canC n.val).recv < 128 ∧
      s.flag (canStat n.val) 6 = false ∧
      b < 64) ∧
    (∃ (s : State) (n : Fin 4) (b : Nat) (x : CanTx), s.canActive n.val = some (b, x) ∧
      x.single = false ∧
      x.abort = false) ∧
    (∃ (s : State) (n : Fin 4) (b : Nat) (x : CanTx), s.canActive n.val = some (b, x) ∧
      (s.canB n.val b).tx = some x ∧
      x.single = true ∧
      s.flag (canStat n.val) 6 = false) ∧
    (∃ (s : State) (n : Fin 4) (v : Word) (x : CanTx), s.powered 6 = true ∧
      (s.canB n.val (bits v 5 0)).tx = some x ∧
      x.active = false ∧
      s.flag (canStat n.val) 6 = false) ∧
    (∃ (s : State) (n : Fin 4) (v : Word) (x : CanTx), s.powered 6 = true ∧
      (s.canB n.val (bits v 5 0)).tx = some x ∧
      x.active = true) ∧
    (∃ (s : State) (n : Fin 4) (b : Fin 64), (s.canB n.val b.val).backoff = true ∧
      s.canAct n.val ≠ 2) :=
  ⟨⟨cn 3 {}, 1, 19, dcan, by decide +kernel⟩,
   ⟨cn 2 {}, 1, 19, dcan, by decide +kernel⟩,
   ⟨cn 3 (bufA false), 1, 19, dcan, txa true false, by decide +kernel⟩,
   ⟨cn 3 {}, 1, 19, { dcan with target := 6 }, none, by decide +kernel⟩,
   ⟨(cn 3 {}).clrFlag 0x10 6, 1, 19, dcan, none, by decide +kernel⟩,
   ⟨cn 4 (bufA false), 1, 77, 3, 9, 5, txa true false, by decide +kernel⟩,
   ⟨cn 4 (bufA false), 1, 5, txa true false, by decide +kernel⟩,
   ⟨cn 4 (bufA true), 1, 5, txa true true, by decide +kernel⟩,
   ⟨cn 3 { bufs := [(5, { tx := some (txa false false) })] }, 1, 5, txa false false, by decide +kernel⟩,
   ⟨cn 4 (bufA false), 1, 5, txa true false, by decide +kernel⟩,
   ⟨cn 3 { bufs := [(5, { tx := some (txa false false), backoff := true, colls := 3 })] }, 1, 5, by decide +kernel⟩⟩

theorem witness_CanErrors :
    (∃ (s : State) (n : Fin 4), s.powered 6 = true ∧
      s.canAct n.val = 2 ∧
      s.canEst n.val = 0 ∧
      s.canActive n.val = none ∧
      s.canTec n.val < 128 ∧
      (s.canC n.val).recv < 127 ∧
      s.flag (canStat n.val) 5 = false) ∧
    (∃ (s : State) (n : Fin 4) (b : Nat) (x : CanTx), s.powered 6 = true ∧
      s.canAct n.val = 4 ∧
      s.canEst n.val = 0 ∧
      s.canActive n.val = some (b, x) ∧
      120 ≤ s.canTec n.val ∧
      s.canTec n.val < 128 ∧
      (s.canC n.val).recv < 128 ∧
      s.flag (canStat n.val) 5 = false ∧
      x.single = false ∧
      x.abort = false) ∧
    (∃ (s : State) (n : Fin 4), 256 ≤ s.canTec n.val ∧
      s.canEst n.val ≠ 2 ∧
      s.canActive n.val = none ∧
      s.canReady n.val = [] ∧
      s.canInit n.val = false) ∧
    (∃ (s : State) (n : Fin 4) (b : Nat) (x : CanTx), b < 64 ∧
      256 ≤ s.canTec n.val ∧
      s.canEst n.val ≠ 2 ∧
      s.canActive n.val = some (b, x)) ∧
    (∃ (s : State) (n : Fin 4) (src : Src) (d : Desc), s.canAct n.val = 6 ∧
      (s.canC n.val).recover = some (src, d)) ∧
    (∃ (s : State) (src : Src) (d : Desc), s.accepts src 0x61 d ∧
      d.tgt < 4 ∧
      s.powered 6 = true ∧
      s.canEst d.tgt = 2 ∧
      s.canAct d.tgt ≠ 5 ∧
      s.canAct d.tgt ≠ 6 ∧
      (s.canC d.tgt).recover = none ∧
      s.canInit d.tgt = false) ∧
    (∃ (s : State) (src : Src) (d : Desc), s.accepts src 0x61 d ∧
      d.tgt < 4 ∧
      s.powered 6 = true ∧
      s.canEst d.tgt ≠ 2 ∧
      s.canAct d.tgt ≠ 5 ∧
      s.canAct d.tgt ≠ 6 ∧
      (s.canC d.tgt).recover = none) ∧
    (∃ (s : State) (src : Src) (d : Desc), s.accepts src 0x61 d ∧
      d.tgt < 4 ∧
      s.powered 6 = true ∧
      ((s.canAct d.tgt = 5 ∨ s.canAct d.tgt = 6))) :=
  ⟨⟨cn 2 {}, 1, by decide +kernel⟩,
   ⟨setTec (cn 4 (bufA false)) 120, 1, 5, txa true false, by decide +kernel⟩,
   ⟨(setTec (cn 3 {}) 256).setFld (canStat 1) 1 0 1, 1, by decide +kernel⟩,
   ⟨(setTec (cn 4 (bufA false)) 256).setFld (canStat 1) 1 0 1, 1, 5, txa true false, by decide +kernel⟩,
   ⟨(cn 6 { recover := some (.ring 0, dt 1) }).setFld (canStat 1) 1 0 2, 1, .ring 0, dt 1, by decide +kernel⟩,
   ⟨(cn 2 {}).setFld (canStat 1) 1 0 2, .ring 0, dt 1, by decide +kernel⟩,
   ⟨cn 2 {}, .ring 0, dt 1, by decide +kernel⟩,
   ⟨cn 6 {}, .ring 0, dt 1, by decide +kernel⟩⟩

theorem witness_CanReception :
    (∃ (s : State) (n : Fin 4) (f : CanBits) (b : Nat), s.powered 6 = true ∧
      s.canAct n.val = 2 ∧
      s.canEst n.val ≠ 2 ∧
      f.idw.getLsbD 30 = false ∧
      (s.canC n.val).recv = 0 ∧
      (s.canC n.val).bufs = [] ∧
      s.canInit n.val = false ∧
      (List.range 64).find? (fun b => s.canMatch n.val b (frameOf f false)) = some b ∧
      s.flag (mbCfg n.val b) 2 = false) ∧
    (∃ (s : State) (n : Fin 4) (f : CanBits), s.powered 6 = true ∧
      s.canAct n.val = 4 ∧
      s.canEst n.val ≠ 2 ∧
      f.idw.getLsbD 30 = false ∧
      (s.canC n.val).recv = 0 ∧
      (List.range 64).find? (fun b => s.canMatch n.val b (frameOf f false)) = none) ∧
    (∃ (s : State) (n : Fin 4) (f : CanFrame) (g : CanFrame) (h : CanFrame) (x : CanBits) (b : Nat), s.powered 6 = true ∧
      s.canAct n.val = 4 ∧
      s.canEst n.val ≠ 2 ∧
      x.idw.getLsbD 30 = false ∧
      (s.canC n.val).recv = 0 ∧
      f = frameOf x false ∧
      (List.range 64).find? (fun b => s.canMatch n.val b f) = some b ∧
      (s.canB n.val b).front = some g ∧
      (s.canB n.val b).shadow = some h ∧
      s.flag (mbCfg n.val b) 3 = false) ∧
    (∃ (s : State) (n : Fin 4) (b : Nat) (x : CanBuf) (f : CanFrame), (s.canC n.val).bufs = [(b, x)] ∧
      x.front = some f ∧
      x.shadow = none ∧
      s.flag (mbCfg n.val b) 2 = true ∧
      s.ringRoomN (22 + n.val) (chunks (s.esize (22 + n.val)) 16 (canRecord b (s.canC n.val).lostRec f)).length = true) ∧
    (∃ (s : State) (n : Fin 4) (v : Word) (f : CanFrame), s.powered 6 = true ∧
      s.flag (mbCfg n.val (bits v 5 0)) 1 = false ∧
      s.flag (mbCfg n.val (bits v 5 0)) 2 = false ∧
      (s.canB n.val (bits v 5 0)).front = some f) ∧
    (∃ (s : State) (n : Fin 4) (v : Word), s.powered 6 = true ∧
      ((s.flag (mbCfg n.val (bits v 5 0)) 1 = true ∨ (s.canB n.val (bits v 5 0)).front = none))) :=
  ⟨⟨(cn 2 {}).setRg (mbCfg 1 6 + 4) 0x20000000, 1, fb, 6, by decide +kernel⟩,
   ⟨cn 4 {}, 1, fb, by decide +kernel⟩,
   ⟨(cn 4 { bufs := [(6, { front := some {}, shadow := some {} })] }).setRg (mbCfg 1 6 + 4) 0x20000000, 1, frameOf fb false, {}, {}, fb, 6, by decide +kernel⟩,
   ⟨ringOn ((cn 2 { bufs := [(6, { front := some {} })] }).setRg (mbCfg 1 6) 5) 23, 1, 6, { front := some {} }, {}, by decide +kernel⟩,
   ⟨cn 2 { bufs := [(6, { front := some {} })] }, 1, 6, {}, by decide +kernel⟩,
   ⟨cn 2 {}, 1, 6, by decide +kernel⟩⟩

theorem witness_CanModes :
    (∃ (s : State) (n : Fin 4) (v : Word), s.powered 6 = true ∧
      s.canInit n.val = true ∧
      s.canAct n.val = 0 ∧
      s.canEst n.val ≠ 2 ∧
      s.canTiming n.val (v.getLsbD 1) = true ∧
      bits v 31 16 ≠ 0) ∧
    (∃ (s : State) (n : Fin 4) (v : Word), s.powered 6 = true ∧
      s.canInit n.val = true ∧
      s.canTiming n.val (v.getLsbD 1) = false ∧
      bits v 31 16 ≠ 0) ∧
    (∃ (s : State) (n : Fin 4), s.canAct n.val = 1 ∧
      s.canReady n.val = []) ∧
    (∃ (s : State) (n : Fin 4), s.canAct n.val = 1) ∧
    (∃ (s : State) (n : Fin 4), s.canAct n.val ≠ 0 ∧
      s.canAct n.val ≠ 2) ∧
    (∃ (s : State) (n : Fin 4), s.canAct n.val = 3 ∧
      s.canEst n.val ≠ 2 ∧
      s.canActive n.val = none ∧
      s.flag (canReg n.val 0) 5 = true ∧
      s.canInit n.val = false) ∧
    (∃ (s : State) (src : Src) (d : Desc), s.accepts src 0x62 d ∧
      d.tgt < 4 ∧
      s.powered 6 = true ∧
      s.canInit d.tgt = false ∧
      s.canAct d.tgt ≠ 5 ∧
      s.canAct d.tgt ≠ 6 ∧
      s.canEst d.tgt ≠ 2 ∧
      (s.canC d.tgt).sleep = none) ∧
    (∃ (s : State) (src : Src) (d : Desc), s.accepts src 0x62 d ∧
      d.tgt < 4 ∧
      s.powered 6 = true ∧
      s.canAct d.tgt = 5) ∧
    (∃ (s : State) (src : Src) (d : Desc), s.accepts src 0x62 d ∧
      d.tgt < 4 ∧
      s.powered 6 = true ∧
      s.canAct d.tgt ≠ 5 ∧
      ((s.canInit d.tgt = true ∨ s.canAct d.tgt = 6 ∨ s.canEst d.tgt = 2))) ∧
    (∃ (s : State) (n : Fin 4) (src : Src) (d : Desc) (m : Bool), (s.canC n.val).sleep = some (src, d, m) ∧
      s.canAct n.val = 2) ∧
    (∃ (s : State) (n : Fin 4), s.canAct n.val = 5 ∧
      s.flag (canStat n.val) 23 = false) ∧
    (∃ (s : State) (n : Fin 4) (f : CanBits), s.canAct n.val = 5 ∧
      s.flag (canStat n.val) 23 = true ∧
      s.canWakes n.val f = true) ∧
    (∃ (s : State) (n : Fin 4) (f : CanBits), s.canAct n.val = 5 ∧
      s.flag (canStat n.val) 23 = false) :=
  ⟨⟨up, 1, 0x640010, by decide +kernel⟩,
   ⟨up.setRg (canReg 1 8) 0, 1, 0x640010, by decide +kernel⟩,
   ⟨cn 1 {}, 1, by decide +kernel⟩,
   ⟨cn 1 { bufs := [(5, { tx := some (txa false false) })] }, 1, by decide +kernel⟩,
   ⟨cn 3 {}, 1, by decide +kernel⟩,
   ⟨(cn 3 {}).setFlag (canReg 1 0) 5, 1, by decide +kernel⟩,
   ⟨cn 2 {}, .ring 0, dt 1, by decide +kernel⟩,
   ⟨cn 5 {}, .ring 0, dt 1, by decide +kernel⟩,
   ⟨(cn 0 {}).setFlag (canReg 1 0) 0, .ring 0, dt 1, by decide +kernel⟩,
   ⟨(cn 2 { sleep := some (.ring 0, dt 1, false) }).setFlag (canReg 1 0) 7, 1, .ring 0, dt 1, false, by decide +kernel⟩,
   ⟨(cn 5 {}).setFlag (canReg 1 0) 7, 1, by decide +kernel⟩,
   ⟨((cn 5 {}).setFlag (canStat 1) 23).setRg (canReg 1 0x30) 0x20000000, 1, { fb with idw := 0x20000000 }, by decide +kernel⟩,
   ⟨cn 5 {}, 1, fb, by decide +kernel⟩⟩

theorem witness_HelmInterlock :
    (∃ (s : State), s.helmState = 0 ∧
      s.eligible = true ∧
      s.peerOn = false) ∧
    (∃ (s : State), ((s.helmState ≠ 0 ∨ s.eligible = false ∨ s.peerOn = true))) ∧
    (∃ (s : State), s.helmState = 1 ∧
      s.peerOn = true) ∧
    (∃ (s : State), s.helmState = 2 ∧
      s.eligible = true ∧
      s.peerOn = false) ∧
    (∃ (s : State), s.helmState = 2 ∧
      s.peerOn = true) ∧
    (∃ (s : State), s.helmState = 1 ∧
      s.flag HELM_STAT 3 = true ∧
      s.peerOn = false ∧
      s.flag HELM_STAT 5 = false) ∧
    (∃ (s : State), s.helmState = 1 ∧
      s.flag HELM_STAT 3 = true ∧
      s.peerOn = false ∧
      s.flag HELM_STAT 5 = true ∧
      s.syncState = 3) ∧
    (∃ (s : State), ((s.helmState ≠ 1 ∨ s.flag HELM_STAT 3 = false ∨ s.peerOn = true))) ∧
    (∃ (s : State), s.helmState = 3) ∧
    (∃ (s : State), s.helmState ≠ 3) ∧
    (∃ (s : State), s.peerOn = false) ∧
    (∃ (s : State), s.peerOn = true) ∧
    (∃ (s : State) (b : Bool), s.peerOn = b) :=
  ⟨⟨hs 0, by decide +kernel⟩,
   ⟨hs 0x10, by decide +kernel⟩,
   ⟨hs 0x19, by decide +kernel⟩,
   ⟨hs 2, by decide +kernel⟩,
   ⟨hs 0x12, by decide +kernel⟩,
   ⟨hs 9, by decide +kernel⟩,
   ⟨hsh 0x329 { mirror := some pl2 }, by decide +kernel⟩,
   ⟨hs 1, by decide +kernel⟩,
   ⟨hs 0x2B, by decide +kernel⟩,
   ⟨hs 1, by decide +kernel⟩,
   ⟨hs 3, by decide +kernel⟩,
   ⟨hs 0x10, by decide +kernel⟩,
   ⟨hs 0x10, true, by decide +kernel⟩⟩

theorem witness_HelmGivenUp :
    (∃ (s : State) (c : Fin 12), c.val ≠ 0 ∧
      s.holder = false) ∧
    (∃ (s : State) (c : Fin 12), ((c.val = 1 ∨ c.val = 2 ∨ c.val = 9 ∨ c.val = 10)) ∧
      s.holder = true) ∧
    (∃ (s : State) (c : Fin 12), ((c.val = 3 ∨ c.val = 4 ∨ c.val = 5 ∨ c.val = 6 ∨ c.val = 7 ∨ c.val = 8)) ∧
      s.holder = true ∧
      s.partnerReady = true) ∧
    (∃ (s : State) (c : Fin 12), ((c.val = 3 ∨ c.val = 4 ∨ c.val = 5 ∨ c.val = 6 ∨ c.val = 7 ∨ c.val = 8)) ∧
      s.holder = true ∧
      s.partnerReady = false) ∧
    (∃ (s : State) (p : Fin 16) (f : RxFrame), s.holder = true ∧
      s.roleA = false ∧
      s.portEn p.val = true ∧
      s.topo p.val = 3 ∧
      s.ownFrame p.val f = true ∧
      hType (hdrNum f.bytes) = 1) ∧
    (∃ (s : State) (p : Fin 16) (f : RxFrame), s.roleA = true) ∧
    (∃ (s : State) (src : Src) (d : Desc), s.precheck src 0x90 d = none ∧
      s.holder = true ∧
      s.partnerReady = true ∧
      s.helm.handover = none) ∧
    (∃ (s : State) (src : Src) (d : Desc), s.precheck src 0x90 d = none ∧
      s.partnerReady = false) ∧
    (∃ (s : State) (c : BitVec 32) (k : Nat), s.holder = true ∧
      s.helm.giveUp = some (c, k) ∧
      isFuture c s.cycle = false) ∧
    (∃ (s : State) (src : Src) (d : Desc), s.holder = true ∧
      s.helm.giveUp = none ∧
      s.helm.handover = some (src, d) ∧
      isFuture d.op5 s.cycle = false) ∧
    (∃ (s : State), s.holder = false) ∧
    (∃ (s : State), s.helmState = 4 ∧
      s.fld TOP_RSTCTL 15 8 ≠ 0 ∧
      s.boot.porHeld = false) ∧
    (∃ (s : State), ((s.helmState ≠ 4 ∨ s.fld TOP_RSTCTL 15 8 = 0 ∨ s.boot.porHeld = true))) :=
  ⟨⟨hs 0, 11, by decide +kernel⟩,
   ⟨hs 0xB, 2, by decide +kernel⟩,
   ⟨hsh 0x80B hrdy, 8, by decide +kernel⟩,
   ⟨hs 0xB, 3, by decide +kernel⟩,
   ⟨roleB ((hs 0xB).setRg (pCfg 3) 7), 3, frm 1 0x0300 0 .dyn [], by decide +kernel⟩,
   ⟨up, 0, frm 1 0x300 0 .dyn [], by decide +kernel⟩,
   ⟨hsh 0x80B hrdy, .ring 0, { d8 with op5 := 9 }, by decide +kernel⟩,
   ⟨hs 0xB, .ring 0, { d8 with op5 := 9 }, by decide +kernel⟩,
   ⟨hsh 0xB { giveUp := some (0, 3) }, 0, 3, by decide +kernel⟩,
   ⟨hsh 0xB { handover := some (.ring 0, d8) }, .ring 0, d8, by decide +kernel⟩,
   ⟨hs 1, by decide +kernel⟩,
   ⟨{ (hs 4).setRg TOP_RSTCTL 0x0A00 with boot := { up.boot with porHeld := false } }, by decide +kernel⟩,
   ⟨hs 3, by decide +kernel⟩⟩

theorem witness_ChainAndRelay :
    (∃ (s : State), s.chainUp = true) ∧
    (∃ (s : State), s.chainUp = false) ∧
    (∃ (s : State) (y : Fin 5) (c : Word) (nt : BitVec 64), s.chainUp = true ∧
      s.helmState = 0 ∧
      s.helm.handover = none) ∧
    (∃ (s : State) (st : Fin 5) (y : Fin 5) (c : Word) (nt : BitVec 64), s.chainUp = true ∧
      s.helmState ≠ 0 ∧
      s.helm.handover = none) ∧
    (∃ (s : State) (src : Src) (d : Desc) (y : Fin 5) (c : Word) (nt : BitVec 64), s.chainUp = true ∧
      s.helmState = 0 ∧
      s.helm.handover = some (src, d)) ∧
    (∃ (s : State) (l : Fin 2) (b : Bool), s.flag HELM_STAT (6 + l.val) = b) ∧
    (∃ (s : State) (l : Fin 2), s.flag HELM_STAT (6 + l.val) = true ∧
      s.fld HELM_STAT 7 6 = 3) ∧
    (∃ (s : State) (l : Fin 2), s.flag HELM_STAT (6 + l.val) = false ∧
      s.fld HELM_STAT 7 6 ≠ 0) ∧
    (∃ (s : State) (b : Fin 16) (g : Bool), s.helmState ≠ 3 ∧
      s.helm.hbState = 3 ∧
      s.flag (HELM_B + 0x14) b.val ≠ g) ∧
    (∃ (s : State) (b : Fin 16), s.helm.hbState ≠ 3) ∧
    (∃ (s : State) (src : Src) (d : Desc), s.accepts src 0x91 d ∧
      d.tgt < 16 ∧
      s.topo d.tgt = 3 ∧
      d.op0.toNat ≤ 1 ∧
      s.helm.hbAlive = true ∧
      s.helm.hbSync = 3) ∧
    (∃ (s : State) (src : Src) (d : Desc), s.accepts src 0x91 d ∧
      ((16 ≤ d.tgt ∨ s.topo d.tgt ≠ 3))) ∧
    (∃ (s : State) (b : Fin 16) (k : BitVec 32) (l : List Byte), s.flag (HELM_B + 0x14) b.val = true ∧
      s.holder = false) ∧
    (∃ (s : State) (b : Fin 16) (v : Bool) (k : BitVec 32) (l : List Byte), s.flag (HELM_B + 0x14) b.val = false) ∧
    (∃ (s : State) (b : Fin 16) (p : Fin 25), s.holder = true ∧
      s.topo b.val = 3) ∧
    (∃ (s : State) (b : Fin 16) (p : Fin 25), s.holder = true ∧
      s.topo b.val = 3 ∧
      s.planState = 0) ∧
    (∃ (s : State) (b : Fin 16) (p : Fin 25), s.holder = true ∧
      s.topo b.val = 3 ∧
      s.planState = 4) ∧
    (∃ (s : State) (b : Fin 16) (p : Fin 25), s.topo b.val ≠ 3) ∧
    (∃ (s : State) (src : Src) (d : Desc), s.accepts src 0x91 d ∧
      d.tgt < 16 ∧
      s.topo d.tgt = 3 ∧
      d.op0.toNat ≤ 1 ∧
      ((s.helm.hbAlive = false ∨ s.helm.hbSync ≠ 3))) :=
  ⟨⟨hs 0xC3, by decide +kernel⟩,
   ⟨hs 3, by decide +kernel⟩,
   ⟨hs 0xC0, 2, 5, 1000000, by decide +kernel⟩,
   ⟨hs 0xC3, 1, 2, 5, 1000000, by decide +kernel⟩,
   ⟨hsh 0xC0 { handover := some (.ring 0, d8) }, .ring 0, d8, 3, 5, 1000000, by decide +kernel⟩,
   ⟨hs 0x80, 1, true, by decide +kernel⟩,
   ⟨hs 0xC0, 1, by decide +kernel⟩,
   ⟨hs 0x80, 0, by decide +kernel⟩,
   ⟨hsh 0xC0 { hbState := 3 }, 15, true, by decide +kernel⟩,
   ⟨hs 0xC0, 15, by decide +kernel⟩,
   ⟨{ up.setRg (pCfg 15) 7 with helm := hrdy }, .ring 0, { dt 15 with op0 := 1 }, by decide +kernel⟩,
   ⟨up, .ring 0, dt 16, by decide +kernel⟩,
   ⟨(hs 0).setRg (HELM_B + 0x14) 8, 3, 100, [1, 2], by decide +kernel⟩,
   ⟨up, 3, true, 100, [1, 2], by decide +kernel⟩,
   ⟨up.setRg (pCfg 15) 7, 15, 24, by decide +kernel⟩,
   ⟨up.setRg (pCfg 15) 7, 15, 24, by decide +kernel⟩,
   ⟨(up.setRg (pCfg 15) 7).setPlanState 4, 15, 24, by decide +kernel⟩,
   ⟨up, 15, 24, by decide +kernel⟩,
   ⟨up.setRg (pCfg 15) 7, .ring 0, { dt 15 with op0 := 1 }, by decide +kernel⟩⟩

theorem witness_StandbyFollows :
    (∃ (s : State) (c : Word) (p : Byte) (ws : List (Nat × Word × Word)) (cs : List (Byte × Desc)) (ms : List (Fin 256)), s.follows = true) ∧
    (∃ (s : State) (a : Fin 256) (c : BitVec 16) (f : BitVec 16) (ws : List Word), s.follows = true) ∧
    (∃ (s : State) (c : Word) (p : Byte) (ws : List (Nat × Word × Word)) (cs : List (Byte × Desc)) (ms : List (Fin 256)), s.follows = false) ∧
    (∃ (s : State), s.holder = true ∧
      s.chainUp = true) ∧
    (∃ (s : State) (p : BitVec 18) (w : Word), s.follows = true ∧
      p.toNat < 131072 ∧
      s.helm.swept < 196608) ∧
    (∃ (s : State) (p : BitVec 18) (ws : List Word), s.follows = false) ∧
    (∃ (s : State) (r : BitVec 2) (v : BitVec 2) (m : Byte) (w : BitVec 16), s.helmState = 0 ∧
      s.chainUp = true ∧
      v.toNat = s.variant ∧
      r.toNat + s.role = 3 ∧
      m.toNat = s.mgrId ∧
      w.toNat = s.fld 0xC 31 16) ∧
    (∃ (s : State) (r : BitVec 2) (v : BitVec 2) (m : Byte) (w : BitVec 16) (g : Bool), s.helmState = 0 ∧
      s.chainUp = true ∧
      v.toNat ≠ s.variant) ∧
    (∃ (s : State) (r : BitVec 2) (v : BitVec 2) (m : Byte) (w : BitVec 16), s.helmState = 0 ∧
      s.chainUp = true) ∧
    (∃ (s : State) (rs : List (Nat × Word)) (p : List Word) (m : List Word) (xs : List (Fin 256 × Byte × Word)) (ms : List (Nat × Word)) (fs : List (Fin 256 × List Int)), s.syncState = 1) ∧
    (∃ (s : State), s.syncState = 2 ∧
      256 ≤ s.helm.matchCnt ∧
      196608 ≤ s.helm.swept) ∧
    (∃ (s : State), ((s.syncState ≠ 2 ∨ s.helm.matchCnt < 256 ∨ s.helm.swept < 196608))) :=
  ⟨⟨hs 0x2C0, 9, 1, [(0x80200, 1, 5)], [(0x50, dt 5)], [], by decide +kernel⟩,
   ⟨hs 0x2C0, 5, 9, 1, [1, 2], by decide +kernel⟩,
   ⟨hs 0x2C3, 9, 1, [], [], [], by decide +kernel⟩,
   ⟨hs 0xC3, by decide +kernel⟩,
   ⟨hs 0x2C0, 131071, 5, by decide +kernel⟩,
   ⟨hs 0, 1, [], by decide +kernel⟩,
   ⟨hs 0xC0, 2, 1, 1, BitVec.ofNat 16 (up.fld 0xC 31 16), by decide +kernel⟩,
   ⟨hs 0xC0, 2, 2, 1, 1, true, by decide +kernel⟩,
   ⟨hs 0xC0, 2, 1, 1, 1, by decide +kernel⟩,
   ⟨hs 0x1C0, [(0x80200, 5)], [1], [], [], [], [], by decide +kernel⟩,
   ⟨hsh 0x2C0 { matchCnt := 256, swept := 196608 }, by decide +kernel⟩,
   ⟨hsh 0x2C0 { matchCnt := 256 }, by decide +kernel⟩⟩

theorem witness_Resets :
    (∃ (s : State), s.boot.keelJob = none) ∧
    (∃ (s : State), s.boot.porHeld = false) ∧
    (∃ (s : State), s.boot.porHeld = true) ∧
    (∃ (s : State) (w : Word), s.boot.porHeld = false ∧
      bits w 31 16 = 0x4B45 ∧
      w.getLsbD 0 = true) ∧
    (∃ (s : State) (w : Word), ((bits w 31 16 ≠ 0x4B45 ∨ w.getLsbD 0 = false))) ∧
    (∃ (s : State) (v : Fin 4) (w : Fin 5), s.powered 5 = true) ∧
    (∃ (s : State) (h : Fin 2), s.holder = false ∧
      s.planState ≠ 1 ∧
      s.planState ≠ 2) ∧
    (∃ (s : State) (w : Word), s.powered 3 = true ∧
      (List.range 8).filter (fun c => w.getLsbD c && s.powered c && c != 2 && c != 7) = [3]) ∧
    (∃ (s : State) (w : Word), ((List.range 8).filter (fun c => w.getLsbD c && s.powered c && c != 2 && c != 7)) ≠ []) ∧
    (∃ (s : State) (w : Word), ((∀ c : Fin 8, c.val ≠ 2 → c.val ≠ 7 → w.getLsbD c.val = true → s.powered c.val = false))) ∧
    (∃ (s : State) (b : BitVec 2) (v : Bool), s.boot.porHeld = true) ∧
    (∃ (s : State) (b : BitVec 2) (v : Bool), s.boot.porHeld = false) :=
  ⟨⟨up, by decide +kernel⟩,
   ⟨bs { up.boot with porHeld := false }, by decide +kernel⟩,
   ⟨up, by decide +kernel⟩,
   ⟨bs { up.boot with porHeld := false }, 0x4B450001, by decide +kernel⟩,
   ⟨up, 0x12340501, by decide +kernel⟩,
   ⟨up.setRg TOP_PDSTAT 0xFF, 3, 4, by decide +kernel⟩,
   ⟨hs 0, 1, by decide +kernel⟩,
   ⟨up.setRg TOP_PDSTAT 0xFF, 0x4B450008, by decide +kernel⟩,
   ⟨up.setRg TOP_PDSTAT 0xFF, 0x4B450068, by decide +kernel⟩,
   ⟨up.setRg TOP_PDSTAT 0xF7, 0x4B45008C, by decide +kernel⟩,
   ⟨up, 2, true, by decide +kernel⟩,
   ⟨bs { up.boot with porHeld := false }, 2, true, by decide +kernel⟩⟩

theorem witness_ClocksAndSupplies :
    (∃ (s : State) (w : Fin 3), w.val ≠ 0 ∧
      s.holder = false) ∧
    (∃ (s : State) (w : Fin 3), w.val ≠ 0 ∧
      s.holder = true) ∧
    (∃ (s : State) (k : Fin 8), k.val ≠ 2 ∧
      s.flag TOP_SUPPLY k.val = true ∧
      k.val ≠ 7 ∧
      s.holder = false) ∧
    (∃ (s : State), s.flag TOP_SUPPLY 2 = true ∧
      s.variant ≠ 2) ∧
    (∃ (s : State), s.flag TOP_SUPPLY 7 = true) ∧
    (∃ (s : State) (k : Fin 8), s.flag TOP_SUPPLY k.val = false) ∧
    (∃ (s : State), s.variant = 2) ∧
    (∃ (s : State) (k : Fin 8), s.flag TOP_SUPPLY k.val = false ∧
      k.val ≠ 2 ∧
      k.val ≠ 7) ∧
    (∃ (s : State), s.flag TOP_SUPPLY 7 = false) ∧
    (∃ (s : State) (t : BitVec 8), t.toInt ≤ wrapS 8 (s.fld TOP_THERM 15 8) ∧
      t.toInt ≤ wrapS 8 (s.fld TOP_THERM 23 16)) ∧
    (∃ (s : State) (t : BitVec 8), wrapS 8 (s.fld TOP_THERM 15 8) < t.toInt ∧
      t.toInt ≤ wrapS 8 (s.fld TOP_THERM 23 16) ∧
      s.flag TOP_THERM 24 = false) ∧
    (∃ (s : State) (t : BitVec 8), wrapS 8 (s.fld TOP_THERM 15 8) < t.toInt ∧
      wrapS 8 (s.fld TOP_THERM 23 16) < t.toInt ∧
      s.flag TOP_THERM 24 = true ∧
      s.flag TOP_THERM 25 = false ∧
      s.holder = false) :=
  ⟨⟨hs 0, 2, by decide +kernel⟩,
   ⟨up, 1, by decide +kernel⟩,
   ⟨(hs 0).setRg TOP_SUPPLY 0xFF, 6, by decide +kernel⟩,
   ⟨(sf 3 (img0 0)).setRg TOP_SUPPLY 0xFF, by decide +kernel⟩,
   ⟨up.setRg TOP_SUPPLY 0xFF, by decide +kernel⟩,
   ⟨up.setRg TOP_SUPPLY 0x7F, 7, by decide +kernel⟩,
   ⟨{ up with boot := { up.boot with kval := Tab.set 0 up.boot.kval 0 2 } }, by decide +kernel⟩,
   ⟨up.setRg TOP_SUPPLY 0, 6, by decide +kernel⟩,
   ⟨up.setRg TOP_SUPPLY 0, by decide +kernel⟩,
   ⟨up, 0x64, by decide +kernel⟩,
   ⟨up, 0x65, by decide +kernel⟩,
   ⟨(hs 0).setRg TOP_THERM 0x01646E00, 0x70, by decide +kernel⟩⟩

theorem witness_DomainsAndTests :
    (∃ (s : State) (src : Src) (d : Desc), s.accepts src 0x95 d ∧
      d.tgt < 7 ∧
      d.tgt ≠ 2 ∧
      d.tgt ≠ 5 ∧
      d.op0 = 1 ∧
      s.powered d.tgt = false ∧
      s.boot.pdJobs = []) ∧
    (∃ (s : State) (src : Src) (d : Desc), s.accepts src 0x95 d ∧
      d.tgt < 7 ∧
      d.tgt ≠ 2 ∧
      d.tgt ≠ 5 ∧
      d.op0 = 0 ∧
      s.powered d.tgt = true ∧
      s.boot.pdJobs = [] ∧
      s.offAllowed d.tgt = true) ∧
    (∃ (s : State) (src : Src) (d : Desc), s.accepts src 0x95 d ∧
      d.tgt < 7 ∧
      d.tgt ≠ 2 ∧
      d.tgt ≠ 5 ∧
      d.op0 = 0 ∧
      s.powered d.tgt = true ∧
      s.offAllowed d.tgt = false) ∧
    (∃ (s : State) (src : Src) (d : Desc), s.accepts src 0x95 d ∧
      ((8 ≤ d.tgt ∨ d.tgt = 2))) ∧
    (∃ (s : State) (c : Fin 8) (src : Src) (d : Desc), s.boot.pdJobs = [(src, d)] ∧
      d.tgt = c.val ∧
      c.val ≠ 5 ∧
      c.val ≠ 6 ∧
      d.op0 = 0) ∧
    (∃ (s : State) (c : Fin 8) (src : Src) (d : Desc), s.boot.pdJobs = [(src, d)] ∧
      d.tgt = c.val ∧
      d.op0 = 1) ∧
    (∃ (s : State) (c : Fin 8) (src : Src) (d : Desc), s.boot.pdJobs = [(src, d)] ∧
      d.tgt = c.val ∧
      c.val = 6 ∧
      d.op0 = 0) ∧
    (∃ (s : State) (c : Fin 8) (src : Src) (d : Desc), s.boot.pdJobs = [(src, d)] ∧
      d.tgt = c.val ∧
      c.val = 5 ∧
      d.op0 = 0) ∧
    (∃ (s : State) (c : Fin 8), s.boot.pdJobs = []) ∧
    (∃ (s : State) (src : Src) (d : Desc), s.accepts src 0x92 d ∧
      d.tgt < 16 ∧
      s.powered (if d.tgt < 8 then 0 else 1) = true ∧
      s.boot.pdJobs = [] ∧
      s.pilot.act.axes.any (fun a => a.lane == d.tgt) = false ∧
      s.boot.tests = []) ∧
    (∃ (s : State) (src : Src) (d : Desc), s.accepts src 0x92 d ∧
      d.tgt < 16 ∧
      s.powered (if d.tgt < 8 then 0 else 1) = true ∧
      s.pilot.act.axes.any (fun a => a.lane == d.tgt) = true) ∧
    (∃ (s : State) (src : Src) (d : Desc), s.accepts src 0x93 d ∧
      ((d.tgt = 2 ∨ d.tgt = 3)) ∧
      s.boot.tests = [] ∧
      s.cpu.testing = []) ∧
    (∃ (s : State) (src : Src) (d : Desc), s.accepts src 0x94 d ∧
      d.tgt ≤ 51 ∧
      s.boot.tests = []) ∧
    (∃ (s : State) (src : Src) (d : Desc), s.accepts src 0x94 d ∧
      51 < d.tgt) ∧
    (∃ (s : State) (src : Src) (d : Desc), s.accepts src 0x35 d ∧
      d.tgt < 16 ∧
      s.powered (if d.tgt < 8 then 3 else 4) = true ∧
      d.op0.toNat ≤ 7 ∧
      s.pilot.act.nodes = [] ∧
      s.boot.tests = []) ∧
    (∃ (s : State) (x : TestJob) (r : Word), s.boot.tests = [x] ∧
      x.opc = 0x93) ∧
    (∃ (s : State) (x : TestJob) (o : Byte) (r : Word), s.boot.tests = [x] ∧
      x.opc = o.toNat ∧
      o ≠ 0x93 ∧
      o ≠ 0x92) ∧
    (∃ (s : State) (x : TestJob) (r : Word), s.boot.tests = [x] ∧
      x.opc = 0x92 ∧
      r.toNat % 32 = 31) ∧
    (∃ (s : State) (x : TestJob) (r : Word), s.boot.tests = [x] ∧
      x.opc = 0x92 ∧
      r.toNat % 32 ≠ 31) ∧
    (∃ (s : State) (o : Byte) (t : BitVec 16) (r : Word), s.boot.tests = []) ∧
    (∃ (s : State) (m : Fin 8) (b : BitVec 16) (w : BitVec 19) (h : Option (Fin 4)), ((m.val = 0 ∨ m.val = 3 ∨ m.val = 5 ∨ m.val = 6))) ∧
    (∃ (s : State) (m : Fin 8) (b : BitVec 16) (w : BitVec 19) (h : Option (Fin 4)), ((m.val = 4 ∨ m.val = 7))) :=
  ⟨⟨up.setRg TOP_PDSTAT 0xF7, .ring 0, { dt 3 with op0 := 1 }, by decide +kernel⟩,
   ⟨up.setRg TOP_PDSTAT 0xFF, .ring 0, dt 3, by decide +kernel⟩,
   ⟨rx.setRg TOP_PDSTAT 0xFF, .ring 0, dt 3, by decide +kernel⟩,
   ⟨up, .ring 0, dt 8, by decide +kernel⟩,
   ⟨bs { up.boot with pdJobs := [(.ring 0, dt 3)] }, 3, .ring 0, dt 3, by decide +kernel⟩,
   ⟨bs { up.boot with pdJobs := [(.ring 0, { dt 7 with op0 := 1 })] }, 7, .ring 0, { dt 7 with op0 := 1 }, by decide +kernel⟩,
   ⟨(bs { up.boot with pdJobs := [(.ring 0, dt 6)] }).setRg TOP_PDSTAT 0xFF, 6, .ring 0, dt 6, by decide +kernel⟩,
   ⟨(bs { up.boot with pdJobs := [(.ring 0, dt 5)] }).setRg TOP_PDSTAT 0xFF, 5, .ring 0, dt 5, by decide +kernel⟩,
   ⟨up, 7, by decide +kernel⟩,
   ⟨up.setRg TOP_PDSTAT 0xFF, .ring 0, dt 15, by decide +kernel⟩,
   ⟨px.setRg TOP_PDSTAT 0xFF, .ring 0, dt 2, by decide +kernel⟩,
   ⟨up, .ring 0, dt 3, by decide +kernel⟩,
   ⟨up, .ring 0, dt 51, by decide +kernel⟩,
   ⟨up, .ring 0, dt 52, by decide +kernel⟩,
   ⟨up.setRg TOP_PDSTAT 0xFF, .ring 0, { dt 15 with op0 := 7 }, by decide +kernel⟩,
   ⟨{ up with boot := { up.boot with tests := [{ src := .ring 0, opc := 0x93, desc := dt 3 }] }, cpu := { up.cpu with testing := [3] } }, { src := .ring 0, opc := 0x93, desc := dt 3 }, 7, by decide +kernel⟩,
   ⟨{ up with boot := { up.boot with tests := [{ src := .ring 0, opc := 0x94, desc := dt 3 }] } }, { src := .ring 0, opc := 0x94, desc := dt 3 }, 0x94, 7, by decide +kernel⟩,
   ⟨{ up with boot := { up.boot with tests := [{ src := .ring 0, opc := 0x92, desc := dt 3 }] } }, { src := .ring 0, opc := 0x92, desc := dt 3 }, 31, by decide +kernel⟩,
   ⟨{ up with boot := { up.boot with tests := [{ src := .ring 0, opc := 0x92, desc := dt 3 }] } }, { src := .ring 0, opc := 0x92, desc := dt 3 }, 15, by decide +kernel⟩,
   ⟨up, 0x93, 3, 7, by decide +kernel⟩,
   ⟨up, 3, 7, 9, none, by decide +kernel⟩,
   ⟨up, 4, 7, 9, none, by decide +kernel⟩⟩

theorem witness_ImagesAndFuses :
    (∃ (s : State) (b : Bool) (l : List Byte), s.fld TOP_BOOT 2 0 = 1 ∧
      s.checkImage l = 0) ∧
    (∃ (s : State) (b : Bool) (l : Option (List Byte)) (k : Nat), s.fld TOP_BOOT 2 0 = 1 ∧
      k = (match l with | none => 6 | some x => s.checkImage x) ∧
      k ≠ 0 ∧
      s.boot.tries = 0) ∧
    (∃ (s : State) (b : Bool) (l : Option (List Byte)), s.fld TOP_BOOT 2 0 ≠ 1) ∧
    (∃ (s : State) (src : Src) (d : Desc) (l : List Byte), s.accepts src 0xA1 d ∧
      s.boot.fwJob = none ∧
      s.fld TOP_BOOT 2 0 ≠ 2 ∧
      s.boot.hasFlash = true ∧
      s.checkImage (slice l 0 (min d.op2.toNat l.length)) = 0) ∧
    (∃ (s : State) (src : Src) (d : Desc) (l : List Byte), s.accepts src 0xA1 d ∧
      s.boot.fwJob = none ∧
      s.fld TOP_BOOT 2 0 = 2 ∧
      s.checkImage (slice l 0 (min d.op2.toNat l.length)) = 0) ∧
    (∃ (s : State) (src : Src) (d : Desc) (l : List Byte) (k : Nat), s.accepts src 0xA1 d ∧
      s.boot.fwJob = none ∧
      s.fld TOP_BOOT 2 0 ≠ 2 ∧
      s.boot.hasFlash = true ∧
      s.checkImage (slice l 0 (min d.op2.toNat l.length)) = k ∧
      k ≠ 0) ∧
    (∃ (s : State) (src : Src) (d : Desc), s.accepts src 0xA1 d ∧
      s.boot.fwJob = none ∧
      s.fld TOP_BOOT 2 0 ≠ 2 ∧
      s.boot.hasFlash = true) ∧
    (∃ (s : State) (src : Src) (d : Desc) (l : List Byte), s.boot.fwJob = some (src, d, l)) ∧
    (∃ (s : State) (src : Src) (d : Desc) (l : List Byte), s.boot.fwJob = some (src, d, l)) ∧
    (∃ (s : State) (b : Bool), s.boot.fwJob = none) ∧
    (∃ (s : State) (src : Src) (d : Desc) (g : Nat), s.accepts src 0xA0 d ∧
      groupOf d.tgt = some g ∧
      g ≠ 0 ∧
      g ≠ 7 ∧
      s.boot.keelJob = none ∧
      s.boot.vpp = true ∧
      s.boot.vppBoot = false ∧
      s.wordClass d.tgt = 0 ∧
      s.groupState g ≠ 2 ∧
      ((0x30 ≤ d.tgt → d.op0.toNat = lockMagic ∧ (groupWords g).all (fun x => s.wordClass x == 1) = true))) ∧
    (∃ (s : State) (src : Src) (d : Desc) (g : Nat), s.accepts src 0xA0 d ∧
      groupOf d.tgt = some g ∧
      g ≠ 0 ∧
      g ≠ 7 ∧
      s.boot.keelJob = none ∧
      ((s.boot.vpp = false ∨ s.boot.vppBoot = true))) ∧
    (∃ (s : State) (src : Src) (d : Desc), s.accepts src 0xA0 d ∧
      groupOf d.tgt = none) ∧
    (∃ (s : State) (src : Src) (d : Desc), s.boot.keelJob = some (src, d) ∧
      d.tgt < 64) ∧
    (∃ (s : State) (src : Src) (d : Desc) (t : Word) (c : Word), s.boot.keelJob = some (src, d) ∧
      d.tgt < 64 ∧
      t ≠ d.op0) ∧
    (∃ (s : State) (t : Word) (c : Word), s.boot.keelJob = none) :=
  ⟨⟨up.setRg TOP_BOOT 1, true, signed, by decide +kernel⟩,
   ⟨up.setRg TOP_BOOT 1, true, none, 6, by decide +kernel⟩,
   ⟨up, true, none, by decide +kernel⟩,
   ⟨up, .ring 0, { d0 with op2 := 256 }, signed, by decide +kernel⟩,
   ⟨up.setRg TOP_BOOT 2, .ring 0, { d0 with op2 := 256 }, signed, by decide +kernel⟩,
   ⟨up, .ring 0, { d0 with op2 := 255 }, signed, 2, by decide +kernel⟩,
   ⟨up, .ring 0, d0, by decide +kernel⟩,
   ⟨bs { up.boot with fwJob := some (.ring 0, d0, [1, 2]) }, .ring 0, d0, [1, 2], by decide +kernel⟩,
   ⟨(bs { up.boot with fwJob := some (.ring 0, d0, [1, 2]) }).setFlag TOP_BOOT 3, .ring 0, d0, [1, 2], by decide +kernel⟩,
   ⟨up, true, by decide +kernel⟩,
   ⟨bs { up.boot with vpp := true }, .ring 0, dt 8, 4, by decide +kernel⟩,
   ⟨up, .ring 0, dt 15, 4, by decide +kernel⟩,
   ⟨up, .ring 0, dt 0x3F, by decide +kernel⟩,
   ⟨bs { up.boot with keelJob := some (.ring 0, { dt 8 with op0 := 5 }) }, .ring 0, { dt 8 with op0 := 5 }, by decide +kernel⟩,
   ⟨bs { up.boot with keelJob := some (.ring 0, { dt 8 with op0 := 5 }) }, .ring 0, { dt 8 with op0 := 5 }, 4, 7, by decide +kernel⟩,
   ⟨up, 1, 2, by decide +kernel⟩⟩

theorem witness_StepTakesFront :
    (∃ (s : State) (c : Instr) (r : List Instr), s.pending = c :: r) ∧
    (∃ (s : State), s.pending = []) :=
  ⟨⟨{ up with pending := [.adaptSchedule] }, .adaptSchedule, [], by decide +kernel⟩,
   ⟨up, by decide +kernel⟩⟩

theorem witness_StepKeepsInvariant : ∃ (s : State) (t : State), s.Inv ∧
      step s = .next t :=
  ⟨{ up with pending := [.heartbeatSend] }, up, ⟨by decide +kernel, by decide +kernel⟩, rfl⟩

theorem witness_SharedChecks :
    (∃ (c : Instr) (src : Src) (opc : Nat) (d : Desc) (s : State), command c = some (src, opc, d) ∧
      d.atCycle = true ∧
      (((d.op5 - s.cycle).toNat = 0 ∨ 2 ^ 31 ≤ (d.op5 - s.cycle).toNat))) ∧
    (∃ (c : Instr) (src : Src) (opc : Nat) (d : Desc) (s : State), command c = some (src, opc, d)) :=
  ⟨⟨.nop (.ring 0) d8, .ring 0, 0, d8, up, by decide +kernel⟩,
   ⟨.nop (.ring 0) d0, .ring 0, 0, d0, up, by decide +kernel⟩⟩

theorem witness_NotHelm :
    (∃ (c : Instr) (src : Src) (opc : Nat) (d : Desc) (s : State), command c = some (src, opc, d) ∧
      opc ∈ [0x30, 0x31, 0x32, 0x33, 0x34, 0x40, 0x41, 0x42, 0x43, 0x44, 0x60, 0x71, 0x72, 0x91, 0xB0] ∧
      opcodeOnRing opc src.ringNo = true ∧
      d.flags.toNat < 16 ∧
      ((s.holder = false ∨ s.identOk = false ∨ s.mgrId = 0 ∨ s.mgrId = 0xFF))) ∧
    (∃ (src : Src) (opc : Nat) (d : Desc) (s : State), opc ∉ [0x30, 0x31, 0x32, 0x33, 0x34, 0x40, 0x41, 0x42, 0x43, 0x44, 0x60, 0x71, 0x72, 0x91, 0xB0]) :=
  ⟨⟨.netBoom (.ring 0) d0, .ring 0, 0x30, d0, hs 0, by decide +kernel⟩,
   ⟨.ring 0, 0x10, d0, up, by decide +kernel⟩⟩

theorem witness_EventOccurrence :
    (∃ (s : State) (m : Fin 8) (b : BitVec 16) (g : BitVec 19) (x : Option (Fin 4)), bits (s.rg (evtRoute 246)) 7 6 = 0 ∧
      bit (s.rg (evtRoute 246)) 12 = false) ∧
    (∃ (s : State) (m : Fin 8) (b : BitVec 16) (g : BitVec 19) (x : Option (Fin 4)) (v : Nat), bits (s.rg (evtRoute 246)) 7 6 = 1 ∧
      bit (s.rg (evtRoute 246)) 12 = false ∧
      bits (s.rg (evtRoute 246)) 5 0 = v ∧
      (s.msixV v).masked = false ∧
      s.host.msixOn = true) ∧
    (∃ (s : State) (m : Fin 8) (b : BitVec 16) (g : BitVec 19) (x : Option (Fin 4)) (v : Nat), bits (s.rg (evtRoute 246)) 7 6 = 1 ∧
      bit (s.rg (evtRoute 246)) 12 = false ∧
      bits (s.rg (evtRoute 246)) 5 0 = v ∧
      (s.msixV v).masked = true) ∧
    (∃ (s : State) (m : Fin 8) (b : BitVec 16) (g : BitVec 19) (x : Option (Fin 4)), bits (s.rg (evtRoute 246)) 7 6 = 2 ∧
      bit (s.rg (evtRoute 246)) 12 = false ∧
      s.ringRoom 26 = false) :=
  ⟨⟨(hs 0).setRg (evtRoute 246) 0x100, 2, 7, 9, none, by decide +kernel⟩,
   ⟨{ (hs 0).setRg (evtRoute 246) 0x45 with host := { msixEn := true, msix := [(5, { masked := false })] } }, 2, 7, 9, none, 5, by decide +kernel⟩,
   ⟨{ (hs 0).setRg (evtRoute 246) 0x45 with host := { msixEn := true, msix := [(5, { masked := true })] } }, 2, 7, 9, none, 5, by decide +kernel⟩,
   ⟨(hs 0).setRg (evtRoute 246) 0x80, 2, 7, 9, none, by decide +kernel⟩⟩

theorem witness_LaneWordRoundTrip :
    (∃ (op : Nat) (w : LaneWord), op < 64) ∧
    (∃ (s : State) (l : Nat) (op : Nat) (op' : Nat) (w : LaneWord) (w' : LaneWord), op < 64 ∧
      op' < 64 ∧
      s.standsAt l op w = true ∧
      s.standsAt l op' w' = true) :=
  ⟨⟨63, lw 1 2 3, by decide +kernel⟩,
   ⟨ln 5 (lw 1 2 3), 2, 5, 5, lw 1 2 3, lw 1 2 3, by decide +kernel⟩⟩

theorem witness_LaneMoves :
    (∃ (s : State) (l : Fin 16) (w : LaneWord), s.laneAt l.val 0x00 w ∧
      mKind w.xm = 1 ∧
      mKind w.ym = 0) ∧
    (∃ (s : State) (l : Fin 16) (w : LaneWord), s.laneAt l.val 0x00 w ∧
      mKind w.xm = 2 ∧
      mKind w.ym = 0) ∧
    (∃ (s : State) (l : Fin 16) (w : LaneWord), s.laneAt l.val 0x00 w ∧
      mKind w.xm = 0 ∧
      mKind w.ym = 2) ∧
    (∃ (s : State) (l : Fin 16) (w : LaneWord), s.laneAt l.val 0x00 w) ∧
    (∃ (g : AddrGen), g.l = 0) ∧
    (∃ (g : AddrGen), 0 < g.l ∧
      g.b ≤ g.p ∧
      g.p < g.b + g.l ∧
      g.b + g.l ≤ 16384) :=
  ⟨⟨ln 0 { lw 1 2 3 with xm := 0x5105 }, 2, { lw 1 2 3 with xm := 0x5105 }, by decide +kernel⟩,
   ⟨ln 0 { lw 1 2 3 with xm := 0x9905 }, 2, { lw 1 2 3 with xm := 0x9905 }, by decide +kernel⟩,
   ⟨ln 0 { lw 1 2 3 with ym := 0x9905 }, 2, { lw 1 2 3 with ym := 0x9905 }, by decide +kernel⟩,
   ⟨ln 0 (lw 1 2 3), 2, lw 1 2 3, by decide +kernel⟩,
   ⟨{}, by decide +kernel⟩,
   ⟨{ p := 9, b := 5, l := 5 }, by decide +kernel⟩⟩

end Sys2Proof.Tests
end

/-! The checks that every command shares: each command is `State.cmd` around a body of its own, so what `State.precheck` answers is
what the command completes with. Only PLAN_COMMIT, MOVE_SEG and CAN_TX judge their named cycle in that body (R196, R380, R547). -/

namespace Sys2Proof.Machine

open Sys2Proof

theorem isFuture_eq_false_iff (n c : BitVec 32) :
    isFuture n c = false ↔ (n - c).toNat = 0 ∨ 2 ^ 31 ≤ (n - c).toNat := by
  simp only [isFuture, Bool.and_eq_false_iff, decide_eq_false_iff_not]
  omega

/-! ### What `precheck` answers, check by check -/

section
variable {s : State} {src : Src} {opc : Nat} {d : Desc}

theorem State.helmCheck_passes (hhelm : needsHelm opc = false ∨ s.mayOriginate = true) :
    (needsHelm opc && !s.mayOriginate) = false := by
  rcases hhelm with hneeds | hmay
  · rw [hneeds, Bool.false_and]
  · rw [hmay, Bool.not_true, Bool.and_false]

theorem State.precheck_of_wrongRing (hring : opcodeOnRing opc src.ringNo = false) :
    s.precheck src opc d = some .badOpcode := by
  simp only [State.precheck, hring, Bool.not_false, if_true]

theorem State.precheck_of_reservedFlags (hring : opcodeOnRing opc src.ringNo = true) (hflags : 16 ≤ d.flags.toNat) :
    s.precheck src opc d = some .badOperand := by
  simp only [State.precheck, hring, hflags, Bool.not_true, Bool.false_eq_true, if_true, if_false]

theorem State.precheck_of_noHelm (hring : opcodeOnRing opc src.ringNo = true) (hflags : d.flags.toNat < 16)
    (hneeds : needsHelm opc = true) (hhelm : s.mayOriginate = false) : s.precheck src opc d = some .notHelm := by
  simp only [State.precheck, hring, Nat.not_le.2 hflags, hneeds, hhelm, Bool.not_true, Bool.not_false, Bool.and_self,
    Bool.false_eq_true, if_true, if_false]

/-- Past ring, flags and helm, the access map is asked next. -/
theorem State.precheck_of_mapDenies (hring : opcodeOnRing opc src.ringNo = true) (hflags : d.flags.toNat < 16)
    (hhelm : needsHelm opc = false ∨ s.mayOriginate = true)
    (hmap : (guardedBy opc).any (fun g => s.mapDenies g (1 + src.ringNo)) = true) :
    s.precheck src opc d = some .accessDenied := by
  simp only [State.precheck, hring, Nat.not_le.2 hflags, State.helmCheck_passes hhelm, hmap, Bool.not_true,
    Bool.false_eq_true, if_true, if_false]

/-- Past the access map, an opcode that leaves its named cycle to the shared checks is judged by it alone. -/
theorem State.precheck_of_mapAllows (hring : opcodeOnRing opc src.ringNo = true) (hflags : d.flags.toNat < 16)
    (hhelm : needsHelm opc = false ∨ s.mayOriginate = true)
    (hmap : (guardedBy opc).any (fun g => s.mapDenies g (1 + src.ringNo)) = false)
    (hcommit : opc ≠ 0x21) (hseg : opc ≠ 0x40) (hcan : opc ≠ 0x60) :
    s.precheck src opc d =
      if namedCycle opc && !d.atCycle then some .badOperand
      else if d.atCycle && !isFuture d.op5 s.cycle then some .cyclePast else none := by
  simp only [State.precheck, hring, Nat.not_le.2 hflags, State.helmCheck_passes hhelm, hmap, beq_eq_false_iff_ne.2 hcommit,
    beq_eq_false_iff_ne.2 hseg, beq_eq_false_iff_ne.2 hcan, Bool.or_self, Bool.not_true, Bool.false_eq_true, if_false]

theorem State.precheck_ne_ok : s.precheck src opc d ≠ some .ok := by
  unfold State.precheck
  repeat' split
  all_goals decide

/-- The shared checks let a named cycle that is not in the future pass only where the command judges it itself. -/
theorem State.opc_of_precheck_none (hpre : s.precheck src opc d = none) (hat : d.atCycle = true)
    (hpast : isFuture d.op5 s.cycle = false) : opc = 0x21 ∨ opc = 0x40 ∨ opc = 0x60 := by
  by_cases hcommit : opc = 0x21
  · exact .inl hcommit
  by_cases hseg : opc = 0x40
  · exact .inr (.inl hseg)
  by_cases hcan : opc = 0x60
  · exact .inr (.inr hcan)
  simp only [State.precheck, beq_eq_false_iff_ne.2 hcommit, beq_eq_false_iff_ne.2 hseg, beq_eq_false_iff_ne.2 hcan, hat, hpast,
    Bool.or_self, Bool.not_true, Bool.not_false, Bool.and_self, Bool.and_false, Bool.false_eq_true, if_true, if_false] at hpre
  repeat' split at hpre
  all_goals cases hpre

theorem State.cmd_of_precheck_some {body : State → State} {e : St} (hpre : s.precheck src opc d = some e) :
    s.cmd src opc d body = s.complete src opc d e := by
  simp only [State.cmd, hpre]

theorem State.cmd_of_precheck_none {body : State → State} (hpre : s.precheck src opc d = none) :
    s.cmd src opc d body = body s := by
  simp only [State.cmd, hpre]

end

/-! ### The three commands that judge their named cycle themselves -/

/-- A body ends the command with an error in this state. -/
def EndsInError (s : State) (src : Src) (opc : Nat) (d : Desc) (t : State) : Prop :=
  ∃ e : St, e ≠ .ok ∧ t = s.complete src opc d e

section
variable {s : State} {src : Src} {d : Desc}

theorem State.planCommit_endsInError (hpast : isFuture d.op5 s.cycle = false) :
    EndsInError s src 0x21 d (s.planCommit src d) := by
  simp only [State.planCommit, hpast, Bool.not_false, if_true]
  split
  · exact ⟨.busy, by decide, rfl⟩
  split
  · exact ⟨.badOperand, by decide, rfl⟩
  · exact ⟨.cyclePast, by decide, rfl⟩

theorem State.segError_of_past (hat : d.atCycle = true) (hpast : isFuture d.op5 s.cycle = false) :
    ∃ e : St, e ≠ .ok ∧ s.segError d = some e := by
  simp only [State.segError, hat, hpast, Bool.not_false, Bool.and_self, if_true]
  split
  · exact ⟨.badTarget, by decide, rfl⟩
  split
  · exact ⟨.busy, by decide, rfl⟩
  split
  · exact ⟨.badOperand, by decide, rfl⟩
  · exact ⟨.cyclePast, by decide, rfl⟩

theorem State.canTx_endsInError (data : Option (List Byte)) (hat : d.atCycle = true)
    (hpast : isFuture d.op5 s.cycle = false) : EndsInError s src 0x60 d (s.canTx src d data) := by
  simp only [State.canTx, hat, hpast, Bool.not_false, Bool.and_self, if_true]
  split
  · exact ⟨.pdOff, by decide, rfl⟩
  split
  · exact ⟨.badTarget, by decide, rfl⟩
  split
  · exact ⟨.badOperand, by decide, rfl⟩
  · exact ⟨.cyclePast, by decide, rfl⟩

end

/-! ### Every command runs its body behind the shared checks -/

/-- Every command is `State.cmd` around a body, and a body that judges its named cycle itself answers a past one with an error. -/
theorem exec_command {c : Instr} {src : Src} {opc : Nat} {d : Desc} (hcmd : command c = some (src, opc, d)) (s : State) :
    ∃ body : State → State, exec c s = .next (s.cmd src opc d body) ∧
      (opc = 0x21 ∨ opc = 0x40 ∨ opc = 0x60 → d.atCycle = true → isFuture d.op5 s.cycle = false →
        EndsInError s src opc d (body s)) := by
  cases c
  case planCommit src d =>
    cases hcmd
    exact ⟨_, rfl, fun _ _ hpast => State.planCommit_endsInError hpast⟩
  case moveSeg src d =>
    cases hcmd
    refine ⟨_, rfl, fun _ hat hpast => ?_⟩
    obtain ⟨e, hne, he⟩ := State.segError_of_past hat hpast
    exact ⟨e, hne, by simp only [he]⟩
  case canTx src d data =>
    cases hcmd
    exact ⟨_, rfl, fun _ hat hpast => State.canTx_endsInError data hat hpast⟩
  all_goals cases hcmd
  all_goals exact ⟨_, rfl, fun hopc => absurd hopc (by decide)⟩

theorem exec_of_precheck_some {c : Instr} {src : Src} {opc : Nat} {d : Desc} {s : State} {e : St}
    (hcmd : command c = some (src, opc, d)) (hpre : s.precheck src opc d = some e) :
    exec c s = .next (s.complete src opc d e) := by
  obtain ⟨body, hexec, -⟩ := exec_command hcmd s
  rw [hexec, State.cmd_of_precheck_some hpre]

/-- R15: whoever judges it, the shared checks or the command, a named cycle that is not in the future ends the command. -/
theorem exec_of_cyclePast {c : Instr} {src : Src} {opc : Nat} {d : Desc} {s : State}
    (hcmd : command c = some (src, opc, d)) (hat : d.atCycle = true) (hpast : isFuture d.op5 s.cycle = false) :
    ∃ e : St, e ≠ .ok ∧ exec c s = .next (s.complete src opc d e) := by
  cases hpre : s.precheck src opc d with
  | some e => exact ⟨e, fun hok => State.precheck_ne_ok (hok ▸ hpre), exec_of_precheck_some hcmd hpre⟩
  | none =>
    obtain ⟨body, hexec, hbody⟩ := exec_command hcmd s
    obtain ⟨e, hne, he⟩ := hbody (State.opc_of_precheck_none hpre hat hpast) hat hpast
    exact ⟨e, hne, by rw [hexec, State.cmd_of_precheck_none hpre, he]⟩

/-- Settles O55: every command is `State.cmd` around a body (`exec_command`), so each clause is what `precheck` answers, and a past
named cycle that it lets pass is refused by the body. -/
theorem sharedChecks : Obligations.SharedChecks := by
  constructor
  · intro c src opc d s hcmd hat hpast
    exact exec_of_cyclePast hcmd hat ((isFuture_eq_false_iff _ _).2 hpast)
  intro c src opc d s hcmd
  refine ⟨fun hring => exec_of_precheck_some hcmd (State.precheck_of_wrongRing hring), fun hring => ?_⟩
  refine ⟨fun hflags => exec_of_precheck_some hcmd (State.precheck_of_reservedFlags hring hflags), fun hflags => ?_⟩
  refine ⟨fun hneeds hhelm => exec_of_precheck_some hcmd (State.precheck_of_noHelm hring hflags hneeds hhelm), fun hhelm => ?_⟩
  refine ⟨fun hmap => exec_of_precheck_some hcmd (State.precheck_of_mapDenies hring hflags hhelm hmap), ?_⟩
  intro hmap hcommit hseg hcan
  have hpre := State.precheck_of_mapAllows (d := d) hring hflags hhelm hmap hcommit hseg hcan
  constructor
  · intro hnamed hat
    exact exec_of_precheck_some hcmd (by rw [hpre, hnamed, hat]; rfl)
  · intro hat hpast
    exact exec_of_precheck_some hcmd (by rw [hpre, hat, hpast, Bool.not_true, Bool.and_false]; rfl)

end Sys2Proof.Machine

/-! What the host interface turns away: commands on a unit without the helm (R95), and register accesses that fail a check before the
register is touched (R16, R24, R53, R58, R59). Then what a command's end writes to host memory or to its port (R88, R89, R525). -/

namespace Sys2Proof.Machine

open Sys2Proof

/-! ### The helm (R95) -/

theorem needsHelm_iff_mem (opc : Nat) :
    needsHelm opc = true ↔
      opc ∈ [0x30, 0x31, 0x32, 0x33, 0x34, 0x40, 0x41, 0x42, 0x43, 0x44, 0x60, 0x71, 0x72, 0x91, 0xB0] := by
  simp only [needsHelm, Bool.or_eq_true, Bool.and_eq_true, decide_eq_true_eq, beq_iff_eq, List.mem_cons, List.not_mem_nil, or_false]
  omega

theorem State.mgrOk_eq_false {s : State} (hmgr : s.mgrId = 0 ∨ s.mgrId = 0xFF) : s.mgrOk = false := by
  rcases hmgr with hzero | hall
  · rw [State.mgrOk, hzero]
    rfl
  · rw [State.mgrOk, hall]
    rfl

theorem State.mayOriginate_eq_false {s : State}
    (hbar : s.holder = false ∨ s.identOk = false ∨ s.mgrId = 0 ∨ s.mgrId = 0xFF) : s.mayOriginate = false := by
  rcases hbar with hholder | hident | hmgr
  · simp only [State.mayOriginate, hholder, Bool.false_and]
  · simp only [State.mayOriginate, hident, Bool.and_false, Bool.false_and]
  · simp only [State.mayOriginate, State.mgrOk_eq_false hmgr, Bool.and_false]

/-- The helm is the only one of the shared checks that answers NOT_HELM. -/
theorem State.needsHelm_of_precheck_notHelm {s : State} {src : Src} {opc : Nat} {d : Desc}
    (hpre : s.precheck src opc d = some .notHelm) : needsHelm opc = true := by
  cases hneeds : needsHelm opc with
  | true => rfl
  | false =>
    simp only [State.precheck, hneeds, Bool.false_and, Bool.false_eq_true, if_false] at hpre
    repeat' split at hpre
    all_goals cases hpre

/-- Settles O56: the opcodes listed are those that need the helm, and the shared checks answer NOT_HELM for no other. -/
theorem notHelm : Obligations.NotHelm := by
  constructor
  · intro c src opc d s hcmd hopc hring hflags hbar
    exact exec_of_precheck_some hcmd (State.precheck_of_noHelm hring hflags ((needsHelm_iff_mem opc).2 hopc)
      (State.mayOriginate_eq_false hbar))
  · intro src opc d s hopc hpre
    exact hopc ((needsHelm_iff_mem opc).1 (State.needsHelm_of_precheck_notHelm hpre))

/-! ### Register accesses that are turned away (R16, R53, R58, R59) -/

section
variable {s : State} {a : Agent} {boff : Nat} {w : Word}

/-- A discarded access of the host sets its flag in HOST_ERR and loads HOST_ERR_ADDR (Table 2.5). -/
theorem State.accessErr_host {e : AccErr} (hcyc : e ≠ .cycFull) (hovr : e ≠ .ovr) (off : Nat) :
    s.accessErr .host e off = (s.setFlag HOST_ERR e.hostBit).setRg HOST_ERR_ADDR (ofNat off) := by
  simp only [State.accessErr, hcyc, hovr, decide_false, Bool.or_self, Bool.false_eq_true, if_false]

theorem State.busWrite_of_unreached (hreach : s.reaches a = false) (full : Bool) : s.busWrite a boff w full false = s := by
  simp only [State.busWrite, hreach, Bool.not_false, Bool.and_self, if_true]

theorem State.busWrite_of_part (hreach : s.reaches a = true) : s.busWrite a boff w false false = s.accessErr a .part boff := by
  simp only [State.busWrite, hreach, Bool.not_true, Bool.not_false, Bool.false_and, Bool.false_eq_true, if_true, if_false]

theorem State.busWrite_of_regOff (hreach : s.reaches a = true) (hoff : s.regOff (boff % 0x400000 / 4 * 4) = true) :
    s.busWrite a boff w true false = s.accessErr a .pdOff boff := by
  simp only [State.busWrite, hreach, hoff, Bool.not_true, Bool.false_and, Bool.false_eq_true, if_true, if_false]

theorem State.busWrite_of_denied {g : Nat} (hreach : s.reaches a = true) (hsuper : isSuper a = false)
    (hon : s.regOff (boff % 0x400000 / 4 * 4) = false) (hgroup : guardGroup (boff % 0x400000 / 4 * 4) = some g)
    (hmap : s.mapDenies g 0 = true) : s.busWrite a boff w true false = s.accessErr a .denied boff := by
  simp only [State.busWrite, hreach, hsuper, hon, hgroup, hmap, Bool.not_true, Bool.not_false, Bool.false_and, Bool.and_self,
    Bool.false_eq_true, if_true, if_false]

theorem State.busWrite_of_unguarded (hreach : s.reaches a = true) (hon : s.regOff (boff % 0x400000 / 4 * 4) = false)
    (hgroup : guardGroup (boff % 0x400000 / 4 * 4) = none) : s.busWrite a boff w true false = s.blockWrite a boff w false := by
  simp only [State.busWrite, hreach, hon, hgroup, Bool.not_true, Bool.false_and, Bool.false_eq_true, if_false]

/-- A read that need not wait, of a register whose domain is off, is discarded and returns 0 (R58). -/
theorem State.readAccess_of_regOff (hreach : s.reaches a = true) (hwait : s.readWaits a boff = false)
    (hoff : s.regOff (boff % 0x400000 / 4 * 4) = true) :
    s.readAccess a boff = (s.accessErr a .pdOff boff).emit (.read (agentNo a) boff 0) := by
  simp only [State.readAccess, State.readOut, State.readReg, hreach, hwait, hoff, Bool.and_false, Bool.false_eq_true, if_true,
    if_false, BitVec.ofNat_eq_ofNat, BitVec.toNat_ofNat, Nat.zero_mod]

end

/-- The NORMAL-window offset of an aligned register is the register's own. -/
theorem regOffset_of_aligned (off : BitVec 22) (halign : off.toNat % 4 = 0) : off.toNat % 0x400000 / 4 * 4 = off.toNat := by
  have := off.isLt
  omega

/-! ### A reserved value written into HOST_CQ_TMO (R24) -/

abbrev HOST_CQ_TMO : Nat := HOST_B + 0x14

/-- The one field of HOST_CQ_TMO: 1 to 65535 (Table 2.5). -/
def cqTmoFld : Fld := (rw 15 0 1000).within 1 65535

theorem bits_low_half (w : Word) : bits w 15 0 = (w &&& 0xFFFF).toNat := by
  simp only [bits, field, Nat.shiftRight_zero, BitVec.toNat_and]
  exact (Nat.and_two_pow_sub_one_eq_mod w.toNat 16).symm

/-- A register of one RW field whose value is refused: no bit is written (R24). -/
theorem rwBits_of_refused {f : Fld} {cur : Word} {b : BitWrite} (hrw : f.isRw = true) (hsel : f.mask &&& b.sel ≠ 0)
    (hrefused : f.admits (bits ((cur &&& ~~~(f.mask &&& b.sel)) ||| (b.val &&& (f.mask &&& b.sel))) f.hi f.lo) = false) :
    rwBits [f] cur b = (0, true) := by
  simp only [rwBits, List.foldl_cons, List.foldl_nil, hrw, bne_iff_ne.2 hsel, hrefused, Bool.and_self, Bool.false_eq_true, if_true,
    if_false]

/-- The field's text admits 1 to 65535: 0 is refused. -/
theorem rwBits_cqTmo_zero {v : Word} (cur : Word) (hv : v &&& 0xFFFF = 0) :
    rwBits [cqTmoFld] cur (windowWrite 0 v) = (0, true) := by
  have hmask : cqTmoFld.mask &&& (windowWrite 0 v).sel = 0xFFFF := by
    simp only [windowWrite]
    decide
  have hlow : bits ((cur &&& ~~~0xFFFF) ||| (v &&& 0xFFFF)) 15 0 = 0 := by
    have hkept : (cur &&& ~~~0xFFFF ||| 0) &&& 0xFFFF = 0 := by
      rw [show cur &&& ~~~0xFFFF ||| 0 = cur &&& ~~~0xFFFF from BitVec.or_zero, BitVec.and_assoc, BitVec.not_and_self]
      exact BitVec.and_zero
    rw [bits_low_half, hv, hkept]
    rfl
  refine rwBits_of_refused rfl (by rw [hmask]; decide) ?_
  rw [hmask]
  exact (congrArg _ hlow).trans (by decide)

/-- A write of which no bit of a RW field is admitted clears the ones of W1C fields and does what follows a write. -/
theorem State.takeWrite_nothing (s : State) (a : Agent) (boff : Nat) (fs : List Fld) (b : BitWrite) (cmd : Bool) :
    s.takeWrite a boff fs 0 b cmd =
      (if b.normal && boff % 0x400000 / 4 * 4 != LOCAL_FLT then s.clearOnes fs (boff % 0x400000 / 4 * 4) b.val else s).afterWrite
        (boff % 0x400000 / 4 * 4) (s.rg (boff % 0x400000 / 4 * 4)) b := by
  simp only [State.takeWrite, BitVec.ofNat_eq_ofNat, BitVec.zero_and, BitVec.or_self, ite_self, bne_self_eq_false, Bool.false_and,
    Bool.false_eq_true, if_true, if_false]

/-- HOST_CQ_TMO has no W1C field, and nothing follows its write. -/
theorem State.takeWrite_cqTmo_nothing (s : State) (v : Word) :
    s.takeWrite .host HOST_CQ_TMO [cqTmoFld] 0 (windowWrite 0 v) false = s := by
  have hoff : HOST_CQ_TMO % 0x400000 / 4 * 4 = HOST_CQ_TMO := rfl
  have hafter (t : State) (old : Word) (b : BitWrite) : t.afterWrite HOST_CQ_TMO old b = t := rfl
  have hones : s.clearOnes [cqTmoFld] HOST_CQ_TMO v = s := by
    have hmask : fieldMask [cqTmoFld] (fun f => f.acc == .w1c) = 0 := rfl
    rw [State.clearOnes, hmask]
    exact if_pos BitVec.and_zero
  rw [State.takeWrite_nothing, hoff, hafter, show (windowWrite 0 v).val = v from rfl, hones, ite_self]

/-- A refused value leaves HOST_CQ_TMO alone and sets HOST_ERR.OVR (R24, R73). -/
theorem State.blockWrite_cqTmo_zero {v : Word} (s : State) (hv : v &&& 0xFFFF = 0) :
    s.blockWrite .host HOST_CQ_TMO v false = s.setFlag HOST_ERR 5 := by
  have hordinary : s.blockWrite .host HOST_CQ_TMO v false =
      (if (rwBits [cqTmoFld] (s.pendValue HOST_CQ_TMO) (windowWrite 0 v)).2 then s.setFlag HOST_ERR 5 else s).takeWrite .host
        HOST_CQ_TMO [cqTmoFld] (rwBits [cqTmoFld] (s.pendValue HOST_CQ_TMO) (windowWrite 0 v)).1 (windowWrite 0 v) false := rfl
  rw [hordinary, rwBits_cqTmo_zero _ hv]
  exact State.takeWrite_cqTmo_nothing _ v

/-- Settles O4: each case is the first of the checks of `State.busWrite` or `State.readReg` that fails; a reserved value is the one
field of HOST_CQ_TMO refused. -/
theorem registerWriteDiscarded : Obligations.RegisterWriteDiscarded := by
  refine ⟨?_, ?_, ?_, ?_, ?_, ?_⟩
  · intro s off v be hreach hbe
    show Host.Outcome.next (s.busWrite .host off.toNat v (be == 15) false) = _
    rw [beq_eq_false_iff_ne.2 hbe, State.busWrite_of_part hreach, State.accessErr_host (by decide) (by decide)]
    rfl
  · intro s off v hreach halign hoff
    rw [← regOffset_of_aligned off halign] at hoff
    show Host.Outcome.next (s.busWrite .host off.toNat v true false) = _
    rw [State.busWrite_of_regOff hreach hoff, State.accessErr_host (by decide) (by decide)]
    rfl
  · intro s off v g hreach halign hon hgroup hmap
    rw [← regOffset_of_aligned off halign] at hon hgroup
    show Host.Outcome.next (s.busWrite .host off.toNat v true false) = _
    rw [State.busWrite_of_denied hreach rfl hon hgroup hmap, State.accessErr_host (by decide) (by decide)]
    rfl
  · intro s v ⟨hreach, hon, _⟩ hv
    show Host.Outcome.next (s.busWrite .host HOST_CQ_TMO v true false) = _
    rw [State.busWrite_of_unguarded hreach hon rfl, State.blockWrite_cqTmo_zero s hv]
  · intro s off v be hreach
    exact congrArg Host.Outcome.next (State.busWrite_of_unreached hreach _)
  · intro s off hreach hoff hwait
    have hread : s.readAccess .host off.toNat =
        ((s.setFlag HOST_ERR 1).setRg HOST_ERR_ADDR (ofNat off.toNat)).emit (.read 0 off.toNat 0) := by
      rw [State.readAccess_of_regOff hreach hwait hoff, State.accessErr_host (by decide) (by decide)]
      rfl
    exact ⟨congrArg Host.Outcome.next hread, congrArg Host.Outcome.next hread⟩

/-! ### Completions (R88, R89, R525) -/

section
variable {s : State} {r : Fin 32} {opc : Nat} {d : Desc} {st : St} {lo hi : Nat}

theorem State.complete_of_lost (hlost : s.isLost (.ring r) opc d = true) :
    s.complete (.ring r) opc d st lo hi = (s.release (.ring r) opc d).forget (.ring r) opc d := by
  simp only [State.complete, hlost, if_true]

/-- A success without COMP only releases the slot. -/
theorem State.complete_of_unasked (hcomp : d.comp = false) (hlost : s.isLost (.ring r) opc d = false) :
    s.complete (.ring r) opc d .ok lo hi = s.release (.ring r) opc d := by
  rw [Desc.comp] at hcomp
  simp only [State.complete, hlost, hcomp, bne_self_eq_false, Bool.or_self, Bool.false_and, Bool.false_eq_true, if_false]

/-- A completion that is due is appended to the ring whose slot the command holds; the ring's event may follow (R98). -/
theorem State.complete_of_due {u : State} (hdue : d.comp = true ∨ st ≠ .ok) (hlost : s.isLost (.ring r) opc d = false)
    (halive : s.ringAlive (s.slotOf (.ring r) opc d) = true)
    (hu : u = (s.release (.ring r) opc d).append (s.slotOf (.ring r) opc d) (complBytes d.tag opc st r.val lo hi)) :
    s.complete (.ring r) opc d st lo hi =
      if (u.countRing (s.slotOf (.ring r) opc d)).2 || d.urgent then
        (u.countRing (s.slotOf (.ring r) opc d)).1.ringEvent (s.slotOf (.ring r) opc d)
      else (u.countRing (s.slotOf (.ring r) opc d)).1 := by
  have hwrite : (st != .ok || d.flags.getLsbD 0) = true := by
    rcases hdue with hcomp | hst
    · rw [show d.flags.getLsbD 0 = true from hcomp, Bool.or_true]
    · rw [bne_iff_ne.2 hst, Bool.true_or]
  have halive' : (s.release (.ring r) opc d).ringAlive (s.slotOf (.ring r) opc d) = true := halive
  simp only [State.complete, hlost, hwrite, halive', Bool.and_self, Bool.false_eq_true, if_true, if_false, hu]
  rfl

theorem State.append_kept_complete (hdue : d.comp = true ∨ st ≠ .ok) (hlost : s.isLost (.ring r) opc d = false)
    (halive : s.ringAlive (s.slotOf (.ring r) opc d) = true) :
    Kept ((s.release (.ring r) opc d).append (s.slotOf (.ring r) opc d) (complBytes d.tag opc st r.val lo hi))
      (s.complete (.ring r) opc d st lo hi) := by
  rw [State.complete_of_due hdue hlost halive rfl]
  exact Kept.ite (State.ringEvent_kept _ _ (State.countRing_kept _ _ (Kept.refl _))) (State.countRing_kept _ _ (Kept.refl _))

end

/-- A record appended to a ring is written at its producer index. -/
theorem State.dma_mem_append (s : State) (q : Nat) (recd : List Byte) :
    .dma (s.ringAddr q + s.prodIdx q * s.esize q) recd ∈ (s.append q recd).out := by
  have hkept : Kept (s.emit (.dma (s.ringAddr q + s.prodIdx q * s.esize q) recd)) (s.append q recd) :=
    State.writeback_kept _ _ (State.ringRefresh_kept _ _ (State.setFld_kept _ _ _ _ _ (Kept.refl _)))
  exact hkept.out.mem (List.mem_append_right _ (List.mem_singleton_self _))

/-- A command port with its result, before event 249 (R525, Table 14.5); `State.complete_port` ties it to the model. -/
def State.portResult (s : State) (h : Fin 2) (opc : Nat) (d : Desc) (st : St) (lo hi : Nat) : State :=
  (((((((s.release (.port h) opc d).setRg (cPort h.val + 0x20) d.tag).setRg (cPort h.val + 0x24)
    (ofNat (opc + st.code * 0x100 + 3 * 0x10000))).setRg (cPort h.val + 0x28) (ofNat lo)).setRg (cPort h.val + 0x2C) (ofNat hi)).setFlag
    (cPort h.val + 0x30) 1).clrFlag (cPort h.val + 0x30) 0)

theorem State.portResult_rg (s : State) (h : Fin 2) (opc : Nat) (d : Desc) (st : St) (lo hi : Nat) :
    (s.portResult h opc d st lo hi).rg (cPort h.val + 0x20) = d.tag ∧
    (s.portResult h opc d st lo hi).rg (cPort h.val + 0x24) = ofNat (opc + st.code * 0x100 + 3 * 0x10000) ∧
    (s.portResult h opc d st lo hi).rg (cPort h.val + 0x28) = ofNat lo ∧
    (s.portResult h opc d st lo hi).rg (cPort h.val + 0x2C) = ofNat hi := by
  simp only [State.portResult, State.rg_setRg_self, State.rg_setRg_ne, State.rg_setFlag_ne, State.rg_clrFlag_ne, ne_eq,
    Nat.add_left_cancel_iff, Nat.reduceMul, Nat.reduceEqDiff, not_false_eq_true, and_self]

theorem State.portResult_not_busy (s : State) (h : Fin 2) (opc : Nat) (d : Desc) (st : St) (lo hi : Nat) :
    (s.portResult h opc d st lo hi).flag (cPort h.val + 0x30) 0 = false :=
  State.flag_clrFlag_self _ _ _ (by decide)

theorem State.portResult_done (s : State) (h : Fin 2) (opc : Nat) (d : Desc) (st : St) (lo hi : Nat) :
    (s.portResult h opc d st lo hi).flag (cPort h.val + 0x30) 1 = true :=
  (State.flag_clrFlag_other _ _ 0 1 (by decide) (by decide)).trans (State.flag_setFlag_self _ _ _ (by decide))

/-- A register of a command port at its own offset. -/
theorem cPort_reg (h k : Nat) : CPU_B + (0x100 + k) + h * 0x40 = cPort h + k := by
  simp only [cPort, CPU_B]
  omega

theorem State.complete_port (s : State) (h : Fin 2) (opc : Nat) (d : Desc) (st : St) (lo hi : Nat) :
    s.complete (.port h) opc d st lo hi = (s.portResult h opc d st lo hi).raise 249 (h.val + 2) := rfl

/-- Settles O2: a lost and an unasked completion write nothing, a due one is appended at the producer index and its bytes stay, and a
command port's result stands before its event is raised. -/
theorem completionWrites : Obligations.CompletionWrites := by
  refine ⟨?_, ?_, ?_, ?_⟩
  · intro s r opc d lo hi hcomp hlost
    exact State.complete_of_unasked hcomp hlost
  · intro s r opc d st lo hi hdue hlost halive
    exact (State.append_kept_complete hdue hlost halive).out.mem (State.dma_mem_append _ _ _)
  · intro s r opc d st lo hi hlost
    exact State.complete_of_lost hlost
  · intro s h opc d st lo hi
    obtain ⟨htag, hstatus, hlo, hhi⟩ := s.portResult_rg h opc d st lo hi
    rw [cPort_reg h.val 0x20, cPort_reg h.val 0x24, cPort_reg h.val 0x28, cPort_reg h.val 0x2C, cPort_reg h.val 0x30]
    exact ⟨s.portResult h opc d st lo hi, s.complete_port h opc d st lo hi, htag, hstatus, hlo, hhi,
      s.portResult_not_busy h opc d st lo hi, s.portResult_done h opc d st lo hi⟩

end Sys2Proof.Machine

/-! The end of a migration (R199). PLAN_RELEASE frees the tables, returns STATE to IDLE and completes the PLAN_COMMIT. That the completion
leaves STATE alone takes a completion ring that exists: the number in `Taken.cq` is any `Nat`, and `Obligations.PlanSteps` does not
bound it. -/

namespace Sys2Proof.Machine

open Sys2Proof

/-! ### Where every slot in use is of a real ring, STATE ends IDLE -/

/-- A field beside the one loaded keeps its value. -/
theorem State.fld_setFld_other (s : State) (o hi lo v hi' lo' : Nat) (hle : lo ≤ hi) (hlt : hi < 32) (happart : hi' < lo ∨ hi < lo') :
    (s.setFld o hi lo v).fld o hi' lo' = s.fld o hi' lo' := by
  simp only [State.fld, State.rg_setFld_self, bits, field]
  apply Nat.eq_of_testBit_eq
  intro i
  rw [Nat.testBit_mod_two_pow, Nat.testBit_mod_two_pow, Nat.testBit_shiftRight, Nat.testBit_shiftRight]
  by_cases hin : i < hi' + 1 - lo'
  · have hbit := getLsbD_putBits (s.rg o) hi lo v (lo' + i) hle hlt
    rw [if_neg (by omega), BitVec.getLsbD, BitVec.getLsbD] at hbit
    rw [hbit]
  · simp only [hin, decide_false, Bool.false_and]

/-- A command holds a slot of the ring it was taken with, or of ring 4 or 5. -/
theorem State.slotOf_lt {s : State} (htaken : ∀ x ∈ s.host.taken, x.cq < 64) (src : Src) (opc : Nat) (d : Desc) :
    s.slotOf src opc d < 64 := by
  unfold State.slotOf
  split
  next x hfind => exact htaken x (List.mem_of_find?_eq_some hfind)
  next =>
    unfold State.cqOf
    split <;> decide

theorem State.planIdle_of_noHeld {s : State} (hheld : s.net.held = []) :
    s.planIdle = { (s.setPlanState 0).clrFlag PILOT_STAT 19 with net := { s.net with held := [] } } := by
  have hnone : (s.setPlanState 0).net.held = [] := hheld
  simp only [State.planIdle, State.releaseHeld, hnone, List.filter_nil, List.foldl_nil]
  rfl

theorem State.planState_planIdle {s : State} (hheld : s.net.held = []) : s.planIdle.planState = 0 := by
  rw [State.planIdle_of_noHeld hheld]
  exact (State.fld_setFld_other _ _ _ _ _ _ _ (by decide) (by decide) (by decide)).trans
    (State.fld_setFld_self _ _ _ _ _ (by decide) (by decide))

/-- A mirror plan takes a plan ID and is sent over CHAIN: STATE, the host's data and the rest of PILOT stay. -/
theorem State.startMirror_frame (s : State) :
    s.startMirror.regs = s.regs ∧ s.startMirror.host = s.host ∧
      s.startMirror.pilot = { s.pilot with nextId := s.startMirror.pilot.nextId } := by
  unfold State.startMirror
  split
  · exact ⟨rfl, rfl, rfl⟩
  · exact ⟨rfl, rfl, rfl⟩

theorem State.startIso_of_noRequest {s : State} (hreq : s.pilot.isoReq = []) : s.startIso = s := by
  simp only [State.startIso, hreq, List.isEmpty_nil, Bool.true_or, if_true]

/-- R199 with no join held back: STATE is IDLE; the host's data and PILOT but for the next plan ID stay. -/
theorem State.planIdle_startMirror_frame {r : State} (hheld : r.net.held = []) :
    r.planIdle.startMirror.planState = 0 ∧ r.planIdle.startMirror.host = r.host ∧
      r.planIdle.startMirror.pilot = { r.pilot with nextId := r.planIdle.startMirror.pilot.nextId } := by
  obtain ⟨hregs, hhost, hpilot⟩ := r.planIdle.startMirror_frame
  have hidle := State.planIdle_of_noHeld hheld
  refine ⟨?_, hhost.trans (by rw [hidle]; rfl), hpilot.trans (by rw [hidle]; rfl)⟩
  rw [← State.planState_planIdle hheld]
  exact congrArg (fun t => bits (Tab.get (resetWord PILOT_STAT) t PILOT_STAT) 18 16) hregs

/-- STATE is no register of the host's side. -/
theorem State.planState_apart {r t : State} (h : Apart r t) : t.planState = r.planState :=
  congrArg (bits · 18 16) (h.rg PILOT_STAT (by unfold hostSide; decide))

/-- PILOT after the tables of the old plan are freed (R199). -/
def PilotSt.released (p : PilotSt) : PilotSt := { p with old := none, new := none, commitCmd := none, switched := false }

section
variable {s : State} {src : Src} {d : Desc}
variable (hstate : s.planState = 4) (hswitched : s.pilot.switched = true) (hlater : isFuture s.cycle s.pilot.commitAt = true)
  (hrun : s.pilot.isoRun = []) (hcmd : s.pilot.commitCmd = some (src, d))
include hstate hswitched hlater hrun hcmd

theorem State.planRelease_of_switched :
    s.planRelease = (((({ s with pilot := s.pilot.released }.setRg (PILOT_B + 0x20) 0).planIdle.startMirror).complete
      src 0x21 d .ok).startIso) := by
  have hclear : ({ s.pilot.released with isoRun := [] } : PilotSt) = s.pilot.released := by
    rw [← hrun]
    rfl
  rw [← hclear]
  simp only [State.planRelease, hstate, hswitched, hlater, hrun, hcmd, List.foldl_nil, decide_true, Bool.and_self, if_true,
    PilotSt.released]

/-- The last clause of `Obligations.PlanSteps` with the hypothesis it lacks: every slot in use is of a real ring. -/
theorem State.planRelease_idle (hreq : s.pilot.isoReq = []) (hheld : s.net.held = [])
    (htaken : ∀ x ∈ s.host.taken, x.cq < 64) :
    s.planRelease.planState = 0 ∧ s.planRelease.pilot.old = none ∧ s.planRelease.pilot.new = none ∧
      s.planRelease.pilot.act = s.pilot.act := by
  obtain ⟨hidle, hhost, hpilot⟩ :=
    State.planIdle_startMirror_frame (r := { s with pilot := s.pilot.released }.setRg (PILOT_B + 0x20) 0) hheld
  rw [State.planRelease_of_switched hstate hswitched hlater hrun hcmd]
  generalize ({ s with pilot := s.pilot.released }.setRg (PILOT_B + 0x20) 0).planIdle.startMirror = v at *
  have hapart := State.complete_apart v src 0x21 d .ok 0 0 (State.slotOf_lt (by rw [hhost]; exact htaken) src 0x21 d) (Apart.refl v)
  have hpilot' := hapart.pilot.trans hpilot
  rw [State.startIso_of_noRequest (by rw [hpilot']; exact hreq), hpilot']
  exact ⟨(State.planState_apart hapart).trans hidle, rfl, rfl, rfl⟩

end

/-! ### Where a slot is of no ring, the completion's event can write STATE -/

/-- The number of no ring. As an event source, its word of EVT_PEND would lie at the offset of PILOT_STAT, and its bit is the lowest
of STATE. -/
def strayRing : Nat := 0x17D830

/-- A descriptor with COMP and URGENT. -/
def urgentDesc : Desc :=
  { flags := 5, target := 0, tag := 0, op0 := 0, op1 := 0, op2 := 0, op3 := 0, op4 := 0, op5 := 0 }

/-- One cycle after a switch; the PLAN_COMMIT holds a slot of `strayRing`, whose register offsets read as an enabled ring. -/
def State.strayCommit : State :=
  { ((State.reset.setPlanState 4).setFlag (rCfg strayRing) 0).setFlag (rStat strayRing) 0 with
    cycle := 1
    host := { taken := [{ src := .ring 0, opcode := 0x21, desc := urgentDesc, cq := strayRing }] }
    pilot := { switched := true, commitCmd := some (.ring 0, urgentDesc) } }

/-- PLAN_RELEASE sets STATE to IDLE, then the completion's event sets its lowest bit. -/
theorem State.strayCommit_release : State.strayCommit.planRelease.planState = 1 := rfl

/-- Refutes O22: in its last clause the PLAN_COMMIT may hold a slot of a ring that does not exist, and its completion's event then
leaves STATE at 1, not at IDLE (`State.planRelease_idle` is that clause for slots of real rings). -/
theorem not_planSteps : ¬ Obligations.PlanSteps := by
  unfold Obligations.PlanSteps
  rintro ⟨-, -, -, -, -, -, -, -, -, -, -, hrelease⟩
  obtain ⟨t, hexec, hidle, -⟩ := hrelease State.strayCommit (.ring 0) urgentDesc rfl rfl rfl rfl rfl rfl rfl
  cases (Host.Outcome.next.inj hexec : State.strayCommit.planRelease = t)
  exact absurd (State.strayCommit_release.symm.trans hidle) (by decide)

end Sys2Proof.Machine

/-! The axis commands (R91, R268, R287, R290, R291, R293 to R295): what each does once the shared checks let it through, and the two
values of a parameter. Nothing is pending where no staged write and no AXIS_PARAM_WRITE that still waits names the parameter. -/

namespace Sys2Proof.Machine

open Sys2Proof

/-! ### Waiting for a boundary (R64, R91) -/

section
variable {s : State} {src : Src} {opc : Nat} {d : Desc}

theorem State.atBoundary_of_noCycle (hnow : d.atCycle = false) :
    s.atBoundary src opc d = s.defer { cyc := s.cycle + 1, src := src, opc := opc, desc := d } := by
  simp only [State.atBoundary, State.effCycle, hnow, Bool.false_eq_true, if_false]

theorem State.soon_of_noCycle {data : List Byte} {body : State → State} (hnow : d.atCycle = false) :
    s.soon src opc d data body = body s := by
  simp only [State.soon, hnow, Bool.false_and, Bool.false_eq_true, if_false]

/-- With room in the staging buffer a CYC write enters it, one boundary later where it is late (R64). -/
theorem State.stageCyc_of_room (ag : Agent) (x : Staged) (hroom : s.host.cyc.length < 1024) (hheld : s.host.cycHeld = []) :
    s.stageCyc ag x = { s with host := { s.host with cyc := s.host.cyc ++ [{ x with defer := b2n s.stagedLate }] } } := by
  simp only [State.stageCyc, hroom, hheld, List.isEmpty_nil, decide_true, Bool.and_self, if_true]

end

/-! ### Parameter writes (R290, R293) -/

section
variable {s : State} {src : Src} {d : Desc}

/-- Without a named cycle `State.paramWrite` runs at once; only a parameter of class CYC then waits (R91). -/
theorem State.axisParamWrite_of_accepts (hacc : s.accepts src 0x11 d) : s.axisParamWrite src d = s.paramWrite src d := by
  obtain ⟨hpre, hnow⟩ := hacc
  simp only [State.axisParamWrite, State.cmd_of_precheck_none hpre, hnow, Bool.false_and, Bool.false_eq_true, if_false]

theorem State.paramWrite_of_badAxis (haxis : 256 ≤ d.tgt) : s.paramWrite src d = s.complete src 0x11 d .badTarget := by
  simp only [State.paramWrite, haxis, if_true]
  rfl

theorem State.paramWrite_of_cyc (haxis : d.tgt < 256) (hok : (s.parCheck d.tgt d.op0.toNat d.op1).1 = .ok)
    (hcls : parCls d.op0.toNat = .cyc) : s.paramWrite src d = s.atBoundary src 0x11 d := by
  simp only [State.paramWrite, Nat.not_le.2 haxis, hok, hcls, bne_self_eq_false, Bool.false_eq_true, if_false]

theorem State.paramWrite_of_plan (haxis : d.tgt < 256) (hok : (s.parCheck d.tgt d.op0.toNat d.op1).1 = .ok)
    (hcls : parCls d.op0.toNat = .plan) :
    s.paramWrite src d = (s.stagePlan { off := parOff d.tgt d.op0.toNat, mask := 0xFFFFFFFF, val := d.op1, defer := 0 }).complete
      src 0x11 d .ok := by
  simp only [State.paramWrite, Nat.not_le.2 haxis, hok, hcls, bne_self_eq_false, Bool.false_eq_true, if_false]

/-- A write of AX_PVAL_LO that AXIS_PARAM_WRITE would accept is staged where the parameter's class is CYC (R293). -/
theorem State.pvalWrite_of_cyc (ag : Agent) {a : Nat} {v : Word} (hok : (s.parCheck a (s.fld (axReg a 0xC) 15 0) v).1 = .ok)
    (hcls : parCls (s.fld (axReg a 0xC) 15 0) = .cyc) :
    s.pvalWrite ag a v =
      s.stageCyc ag { off := parOff a (s.fld (axReg a 0xC) 15 0), mask := 0xFFFFFFFF, val := v, defer := 0 } := by
  simp only [State.pvalWrite, hok, hcls, bne_self_eq_false, Bool.false_eq_true, if_false]

end

/-! ### Parameter reads (R291) -/

section
variable {s : State} {src : Src} {d : Desc}

theorem State.axisParamRead_of_accepts (hacc : s.accepts src 0x12 d) : s.axisParamRead src d = s.paramRead src d := by
  obtain ⟨hpre, hnow⟩ := hacc
  rw [State.axisParamRead, State.cmd_of_precheck_none hpre, State.soon_of_noCycle hnow]

theorem State.paramRead_of_badAxis (haxis : 256 ≤ d.tgt) : s.paramRead src d = s.complete src 0x12 d .badTarget := by
  simp only [State.paramRead, haxis, if_true]

theorem State.paramRead_of_badOperand (haxis : d.tgt < 256)
    (hop : (parRow d.op0.toNat).isSome = false ∨ 2 ≤ d.op1.toNat) : s.paramRead src d = s.complete src 0x12 d .badOperand := by
  have hbad : ((parRow d.op0.toNat).isNone || decide (2 ≤ d.op1.toNat)) = true := by
    rcases hop with hid | hview
    · rw [← Option.not_isSome, hid, Bool.not_false, Bool.true_or]
    · rw [decide_eq_true hview, Bool.or_true]
  simp only [State.paramRead, Nat.not_le.2 haxis, hbad, if_true, if_false]

/-- OP1 chooses the view: 0 the active value, 1 the pending value. -/
theorem State.paramRead_of_known (haxis : d.tgt < 256) (hid : (parRow d.op0.toNat).isSome = true) (hview : d.op1.toNat < 2) :
    s.paramRead src d = s.complete src 0x12 d .ok
      (if d.op1 = 1 then s.parPending d.tgt d.op0.toNat else s.parNow d.tgt d.op0.toNat).toNat := by
  have hknown : (parRow d.op0.toNat).isNone = false := by rw [← Option.not_isSome, hid, Bool.not_true]
  simp only [State.paramRead, Nat.not_le.2 haxis, Nat.not_le.2 hview, hknown, decide_false, Bool.or_self, Bool.false_eq_true,
    if_false]

end

/-- Staged writes of other registers leave a register's value. -/
theorem applyStaged_of_apart {l : List Staged} {off : Nat} (happart : ∀ x ∈ l, x.off ≠ off) (w : Word) :
    applyStaged l off w = w := by
  induction l generalizing w with
  | nil => rfl
  | cons x l ih =>
    have hhead : applyStaged (x :: l) off w = applyStaged l off w :=
      congrArg (applyStaged l off) (if_neg (happart x List.mem_cons_self))
    rw [hhead, ih fun y hy => happart y (List.mem_cons_of_mem x hy)]

/-- R291: with nothing staged for a parameter and no AXIS_PARAM_WRITE waiting for it, its pending value is the active one. -/
theorem State.parPending_of_nothingPending {s : State} {a id : Nat}
    (hstaged : ∀ x ∈ s.host.planUsed ++ s.host.plan ++ s.host.cyc ++ s.host.cycHeld, x.off ≠ parOff a id)
    (hdue : ∀ x ∈ s.host.due, x.opc = 0x11 → x.desc.tgt = a → x.desc.op0.toNat ≠ id) :
    s.parPending a id = s.parNow a id := by
  have hnone : s.host.due.filter (fun x => x.opc == 0x11 && x.desc.tgt == a && x.desc.op0.toNat == id) = [] := by
    simp only [List.filter_eq_nil_iff, Bool.and_eq_true, beq_iff_eq, not_and, and_imp]
    exact hdue
  rw [State.parPending, hnone, applyStaged_of_apart hstaged]
  rfl

/-! ### The commands that only wait (R268, R275, R287, R294, R295) -/

section
variable {s : State} {src : Src} {d : Desc}

theorem State.axisAdaptLock_of_valid (hacc : s.accepts src 0x13 d) (haxis : d.tgt < 256) (hop : d.op0.toNat < 2) :
    s.axisAdaptLock src d = s.atBoundary src 0x13 d := by
  simp only [State.axisAdaptLock, State.cmd_of_precheck_none hacc.1, Nat.not_le.2 haxis, Nat.not_le.2 hop, if_false]

theorem State.axisLearnReset_of_learning (hacc : s.accepts src 0x14 d) (haxis : d.tgt < 256) (hlearn : s.pn d.tgt 0x26 ≠ 0) :
    s.axisLearnReset src d = s.atBoundary src 0x14 d := by
  simp only [State.axisLearnReset, State.cmd_of_precheck_none hacc.1, Nat.not_le.2 haxis, hlearn, decide_false, Bool.or_self,
    Bool.false_eq_true, if_false]

theorem State.axisClearFault_of_valid (hacc : s.accepts src 0x16 d) (haxis : d.tgt < 256) :
    s.axisClearFault src d = s.atBoundary src 0x16 d := by
  simp only [State.axisClearFault, State.cmd_of_precheck_none hacc.1, Nat.not_le.2 haxis, if_false]

end

/-- Settles O24: past the shared checks, what has a per-cycle effect is appended to the commands that wait, and the rest acts on the
state at hand and completes. -/
theorem axisCommands : Obligations.AxisCommands := by
  refine ⟨?_, ?_, ?_, ?_, ?_, ?_, ?_, ?_, ?_, ?_, ?_, ?_, ?_, ?_, ?_⟩
  · intro s src d hpre
    exact congrArg Host.Outcome.next (State.cmd_of_precheck_none hpre)
  · intro s src d hacc haxis hok hcls
    refine congrArg Host.Outcome.next ?_
    rw [State.axisParamWrite_of_accepts hacc, State.paramWrite_of_cyc haxis hok hcls, State.atBoundary_of_noCycle hacc.2]
    rfl
  · intro s src d hacc haxis hok hcls
    refine congrArg Host.Outcome.next ?_
    rw [State.axisParamWrite_of_accepts hacc, State.paramWrite_of_plan haxis hok hcls]
    rfl
  · intro s src d hacc haxis
    refine congrArg Host.Outcome.next ?_
    rw [State.axisParamWrite_of_accepts hacc, State.paramWrite_of_badAxis haxis]
  · intro s src d hacc haxis hid hview
    refine congrArg Host.Outcome.next ?_
    rw [State.axisParamRead_of_accepts hacc, State.paramRead_of_known haxis hid (by rw [hview]; decide), hview, if_neg (by decide)]
  · intro s src d hacc haxis hid hview
    refine congrArg Host.Outcome.next ?_
    rw [State.axisParamRead_of_accepts hacc, State.paramRead_of_known haxis hid (by rw [hview]; decide), hview, if_pos rfl]
  · intro s src d hacc haxis hop
    exact congrArg Host.Outcome.next ((State.axisAdaptLock_of_valid hacc haxis hop).trans (State.atBoundary_of_noCycle hacc.2))
  · intro s src d hacc haxis hlearn
    exact congrArg Host.Outcome.next ((State.axisLearnReset_of_learning hacc haxis hlearn).trans (State.atBoundary_of_noCycle hacc.2))
  · intro s src d hpre
    exact congrArg Host.Outcome.next (State.cmd_of_precheck_none hpre)
  · intro s src d hacc haxis
    exact congrArg Host.Outcome.next ((State.axisClearFault_of_valid hacc haxis).trans (State.atBoundary_of_noCycle hacc.2))
  · intro s a v
    rfl
  · intro s a v hok hcls hroom hheld
    exact congrArg Host.Outcome.next ((State.pvalWrite_of_cyc .host hok hcls).trans (State.stageCyc_of_room .host _ hroom hheld))
  · intro s src d hacc haxis
    refine congrArg Host.Outcome.next ?_
    rw [State.axisParamRead_of_accepts hacc, State.paramRead_of_badAxis haxis]
  · intro s src d hacc haxis hop
    refine congrArg Host.Outcome.next ?_
    rw [State.axisParamRead_of_accepts hacc, State.paramRead_of_badOperand haxis hop]
  · intro s a pid hstaged hdue
    exact State.parPending_of_nothingPending hstaged hdue

end Sys2Proof.Machine

/-! The safety commands (R440, R441, R443, R471): an image with a field out of range or another digest than the fused one is rejected,
and one that both channels can take is kept in both for their next cycle start. -/

namespace Sys2Proof.Machine

open Sys2Proof

section
variable {s : State} {src : Src} {d : Desc} {img : List Byte}

/-! ### Where the bodies run -/

/-- SAFE_CONFIG_LOAD without a named cycle judges its image at once (R91). -/
theorem exec_safeConfigLoad_of_accepts (hacc : s.accepts src 0x80 d) :
    exec (.safeConfigLoad src d (some img)) s = .next (s.safeLoad src d img) :=
  congrArg Host.Outcome.next ((State.cmd_of_precheck_none hacc.1).trans (State.soon_of_noCycle hacc.2))

theorem exec_safeConfigLoad_of_dmaFail (hacc : s.accepts src 0x80 d) :
    exec (.safeConfigLoad src d none) s = .next (s.complete src 0x80 d .dmaFail) :=
  congrArg Host.Outcome.next (State.cmd_of_precheck_none hacc.1)

theorem exec_safeStatus_of_accepts (hacc : s.accepts src 0x81 d) :
    exec (.safeStatus src d) s = .next (s.safeStatus src d) :=
  congrArg Host.Outcome.next ((State.cmd_of_precheck_none hacc.1).trans (State.soon_of_noCycle hacc.2))

/-! ### What the channels answer an image (R440, R441, R443) -/

/-- A channel in NOCFG takes an image whatever its outputs and groups. -/
theorem State.imageReady_of_nocfg {st : Bool} (hnocfg : s.safeState st = 2) : s.imageReady st = true := by
  simp only [State.imageReady, hnocfg, beq_self_eq_true, Bool.true_or]

theorem State.safeLoad_of_badImage (hic : s.isIC = true) (hbad : imageOk s.mgrId (slice img 0 512) = false) :
    s.safeLoad src d img = (s.raise 172 0).complete src 0x80 d .badOperand := by
  simp only [State.safeLoad, hic, hbad, Bool.not_true, Bool.not_false, Bool.or_true, Bool.false_eq_true, if_true, if_false]

variable (hic : s.isIC = true) (hlen : d.op2.toNat = 512) (himg : imageOk s.mgrId (slice img 0 512) = true)
include hic hlen himg

/-- Past the image's own checks, the KEEL digest group is asked next. -/
theorem State.safeLoad_of_badDigest (hdigest : s.digestOk (sha256 (slice img 0 512)) = false) :
    s.safeLoad src d img = (s.raise 172 0).complete src 0x80 d .authFail := by
  simp only [State.safeLoad, hic, hlen, himg, hdigest, ne_eq, not_true_eq_false, decide_false, Bool.not_true, Bool.not_false,
    Bool.or_self, Bool.false_eq_true, if_true, if_false]

/-- Past every check, both channels keep an image that both can take, and the command waits for their digests (R441). -/
theorem State.safeLoad_of_ready (hdigest : s.digestOk (sha256 (slice img 0 512)) = true)
    (hport : s.imageReady false = true) (hstbd : s.imageReady true = true) :
    s.safeLoad src d img = { s with safe := { s.safe with
      p := { s.safe.p with newImg := some (slice img 0 512) }, s := { s.safe.s with newImg := some (slice img 0 512) },
      load := some (src, d, sha256 (slice img 0 512)) } } := by
  simp only [State.safeLoad, hic, hlen, himg, hdigest, hport, hstbd, ne_eq, not_true_eq_false, decide_false, Bool.not_true,
    Bool.or_self, Bool.and_self, Bool.false_eq_true, if_true, if_false, State.setSch]

end

/-- Settles O32: each clause is the first check of `State.safeLoad` that fails, or the image kept where none does; two channels in
NOCFG can both take it. -/
theorem safetyCommands : Obligations.SafetyCommands := by
  refine ⟨?_, ?_, ?_, ?_, ?_⟩
  · intro s src d i hacc hic hlen himg hdigest hport hstbd
    rw [exec_safeConfigLoad_of_accepts hacc, State.safeLoad_of_ready hic (congrArg BitVec.toNat hlen) himg hdigest
      (State.imageReady_of_nocfg hport) (State.imageReady_of_nocfg hstbd)]
  · intro s src d i hacc hic hbad
    rw [exec_safeConfigLoad_of_accepts hacc, State.safeLoad_of_badImage hic hbad]
  · intro s src d i hacc hic hlen himg hdigest
    rw [exec_safeConfigLoad_of_accepts hacc, State.safeLoad_of_badDigest hic (congrArg BitVec.toNat hlen) himg hdigest]
  · intro s src d hacc
    exact exec_safeConfigLoad_of_dmaFail hacc
  · intro s src d hacc
    exact exec_safeStatus_of_accepts hacc

end Sys2Proof.Machine

/-! CHAIN, relay and a cable break (R562, R565, R566, R574, R577 to R579): what a heartbeat and a lane change do, the relay permissions
as bits of HELM_RELAY, and the isolation that a cable break asks for. -/

namespace Sys2Proof.Machine

open Sys2Proof

/-! ### Flags driven by hardware, and events -/

theorem State.flag_putFlag_self (s : State) (o n : Nat) (b : Bool) (hn : n < 32) : (s.putFlag o n b).flag o n = b := by
  cases b
  · exact State.flag_clrFlag_self s o n hn
  · exact State.flag_setFlag_self s o n hn

theorem State.flag_putFlag_other (s : State) (o m n : Nat) (b : Bool) (hm : m < 32) (hne : n ≠ m) :
    (s.putFlag o m b).flag o n = s.flag o n :=
  State.flag_setFld_other _ _ _ _ _ _ (Nat.le_refl _) hm (by omega)

/-- A register of HELM belongs to no block that an event writes. -/
theorem not_hostSide_helm {k : Nat} (hk : k < 0x10000) : ¬ hostSide (HELM_B + k) := by
  unfold hostSide
  simp only [HELM_B]
  omega

theorem State.flag_helm_raise (s : State) {src : Nat} (arg : Nat) {k : Nat} (n : Nat) (hsrc : src < 256) (hk : k < 0x10000) :
    (s.raise src arg).flag (HELM_B + k) n = s.flag (HELM_B + k) n :=
  congrArg (bit · n) (State.rg_raise s src arg _ hsrc (not_hostSide_helm hk))

theorem State.helmState_raise (s : State) {src : Nat} (arg : Nat) (hsrc : src < 256) : (s.raise src arg).helmState = s.helmState :=
  congrArg (bits · 2 0) (State.rg_raise s src arg _ hsrc (not_hostSide_helm (by decide)))

/-! ### Heartbeats (R562, R565, R574) -/

/-- What a unit without the helm takes from a heartbeat of the holder (R565): the partner's states, the cycle and network time. -/
def State.followed (s : State) (sync : Nat) (c : BitVec 32) (nt : Nat) : State :=
  { s with
    helm := { s.helm with hbState := 3, hbSync := sync, hbAlive := true }
    cycle := c
    ntime := nt
    bnd := nt / s.tCyc * s.tCyc }

/-- HELM_STAT is a register: what the unit knows of its partner, and its clock, do not touch it. -/
theorem State.helmState_of_clock (s : State) (h : HelmSt) (c : BitVec 32) (b n : Nat) :
    State.helmState { s with helm := h, cycle := c, bnd := b, ntime := n } = s.helmState := rfl

section
variable {s : State} (hup : s.chainUp = true)
include hup

theorem State.heartbeat_of_passive (hpassive : s.helmState = 0) (hnone : s.helm.handover = none) (sync : Nat) (c : BitVec 32)
    (nt : Nat) : s.heartbeat 3 sync c nt = s.followed sync c nt := by
  simp only [State.heartbeat, hup, State.helmState_of_clock, hpassive, hnone, State.followed, decide_true, Bool.not_true,
    Bool.and_self, Bool.false_eq_true, if_false, if_true]
  rfl

/-- A handover that waited for the partner to hold the helm completes (R574). -/
theorem State.heartbeat_of_handedOver {src : Src} {d : Desc} (hpassive : s.helmState = 0) (hsome : s.helm.handover = some (src, d))
    (sync : Nat) (c : BitVec 32) (nt : Nat) :
    s.heartbeat 3 sync c nt =
      ({ s.followed sync c nt with helm := { (s.followed sync c nt).helm with handover := none } }.raise 234 0).complete src 0x90 d
        .ok := by
  simp only [State.heartbeat, hup, State.helmState_of_clock, hpassive, hsome, decide_true, Bool.not_true, Bool.and_self,
    Bool.false_eq_true, if_false, if_true, Nat.reduceBNe]
  rfl

/-- A unit that is not passive keeps its own time and cycle. -/
theorem State.heartbeat_of_active (hactive : s.helmState ≠ 0) (hnone : s.helm.handover = none) (st sync : Nat) (c : BitVec 32)
    (nt : Nat) :
    s.heartbeat st sync c nt = { s with helm := { s.helm with hbState := st, hbSync := sync, hbAlive := true } } := by
  simp only [State.heartbeat, hup, State.helmState_of_clock, hactive, hnone, Bool.not_true, Bool.false_eq_true, if_false,
    decide_false, Bool.false_and]

end

/-! ### The CHAIN lanes (R566) -/

theorem bits_pair_eq (w : Word) (n : Nat) : bits w (n + 1) n = b2n (bit w n) + 2 * b2n (bit w (n + 1)) := by
  have hb2n (i : Nat) : b2n (bit w i) = w.toNat / 2 ^ i % 2 := by
    simp only [b2n, bit, BitVec.getLsbD, Nat.testBit_eq_decide_div_mod_eq, decide_eq_true_eq]
    split <;> omega
  rw [hb2n, hb2n, bits, field, Nat.shiftRight_eq_div_pow, Nat.pow_succ, ← Nat.div_div_eq_div_mul,
    show n + 1 + 1 - n = 2 by omega]
  omega

/-- HELM_STAT [7:6] are the two lanes. -/
theorem State.lanes_eq (s : State) : s.fld HELM_STAT 7 6 = b2n (s.flag HELM_STAT 6) + 2 * b2n (s.flag HELM_STAT 7) :=
  bits_pair_eq _ 6

/-- CHAIN_DOWN goes with exactly one lane up. -/
theorem State.oneLane_eq (s : State) :
    (decide (s.fld HELM_STAT 7 6 = 1) || decide (s.fld HELM_STAT 7 6 = 2)) = (s.flag HELM_STAT 6 ^^ s.flag HELM_STAT 7) := by
  rw [State.lanes_eq]
  cases s.flag HELM_STAT 6 <;> cases s.flag HELM_STAT 7 <;> rfl

/-- The lane beside one that is down is up where any is. -/
theorem State.otherLane_of_any {s : State} (l : Fin 2) (hlane : s.flag HELM_STAT (6 + l.val) = false)
    (hany : s.fld HELM_STAT 7 6 ≠ 0) : s.flag HELM_STAT (6 + (1 - l.val)) = true := by
  rw [State.lanes_eq] at hany
  rw [← Bool.not_eq_false]
  intro hother
  refine hany ?_
  match l with
  | 0 => rw [show s.flag HELM_STAT 6 = false from hlane, show s.flag HELM_STAT 7 = false from hother]; rfl
  | 1 => rw [show s.flag HELM_STAT 6 = false from hother, show s.flag HELM_STAT 7 = false from hlane]; rfl

theorem State.lane_of_both {s : State} (hboth : s.fld HELM_STAT 7 6 = 3) {l : Nat} (hl : l < 2) : s.flag HELM_STAT (6 + l) = true := by
  rw [State.lanes_eq] at hboth
  have hlanes : s.flag HELM_STAT 6 = true ∧ s.flag HELM_STAT 7 = true := by
    revert hboth
    cases s.flag HELM_STAT 6 <;> cases s.flag HELM_STAT 7 <;> decide
  match l, hl with
  | 0, _ => exact hlanes.1
  | 1, _ => exact hlanes.2

theorem State.chainLane_of_same {s : State} {l : Nat} {up : Bool} (hsame : s.flag HELM_STAT (6 + l) = up) : s.chainLane l up = s := by
  simp only [State.chainLane, hsame, beq_self_eq_true, if_true]

/-- A lane that changes: CHAIN_DOWN is judged on the lanes after the change. -/
theorem State.chainLane_of_change {s : State} {up : Bool} (l : Fin 2) (hchange : s.flag HELM_STAT (6 + l.val) ≠ up) :
    s.chainLane l.val up =
      if (up ^^ s.flag HELM_STAT (6 + (1 - l.val))) = true then
        ((s.putFlag HELM_STAT (6 + l.val) up).raise 227 l.val).setFlag HELM_FLAGS 4
      else (s.putFlag HELM_STAT (6 + l.val) up).raise 227 l.val := by
  have hafter (m : Nat) : ((s.putFlag HELM_STAT (6 + l.val) up).raise 227 l.val).flag HELM_STAT m =
      (s.putFlag HELM_STAT (6 + l.val) up).flag HELM_STAT m := State.flag_helm_raise _ _ m (by decide) (by decide)
  have hlane : (s.putFlag HELM_STAT (6 + l.val) up).flag HELM_STAT (6 + l.val) = up := State.flag_putFlag_self _ _ _ _ (by omega)
  have hother : (s.putFlag HELM_STAT (6 + l.val) up).flag HELM_STAT (6 + (1 - l.val)) = s.flag HELM_STAT (6 + (1 - l.val)) :=
    State.flag_putFlag_other _ _ _ _ _ (by omega) (by omega)
  have hone : ((s.putFlag HELM_STAT (6 + l.val) up).flag HELM_STAT 6 ^^ (s.putFlag HELM_STAT (6 + l.val) up).flag HELM_STAT 7) =
      (up ^^ s.flag HELM_STAT (6 + (1 - l.val))) := by
    match l with
    | 0 => exact congr (congrArg Bool.xor hlane) hother
    | 1 => exact (Bool.xor_comm _ _).trans (congr (congrArg Bool.xor hlane) hother)
  simp only [State.chainLane, beq_eq_false_iff_ne.2 hchange, Bool.false_eq_true, if_false, State.oneLane_eq, hafter, hone]

/-! ### Relay permission (R578, R579) -/

/-- One bit for each branch. -/
abbrev HELM_RELAY : Nat := HELM_B + 0x14

theorem State.setRelay_of_change {s : State} {b : Nat} {on : Bool} (hchange : s.flag HELM_RELAY b ≠ on) :
    s.setRelay b on = (s.putFlag HELM_RELAY b on).raise 230 b := by
  simp only [State.setRelay, beq_eq_false_iff_ne.2 hchange, Bool.false_eq_true, if_false]

theorem State.setRelay_of_same {s : State} {b : Nat} {on : Bool} (hsame : s.flag HELM_RELAY b = on) : s.setRelay b on = s := by
  simp only [State.setRelay, hsame, beq_self_eq_true, if_true]

theorem State.flag_setRelay_self (s : State) {b : Nat} (on : Bool) (hb : b < 32) : (s.setRelay b on).flag HELM_RELAY b = on := by
  by_cases hsame : s.flag HELM_RELAY b = on
  · rw [State.setRelay_of_same hsame, hsame]
  · rw [State.setRelay_of_change hsame, State.flag_helm_raise _ _ _ (by decide) (by decide), State.flag_putFlag_self _ _ _ _ hb]

theorem State.flag_setRelay_other (s : State) {b n : Nat} (on : Bool) (hb : b < 32) (hne : n ≠ b) :
    (s.setRelay b on).flag HELM_RELAY n = s.flag HELM_RELAY n := by
  by_cases hsame : s.flag HELM_RELAY b = on
  · rw [State.setRelay_of_same hsame]
  · rw [State.setRelay_of_change hsame, State.flag_helm_raise _ _ _ (by decide) (by decide),
      State.flag_putFlag_other _ _ _ _ _ hb hne]

theorem State.setRelay_frame (s : State) (b : Nat) (on : Bool) :
    (s.setRelay b on).helm = s.helm ∧ (s.setRelay b on).helmState = s.helmState := by
  by_cases hsame : s.flag HELM_RELAY b = on
  · rw [State.setRelay_of_same hsame]
    exact ⟨rfl, rfl⟩
  · rw [State.setRelay_of_change hsame]
    exact ⟨State.raise_helm _ _ _ (by decide),
      (State.helmState_raise _ _ (by decide)).trans (congrArg (bits · 2 0) (State.rg_setFld_ne _ _ _ _ _ _ (by decide)))⟩

/-- The permissions of the branches listed are cleared, the others stay. -/
theorem State.flag_foldl_setRelay (l : List Nat) (s : State) (n : Nat) (hl : ∀ b ∈ l, b < 32) :
    (l.foldl (fun t b => t.setRelay b false) s).flag HELM_RELAY n = (!decide (n ∈ l) && s.flag HELM_RELAY n) := by
  induction l generalizing s with
  | nil => rfl
  | cons b l ih =>
    have hb : b < 32 := hl b List.mem_cons_self
    rw [List.foldl_cons, ih _ fun x hx => hl x (List.mem_cons_of_mem b hx)]
    by_cases hn : n = b
    · rw [hn, State.flag_setRelay_self s false hb]
      simp only [List.mem_cons, true_or, decide_true, Bool.not_true, Bool.false_and, Bool.and_false]
    · rw [State.flag_setRelay_other s false hb hn]
      simp only [List.mem_cons, hn, false_or]

theorem State.foldl_setRelay_frame (l : List Nat) (s : State) :
    (l.foldl (fun t b => t.setRelay b false) s).helm = s.helm ∧
      (l.foldl (fun t b => t.setRelay b false) s).helmState = s.helmState := by
  induction l generalizing s with
  | nil => exact ⟨rfl, rfl⟩
  | cons b l ih =>
    obtain ⟨hhelm, hstate⟩ := s.setRelay_frame b false
    exact ⟨(ih _).1.trans hhelm, (ih _).2.trans hstate⟩

theorem State.flag_dropRelays (s : State) {b : Nat} (hb : b < 16) : s.dropRelays.flag HELM_RELAY b = false := by
  rw [State.dropRelays, State.flag_foldl_setRelay _ _ _ fun x hx => by have := List.mem_range.1 hx; omega,
    decide_eq_true (List.mem_range.2 hb), Bool.not_true, Bool.false_and]

section
variable {s : State} {src : Src} {d : Desc}

theorem exec_helmRelayGrant_of_accepts (hacc : s.accepts src 0x91 d) :
    exec (.helmRelayGrant src d) s = .next (s.relayGrant src d) :=
  congrArg Host.Outcome.next ((State.cmd_of_precheck_none hacc.1).trans (State.soon_of_noCycle hacc.2))

theorem State.relayGrant_of_badTarget (hbad : 16 ≤ d.tgt ∨ s.topo d.tgt ≠ 3) :
    s.relayGrant src d = s.complete src 0x91 d .badTarget := by
  have hcheck : (decide (16 ≤ d.tgt) || s.topo d.tgt != 3) = true := by
    rw [Bool.or_eq_true, decide_eq_true_eq, bne_iff_ne]
    exact hbad
  simp only [State.relayGrant, hcheck, if_true]

/-- Past target and operand, the partner's synchronisation decides. -/
theorem State.relayGrant_of_valid (hbranch : d.tgt < 16) (htopo : s.topo d.tgt = 3) (hop : d.op0.toNat ≤ 1) :
    s.relayGrant src d =
      if s.helm.hbAlive = true ∧ s.helm.hbSync = 3 then (s.emit (.chain 7 [d.tgt, d.op0.toNat])).complete src 0x91 d .ok
      else s.complete src 0x91 d .busy := by
  by_cases hsynced : s.helm.hbAlive = true ∧ s.helm.hbSync = 3
  · simp only [State.relayGrant, Nat.not_le.2 hbranch, htopo, Nat.not_lt.2 hop, hsynced, bne_self_eq_false, beq_self_eq_true,
      decide_false, Bool.or_self, Bool.and_self, Bool.not_true, Bool.false_eq_true, if_false, and_self, if_true]
  · have hcheck : (s.helm.hbAlive && s.helm.hbSync == 3) = false := by
      rw [← Bool.not_eq_true, Bool.and_eq_true, beq_iff_eq]
      exact hsynced
    simp only [State.relayGrant, Nat.not_le.2 hbranch, htopo, Nat.not_lt.2 hop, hsynced, hcheck, bne_self_eq_false, decide_false,
      Bool.or_self, Bool.not_false, Bool.false_eq_true, if_false, if_true]

end

/-! ### A preparation that starts by itself (R193, R202) -/

theorem State.planState_startPrepare (s : State) (cmd : Option (Src × Desc)) (m : Nat) : (s.startPrepare cmd m).planState = 1 :=
  State.fld_setFld_self _ _ _ _ _ (by decide) (by decide)

/-- PILOT as a preparation starts (R194): the isolations it serves stay. -/
def PilotSt.preparing (p : PilotSt) (cmd : Option (Src × Desc)) : PilotSt :=
  { p with
    loaded := none, new := none, job := none, rej := none, cmd := cmd, snapWait := true, stop := false, stopReq := []
    switched := false, markerSent := false }

theorem State.startPrepare_pilot (s : State) (cmd : Option (Src × Desc)) (m : Nat) :
    (s.startPrepare cmd m).pilot = s.pilot.preparing cmd := by
  unfold State.startPrepare
  by_cases hprepared : s.planState = 3
  · rw [if_pos hprepared]
    rfl
  · rw [if_neg hprepared]
    rfl

section
variable {s : State}

/-- While a COMMIT is announced an isolation waits (R202). -/
theorem State.startIso_of_announced (hannounced : s.planState = 4) : s.startIso = s := by
  simp only [State.startIso, hannounced, decide_true, Bool.or_true, if_true]

/-- From IDLE an isolation's plan is prepared at once, to be committed by itself. -/
theorem State.startIso_of_idle (hidle : s.planState = 0) (hreq : s.pilot.isoReq ≠ []) :
    s.startIso.planState = 1 ∧ s.startIso.pilot =
      { s.pilot with autoCommit := true, isoReq := [], isoRun := s.pilot.isoRun ++ s.pilot.isoReq }.preparing none := by
  have hsome : s.pilot.isoReq.isEmpty = false := List.isEmpty_eq_false_iff.2 hreq
  simp only [State.startIso, hidle, hsome, Nat.reduceEqDiff, decide_false, Bool.or_self, Bool.false_eq_true, if_false]
  exact ⟨State.planState_startPrepare _ _ _, State.startPrepare_pilot _ _ _⟩

end

/-! ### A cable break (R577) -/

/-- The nodes listed are isolated. -/
def State.isolateNodes (s : State) (l : List (Nat × Node)) : State :=
  l.foldl (fun t e => t.updNode e.1 (fun n => { n with state := 4 })) s

theorem State.node_updNode_self (s : State) (a : Nat) (f : Node → Node) : (s.updNode a f).node a = f (s.node a) :=
  Tab.get_set_self _ _ _ _

theorem State.node_updNode_other (s : State) {a b : Nat} (f : Node → Node) (hne : b ≠ a) : (s.updNode a f).node b = s.node b :=
  Tab.get_set_ne _ _ _ _ _ _ hne

theorem State.isolateNodes_eq (s : State) (l : List (Nat × Node)) : s.isolateNodes l = { s with net := (s.isolateNodes l).net } := by
  induction l generalizing s with
  | nil => rfl
  | cons e l ih => exact ih (s.updNode e.1 _)

/-- An isolated node stays isolated, whatever else is. -/
theorem State.node_isolateNodes_of_isolated (s : State) (l : List (Nat × Node)) {a : Nat} (hisolated : (s.node a).state = 4) :
    ((s.isolateNodes l).node a).state = 4 := by
  induction l generalizing s with
  | nil => exact hisolated
  | cons e l ih =>
    refine ih _ ?_
    by_cases ha : a = e.1
    · rw [ha, State.node_updNode_self]
    · rw [State.node_updNode_other s _ ha, hisolated]

theorem State.node_isolateNodes (s : State) (l : List (Nat × Node)) : ∀ e ∈ l, ((s.isolateNodes l).node e.1).state = 4 := by
  induction l generalizing s with
  | nil => exact fun _ he => absurd he List.not_mem_nil
  | cons x l ih =>
    intro e he
    obtain rfl | he := List.mem_cons.1 he
    · exact State.node_isolateNodes_of_isolated _ l (by rw [State.node_updNode_self])
    · exact ih _ e he

/-- What the nodes from a break on ask of the pilot: to be served from the other end of the branch. -/
def breakReq (b pos : Nat) : IsoReq := { addr := b * 256 + (pos - 1), tail := false, boom := false }

/-- The holder's own grant of relay permission (AUTO_RELAY). -/
def State.autoRelay (s : State) (b : Nat) : State := if s.flag HELM_CFG 1 then s.emit (.chain 7 [b, 1]) else s

/-- BREAK is set, relay permission granted, the nodes from the break on are isolated and their plan is asked for; what is left of
`State.cableBreak` is the preparation (`State.cableBreak_of_holder`). -/
def State.broken (s : State) (b pos : Nat) : State :=
  let r := (s.setFlag HELM_FLAGS 5).autoRelay b
  let t := r.isolateNodes ((r.branchNodes b).filter (fun e => pos ≤ e.1 % 256))
  { t with pilot := { t.pilot with isoReq := t.pilot.isoReq ++ [breakReq b pos] } }

theorem State.autoRelay_eq (s : State) (b : Nat) :
    s.autoRelay b = { s with out := s.out ++ (if s.flag HELM_CFG 1 = true then [.chain 7 [b, 1]] else []) } := by
  cases hauto : s.flag HELM_CFG 1 with
  | true => simp only [State.autoRelay, hauto, if_true, State.emit]
  | false => simp only [State.autoRelay, hauto, Bool.false_eq_true, if_false, List.append_nil]

theorem State.branchNodes_autoRelay (s : State) (b : Nat) :
    ((s.setFlag HELM_FLAGS 5).autoRelay b).branchNodes b = s.branchNodes b := by
  rw [State.autoRelay_eq]
  rfl

theorem State.cableBreak_of_holder {s : State} {b : Nat} (hholder : s.holder = true) (htopo : s.topo b = 3) (pos : Nat) :
    s.cableBreak b pos = (s.broken b pos).startIso := by
  rw [State.cableBreak, hholder, htopo]
  rfl

theorem State.cableBreak_of_notLine {s : State} {b : Nat} (htopo : s.topo b ≠ 3) (pos : Nat) : s.cableBreak b pos = s := by
  simp only [State.cableBreak, htopo, decide_false, Bool.and_false, Bool.false_eq_true, if_false]

/-- Besides the node table, a break writes BREAK, the grant message and the request. -/
theorem State.broken_eq (s : State) (b pos : Nat) :
    s.broken b pos = { s.setFlag HELM_FLAGS 5 with
      out := s.out ++ (if s.flag HELM_CFG 1 = true then [.chain 7 [b, 1]] else [])
      net := (s.broken b pos).net
      pilot := { s.pilot with isoReq := s.pilot.isoReq ++ [breakReq b pos] } } := by
  have hcfg : (s.setFlag HELM_FLAGS 5).flag HELM_CFG 1 = s.flag HELM_CFG 1 :=
    congrArg (bit · 1) (State.rg_setFlag_ne _ _ _ _ (by decide))
  have hrelay := State.autoRelay_eq (s.setFlag HELM_FLAGS 5) b
  rw [hcfg] at hrelay
  rw [State.broken, State.isolateNodes_eq (State.autoRelay _ b), hrelay]
  rfl

theorem State.broken_pilot (s : State) (b pos : Nat) :
    (s.broken b pos).pilot = { s.pilot with isoReq := s.pilot.isoReq ++ [breakReq b pos] } := by
  rw [State.broken_eq]

theorem State.broken_out (s : State) (b pos : Nat) :
    (s.broken b pos).out = s.out ++ (if s.flag HELM_CFG 1 = true then [.chain 7 [b, 1]] else []) := by
  rw [State.broken_eq]

theorem State.broken_host (s : State) (b pos : Nat) : (s.broken b pos).host = s.host := by
  rw [State.broken_eq, State.setFlag_host]

theorem State.broken_helm (s : State) (b pos : Nat) : (s.broken b pos).helm = s.helm := by
  rw [State.broken_eq, State.setFlag_helm]

theorem State.flag_broken (s : State) (b pos : Nat) : (s.broken b pos).flag HELM_FLAGS 5 = true := by
  rw [State.broken_eq]
  exact State.flag_setFlag_self s _ _ (by decide)

theorem State.planState_broken (s : State) (b pos : Nat) : (s.broken b pos).planState = s.planState := by
  rw [State.broken_eq]
  exact congrArg (bits · 18 16) (State.rg_setFlag_ne s _ _ _ (by decide))

theorem State.node_broken (s : State) (b pos : Nat) :
    ∀ e ∈ s.branchNodes b, pos ≤ e.1 % 256 → ((s.broken b pos).node e.1).state = 4 := by
  intro e he hpos
  refine State.node_isolateNodes _ _ e (List.mem_filter.2 ⟨?_, decide_eq_true hpos⟩)
  rw [State.branchNodes_autoRelay]
  exact he

theorem State.broken_net_of_noNodes {s : State} {b : Nat} (hnone : s.branchNodes b = []) (pos : Nat) : (s.broken b pos).net = s.net := by
  rw [State.broken, State.branchNodes_autoRelay, hnone, State.autoRelay_eq]
  rfl

/-! ### The obligation -/

/-- Settles O45: each clause is the branch of the arm's own function that its hypotheses choose; HELM_RELAY is cleared bit by bit, and a
cable break is `State.broken` and then the preparation that STATE allows. -/
theorem chainAndRelay : Obligations.ChainAndRelay := by
  refine ⟨?_, ?_, ?_, ?_, ?_, ?_, ?_, ?_, ?_, ?_, ?_, ?_, ?_, ?_, ?_, ?_, ?_, ?_, ?_, ?_⟩
  · intro s hup
    exact congrArg Host.Outcome.next (if_pos hup)
  · intro s hdown
    exact congrArg Host.Outcome.next (if_neg (Bool.eq_false_iff.1 hdown))
  · intro s y c nt hup hpassive hnone
    exact congrArg Host.Outcome.next (State.heartbeat_of_passive hup hpassive hnone _ _ _)
  · intro s st y c nt hup hactive hnone
    exact congrArg Host.Outcome.next (State.heartbeat_of_active hup hactive hnone _ _ _ _)
  · intro s src d y c nt hup hpassive hsome
    exact ⟨_, congrArg Host.Outcome.next (State.heartbeat_of_handedOver hup hpassive hsome _ _ _), rfl, rfl, rfl, rfl, rfl, rfl⟩
  · intro s
    obtain ⟨hhelm, hstate⟩ := State.foldl_setRelay_frame (List.range 16) { s with helm := { s.helm with hbAlive := false } }
    exact ⟨_, rfl, hhelm, fun b hb => State.flag_dropRelays _ hb, hstate⟩
  · intro s l b hsame
    exact congrArg Host.Outcome.next (State.chainLane_of_same hsame)
  · intro s l hlane hboth
    refine ⟨_, congrArg Host.Outcome.next ((State.chainLane_of_change l (by rw [hlane]; decide)).trans ?_), rfl⟩
    rw [State.lane_of_both hboth (by omega), Bool.false_xor, if_pos rfl]
  · intro s l hlane hany
    refine congrArg Host.Outcome.next ((State.chainLane_of_change l (by rw [hlane]; decide)).trans ?_)
    rw [State.otherLane_of_any l hlane hany, Bool.xor_self, if_neg Bool.false_ne_true]
  · intro s b g hhelm hholder hchange
    refine congrArg Host.Outcome.next ((if_pos ?_).trans (State.setRelay_of_change hchange))
    rw [bne_iff_ne.2 hhelm, hholder, beq_self_eq_true, Bool.or_true, Bool.and_self]
  · intro s b hholder
    refine congrArg Host.Outcome.next (if_neg ?_)
    rw [beq_eq_false_iff_ne.2 hholder, Bool.not_true, Bool.or_self, Bool.and_false]
    exact Bool.false_ne_true
  · intro s src d hacc hbranch htopo hop halive hsync
    rw [exec_helmRelayGrant_of_accepts hacc, State.relayGrant_of_valid hbranch htopo hop, if_pos ⟨halive, hsync⟩]
  · intro s src d hacc hbad
    rw [exec_helmRelayGrant_of_accepts hacc, State.relayGrant_of_badTarget hbad]
  · intro s b k l hgranted hholder
    have hrelays : (s.flag (HELM_B + 0x14) b.val && !s.holder) = true := by rw [hgranted, hholder]; rfl
    exact ⟨congrArg Host.Outcome.next (if_pos hrelays), congrArg Host.Outcome.next (if_pos hrelays)⟩
  · intro s b v k l hrevoked
    refine congrArg Host.Outcome.next (if_neg ?_)
    rw [hrevoked, Bool.false_and]
    exact Bool.false_ne_true
  · intro s b p hholder htopo
    exact ⟨s.broken b.val p.val, congrArg Host.Outcome.next (State.cableBreak_of_holder hholder htopo _), s.flag_broken _ _,
      s.broken_pilot _ _, s.node_broken _ _, s.broken_out _ _, fun hnone => State.broken_net_of_noNodes hnone _,
      s.broken_host _ _, s.broken_helm _ _⟩
  · intro s b p hholder htopo hidle
    have hasked : (s.broken b.val p.val).pilot.isoReq ≠ [] := by
      rw [State.broken_pilot]
      exact List.append_ne_nil_of_right_ne_nil _ (List.cons_ne_nil _ _)
    obtain ⟨hstate, hpilot⟩ := State.startIso_of_idle ((s.planState_broken b.val p.val).trans hidle) hasked
    rw [State.broken_pilot] at hpilot
    exact ⟨_, congrArg Host.Outcome.next (State.cableBreak_of_holder hholder htopo _), hstate, congrArg PilotSt.isoReq hpilot,
      congrArg PilotSt.snapWait hpilot, congrArg PilotSt.autoCommit hpilot, congrArg PilotSt.isoRun hpilot⟩
  · intro s b p hholder htopo hannounced
    have hstate := (s.planState_broken b.val p.val).trans hannounced
    exact ⟨_, congrArg Host.Outcome.next ((State.cableBreak_of_holder hholder htopo _).trans (State.startIso_of_announced hstate)),
      hstate, congrArg PilotSt.isoReq (State.broken_pilot _ _ _)⟩
  · intro s b p htopo
    exact congrArg Host.Outcome.next (State.cableBreak_of_notLine htopo _)
  · intro s src d hacc hbranch htopo hop hbusy
    have hnot : ¬ (s.helm.hbAlive = true ∧ s.helm.hbSync = 3) := by
      rintro ⟨halive, hsync⟩
      exact hbusy.elim (fun hdead => by rw [hdead] at halive; cases halive) (fun hne => hne hsync)
    rw [exec_helmRelayGrant_of_accepts hacc, State.relayGrant_of_valid hbranch htopo hop, if_neg hnot]

end Sys2Proof.Machine

/-! One step of the machine: every command answers a next state that keeps what `Kept` says, so each step keeps the invariant. -/

namespace Sys2Proof.Machine

open Sys2Proof

/-- Every command answers a next state, with the queue left alone, the register table canonical, outputs and free values only added. -/
theorem exec_kept (c : Instr) (s : State) : ∃ t, exec c s = .next t ∧ Kept s t := by
  cases c with
  | nop => exact execNop_kept s _ _ s (Kept.refl s)
  | regWrite => exact execRegWrite_kept s _ _ s (Kept.refl s)
  | regRead => exact execRegRead_kept s _ _ s (Kept.refl s)
  | waitCycle => exact execWaitCycle_kept s _ _ s (Kept.refl s)
  | registerWrite => exact execRegisterWrite_kept s _ _ _ _ _ s (Kept.refl s)
  | aliasSetWrite => exact execAliasSetWrite_kept s _ _ _ _ s (Kept.refl s)
  | aliasClrWrite => exact execAliasClrWrite_kept s _ _ _ _ s (Kept.refl s)
  | aliasMaskWrite => exact execAliasMaskWrite_kept s _ _ _ _ s (Kept.refl s)
  | lowWordRead => exact execLowWordRead_kept s _ _ _ s (Kept.refl s)
  | rcFieldRead => exact execRcFieldRead_kept s _ _ s (Kept.refl s)
  | doorbellWrite => exact execDoorbellWrite_kept s _ _ s (Kept.refl s)
  | ringReset => exact execRingReset_kept s _ s (Kept.refl s)
  | ringDisable => exact execRingDisable_kept s _ s (Kept.refl s)
  | ringResizeRequest => exact execRingResizeRequest_kept s _ _ s (Kept.refl s)
  | cmdPauseWrite => exact execCmdPauseWrite_kept s _ s (Kept.refl s)
  | msixVectorUnmask => exact execMsixVectorUnmask_kept s _ _ _ s (Kept.refl s)
  | ringIrqUnmask => exact execRingIrqUnmask_kept s _ s (Kept.refl s)
  | reportRingWrite => exact execReportRingWrite_kept s _ s (Kept.refl s)
  | ringIrqHoldExpiry => exact execRingIrqHoldExpiry_kept s _ s (Kept.refl s)
  | completionRingStall => exact execCompletionRingStall_kept s _ s (Kept.refl s)
  | ringDmaError => exact execRingDmaError_kept s _ s (Kept.refl s)
  | descriptorTake => exact execDescriptorTake_kept s _ s (Kept.refl s)
  | cycleBoundary => exact execCycleBoundary_kept s _ s (Kept.refl s)
  | manifestWordStore => exact execManifestWordStore_kept s _ s (Kept.refl s)
  | laneSlistWrite => exact execLaneSlistWrite_kept s _ _ _ s (Kept.refl s)
  | laneEntryWrite => exact execLaneEntryWrite_kept s _ _ _ s (Kept.refl s)
  | listCheckDone => exact execListCheckDone_kept s _ s (Kept.refl s)
  | portCfgWrite => exact execPortCfgWrite_kept s _ _ s (Kept.refl s)
  | netBoom => exact execNetBoom_kept s _ _ s (Kept.refl s)
  | netNodeQuery => exact execNetNodeQuery_kept s _ _ s (Kept.refl s)
  | netNodeReset => exact execNetNodeReset_kept s _ _ s (Kept.refl s)
  | netWorkerParam => exact execNetWorkerParam_kept s _ _ _ s (Kept.refl s)
  | netWorkerFw => exact execNetWorkerFw_kept s _ _ _ s (Kept.refl s)
  | netPortTest => exact execNetPortTest_kept s _ _ s (Kept.refl s)
  | timeSet => exact execTimeSet_kept s _ _ s (Kept.refl s)
  | tunnelTx => exact execTunnelTx_kept s _ _ _ s (Kept.refl s)
  | berthUp => exact execBerthUp_kept s _ _ s (Kept.refl s)
  | guardianOverrun => exact execGuardianOverrun_kept s _ _ s (Kept.refl s)
  | sailRingReturn => exact execSailRingReturn_kept s _ _ s (Kept.refl s)
  | helmSailConflict => exact execHelmSailConflict_kept s _ _ s (Kept.refl s)
  | autoJoinBoomOpen => exact execAutoJoinBoomOpen_kept s _ s (Kept.refl s)
  | nodeAbsent => exact execNodeAbsent_kept s _ s (Kept.refl s)
  | downlinkBerthSend => exact execDownlinkBerthSend_kept s _ _ s (Kept.refl s)
  | dynSegmentDownlink => exact execDynSegmentDownlink_kept s _ s (Kept.refl s)
  | joinReq => exact execJoinReq_kept s _ _ s (Kept.refl s)
  | dataAck => exact execDataAck_kept s _ _ s (Kept.refl s)
  | echoRsp => exact execEchoRsp_kept s _ _ s (Kept.refl s)
  | cartRsp => exact execCartRsp_kept s _ _ s (Kept.refl s)
  | nodeInfo => exact execNodeInfo_kept s _ _ s (Kept.refl s)
  | tunnelUpFragment => exact execTunnelUpFragment_kept s _ _ s (Kept.refl s)
  | tunnelReassemblyTimeout => exact execTunnelReassemblyTimeout_kept s _ s (Kept.refl s)
  | transferBlockResend => exact execTransferBlockResend_kept s _ s (Kept.refl s)
  | echoSchedule => exact execEchoSchedule_kept s _ s (Kept.refl s)
  | netBoomTimeout => exact execNetBoomTimeout_kept s _ s (Kept.refl s)
  | nodeResetTimeout => exact execNodeResetTimeout_kept s _ s (Kept.refl s)
  | nodeQueryTimeout => exact execNodeQueryTimeout_kept s _ s (Kept.refl s)
  | uplinkFrameRejected => exact execUplinkFrameRejected_kept s _ _ s (Kept.refl s)
  | portSyncChange => exact execPortSyncChange_kept s _ _ _ s (Kept.refl s)
  | grantMiss => exact execGrantMiss_kept s _ s (Kept.refl s)
  | ppsInEdge => exact execPpsInEdge_kept s _ s (Kept.refl s)
  | ppsOutPulse => exact execPpsOutPulse_kept s _ s (Kept.refl s)
  | planPrepare => exact execPlanPrepare_kept s _ _ s (Kept.refl s)
  | planCommit => exact execPlanCommit_kept s _ _ s (Kept.refl s)
  | planAbort => exact execPlanAbort_kept s _ _ s (Kept.refl s)
  | planReport => exact execPlanReport_kept s _ _ s (Kept.refl s)
  | planLoadReceive => exact execPlanLoadReceive_kept s _ s (Kept.refl s)
  | passStart => exact execPassStart_kept s _ _ _ _ s (Kept.refl s)
  | passStartMissing => exact execPassStartMissing_kept s _ _ _ _ s (Kept.refl s)
  | passEnd => exact execPassEnd_kept s _ s (Kept.refl s)
  | laneNop => exact execLaneNop_kept s _ _ s (Kept.refl s)
  | laneEnd => exact execLaneEnd_kept s _ _ s (Kept.refl s)
  | laneRep => exact execLaneRep_kept s _ _ s (Kept.refl s)
  | laneLdk => exact execLaneLdk_kept s _ _ s (Kept.refl s)
  | laneAgp => exact execLaneAgp_kept s _ _ s (Kept.refl s)
  | laneAgm => exact execLaneAgm_kept s _ _ s (Kept.refl s)
  | laneAgl => exact execLaneAgl_kept s _ _ s (Kept.refl s)
  | laneAgr => exact execLaneAgr_kept s _ _ s (Kept.refl s)
  | laneAdd => exact execLaneAdd_kept s _ _ s (Kept.refl s)
  | laneAddc => exact execLaneAddc_kept s _ _ s (Kept.refl s)
  | laneSub => exact execLaneSub_kept s _ _ s (Kept.refl s)
  | laneSubc => exact execLaneSubc_kept s _ _ s (Kept.refl s)
  | laneAdds => exact execLaneAdds_kept s _ _ s (Kept.refl s)
  | laneSubs => exact execLaneSubs_kept s _ _ s (Kept.refl s)
  | laneNegs => exact execLaneNegs_kept s _ _ s (Kept.refl s)
  | laneAbss => exact execLaneAbss_kept s _ _ s (Kept.refl s)
  | laneMin => exact execLaneMin_kept s _ _ s (Kept.refl s)
  | laneMax => exact execLaneMax_kept s _ _ s (Kept.refl s)
  | laneClamp => exact execLaneClamp_kept s _ _ s (Kept.refl s)
  | laneClamp2 => exact execLaneClamp2_kept s _ _ s (Kept.refl s)
  | laneSel => exact execLaneSel_kept s _ _ s (Kept.refl s)
  | laneBlend => exact execLaneBlend_kept s _ _ s (Kept.refl s)
  | laneAsl => exact execLaneAsl_kept s _ _ s (Kept.refl s)
  | laneAsr => exact execLaneAsr_kept s _ _ s (Kept.refl s)
  | laneLsr => exact execLaneLsr_kept s _ _ s (Kept.refl s)
  | laneAnd => exact execLaneAnd_kept s _ _ s (Kept.refl s)
  | laneOr => exact execLaneOr_kept s _ _ s (Kept.refl s)
  | laneXor => exact execLaneXor_kept s _ _ s (Kept.refl s)
  | laneFlagc => exact execLaneFlagc_kept s _ _ s (Kept.refl s)
  | laneLdix => exact execLaneLdix_kept s _ _ s (Kept.refl s)
  | laneMpy => exact execLaneMpy_kept s _ _ s (Kept.refl s)
  | laneMac => exact execLaneMac_kept s _ _ s (Kept.refl s)
  | laneMsu => exact execLaneMsu_kept s _ _ s (Kept.refl s)
  | laneDmpy => exact execLaneDmpy_kept s _ _ s (Kept.refl s)
  | laneDmac => exact execLaneDmac_kept s _ _ s (Kept.refl s)
  | laneFtap => exact execLaneFtap_kept s _ _ s (Kept.refl s)
  | laneLda => exact execLaneLda_kept s _ _ s (Kept.refl s)
  | laneSta => exact execLaneSta_kept s _ _ s (Kept.refl s)
  | laneAclr => exact execLaneAclr_kept s _ _ s (Kept.refl s)
  | laneAadd => exact execLaneAadd_kept s _ _ s (Kept.refl s)
  | laneLrd => exact execLaneLrd_kept s _ _ s (Kept.refl s)
  | laneLwr => exact execLaneLwr_kept s _ _ s (Kept.refl s)
  | laneLife => exact execLaneLife_kept s _ _ s (Kept.refl s)
  | axisSetMode => exact execAxisSetMode_kept s _ _ s (Kept.refl s)
  | axisParamWrite => exact execAxisParamWrite_kept s _ _ s (Kept.refl s)
  | axisParamRead => exact execAxisParamRead_kept s _ _ s (Kept.refl s)
  | axisAdaptLock => exact execAxisAdaptLock_kept s _ _ s (Kept.refl s)
  | axisLearnReset => exact execAxisLearnReset_kept s _ _ s (Kept.refl s)
  | axisInject => exact execAxisInject_kept s _ _ s (Kept.refl s)
  | axisClearFault => exact execAxisClearFault_kept s _ _ s (Kept.refl s)
  | idBlock => exact execIdBlock_kept s _ s (Kept.refl s)
  | freezeDetect => exact execFreezeDetect_kept s _ s (Kept.refl s)
  | feedbackRecovery => exact execFeedbackRecovery_kept s _ s (Kept.refl s)
  | feedbackPersistLatch => exact execFeedbackPersistLatch_kept s _ s (Kept.refl s)
  | catchTmoExpiry => exact execCatchTmoExpiry_kept s _ s (Kept.refl s)
  | obsRelockExpiry => exact execObsRelockExpiry_kept s _ s (Kept.refl s)
  | tqRampComplete => exact execTqRampComplete_kept s _ s (Kept.refl s)
  | ledgerCompute => exact execLedgerCompute_kept s _ s (Kept.refl s)
  | axPvalLoWrite => exact execAxPvalLoWrite_kept s _ _ s (Kept.refl s)
  | axPvalHiWrite => exact execAxPvalHiWrite_kept s _ _ s (Kept.refl s)
  | fltTrip => exact execFltTrip_kept s _ s (Kept.refl s)
  | localFltLatchClear => exact execLocalFltLatchClear_kept s _ _ s (Kept.refl s)
  | adcTrigger => exact execAdcTrigger_kept s _ _ _ s (Kept.refl s)
  | adcConversionDone => exact execAdcConversionDone_kept s _ _ _ _ s (Kept.refl s)
  | adcScanConversion => exact execAdcScanConversion_kept s _ _ s (Kept.refl s)
  | ssiBurst => exact execSsiBurst_kept s _ _ s (Kept.refl s)
  | pwmUpdatePoint => exact execPwmUpdatePoint_kept s _ _ s (Kept.refl s)
  | stepPulse => exact execStepPulse_kept s _ _ s (Kept.refl s)
  | emuEdge => exact execEmuEdge_kept s _ _ s (Kept.refl s)
  | refInputLoss => exact execRefInputLoss_kept s _ s (Kept.refl s)
  | refLostClear => exact execRefLostClear_kept s _ s (Kept.refl s)
  | localFeedbackEdge => exact execLocalFeedbackEdge_kept s _ _ _ s (Kept.refl s)
  | probePulseEnd => exact execProbePulseEnd_kept s _ _ _ _ s (Kept.refl s)
  | moveSeg => exact execMoveSeg_kept s _ _ s (Kept.refl s)
  | moveStartGroup => exact execMoveStartGroup_kept s _ _ s (Kept.refl s)
  | moveStop => exact execMoveStop_kept s _ _ s (Kept.refl s)
  | moveResume => exact execMoveResume_kept s _ _ s (Kept.refl s)
  | homeStart => exact execHomeStart_kept s _ _ s (Kept.refl s)
  | groupSet => exact execGroupSet_kept s _ _ s (Kept.refl s)
  | groupStart => exact execGroupStart_kept s _ s (Kept.refl s)
  | limitRawEdge => exact execLimitRawEdge_kept s _ _ _ _ s (Kept.refl s)
  | limitDebounce => exact execLimitDebounce_kept s _ _ s (Kept.refl s)
  | homeStallDetect => exact execHomeStallDetect_kept s _ s (Kept.refl s)
  | cartAuth => exact execCartAuth_kept s _ _ s (Kept.refl s)
  | cartRead => exact execCartRead_kept s _ _ s (Kept.refl s)
  | cartWrite => exact execCartWrite_kept s _ _ _ s (Kept.refl s)
  | cartPolicy => exact execCartPolicy_kept s _ _ _ s (Kept.refl s)
  | cartFlush => exact execCartFlush_kept s _ _ s (Kept.refl s)
  | tagResponse => exact execTagResponse_kept s _ _ s (Kept.refl s)
  | tagTimeout => exact execTagTimeout_kept s _ s (Kept.refl s)
  | tagPresenceChange => exact execTagPresenceChange_kept s _ _ s (Kept.refl s)
  | removalWarning => exact execRemovalWarning_kept s _ s (Kept.refl s)
  | writebackScheduled => exact execWritebackScheduled_kept s _ s (Kept.refl s)
  | safeConfigLoad => exact execSafeConfigLoad_kept s _ _ _ s (Kept.refl s)
  | safeStatus => exact execSafeStatus_kept s _ _ s (Kept.refl s)
  | safetyCycleStart => exact execSafetyCycleStart_kept s _ _ _ s (Kept.refl s)
  | safetyInputFilterChange => exact execSafetyInputFilterChange_kept s _ _ _ s (Kept.refl s)
  | testPulse => exact execTestPulse_kept s _ _ _ s (Kept.refl s)
  | discrepancyTimeout => exact execDiscrepancyTimeout_kept s _ _ s (Kept.refl s)
  | ackAccept => exact execAckAccept_kept s _ s (Kept.refl s)
  | ackStuck => exact execAckStuck_kept s _ s (Kept.refl s)
  | ackSplit => exact execAckSplit_kept s _ s (Kept.refl s)
  | ss1DelayExpiry => exact execSs1DelayExpiry_kept s _ _ s (Kept.refl s)
  | readbackTimeout => exact execReadbackTimeout_kept s _ _ s (Kept.refl s)
  | darkTest => exact execDarkTest_kept s _ _ _ s (Kept.refl s)
  | safetySelftestDone => exact execSafetySelftestDone_kept s _ _ s (Kept.refl s)
  | stoReportCheck => exact execStoReportCheck_kept s _ s (Kept.refl s)
  | safetyInternalFault => exact execSafetyInternalFault_kept s _ _ s (Kept.refl s)
  | logConfig => exact execLogConfig_kept s _ _ _ s (Kept.refl s)
  | logStart => exact execLogStart_kept s _ _ s (Kept.refl s)
  | logStop => exact execLogStop_kept s _ _ s (Kept.refl s)
  | logMaskLoad => exact execLogMaskLoad_kept s _ _ _ s (Kept.refl s)
  | logTrigger => exact execLogTrigger_kept s _ _ s (Kept.refl s)
  | soundFire => exact execSoundFire_kept s _ _ s (Kept.refl s)
  | snapDump => exact execSnapDump_kept s _ _ s (Kept.refl s)
  | logSample => exact execLogSample_kept s _ s (Kept.refl s)
  | logRearm => exact execLogRearm_kept s _ s (Kept.refl s)
  | logResizeGap => exact execLogResizeGap_kept s _ s (Kept.refl s)
  | soundingLatch => exact execSoundingLatch_kept s _ s (Kept.refl s)
  | xdspPreempt => exact execXdspPreempt_kept s _ s (Kept.refl s)
  | xdspYield => exact execXdspYield_kept s _ s (Kept.refl s)
  | xdspWait => exact execXdspWait_kept s _ s (Kept.refl s)
  | xdspStop => exact execXdspStop_kept s _ s (Kept.refl s)
  | xdspDispatch => exact execXdspDispatch_kept s _ s (Kept.refl s)
  | xevtclaim => exact execXevtclaim_kept s _ s (Kept.refl s)
  | xwdt => exact execXwdt_kept s _ s (Kept.refl s)
  | xntimel => exact execXntimel_kept s _ s (Kept.refl s)
  | tokenMatch => exact execTokenMatch_kept s _ s (Kept.refl s)
  | dspStart => exact execDspStart_kept s _ s (Kept.refl s)
  | dspStop => exact execDspStop_kept s _ s (Kept.refl s)
  | semaphorePost => exact execSemaphorePost_kept s _ _ _ s (Kept.refl s)
  | mailboxAppend => exact execMailboxAppend_kept s _ _ _ s (Kept.refl s)
  | threadBlockWrite => exact execThreadBlockWrite_kept s _ _ _ _ s (Kept.refl s)
  | commandPortSubmit => exact execCommandPortSubmit_kept s _ _ s (Kept.refl s)
  | cpuHrstWrite => exact execCpuHrstWrite_kept s _ s (Kept.refl s)
  | customerHartWatchdog => exact execCustomerHartWatchdog_kept s _ s (Kept.refl s)
  | canTx => exact execCanTx_kept s _ _ _ s (Kept.refl s)
  | canRecover => exact execCanRecover_kept s _ _ s (Kept.refl s)
  | canSleep => exact execCanSleep_kept s _ _ s (Kept.refl s)
  | helmHandover => exact execHelmHandover_kept s _ _ s (Kept.refl s)
  | helmRelayGrant => exact execHelmRelayGrant_kept s _ _ s (Kept.refl s)
  | testLane => exact execTestLane_kept s _ _ s (Kept.refl s)
  | testHart => exact execTestHart_kept s _ _ s (Kept.refl s)
  | testMemory => exact execTestMemory_kept s _ _ s (Kept.refl s)
  | pdSwitch => exact execPdSwitch_kept s _ _ s (Kept.refl s)
  | keelProgram => exact execKeelProgram_kept s _ _ s (Kept.refl s)
  | fwStage => exact execFwStage_kept s _ _ _ s (Kept.refl s)
  | partnerHelmChange => exact execPartnerHelmChange_kept s _ s (Kept.refl s)
  | selfDiagnosisFail => exact execSelfDiagnosisFail_kept s _ s (Kept.refl s)
  | heartbeatReceive => exact execHeartbeatReceive_kept s _ _ _ _ s (Kept.refl s)
  | chainLaneChange => exact execChainLaneChange_kept s _ _ s (Kept.refl s)
  | relayGrantMessage => exact execRelayGrantMessage_kept s _ _ s (Kept.refl s)
  | relayFrame => exact execRelayFrame_kept s _ _ _ _ s (Kept.refl s)
  | cableBreak => exact execCableBreak_kept s _ _ s (Kept.refl s)
  | resyncCheck => exact execResyncCheck_kept s _ _ _ _ _ s (Kept.refl s)
  | resyncBulkDone => exact execResyncBulkDone_kept s _ _ _ _ _ _ s (Kept.refl s)
  | inServiceTestDone => exact execInServiceTestDone_kept s _ _ _ s (Kept.refl s)
  | porRelease => exact execPorRelease_kept s _ _ s (Kept.refl s)
  | pcieLinkUp => exact execPcieLinkUp_kept s _ _ s (Kept.refl s)
  | supervisorWatchdogReset hart => exact execSupervisorWatchdogReset_kept s hart s (Kept.refl s)
  | chipReset => exact execChipReset_kept s _ s (Kept.refl s)
  | perDomainReset => exact execPerDomainReset_kept s _ s (Kept.refl s)
  | pdSwitchDone => exact execPdSwitchDone_kept s _ s (Kept.refl s)
  | pllRelock => exact execPllRelock_kept s _ s (Kept.refl s)
  | clockMonitorFault => exact execClockMonitorFault_kept s _ s (Kept.refl s)
  | supplyMonitorTrip => exact execSupplyMonitorTrip_kept s _ s (Kept.refl s)
  | supplyRailReturn => exact execSupplyRailReturn_kept s _ s (Kept.refl s)
  | thermalCrossing => exact execThermalCrossing_kept s _ s (Kept.refl s)
  | imageVerify => exact execImageVerify_kept s _ _ s (Kept.refl s)
  | keelProgramDone => exact execKeelProgramDone_kept s _ _ s (Kept.refl s)
  | fwStageDone => exact execFwStageDone_kept s _ s (Kept.refl s)
  | memoryEccError => exact execMemoryEccError_kept s _ _ _ _ _ s (Kept.refl s)
  | boundaryRecordReceive _ _ _ _ missing => exact execBoundaryRecordReceive_kept s _ _ _ _ missing s (Kept.refl s)
  | axisStateReceive => exact execAxisStateReceive_kept s _ _ _ _ s (Kept.refl s)
  | sweepReceive => exact execSweepReceive_kept s _ _ s (Kept.refl s)
  | canInitLeave => exact execCanInitLeave_kept s _ _ s (Kept.refl s)
  | canMbLock => exact execCanMbLock_kept s _ _ s (Kept.refl s)
  | canMbRel => exact execCanMbRel_kept s _ _ s (Kept.refl s)
  | canMbAbort => exact execCanMbAbort_kept s _ _ s (Kept.refl s)
  | canIntegrationDone => exact execCanIntegrationDone_kept s _ s (Kept.refl s)
  | canFrameReceived => exact execCanFrameReceived_kept s _ _ s (Kept.refl s)
  | canRxToRing => exact execCanRxToRing_kept s _ s (Kept.refl s)
  | canFrameSent => exact execCanFrameSent_kept s _ _ _ _ s (Kept.refl s)
  | canArbitrationLost => exact execCanArbitrationLost_kept s _ s (Kept.refl s)
  | canBusError => exact execCanBusError_kept s _ _ s (Kept.refl s)
  | canBusOff => exact execCanBusOff_kept s _ s (Kept.refl s)
  | canRecoveryComplete => exact execCanRecoveryComplete_kept s _ s (Kept.refl s)
  | canBackoffEnd => exact execCanBackoffEnd_kept s _ _ s (Kept.refl s)
  | canSleepEntry => exact execCanSleepEntry_kept s _ s (Kept.refl s)
  | canEdgeWake => exact execCanEdgeWake_kept s _ s (Kept.refl s)
  | canWakeFrame => exact execCanWakeFrame_kept s _ _ s (Kept.refl s)
  | canHelmModeSwitch => exact execCanHelmModeSwitch_kept s _ s (Kept.refl s)
  | canProtocolException => exact execCanProtocolException_kept s _ s (Kept.refl s)
  | cycHoldRelease => exact execCycHoldRelease_kept s s (Kept.refl s)
  | sailFreeze => exact execSailFreeze_kept s s (Kept.refl s)
  | networkStart => exact execNetworkStart_kept s s (Kept.refl s)
  | ppsTimeout => exact execPpsTimeout_kept s s (Kept.refl s)
  | holdoverExpiry => exact execHoldoverExpiry_kept s s (Kept.refl s)
  | timeStep => exact execTimeStep_kept s s (Kept.refl s)
  | timeSetTimeout => exact execTimeSetTimeout_kept s s (Kept.refl s)
  | slewEnd => exact execSlewEnd_kept s s (Kept.refl s)
  | planComputed => exact execPlanComputed_kept s s (Kept.refl s)
  | planPrepared => exact execPlanPrepared_kept s s (Kept.refl s)
  | autoPlanPrepare => exact execAutoPlanPrepare_kept s s (Kept.refl s)
  | planSwitch => exact execPlanSwitch_kept s s (Kept.refl s)
  | planRelease => exact execPlanRelease_kept s s (Kept.refl s)
  | adaptSchedule => exact execAdaptSchedule_kept s s (Kept.refl s)
  | dispatchTick => exact execDispatchTick_kept s s (Kept.refl s)
  | helmClaim => exact execHelmClaim_kept s s (Kept.refl s)
  | helmContend => exact execHelmContend_kept s s (Kept.refl s)
  | helmQuietExpiry => exact execHelmQuietExpiry_kept s s (Kept.refl s)
  | helmQuietYield => exact execHelmQuietYield_kept s s (Kept.refl s)
  | helmTake => exact execHelmTake_kept s s (Kept.refl s)
  | helmReadbackFail => exact execHelmReadbackFail_kept s s (Kept.refl s)
  | giveUp => exact execGiveUp_kept s s (Kept.refl s)
  | helmForcedReset => exact execHelmForcedReset_kept s s (Kept.refl s)
  | heartbeatSend => exact execHeartbeatSend_kept s s (Kept.refl s)
  | heartbeatLoss => exact execHeartbeatLoss_kept s s (Kept.refl s)
  | resyncSynced => exact execResyncSynced_kept s s (Kept.refl s)
  | powerOnReset => exact execPowerOnReset_kept s s (Kept.refl s)
  | resetN => exact execResetN_kept s s (Kept.refl s)
  | perst => exact execPerst_kept s s (Kept.refl s)
  | flr => exact execFlr_kept s s (Kept.refl s)
  | pcieLinkLoss => exact execPcieLinkLoss_kept s s (Kept.refl s)
  | pllNLockLoss => exact execPllNLockLoss_kept s s (Kept.refl s)
  | pllCLockLoss => exact execPllCLockLoss_kept s s (Kept.refl s)
  | sweepTransfer => exact execSweepTransfer_kept s s (Kept.refl s)

theorem step_of_cons {s : State} {c : Instr} {rest : List Instr} (hqueue : s.pending = c :: rest) :
    step s = exec c { s with pending := rest } := by
  simp only [step, hqueue]

theorem step_of_nil {s : State} (hqueue : s.pending = []) : step s = .next s := by
  simp only [step, hqueue]

/-- Settles O51: `step` looks at the front of the queue only. -/
theorem stepTakesFront : Obligations.StepTakesFront :=
  ⟨fun _ _ => step_of_cons rfl, fun _ _ _ hqueue => step_of_cons hqueue, fun _ hqueue => step_of_nil hqueue⟩

/-- Settles O53: after reset no register differs from its reset value, and no command waits. -/
theorem resetInvariant : Obligations.ResetInvariant := ⟨rfl, rfl⟩

/-- Settles O52: the command taken leaves the rest of the queue alone, and every write keeps the table canonical (`exec_kept`). -/
theorem stepKeepsInvariant : Obligations.StepKeepsInvariant := by
  rintro s t ⟨hcanonical, hqueue⟩ hstep
  cases hpending : s.pending with
  | nil =>
    rw [step_of_nil hpending] at hstep
    cases hstep
    exact ⟨hcanonical, hqueue⟩
  | cons c rest =>
    obtain ⟨u, hexec, hkept⟩ := exec_kept c { s with pending := rest }
    rw [step_of_cons hpending, hexec] at hstep
    cases hstep
    rw [State.queueOk, hpending, List.all_cons, Bool.and_eq_true] at hqueue
    exact ⟨hkept.canonical hcanonical, (congrArg (·.all wellFormed) hkept.pending).trans hqueue.2⟩

/-- Settles O54: what `exec_kept` says of the command at the front; an idle step changes nothing. -/
theorem everyCommandCompletes : Obligations.EveryCommandCompletes := by
  refine ⟨fun c s => ?_, fun s => ?_⟩
  · obtain ⟨t, hexec, hkept⟩ := exec_kept c s
    exact ⟨t, hexec, hkept.pending, hkept.out, hkept.free⟩
  · cases hpending : s.pending with
    | nil => exact ⟨s, step_of_nil hpending, hpending, List.prefix_refl _, Nat.le_refl _⟩
    | cons c rest =>
      obtain ⟨t, hexec, hkept⟩ := exec_kept c { s with pending := rest }
      exact ⟨t, (step_of_cons hpending).trans hexec, hkept.pending, hkept.out, hkept.free⟩

/-! ### The word of a lane instruction (Table 6.5) -/

theorem decodeLane_encodeLane {op : Nat} (hop : op < 64) (w : LaneWord) : decodeLane (encodeLane op w) = (op, w) := by
  obtain ⟨dst, sa, sb, imm, xm, ym⟩ := w
  have hdst := dst.isLt
  have hsa := sa.isLt
  have hsb := sb.isLt
  have himm := imm.isLt
  have hxm := xm.isLt
  have hym := ym.isLt
  simp only [decodeLane, encodeLane, field, Nat.shiftRight_eq_div_pow, Prod.mk.injEq, LaneWord.mk.injEq, BitVec.toNat_eq,
    BitVec.toNat_ofNat]
  omega

theorem State.word_of_standsAt {s : State} {l op : Nat} {w : LaneWord} (hstands : s.standsAt l op w = true) :
    (s.lane l).word (s.lane l).pc = encodeLane op w := by
  simp only [State.standsAt, Bool.and_eq_true, beq_iff_eq] at hstands
  exact hstands.1.2

/-- Settles O58: decoding undoes encoding, so the word at a lane's program counter is the word of one instruction only. -/
theorem laneWordRoundTrip : Obligations.LaneWordRoundTrip := by
  refine ⟨fun op w hop => decodeLane_encodeLane hop w, fun s l op op' w w' hop hop' hstands hstands' => ?_⟩
  have hword := (State.word_of_standsAt hstands).symm.trans (State.word_of_standsAt hstands')
  have hpair := congrArg decodeLane hword
  rw [decodeLane_encodeLane hop, decodeLane_encodeLane hop'] at hpair
  exact Prod.mk.inj hpair

end Sys2Proof.Machine

/-! Commands on registers, the four windows and reads (R16, R17, R19, R54, R56, R62, R91, R94). -/

namespace Sys2Proof.Machine

open Sys2Proof

/-! ### Commands on registers -/

section
variable {s : State} {src : Src} {d : Desc}

theorem exec_nop_of_accepts (hacc : s.accepts src 0x00 d) : exec (.nop src d) s = .next (s.complete src 0x00 d .ok) :=
  congrArg Host.Outcome.next ((State.cmd_of_precheck_none hacc.1).trans (State.soon_of_noCycle hacc.2))

theorem exec_regWrite_of_noError (hacc : s.accepts src 0x01 d) (hok : s.regWriteError src d = none) :
    exec (.regWrite src d) s = .next (s.regWriteBody src d) := by
  refine congrArg Host.Outcome.next ((State.cmd_of_precheck_none hacc.1).trans ?_)
  simp only [State.regWrite, hok, State.soon_of_noCycle hacc.2]

theorem exec_regRead_of_valid (hacc : s.accepts src 0x02 d) (halign : d.op0.toNat % 4 = 0) (hrange : d.op0.toNat < 0x1000000)
    (hon : s.regOff (d.op0.toNat % 0x400000) = false) :
    exec (.regRead src d) s =
      .next ((s.readReg .host d.op0.toNat).1.complete src 0x02 d .ok (s.readReg .host d.op0.toNat).2.toNat) := by
  refine congrArg Host.Outcome.next ((State.cmd_of_precheck_none hacc.1).trans ((State.soon_of_noCycle hacc.2).trans ?_))
  simp only [halign, Nat.not_le.2 hrange, hon, ne_eq, not_true_eq_false, decide_false, Bool.or_self, Bool.false_eq_true, if_false]

end

/-- WAIT_CYCLE must name its cycle (R91). -/
theorem State.atCycle_of_waitCycle {s : State} {src : Src} {d : Desc} (hpre : s.precheck src 0x03 d = none) : d.atCycle = true := by
  cases hat : d.atCycle with
  | true => rfl
  | false =>
    have hnever : s.precheck src 0x03 d = if opcodeOnRing 3 src.ringNo = false then some .badOpcode else some .badOperand := by
      simp [State.precheck, hat, needsHelm, guardedBy, namedCycle]
    rw [hnever] at hpre
    split at hpre <;> cases hpre

/-- Settles O1: past the shared checks the four commands run their bodies. -/
theorem hostCommandsComplete : Obligations.HostCommandsComplete := by
  refine ⟨fun s src d hacc => exec_nop_of_accepts hacc, fun s src d hacc hok => exec_regWrite_of_noError hacc hok,
    fun s src d hacc halign hrange hon => exec_regRead_of_valid hacc halign hrange hon, fun s src d hpre => ?_⟩
  refine congrArg Host.Outcome.next ((State.cmd_of_precheck_none hpre).trans ?_)
  simp only [State.atBoundary, State.effCycle, State.atCycle_of_waitCycle hpre, if_true, State.defer]

end Sys2Proof.Machine

/-! The four windows on HOST_CQ_TMO (R54, R56, R624). -/

namespace Sys2Proof.Machine

open Sys2Proof

/-! ### Writes that reach a register by itself (R16, R54, R58, R624) -/

section
variable {s : State} {boff off win : Nat} {w : Word}

/-- A host write of an unguarded register outside the LANE blocks is one of the register's fields, where the write is no action. -/
theorem State.busWrite_plain (hreach : s.reaches .host = true) (hoff : boff % 0x400000 / 4 * 4 = off)
    (hwin : boff / 0x400000 % 4 = win) (hon : s.regOff off = false) (hgroup : guardGroup off = none)
    (hblock : off / 0x10000 ≠ 0x06 ∧ off / 0x10000 ≠ 0x07) (hplain : win ≠ 0 ∨ s.actionWrite .host off w = none) :
    s.busWrite .host boff w true false = s.fieldWrite .host boff (windowWrite win w) false := by
  have hnamed : s.entryNamed boff w = [] := by
    have hout : (decide (LANE_B + 0x110 ≤ off) && decide (off < LANE_B + 0x200)) = false := by
      rw [← Bool.decide_and, decide_eq_false_iff_not]
      simp only [LANE_B]
      omega
    simp only [State.entryNamed, hoff, hout, Bool.false_eq_true, if_false]
  have haction : (if win = 0 then s.actionWrite .host off w else none) = none := by
    rcases hplain with hne | hnone
    · exact if_neg hne
    · rw [hnone, ite_self]
  rw [State.busWrite_of_unguarded hreach (by rw [hoff]; exact hon) (by rw [hoff]; exact hgroup)]
  simp only [State.blockWrite, State.writeNow, hoff, hwin, hnamed, haction, hblock.1, hblock.2, decide_false, Bool.or_self,
    Bool.false_and, Bool.false_eq_true, if_false]

theorem State.writeBase_host (hblock : off / 0x10000 = 1) : s.writeBase off = s.pendValue off := by
  simp only [State.writeBase, isPval, hblock, Nat.reduceBEq, Bool.false_and, Bool.false_eq_true, if_false]

theorem State.fieldsAt_host (hblock : off / 0x10000 = 1) : s.fieldsAt off = regFields off := by
  simp only [State.fieldsAt, hblock, Nat.reduceEqDiff, decide_false, Bool.false_and, Bool.false_eq_true, if_false]

/-- A HOST register that is no RING_CFG: the admitted bits are taken where no guard discards the write. -/
theorem State.fieldWrite_host {b : BitWrite} {m : Word} (hoff : boff % 0x400000 / 4 * 4 = off) (hblock : off / 0x10000 = 1)
    (hnotCfg : off % 0x10000 < 0x400 ∨ off % 0x10000 % 0x20 ≠ 0x10)
    (hmask : rwBits (regFields off) (s.pendValue off) b = (m, false)) (hm : b.normal = true ∨ m ≠ 0)
    (hguard : s.guarded off (s.pendValue off) ((s.pendValue off &&& ~~~m) ||| (b.val &&& m)) = none) :
    s.fieldWrite .host boff b false = s.takeWrite .host boff (regFields off) m b false := by
  have hselects : (!b.normal && decide (m = 0)) = false := by
    rcases hm with hnormal | hne
    · rw [hnormal, Bool.not_true, Bool.false_and]
    · rw [decide_eq_false hne, Bool.and_false]
  have hring : (decide (off / 0x10000 = 0x01) && decide (0x400 ≤ off % 0x10000) && decide (off % 0x10000 < 0x800) &&
      decide (off % 0x10000 % 0x20 = 0x10)) = false := by
    simp only [← Bool.decide_and, decide_eq_false_iff_not]
    omega
  have hpval : isPval off = false := by simp only [isPval, hblock, Nat.reduceBEq, Bool.false_and]
  simp only [State.fieldWrite, hoff, State.fieldsAt_host hblock, State.writeBase_host hblock, hmask, hselects, hguard, hring, hpval,
    Bool.false_eq_true, if_false]
  simp only [hblock, Nat.reduceEqDiff, decide_false, Bool.false_and, Bool.false_eq_true, if_false]

end

/-- A RW field that admits every value (R24). -/
abbrev Fld.free (f : Fld) : Prop := f.legal = none ∧ f.min = 0 ∧ f.max = 0xFFFFFFFF ∧ f.evenOnly = false

/-- The bits of RW fields that a write selects. -/
def rwMask (fs : List Fld) (sel : Word) : Word := fs.foldl (fun m f => if f.isRw then m ||| (f.mask &&& sel) else m) 0

theorem Fld.admits_of_free {f : Fld} (hfree : f.free) (w : Word) : f.admits (bits w f.hi f.lo) = true := by
  obtain ⟨hlegal, hmin, hmax, heven⟩ := hfree
  have hle : bits w f.hi f.lo ≤ 0xFFFFFFFF := by
    have hshift : w.toNat >>> f.lo ≤ w.toNat := Nat.shiftRight_le _ _
    have hmod := Nat.mod_le (w.toNat >>> f.lo) (2 ^ (f.hi + 1 - f.lo))
    have hw := w.isLt
    simp only [bits, field]
    omega
  simp only [Fld.admits, hlegal, hmin, hmax, heven, Nat.zero_le, hle, decide_true, Bool.and_self, Bool.false_and, Bool.not_false]

/-- What one field does in `rwBits`. -/
def rwStep (cur : Word) (b : BitWrite) (acc : Word × Bool) (f : Fld) : Word × Bool :=
  let m := f.mask &&& b.sel
  if f.isRw && m != 0 then
    let v := bits ((cur &&& ~~~m) ||| (b.val &&& m)) f.hi f.lo
    if f.admits v then (acc.1 ||| m, acc.2) else (acc.1, true)
  else acc

theorem rwBits_eq (fs : List Fld) (cur : Word) (b : BitWrite) : rwBits fs cur b = fs.foldl (rwStep cur b) (0, false) := rfl

section
variable {f : Fld} (cur : Word) {b : BitWrite} (acc : Word × Bool)

theorem rwStep_of_readOnly (hro : f.isRw = false) : rwStep cur b acc f = acc := by
  simp only [rwStep, hro, Bool.false_and, Bool.false_eq_true, if_false]

theorem rwStep_of_unselected (hsel : f.mask &&& b.sel = 0) : rwStep cur b acc f = acc := by
  simp only [rwStep, hsel, bne_self_eq_false, Bool.and_false, Bool.false_eq_true, if_false]

theorem rwStep_of_selected (hrw : f.isRw = true) (hsel : f.mask &&& b.sel ≠ 0) :
    rwStep cur b acc f = if f.admits (bits ((cur &&& ~~~(f.mask &&& b.sel)) ||| (b.val &&& (f.mask &&& b.sel))) f.hi f.lo)
      then (acc.1 ||| (f.mask &&& b.sel), acc.2) else (acc.1, true) := by
  simp only [rwStep, hrw, bne_iff_ne.2 hsel, Bool.and_self, if_true]

theorem rwStep_of_free (hfree : f.free) (hrw : f.isRw = true) : rwStep cur b acc f = (acc.1 ||| (f.mask &&& b.sel), acc.2) := by
  by_cases hsel : f.mask &&& b.sel = 0
  · rw [rwStep_of_unselected cur acc hsel, hsel]
    exact congrArg (·, acc.2) BitVec.or_zero.symm
  · rw [rwStep_of_selected cur acc hrw hsel, Fld.admits_of_free hfree, if_pos rfl]

end

/-- Where every RW field admits every value, the selected bits are taken and none is refused. -/
theorem rwBits_of_free {fs : List Fld} (hfree : ∀ f ∈ fs, f.isRw = true → f.free) (cur : Word) (b : BitWrite) :
    rwBits fs cur b = (rwMask fs b.sel, false) := by
  have hfold : ∀ (l : List Fld) (acc : Word), (∀ f ∈ l, f.isRw = true → f.free) →
      l.foldl (rwStep cur b) (acc, false) = (l.foldl (fun m f => if f.isRw then m ||| (f.mask &&& b.sel) else m) acc, false) := by
    intro l
    induction l with
    | nil => intro acc _; rfl
    | cons f l ih =>
      intro acc hl
      have hrest := fun x hx => hl x (List.mem_cons_of_mem f hx)
      cases hrw : f.isRw with
      | false => simp only [List.foldl_cons, rwStep_of_readOnly cur _ hrw, hrw, Bool.false_eq_true, if_false, ih _ hrest]
      | true => simp only [List.foldl_cons, rwStep_of_free cur _ (hl f List.mem_cons_self hrw) hrw, hrw, if_true, ih _ hrest]
  exact hfold fs 0 hfree

/-- A register of one RW field whose selected bits are admitted. -/
theorem rwBits_of_admitted {f : Fld} {cur : Word} {b : BitWrite} (hrw : f.isRw = true) (hsel : f.mask &&& b.sel ≠ 0)
    (hok : f.admits (bits ((cur &&& ~~~(f.mask &&& b.sel)) ||| (b.val &&& (f.mask &&& b.sel))) f.hi f.lo) = true) :
    rwBits [f] cur b = (f.mask &&& b.sel, false) := by
  rw [rwBits_eq, List.foldl_cons, List.foldl_nil, rwStep_of_selected cur _ hrw hsel, hok, if_pos rfl]
  exact congrArg (·, false) BitVec.zero_or

theorem rwBits_of_unselected {f : Fld} {cur : Word} {b : BitWrite} (hsel : f.mask &&& b.sel = 0) : rwBits [f] cur b = (0, false) := by
  rw [rwBits_eq, List.foldl_cons, List.foldl_nil, rwStep_of_unselected cur _ hsel]

theorem cqTmoFld_mask : cqTmoFld.mask = 0xFFFF := by decide

/-- HOST_CQ_TMO admits every value but 0 (Table 2.5). -/
theorem cqTmoFld_admits {w : Word} (hw : w &&& 0xFFFF ≠ 0) : cqTmoFld.admits (bits w 15 0) = true := by
  have hne : (w &&& 0xFFFF).toNat ≠ 0 := fun h => hw (BitVec.eq_of_toNat_eq h)
  have hlt : bits w 15 0 < 2 ^ 16 := Nat.mod_lt _ (by decide)
  rw [← bits_low_half] at hne
  have hmin : cqTmoFld.min ≤ bits w 15 0 := Nat.one_le_iff_ne_zero.2 hne
  have hmax : bits w 15 0 ≤ cqTmoFld.max := Nat.le_of_lt_succ hlt
  rw [Fld.admits, decide_eq_true hmin, decide_eq_true hmax]
  rfl

/-- A taken write of fields of class IMM, outside the block of the event routes: the admitted bits change at once. -/
theorem State.takeWrite_imm (s : State) (a : Agent) {boff off : Nat} {fs : List Fld} {m : Word} (b : BitWrite) (cmd : Bool)
    (hoff : boff % 0x400000 / 4 * 4 = off) (hblock : off / 0x10000 ≠ 2) (himm : m &&& fieldMask fs (fun f => f.cls == .imm) = m)
    (hkeel : m &&& fieldMask fs (fun f => f.cls == .keel) = 0) (hcyc : m &&& fieldMask fs (fun f => f.cls == .cyc) = 0)
    (hplan : m &&& fieldMask fs (fun f => f.cls == .plan) = 0) :
    s.takeWrite a boff fs m b cmd =
      (if b.normal && off != LOCAL_FLT then
        (if m = 0 then s else s.setRg off ((s.rg off &&& ~~~m) ||| (b.val &&& m))).clearOnes fs off b.val
      else if m = 0 then s else s.setRg off ((s.rg off &&& ~~~m) ||| (b.val &&& m))).afterWrite off (s.rg off) b := by
  have hall : m &&& ~~~(0 : Word) = m := BitVec.and_allOnes
  have hor : m ||| 0 = m := BitVec.or_zero
  simp only [State.takeWrite, hoff, himm, hkeel, hcyc, hplan, hblock, hall, hor, ite_self, bne_self_eq_false, decide_false,
    Bool.false_and, Bool.false_eq_true, if_false, if_true]

/-- A write that changes the bits `m` of HOST_CQ_TMO: nothing follows it. -/
theorem State.takeWrite_cqTmo (s : State) {boff : Nat} (hoff : boff % 0x400000 / 4 * 4 = HOST_CQ_TMO) (b : BitWrite) {m : Word} (hm : m ≠ 0) (hlow : m &&& 0xFFFF = m) :
    s.takeWrite .host boff [cqTmoFld] m b false =
      s.setRg HOST_CQ_TMO ((s.rg HOST_CQ_TMO &&& ~~~m) ||| (b.val &&& m)) := by
  have hones (t : State) (v : Word) : t.clearOnes [cqTmoFld] HOST_CQ_TMO v = t := by
    have hmask : fieldMask [cqTmoFld] (fun f => f.acc == .w1c) = 0 := by decide
    rw [State.clearOnes, hmask]
    exact if_pos BitVec.and_zero
  have hafter (t : State) (old : Word) : t.afterWrite HOST_CQ_TMO old b = t := rfl
  rw [State.takeWrite_imm s .host b false hoff (by decide) hlow BitVec.and_zero BitVec.and_zero BitVec.and_zero, hafter, hones,
    ite_self, if_neg hm]

/-- A window's write of HOST_CQ_TMO comes to `fieldWrite`. -/
theorem State.busWrite_cqTmo {s : State} {boff win : Nat} (hreaches : s.hostReaches HOST_CQ_TMO)
    (hoff : boff % 0x400000 / 4 * 4 = HOST_CQ_TMO) (hwin : boff / 0x400000 % 4 = win) (v : Word) :
    s.busWrite .host boff v true false = s.fieldWrite .host boff (windowWrite win v) false :=
  State.busWrite_plain hreaches.1 hoff hwin hreaches.2.1 rfl (by decide) (Or.inr rfl)

/-- Writes of HOST_CQ_TMO whose field is admitted change the bits of it that the window selects. -/
theorem State.fieldWrite_cqTmo {s : State} {boff : Nat} (hbase : s.pendValue HOST_CQ_TMO = s.rg HOST_CQ_TMO)
    (hoff : boff % 0x400000 / 4 * 4 = HOST_CQ_TMO) {b : BitWrite} {m : Word}
    (hm : m ≠ 0) (hsel : 0xFFFF &&& b.sel = m) (hnew : ((s.rg HOST_CQ_TMO &&& ~~~m) ||| (b.val &&& m)) &&& 0xFFFF ≠ 0) :
    s.fieldWrite .host boff b false = s.setRg HOST_CQ_TMO ((s.rg HOST_CQ_TMO &&& ~~~m) ||| (b.val &&& m)) := by
  rw [← cqTmoFld_mask] at hsel
  have hbits : rwBits (regFields HOST_CQ_TMO) (s.pendValue HOST_CQ_TMO) b = (m, false) := by
    rw [hbase, ← hsel]
    rw [← hsel] at hm hnew
    exact rwBits_of_admitted rfl hm (cqTmoFld_admits hnew)
  have hlow : m &&& 0xFFFF = m := by
    rw [← hsel, cqTmoFld_mask, BitVec.and_comm, ← BitVec.and_assoc]
    rfl
  rw [State.fieldWrite_host hoff (by decide) (Or.inl (by decide)) hbits (Or.inr hm) rfl]
  exact State.takeWrite_cqTmo s hoff b hm hlow

/-- A write through SET, CLR or MASK that selects no bit of HOST_CQ_TMO does nothing (R56). -/
theorem State.fieldWrite_cqTmo_unselected (s : State) {boff : Nat} (hoff : boff % 0x400000 / 4 * 4 = HOST_CQ_TMO) {b : BitWrite} (halias : b.normal = false)
    (hsel : 0xFFFF &&& b.sel = 0) : s.fieldWrite .host boff b false = s := by
  have hfields : s.fieldsAt HOST_CQ_TMO = [cqTmoFld] := rfl
  rw [← cqTmoFld_mask] at hsel
  simp only [State.fieldWrite, hoff, hfields, rwBits_of_unselected hsel, halias, Bool.not_false, decide_true, Bool.and_self,
    Bool.false_eq_true, if_true, if_false]

theorem low_of_replaced (x v : Word) : ((x &&& ~~~0xFFFF) ||| (v &&& 0xFFFF)) &&& 0xFFFF = v &&& 0xFFFF := by
  have hout : x &&& ~~~0xFFFF &&& 0xFFFF = 0 := by rw [BitVec.and_assoc, BitVec.not_and_self]; exact BitVec.and_zero
  rw [BitVec.and_or_distrib_right, hout, BitVec.and_assoc, BitVec.and_self]
  exact BitVec.zero_or

theorem set_bits (x m : Word) : (x &&& ~~~m) ||| (0xFFFFFFFF &&& m) = x ||| m := by
  rw [show (0xFFFFFFFF : Word) &&& m = m from BitVec.allOnes_and]
  ext i hi
  simp only [BitVec.getElem_or, BitVec.getElem_and, BitVec.getElem_not]
  cases x[i] <;> cases m[i] <;> rfl

theorem clear_bits (x m : Word) : (x &&& ~~~m) ||| (0 &&& m) = x &&& ~~~m := by
  rw [show (0 : Word) &&& m = 0 from BitVec.zero_and]
  exact BitVec.or_zero

theorem low_of_cleared (x v : Word) : x &&& ~~~(0xFFFF &&& v) &&& 0xFFFF = x &&& ~~~v &&& 0xFFFF := by
  ext i hi
  simp only [BitVec.getElem_and, BitVec.getElem_not]
  cases x[i] <;> cases v[i] <;> cases (0xFFFF : Word)[i] <;> rfl

theorem low_of_set {x m : Word} (hm : m ≠ 0) (hlow : 0xFFFF &&& m = m) : (x ||| m) &&& 0xFFFF ≠ 0 := by
  intro hzero
  rw [BitVec.and_or_distrib_right, BitVec.and_comm m, hlow] at hzero
  exact hm (BitVec.or_eq_zero_iff.1 hzero).2

theorem low_and_high (v : Word) : 0xFFFF &&& (v >>> 16) = v >>> 16 := by
  apply BitVec.eq_of_toNat_eq
  have hv := v.isLt
  rw [BitVec.toNat_and, BitVec.toNat_ushiftRight, Nat.shiftRight_eq_div_pow]
  exact (Nat.and_comm _ _).trans ((Nat.and_two_pow_sub_one_eq_mod _ 16).trans (Nat.mod_eq_of_lt (by omega)))

/-- Settles O3: a window's write is `fieldWrite` on the one field of HOST_CQ_TMO, which changes the bits that the window selects. -/
theorem registerWindows : Obligations.RegisterWindows := by
  refine ⟨?_, ?_, ?_, ?_, ?_, ?_⟩
  · intro s v hreaches hv
    refine congrArg Host.Outcome.next ((State.busWrite_cqTmo (win := 0) hreaches rfl rfl v).trans ?_)
    exact State.fieldWrite_cqTmo hreaches.2.2 rfl (m := 0xFFFF) (by decide) (BitVec.and_allOnes (w := 32)) ((low_of_replaced _ v).symm ▸ hv)
  · intro s v hreaches hv
    refine congrArg Host.Outcome.next ((State.busWrite_cqTmo (win := 1) hreaches rfl rfl v).trans ?_)
    rw [BitVec.and_comm] at hv
    have hlow : 0xFFFF &&& (0xFFFF &&& v) = 0xFFFF &&& v := by rw [← BitVec.and_assoc, BitVec.and_self]
    refine (State.fieldWrite_cqTmo hreaches.2.2 rfl hv rfl ?_).trans ?_
    · rw [windowWrite, set_bits]
      exact low_of_set hv hlow
    · rw [windowWrite, set_bits, BitVec.and_comm v]
  · intro s v hreaches hv hnew
    refine congrArg Host.Outcome.next ((State.busWrite_cqTmo (win := 2) hreaches rfl rfl v).trans ?_)
    rw [BitVec.and_comm] at hv
    refine (State.fieldWrite_cqTmo hreaches.2.2 rfl hv rfl ?_).trans ?_
    · rw [windowWrite, clear_bits, low_of_cleared]
      exact hnew
    · rw [windowWrite, clear_bits, BitVec.and_comm v]
  · intro s v hreaches hv hnew
    refine congrArg Host.Outcome.next ((State.busWrite_cqTmo (win := 3) hreaches rfl rfl v).trans ?_)
    have hval : (windowWrite 3 v).val &&& (v >>> 16) = v &&& (v >>> 16) :=
      (BitVec.and_assoc v 0xFFFF _).trans (congrArg (v &&& ·) (low_and_high v))
    refine (State.fieldWrite_cqTmo hreaches.2.2 rfl hv (low_and_high v) ?_).trans ?_
    · rw [hval]
      exact hnew
    · rw [hval]
  · intro s v hreaches hv
    rw [BitVec.and_comm] at hv
    exact ⟨congrArg Host.Outcome.next ((State.busWrite_cqTmo (win := 1) hreaches rfl rfl v).trans
        (s.fieldWrite_cqTmo_unselected rfl rfl hv)),
      congrArg Host.Outcome.next ((State.busWrite_cqTmo (win := 2) hreaches rfl rfl v).trans
        (s.fieldWrite_cqTmo_unselected rfl rfl hv))⟩
  · intro s v hreaches hv
    refine congrArg Host.Outcome.next ((State.busWrite_cqTmo (win := 3) hreaches rfl rfl v).trans ?_)
    refine s.fieldWrite_cqTmo_unselected rfl rfl ?_
    exact (low_and_high v).trans hv

end Sys2Proof.Machine

/-! Register reads (R16, R17, R19, R62, R78, R96). -/

namespace Sys2Proof.Machine

open Sys2Proof

section
variable {s : State} {a : Agent} {boff : Nat}

theorem State.readAccess_of_posted (hreach : s.reaches a = true) (hwait : s.readWaits a boff = true) :
    s.readAccess a boff = { s with mem := { s.mem with posted := s.mem.posted ++ [{ agent := a, boff := boff, word := none }] } } := by
  simp only [State.readAccess, hreach, hwait, Bool.and_self, if_true]

/-- Only reads of the LANE blocks wait (R62). -/
theorem State.readWaits_of_otherBlock (hblock : boff % 0x400000 / 4 * 4 / 0x10000 ≠ 0x06 ∧ boff % 0x400000 / 4 * 4 / 0x10000 ≠ 0x07) :
    s.readWaits a boff = false := by
  simp only [State.readWaits, beq_eq_false_iff_ne.2 hblock.1, beq_eq_false_iff_ne.2 hblock.2, Bool.or_self, Bool.false_and]

theorem State.readAccess_of_now (hreach : s.reaches a = true) (hwait : s.readWaits a boff = false) :
    s.readAccess a boff = (s.readReg a boff).1.emit (.read (agentNo a) boff (s.readReg a boff).2.toNat) := by
  simp only [State.readAccess, State.readOut, hreach, hwait, Bool.and_false, Bool.false_eq_true, if_true, if_false]

end

/-- The host's latches without the one of an agent's register (R17). -/
def State.unlatched (s : State) (a : Agent) (off : Nat) : State :=
  { s with host := { s.host with latch := s.host.latch.filter (fun e => e.1 != agentNo a * 2 ^ 24 + off) } }

/-- A register that is no low word of a pair and follows none is read as it is; its RC fields are cleared. -/
theorem State.readReg_plain {s : State} {a : Agent} {off : Nat} (halign : off % 0x400000 / 4 * 4 = off) (hon : s.regOff off = false)
    (hlow : isLow off = false) (hprev : isLow (off - 4) = false) :
    s.readReg a off = ((s.unlatched a off).clearRc off, s.value off) := by
  simp only [State.readReg, halign, hon, hlow, hprev, Bool.false_and, Bool.false_eq_true, if_false, State.unlatched]

/-- The low word of a pair latches the high word for the agent (R17). -/
theorem State.readReg_low {s : State} {a : Agent} {off : Nat} (halign : off % 0x400000 / 4 * 4 = off) (hon : s.regOff off = false)
    (hlow : isLow off = true) (hprev : isLow (off - 4) = false) :
    s.readReg a off = ((State.clearRc { s with host := { s.host with
      latch := Tab.set (2 ^ 32) (s.unlatched a off).host.latch (agentNo a * 2 ^ 24 + (off + 4)) (s.value (off + 4)).toNat } } off),
      s.value off) := by
  simp only [State.readReg, halign, hon, hlow, hprev, Bool.false_and, Bool.false_eq_true, if_false, if_true, State.unlatched]

/-- A high word whose latch is set reads the latch, once. -/
theorem State.readReg_latched {s : State} {a : Agent} {off : Nat} {e : Nat × Nat} (halign : off % 0x400000 / 4 * 4 = off)
    (hon : s.regOff off = false) (hlow : isLow off = false) (hprev : isLow (off - 4) = true) (hoff : 4 ≤ off)
    (hlatch : s.host.latch.find? (fun e => e.1 == agentNo a * 2 ^ 24 + off) = some e) :
    s.readReg a off = ((s.unlatched a off).clearRc off, ofNat e.2) := by
  simp only [State.readReg, halign, hon, hlow, hprev, hoff, hlatch, decide_true, Bool.and_self, Bool.false_eq_true, if_false, if_true,
    State.unlatched]

/-- RING_STAT of every ring: its last field counts the lost records, and the read clears it (Table 2.10). -/
theorem regFields_rStat : ∀ r : Fin 32, regFields (rStat r.val) = [ro 2 0, w1cs 7 3, rc 31 16] := by decide

theorem isLow_rStat : ∀ r : Fin 32, isLow (rStat r.val) = false ∧ isLow (rStat r.val - 4) = false := by decide

theorem rStat_offset (r : Fin 32) : rStat r.val % 0x400000 / 4 * 4 = rStat r.val ∧ rStat r.val / 0x10000 = 1 ∧
    rStat r.val < 2 ^ 24 := by
  have := r.isLt
  simp only [rStat, rBase, HOST_B]
  omega

theorem State.readReg_rStat {s : State} {a : Agent} (r : Fin 32) (hon : s.powered 5 = true) :
    s.readReg a (rStat r.val) = ((s.unlatched a (rStat r.val)).setFld (rStat r.val) 31 16 0, s.value (rStat r.val)) := by
  obtain ⟨halign, hblock, -⟩ := rStat_offset r
  have hpower : s.regOff (rStat r.val) = false := by
    have hdomain : domainOf (rStat r.val) = some 5 := by
      revert r
      decide
    simp only [State.regOff, hdomain, hon, Bool.not_true]
  rw [State.readReg_plain halign hpower (isLow_rStat r).1 (isLow_rStat r).2, State.clearRc, regFields_rStat]
  rfl

/-- The words of an MSI-X table entry: address low and high, data, vector control (R96). -/
def MsixV.word (m : MsixV) : Nat → Nat
  | 0 => m.addr % 2 ^ 32
  | 1 => m.addr / 2 ^ 32
  | 2 => m.data
  | _ => b2n m.masked

theorem State.spaceRead_bar4 (s : State) (v : Fin 64) (k : Fin 4) :
    s.spaceRead .bar4 (v.val * 16 + k.val * 4) = (s.msixV v.val).word k.val := by
  have hvec : (v.val * 16 + k.val * 4) / 16 = v.val := by omega
  have hword : (v.val * 16 + k.val * 4) / 4 % 4 = k.val := by omega
  simp only [State.spaceRead, hvec, hword, if_pos (show v.val * 16 + k.val * 4 < 0x400 by omega)]
  rfl

/-- Settles O5: a read is `State.readReg`, one case for a low word, a latched high word and a register by itself; what waits and the
other spaces of the function are read off their definitions. -/
theorem registerReads : Obligations.RegisterReads := by
  refine ⟨?_, ?_, ?_, ?_, ?_, ?_⟩
  · intro s a hreach
    have hread : s.readReg a 0x40000 = _ := State.readReg_low rfl rfl rfl rfl
    refine congrArg Host.Outcome.next ((State.readAccess_of_now hreach (State.readWaits_of_otherBlock (by decide))).trans ?_)
    exact congrArg (fun x : State × Word => x.1.emit (.read (agentNo a) 0x40000 x.2.toNat)) hread
  · intro s a e hreach hlatch
    have hread : s.readReg a 0x40004 = _ := State.readReg_latched rfl rfl rfl rfl (by decide) hlatch
    refine congrArg Host.Outcome.next ((State.readAccess_of_now hreach (State.readWaits_of_otherBlock (by decide))).trans ?_)
    exact congrArg (fun x : State × Word => x.1.emit (.read (agentNo a) 0x40004 x.2.toNat)) hread
  · intro s a r hreach hon
    obtain ⟨halign, hblock, hlt⟩ := rStat_offset r
    have hnum : (BitVec.ofNat 24 (rStat r.val)).toNat = rStat r.val := Nat.mod_eq_of_lt hlt
    have hexec : exec (.rcFieldRead a (BitVec.ofNat 24 (rStat r.val))) s =
        .next (((s.unlatched a (rStat r.val)).setFld (rStat r.val) 31 16 0).emit
          (.read (agentNo a) (rStat r.val) (s.value (rStat r.val)).toNat)) := by
      refine congrArg Host.Outcome.next ?_
      rw [hnum, State.readAccess_of_now hreach (State.readWaits_of_otherBlock (by rw [halign, hblock]; decide)),
        State.readReg_rStat r hon]
    refine ⟨_, hexec, ?_, List.mem_append_right _ (List.mem_singleton_self _), fun o ho => State.rg_setFld_ne _ _ _ _ _ _ ho⟩
    exact State.fld_setFld_self _ _ _ _ _ (by decide) (by decide)
  · intro s off hreach hwait
    exact congrArg Host.Outcome.next (State.readAccess_of_posted hreach hwait)
  · intro s r hreach
    have hr := r.isLt
    have hnum : (BitVec.ofNat 24 (r.val * 8)).toNat = r.val * 8 := Nat.mod_eq_of_lt (by omega)
    have hread : s.spaceRead .bar2 (r.val * 8) = (s.ringX r.val).doorbell := by
      have hin : (decide (r.val * 8 < 0x100) && decide (r.val * 8 % 8 = 0)) = true := by
        rw [decide_eq_true (by omega), decide_eq_true (by omega), Bool.and_self]
      rw [State.spaceRead, hin, if_pos rfl, Nat.mul_div_cancel _ (by decide)]
    refine congrArg Host.Outcome.next ?_
    rw [hnum, ← hread]
    exact if_pos hreach
  · intro s v hreach
    have hread2 := s.spaceRead_bar4 v 2
    have hread3 := s.spaceRead_bar4 v 3
    have hnum (k : Fin 4) : (BitVec.ofNat 24 (v.val * 16 + k.val * 4)).toNat = v.val * 16 + k.val * 4 := by
      have := v.isLt
      exact Nat.mod_eq_of_lt (by omega)
    refine ⟨congrArg Host.Outcome.next ?_, congrArg Host.Outcome.next ?_⟩
    · refine (congrArg (s.lowWordRead .host · .bar4) (hnum 2)).trans ((if_pos hreach).trans ?_)
      exact congrArg (fun x => s.emit (.read 0 _ x)) hread2
    · refine (congrArg (s.lowWordRead .host · .bar4) (hnum 3)).trans ((if_pos hreach).trans ?_)
      exact congrArg (fun x => s.emit (.read 0 _ x)) hread3

end Sys2Proof.Machine

/-! Fields and flags of the registers an operation does not write. -/

namespace Sys2Proof.Machine

open Sys2Proof

section
variable (s : State) {o p : Nat}

theorem State.fld_setRg_ne (w : Word) (hi lo : Nat) (hne : p ≠ o) : (s.setRg o w).fld p hi lo = s.fld p hi lo :=
  congrArg (bits · hi lo) (State.rg_setRg_ne s o p w hne)

theorem State.flag_setRg_ne (w : Word) (n : Nat) (hne : p ≠ o) : (s.setRg o w).flag p n = s.flag p n :=
  congrArg (bit · n) (State.rg_setRg_ne s o p w hne)

theorem State.flag_setFld_ne (a b v n : Nat) (hne : p ≠ o) : (s.setFld o a b v).flag p n = s.flag p n :=
  State.flag_setRg_ne s _ n hne

theorem State.fld_setFlag_ne (m hi lo : Nat) (hne : p ≠ o) : (s.setFlag o m).fld p hi lo = s.fld p hi lo :=
  State.fld_setRg_ne s _ hi lo hne

theorem State.flag_setFlag_ne (m n : Nat) (hne : p ≠ o) : (s.setFlag o m).flag p n = s.flag p n :=
  State.flag_setRg_ne s _ n hne

theorem State.fld_clrFlag_ne (m hi lo : Nat) (hne : p ≠ o) : (s.clrFlag o m).fld p hi lo = s.fld p hi lo :=
  State.fld_setRg_ne s _ hi lo hne

theorem State.flag_clrFlag_ne (m n : Nat) (hne : p ≠ o) : (s.clrFlag o m).flag p n = s.flag p n :=
  State.flag_setRg_ne s _ n hne

theorem State.rg_putFlag_ne (m : Nat) (b : Bool) (hne : p ≠ o) : (s.putFlag o m b).rg p = s.rg p :=
  State.rg_setRg_ne s o p _ hne

theorem State.rg_incFld_ne (a b i : Nat) (hne : p ≠ o) : (s.incFld o a b i).rg p = s.rg p :=
  State.rg_setRg_ne s o p _ hne

theorem State.flag_putFlag_ne (m : Nat) (b : Bool) (n : Nat) (hne : p ≠ o) : (s.putFlag o m b).flag p n = s.flag p n :=
  State.flag_setRg_ne s _ n hne

theorem State.fld_setFlag_other (m hi lo : Nat) (hm : m < 32) (happart : hi < m ∨ m < lo) :
    (s.setFlag o m).fld o hi lo = s.fld o hi lo :=
  State.fld_setFld_other s o m m 1 hi lo (Nat.le_refl m) hm (by omega)

theorem State.fld_clrFlag_other (m hi lo : Nat) (hm : m < 32) (happart : hi < m ∨ m < lo) :
    (s.clrFlag o m).fld o hi lo = s.fld o hi lo :=
  State.fld_setFld_other s o m m 0 hi lo (Nat.le_refl m) hm (by omega)

theorem State.fld_putFlag_other (m : Nat) (b : Bool) (hi lo : Nat) (hm : m < 32) (happart : hi < m ∨ m < lo) :
    (s.putFlag o m b).fld o hi lo = s.fld o hi lo :=
  State.fld_setFld_other s o m m (b2n b) hi lo (Nat.le_refl m) hm (by omega)

end

theorem State.ringX_setRingX_self (s : State) (r : Nat) (x : RingX) : (s.setRingX r x).ringX r = x := Tab.get_set_self _ _ _ _

/-! ### Doorbells (R70, R78, R82) -/

/-- A doorbell written reads back at once. -/
def State.rung (s : State) (r : Nat) (v : Word) : State := s.setRingX r { s.ringX r with doorbell := v.toNat }

section
variable {s : State} {r : Nat} {v : Word}

theorem State.pendSize_rung : ((s.rung r v).ringX r).pendSize = (s.ringX r).pendSize :=
  (congrArg RingX.pendSize (State.ringX_setRingX_self s r _)).trans rfl

/-- Whether an index is refused does not depend on what the doorbell reads. -/
theorem State.dbBad_rung (new : Nat) : (s.rung r v).dbBad r new = s.dbBad r new := by
  have hblocks : (s.rung r v).resizeBlocks r new = s.resizeBlocks r new := by
    rw [State.resizeBlocks, State.pendSize_rung]
    rfl
  rw [State.dbBad, hblocks]
  rfl

theorem State.ringDoorbell_of_reached (hreach : s.reaches .host = true) :
    s.ringDoorbell r v =
      if s.hostBehind || !s.host.dbHeld.isEmpty then
        { s.rung r v with host := { (s.rung r v).host with dbHeld := (s.rung r v).host.dbHeld ++ [(r, v)] } }
      else (s.rung r v).doorbell r v := by
  simp only [State.ringDoorbell, hreach, Bool.not_true, Bool.false_eq_true, if_false]
  rfl

theorem State.ringDoorbell_of_free (hreach : s.reaches .host = true) (hbehind : s.hostBehind = false) (hheld : s.host.dbHeld = []) :
    s.ringDoorbell r v = (s.rung r v).doorbell r v := by
  rw [State.ringDoorbell_of_reached hreach, hbehind, hheld]
  rfl

theorem State.dbBad_of_outside {new : Nat} (hout : s.ringSize r ≤ new) : s.dbBad r new = true := by
  simp only [State.dbBad, hout, if_true]

theorem State.doorbell_of_bad (hbad : s.dbBad r (bits v 15 0) = true) : s.doorbell r v = s.ringFlag r 3 := by
  simp only [State.doorbell, hbad, if_true]

/-- With no resize pending, an index that is not refused is loaded. -/
theorem State.doorbell_of_ok (hok : s.dbBad r (bits v 15 0) = false) (hresize : s.resizing r = false) :
    s.doorbell r v = (s.setFld (rIdx r) 15 0 (bits v 15 0)).ringRefresh r := by
  have hne : rStat r ≠ rIdx r := Nat.ne_of_gt (by simp only [rStat, rIdx]; omega)
  have hkept : ((s.setFld (rIdx r) 15 0 (bits v 15 0)).ringRefresh r).resizing r = false := by
    rw [State.resizing, State.ringRefresh, State.flag_putFlag_other _ _ _ _ _ (by decide) (by decide),
      State.flag_setFld_ne _ _ _ _ _ hne]
    exact hresize
  simp only [State.doorbell, hok, Bool.false_eq_true, if_false, State.applyResize, hkept, Bool.false_and]

end

/-! ### The head of one of rings 0 to 3 (R79, R80, R88, R93, R98) -/

/-- Of a list of one head, the engine of its ring takes it. -/
theorem State.takeFrom_one {s : State} {h : Head} (hmay : s.mayTake h = true) (r : Nat) :
    s.takeFrom [h] (fun k => k == r) = if h.ring.val = r then some h else none := by
  by_cases hr : h.ring.val = r
  · subst hr
    simp only [State.takeFrom, List.find?_cons, beq_self_eq_true, hmay, Bool.and_self, if_true]
  · simp only [State.takeFrom, List.find?_cons, beq_eq_false_iff_ne.2 hr, Bool.false_and, List.find?_nil, hr, if_false]

/-- The engines of other rings leave it. -/
theorem State.takeFrom_of_otherRing (s : State) {h : Head} {r : Nat} (hne : h.ring.val ≠ r) :
    s.takeFrom [h] (fun k => k == r) = none := by
  simp only [State.takeFrom, List.find?_cons, beq_eq_false_iff_ne.2 hne, Bool.false_and, List.find?_nil]

theorem State.take_one {s : State} {h : Head} (hring : h.ring.val < 4) (hmay : s.mayTake h = true) : s.take [h] = s.takeHead h := by
  have hmain : ([0, 1, 2, 3] : List Nat).findSome? (fun r => s.takeFrom [h] (fun k => k == r)) = some h := by
    have hcases : h.ring.val = 0 ∨ h.ring.val = 1 ∨ h.ring.val = 2 ∨ h.ring.val = 3 := by omega
    rcases hcases with hr | hr | hr | hr <;> simp [State.takeFrom_one hmay, hr]
  have hother (t : State) (r : Nat) (hr : 6 ≤ r) : t.takeFrom [h] (fun k => k == r) = none :=
    t.takeFrom_of_otherRing (by omega)
  simp [State.take, hmain, ownEngines, hother]

/-- R88: an opcode that its ring accepts is in progress once its head is taken. -/
theorem State.begin_of_known {s : State} {src : Src} {opc : Nat} {d : Desc} (hring : opcodeOnRing opc src.ringNo = true)
    (hopc : opcodes.contains opc = true) : s.begin src opc d (s.cqOf src.ringNo) = s.begun src opc d := by
  simp only [State.begin, hring, hopc, Bool.and_self, if_true, State.begun]

/-! ### Safety records kept back (Table 2.12, R472) -/

theorem State.safeDrain_of_noRoom {s : State} (hroom : s.ringRoom 27 = false) (f : Nat) : State.safeDrain (f + 1) s = s := by
  rw [State.safeDrain]
  cases s.safe.log with
  | nil => rfl
  | cons r l => simp only [hroom, Bool.false_eq_true, if_false]

theorem State.safeDrain_of_empty {s : State} (hlog : s.safe.log = []) (f : Nat) : State.safeDrain f s = s := by
  cases f with
  | zero => rfl
  | succ f => simp only [State.safeDrain, hlog]

/-- Settles O6: each clause is the branch of the ring's operation that its hypotheses choose. -/
theorem ringCommands : Obligations.RingCommands := by
  refine ⟨?_, ?_, ?_, ?_, ?_, ?_, ?_, ?_, ?_⟩
  · intro s r v hreach hok hresize hbehind hheld
    refine congrArg Host.Outcome.next ((State.ringDoorbell_of_free hreach hbehind hheld).trans ?_)
    exact State.doorbell_of_ok ((State.dbBad_rung _).trans hok) hresize
  · intro s r v hreach hout hbehind hheld
    refine congrArg Host.Outcome.next ((State.ringDoorbell_of_free hreach hbehind hheld).trans ?_)
    exact State.doorbell_of_bad ((State.dbBad_rung _).trans (State.dbBad_of_outside hout))
  · intro s r v hreach hwaits
    refine ⟨_, rfl, congrArg Host.Outcome.next ((State.ringDoorbell_of_reached hreach).trans (if_pos ?_))⟩
    rcases hwaits with hbehind | hheld
    · rw [hbehind, Bool.true_or]
    · rw [List.isEmpty_eq_false_iff.2 hheld, Bool.not_false, Bool.or_true]
  · intro s h hring hmay hopc hknown
    refine ⟨_, rfl, congrArg Host.Outcome.next ((State.take_one hring hmay).trans ?_)⟩
    exact State.begin_of_known (src := .ring h.ring) hopc hknown
  · intro s r hen hrun
    exact congrArg Host.Outcome.next (if_pos (by rw [hen, hrun, Bool.and_self]))
  · intro s b hen hfull
    exact congrArg Host.Outcome.next (if_pos (by rw [hen, hfull, Bool.and_self]))
  · intro s r hrun hcount
    exact congrArg Host.Outcome.next (if_pos (by rw [hrun, bne_iff_ne.2 hcount, Bool.and_self]))
  · intro s x hlog hroom
    refine ⟨_, rfl, congrArg Host.Outcome.next ?_⟩
    have hfirst : State.safeDrain 257 s = State.safeDrain 256
        { s.pushRing 27 (x.take 8 ++ leBytes 4 s.cycle.toNat ++ x.drop 12) with
          safe := { (s.pushRing 27 (x.take 8 ++ leBytes 4 s.cycle.toNat ++ x.drop 12)).safe with log := [] } } := by
      rw [State.safeDrain, hlog]
      simp only [hroom, if_true]
    exact hfirst.trans (State.safeDrain_of_empty rfl _)
  · intro s hroom
    exact congrArg Host.Outcome.next (State.safeDrain_of_noRoom hroom 256)

end Sys2Proof.Machine

/-! RING_CFG, RING_IRQ, HOST_CTL and the MSI-X table, written by the host (R67, R84, R85, R92, R96, R99). -/

namespace Sys2Proof.Machine

open Sys2Proof

/-! ### Bits of words -/

theorem testBit_bits (w : Word) (hi lo i : Nat) : (bits w hi lo).testBit i = (decide (i < hi + 1 - lo) && w.getLsbD (lo + i)) := by
  rw [bits, field, Nat.testBit_mod_two_pow, Nat.testBit_shiftRight, BitVec.getLsbD]

/-- A field depends on its own bits only. -/
theorem bits_congr {x y : Word} {hi lo : Nat} (hsame : ∀ i, lo ≤ i → i ≤ hi → x.getLsbD i = y.getLsbD i) :
    bits x hi lo = bits y hi lo := by
  apply Nat.eq_of_testBit_eq
  intro i
  rw [testBit_bits, testBit_bits]
  by_cases hin : i < hi + 1 - lo
  · rw [hsame (lo + i) (by omega) (by omega)]
  · simp only [hin, decide_false, Bool.false_and]

theorem bits_putBits_self (w : Word) (hi lo v : Nat) (hle : lo ≤ hi) (hlt : hi < 32) :
    bits (putBits w hi lo v) hi lo = v % 2 ^ (hi + 1 - lo) := by
  apply Nat.eq_of_testBit_eq
  intro i
  rw [testBit_bits, Nat.testBit_mod_two_pow]
  by_cases hin : i < hi + 1 - lo
  · rw [getLsbD_putBits w hi lo v _ hle hlt, if_pos (by omega), Nat.add_sub_cancel_left]
  · simp only [hin, decide_false, Bool.false_and]

/-- A bit of a word whose bits `m` are replaced by those of `v`. -/
theorem getLsbD_replaced (x v m : Word) {i : Nat} (hi : i < 32) :
    ((x &&& ~~~m) ||| (v &&& m)).getLsbD i = if m.getLsbD i then v.getLsbD i else x.getLsbD i := by
  rw [BitVec.getLsbD_or, BitVec.getLsbD_and, BitVec.getLsbD_and, BitVec.getLsbD_not]
  cases m.getLsbD i <;> simp [hi]

/-- Two words that agree where a mask is set do not differ under it. -/
theorem differ_of_agree {x y m : Word} (hsame : ∀ i, i < 32 → m.getLsbD i = true → x.getLsbD i = y.getLsbD i) :
    differ x y m = false := by
  have heq : x &&& m = y &&& m := by
    apply BitVec.eq_of_getLsbD_eq
    intro i hi
    rw [BitVec.getLsbD_and, BitVec.getLsbD_and]
    cases hm : m.getLsbD i with
    | false => rw [Bool.and_false, Bool.and_false]
    | true => rw [hsame i hi hm]
  rw [differ, heq, bne_self_eq_false]

/-! ### The registers of a ring -/

section
variable (r : Fin 32) {k : Nat}

/-- Where the registers of a ring lie (Table 2.11). -/
theorem ringReg_place (hk : k < 0x20) (halign : k % 4 = 0) :
    (rBase r.val + k) % 0x400000 / 4 * 4 = rBase r.val + k ∧ (0x800000 + (rBase r.val + k)) % 0x400000 / 4 * 4 = rBase r.val + k ∧
      (0x800000 + (rBase r.val + k)) / 0x400000 % 4 = 2 ∧ (rBase r.val + k) / 0x400000 % 4 = 0 ∧ (rBase r.val + k) / 0x10000 = 1 ∧
      0x400 ≤ (rBase r.val + k) % 0x10000 ∧ (rBase r.val + k) % 0x10000 < 0x800 ∧ (rBase r.val + k) % 0x10000 % 0x20 = k ∧
      ((rBase r.val + k) % 0x10000 - 0x400) / 0x20 = r.val := by
  have := r.isLt
  simp only [rBase, HOST_B]
  omega

theorem State.guarded_ringReg (s : State) (hk : k < 0x20) (halign : k % 4 = 0) (old new : Word) :
    s.guarded (rBase r.val + k) old new =
      if s.ringEn r.val && differ old new (if k < 0x10 then 0xFFFFFFFF else if k = 0x10 then 0xE00 else 0) then
        some (s.setFlag (rStat r.val) 7) else none := by
  obtain ⟨-, -, -, -, hblock, hlo, hhi, hreg, hring⟩ := ringReg_place r hk halign
  simp only [State.guarded, hblock, hlo, hhi, hreg, hring, decide_true, Bool.and_self, if_true]

end

theorem domainOf_ringReg : ∀ r : Fin 32, domainOf (rCfg r.val) = some 5 ∧ domainOf (rIrq r.val) = some 5 := by decide

/-- The fields of RING_CFG (Table 2.9). -/
def rCfgFields : List Fld := [rw 0 0, wo 1 1, rw 8 4 4, (rw 11 9).only [0, 1, 2, 3, 4], rw 12 12]

theorem regFields_rCfg : ∀ r : Fin 32, regFields (rCfg r.val) = rCfgFields := by decide

theorem regFields_rIrq : ∀ r : Fin 32, regFields (rIrq r.val) = [rw 7 0 1, rw 23 8, rw 31 31] := by decide

theorem State.regOff_of_domain {s : State} {off c : Nat} (hdomain : domainOf off = some c) : s.regOff off = !s.powered c := by
  simp only [State.regOff, hdomain]

/-! ### RING_CFG -/

section
variable {s : State} {boff : Nat} (r : Fin 32) {b : BitWrite}

theorem State.fieldWrite_rCfg {m : Word} {refused : Bool} (hoff : boff % 0x400000 / 4 * 4 = rCfg r.val)
    (hmask : rwBits rCfgFields (s.pendValue (rCfg r.val)) b = (m, refused)) (hm : m ≠ 0)
    (hguard : s.guarded (rCfg r.val) (s.pendValue (rCfg r.val)) ((s.pendValue (rCfg r.val) &&& ~~~m) ||| (b.val &&& m)) = none) :
    s.fieldWrite .host boff b false =
      (if refused then s.setFlag HOST_ERR 5 else s).ringCfgWrite r.val m b.val (b.normal && bit b.val 1) := by
  obtain ⟨-, -, -, -, hblock, hlo, hhi, hreg, hring⟩ := ringReg_place r (k := 0x10) (by decide) (by decide)
  have hovr (t : State) : t.setOvr (rCfg r.val) = t.setFlag HOST_ERR 5 := by
    simp only [State.setOvr, ovrFlag, hblock, Nat.reduceEqDiff, if_false]
  simp only [State.fieldWrite, hoff, State.fieldsAt_host hblock, State.writeBase_host hblock, regFields_rCfg r, hmask, hm, hguard, hovr,
    hblock, hlo, hhi, hreg, hring, decide_true, decide_false, Bool.and_false, Bool.and_self, Bool.false_eq_true, if_true, if_false]

end

/-- From `s` to `t` only fields of RING_CFG of a ring, not EN and LOG2SIZE, and HOST_ERR have changed. -/
structure CfgApart (r : Nat) (s t : State) : Prop where
  out : t.out = s.out
  host : t.host = s.host
  en : t.ringEn r = s.ringEn r
  size : t.fld (rCfg r) 8 4 = s.fld (rCfg r) 8 4
  rg : ∀ o, o ≠ rCfg r → o ≠ HOST_ERR → t.rg o = s.rg o

namespace CfgApart

variable {r : Nat} {s t u : State}

theorem refl : CfgApart r s s := ⟨rfl, rfl, rfl, rfl, fun _ _ _ => rfl⟩

theorem trans (h : CfgApart r s t) (k : CfgApart r t u) : CfgApart r s u :=
  ⟨k.out.trans h.out, k.host.trans h.host, k.en.trans h.en, k.size.trans h.size, fun o ho hne => (k.rg o ho hne).trans (h.rg o ho hne)⟩

theorem ite {c : Prop} [Decidable c] (h : CfgApart r s t) (k : CfgApart r s u) : CfgApart r s (if c then t else u) := by
  split <;> assumption

theorem hostErr (n : Nat) : CfgApart r s (s.setFlag HOST_ERR n) := by
  have hne : rCfg r ≠ HOST_ERR := Nat.ne_of_gt (by simp only [rCfg, rBase, HOST_ERR, HOST_B]; omega)
  exact ⟨rfl, rfl, State.flag_setFlag_ne _ _ _ hne, State.fld_setFlag_ne _ _ _ _ hne, fun o _ ho => State.rg_setFlag_ne _ _ _ _ ho⟩

theorem field {hi lo : Nat} (v : Nat) (hle : lo ≤ hi) (hlt : hi < 32) (hlo : 8 < lo) : CfgApart r s (s.setFld (rCfg r) hi lo v) :=
  ⟨rfl, rfl, State.flag_setFld_other _ _ _ _ _ _ hle hlt (by omega), State.fld_setFld_other _ _ _ _ _ _ _ hle hlt (by omega),
    fun o ho _ => State.rg_setFld_ne _ _ _ _ _ _ ho⟩

end CfgApart

/-- ESIZE, CQ and a refused size of a write of RING_CFG; `State.ringCfgWrite_eq` ties it to the model. -/
def State.cfgFields (s : State) (r : Nat) (m v : Word) : State :=
  let n := bits ((s.rg (rCfg r) &&& ~~~m) ||| (v &&& m)) 8 4
  let s := if m &&& 0x1F0 != 0 && !(4 ≤ n && n ≤ 16) then s.setOvr (rCfg r) else s
  let s := if selectable r then s.setFld (rCfg r) 11 9 (bits ((s.rg (rCfg r) &&& ~~~m) ||| (v &&& m)) 11 9) else s
  if isReport r then s else s.setFld (rCfg r) 12 12 (bits ((s.rg (rCfg r) &&& ~~~m) ||| (v &&& m)) 12 12)

theorem State.cfgFields_apart (s : State) (r : Fin 32) (m v : Word) : CfgApart r.val s (s.cfgFields r.val m v) := by
  have hovr : s.setOvr (rCfg r.val) = s.setFlag HOST_ERR 5 := by
    obtain ⟨-, -, -, -, hblock, -⟩ := ringReg_place r (k := 0x10) (by decide) (by decide)
    simp only [State.setOvr, ovrFlag, hblock, Nat.reduceEqDiff, if_false]
  unfold State.cfgFields
  rw [hovr]
  have hsize (c : Bool) : CfgApart r.val s (if c then s.setFlag HOST_ERR 5 else s) := CfgApart.ite (CfgApart.hostErr 5) CfgApart.refl
  have hesize (t : State) (c : Bool) (n : Nat) : CfgApart r.val t (if c then t.setFld (rCfg r.val) 11 9 n else t) :=
    CfgApart.ite (CfgApart.field n (by decide) (by decide) (by decide)) CfgApart.refl
  have hcq (t : State) (c : Bool) (n : Nat) : CfgApart r.val t (if c then t else t.setFld (rCfg r.val) 12 12 n) :=
    CfgApart.ite CfgApart.refl (CfgApart.field n (by decide) (by decide) (by decide))
  exact ((hsize _).trans (hesize _ _ _)).trans (hcq _ _ _)

/-- What follows ESIZE and CQ: the size, EN and RST. -/
theorem State.ringCfgWrite_eq (s u : State) (r : Nat) (m v : Word) (rst : Bool) (n : Nat) (hu : u = s.cfgFields r m v)
    (hn : n = bits ((s.rg (rCfg r) &&& ~~~m) ||| (v &&& m)) 8 4) :
    s.ringCfgWrite r m v rst =
      let t := if m &&& 0x1F0 != 0 && (4 ≤ n && n ≤ 16) then (if s.ringEn r then u.ringResize r n else u.setFld (rCfg r) 8 4 n) else u
      let t := if bit m 0 then
          if bit v 0 then (if s.ringEn r then t else (t.setFlag (rCfg r) 0).ringStart r) else if s.ringEn r then t.ringStop r else t
        else t
      if rst && !s.ringEn r then (if t.ringEn r then ((t.clrFlag (rCfg r) 0).ringRst r).setFlag (rCfg r) 0 else t.ringRst r) else t := by
  rw [hu, hn]
  rfl

section
variable {s : State} {m v : Word} (r : Fin 32)

/-- RST with EN 0 and no EN written resets the ring, whatever the write does to the other fields. -/
theorem State.ringCfgWrite_rst (hdisabled : s.ringEn r.val = false) (hv : bit v 0 = false) :
    ∃ u : State, s.ringCfgWrite r.val m v true = u.ringRst r.val ∧ u.ringEn r.val = false ∧ u.out = s.out := by
  have hfields := s.cfgFields_apart r m v
  rw [State.ringCfgWrite_eq s _ r.val m v true _ rfl rfl]
  generalize hn : bits ((s.rg (rCfg r.val) &&& ~~~m) ||| (v &&& m)) 8 4 = n
  generalize s.cfgFields r.val m v = u at hfields
  have hsized : ∃ t, (if m &&& 0x1F0 != 0 && (decide (4 ≤ n) && decide (n ≤ 16)) then u.setFld (rCfg r.val) 8 4 n else u) = t ∧
      t.ringEn r.val = false ∧ t.out = s.out := by
    have hen := hfields.en.trans hdisabled
    split
    · exact ⟨_, rfl, (State.flag_setFld_other _ _ _ _ _ _ (by decide) (by decide) (by decide)).trans hen, hfields.out⟩
    · exact ⟨_, rfl, hen, hfields.out⟩
  obtain ⟨t, ht, hen, hout⟩ := hsized
  refine ⟨t, ?_, hen, hout⟩
  simp only [hdisabled, hv, Bool.false_eq_true, if_false, ht, ite_self, hen, Bool.not_false, Bool.and_self, if_true]

/-- EN written 0 stops the ring. -/
theorem State.ringCfgWrite_stop (henabled : s.ringEn r.val = true) (hsize : m &&& 0x1F0 = 0) (hm : bit m 0 = true) (hv : bit v 0 = false) :
    ∃ u : State, s.ringCfgWrite r.val m v false = u.ringStop r.val ∧ CfgApart r.val s u := by
  refine ⟨_, ?_, s.cfgFields_apart r m v⟩
  rw [State.ringCfgWrite_eq s _ r.val m v false _ rfl rfl]
  simp only [hsize, henabled, hm, hv, bne_self_eq_false, Bool.false_and, Bool.false_eq_true, if_false, if_true]

/-- A new size, EN kept at 1, waits for the consumer index. -/
theorem State.ringCfgWrite_resize {n : Nat} {rst : Bool} (henabled : s.ringEn r.val = true) (hsize : m &&& 0x1F0 ≠ 0) (hv : bit v 0 = true)
    (hn : bits ((s.rg (rCfg r.val) &&& ~~~m) ||| (v &&& m)) 8 4 = n) (hmin : 4 ≤ n) (hmax : n ≤ 16) :
    ∃ u : State, s.ringCfgWrite r.val m v rst = u.ringResize r.val n ∧ CfgApart r.val s u := by
  refine ⟨_, ?_, s.cfgFields_apart r m v⟩
  rw [State.ringCfgWrite_eq s _ r.val m v rst _ rfl rfl, hn]
  simp only [bne_iff_ne.2 hsize, hmin, hmax, henabled, hv, decide_true, Bool.and_self, Bool.not_true, Bool.and_false, Bool.false_eq_true,
    ite_self, if_false, if_true]

end

section
variable {u : State} (r : Fin 32)

theorem rIdx_ne (r : Nat) : rIdx r ≠ rStat r ∧ rIdx r ≠ rCfg r ∧ rCfg r ≠ rStat r ∧ rIdx r ≠ HOST_ERR ∧ rStat r ≠ HOST_ERR := by
  simp only [rIdx, rStat, rCfg, rBase, HOST_ERR, HOST_B]
  omega

theorem State.ringRst_facts {r : Nat} (hdisabled : u.ringEn r = false) :
    (u.ringRst r).rg (rIdx r) = 0 ∧ ((u.ringRst r).ringX r).unsignalled = 0 ∧ (u.ringRst r).resizing r = false ∧
      (u.ringRst r).ringEn r = false ∧ (u.ringRst r).out = u.out := by
  obtain ⟨hstat, hcfg, hcs, -, -⟩ := rIdx_ne r
  have hrst : u.ringRst r = ((((u.setRg (rIdx r) 0).setRingX r { u.ringX r with unsignalled := 0, holdRun := false }).clrFlag
      (rStat r) 1).ringRefresh r) := if_neg (by rw [hdisabled]; exact Bool.false_ne_true)
  rw [hrst]
  refine ⟨?_, ?_, ?_, ?_, rfl⟩
  · rw [State.ringRefresh, State.rg_putFlag_ne _ _ _ hstat, State.rg_clrFlag_ne _ _ _ _ hstat]
    exact State.rg_setRg_self u (rIdx r) 0
  · exact congrArg RingX.unsignalled (State.ringX_setRingX_self (u.setRg (rIdx r) 0) r _)
  · rw [State.resizing, State.ringRefresh, State.flag_putFlag_other _ _ _ _ _ (by decide) (by decide),
      State.flag_clrFlag_self _ _ _ (by decide)]
  · rw [State.ringEn, State.ringRefresh, State.flag_putFlag_ne _ _ _ _ hcs, State.flag_clrFlag_ne _ _ _ hcs]
    exact (State.flag_setRg_ne u 0 0 hcfg.symm).trans hdisabled

theorem State.ringStop_facts (u : State) (r : Nat) :
    (u.ringStop r).ringEn r = false ∧ (u.ringStop r).flag (rStat r) 0 = false ∧ (u.ringStop r).rg (rIdx r) = u.rg (rIdx r) ∧
      (u.ringStop r).host = u.host := by
  obtain ⟨hstat, hcfg, hcs, -, -⟩ := rIdx_ne r
  refine ⟨?_, State.flag_clrFlag_self _ _ _ (by decide), ?_, rfl⟩
  · exact (State.flag_clrFlag_ne _ _ _ hcs).trans (State.flag_clrFlag_self u (rCfg r) 0 (by decide))
  · exact (State.rg_clrFlag_ne _ _ _ _ hstat).trans (State.rg_clrFlag_ne u _ _ _ hcfg)

theorem State.ringResize_facts {r n : Nat} (hnew : n ≠ u.fld (rCfg r) 8 4) :
    (u.ringResize r n).resizing r = true ∧ ((u.ringResize r n).ringX r).pendSize = n ∧ (u.ringResize r n).ringSize r = u.ringSize r ∧
      (u.ringResize r n).ringEn r = u.ringEn r := by
  obtain ⟨-, -, hcs, -, -⟩ := rIdx_ne r
  rw [State.ringResize, if_neg hnew]
  refine ⟨State.flag_setFlag_self _ _ _ (by decide), ?_, ?_, State.flag_setFlag_ne _ _ _ hcs⟩
  · exact congrArg RingX.pendSize (State.ringX_setRingX_self u r _)
  · exact congrArg (2 ^ ·) (State.fld_setFlag_ne _ _ _ _ hcs)

end

/-- A NORMAL write of RING_CFG takes every RW field but a reserved entry size. -/
theorem rwBits_rCfg_normal (cur v : Word) :
    ∃ m refused, rwBits rCfgFields cur (windowWrite 0 v) = (m, refused) ∧ (m = 0x1FF1 ∨ m = 0x11F1) := by
  have hfree : ∀ (hi lo reset : Nat), (rw hi lo reset).free := fun _ _ _ => ⟨rfl, rfl, rfl, rfl⟩
  have hesize : ((rw 11 9).only [0, 1, 2, 3, 4]).mask &&& (windowWrite 0 v).sel ≠ 0 := by
    show ((rw 11 9).only [0, 1, 2, 3, 4]).mask &&& (0xFFFFFFFF : Word) ≠ 0
    decide
  simp only [rwBits_eq, rCfgFields, List.foldl_cons, List.foldl_nil, rwStep_of_free cur _ (hfree _ _ _) rfl,
    rwStep_of_readOnly cur _ (show (wo 1 1).isRw = false from rfl), rwStep_of_selected cur _ rfl hesize]
  rw [show (windowWrite 0 v).sel = 0xFFFFFFFF from rfl]
  split
  · exact ⟨_, _, rfl, Or.inl (by decide)⟩
  · exact ⟨_, _, rfl, Or.inr (by decide)⟩

/-- The CLR window on EN alone. -/
theorem rwBits_rCfg_clearEn (cur : Word) : rwBits rCfgFields cur (windowWrite 2 1) = (1, false) := by
  have hfree : ∀ (hi lo reset : Nat), (rw hi lo reset).free := fun _ _ _ => ⟨rfl, rfl, rfl, rfl⟩
  simp only [rwBits_eq, rCfgFields, List.foldl_cons, List.foldl_nil, rwStep_of_free cur _ (hfree _ _ _) rfl,
    rwStep_of_readOnly cur _ (show (wo 1 1).isRw = false from rfl),
    rwStep_of_unselected cur _ (show ((rw 11 9).only [0, 1, 2, 3, 4]).mask &&& (windowWrite 2 1).sel = 0 by decide)]
  rw [show (windowWrite 2 1).sel = 1 from rfl]
  decide

/-! ### RING_CFG, written by the host -/

section
variable {s : State} (r : Fin 32) (hreach : s.reaches .host = true) (hon : s.powered 5 = true)
include hreach hon

/-- The host's writes of a ring's register come to `fieldWrite`. -/
theorem State.busWrite_ringReg {k boff win : Nat} (hk : k < 0x20) (halign : k % 4 = 0) (hdomain : domainOf (rBase r.val + k) = some 5)
    (hoff : boff % 0x400000 / 4 * 4 = rBase r.val + k) (hwin : boff / 0x400000 % 4 = win) (v : Word) :
    s.busWrite .host boff v true false = s.fieldWrite .host boff (windowWrite win v) false := by
  obtain ⟨-, -, -, -, hblock, -⟩ := ringReg_place r hk halign
  refine State.busWrite_plain hreach hoff hwin ?_ ?_ ?_ (Or.inr ?_)
  · rw [State.regOff_of_domain hdomain, hon, Bool.not_true]
  · simp only [guardGroup, hblock]
  · rw [hblock]
    decide
  · simp only [State.actionWrite, hblock]

/-- A NORMAL write of RING_CFG that keeps a running ring's entry size: EN, RST and the size are what is left of it. -/
theorem State.busWrite_rCfg_normal {v : Word} (hpend : s.pendValue (rCfg r.val) = s.rg (rCfg r.val))
    (hkeep : ∀ i, 9 ≤ i → i ≤ 11 → v.getLsbD i = (s.rg (rCfg r.val)).getLsbD i) :
    ∃ (u : State) (m : Word), s.busWrite .host (rCfg r.val) v true false = u.ringCfgWrite r.val m v (bit v 1) ∧
      CfgApart r.val s u ∧ (m = 0x1FF1 ∨ m = 0x11F1) := by
  obtain ⟨hoff, -, -, hwin, -⟩ := ringReg_place r (k := 0x10) (by decide) (by decide)
  obtain ⟨m, refused, hmask, hm⟩ := rwBits_rCfg_normal (s.pendValue (rCfg r.val)) v
  refine ⟨if refused then s.setFlag HOST_ERR 5 else s, m, ?_, CfgApart.ite (CfgApart.hostErr 5) CfgApart.refl, hm⟩
  rw [State.busWrite_ringReg r hreach hon (k := 0x10) (by decide) (by decide) (domainOf_ringReg r).1 hoff hwin]
  refine State.fieldWrite_rCfg r hoff hmask ?_ ?_
  · rcases hm with rfl | rfl <;> decide
  · rw [State.guarded_ringReg r s (k := 0x10) (by decide) (by decide), hpend, differ_of_agree ?_, Bool.and_false]
    · exact if_neg Bool.false_ne_true
    intro i hi hbit
    rw [getLsbD_replaced _ _ _ hi]
    have hin : 9 ≤ i ∧ i ≤ 11 := by
      revert hbit hi
      revert i
      decide
    show _ = if m.getLsbD i then v.getLsbD i else _
    rw [hkeep i hin.1 hin.2, ite_self]

/-- RING_RESET (R84). -/
theorem State.busWrite_rCfg_rst (hdisabled : s.ringEn r.val = false) (hpend : s.pendValue (rCfg r.val) = s.rg (rCfg r.val)) :
    ∃ u : State, s.busWrite .host (rCfg r.val) ((s.rg (rCfg r.val) &&& 0xFFFFFFFE) ||| 2) true false = u.ringRst r.val ∧
      u.ringEn r.val = false ∧ u.out = s.out := by
  generalize hv : (s.rg (rCfg r.val) &&& 0xFFFFFFFE) ||| 2 = v
  have hbits (i : Nat) : v.getLsbD i = ((s.rg (rCfg r.val)).getLsbD i && (0xFFFFFFFE : Word).getLsbD i || (2 : Word).getLsbD i) := by
    rw [← hv, BitVec.getLsbD_or, BitVec.getLsbD_and]
  have hen : bit v 0 = false := (hbits 0).trans (by rw [show (0xFFFFFFFE : Word).getLsbD 0 = false from rfl, Bool.and_false]; rfl)
  have hrst : bit v 1 = true := (hbits 1).trans (Bool.or_true _)
  have hkeep (i : Nat) (hlo : 9 ≤ i) (hhi : i ≤ 11) : v.getLsbD i = (s.rg (rCfg r.val)).getLsbD i := by
    have hones : (0xFFFFFFFE : Word).getLsbD i = true ∧ (2 : Word).getLsbD i = false := by
      revert hlo
      revert hhi
      revert i
      decide
    rw [hbits, hones.1, hones.2, Bool.and_true, Bool.or_false]
  obtain ⟨u, m, heq, hu, -⟩ := State.busWrite_rCfg_normal r hreach hon hpend hkeep
  obtain ⟨t, ht, htEn, htOut⟩ := State.ringCfgWrite_rst r (s := u) (m := m) (hu.en.trans hdisabled) hen
  exact ⟨t, by rw [heq, hrst, ht], htEn, htOut.trans hu.out⟩

/-- RING_RESIZE_REQUEST (R85). -/
theorem State.busWrite_rCfg_resize {n : Nat} (henabled : s.ringEn r.val = true) (hpend : s.pendValue (rCfg r.val) = s.rg (rCfg r.val))
    (hmin : 4 ≤ n) (hmax : n ≤ 16) :
    ∃ u : State, s.busWrite .host (rCfg r.val) (putBits (s.rg (rCfg r.val)) 8 4 n) true false = u.ringResize r.val n ∧
      CfgApart r.val s u := by
  have hother (i : Nat) (h : i < 4 ∨ 8 < i) : (putBits (s.rg (rCfg r.val)) 8 4 n).getLsbD i = (s.rg (rCfg r.val)).getLsbD i := by
    rw [getLsbD_putBits _ _ _ _ _ (by decide) (by decide), if_neg (by omega)]
  obtain ⟨u, m, heq, hu, hm⟩ := State.busWrite_rCfg_normal r hreach hon hpend (fun i hlo hhi => hother i (by omega))
  have hen : bit (putBits (s.rg (rCfg r.val)) 8 4 n) 0 = true := (hother 0 (by decide)).trans henabled
  have hsize : bits ((u.rg (rCfg r.val) &&& ~~~m) ||| (putBits (s.rg (rCfg r.val)) 8 4 n &&& m)) 8 4 = n := by
    have hones (i : Nat) (hlo : 4 ≤ i) (hhi : i ≤ 8) : m.getLsbD i = true := by
      rcases hm with rfl | rfl <;> (revert hlo; revert hhi; revert i; decide)
    rw [bits_congr (y := putBits (s.rg (rCfg r.val)) 8 4 n), bits_putBits_self _ _ _ _ (by decide) (by decide),
      Nat.mod_eq_of_lt (by omega)]
    intro i hlo hhi
    rw [getLsbD_replaced _ _ _ (by omega), if_pos (hones i hlo hhi)]
  obtain ⟨t, ht, hut⟩ := State.ringCfgWrite_resize r (rst := bit (putBits (s.rg (rCfg r.val)) 8 4 n) 1) (hu.en.trans henabled)
    (by rcases hm with rfl | rfl <;> decide) hen hsize hmin hmax
  exact ⟨t, heq.trans ht, hu.trans hut⟩

/-- RING_DISABLE (R84). -/
theorem State.busWrite_rCfg_disable (henabled : s.ringEn r.val = true) :
    ∃ u : State, s.busWrite .host (0x800000 + rCfg r.val) 1 true false = u.ringStop r.val ∧ CfgApart r.val s u := by
  obtain ⟨-, hoff, hwin, -⟩ := ringReg_place r (k := 0x10) (by decide) (by decide)
  rw [State.busWrite_ringReg r hreach hon (k := 0x10) (by decide) (by decide) (domainOf_ringReg r).1 hoff hwin,
    State.fieldWrite_rCfg r hoff (rwBits_rCfg_clearEn _) (by decide) ?_]
  · exact State.ringCfgWrite_stop r henabled (by decide) rfl rfl
  rw [State.guarded_ringReg r s (k := 0x10) (by decide) (by decide), differ_of_agree ?_, Bool.and_false]
  · exact if_neg Bool.false_ne_true
  intro i hi hbit
  rw [getLsbD_replaced _ _ _ hi, if_neg]
  revert hbit hi
  revert i
  decide

end

/-! ### RING_IRQ and HOST_CTL -/

/-- A write through SET or CLR of one bit of a HOST register of free IMM fields, no RING_CFG. -/
theorem State.busWrite_bit {s : State} {boff off win : Nat} {v : Word} {fs : List Fld} {b : BitWrite}
    (hreach : s.reaches .host = true) (hon : s.regOff off = false)
    (hoff : boff % 0x400000 / 4 * 4 = off) (hwin : boff / 0x400000 % 4 = win) (hblock : off / 0x10000 = 1)
    (hnotCfg : off % 0x10000 < 0x400 ∨ off % 0x10000 % 0x20 ≠ 0x10) (hfields : regFields off = fs)
    (hfree : ∀ f ∈ fs, f.isRw = true → f.free) (hb : windowWrite win v = b) (halias : b.normal = false)
    (hmask : rwMask fs b.sel = v) (hv : v ≠ 0) (himm : v &&& fieldMask fs (fun f => f.cls == .imm) = v)
    (hkeel : fieldMask fs (fun f => f.cls == .keel) = 0) (hcyc : fieldMask fs (fun f => f.cls == .cyc) = 0)
    (hplan : fieldMask fs (fun f => f.cls == .plan) = 0)
    (hguard : ∀ new : Word, s.guarded off (s.pendValue off) new = none) :
    s.busWrite .host boff v true false = (s.setRg off ((s.rg off &&& ~~~v) ||| (b.val &&& v))).afterWrite off (s.rg off) b := by
  rw [State.busWrite_plain hreach hoff hwin hon, hb,
    State.fieldWrite_host (m := v) hoff hblock hnotCfg (by rw [hfields, rwBits_of_free hfree, hmask]) (Or.inr hv) (hguard _), hfields,
    State.takeWrite_imm s .host b false hoff (by rw [hblock]; decide) himm (by rw [hkeel]; exact BitVec.and_zero)
      (by rw [hcyc]; exact BitVec.and_zero) (by rw [hplan]; exact BitVec.and_zero), halias]
  · simp only [Bool.false_and, Bool.false_eq_true, if_false, hv]
  · simp only [guardGroup, hblock]
  · rw [hblock]
    decide
  · right
    simp only [State.actionWrite, hblock]

/-- A state whose register has the bits `m` of `v` differs nowhere else. -/
theorem State.setRg_replaced_facts (s : State) (off : Nat) (v m : Word) :
    (∀ n, n < 32 → (s.setRg off ((s.rg off &&& ~~~m) ||| (v &&& m))).flag off n =
      if m.getLsbD n then v.getLsbD n else s.flag off n) ∧
      (s.setRg off ((s.rg off &&& ~~~m) ||| (v &&& m))).host = s.host ∧
      ∀ o, o ≠ off → (s.setRg off ((s.rg off &&& ~~~m) ||| (v &&& m))).rg o = s.rg o := by
  refine ⟨fun n hn => ?_, rfl, fun o ho => State.rg_setRg_ne s _ _ _ ho⟩
  rw [State.flag, State.rg_setRg_self, bit, getLsbD_replaced _ _ _ hn]
  rfl

/-- RING_IRQ_UNMASK and MASKED (R99). -/
theorem State.busWrite_rIrq_unmask {s : State} (r : Fin 32) (hreach : s.reaches .host = true) (hon : s.powered 5 = true)
    (hmasked : s.flag (rIrq r.val) 31 = true) :
    ∃ u : State, u.flag (rIrq r.val) 31 = false ∧ u.host = s.host ∧ (∀ o, o ≠ rIrq r.val → u.rg o = s.rg o) ∧
      s.busWrite .host (0x800000 + rIrq r.val) 0x80000000 true false = u.ringUnmask r.val := by
  obtain ⟨-, hoff, hwin, -, hblock, hlo, hhi, hreg, hring⟩ := ringReg_place r (k := 0x1C) (by decide) (by decide)
  have honReg : s.regOff (rIrq r.val) = false := by rw [State.regOff_of_domain (domainOf_ringReg r).2, hon, Bool.not_true]
  have hguard (old new : Word) : s.guarded (rIrq r.val) old new = none := by
    rw [State.guarded_ringReg r s (k := 0x1C) (by decide) (by decide)]
    have hno : differ old new 0 = false := differ_of_agree (fun i _ h => absurd (h.symm.trans BitVec.getLsbD_zero) (by decide))
    exact if_neg (by simp only [Nat.reduceLT, Nat.reduceEqDiff, if_false, hno, Bool.and_false, Bool.false_eq_true, not_false_eq_true])
  obtain ⟨hflag, hhost, hrg⟩ := s.setRg_replaced_facts (rIrq r.val) 0 0x80000000
  have hclear := (hflag 31 (by decide)).trans (if_pos rfl)
  refine ⟨_, hclear, hhost, hrg, ?_⟩
  rw [State.busWrite_bit (b := ⟨0x80000000, 0, false⟩) hreach honReg hoff hwin hblock (Or.inr (by rw [hreg]; decide)) (regFields_rIrq r)
    (by decide) rfl rfl (by decide) (by decide) (by decide) (by decide) (by decide) (by decide) (hguard _)]
  have hset : (bit (s.rg (rIrq r.val)) 31) = true := hmasked
  have hnotCtl : rIrq r.val % 0x10000 ≠ 4 := by
    intro h
    have hsame : (rBase r.val + 0x1C) % 0x10000 = 4 := h
    omega
  have hdrop : (!BitVec.getLsbD (0 : Word) 31) = true := rfl
  simp only [State.afterWrite, hblock, hlo, hhi, hreg, hring, hset, hclear, hnotCtl, hdrop, decide_true, Bool.and_self, if_true, if_false]

/-- A write through SET or CLR of HOST_CTL by the host; `v` one of its two bits. -/
theorem State.busWrite_hostCtl {s : State} {boff win : Nat} {v : Word} {b : BitWrite} (hreach : s.reaches .host = true)
    (hon : s.powered 5 = true) (hoff : boff % 0x400000 / 4 * 4 = HOST_CTL) (hwin : boff / 0x400000 % 4 = win)
    (hb : windowWrite win v = b) (halias : b.normal = false) (hsel : b.sel = v) (hv : v = 1 ∨ v = 2) :
    s.busWrite .host boff v true false =
      (s.setRg HOST_CTL ((s.rg HOST_CTL &&& ~~~v) ||| (b.val &&& v))).afterWrite HOST_CTL (s.rg HOST_CTL) b := by
  have hfields : regFields HOST_CTL = [rw 0 0, rw 1 1] := rfl
  have honReg : s.regOff HOST_CTL = false := by rw [State.regOff_of_domain (show domainOf HOST_CTL = some 5 from rfl), hon, Bool.not_true]
  refine State.busWrite_bit hreach honReg hoff hwin rfl (Or.inl (by decide)) hfields (by decide) hb halias ?_ ?_ ?_
    (by decide) (by decide) (by decide) (fun _ => rfl)
  · rw [hsel]
    rcases hv with rfl | rfl <;> decide
  all_goals rcases hv with rfl | rfl <;> decide

theorem State.afterWrite_hostCtl (t : State) (old : Word) (b : BitWrite) :
    t.afterWrite HOST_CTL old b = if bit old 0 && !t.flag HOST_CTL 0 then t.releaseCyc else t := rfl

theorem State.releaseCyc_setRg_hostCtl (s : State) (w : Word) : (s.setRg HOST_CTL w).releaseCyc.host = s.releaseCyc.host := by
  have hrate : (s.setRg HOST_CTL w).rate = s.rate := State.fld_setRg_ne s _ _ _ (show NET_STAT ≠ HOST_CTL by decide)
  have hlate : (s.setRg HOST_CTL w).stagedLate = s.stagedLate := by
    rw [State.stagedLate, State.tCyc, hrate]
    rfl
  rw [State.releaseCyc, hlate]
  rfl

/-- CMD_PAUSE changes and nothing follows it. -/
theorem State.busWrite_cmdPause {s : State} {boff win : Nat} {val : Word} (hreach : s.reaches .host = true) (hon : s.powered 5 = true)
    (hoff : boff % 0x400000 / 4 * 4 = HOST_CTL) (hwin : boff / 0x400000 % 4 = win) (hb : windowWrite win 2 = ⟨2, val, false⟩) :
    s.busWrite .host boff 2 true false = s.setRg HOST_CTL ((s.rg HOST_CTL &&& ~~~2) ||| (val &&& 2)) := by
  obtain ⟨hflag, -, -⟩ := s.setRg_replaced_facts HOST_CTL val 2
  have hhold := (hflag 0 (by decide)).trans (if_neg (by decide))
  have hsame : bit (s.rg HOST_CTL) 0 = s.flag HOST_CTL 0 := rfl
  rw [State.busWrite_hostCtl hreach hon hoff hwin hb rfl rfl (Or.inr rfl), State.afterWrite_hostCtl, hsame, hhold, Bool.and_not_self]
  exact if_neg Bool.false_ne_true

/-- Of two values stored at one key the second one stands. -/
theorem Tab.set_set {α : Type} [DecidableEq α] (d : α) (t : Tab α) (k : Nat) (v w : α) :
    Tab.set d (Tab.set d t k v) k w = Tab.set d t k w := by
  have hlow : (Tab.set d t k v).filter (fun e => e.1 < k) = t.filter (fun e => e.1 < k) := by
    unfold Tab.set
    split <;> simp +contextual [List.filter_filter, List.filter_eq_nil_iff, Nat.lt_asymm]
  have hhigh : (Tab.set d t k v).filter (fun e => k < e.1) = t.filter (fun e => k < e.1) := by
    unfold Tab.set
    split <;> simp +contextual [List.filter_filter, List.filter_eq_nil_iff, Nat.le_of_lt]
  rw [Tab.set, hlow, hhigh, Tab.set]

/-- An entry of the MSI-X table written while no message is pending, or MSI-X disabled, only changes. -/
theorem State.msixUnmask_of_quiet {s : State} {v a x : Nat} (hreach : s.reaches .host = true) (hquiet : (s.msixV v).pba = false) :
    s.msixUnmask v a x = { s with host := { s.host with
      msix := Tab.set ({} : MsixV) s.host.msix v { addr := a, data := x, masked := false, pba := false } } } := by
  simp only [State.msixUnmask, hreach, if_true, State.msixStore, hquiet, Bool.false_and, Bool.false_eq_true, if_false]

/-- A pending message leaves as its mask ends (R96). -/
theorem State.msixUnmask_of_pending {s : State} {v a x : Nat} (hreach : s.reaches .host = true) (hpending : (s.msixV v).pba = true)
    (hon : s.host.msixOn = true) :
    s.msixUnmask v a x = ({ s with host := { s.host with
      msix := Tab.set ({} : MsixV) s.host.msix v { addr := a, data := x, masked := false, pba := false } } }).emit (.msix v a x) := by
  simp only [State.msixUnmask, hreach, if_true, State.msixStore, hpending, HostSt.msixOn, Bool.not_false, Bool.and_self, if_true] at hon ⊢
  simp only [hon, State.sendMsix, State.msixV, HostSt.msixOn, Tab.get_set_self, Tab.set_set]
  rfl

/-- Settles O7: a write of RING_CFG comes to `ringRst`, `ringStop` or `ringResize`, one of RING_IRQ or HOST_CTL changes its bit and
what follows it, and an MSI-X entry is stored. -/
theorem ringRegisters : Obligations.RingRegisters := by
  refine ⟨?_, ?_, ?_, ?_, ?_, ?_, ?_, ?_⟩
  · intro s r hreach hon hdisabled hpend
    obtain ⟨u, hwrite, hen, hout⟩ := State.busWrite_rCfg_rst r hreach hon hdisabled hpend
    obtain ⟨hidx, huns, hres, hen', hout'⟩ := State.ringRst_facts hen
    exact ⟨_, congrArg Host.Outcome.next hwrite, hidx, huns, hres, hen', hout'.trans hout⟩
  · intro s r hreach hon henabled
    obtain ⟨u, hwrite, hu⟩ := State.busWrite_rCfg_disable r hreach hon henabled
    obtain ⟨hen, hrun, hidx, hhost⟩ := u.ringStop_facts r.val
    obtain ⟨-, hcfg, -, herr, -⟩ := rIdx_ne r.val
    exact ⟨_, congrArg Host.Outcome.next hwrite, hen, hrun, hidx.trans (hu.rg _ hcfg herr), hhost.trans hu.host⟩
  · intro s r n hreach hon henabled hpend hmin hmax hnew
    obtain ⟨u, hwrite, hu⟩ := State.busWrite_rCfg_resize r hreach hon henabled hpend hmin hmax
    obtain ⟨hres, hpendSize, hsize, hen⟩ := State.ringResize_facts (u := u) (r := r.val) (hu.size.symm ▸ hnew)
    exact ⟨_, congrArg Host.Outcome.next hwrite, hres, hpendSize, hsize.trans (congrArg (2 ^ ·) hu.size), hen.trans (hu.en.trans henabled)⟩
  · intro s r hreach hon hmasked
    obtain ⟨u, hclear, hhost, hrg, hwrite⟩ := State.busWrite_rIrq_unmask r hreach hon hmasked
    have hringX : u.ringX r.val = s.ringX r.val := congrArg (fun h : HostSt => Tab.get ({} : RingX) h.rings r.val) hhost
    refine ⟨u, hclear, hhost, hrg, congrArg Host.Outcome.next (hwrite.trans ?_)⟩
    rw [State.ringUnmask, hringX]
  · intro s hreach hon hset
    obtain ⟨hflag, hhost, hrg⟩ := s.setRg_replaced_facts HOST_CTL 0 1
    have hclear := (hflag 0 (by decide)).trans (if_pos rfl)
    refine ⟨_, congrArg Host.Outcome.next (State.busWrite_hostCtl (win := 2) hreach hon rfl rfl rfl rfl rfl (Or.inl rfl)), ?_⟩
    have hold : bit (s.rg HOST_CTL) 0 = true := hset
    rw [State.afterWrite_hostCtl, hold, show (windowWrite 2 1).val = 0 from rfl, hclear,
      if_pos (show (true && !BitVec.getLsbD (0 : Word) 0) = true from rfl)]
    exact ⟨hclear, s.releaseCyc_setRg_hostCtl _, hrg⟩
  · intro s b hreach hon
    cases b with
    | true =>
      obtain ⟨hflag, hhost, hrg⟩ := s.setRg_replaced_facts HOST_CTL 0xFFFFFFFF 2
      exact ⟨_, congrArg Host.Outcome.next (State.busWrite_cmdPause (win := 1) hreach hon rfl rfl rfl),
        (hflag 1 (by decide)).trans (if_pos rfl), hhost, hrg⟩
    | false =>
      obtain ⟨hflag, hhost, hrg⟩ := s.setRg_replaced_facts HOST_CTL 0 2
      exact ⟨_, congrArg Host.Outcome.next (State.busWrite_cmdPause (win := 2) hreach hon rfl rfl rfl),
        (hflag 1 (by decide)).trans (if_pos rfl), hhost, hrg⟩
  · intro s v a x hreach hquiet
    exact congrArg Host.Outcome.next (State.msixUnmask_of_quiet hreach hquiet)
  · intro s v a x hreach hpending hon
    exact congrArg Host.Outcome.next (State.msixUnmask_of_pending hreach hpending hon)

end Sys2Proof.Machine

/-! The manifest and the section lists, written by the host, and the end of a list's check (R69, R241, R242). -/

namespace Sys2Proof.Machine

open Sys2Proof

/-! ### Writes of the LANE block -/

section
variable {s : State} {off : Nat} {v : Word}

theorem State.regOff_lane (hblock : off / 0x10000 = 6) (hlow : off % 0x10000 < 0x1000) (s : State) : s.regOff off = false := by
  have hsnap : isSnap off = false := by
    have hno : decide (0xF000 ≤ off % 0x10000) = false := decide_eq_false (by omega)
    simp only [isSnap, hno, Bool.and_false, Bool.false_and]
  simp only [State.regOff, domainOf, hsnap, hblock, Bool.false_eq_true, if_false]

/-- While no list is checked, a host write of the LANE block goes on at once unless it names customer lists. -/
theorem State.busWrite_lane (hreach : s.reaches .host = true) (hidle : s.checking = false) (hoff : off % 0x400000 / 4 * 4 = off)
    (hblock : off / 0x10000 = 6) (hlow : off % 0x10000 < 0x1000) :
    s.busWrite .host off v true false = match s.entryNamed off v with
      | [] => s.writeNow .host off v false
      | l => l.foldl State.startCheck { s with mem := { s.mem with entry := some { agent := .host, boff := off, word := some v } } } := by
  rw [State.busWrite_of_unguarded hreach (by rw [hoff]; exact State.regOff_lane hblock hlow s) (by rw [hoff]; simp only [guardGroup, hblock])]
  simp only [State.blockWrite, hidle, Bool.and_false, Bool.false_eq_true, if_false] <;> rfl

theorem State.entryNamed_of_outside (hoff : off % 0x400000 / 4 * 4 = off) (hout : off < LANE_B + 0x110 ∨ LANE_B + 0x200 ≤ off) :
    s.entryNamed off v = [] := by
  have hno : (decide (LANE_B + 0x110 ≤ off) && decide (off < LANE_B + 0x200)) = false := by
    rw [← Bool.decide_and, decide_eq_false_iff_not]
    omega
  simp only [State.entryNamed, hoff, hno, Bool.false_eq_true, if_false]

/-- A NORMAL write of ordinary fields of the LANE block. -/
theorem State.writeNow_lane {m : Word} (hoff : off % 0x400000 / 4 * 4 = off) (hwin : off / 0x400000 % 4 = 0) (hblock : off / 0x10000 = 6)
    (hplain : off % 0x10000 ≠ 8 ∧ off % 0x10000 ≠ 0xC) (hmask : rwBits (regFields off) (s.pendValue off) (windowWrite 0 v) = (m, false)) :
    s.writeNow .host off v false =
      match s.guarded off (s.pendValue off) ((s.pendValue off &&& ~~~m) ||| (v &&& m)) with
      | some t => t
      | none => s.takeWrite .host off (regFields off) m (windowWrite 0 v) false := by
  have hpval : isPval off = false := by simp only [isPval, hblock, Nat.reduceBEq, Bool.false_and]
  have hfields : s.fieldsAt off = regFields off := by
    simp only [State.fieldsAt, hblock, Nat.reduceEqDiff, decide_false, Bool.false_and, Bool.false_eq_true, if_false]
  have hbase : s.writeBase off = s.pendValue off := by simp only [State.writeBase, hpval, Bool.false_eq_true, if_false]
  simp only [State.writeNow, hoff, hwin, State.actionWrite, hblock, hplain.1, hplain.2, State.fieldWrite, hfields, hbase, hmask, hpval,
    Nat.reduceEqDiff, decide_false, Bool.false_and, Bool.false_eq_true, if_false, ite_self]
  rfl

/-- A taken write of fields of class PLAN alone. -/
theorem State.takeWrite_plan {a : Agent} {fs : List Fld} {m : Word} {b : BitWrite} {cmd : Bool} (hoff : off % 0x400000 / 4 * 4 = off)
    (hplan : m &&& fieldMask fs (fun f => f.cls == .plan) = m) (himm : m &&& fieldMask fs (fun f => f.cls == .imm) = 0)
    (hkeel : m &&& fieldMask fs (fun f => f.cls == .keel) = 0) (hcyc : m &&& fieldMask fs (fun f => f.cls == .cyc) = 0)
    (hones : fieldMask fs (fun f => f.acc == .w1c) = 0) (hm : m ≠ 0) (hnotEn : off ≠ PILOT_B + 0xC) :
    s.takeWrite a off fs m b cmd =
      (s.stagePlan { off := off, mask := m, val := b.val, defer := 0 }).afterWrite off (s.rg off) b := by
  have hclear (t : State) (w : Word) : t.clearOnes fs off w = t := by
    rw [State.clearOnes, hones]
    exact if_pos BitVec.and_zero
  have hnone (k : Word) : ((0 : Word) ||| 0) &&& ~~~k = 0 := by
    rw [show (0 : Word) ||| 0 = 0 from rfl]
    exact BitVec.zero_and
  simp only [State.takeWrite, hoff, hplan, himm, hkeel, hcyc, hm, hnone, ite_self, bne_self_eq_false, Bool.false_and,
    Bool.false_eq_true, if_false, if_true, State.enWritten, hnotEn, hclear]

end

/-! ### Section lists -/

/-- The fields of a customer list's registers and of LANE_ENTRY (Table 6.14). -/
def slistFields : List Fld := [plan 12 0, plan 15 15, plan 28 16, plan 31 31]
def entryFields : List Fld := [plan 5 0, plan 13 8, plan 21 16, plan 29 24]

theorem regFields_slist : ∀ (l : Fin 64) (p : Fin 4), 16 ≤ l.val →
    regFields (LANE_B + 0x400 + l.val * 0x10 + p.val * 4) = slistFields := by decide

theorem regFields_slist_standard : ∀ (l : Fin 64) (p : Fin 4), l.val < 16 →
    regFields (LANE_B + 0x400 + l.val * 0x10 + p.val * 4) = [ro 12 0, ro 15 15, ro 28 16, ro 31 31] := by decide

theorem regFields_entry : ∀ (e : Fin 16) (j : Fin 4), 1 ≤ e.val →
    regFields (LANE_B + 0x100 + e.val * 0x10 + j.val * 4) = entryFields := by decide

/-- Where the registers of a section list lie. -/
theorem slist_place (l : Fin 64) (p : Fin 4) :
    let off := LANE_B + 0x400 + l.val * 0x10 + p.val * 4
    off % 0x400000 / 4 * 4 = off ∧ off / 0x400000 % 4 = 0 ∧ off / 0x10000 = 6 ∧ off % 0x10000 = 0x400 + l.val * 0x10 + p.val * 4 ∧
      (off % 0x10000 - 0x400) / 0x10 = l.val := by
  have := l.isLt
  have := p.isLt
  simp only [LANE_B]
  omega

theorem entry_place (e : Fin 16) (j : Fin 4) :
    let off := LANE_B + 0x100 + e.val * 0x10 + j.val * 4
    off % 0x400000 / 4 * 4 = off ∧ off / 0x400000 % 4 = 0 ∧ off / 0x10000 = 6 ∧ off % 0x10000 = 0x100 + e.val * 0x10 + j.val * 4 := by
  have := e.isLt
  have := j.isLt
  simp only [LANE_B]
  omega

section
variable {s : State} {v : Word}

/-- A write of a section list is not guarded. -/
theorem State.writeNow_slist {m : Word} (l : Fin 64) (p : Fin 4)
    (hmask : rwBits (regFields (LANE_B + 0x400 + l.val * 0x10 + p.val * 4)) (s.pendValue (LANE_B + 0x400 + l.val * 0x10 + p.val * 4))
      (windowWrite 0 v) = (m, false)) :
    s.writeNow .host (LANE_B + 0x400 + l.val * 0x10 + p.val * 4) v false =
      s.takeWrite .host (LANE_B + 0x400 + l.val * 0x10 + p.val * 4) (regFields (LANE_B + 0x400 + l.val * 0x10 + p.val * 4)) m
        (windowWrite 0 v) false := by
  obtain ⟨hoff, hwin, hblock, hreg, -⟩ := slist_place l p
  have hguard (old new : Word) : s.guarded (LANE_B + 0x400 + l.val * 0x10 + p.val * 4) old new = none := by
    have hno : decide (0x400 + l.val * 0x10 + p.val * 4 < 0x200) = false := decide_eq_false (by omega)
    simp only [State.guarded, hblock, hreg, hno, Bool.and_false, Bool.false_and, Bool.false_eq_true, if_false]
  rw [State.writeNow_lane hoff hwin hblock (by rw [hreg]; omega) hmask, hguard]

/-- A customer list is staged and its check starts. -/
theorem State.writeNow_slist_customer (l : Fin 64) (p : Fin 4) (hcustomer : 16 ≤ l.val) :
    s.writeNow .host (LANE_B + 0x400 + l.val * 0x10 + p.val * 4) v false =
      (s.stagePlan { off := LANE_B + 0x400 + l.val * 0x10 + p.val * 4, mask := 0x9FFF9FFF, val := v, defer := 0 }).setFlag (slen l.val) 20 := by
  obtain ⟨hoff, -, hblock, hreg, hlist⟩ := slist_place l p
  have hfields := regFields_slist l p hcustomer
  have hmask := rwBits_of_free (fs := slistFields) (by decide) (s.pendValue (LANE_B + 0x400 + l.val * 0x10 + p.val * 4)) (windowWrite 0 v)
  rw [State.writeNow_slist l p (m := 0x9FFF9FFF) (by rw [hfields, hmask]; exact congrArg (·, false) (show rwMask slistFields 0xFFFFFFFF = 0x9FFF9FFF by decide)), hfields,
    State.takeWrite_plan hoff (by decide) (by decide) (by decide) (by decide) (by decide) (by decide) (by simp only [LANE_B, PILOT_B]; omega)]
  have hin : (decide (0x500 ≤ 0x400 + l.val * 0x10 + p.val * 4) && decide (0x400 + l.val * 0x10 + p.val * 4 < 0x800)) = true := by
    rw [← Bool.decide_and, decide_eq_true_eq]
    omega
  rw [hreg] at hlist
  simp only [State.afterWrite, hblock, hreg, hin, hlist, if_true, State.startCheck]
  rfl

/-- A standard list is read-only. -/
theorem State.writeNow_slist_standard (l : Fin 64) (p : Fin 4) (hstandard : l.val < 16) :
    s.writeNow .host (LANE_B + 0x400 + l.val * 0x10 + p.val * 4) v false = s := by
  obtain ⟨hoff, -, hblock, hreg, -⟩ := slist_place l p
  have hmask := rwBits_of_free (fs := [ro 12 0, ro 15 15, ro 28 16, ro 31 31]) (by decide)
    (s.pendValue (LANE_B + 0x400 + l.val * 0x10 + p.val * 4)) (windowWrite 0 v)
  rw [State.writeNow_slist l p (m := 0) (by rw [regFields_slist_standard l p hstandard, hmask]; rfl),
    regFields_slist_standard l p hstandard]
  have hclear (t : State) (off : Nat) (w : Word) : t.clearOnes [ro 12 0, ro 15 15, ro 28 16, ro 31 31] off w = t := by
    rw [State.clearOnes, show fieldMask [ro 12 0, ro 15 15, ro 28 16, ro 31 31] (fun f => f.acc == .w1c) = 0 by decide]
    exact if_pos BitVec.and_zero
  have hout : (decide (0x500 ≤ 0x400 + l.val * 0x10 + p.val * 4) && decide (0x400 + l.val * 0x10 + p.val * 4 < 0x800)) = false := by
    rw [← Bool.decide_and, decide_eq_false_iff_not]
    omega
  rw [State.takeWrite_nothing, hoff, hclear, ite_self]
  simp only [State.afterWrite, hblock, hreg, hout, Bool.false_eq_true, if_false]

end

/-! ### LANE_ENTRY -/

/-- The lists that a word names depend on its fields only. -/
theorem entryLists_replaced (x v : Word) : entryLists ((x &&& ~~~0x3F3F3F3F) ||| (v &&& 0x3F3F3F3F)) = entryLists v := by
  have hones : ∀ i : Fin 32, (i.val % 8 < 6) → (0x3F3F3F3F : Word).getLsbD i.val = true := by decide
  have hsame (k : Nat) (hk : k = 0 ∨ k = 8 ∨ k = 16 ∨ k = 24) :
      bits ((x &&& ~~~0x3F3F3F3F) ||| (v &&& 0x3F3F3F3F)) (k + 5) k = bits v (k + 5) k := by
    apply bits_congr
    intro i hlo hhi
    rw [getLsbD_replaced _ _ _ (by omega), if_pos (hones ⟨i, by omega⟩ (by show i % 8 < 6; omega))]
  simp only [entryLists, List.map_cons, List.map_nil, hsame 0 (by decide), hsame 8 (by decide), hsame 16 (by decide), hsame 24 (by decide)]

theorem entryChecks_replaced (x v : Word) : entryChecks ((x &&& ~~~0x3F3F3F3F) ||| (v &&& 0x3F3F3F3F)) = entryChecks v := by
  rw [entryChecks, entryLists_replaced, entryChecks]

theorem State.entryOk_replaced (s : State) (x v : Word) :
    s.entryOk ((x &&& ~~~0x3F3F3F3F) ||| (v &&& 0x3F3F3F3F)) = s.entryOk v := by
  rw [State.entryOk, entryLists_replaced, State.entryOk]

/-- Standard lists pass. -/
theorem State.entryOk_of_standard {s : State} {v : Word} (hstandard : entryChecks v = []) : s.entryOk v = true := by
  rw [State.entryOk, List.all_eq_true]
  intro k hk
  have hlt : k < 16 := by
    refine Nat.lt_of_not_le fun hge => ?_
    have hmem : k ∈ entryChecks v := List.mem_filter.2 ⟨hk, decide_eq_true (by omega)⟩
    rw [hstandard] at hmem
    exact absurd hmem List.not_mem_nil
  simp only [State.checkList, hlt, if_true, beq_self_eq_true]

theorem replaced_ne {x v m : Word} (hdiffer : (x ^^^ v) &&& m ≠ 0) : (x &&& ~~~m) ||| (v &&& m) ≠ x := by
  intro heq
  apply hdiffer
  apply BitVec.eq_of_getLsbD_eq
  intro i hi
  have hbit := congrArg (BitVec.getLsbD · i) heq
  simp only [getLsbD_replaced _ _ _ hi] at hbit
  rw [BitVec.getLsbD_and, BitVec.getLsbD_xor]
  cases hm : m.getLsbD i with
  | false => rw [Bool.and_false]; exact BitVec.getLsbD_zero.symm
  | true =>
    rw [hm, if_pos rfl] at hbit
    rw [hbit, Bool.xor_self, Bool.false_and]
    exact BitVec.getLsbD_zero.symm

section
variable {s : State} {v : Word} (e : Fin 16) (j : Fin 4) (hcustomer : 1 ≤ e.val)
include hcustomer

theorem rwBits_entry (cur : Word) :
    rwBits (regFields (LANE_B + 0x100 + e.val * 0x10 + j.val * 4)) cur (windowWrite 0 v) = (0x3F3F3F3F, false) := by
  rw [regFields_entry e j hcustomer, rwBits_of_free (by decide)]
  exact congrArg (·, false) (show rwMask entryFields 0xFFFFFFFF = 0x3F3F3F3F by decide)

/-- A write of LANE_ENTRY names the customer lists of its value when it changes the register. -/
theorem State.entryNamed_entry :
    s.entryNamed (LANE_B + 0x100 + e.val * 0x10 + j.val * 4) v =
      if ((s.pendValue (LANE_B + 0x100 + e.val * 0x10 + j.val * 4) &&& ~~~0x3F3F3F3F) ||| (v &&& 0x3F3F3F3F)) =
        s.pendValue (LANE_B + 0x100 + e.val * 0x10 + j.val * 4) then [] else entryChecks v := by
  obtain ⟨hoff, hwin, hblock, hreg⟩ := entry_place e j
  have hin : (decide (LANE_B + 0x110 ≤ LANE_B + 0x100 + e.val * 0x10 + j.val * 4) &&
      decide (LANE_B + 0x100 + e.val * 0x10 + j.val * 4 < LANE_B + 0x200)) = true := by
    rw [← Bool.decide_and, decide_eq_true_eq]
    omega
  have hbase : s.writeBase (LANE_B + 0x100 + e.val * 0x10 + j.val * 4) = s.pendValue (LANE_B + 0x100 + e.val * 0x10 + j.val * 4) := by
    simp only [State.writeBase, isPval, hblock, Nat.reduceBEq, Bool.false_and, Bool.false_eq_true, if_false]
  simp only [State.entryNamed, hoff, hin, if_true, hwin, hbase, rwBits_entry e j hcustomer]
  rw [show (windowWrite 0 v).val = v from rfl, entryChecks_replaced]

/-- LANE_ENTRY is staged when its lists pass, or the write changes nothing; it is discarded otherwise (R242). -/
theorem State.writeNow_entry :
    s.writeNow .host (LANE_B + 0x100 + e.val * 0x10 + j.val * 4) v false =
      if ((s.pendValue (LANE_B + 0x100 + e.val * 0x10 + j.val * 4) &&& ~~~0x3F3F3F3F) ||| (v &&& 0x3F3F3F3F)) =
          s.pendValue (LANE_B + 0x100 + e.val * 0x10 + j.val * 4) ∨ s.entryOk v = true then
        s.stagePlan { off := LANE_B + 0x100 + e.val * 0x10 + j.val * 4, mask := 0x3F3F3F3F, val := v, defer := 0 }
      else s.cflag 3 := by
  obtain ⟨hoff, hwin, hblock, hreg⟩ := entry_place e j
  have hin : (decide (0x110 ≤ 0x100 + e.val * 0x10 + j.val * 4) && decide (0x100 + e.val * 0x10 + j.val * 4 < 0x200)) = true := by
    rw [← Bool.decide_and, decide_eq_true_eq]
    omega
  have hguard (old new : Word) : s.guarded (LANE_B + 0x100 + e.val * 0x10 + j.val * 4) old new =
      if old ≠ new then (if s.entryOk new then none else some (s.cflag 3)) else none := by
    simp only [State.guarded, hblock, hreg, hin, Bool.true_and, bne_iff_ne]
  have hafter (t : State) (old : Word) (b : BitWrite) : t.afterWrite (LANE_B + 0x100 + e.val * 0x10 + j.val * 4) old b = t := by
    have hout : decide (0x500 ≤ 0x100 + e.val * 0x10 + j.val * 4) = false := decide_eq_false (by omega)
    simp only [State.afterWrite, hblock, hreg, hout, Bool.false_and, Bool.false_eq_true, if_false]
  rw [State.writeNow_lane hoff hwin hblock (by rw [hreg]; omega) (rwBits_entry e j hcustomer _), hguard, State.entryOk_replaced,
    regFields_entry e j hcustomer,
    State.takeWrite_plan hoff (by decide) (by decide) (by decide) (by decide) (by decide) (by decide) (by simp only [LANE_B, PILOT_B]; omega),
    hafter]
  have hval : (windowWrite 0 v).val = v := rfl
  rw [hval]
  by_cases hsame : ((s.pendValue (LANE_B + 0x100 + e.val * 0x10 + j.val * 4) &&& ~~~0x3F3F3F3F) ||| (v &&& 0x3F3F3F3F)) =
      s.pendValue (LANE_B + 0x100 + e.val * 0x10 + j.val * 4)
  · rw [if_neg (fun h => h hsame.symm), if_pos (Or.inl hsame)]
  · rw [if_pos (Ne.symm hsame)]
    by_cases hok : s.entryOk v = true
    · rw [if_pos hok, if_pos (Or.inr hok)]
    · rw [if_neg hok, if_neg (not_or.2 ⟨hsame, hok⟩)]

/-- An entry of standard lists is staged. -/
theorem State.busWrite_entry_standard (hreaches : s.hostReaches (LANE_B + 0x100 + e.val * 0x10 + j.val * 4)) (hidle : s.checking = false)
    (hstandard : entryChecks v = []) :
    s.busWrite .host (LANE_B + 0x100 + e.val * 0x10 + j.val * 4) v true false =
      s.stagePlan { off := LANE_B + 0x100 + e.val * 0x10 + j.val * 4, mask := 0x3F3F3F3F, val := v, defer := 0 } := by
  obtain ⟨hoff, -, hblock, hreg⟩ := entry_place e j
  rw [State.busWrite_lane hreaches.1 hidle hoff hblock (by rw [hreg]; omega), State.entryNamed_entry e j hcustomer, hstandard, ite_self,
    State.writeNow_entry e j hcustomer, if_pos (Or.inr (State.entryOk_of_standard hstandard))]

/-- An entry of customer lists waits for their checks. -/
theorem State.busWrite_entry_customer (hreaches : s.hostReaches (LANE_B + 0x100 + e.val * 0x10 + j.val * 4)) (hidle : s.checking = false)
    (hnamed : entryChecks v ≠ []) (hdiffer : (s.rg (LANE_B + 0x100 + e.val * 0x10 + j.val * 4) ^^^ v) &&& 0x3F3F3F3F ≠ 0) :
    s.busWrite .host (LANE_B + 0x100 + e.val * 0x10 + j.val * 4) v true false =
      (entryChecks v).foldl State.startCheck { s with mem := { s.mem with
        entry := some { agent := .host, boff := LANE_B + 0x100 + e.val * 0x10 + j.val * 4, word := some v } } } := by
  obtain ⟨hoff, -, hblock, hreg⟩ := entry_place e j
  have hchanges := replaced_ne hdiffer
  rw [← hreaches.2.2] at hchanges
  rw [State.busWrite_lane hreaches.1 hidle hoff hblock (by rw [hreg]; omega), State.entryNamed_entry e j hcustomer, if_neg hchanges]
  cases hlist : entryChecks v with
  | nil => exact absurd hlist hnamed
  | cons k l => rfl

end

/-! ### The end of a list's check -/

section
variable {s : State}

theorem State.checkDone_host (s : State) (l : Nat) : (s.checkDone l).host = s.host ∧ (s.checkDone l).mem = s.mem := by
  unfold State.checkDone
  split
  · refine ⟨?_, ?_⟩ <;> (dsimp only; split <;> rfl)
  · exact ⟨rfl, rfl⟩

theorem State.replayLane_of_none {t : State} (hnone : t.mem.posted = []) (n : Nat) : t.replayLane n = t := by
  cases n with
  | zero => rfl
  | succ n => simp only [State.replayLane, hnone, ite_self]

/-- With no access and no doorbell waiting, the end of the check is all. -/
theorem State.listCheckDone_of_quiet {l : Nat} (hposted : s.mem.posted = []) (hentry : s.mem.entry = none) (hdb : s.host.dbHeld = []) :
    s.listCheckDone l = s.checkDone l := by
  obtain ⟨hhost, hmem⟩ := s.checkDone_host l
  have hfree (t : State) (ht : t.host.dbHeld = []) : t.freeDoorbells = t := by
    have hsame : { t with host := { t.host with dbHeld := [] } } = t := by rw [← ht]
    rw [State.freeDoorbells, ht, List.foldl_nil, hsame, ite_self]
  have htaken : (s.checkDone l).entryTaken = s.checkDone l := by rw [State.entryTaken, hmem, hentry]
  rw [State.listCheckDone, htaken, State.replayLane_of_none (by rw [hmem]; exact hposted), hfree _ (by rw [hhost]; exact hdb)]

/-- An entry that waited is decided once no list is checked. -/
theorem State.listCheckDone_of_entry {l boff : Nat} {v : Word} {t u : State} (ht : t = s.checkDone l) (hidle : t.checking = false)
    (hentry : s.mem.entry = some { agent := .host, boff := boff, word := some v }) (hu : u = { t with mem := { t.mem with entry := none } })
    (hafter : (u.writeNow .host boff v false).mem.posted = []) :
    s.listCheckDone l = (u.writeNow .host boff v false).freeDoorbells := by
  obtain ⟨-, hmem⟩ := s.checkDone_host l
  have htaken : t.entryTaken = u.writeNow .host boff v false := by
    rw [hu, State.entryTaken, ht, hmem, hentry, ← hmem, ← ht]
    simp only [hidle, Bool.false_eq_true, if_false]
    rfl
  rw [State.listCheckDone, ← ht, htaken, State.replayLane_of_none hafter]

end

/-! ### LANE_MDATA_HI -/

theorem State.lane_setLane_self (s : State) (l : Nat) (x : LaneSt) : (s.setLane l x).lane l = x := Tab.get_set_self _ _ _ _

theorem State.lane_setLane_ne (s : State) {l k : Nat} (x : LaneSt) (hne : k ≠ l) : (s.setLane l x).lane k = s.lane k :=
  Tab.get_set_ne _ _ _ _ _ _ hne

/-- A word stored in lanes. -/
def State.storeWord (s : State) (addr word : Nat) (ls : List Nat) : State :=
  ls.foldl (fun s l => s.setLane l { s.lane l with man := Tab.set (manDef addr) (s.lane l).man addr word }) s

theorem State.storeWord_facts (addr word : Nat) (ls : List Nat) (s : State) :
    (∀ l ∈ ls, Tab.get (manDef addr) ((s.storeWord addr word ls).lane l).man addr = word) ∧
      (∀ l ∉ ls, (s.storeWord addr word ls).lane l = s.lane l) ∧ (s.storeWord addr word ls).regs = s.regs ∧
      (s.storeWord addr word ls).out = s.out := by
  induction ls generalizing s with
  | nil => exact ⟨fun _ h => absurd h List.not_mem_nil, fun _ _ => rfl, rfl, rfl⟩
  | cons k ls ih =>
    obtain ⟨hin, hout, hregs, hemits⟩ := ih (s.setLane k { s.lane k with man := Tab.set (manDef addr) (s.lane k).man addr word })
    refine ⟨fun l hl => ?_, fun l hl => ?_, hregs, hemits⟩
    · by_cases hmem : l ∈ ls
      · exact hin l hmem
      · obtain rfl := (List.mem_cons.1 hl).resolve_right hmem
        exact (congrArg (fun n : LaneSt => Tab.get (manDef addr) n.man addr) (hout l hmem)).trans
          ((congrArg (fun n : LaneSt => Tab.get (manDef addr) n.man addr) (State.lane_setLane_self _ _ _)).trans (Tab.get_set_self _ _ _ _))
    · obtain ⟨hne, hmem⟩ := not_or.1 (mt List.mem_cons.2 hl)
      exact (hout l hmem).trans (State.lane_setLane_ne _ _ hne)

/-- The lanes that LANE_MSEL selects. -/
theorem mem_selected {s : State} {l : Nat} (hl : l < 16) :
    l ∈ (List.range 16).filter (fun l => s.fld LANE_B 15 0 / 2 ^ l % 2 == 1) ↔ bit (s.rg LANE_B) l = true := by
  have hbit := testBit_bits (s.rg LANE_B) 15 0 l
  rw [decide_eq_true (by omega), Bool.true_and, Nat.zero_add] at hbit
  rw [List.mem_filter, List.mem_range, bit, ← hbit, Nat.testBit_eq_decide_div_mod_eq, beq_iff_eq, decide_eq_true_eq]
  exact ⟨fun h => h.2, fun h => ⟨hl, h⟩⟩

/-- A word written to a free customer page is stored in the selected lanes (R241). -/
theorem State.manifestStore_of_free {s : State} {hi : Word} (hcustomer : 0x1000 ≤ s.fld (LANE_B + 4) 12 0)
    (hfree : s.pageUsed ((s.fld (LANE_B + 4) 12 0 - 0x1000) / 0x800) = false)
    (hon : ∀ l, l < 16 → bit (s.rg LANE_B) l = true → s.powered (l / 8) = true) :
    s.manifestStore hi = (s.setFld (LANE_B + 4) 12 0 (s.fld (LANE_B + 4) 12 0 + 1)).storeWord (s.fld (LANE_B + 4) 12 0)
      ((s.rg (LANE_B + 8)).toNat + 2 ^ 32 * hi.toNat) ((List.range 16).filter (fun l => s.fld LANE_B 15 0 / 2 ^ l % 2 == 1)) := by
  have hall : ((List.range 16).filter (fun l => s.fld LANE_B 15 0 / 2 ^ l % 2 == 1)).filter (fun l => s.powered (l / 8)) =
      (List.range 16).filter (fun l => s.fld LANE_B 15 0 / 2 ^ l % 2 == 1) := by
    rw [List.filter_eq_self]
    intro l hl
    have hlt := List.mem_range.1 (List.mem_filter.1 hl).1
    exact hon l hlt ((mem_selected hlt).1 hl)
  have hok : ¬ s.fld (LANE_B + 4) 12 0 < 0x1000 := by omega
  simp only [State.manifestStore, hok, hfree, decide_false, Bool.or_self, Bool.false_eq_true, if_false, hall, Nat.lt_irrefl]
  rfl

theorem State.actionWrite_manifest (s : State) (hi : Word) : s.actionWrite .host (LANE_B + 0xC) hi = some (s.manifestStore hi) := rfl

/-- Settles O8: a host write of a LANE register acts, is staged or waits by its register; the end of a check decides what waited. -/
theorem manifestAccess : Obligations.ManifestAccess := by
  refine ⟨?_, ?_, ?_, ?_, ?_, ?_, ?_, ?_⟩
  · intro s hi hreach hidle hcustomer hfree hon
    have hstore := State.manifestStore_of_free (hi := hi) hcustomer hfree (fun l hl => hon ⟨l, hl⟩)
    have hwrite : s.busWrite .host (LANE_B + 0xC) hi true false = s.manifestStore hi := by
      rw [State.busWrite_lane hreach hidle rfl rfl (by decide), State.entryNamed_of_outside rfl (Or.inl (by decide))]
      simp only [State.writeNow, show (LANE_B + 0xC) / 0x400000 % 4 = 0 from rfl, if_true,
        show (LANE_B + 0xC) % 0x400000 / 4 * 4 = LANE_B + 0xC from rfl, State.actionWrite_manifest]
    obtain ⟨hin, hout, hregs, hemits⟩ := State.storeWord_facts (s.fld (LANE_B + 4) 12 0) ((s.rg (LANE_B + 8)).toNat + 2 ^ 32 * hi.toNat)
      ((List.range 16).filter (fun l => s.fld LANE_B 15 0 / 2 ^ l % 2 == 1)) (s.setFld (LANE_B + 4) 12 0 (s.fld (LANE_B + 4) 12 0 + 1))
    refine ⟨_, congrArg Host.Outcome.next (hwrite.trans hstore), ?_, fun l hl hsel => hin l ((mem_selected hl).2 hsel),
      fun l hl hsel => hout l (fun h => absurd ((mem_selected hl).1 h) (by rw [hsel]; exact Bool.false_ne_true)), hemits⟩
    exact (congrArg (fun r => bits (Tab.get (resetWord (LANE_B + 4)) r (LANE_B + 4)) 12 0) hregs).trans
      (State.fld_setFld_self s _ _ _ _ (by decide) (by decide))
  · intro s l p v hreaches hidle hcustomer
    obtain ⟨hoff, -, hblock, hreg, -⟩ := slist_place l p
    refine congrArg Host.Outcome.next ?_
    rw [State.busWrite_lane hreaches.1 hidle hoff hblock (by rw [hreg]; omega), State.entryNamed_of_outside hoff (Or.inr (by omega))]
    exact State.writeNow_slist_customer l p hcustomer
  · intro s l p v hreaches hidle hstandard
    obtain ⟨hoff, -, hblock, hreg, -⟩ := slist_place l p
    refine congrArg Host.Outcome.next ?_
    rw [State.busWrite_lane hreaches.1 hidle hoff hblock (by rw [hreg]; omega), State.entryNamed_of_outside hoff (Or.inr (by omega))]
    exact State.writeNow_slist_standard l p hstandard
  · intro s e j v hreaches hidle hcustomer hstandard
    exact congrArg Host.Outcome.next (State.busWrite_entry_standard e j hcustomer hreaches hidle hstandard)
  · intro s e j v hreaches hidle hcustomer hnamed hdiffer
    exact congrArg Host.Outcome.next (State.busWrite_entry_customer e j hcustomer hreaches hidle hnamed hdiffer)
  · intro s t l e j v hposted ht hidle hentry hcustomer hpend hdiffer
    obtain ⟨-, hmem⟩ := s.checkDone_host l.val
    obtain ⟨u, hu⟩ : ∃ u : State, u = { t with mem := { t.mem with entry := none } } := ⟨_, rfl⟩
    have hchanges := replaced_ne hdiffer
    rw [← hpend, show t.pendValue _ = u.pendValue _ by rw [hu]; rfl] at hchanges
    have hposted' : u.mem.posted = [] := by
      rw [hu, ht]
      exact (congrArg MemSt.posted hmem).trans hposted
    have hdone := State.listCheckDone_of_entry ht hidle hentry hu
    rw [State.writeNow_entry e j hcustomer] at hdone
    refine ⟨u, hu, congrArg Host.Outcome.next ?_⟩
    by_cases hok : u.entryOk v = true
    · rw [if_pos (Or.inr hok)] at hdone
      rw [if_pos hok]
      exact hdone hposted'
    · rw [if_neg (not_or.2 ⟨hchanges, hok⟩)] at hdone
      rw [if_neg hok]
      refine hdone ?_
      rw [State.cflag, State.raise_mem _ _ _ (by decide)]
      exact hposted'
  · intro s l hflag hposted hentry hdb hok
    refine congrArg Host.Outcome.next ((State.listCheckDone_of_quiet hposted hentry hdb).trans ?_)
    simp only [State.checkDone, hflag, hok, if_true, decide_true, Bool.and_self, Nat.zero_mul, Nat.add_zero]
  · intro s l hflag hposted hentry hdb hcode
    refine ⟨Config.freeBelow 16383 s.free, congrArg Host.Outcome.next ((State.listCheckDone_of_quiet hposted hentry hdb).trans ?_)⟩
    simp only [State.checkDone, hflag, hcode, decide_false, Bool.false_and, Bool.false_eq_true, if_true, if_false]

end Sys2Proof.Machine

/-! Frames from the branches and the messages of the dynamic segment (R112, R124, R135, R142 to R169, R569). -/

namespace Sys2Proof.Machine

open Sys2Proof

/-! ### What the counting of a frame leaves alone -/

/-- Registers that an admitted frame does not touch: the configuration of its port, NET_STAT and NET_CYC. -/
def rxStill (p o : Nat) : Prop := o = pCfg p ∨ o = NET_STAT ∨ o = NET_CYC

section
variable {s : State} {p : Fin 16} {o : Nat}

theorem rxStill_apart (ho : rxStill p.val o) :
    ¬ hostSide o ∧ o ≠ pCfg p.val + 0x08 ∧ o ≠ pStat p.val ∧ o ≠ grd p.val + 0x1C := by
  have := p.isLt
  simp only [rxStill, hostSide, grd, pStat, pCfg, NET_STAT, NET_CYC, NET_B] at ho ⊢
  omega

/-- PORT_RXOK counts, and a link that comes up raises its event. -/
theorem State.rxValid_frame (s : State) (ho : rxStill p.val o) :
    (s.rxValid p.val).rg o = s.rg o ∧ (s.rxValid p.val).net = { s.net with linkAge := Tab.set 16 s.net.linkAge p.val 0 } ∧
      (s.rxValid p.val).cycle = s.cycle := by
  obtain ⟨hside, hok, hstat, -⟩ := rxStill_apart ho
  have hsrc : 40 + p.val < 256 := by omega
  simp only [State.rxValid]
  split
  · refine ⟨?_, State.raise_net _ _ _ hsrc, State.raise_cycle _ _ _ hsrc⟩
    rw [State.rg_raise _ _ _ _ hsrc hside, State.rg_setFld_ne _ _ _ _ _ _ hstat]
    exact State.rg_incFld_ne s _ _ _ hok
  · exact ⟨State.rg_incFld_ne s _ _ _ hok, rfl, rfl⟩

theorem State.admitDev_frame (s : State) (a : Nat) (e : Int) (ho : rxStill p.val o) :
    (s.admitDev p.val a e).rg o = s.rg o ∧ (s.admitDev p.val a e).net.upUsed = s.net.upUsed ∧
      (s.admitDev p.val a e).net.tailHeld = s.net.tailHeld :=
  ⟨State.rg_setFld_ne s _ _ _ _ _ (rxStill_apart ho).2.2.2, rfl, rfl⟩

end

/-- States that agree on the configuration of a port read the same topology and rate. -/
theorem State.port_congr {s t : State} {p : Nat} (hrg : ∀ o, rxStill p o → t.rg o = s.rg o) :
    t.topo p = s.topo p ∧ t.branchOf p = s.branchOf p ∧ t.rate = s.rate ∧ t.mgrId = s.mgrId := by
  have hcfg := hrg (pCfg p) (Or.inl rfl)
  have htopo : t.topo p = s.topo p := congrArg (bits · 2 1) hcfg
  refine ⟨htopo, ?_, congrArg (bits · 2 0) (hrg NET_STAT (Or.inr (Or.inl rfl))), congrArg (bits · 15 8) (hrg NET_CYC (Or.inr (Or.inr rfl)))⟩
  rw [State.branchOf, State.branchOf, htopo, State.pairOf, State.pairOf, State.fld, State.fld, hcfg]

/-! ### Which check a frame comes to -/

section
variable {s : State} {p : Nat} {f : RxFrame}

theorem State.tailsBefore_of_none (hnone : s.net.tailHeld = []) (t : Int) : s.tailsBefore t = s := by
  have hsame : ({ s with net := { s.net with tailHeld := [] } } : State) = s := by rw [← hnone]
  simp only [State.tailsBefore, State.useTails, hnone, List.filter_nil, List.foldl_nil, hsame]

/-- A frame of a branch is judged by where it starts. -/
theorem State.rxUplink_of_reaches (hreaches : s.rxReaches p f) :
    s.rxUplink p f =
      if 452 ≤ f.t ∧ f.t < tDyn s.rate ∧ ¬((tDyn s.rate : Int) - 48 ≤ f.t ∧ (hSrc (hdrNum f.bytes) % 256 == 0xFF) = true)
      then s.rxStatic p f else s.rxDynamic p f := by
  obtain ⟨hhears, hstopped, hown, hclosed, htails⟩ := hreaches
  have hopen : (decide (s.topo p = 3) && !s.holder) = false := by
    rcases hclosed with hne | hholder
    · rw [decide_eq_false hne, Bool.false_and]
    · rw [hholder, Bool.not_true, Bool.and_false]
  simp only [State.rxUplink, State.tailsBefore_of_none htails, hhears, hstopped, hown, hopen, Bool.not_true, Bool.or_self,
    Bool.false_eq_true, if_false]

/-- A frame of a node that starts in the static segment. -/
theorem State.rxUplink_of_static (hreaches : s.rxReaches p f) (haddr : hSrc (hdrNum f.bytes) % 256 ≠ 0xFF) (hlo : 452 ≤ f.t)
    (hhi : f.t < tDyn s.rate) : s.rxUplink p f = s.rxStatic p f := by
  rw [State.rxUplink_of_reaches hreaches, if_pos ⟨hlo, hhi, fun h => haddr (beq_iff_eq.1 h.2)⟩]

/-- A start within a berth's window is judged against that berth. -/
theorem State.berthOf_window {k : Nat} {t : Int} (hk : k < berthCount s.rate) (hlo : (berthStart k : Int) - 48 ≤ t)
    (hhi : t ≤ berthStart k + 48) : s.berthOf t = k := by
  simp only [State.berthOf, berthStart] at *
  omega

/-- A frame of the berth's own node, in its window, with good checks. -/
theorem State.rxStatic_of_good {k : Nat} (hk : k < berthCount s.rate) (hlo : (berthStart k : Int) - 48 ≤ f.t)
    (hhi : f.t ≤ berthStart k + 48) (hplanned : s.plannedAt (s.branchOf p) k = some (hSrc (hdrNum f.bytes)))
    (hend : f.t + 8 * (f.bytes.length + 4) ≤ berthStart k + 976) (hstar : s.starCheck f true = none) :
    s.rxStatic p f = ((s.rxValid p).admitDev p (hSrc (hdrNum f.bytes)) (f.t - berthStart k)).takeCopy p (hSrc (hdrNum f.bytes)) f := by
  have hearly : ¬ f.t - berthStart k < -48 := by omega
  have hlate : ¬ 48 < f.t - berthStart k := by omega
  have hover : ¬ (976 : Int) < f.t - berthStart k + 8 * (f.bytes.length + 4) := by omega
  simp only [State.rxStatic, State.berthOf_window hk hlo hhi, hearly, hlate, hover, hplanned, hstar, bne_self_eq_false, Bool.false_eq_true,
    if_false]

/-- A frame in a berth's window from another node than the planned one is cut by the SRC rule. -/
theorem State.rxStatic_of_other {k : Nat} (hk : k < berthCount s.rate) (hlo : (berthStart k : Int) - 48 ≤ f.t)
    (hhi : f.t ≤ berthStart k + 48) (hother : some (hSrc (hdrNum f.bytes)) ≠ s.plannedAt (s.branchOf p) k) :
    s.rxStatic p f = (s.refuseAt (if s.onPath p 0 (hSrc (hdrNum f.bytes)) then some (hSrc (hdrNum f.bytes))
      else s.plannedAt (s.branchOf p) k)).cut p 4 k 0 (f.t - berthStart k) (hSrc (hdrNum f.bytes)) (s.plannedAt (s.branchOf p) k) false := by
  have hearly : ¬ f.t - berthStart k < -48 := by omega
  have hlate : ¬ 48 < f.t - berthStart k := by omega
  simp only [State.rxStatic, State.berthOf_window hk hlo hhi, hearly, hlate, bne_iff_ne.2 hother, if_true, if_false]

end

/-! ### Berth frames -/

section
variable {s : State} {p : Fin 16}

/-- Counting a good berth frame leaves the port's configuration and the copies as they are. -/
theorem State.admitted_frame (s : State) (p : Fin 16) (a : Nat) (e : Int) :
    ((s.rxValid p.val).admitDev p.val a e).topo p.val = s.topo p.val ∧ ((s.rxValid p.val).admitDev p.val a e).branchOf p.val = s.branchOf p.val ∧
      ((s.rxValid p.val).admitDev p.val a e).rate = s.rate ∧ ((s.rxValid p.val).admitDev p.val a e).net.upUsed = s.net.upUsed := by
  obtain ⟨htopo, hbranch, hrate, -⟩ := State.port_congr (s := s) (t := (s.rxValid p.val).admitDev p.val a e) (p := p.val) (fun o ho =>
    ((s.rxValid p.val).admitDev_frame a e ho).1.trans (s.rxValid_frame ho).1)
  refine ⟨htopo, hbranch, hrate, ((s.rxValid p.val).admitDev_frame a e (Or.inl rfl)).2.1.trans ?_⟩
  rw [(s.rxValid_frame (p := p) (Or.inl rfl)).2.1]

/-- The first copy of a berth is used. -/
theorem State.useBerth_of_first {k addr : Nat} {f : RxFrame} (hkey : s.berthKey p.val f.t = k) (hfirst : k ∉ s.net.upUsed) :
    s.useBerth p.val addr f = ({ s with net := { s.net with upUsed := s.net.upUsed ++ [k] } } : State).admitBerth p.val addr f := by
  have hno : s.net.upUsed.contains k = false := by rw [Bool.eq_false_iff, ne_eq, List.contains_iff_mem]; exact hfirst
  simp only [State.useBerth, hkey, hno, Bool.false_eq_true, if_false]

/-- At a standby's closing port a copy whose berth has been used gives the tail delay only (R569). -/
theorem State.rxShadow_of_used {f : RxFrame} {n : Node} (hn : n = s.node (hSrc (hdrNum f.bytes))) (hstate : n.state ≠ 0)
    (hbranch : hSrc (hdrNum f.bytes) / 256 = s.branchOf p.val) (hpart : hPart (hdrNum f.bytes) = 0) (hslot : hSlot (hdrNum f.bytes) = n.upb)
    (hstar : s.starCheck f true = none) (hused : s.branchOf p.val * 64 + n.upb ∈ s.net.upUsed) :
    s.rxShadow p.val f = (s.rxValid p.val).updNode (hSrc (hdrNum f.bytes)) (fun m => { m with
      tailSum := m.tailSum + (16 * (f.t - berthStart n.upb) + headDelay n), tailN := m.tailN + 1,
      tailFrom := if m.tailN = 0 then s.cycle else m.tailFrom }) := by
  obtain ⟨-, hbranch', -, -⟩ := State.port_congr (s := s) (t := s.rxValid p.val) (p := p.val) (fun o ho => (s.rxValid_frame ho).1)
  have hnet := (s.rxValid_frame (p := p) (Or.inl rfl)).2.1
  have hkey : (s.rxValid p.val).net.upUsed.contains (s.branchOf p.val * 64 + n.upb) = true := by
    rw [hnet, List.contains_iff_mem]
    exact hused
  have hpartNe : ¬ (0 : Nat) = 1 := by decide
  simp only [State.rxShadow, ← hn, hstate, hbranch, hpart, hpartNe, hslot, hstar, bne_self_eq_false, decide_false, Bool.or_self,
    Bool.false_eq_true, if_false]
  refine if_pos ?_
  exact (congrArg (fun b => (s.rxValid p.val).net.upUsed.contains (b * 64 + n.upb)) hbranch').trans hkey

end

/-! ### The dynamic segment -/

theorem State.starCheck_congr {s t : State} (hmgr : t.mgrId = s.mgrId) (f : RxFrame) (inStatic : Bool) :
    t.starCheck f inStatic = s.starCheck f inStatic := by
  simp only [State.starCheck, hmgr]

section
variable {s : State} {p : Fin 16} {f : RxFrame}

/-- The star judges a frame that the guardian lets through, and its message is read (R124, R142). -/
def State.takeFrame (s : State) (p : Nat) (f : RxFrame) : State :=
  match s.starCheck f false with
  | some c => s.rxCount p c.1 c.2
  | none => (s.rxValid p).rxMsg p f

theorem State.takeFrame_of_good (hstar : s.starCheck f false = none) : s.takeFrame p.val f = (s.rxValid p.val).rxMsg p.val f := by
  rw [State.takeFrame, hstar]

/-- A frame in the join window of its minislots. -/
theorem State.rxDynamic_of_join (hjoin : hSrc (hdrNum f.bytes) % 256 = 0xFF) (hnear : absI (f.t - tDyn s.rate) ≤ 48)
    (hslots : 1 ≤ minislots s.rate) :
    s.rxDynamic p.val f =
      if s.net.joinUsed.contains p.val || hSrc (hdrNum f.bytes) / 256 != s.branchOf p.val then
        s.cut p.val 4 0 1 (f.t - tDyn s.rate) (hSrc (hdrNum f.bytes)) none false
      else ({ s with net := { s.net with joinUsed := p.val :: s.net.joinUsed } } : State).takeFrame p.val f := by
  have hbounds : -48 ≤ f.t - (tDyn s.rate : Int) ∧ f.t - (tDyn s.rate : Int) ≤ 48 := by
    rw [absI] at hnear
    split at hnear <;> omega
  have hslot : ((f.t - (tDyn s.rate : Int)) / 128).toNat = 0 := by omega
  have hin : decide ((tDyn s.rate : Int) - 48 ≤ f.t ∧ f.t < tDyn s.rate + 128 * (minislots s.rate : Int)) = true :=
    decide_eq_true (by omega)
  have hwindow : inJoinWindow (tDyn s.rate) f.t (hdrNum f.bytes) = true := by
    rw [inJoinWindow, hjoin, decide_eq_true (by omega)]
    rfl
  simp only [State.rxDynamic, hslot, hin, hwindow, decide_eq_true hnear, Bool.not_true, Bool.false_eq_true, if_false, if_true]
  rfl

/-- An unaddressed frame near the first minislot is none of the static segment. -/
theorem joinWindow_not_static {t td : Int} {a : Nat} (hjoin : a % 256 = 0xFF) (hnear : absI (t - td) ≤ 48) :
    ¬ (452 ≤ t ∧ t < td ∧ ¬(td - 48 ≤ t ∧ (a % 256 == 0xFF) = true)) := by
  have hlo : td - 48 ≤ t := by
    rw [absI] at hnear
    split at hnear <;> omega
  exact fun h => h.2.2 ⟨hlo, beq_iff_eq.2 hjoin⟩

/-- A join request enters. -/
theorem State.rxMsg_join (hjoin : hSrc (hdrNum f.bytes) % 256 = 0xFF) (hmsg : leAt (framePayload f.bytes) 0 1 = 1) :
    s.rxMsg p.val f = s.joinReq p.val f := by
  simp only [State.rxMsg, hjoin, hmsg, beq_self_eq_true, bne_self_eq_false, Bool.false_and, Bool.false_eq_true, if_false]

/-- The guardian counts a frame of a grant. -/
def State.countGrant (s : State) (g : Nat × Nat × Nat × Nat) : State :=
  { s with net := { s.net with
    grants := s.net.grants.map (fun x => if x.1 == g.1 then (x.1, x.2.1, x.2.2.1, x.2.2.2 + 1) else x) } }

/-- It keeps the deviation of the grant's first frame when that one is good; `State.rxDynamic_of_granted` ties it to the model. -/
def State.grantUsed (s : State) (p : Nat) (f : RxFrame) (g : Nat × Nat × Nat × Nat) : State :=
  if g.2.2.2 == 0 && ((s.countGrant g).starCheck f false).isNone then
    (s.countGrant g).admitDev p g.1 (f.t - (tDyn s.rate + 128 * (g.2.1 : Int)))
  else s.countGrant g

/-- A frame inside its node's grant (R168, R169). -/
theorem State.rxDynamic_of_granted {g : Nat × Nat × Nat × Nat} (hin : f.t < tDyn s.rate + 128 * (minislots s.rate : Int))
    (hsrc : hSrc (hdrNum f.bytes) = g.1) (haddr : g.1 % 256 ≠ 0xFF) (hgrants : s.net.grants.filter (fun x => x.1 / 256 == s.branchOf p.val) = [g])
    (hstart : (tDyn s.rate : Int) + 128 * (g.2.1 : Int) ≤ f.t) (hnear : f.t ≤ tDyn s.rate + 128 * (g.2.1 : Int) + 48)
    (hend : f.t + 8 * (f.bytes.length + 4) ≤ tDyn s.rate + 128 * ((g.2.1 + g.2.2.1 : Nat) : Int) - 24) :
    s.rxDynamic p.val f = (s.grantUsed p.val f g).takeFrame p.val f := by
  have hinDyn : decide ((tDyn s.rate : Int) - 48 ≤ f.t ∧ f.t < tDyn s.rate + 128 * (minislots s.rate : Int)) = true :=
    decide_eq_true (by omega)
  have hwindow : inJoinWindow (tDyn s.rate) f.t (hdrNum f.bytes) = false := by
    rw [inJoinWindow, hsrc, beq_eq_false_iff_ne.2 haddr, Bool.false_and]
  have hown : decide ((tDyn s.rate : Int) + 128 * (g.2.1 : Int) ≤ f.t ∧ f.t < tDyn s.rate + 128 * ((g.2.1 + g.2.2.1 : Nat) : Int)) = true :=
    decide_eq_true (by omega)
  have hearly : ¬ f.t - ((tDyn s.rate : Int) + 128 * (g.2.1 : Int)) < -48 := by omega
  have hlate : ¬ 48 < f.t - ((tDyn s.rate : Int) + 128 * (g.2.1 : Int)) := by omega
  have hover : ¬ (tDyn s.rate : Int) + 128 * ((g.2.1 + g.2.2.1 : Nat) : Int) - 24 < f.t + 8 * (f.bytes.length + 4) := by omega
  simp only [State.rxDynamic, hinDyn, hwindow, hgrants, List.find?_cons, hown, hsrc, hearly, hlate, hover, Bool.not_true,
    decide_false, Bool.and_false, bne_self_eq_false, Bool.false_eq_true, if_false]
  rfl

theorem State.grantUsed_of_good (g : Nat × Nat × Nat × Nat) (hstar : s.starCheck f false = none) :
    (s.grantUsed p.val f g).rxValid p.val = s.rxTaken p.val f g ∧ (s.grantUsed p.val f g).starCheck f false = none := by
  have hgood (u : State) (hu : u.mgrId = s.mgrId) : u.starCheck f false = none := (State.starCheck_congr hu f false).trans hstar
  have hdev (u : State) (a : Nat) (e : Int) : (u.admitDev p.val a e).mgrId = u.mgrId :=
    (State.port_congr (p := p.val) (fun o ho => (u.admitDev_frame a e ho).1)).2.2.2
  have htaken : s.rxTaken p.val f g = (if g.2.2.2 = 0 then
      (s.countGrant g).admitDev p.val g.1 (f.t - (tDyn s.rate + 128 * (g.2.1 : Int))) else s.countGrant g).rxValid p.val := rfl
  rw [htaken, State.grantUsed, hgood (s.countGrant g) rfl]
  by_cases hfirst : g.2.2.2 = 0
  · rw [hfirst]
    exact ⟨rfl, hgood _ (hdev _ _ _)⟩
  · rw [if_neg hfirst, beq_eq_false_iff_ne.2 hfirst]
    exact ⟨rfl, hgood _ rfl⟩

/-- A frame inside its node's grant that passes the star is read (R124). -/
theorem State.rxUplink_of_granted {g : Nat × Nat × Nat × Nat} (hgranted : s.rxGranted p.val f g) :
    s.rxUplink p.val f = (s.rxTaken p.val f g).rxMsg p.val f := by
  obtain ⟨hreaches, hafter, hin, hsrc, haddr, hgrants, hstart, hnear, hend, hlen, hstar⟩ := hgranted
  obtain ⟨htaken, hnone⟩ := State.grantUsed_of_good (p := p) g hstar
  rw [State.rxUplink_of_reaches hreaches, if_neg (fun h => absurd h.2.1 (by omega)),
    State.rxDynamic_of_granted hin hsrc haddr hgrants hstart hnear hend, State.takeFrame_of_good hnone, htaken]

end

/-! ### The guardian's overrun -/

theorem State.overrun_of_static {s : State} {p : Fin 16} {f : RxFrame} (hhears : s.hears p.val f.bytes = true)
    (hclosed : s.topo p.val ≠ 3 ∨ s.holder = true) (htails : s.net.tailHeld = []) (hlo : 452 ≤ f.t) (hhi : f.t ≤ 548) :
    s.overrun p.val f = (s.refuseAt (if s.onPath p.val 0 (hSrc (hdrNum f.bytes)) then some (hSrc (hdrNum f.bytes))
      else s.plannedAt (s.branchOf p.val) 0)).cut p.val 3 0 0 (f.t - 500) (hSrc (hdrNum f.bytes)) (s.plannedAt (s.branchOf p.val) 0) false := by
  have hcount : 12 ≤ berthCount s.rate := by
    rw [berthCount]
    split
    · decide
    · split <;> decide
  have hopen : (decide (s.topo p.val = 3) && !s.holder) = false := by
    rcases hclosed with hne | hholder
    · rw [decide_eq_false hne, Bool.false_and]
    · rw [hholder, Bool.not_true, Bool.and_false]
  have hstatic : f.t < (tDyn s.rate : Int) := by
    rw [tDyn]
    omega
  have hberth : s.berthOf f.t = 0 := State.berthOf_window (by omega) (by simp only [berthStart]; omega) (by simp only [berthStart]; omega)
  simp only [State.overrun, State.tailsBefore_of_none htails, hhears, hopen, hstatic, hberth, Bool.not_true, Bool.or_self,
    Bool.false_eq_true, if_false, if_true]
  rfl

/-- Settles O9: a frame comes to the static segment's or the dynamic segment's check by its start, and there to the one outcome that its
source, its window and the star's checks leave. -/
theorem uplinkFrames : Obligations.UplinkFrames := by
  have hcount (s : State) : 12 ≤ berthCount s.rate := by
    rw [berthCount]
    split
    · decide
    · split <;> decide
  have hafter500 (k : Nat) : 500 ≤ berthStart k := Nat.le_add_right _ _
  refine ⟨?_, ?_, ?_, ?_, ?_, ?_, ?_⟩
  · intro s p f k hreaches htopo hk haddr hlo hhi hstatic hplanned hend hstar hfirst
    obtain ⟨htopo', hbranch, hrate, hused⟩ := s.admitted_frame p (hSrc (hdrNum f.bytes)) (f.t - berthStart k)
    have := hafter500 k
    refine ⟨_, rfl, congrArg (fun t : State => Host.Outcome.next t.startIso) ?_⟩
    rw [State.rxUplink_of_static hreaches haddr (by omega) hstatic, State.rxStatic_of_good hk (by omega) hhi hplanned hend hstar,
      State.takeCopy, if_neg (by rw [htopo']; exact htopo)]
    refine State.useBerth_of_first ?_ ?_
    · rw [State.berthKey, hbranch, State.berthOf_window (k := k) (by rw [hrate]; exact hk) (by omega) hhi]
    · rw [hused]
      exact hfirst
  · intro s p f k hreaches htopo hk haddr hlo hhi hstatic hplanned hend hstar
    obtain ⟨htopo', -, -, -⟩ := s.admitted_frame p (hSrc (hdrNum f.bytes)) (f.t - berthStart k)
    have := hafter500 k
    refine ⟨_, rfl, congrArg (fun t : State => Host.Outcome.next t.startIso) ?_⟩
    rw [State.rxUplink_of_static hreaches haddr (by omega) hstatic, State.rxStatic_of_good hk (by omega) hhi hplanned hend hstar,
      State.takeCopy, if_pos (by rw [htopo']; exact htopo)]
  · intro s p f n hhears hstopped hown htopo hholder htails htype hn hstate hbranch hpart hslot hstar hused
    refine congrArg (fun t : State => Host.Outcome.next t.startIso) ?_
    rw [← State.rxShadow_of_used hn hstate hbranch hpart hslot hstar hused]
    simp only [State.rxUplink, State.tailsBefore_of_none htails, hhears, hstopped, hown, htopo, hholder, htype, Bool.not_true, Bool.not_false,
      decide_true, Bool.and_self, Bool.or_self, Bool.false_eq_true, if_false, if_true]
  · intro s p f hreaches haddr hlo hstatic hother hhi
    refine congrArg (fun t : State => Host.Outcome.next t.startIso) ?_
    have := hcount s
    rw [State.rxUplink_of_static hreaches haddr hlo hstatic,
      State.rxStatic_of_other (k := 0) (by omega) (by simp only [berthStart]; omega) (by simp only [berthStart]; omega) hother]
    rfl
  · intro s p f hhears hclosed htails hlo hhi
    exact congrArg (fun t : State => Host.Outcome.next t.startIso) (State.overrun_of_static hhears hclosed htails hlo hhi)
  · intro s p f hreaches hsrc hnear hslots hfirst hstar hmsg
    refine congrArg (fun t : State => Host.Outcome.next t.startIso) ?_
    have hjoin : hSrc (hdrNum f.bytes) % 256 = 0xFF := by omega
    have hbranch : hSrc (hdrNum f.bytes) / 256 = s.branchOf p.val := by omega
    have hno : s.net.joinUsed.contains p.val = false := by rw [Bool.eq_false_iff, ne_eq, List.contains_iff_mem]; exact hfirst
    rw [State.rxUplink_of_reaches hreaches, if_neg (joinWindow_not_static hjoin hnear), State.rxDynamic_of_join hjoin hnear hslots, hno, hbranch, bne_self_eq_false,
      Bool.or_self, if_neg Bool.false_ne_true]
    have hgood : ({ s with net := { s.net with joinUsed := p.val :: s.net.joinUsed } } : State).starCheck f false = none := hstar
    exact (State.takeFrame_of_good (p := p) hgood).trans (State.rxMsg_join (p := p) hjoin hmsg)
  · intro s p f hreaches hjoin hnear hslots hrefused
    refine congrArg (fun t : State => Host.Outcome.next t.startIso) ?_
    rw [State.rxUplink_of_reaches hreaches, if_neg (joinWindow_not_static hjoin hnear), State.rxDynamic_of_join hjoin hnear hslots, if_pos ?_]
    rw [Bool.or_eq_true, List.contains_iff_mem, bne_iff_ne]
    exact hrefused

/-! ### Messages -/

section
variable {s : State} {p : Nat} {f : RxFrame} (haddr : hSrc (hdrNum f.bytes) % 256 ≠ 0xFF)
include haddr

/-- A message of a node reaches its handler (Table 3.18). -/
theorem State.rxMsg_of_node :
    (leAt (framePayload f.bytes) 0 1 = 6 → s.rxMsg p f = s.dataAck (hSrc (hdrNum f.bytes)) (framePayload f.bytes)) ∧
    (leAt (framePayload f.bytes) 0 1 = 8 →
      s.rxMsg p f = s.echoRsp (hSrc (hdrNum f.bytes)) ((s.bnd + f.t) * 65536) (framePayload f.bytes)) ∧
    (leAt (framePayload f.bytes) 0 1 = 0x0A →
      s.rxMsg p f = s.cartMsg (hSrc (hdrNum f.bytes)) (leAt (framePayload f.bytes) 2 2) ((framePayload f.bytes).drop 4)) ∧
    (leAt (framePayload f.bytes) 0 1 = 0x0B → s.rxMsg p f = s.tunnelFrag (hSrc (hdrNum f.bytes)) (framePayload f.bytes)) ∧
    (leAt (framePayload f.bytes) 0 1 = 0x0D → s.rxMsg p f = s.nodeInfo (hSrc (hdrNum f.bytes)) (framePayload f.bytes)) := by
  have haddressed : (hSrc (hdrNum f.bytes) % 256 == 0xFF) = false := beq_eq_false_iff_ne.2 haddr
  refine ⟨?_, ?_, ?_, ?_, ?_⟩ <;> intro hmsg <;> simp [State.rxMsg, haddressed, hmsg]

end

/-- A refused block ends the transfer (R144). -/
theorem State.dataAck_of_authFail {s : State} {addr : Nat} {pl : List Byte} {o : NetOp} (htransfer : s.transferOf addr = some o)
    (hstatus : leAt pl 2 2 % 256 = 3) : s.dataAck addr pl = s.endOp o .authFail := by
  simp only [State.dataAck, htransfer, hstatus]
  rfl

/-- One of the first echoes over the head path (R164). -/
theorem State.echoRsp_of_early {s : State} {addr : Nat} {t4 : Int} {pl : List Byte} {e : Echo}
    (hecho : (s.node addr).echoOut.find? (fun e => e.no % 65536 == leAt pl 2 2) = some e) (hhead : e.tail = false)
    (hearly : (s.node addr).echoAns < 7) :
    ∃ n : Node, s.echoRsp addr t4 pl = s.setNode addr n ∧ n.echoOut = (s.node addr).echoOut.erase e ∧ n.echoAns = (s.node addr).echoAns + 1 ∧
      n.dlyT = (s.node addr).dlyT ∧
      n.theta = divRnd (stampAt pl 4 - e.t1) 4096 - divRnd ((t4 - e.t1) - (stampAt pl 16 - stampAt pl 4)) (2 * 4096) ∧
      n.tcorr = (s.node addr).tcorr - n.theta := by
  have hfew : decide (8 ≤ (s.node addr).echoAns + 1) = false := decide_eq_false (by omega)
  simp only [State.echoRsp, hecho, hhead, Bool.false_eq_true, if_false, hfew, Bool.false_and]
  exact ⟨_, rfl, rfl, rfl, rfl, rfl, rfl⟩

/-- The first fragment of a frame that is not the last. -/
theorem State.tunnelFrag_of_first {s : State} {addr : Nat} {pl : List Byte}
    (hnew : (Tab.get {} s.net.reasm (reasmKey addr (leAt pl 1 1)) : Reasm) = {}) (hparam : leAt pl 2 2 % 64 = 0) :
    s.tunnelFrag addr pl = s.setReasm (reasmKey addr (leAt pl 1 1))
      { idx := 1, bytes := (pl.drop 4).take (pl.length - 4), start := s.cycle, active := true } := by
  have hidx : leAt pl 2 2 % 32 = 0 := by omega
  have hlast : leAt pl 2 2 / 32 % 2 = 0 := by omega
  simp only [State.tunnelFrag, hnew, hidx, hlast]
  rfl

/-- Settles O10: a frame inside its node's grant is read, and its message reaches its handler. -/
theorem uplinkMessages : Obligations.UplinkMessages := by
  refine ⟨?_, ?_, ?_, ?_, ?_, ?_⟩
  · intro s p f g o hgranted hmsg htransfer hstatus
    obtain ⟨-, -, -, hsrc, haddr, -⟩ := id hgranted
    refine congrArg (fun t : State => Host.Outcome.next t.startIso) ?_
    rw [State.rxUplink_of_granted hgranted, (State.rxMsg_of_node (hsrc.symm ▸ haddr)).1 hmsg, hsrc]
    exact State.dataAck_of_authFail htransfer hstatus
  · intro s p f g e hgranted hmsg hecho hhead hearly
    obtain ⟨-, -, -, hsrc, haddr, -⟩ := id hgranted
    obtain ⟨n, hn, hout, hans, hdly, htheta, hcorr⟩ := State.echoRsp_of_early (t4 := ((s.rxTaken p.val f g).bnd + f.t) * 65536) hecho hhead hearly
    refine ⟨n, congrArg (fun t : State => Host.Outcome.next t.startIso) ?_, hout, hans, hdly, htheta, hcorr⟩
    rw [State.rxUplink_of_granted hgranted, (State.rxMsg_of_node (hsrc.symm ▸ haddr)).2.1 hmsg, hsrc]
    exact hn
  · intro s p f g hgranted hmsg
    obtain ⟨-, -, -, hsrc, haddr, -⟩ := id hgranted
    refine congrArg (fun t : State => Host.Outcome.next t.startIso) ?_
    rw [State.rxUplink_of_granted hgranted, (State.rxMsg_of_node (hsrc.symm ▸ haddr)).2.2.1 hmsg, hsrc]
  · intro s p f g o hgranted hmsg hop
    obtain ⟨-, -, -, hsrc, haddr, -⟩ := id hgranted
    refine congrArg (fun t : State => Host.Outcome.next t.startIso) ?_
    rw [State.rxUplink_of_granted hgranted, (State.rxMsg_of_node (hsrc.symm ▸ haddr)).2.2.2.2 hmsg, hsrc, State.nodeInfo, hop]
  · intro s p f g hgranted hmsg hnew hparam
    obtain ⟨-, -, -, hsrc, haddr, -⟩ := id hgranted
    refine congrArg (fun t : State => Host.Outcome.next t.startIso) ?_
    rw [State.rxUplink_of_granted hgranted, (State.rxMsg_of_node (hsrc.symm ▸ haddr)).2.2.2.1 hmsg, hsrc]
    exact State.tunnelFrag_of_first hnew hparam
  · intro s p f hhears htopo hown htype
    have hring : (decide (s.topo p.val = 2) || decide (s.topo p.val = 3)) = true := by
      rw [← Bool.decide_or, decide_eq_true_eq]
      exact htopo
    refine congrArg Host.Outcome.next ?_
    simp only [State.sailReturn, hhears, hring, hown, htype, beq_self_eq_true, Bool.and_self, if_true]

end Sys2Proof.Machine

/-! Commands on member nodes and the timed events of the network (R10, R103, R127, R144 to R146, R161 to R164, R174, R178, R179). -/

namespace Sys2Proof.Machine

open Sys2Proof

/-! ### Commands that run at once -/

section
variable {s : State} {src : Src} {opc : Nat} {d : Desc} (hacc : s.accepts src opc d)
include hacc

/-- Past the shared checks, with no cycle named, a command runs its body. -/
theorem State.cmd_soon_of_accepts {data : List Byte} {body : State → State} :
    (s.cmd src opc d fun s => s.soon src opc d data body) = body s :=
  (State.cmd_of_precheck_none hacc.1).trans (State.soon_of_noCycle hacc.2)

theorem State.cmd_soonData_of_accepts {data : Option (List Byte)} {body : State → State} :
    (s.cmd src opc d fun s => s.soonData src opc d data body) = body s := by
  rw [State.cmd_of_precheck_none hacc.1]
  cases data with
  | none => rfl
  | some l => exact State.soon_of_noCycle hacc.2

end

/-! ### Transfers (R144) -/

/-- The network's own state is all that has changed, and no node of it. -/
structure NetOnly (s t : State) : Prop where
  regs : t.regs = s.regs
  host : t.host = s.host
  out : t.out = s.out
  cycle : t.cycle = s.cycle
  nodes : t.net.nodes = s.net.nodes

/-- A transfer `o` under way that began as `o₀`, to the one node it names: the last of the operations, its first block unacknowledged. -/
structure TransferUnder (s : State) (o₀ : NetOp) (t : State) (o : NetOp) : Prop where
  only : NetOnly s t
  ops : t.net.ops = s.net.ops ++ [o]
  same : o.src = o₀.src ∧ o.opc = o₀.opc ∧ o.desc = o₀.desc ∧ o.addr = o₀.addr ∧ o.data = o₀.data
  alone : o.nodes = []
  first : o.blocks.head? = some (0, 1, s.cycle, [o₀.addr])
  queued : ∃ m ∈ t.net.dynQ, m.addr = o₀.addr ∧ m.cls = 6

/-- No operation of the state moves data to the node `a`. -/
def State.noTransfer (s : State) (a : Nat) : Prop :=
  s.net.ops.any (fun o => (o.opc == 0x33 || o.opc == 0x34) && (o.addr == a || o.targets.contains a)) = false

section
variable {s t : State} {a : Nat} {o : NetOp}

theorem mem_targets_of_node {o : NetOp} {a : Nat} (h : o.nodes.contains a = true) : o.targets.contains a = true := by
  have hsome : o.nodes.isEmpty = false := by
    cases hnodes : o.nodes with
    | nil => rw [hnodes] at h; exact absurd h Bool.false_ne_true
    | cons => rfl
  rw [NetOp.targets, hsome]
  exact h

/-- No other operation of the node is one of its transfer's. -/
theorem State.noTransfer_of_mem (hnone : s.noTransfer a) {x : NetOp} (hx : x ∈ s.net.ops) :
    ((x.opc == 0x33 || x.opc == 0x34) && (x.addr == a || x.nodes.contains a)) = false := by
  have hall := List.any_eq_false.1 hnone x hx
  rw [Bool.eq_false_iff]
  intro htrue
  apply hall
  rw [Bool.and_eq_true] at htrue ⊢
  refine ⟨htrue.1, ?_⟩
  rw [Bool.or_eq_true]
  exact ((Bool.or_eq_true _ _).mp htrue.2).imp_right mem_targets_of_node

variable (hnone : s.noTransfer a) (hops : t.net.ops = s.net.ops ++ [o]) (hopc : o.opc = 0x33 ∨ o.opc = 0x34) (haddr : o.addr = a)
include hnone hops hopc haddr

theorem State.transferOf_last : t.transferOf a = some o := by
  have hold : s.net.ops.find? (fun o => (o.opc == 0x33 || o.opc == 0x34) && (o.addr == a || o.nodes.contains a)) = none := by
    rw [List.find?_eq_none]
    intro x hx
    rw [State.noTransfer_of_mem hnone hx]
    exact Bool.false_ne_true
  have hkind : (o.opc == 0x33 || o.opc == 0x34) = true := by
    rcases hopc with h | h <;> rw [h] <;> rfl
  rw [State.transferOf, hops, List.find?_append, hold, Option.none_or]
  simp only [List.find?_cons, hkind, haddr, beq_self_eq_true, Bool.true_or, Bool.and_self]

theorem State.updOp_last (o' : NetOp) : (t.updOp o o').net.ops = s.net.ops ++ [o'] := by
  have hkind : (o.opc == 0x33 || o.opc == 0x34) = true := by
    rcases hopc with h | h <;> rw [h] <;> rfl
  have hold : s.net.ops.map (fun x => if x = o then o' else x) = s.net.ops := by
    rw [List.map_congr_left (g := id), List.map_id]
    intro x hx
    refine if_neg ?_
    rintro rfl
    have hself := State.noTransfer_of_mem hnone hx
    rw [hkind, haddr, beq_self_eq_true, Bool.true_or, Bool.and_self] at hself
    exact absurd hself.symm Bool.false_ne_true
  show t.net.ops.map (fun x => if x = o then o' else x) = _
  rw [hops, List.map_append, hold, List.map_cons, List.map_nil, if_pos rfl]

end

theorem State.queueBlock_only (s : State) (o : NetOp) (halone : o.nodes = []) (msg param : Nat) (body : List Byte) :
    NetOnly s (s.queueBlock o msg param body) ∧ (s.queueBlock o msg param body).net.ops = s.net.ops ∧
      ∃ m : DynMsg, (s.queueBlock o msg param body).net.dynQ = s.net.dynQ ++ [m] ∧ m.addr = o.addr ∧ m.cls = 6 := by
  have hto : s.queueBlock o msg param body = s.queueTo o.addr 6 msg param body := by rw [State.queueBlock, halone]; rfl
  rw [hto]
  exact ⟨⟨rfl, rfl, rfl, rfl, rfl⟩, rfl, _, rfl, rfl, rfl⟩

/-- A transfer's operation, and the next block it queues. -/
theorem State.pumpOne_of_more {s : State} {o : NetOp} (hmore : o.next < o.data.length) (hroom : o.blocks.length < 4) (halone : o.nodes = []) :
    ∃ (m body next : _) (blk : List Byte), s.pumpOne o = (s.queueBlock o m blk.length body).updOp o
      { o with next := next, blocks := o.blocks ++ [(o.next, 1, s.cycle, [o.addr])] } := by
  have htargets : o.targets = [o.addr] := by rw [NetOp.targets, halone]; rfl
  simp only [State.pumpOne, hmore, hroom, decide_true, Bool.and_self, if_true, htargets]
  exact ⟨_, _, _, _, rfl⟩

section
variable {s t : State} {o₀ o : NetOp} (hnone : s.noTransfer o₀.addr) (hopc : o₀.opc = 0x33 ∨ o₀.opc = 0x34)
include hnone hopc

/-- The first block of a transfer. -/
theorem State.pumpOne_starts (hempty : o₀.blocks = [] ∧ o₀.next = 0 ∧ o₀.nodes = []) (hdata : o₀.data ≠ []) :
    ∃ o, TransferUnder s o₀ ((s.addOp o₀).pumpOne o₀) o := by
  obtain ⟨hblocks, hnext, halone⟩ := hempty
  obtain ⟨m, body, next, blk, hpump⟩ := State.pumpOne_of_more (s := s.addOp o₀) (o := o₀)
    (by rw [hnext]; exact List.length_pos_iff.2 hdata) (by rw [hblocks]; decide) halone
  obtain ⟨honly, hops, x, hqueue, hx⟩ := (s.addOp o₀).queueBlock_only o₀ halone m blk.length body
  refine ⟨{ o₀ with next := next, blocks := o₀.blocks ++ [(o₀.next, 1, s.cycle, [o₀.addr])] }, ?_⟩
  rw [hpump]
  exact {
    only := ⟨honly.regs, honly.host, honly.out, honly.cycle, honly.nodes⟩
    ops := State.updOp_last hnone hops hopc rfl _
    same := ⟨rfl, rfl, rfl, rfl, rfl⟩
    alone := halone
    first := by rw [hblocks, hnext]; rfl
    queued := ⟨x, hqueue.symm ▸ List.mem_append_right _ (List.mem_singleton_self x), hx⟩ }

/-- A transfer under way stays under way as its window is filled. -/
theorem State.pumpOne_keeps (hunder : TransferUnder s o₀ t o) : ∃ o', TransferUnder s o₀ (t.pumpOne o) o' := by
  obtain ⟨honly, hops, hsame, halone, hfirst, y, hy, hyTo⟩ := hunder
  obtain ⟨hsrc, hopc', hdesc, haddr, hdata⟩ := id hsame
  by_cases hmore : o.next < o.data.length ∧ o.blocks.length < 4
  · obtain ⟨m, body, next, blk, hpump⟩ := State.pumpOne_of_more (s := t) hmore.1 hmore.2 halone
    obtain ⟨honly', hops', x, hqueue, -⟩ := t.queueBlock_only o halone m blk.length body
    rw [hpump]
    refine ⟨{ o with next := next, blocks := o.blocks ++ [(o.next, 1, t.cycle, [o.addr])] }, ?_⟩
    exact {
      only := ⟨honly'.regs.trans honly.regs, honly'.host.trans honly.host, honly'.out.trans honly.out, honly'.cycle.trans honly.cycle,
        honly'.nodes.trans honly.nodes⟩
      ops := State.updOp_last hnone (hops'.trans hops) (hopc'.symm ▸ hopc) haddr _
      same := hsame
      alone := halone
      first := by
        rw [List.head?_append, hfirst]
        rfl
      queued := ⟨y, hqueue.symm ▸ List.mem_append_left _ hy, hyTo⟩ }
  · have hstill : t.pumpOne o = t := by
      have hnonempty : o.blocks.isEmpty = false := by
        cases hb : o.blocks with
        | nil => rw [hb] at hfirst; cases hfirst
        | cons => rfl
      rw [State.pumpOne, if_neg (by rw [← Bool.decide_and, decide_eq_true_eq]; exact hmore), hnonempty]
      simp
    rw [hstill]
    exact ⟨o, honly, hops, hsame, halone, hfirst, y, hy, hyTo⟩

/-- One step of filling a node's window; `State.pumpOp` takes four. -/
def State.pumpStep (s : State) (a : Nat) : State :=
  match s.transferOf a with
  | some o => s.pumpOne o
  | none => s

/-- The window of a new transfer is filled. -/
theorem State.pumpOp_starts (hempty : o₀.blocks = [] ∧ o₀.next = 0 ∧ o₀.nodes = []) (hdata : o₀.data ≠ []) :
    ∃ o, TransferUnder s o₀ ((s.addOp o₀).pumpOp o₀.addr) o := by
  have hfirst : (s.addOp o₀).pumpStep o₀.addr = (s.addOp o₀).pumpOne o₀ := by
    rw [State.pumpStep, State.transferOf_last hnone rfl hopc rfl]
  have hstep (t : State) (hunder : ∃ o, TransferUnder s o₀ t o) : ∃ o, TransferUnder s o₀ (t.pumpStep o₀.addr) o := by
    obtain ⟨o, ho⟩ := hunder
    rw [State.pumpStep, State.transferOf_last hnone ho.ops (ho.same.2.1.symm ▸ hopc) ho.same.2.2.2.1]
    exact State.pumpOne_keeps hnone hopc ho
  have hfour : (s.addOp o₀).pumpOp o₀.addr =
      ((((s.addOp o₀).pumpStep o₀.addr).pumpStep o₀.addr).pumpStep o₀.addr).pumpStep o₀.addr := rfl
  rw [hfour, hfirst]
  exact hstep _ (hstep _ (hstep _ (State.pumpOne_starts hnone hopc hempty hdata)))

end

theorem slice_ne_nil {l : List Byte} {n : Nat} (hl : l ≠ []) (hn : n ≠ 0) : slice l 0 (min n l.length) ≠ [] := by
  cases l with
  | nil => exact absurd rfl hl
  | cons x l =>
    cases n with
    | zero => exact absurd rfl hn
    | succ n => simp [slice]

/-- A node is not busy while no operation moves data to it. -/
theorem State.notBusy_of_noTransfer {s : State} {a : Nat} (hnone : s.noTransfer a) :
    s.net.ops.any (fun o => (o.opc == 0x33 || o.opc == 0x34) && (o.addr == a || o.targets.any (fun x => [a].contains x))) = false := by
  have hwho (o : NetOp) : o.targets.any (fun x => [a].contains x) = o.targets.contains a := by
    rw [Bool.eq_iff_iff]
    simp
  simp only [hwho]
  exact hnone

/-- A transfer of one node starts (R144). -/
theorem State.netTransfer_of_free {s : State} {src : Src} {opc : Nat} {d : Desc} {l : List Byte} (hopc : opc = 0x33 ∨ opc = 0x34)
    (hmember : s.nodeStatus d.tgt = none) (hone : opc = 0x33 ∨ d.tgt % 256 ≠ 0xFF) (hlen : d.op2 ≠ 0) (hnone : s.noTransfer d.tgt) (hl : l ≠ []) :
    ∃ o : NetOp, TransferUnder s { src := src, opc := opc, desc := d, addr := d.tgt, data := slice l 0 (min d.op2.toNat l.length), nodes := [] }
      (s.netTransfer src opc d (some l)) o := by
  have hbcast : (opc == 0x34 && decide (d.tgt < 0x1000) && d.tgt % 256 == 0xFF) = false := by
    rcases hone with rfl | hne
    · rfl
    · rw [beq_eq_false_iff_ne.2 hne, Bool.and_false]
  have hlen' : d.op2.toNat ≠ 0 := fun h => hlen (BitVec.eq_of_toNat_eq h)
  have hpump : s.netTransfer src opc d (some l) = (s.addOp { src := src, opc := opc, desc := d, addr := d.tgt,
                                                             data := slice l 0 (min d.op2.toNat l.length), nodes := [] }).pumpOp d.tgt := by
    simp only [State.netTransfer, hbcast, hmember, Bool.false_eq_true, if_false, State.notBusy_of_noTransfer hnone, hlen']
  rw [hpump]
  exact State.pumpOp_starts hnone hopc ⟨rfl, rfl, rfl⟩ (slice_ne_nil hl hlen')

/-! ### Messages queued one after the other -/

theorem State.foldl_queueDyn {α : Type} (m : State → α → DynMsg) (hm : ∀ (t u : State) (x : α), t.net.nodes = u.net.nodes → m t x = m u x)
    (l : List α) (s : State) :
    l.foldl (fun s x => s.queueDyn (m s x)) s = s.queueDyns (l.map (m s)) := by
  induction l generalizing s with
  | nil => rw [List.foldl_nil, List.map_nil, State.queueDyns, List.append_nil]
  | cons x l ih =>
    have hsame : l.map (m (s.queueDyn (m s x))) = l.map (m s) := List.map_congr_left (fun y _ => hm _ _ y rfl)
    rw [List.foldl_cons, ih, hsame, List.map_cons]
    simp only [State.queueDyns, State.queueDyn, List.append_assoc, List.singleton_append]

/-- A fragment of a tunnel frame as a message to a node (R145). -/
def tunnelMsg (addr seq : Nat) (tail : Bool) (fr : Nat × Bool × Nat × List Byte) : DynMsg :=
  { cls := 7, addr := addr, tail := tail,
    body := dynBody 0x0B seq (fr.1 + (if fr.2.1 then 32 else 0) + 64 * fr.2.2.1) (fr.2.2.2 ++ List.replicate fr.2.2.1 0) }

/-- TUNNEL_TX of a frame to a member: its fragments are queued. -/
theorem State.tunnelTx_of_frame {s : State} {src : Src} {d : Desc} {l : List Byte} (hmember : s.nodeStatus d.tgt = none)
    (hmin : 64 ≤ d.op2.toNat) (hmax : d.op2.toNat ≤ 1518) :
    s.tunnelTx src d (some l) = ((({ s with net := { s.net with
      tunnelSeq := Tab.set 0 s.net.tunnelSeq d.tgt ((Tab.get 0 s.net.tunnelSeq d.tgt + 1) % 256) } } : State).queueDyns
        ((tunnelFrags 17 0 (slice l 0 d.op2.toNat)).map
          (tunnelMsg d.tgt (Tab.get 0 s.net.tunnelSeq d.tgt) (s.node d.tgt).tail))).complete src 0xB0 d .ok) := by
  have hlen : (decide (d.op2.toNat < 64) || decide (1518 < d.op2.toNat)) = false := by
    rw [← Bool.decide_or, decide_eq_false_iff_not]
    omega
  simp only [State.tunnelTx, hmember, hlen, Bool.false_eq_true, if_false]
  refine congrArg (State.complete · src 0xB0 d .ok) ?_
  refine State.foldl_queueDyn (fun t => tunnelMsg d.tgt (Tab.get 0 s.net.tunnelSeq d.tgt) (t.node d.tgt).tail) ?_ _ _
  intro t u fr hnodes
  rw [State.node, hnodes]
  rfl

/-- Settles O11: past the shared checks each command runs its body, which records the operation and queues its message. -/
theorem nodeCommands : Obligations.NodeCommands := by
  refine ⟨?_, ?_, ?_, ?_, ?_, ?_⟩
  · intro s src d hacc hmember hop
    have hbody : s.netBoom src d = (s.queueBoom d.tgt true true).addOp { src := src, opc := 0x30, desc := d, addr := d.tgt } := by
      simp only [State.netBoom, hmember, hop]
      rfl
    refine ⟨_, congrArg Host.Outcome.next ((State.cmd_soon_of_accepts hacc).trans hbody), ?_, ?_, rfl, rfl, rfl⟩
    · exact List.mem_append_right _ (List.mem_singleton_self _)
    · refine (Tab.get_set_self ([] : List BoomCmd) s.net.booms (d.tgt / 256) _).symm ▸ ?_
      exact List.mem_append_right _ (List.mem_singleton_self _)
  · intro s src d hacc hrange hpos hnode
    have hbody : s.netQuery src d = (s.addOp { src := src, opc := 0x31, desc := d, addr := d.tgt, cyc0 := s.cycle,
                                               sent := true }).queueTo d.tgt 5 0x0C 0 [] := by
      simp only [State.netQuery, Nat.not_le.2 hrange, hpos, hnode, Bool.false_eq_true, if_false]
    refine ⟨_, congrArg Host.Outcome.next ((State.cmd_soon_of_accepts hacc).trans hbody),
      List.mem_append_right _ (List.mem_singleton_self _), ⟨_, List.mem_append_right _ (List.mem_singleton_self _), rfl, rfl⟩,
      rfl, rfl, rfl, rfl⟩
  · intro s src d hacc hmember
    refine congrArg Host.Outcome.next ((State.cmd_soon_of_accepts hacc).trans ?_)
    simp only [State.netReset, hmember]
    rfl
  · intro s src d l hacc hmember hlen hnone hl
    obtain ⟨o, ho⟩ := State.netTransfer_of_free (src := src) (Or.inl rfl) hmember (Or.inl rfl) hlen hnone hl
    obtain ⟨hsrc, -, hdesc, haddr, hdata⟩ := ho.same
    exact ⟨_, congrArg Host.Outcome.next (State.cmd_soonData_of_accepts hacc), ho.only.regs, ho.only.host, ho.only.out,
      ⟨o, ho.ops.symm ▸ List.mem_append_right _ (List.mem_singleton_self o), hsrc, hdesc, haddr, hdata, ho.first⟩, ho.queued⟩
  · intro s src d l hacc hmember hone hlen hnone hl
    obtain ⟨o, ho⟩ := State.netTransfer_of_free (src := src) (Or.inr rfl) hmember (Or.inr hone) hlen hnone hl
    obtain ⟨hsrc, -, hdesc, haddr, hdata⟩ := ho.same
    exact ⟨_, congrArg Host.Outcome.next (State.cmd_soonData_of_accepts hacc), ho.only.regs, ho.only.host, ho.only.out,
      ⟨o, ho.ops.symm ▸ List.mem_append_right _ (List.mem_singleton_self o), hsrc, hdesc, haddr, hdata, ho.first⟩, ho.queued⟩
  · intro s src d l hacc hmember hmin hmax
    exact ⟨_, congrArg Host.Outcome.next ((State.cmd_soonData_of_accepts hacc).trans (State.tunnelTx_of_frame hmember hmin hmax)),
      rfl, rfl, rfl, Tab.get_set_self _ _ _ _, rfl⟩

/-! ### Commands turned away -/

/-- Settles O12: past the shared checks each command's own checks answer in their order. -/
theorem nodeCommandsRefused : Obligations.NodeCommandsRefused := by
  refine ⟨?_, ?_, ?_, ?_, ?_⟩
  · intro s src d hacc hrange hlo hhi
    have hpos : reservedPos d.tgt = true := by rw [reservedPos, decide_eq_true hlo, decide_eq_true hhi]; rfl
    refine congrArg Host.Outcome.next ((State.cmd_soon_of_accepts hacc).trans ?_)
    simp only [State.netBoom, State.nodeStatus, Nat.not_le.2 hrange, hpos, if_false, if_true]
  · intro s src d hacc hrange hhi hnode
    have hpos : reservedPos d.tgt = false := by rw [reservedPos, decide_eq_false (by omega), Bool.false_and]
    refine congrArg Host.Outcome.next ((State.cmd_soon_of_accepts hacc).trans ?_)
    simp only [State.netQuery, Nat.not_le.2 hrange, hpos, hnode, Bool.false_eq_true, if_false, if_true]
  · intro s src d hacc hmember hop
    refine congrArg Host.Outcome.next ((State.cmd_soon_of_accepts hacc).trans ?_)
    simp only [State.netBoom, hmember, hop, if_true]
  · intro s src d l hacc hmember hlen
    refine congrArg Host.Outcome.next ((State.cmd_soonData_of_accepts hacc).trans ?_)
    simp only [State.tunnelTx, hmember, decide_eq_true hlen, Bool.or_true, if_true]
  · intro s src d hacc hmember hlen hnone
    have hlen' : d.op2.toNat ≠ 0 := fun h => hlen (BitVec.eq_of_toNat_eq h)
    refine congrArg Host.Outcome.next ((State.cmd_soonData_of_accepts hacc).trans ?_)
    have hbcast : ((0x33 : Nat) == 0x34 && decide (d.tgt < 0x1000) && d.tgt % 256 == 0xFF) = false := rfl
    simp only [State.netTransfer, hbcast, hmember, Bool.false_eq_true, if_false, State.notBusy_of_noTransfer hnone, hlen']

/-! ### Timed events -/

theorem State.countNodes_net (s : State) (b : Nat) : (s.countNodes b).net = s.net := rfl

/-- Settles O13: each event's condition holds, so it does its one action. -/
theorem nodeTimers : Obligations.NodeTimers := by
  refine ⟨?_, ?_, ?_, ?_, ?_, ?_, ?_, ?_, ?_, ?_⟩
  · intro s a hauto hadmitted hok hopened hmember
    refine congrArg Host.Outcome.next ?_
    simp only [State.autoJoin, hauto, hadmitted, hok, hopened, hmember, decide_true, Bool.not_false, beq_self_eq_true, Bool.and_self, if_true]
  · intro s a habsent hmember hop
    refine congrArg Host.Outcome.next ?_
    have hop' : (((s.setNode a.val { s.node a.val with state := 3 }).raise 57 a.val).countNodes (a.val / 256)).opOn 0x32 a.val = none := by
      rw [State.opOn, State.countNodes_net, State.raise_net _ _ _ (by decide)]
      exact hop
    simp only [State.nodeAbsent, habsent, hmember, if_true, hop']
  · intro s a x hold
    refine congrArg Host.Outcome.next ?_
    rw [State.tunnelTimeout, hold]
    rfl
  · intro s a o b htransfer hblock hsent
    refine congrArg Host.Outcome.next ?_
    have htransfer' : s.transferOf a.val = some o := htransfer
    simp only [State.blockResend, htransfer', hblock, hsent, if_true]
  · intro s a hmember htopo
    refine congrArg Host.Outcome.next ?_
    simp only [State.echoSchedule, hmember, bne_self_eq_false, beq_eq_false_iff_ne.2 htopo, Bool.false_eq_true, if_false]
    rfl
  · intro s a o hop hsent hlate
    refine congrArg Host.Outcome.next ?_
    simp only [State.boomTimeout, hop, hsent, Nat.reduceAdd, decide_eq_true hlate, Bool.and_self, if_true]
  · intro s a o hop hleft hlate hpresent
    refine congrArg Host.Outcome.next ?_
    simp only [State.resetTimeout, hop, hleft, hlate, decide_true, Bool.and_self, if_true, hpresent, Bool.false_eq_true, if_false]
  · intro s a o hop hlate
    refine congrArg Host.Outcome.next ?_
    simp only [State.queryTimeout, hop, hlate, decide_true, if_true]
  · intro s p pins hdown
    refine ⟨_, rfl, congrArg Host.Outcome.next ?_⟩
    refine if_neg (fun h => ?_)
    have hzero : (if Tab.get 16 s.net.linkAge p.val < 16 then 2 else 1) = 0 := h.symm.trans hdown
    split at hzero <;> cases hzero
  · intro s p pins hup
    refine ⟨_, rfl, congrArg Host.Outcome.next ?_⟩
    exact if_neg hup

end Sys2Proof.Machine

/-! Network time: PPS steering, steps, PPS_OUT and the start of the network (R14, R149 to R151, R154). -/

namespace Sys2Proof.Machine

open Sys2Proof

theorem not_hostSide_time {k : Nat} (hk : k < 0x10000) : ¬ hostSide (TIME_B + k) := by
  simp only [hostSide, TIME_B]
  omega

/-! ### Steering -/

/-- From `s` to `t` nothing but the lock and its flags has changed: the stamps, PPS and holdover stand. -/
structure SteerApart (s t : State) : Prop where
  net : t.net = s.net
  setCmd : t.tim.setCmd = s.tim.setCmd
  lo : t.rg (TIME_B + 0x18) = s.rg (TIME_B + 0x18)
  hi : t.rg (TIME_B + 0x1C) = s.rg (TIME_B + 0x1C)
  pps : t.flag TIME_STAT 2 = s.flag TIME_STAT 2
  hold : t.flag TIME_STAT 4 = s.flag TIME_STAT 4

namespace SteerApart

variable {s t u : State}

theorem refl : SteerApart s s := ⟨rfl, rfl, rfl, rfl, rfl, rfl⟩

theorem trans (h : SteerApart s t) (k : SteerApart t u) : SteerApart s u :=
  ⟨k.net.trans h.net, k.setCmd.trans h.setCmd, k.lo.trans h.lo, k.hi.trans h.hi, k.pps.trans h.pps, k.hold.trans h.hold⟩

theorem ite {c : Prop} [Decidable c] (h : SteerApart s t) (k : SteerApart s u) : SteerApart s (if c then t else u) := by
  split <;> assumption

/-- A write of another register. -/
theorem setRg {o : Nat} {w : Word} (hlo : TIME_B + 0x18 ≠ o) (hhi : TIME_B + 0x1C ≠ o) (hstat : TIME_STAT ≠ o) : SteerApart s (s.setRg o w) :=
  ⟨rfl, rfl, State.rg_setRg_ne s _ _ _ hlo, State.rg_setRg_ne s _ _ _ hhi, State.flag_setRg_ne s _ _ hstat, State.flag_setRg_ne s _ _ hstat⟩

/-- A bit of TIME_STAT other than PPS and HOLDOVER. -/
theorem putFlag {n : Nat} {b : Bool} (hn : n < 32) (hpps : n ≠ 2) (hhold : n ≠ 4) : SteerApart s (s.putFlag TIME_STAT n b) :=
  ⟨rfl, rfl, State.rg_putFlag_ne s _ _ (by decide), State.rg_putFlag_ne s _ _ (by decide),
    State.flag_putFlag_other _ _ _ _ _ hn (Ne.symm hpps), State.flag_putFlag_other _ _ _ _ _ hn (Ne.symm hhold)⟩

theorem raise {src arg : Nat} (hsrc : src < 256) : SteerApart s (s.raise src arg) := by
  have hrg (k : Nat) (hk : k < 0x10000) : (s.raise src arg).rg (TIME_B + k) = s.rg (TIME_B + k) :=
    State.rg_raise _ _ _ _ hsrc (not_hostSide_time hk)
  exact ⟨State.raise_net _ _ _ hsrc, congrArg TimeSt.setCmd (State.raise_tim _ _ _ hsrc), hrg 0x18 (by decide), hrg 0x1C (by decide),
    congrArg (bit · 2) (hrg 0x10 (by decide)), congrArg (bit · 4) (hrg 0x10 (by decide))⟩

theorem siteLock (s : State) (on : Bool) : SteerApart s (s.siteLock on) := by
  have hset (b : Bool) : SteerApart s (s.putFlag TIME_STAT 3 b) := putFlag (by decide) (by decide) (by decide)
  have hlost (t : State) : SteerApart t (t.setFlag TIME_FLAGS 1) := setRg (by decide) (by decide) (by decide)
  rw [State.siteLock]
  exact ite refl (ite ((hset true).trans (raise (by decide))) (((hset false).trans (hlost _)).trans (raise (by decide))))

theorem siteFlag (s : State) : SteerApart s s.siteFlag := putFlag (by decide) (by decide) (by decide)

end SteerApart

/-- SITE_LOCK off. -/
theorem State.siteLock_off (s : State) : (s.siteLock false).flag TIME_STAT 3 = false := by
  rw [State.siteLock]
  cases hlock : s.flag TIME_STAT 3 with
  | false => exact hlock
  | true =>
    have hraise (t : State) : (t.raise 34 (2 * 0x10000)).flag TIME_STAT 3 = t.flag TIME_STAT 3 :=
      congrArg (bit · 3) (State.rg_raise _ _ _ _ (by decide) (not_hostSide_time (k := 0x10) (by decide)))
    exact (hraise _).trans ((State.flag_setFlag_ne _ _ _ (show TIME_STAT ≠ TIME_FLAGS by decide)).trans
      (State.flag_clrFlag_self s TIME_STAT 3 (by decide)))

/-- An edge's stamp, PPS and the end of a holdover. -/
def State.stamped (s : State) (t : Nat) : State :=
  (((s.setFlag TIME_STAT 2).setRg (TIME_B + 0x18) (ofNat t)).setRg (TIME_B + 0x1C) (ofNat (t / 2 ^ 32))).clrFlag TIME_STAT 4

/-- The lock follows a stamped edge; `State.ppsEdge_of_steered` ties it to the model. -/
def State.steered (s : State) (t : Nat) : State :=
  let dev := absI (fromSecond t)
  let u := ((s.stamped t).setRg TIME_STEER (ofInt (clampI (-100000) 100000 (Config.freeInt s.free)))).draw
  let n := if dev ≤ 100 then min 4 (s.tim.inBand + 1) else 0
  let v : State := { u with tim := { u.tim with inBand := n, holdOn := false } }
  if v.flag TIME_STAT 5 then v.siteLock false
  else if 1000 < dev then v.siteLock false
  else if n = 4 then v.siteLock true else v

section
variable {s : State} {t : Nat}

theorem State.steered_apart (s : State) (t : Nat) : SteerApart (s.stamped t) (s.steered t) := by
  have hsteer (w : Word) : SteerApart (s.stamped t) ((s.stamped t).setRg TIME_STEER w) :=
    SteerApart.setRg (by decide) (by decide) (by decide)
  have htim (u : State) (n : Nat) : SteerApart u { u.draw with tim := { u.tim with inBand := n, holdOn := false } } :=
    ⟨rfl, rfl, rfl, rfl, rfl, rfl⟩
  exact ((hsteer _).trans (htim _ _)).trans
    (SteerApart.ite (SteerApart.siteLock _ _) (SteerApart.ite (SteerApart.siteLock _ _) (SteerApart.ite (SteerApart.siteLock _ _) SteerApart.refl)))

theorem State.ppsEdge_of_steered (hon : s.flag TIME_CFG 0 = true) (hcmd : s.tim.setCmd = none) : s.ppsEdge t = (s.steered t).siteFlag := by
  have hon' : (s.setFlag TIME_STAT 2).flag TIME_CFG 0 = true :=
    (State.flag_setFlag_ne s 2 0 (show TIME_CFG ≠ TIME_STAT by decide)).trans hon
  have hnone : (s.steered t).tim.setCmd = none := (s.steered_apart t).setCmd.trans hcmd
  have hmatch : s.ppsEdge t = if !(s.setFlag TIME_STAT 2).flag TIME_CFG 0 then s.setFlag TIME_STAT 2 else
      (match (s.steered t).tim.setCmd with
      | some (_, d) =>
        if (s.steered t).tim.step.isSome then s.steered t
        else { s.steered t with tim := { (s.steered t).tim with
          step := some (if t ≤ (s.steered t).bnd then 1 else 2, divRnd (op64 d.op0 d.op1 - (t : Int)) (s.steered t).tCyc,
            op64 d.op0 d.op1 - (t : Int) - divRnd (op64 d.op0 d.op1 - (t : Int)) (s.steered t).tCyc * (s.steered t).tCyc) } }
      | none => s.steered t).siteFlag := rfl
  rw [hmatch, hon', hnone]
  rfl

theorem State.stamped_facts (s : State) (t : Nat) :
    (s.stamped t).rg (TIME_B + 0x18) = ofNat t ∧ (s.stamped t).rg (TIME_B + 0x1C) = ofNat (t / 2 ^ 32) ∧
      (s.stamped t).flag TIME_STAT 2 = true ∧ (s.stamped t).flag TIME_STAT 4 = false := by
  refine ⟨?_, ?_, ?_, State.flag_clrFlag_self _ _ _ (by decide)⟩
  · rw [State.stamped, State.rg_clrFlag_ne _ _ _ _ (by decide), State.rg_setRg_ne _ _ _ _ (by decide), State.rg_setRg_self]
  · rw [State.stamped, State.rg_clrFlag_ne _ _ _ _ (by decide), State.rg_setRg_self]
  · rw [State.stamped, State.flag_clrFlag_other _ _ _ _ (by decide) (by decide), State.flag_setRg_ne _ _ _ (by decide),
      State.flag_setRg_ne _ _ _ (by decide)]
    exact State.flag_setFlag_self s TIME_STAT 2 (by decide)

/-- PPS lost (R149). -/
theorem State.ppsTimeout_facts (hon : s.flag TIME_CFG 0 = true) (hpps : s.flag TIME_STAT 2 = true) :
    s.ppsTimeout.flag TIME_STAT 2 = false ∧ s.ppsTimeout.flag TIME_STAT 3 = false ∧ s.ppsTimeout.flag TIME_STAT 4 = true ∧
      s.ppsTimeout.net = s.net := by
  have hlock := SteerApart.siteLock (s.clrFlag TIME_STAT 2) false
  have hshape : s.ppsTimeout = ({ (s.clrFlag TIME_STAT 2).siteLock false with tim := { ((s.clrFlag TIME_STAT 2).siteLock false).tim with
      inBand := 0, holdOn := s.flag TIME_STAT 3 && decide (0 < s.fld TIME_CFG 15 8) } }.setFlag TIME_STAT 4).siteFlag := by
    rw [State.ppsTimeout, hpps, hon]
    rfl
  rw [hshape]
  refine ⟨?_, ?_, ?_, hlock.net⟩
  · rw [State.siteFlag, State.flag_putFlag_other _ _ _ _ _ (by decide) (by decide), State.flag_setFlag_other _ _ _ _ (by decide) (by decide)]
    exact hlock.pps.trans (State.flag_clrFlag_self s TIME_STAT 2 (by decide))
  · rw [State.siteFlag, State.flag_putFlag_other _ _ _ _ _ (by decide) (by decide), State.flag_setFlag_other _ _ _ _ (by decide) (by decide)]
    exact State.siteLock_off (s.clrFlag TIME_STAT 2)
  · rw [State.siteFlag, State.flag_putFlag_other _ _ _ _ _ (by decide) (by decide)]
    exact State.flag_setFlag_self _ TIME_STAT 4 (by decide)

end

/-! ### The start of the network -/

/-- Cycle 0 has begun. -/
def State.startsRun (s : State) : Prop := s.cycle = 0 ∧ s.ntime = 0 ∧ s.bnd = 0 ∧ s.flag TIME_STAT 1 = true

theorem State.sendFrame_startsRun {s : State} (h : s.startsRun) (p start : Nat) (l : List Byte) : (s.sendFrame p start l).startsRun := by
  have hcount : (s.incFld (pCfg p + 0x18) 31 0 1).startsRun :=
    ⟨h.1, h.2.1, h.2.2.1, (State.flag_setRg_ne s _ _ (by simp only [TIME_STAT, TIME_B, pCfg, NET_B]; omega)).trans h.2.2.2⟩
  rw [State.sendFrame]
  split
  · dsimp only
    split <;> exact hcount
  · exact h

theorem State.sendSail_startsRun {s : State} (h : s.startsRun) : s.sendSail.startsRun := by
  rw [State.sendSail]
  split
  · refine List.foldlRecOn _ _ h (fun t ht p _ => ?_)
    split
    · exact State.sendFrame_startsRun ht _ _ _
    · exact ht
  · exact h

theorem State.drawGrants_startsRun {s : State} (h : s.startsRun) : s.drawGrants.startsRun := by
  rw [State.drawGrants]
  exact List.foldlRecOn _ _ (motive := State.startsRun) h (fun t ht g _ => ht)

/-- Without site time cycle 0 begins at network time 0. -/
theorem State.networkStart_of_may {s : State} (hmay : s.mayStart = true) (hstopped : s.flag TIME_STAT 1 = false)
    (hsite : s.flag TIME_STAT 6 = false) : ∃ u : State, s.networkStart = u.sendSail.drawGrants ∧ u.startsRun := by
  simp only [State.networkStart, hmay, hstopped, hsite, Bool.not_false, Bool.and_self, if_true, Bool.false_eq_true, if_false]
  exact ⟨_, rfl, rfl, rfl, rfl, State.flag_setFlag_self _ TIME_STAT 1 (by decide)⟩

/-- Settles O15: each event is its branch of the model; what steering, PPS_TIMEOUT and the start keep are the lemmas above. -/
theorem networkTime : Obligations.NetworkTime := by
  refine ⟨?_, ?_, ?_, ?_, ?_, ?_, ?_, ?_, ?_, ?_⟩
  · intro s x hon hcmd
    obtain ⟨hlo, hhi, hpps, hhold⟩ := s.stamped_facts x.toNat
    have hsteer := (s.steered_apart x.toNat).trans (SteerApart.siteFlag _)
    exact ⟨_, congrArg Host.Outcome.next (State.ppsEdge_of_steered hon hcmd), hsteer.lo.trans hlo, hsteer.hi.trans hhi,
      hsteer.pps.trans hpps, hsteer.hold.trans hhold, hsteer.net⟩
  · intro s x hoff
    have hoff' : (s.setFlag TIME_STAT 2).flag TIME_CFG 0 = false :=
      (State.flag_setFlag_ne s 2 0 (show TIME_CFG ≠ TIME_STAT by decide)).trans hoff
    refine congrArg Host.Outcome.next ?_
    simp only [State.ppsEdge, hoff', Bool.not_false, if_true]
  · intro s hon hpps
    exact ⟨_, rfl, State.ppsTimeout_facts hon hpps⟩
  · intro s hhold
    refine congrArg Host.Outcome.next ?_
    rw [State.holdExpiry, if_pos hhold]
    exact congrArg (State.putFlag _ TIME_STAT 6) ((congrArg (s.flag TIME_STAT 3 || ·) (Bool.and_false _)).trans (Bool.or_false _))
  · intro s k hstep hcmd
    refine congrArg Host.Outcome.next ?_
    simp only [State.timeStep, hstep, if_true, State.raise_tim _ _ _ (show 35 < 256 by decide), State.setFlag_tim, hcmd]
  · intro s src d hcmd hstep
    refine congrArg Host.Outcome.next ?_
    simp only [State.setTimeout, hcmd, hstep]
  · intro s
    rfl
  · intro s hen hlow
    refine congrArg Host.Outcome.next ?_
    simp only [State.ppsOut, hen, hlow]
    rfl
  · intro s src d hacc hon hcmd
    refine congrArg Host.Outcome.next ((State.cmd_soon_of_accepts hacc).trans ?_)
    simp only [State.timeSet, hon, hcmd, Bool.not_true, Option.isSome_none, Bool.false_eq_true, if_false]
  · intro s hmay hstopped hsite
    obtain ⟨u, hshape, hstart⟩ := State.networkStart_of_may hmay hstopped hsite
    obtain ⟨hcycle, htime, hbnd, hrun⟩ := State.drawGrants_startsRun (State.sendSail_startsRun hstart)
    exact ⟨_, congrArg Host.Outcome.next hshape, hcycle, htime, hbnd, hrun⟩

end Sys2Proof.Machine

/-! Lane instructions (R205, R218 to R228, Table 6.7): one rule for what an instruction leaves in its lane, and what it does outside. -/

namespace Sys2Proof.Machine

open Sys2Proof

/-! ### One instruction within its lane -/

/-- The moves of an instruction. -/
def LaneSt.moves (n : LaneSt) (op : Nat) (w : LaneWord) : LaneSt :=
  if op = 0x03 || op = 0x35 then n else n.move (n.move n false w.xm) true w.ym

/-! The parts of a result, written over a lane; `LaneSt.instr_eq` ties them to the model. -/

def LaneSt.putYw (m : LaneSt) (e : LaneEff) : LaneSt := match e.yw with | some x => m.wrY x.1 x.2 | none => m
def LaneSt.putGens (m : LaneSt) (op : Nat) (e : LaneEff) : LaneSt :=
  e.gen.foldl (fun m g => m.setGen g.1 (if op = 5 || op = 6 then { g.2 with p := (m.gen g.1).p } else g.2)) m
def LaneSt.putAccs (m : LaneSt) (e : LaneEff) : LaneSt := e.acc.foldl (fun m g => m.setAcc g.1 g.2) m
def LaneSt.putD (m : LaneSt) (w : LaneWord) (e : LaneEff) : LaneSt := match e.d with | some v => m.setD w.dst.toNat v | none => m
def LaneSt.putCarry (m : LaneSt) (e : LaneEff) : LaneSt := match e.carry with | some c => { m with carry := c } | none => m

/-- The result of an instruction, written over a lane. -/
def LaneSt.effected (m : LaneSt) (op : Nat) (w : LaneWord) (e : LaneEff) : LaneSt :=
  ((((m.putYw e).putGens op e).putAccs e).putD w e).putCarry e

/-- The sequencing of an instruction, over a lane. -/
def LaneSt.sequenced (n m : LaneSt) : LaneSt :=
  { m with accOld := n.acc, pc := (repNext n.pc n.rep).1, rep := (repNext n.pc n.rep).2, ran := n.ran + 1 }

/-- Two lanes agree outside data registers, accumulators, carry, generators and memory. -/
structure LaneAgrees (n m : LaneSt) : Prop where
  lrd : m.lrd = n.lrd
  lwrAt : m.lwrAt = n.lwrAt
  secs : m.secs = n.secs
  rep : m.rep = n.rep

namespace LaneAgrees

variable {n m k : LaneSt}

theorem refl : LaneAgrees n n := ⟨rfl, rfl, rfl, rfl⟩

theorem trans (h : LaneAgrees n m) (h' : LaneAgrees m k) : LaneAgrees n k :=
  ⟨h'.lrd.trans h.lrd, h'.lwrAt.trans h.lwrAt, h'.secs.trans h.secs, h'.rep.trans h.rep⟩

theorem setD (r : Nat) (v : Word) : LaneAgrees n (n.setD r v) := by
  unfold LaneSt.setD
  split <;> exact ⟨rfl, rfl, rfl, rfl⟩

theorem move (old : LaneSt) (y : Bool) (w : BitVec 16) : LaneAgrees n (old.move n y w) := by
  unfold LaneSt.move
  dsimp only
  split
  · exact (setD _ _).trans ⟨rfl, rfl, rfl, rfl⟩
  · split <;> exact ⟨rfl, rfl, rfl, rfl⟩
  · exact refl

theorem moves (op : Nat) (w : LaneWord) : LaneAgrees n (n.moves op w) := by
  unfold LaneSt.moves
  split
  · exact refl
  · exact (move n false w.xm).trans (move n true w.ym)

theorem foldl {α : Type} {f : LaneSt → α → LaneSt} (hf : ∀ m x, LaneAgrees m (f m x)) (l : List α) : LaneAgrees n (l.foldl f n) :=
  List.foldlRecOn l f (motive := LaneAgrees n) refl (fun _ h x _ => h.trans (hf _ x))

theorem putYw (e : LaneEff) : LaneAgrees n (n.putYw e) := by unfold LaneSt.putYw; split <;> exact ⟨rfl, rfl, rfl, rfl⟩
theorem putGens (op : Nat) (e : LaneEff) : LaneAgrees n (n.putGens op e) :=
  foldl (f := fun m g => m.setGen g.1 _) (fun _ _ => ⟨rfl, rfl, rfl, rfl⟩) e.gen
theorem putAccs (e : LaneEff) : LaneAgrees n (n.putAccs e) :=
  foldl (f := fun m g => m.setAcc g.1 g.2) (fun _ _ => ⟨rfl, rfl, rfl, rfl⟩) e.acc
theorem putCarry (e : LaneEff) : LaneAgrees n (n.putCarry e) := by unfold LaneSt.putCarry; split <;> exact ⟨rfl, rfl, rfl, rfl⟩

theorem putD (w : LaneWord) (e : LaneEff) : LaneAgrees n (n.putD w e) := by
  unfold LaneSt.putD
  split
  · exact setD _ _
  · exact refl

theorem effected (op : Nat) (w : LaneWord) (e : LaneEff) : LaneAgrees n (n.effected op w e) :=
  ((((putYw e).trans (putGens op e)).trans (putAccs e)).trans (putD w e)).trans (putCarry e)

end LaneAgrees

/-- Nothing lands while every learning memory read in flight is due later. -/
theorem LaneSt.landed_of_later {m : LaneSt} {c : Nat} (hlater : ∀ e ∈ m.lrd, c < e.1) : m.landed c = m := by
  have hnone : m.lrd.filter (fun e => e.1 ≤ c) = [] := by
    rw [List.filter_eq_nil_iff]
    intro e he
    rw [decide_eq_true_eq]
    have := hlater e he
    omega
  have hall : m.lrd.filter (fun e => c < e.1) = m.lrd := by
    rw [List.filter_eq_self]
    exact fun e he => decide_eq_true (hlater e he)
  simp only [LaneSt.landed, hnone, hall, List.foldl_nil]

theorem foldl_commute {α β : Type} {f : β → α → β} {g : β → β} (hcommute : ∀ m x, g (f m x) = f (g m) x) (l : List α) (m : β) :
    g (l.foldl f m) = l.foldl f (g m) := by
  induction l generalizing m with
  | nil => rfl
  | cons x l ih => rw [List.foldl_cons, List.foldl_cons, ih, hcommute]

/-- Results, and the accumulators and the sequencing that an instruction leaves, do not meet. -/
theorem LaneSt.putD_apart (g : LaneSt → LaneSt) (hg : ∀ m r v, g (LaneSt.setD m r v) = (g m).setD r v) (m : LaneSt) (w : LaneWord) (e : LaneEff) :
    g (m.putD w e) = (g m).putD w e := by
  unfold LaneSt.putD
  split
  · exact hg _ _ _
  · rfl

theorem LaneSt.sequenced_setD (n m : LaneSt) (r : Nat) (v : Word) : n.sequenced (m.setD r v) = (n.sequenced m).setD r v := by
  unfold LaneSt.setD
  split <;> rfl

theorem LaneSt.accOld_setD (t : Tab Int) (m : LaneSt) (r : Nat) (v : Word) :
    ({ m.setD r v with accOld := t } : LaneSt) = ({ m with accOld := t } : LaneSt).setD r v := by
  unfold LaneSt.setD
  split <;> rfl

theorem LaneSt.sequenced_effected (n m : LaneSt) (op : Nat) (w : LaneWord) (e : LaneEff) :
    n.sequenced (m.effected op w e) = (n.sequenced m).effected op w e := by
  have hyw (m : LaneSt) : n.sequenced (m.putYw e) = (n.sequenced m).putYw e := by unfold LaneSt.putYw; split <;> rfl
  have hcarry (m : LaneSt) : n.sequenced (m.putCarry e) = (n.sequenced m).putCarry e := by unfold LaneSt.putCarry; split <;> rfl
  have hgen (m : LaneSt) : n.sequenced (m.putGens op e) = (n.sequenced m).putGens op e :=
    foldl_commute (f := fun m g => LaneSt.setGen m g.1 _) (fun _ _ => rfl) e.gen m
  have hacc (m : LaneSt) : n.sequenced (m.putAccs e) = (n.sequenced m).putAccs e :=
    foldl_commute (f := fun m g => LaneSt.setAcc m g.1 g.2) (fun _ _ => rfl) e.acc m
  rw [LaneSt.effected, hcarry, LaneSt.putD_apart _ n.sequenced_setD, hacc, hgen, hyw, LaneSt.effected]

/-- An instruction is its moves, its result and its sequencing, where no learning memory read lands with it. -/
theorem LaneSt.instr_sequenced {n : LaneSt} {op : Nat} {w : LaneWord} {e : LaneEff} (hlater : ∀ x ∈ n.lrd, n.ran < x.1) (hrep : e.rep = none) :
    n.instr op w e = n.sequenced ((n.moves op w).effected op w e) := by
  have hcarry (m : LaneSt) : ({ m with accOld := n.acc } : LaneSt).putCarry e = { m.putCarry e with accOld := n.acc } := by
    unfold LaneSt.putCarry
    split <;> rfl
  have hland : ({ (n.moves op w).effected op w e with accOld := n.acc } : LaneSt).landed n.ran =
      { (n.moves op w).effected op w e with accOld := n.acc } := by
    refine LaneSt.landed_of_later ?_
    show ∀ x ∈ ((n.moves op w).effected op w e).lrd, n.ran < x.1
    rw [((LaneAgrees.moves op w).trans (LaneAgrees.effected op w e)).lrd]
    exact hlater
  have hold : ((({ (((n.moves op w).putYw e).putGens op e).putAccs e with accOld := n.acc } : LaneSt).putD w e).putCarry e) =
      { (n.moves op w).effected op w e with accOld := n.acc } := by
    rw [← LaneSt.putD_apart (fun m => { m with accOld := n.acc }) (LaneSt.accOld_setD n.acc), hcarry, LaneSt.effected]
  have hshape : n.instr op w e =
      { (((({ (((n.moves op w).putYw e).putGens op e).putAccs e with accOld := n.acc } : LaneSt).putD w e).putCarry e).landed n.ran) with
        pc := (repNext n.pc n.rep).1, rep := (repNext n.pc n.rep).2, ran := n.ran + 1 } := by
    simp only [LaneSt.instr, hrep]
    rfl
  rw [hshape, hold, hland, LaneSt.sequenced]

/-- What an instruction without a repeat leaves in its lane is its result over the one of the same moves without a result. -/
theorem LaneSt.instr_eq {n : LaneSt} {op : Nat} {w : LaneWord} {e : LaneEff} (hlater : ∀ x ∈ n.lrd, n.ran < x.1) (hrep : e.rep = none) :
    n.instr op w e = (n.instr op w {}).effected op w e := by
  rw [LaneSt.instr_sequenced hlater hrep, LaneSt.instr_sequenced hlater (e := {}) rfl, LaneSt.sequenced_effected]
  rfl

/-! ### Instructions of a running pass -/

section
variable {s : State} {l op : Nat} {w : LaneWord} (hat : s.laneAt l op w) {f : LaneSt → LaneWord → LaneEff} {e : LaneEff}
include hat

theorem State.instr_lanePast (hrep : e.rep = none) : (s.lane l).instr op w e = (s.lanePast l op w).effected op w e :=
  LaneSt.instr_eq hat.2 hrep

/-- An instruction leaves its result in the lane and does what it does outside. -/
theorem State.laneRun_of_at (he : f (s.lane l) w = e) (hplain : e.rep = none ∧ e.ends = false) :
    s.laneRun l op w f = (s.setLane l ((s.lanePast l op w).effected op w e)).laneOuter l (s.lane l).axis w e := by
  simp only [State.laneRun, hat.1, if_true, he, hplain.2, Bool.false_eq_true, if_false, State.instr_lanePast hat hplain.1]

/-- An instruction that writes one data register. -/
theorem State.laneRun_data {v : Word} (he : f (s.lane l) w = { d := some v }) : s.laneRun l op w f = s.laneData l op w v :=
  State.laneRun_of_at hat he ⟨rfl, rfl⟩

/-- One that writes its carry too. -/
theorem State.laneRun_add {a b : Word} {c x : Nat} (he : f (s.lane l) w = addEff a b c) (hx : a.toNat + b.toNat + c = x) :
    s.laneRun l op w f = s.setLane l { (s.lanePast l op w).setD w.dst.toNat (ofNat x) with carry := decide (2 ^ 32 ≤ x) } := by
  rw [addEff, hx] at he
  exact State.laneRun_of_at hat he ⟨rfl, rfl⟩

/-- Sequencing and generators, with a result within the lane alone. -/
theorem State.laneRun_inner (he : f (s.lane l) w = e)
    (hinner : e.rep = none ∧ e.ends = false ∧ e.sat = false ∧ e.ovf = false ∧ e.mflag = none ∧ e.life = none ∧ e.lwr = none ∧ e.lrd = none) :
    s.laneRun l op w f = s.setLane l ((s.lanePast l op w).effected op w e) := by
  obtain ⟨hrep, hends, hsat, hovf, hmflag, hlife, hlwr, hlrd⟩ := hinner
  rw [State.laneRun_of_at hat he ⟨hrep, hends⟩]
  simp only [State.laneOuter, hsat, hovf, hmflag, hlife, hlwr, hlrd, Bool.false_eq_true, if_false]

end

/-! ### Saturation (R13, R223) -/

theorem sat_eq (n : Nat) (x : Int) : sat n x = max (-(2 ^ (n - 1))) (min (2 ^ (n - 1) - 1) x) := by
  have hpos : (0 : Int) < 2 ^ (n - 1) := Int.pow_pos (by decide)
  rw [sat, clampI]
  split
  · omega
  · split <;> omega

theorem sat_ne_iff (n : Nat) (x : Int) : sat n x ≠ x ↔ x < -(2 ^ (n - 1)) ∨ 2 ^ (n - 1) - 1 < x := by
  have hpos : (0 : Int) < 2 ^ (n - 1) := Int.pow_pos (by decide)
  rw [sat_eq]
  omega

theorem sat_of_within {n : Nat} {x : Int} (hlo : -(2 ^ (n - 1)) ≤ x) (hhi : x ≤ 2 ^ (n - 1) - 1) : sat n x = x := by
  refine Decidable.byContradiction fun hne => ?_
  have hout := (sat_ne_iff n x).1 hne
  omega

section
variable {s : State} {l op : Nat} {w : LaneWord} (hat : s.laneAt l op w) {f : LaneSt → LaneWord → LaneEff} {x : Int}
include hat

/-- A result saturated to 32 bits. -/
theorem State.laneRun_sat (he : f (s.lane l) w = satEff x) : s.laneRun l op w f = s.laneSat l op w x := by
  have hne := sat_ne_iff 32 x
  rw [State.laneRun_of_at hat he ⟨rfl, rfl⟩, State.laneSat, ← sat_eq 32 x]
  by_cases hsat : sat 32 x = x
  · rw [if_neg (fun h => hne.2 h hsat)]
    simp only [satEff, State.laneOuter, hsat, ne_eq, not_true_eq_false, decide_false, Bool.false_eq_true, if_false]
    rfl
  · rw [if_pos (hne.1 hsat)]
    simp only [satEff, State.laneOuter, ne_eq, hsat, not_false_eq_true, decide_true, Bool.false_eq_true, if_false, if_true]
    rfl

/-- A result saturated to 80 bits. -/
theorem State.laneRun_acc (he : f (s.lane l) w = accEff w.dst x) : s.laneRun l op w f = s.laneAcc l op w x := by
  have hne := sat_ne_iff 80 x
  rw [State.laneRun_of_at hat he ⟨rfl, rfl⟩, State.laneAcc, ← sat_eq 80 x]
  by_cases hsat : sat 80 x = x
  · rw [if_neg (fun h => hne.2 h hsat)]
    simp only [accEff, State.laneOuter, hsat, ne_eq, not_true_eq_false, decide_false, Bool.false_eq_true, if_false]
    rfl
  · rw [if_pos (hne.1 hsat)]
    simp only [accEff, State.laneOuter, ne_eq, hsat, not_false_eq_true, decide_true, Bool.false_eq_true, if_false, if_true]
    rfl

end

/-! ### Data results -/

theorem ofInt_toInt (w : Word) : ofInt (sgn w) = w := BitVec.ofInt_toInt

theorem absI_eq_natAbs (x : Int) : absI x = (x.natAbs : Int) := by
  rw [absI]
  split <;> omega

theorem sshiftRight_eq_div (a : Word) (k : Nat) : a.sshiftRight k = ofInt (sgn a / 2 ^ k) := by
  rw [BitVec.sshiftRight, Int.shiftRight_eq_div_pow]
  rfl

theorem ushiftRight_eq_div (a : Word) (k : Nat) : a >>> k = ofNat (a.toNat / 2 ^ k) := by
  apply BitVec.eq_of_toNat_eq
  rw [BitVec.toNat_ushiftRight, Nat.shiftRight_eq_div_pow, ofNat, BitVec.toNat_ofNat, Nat.mod_eq_of_lt]
  exact Nat.lt_of_le_of_lt (Nat.div_le_self _ _) a.isLt

theorem append_eq_ofNat (x y : BitVec 16) : (x ++ y : Word) = BitVec.ofNat 32 (x.toNat * 65536 + y.toNat) := by
  have hx := x.isLt
  have hy := y.isLt
  apply BitVec.eq_of_toNat_eq
  rw [BitVec.toNat_append, BitVec.toNat_ofNat, ← Nat.shiftLeft_add_eq_or_of_lt hy, Nat.shiftLeft_eq, Nat.mod_eq_of_lt (by omega)]

/-- Settles O16: each instruction's result is the one of its operation, written over the moves and the sequencing. -/
theorem laneDataInstructions : Obligations.LaneDataInstructions := by
  refine ⟨?_, ?_, ?_, ?_, ?_, ?_, ?_, ?_, ?_, ?_, ?_, ?_, ?_, ?_, ?_, ?_, ?_⟩ <;> intro s l w hat
  · refine congrArg Host.Outcome.next (State.laneRun_data hat ?_)
    rw [opLdk, ldkConst, append_eq_ofNat]
  · exact congrArg Host.Outcome.next (State.laneRun_add hat rfl (Nat.add_zero _))
  · refine congrArg Host.Outcome.next (State.laneRun_add hat rfl ?_)
    rfl
  · exact congrArg Host.Outcome.next (State.laneRun_add hat rfl rfl)
  · refine congrArg Host.Outcome.next (State.laneRun_add hat rfl ?_)
    rfl
  · refine congrArg Host.Outcome.next (State.laneRun_data hat ?_)
    rw [opMin, Int.min_def, apply_ite ofInt, ofInt_toInt, ofInt_toInt]
    rfl
  · refine congrArg Host.Outcome.next (State.laneRun_data hat ?_)
    rw [opMax, Int.max_def, apply_ite ofInt, ofInt_toInt, ofInt_toInt]
    rfl
  · refine congrArg Host.Outcome.next (State.laneRun_data hat ?_)
    simp only [opClamp, absI_eq_natAbs]
    rfl
  · exact congrArg Host.Outcome.next (State.laneRun_data hat rfl)
  · exact congrArg Host.Outcome.next (State.laneRun_data hat rfl)
  · refine congrArg Host.Outcome.next (State.laneRun_data hat ?_)
    rw [opAsr, sshiftRight_eq_div]
    rfl
  · refine congrArg Host.Outcome.next (State.laneRun_data hat ?_)
    rw [opLsr, ushiftRight_eq_div]
    rfl
  · exact congrArg Host.Outcome.next (State.laneRun_data hat rfl)
  · exact congrArg Host.Outcome.next (State.laneRun_data hat rfl)
  · exact congrArg Host.Outcome.next (State.laneRun_data hat rfl)
  · intro hring
    refine congrArg Host.Outcome.next (State.laneRun_data hat ?_)
    rw [opLdix, if_neg hring]
    rfl
  · intro _
    exact ⟨_, congrArg Host.Outcome.next (State.laneRun_data hat rfl)⟩

/-- Settles O17: each result goes through one saturation to 32 bits. -/
theorem laneSaturatingInstructions : Obligations.LaneSaturatingInstructions := by
  refine ⟨?_, ?_, ?_, ?_, ?_, ?_, ?_⟩ <;> intro s l w hat
  · exact congrArg Host.Outcome.next (State.laneRun_sat hat rfl)
  · exact congrArg Host.Outcome.next (State.laneRun_sat hat rfl)
  · exact congrArg Host.Outcome.next (State.laneRun_sat hat rfl)
  · refine congrArg Host.Outcome.next (State.laneRun_sat hat ?_)
    rw [opAbss, absI_eq_natAbs]
    rfl
  · exact congrArg Host.Outcome.next (State.laneRun_sat hat rfl)
  · exact congrArg Host.Outcome.next (State.laneRun_sat hat rfl)
  · exact congrArg Host.Outcome.next (State.laneRun_sat hat rfl)

/-- Settles O18: products are exact, and sums go through one saturation to 80 bits. -/
theorem laneAccumulatorInstructions : Obligations.LaneAccumulatorInstructions := by
  refine ⟨?_, ?_, ?_, ?_, ?_, ?_, ?_, ?_, ?_⟩ <;> intro s l w hat
  · exact congrArg Host.Outcome.next (State.laneRun_acc hat rfl)
  · exact congrArg Host.Outcome.next (State.laneRun_acc hat rfl)
  · exact congrArg Host.Outcome.next (State.laneRun_acc hat rfl)
  · refine congrArg Host.Outcome.next ((State.laneRun_inner hat (e := { acc := [(w.dst.toNat % 4, sat 80 _)] }) rfl
      ⟨rfl, rfl, rfl, rfl, rfl, rfl, rfl, rfl⟩).trans ?_)
    rw [sat_eq]
    rfl
  · exact congrArg Host.Outcome.next (State.laneRun_inner hat rfl ⟨rfl, rfl, rfl, rfl, rfl, rfl, rfl, rfl⟩)
  · exact congrArg Host.Outcome.next (State.laneRun_acc hat rfl)
  · exact congrArg Host.Outcome.next (State.laneRun_inner hat rfl ⟨rfl, rfl, rfl, rfl, rfl, rfl, rfl, rfl⟩)
  · intro hlo hhi hlo' hhi'
    have hfirst : sat 80 ((s.lane l.val).accu (w.dst.toNat % 4) + sgn ((s.lane l.val).src w.sa) * sgn ((s.lane l.val).src w.sb)) = _ :=
      sat_of_within hlo hhi
    have hsecond : sat 80 ((s.lane l.val).accu ((w.dst ^^^ 1).toNat % 4) + (s.lane l.val).prod2 w) = _ := sat_of_within hlo' hhi'
    have heff : opDmac (s.lane l.val) w = { acc := [
        (w.dst.toNat % 4, (s.lane l.val).accu (w.dst.toNat % 4) + sgn ((s.lane l.val).src w.sa) * sgn ((s.lane l.val).src w.sb)),
        ((w.dst ^^^ 1).toNat % 4, (s.lane l.val).accu ((w.dst ^^^ 1).toNat % 4) + (s.lane l.val).prod2 w)] } := by
      simp only [opDmac, hfirst, hsecond, ne_eq, not_true_eq_false, or_self, decide_false]
    exact congrArg Host.Outcome.next (State.laneRun_inner hat heff ⟨rfl, rfl, rfl, rfl, rfl, rfl, rfl, rfl⟩)
  · intro hlo hhi
    have hsum := sat_of_within (n := 80) hlo hhi
    refine congrArg Host.Outcome.next ((State.laneRun_inner hat rfl ⟨rfl, rfl, rfl, ?_, rfl, rfl, rfl, rfl⟩).trans ?_)
    · exact decide_eq_false (not_not_intro hsum)
    · exact congrArg (fun x => s.setLane l.val (LaneSt.setAcc _ (w.dst.toNat % 4) x)) hsum

end Sys2Proof.Machine

/-! Lane instructions that sequence the lane, drive its generators and reach the learning and life memories, and the moves around an
instruction (R219, R221, R225 to R227). -/

namespace Sys2Proof.Machine

open Sys2Proof

section
variable {s : State} {l op : Nat} {w : LaneWord} (hat : s.laneAt l op w)
include hat

/-- The lane after the moves and the sequencing of an instruction. -/
theorem State.lanePast_eq : s.lanePast l op w = (s.lane l).sequenced ((s.lane l).moves op w) :=
  LaneSt.instr_sequenced hat.2 (e := {}) rfl

theorem State.lanePast_frame :
    (s.lanePast l op w).lrd = (s.lane l).lrd ∧ (s.lanePast l op w).lwrAt = (s.lane l).lwrAt ∧ (s.lanePast l op w).secs = (s.lane l).secs ∧
      (s.lanePast l op w).ran = (s.lane l).ran + 1 := by
  have hagrees := LaneAgrees.moves (n := s.lane l) op w
  rw [State.lanePast_eq hat]
  exact ⟨hagrees.lrd, hagrees.lwrAt, hagrees.secs, rfl⟩

/-- END leaves the list of sections to go on. -/
theorem State.laneRun_end {f : LaneSt → LaneWord → LaneEff} (he : f (s.lane l) w = { ends := true }) :
    s.laneRun l op w f = (s.setLane l (s.lanePast l op w)).runSecs l (s.lane l).axis (s.lane l).miss (s.lane l).secs := by
  have hlane : ((s.setLane l (s.lanePast l op w)).lane l).secs = (s.lane l).secs := by
    rw [State.lane_setLane_self]
    exact (State.lanePast_frame hat).2.2.1
  simp only [State.laneRun, hat.1, if_true, he]
  exact congrArg ((s.setLane l (s.lanePast l op w)).runSecs l (s.lane l).axis (s.lane l).miss) hlane

/-- REP opens a level. -/
theorem State.laneRun_rep {f : LaneSt → LaneWord → LaneEff} {k c : Nat} (he : f (s.lane l) w = { rep := some (k, c) }) :
    s.laneRun l op w f = s.setLane l { s.lanePast l op w with
      pc := (s.lane l).pc + 1, rep := { first := (s.lane l).pc + 1, last := (s.lane l).pc + k, left := c } :: (s.lane l).rep } := by
  simp only [State.laneRun, hat.1, if_true, he]
  rfl

end

theorem State.setLane_setLane (s : State) (l : Nat) (x y : LaneSt) : (s.setLane l x).setLane l y = s.setLane l y := by
  rw [State.setLane, State.setLane, State.setLane, Tab.set_set]

section
variable {s : State} {l op : Nat} {w : LaneWord} (hat : s.laneAt l op w)
include hat

/-- LRD with no LWR outstanding delivers its bin 23 cycles later (R227). -/
theorem State.laneRun_lrd {f : LaneSt → LaneWord → LaneEff} {k : Nat} (he : f (s.lane l) w = { lrd := some k }) (hnone : (s.lane l).lwrAt = none) :
    s.laneRun l op w f = s.setLane l { s.lanePast l op w with
      lrd := (s.lanePast l op w).lrd ++ [((s.lane l).ran + 23, w.dst.toNat, ofInt (s.rdBin (s.lane l).axis k))] } := by
  obtain ⟨-, hlwr, -, hran⟩ := State.lanePast_frame hat
  have hpast : (s.lanePast l op w).effected op w { lrd := some k } = s.lanePast l op w := rfl
  rw [State.laneRun_of_at hat he ⟨rfl, rfl⟩, hpast]
  simp only [State.laneOuter, State.lane_setLane_self, hlwr, hnone, Bool.false_eq_true, if_false, State.setLane_setLane, hran,
    Nat.add_sub_cancel]
  rfl

/-- LWR writes its bin and notes its cycle (R227). -/
theorem State.laneRun_lwr {f : LaneSt → LaneWord → LaneEff} {k : Nat} {v : Word} (he : f (s.lane l) w = { lwr := some (k, v) }) :
    s.laneRun l op w f = ((s.setLane l (s.lanePast l op w)).wrBin (s.lane l).axis k (sgn v)).setLane l { s.lanePast l op w with
      lwrAt := ((s.setLane l (s.lanePast l op w)).learnBin (s.lane l).axis k).map (fun i => ((s.lane l).ran, i)) } := by
  obtain ⟨-, -, -, hran⟩ := State.lanePast_frame hat
  have hpast : (s.lanePast l op w).effected op w { lwr := some (k, v) } = s.lanePast l op w := rfl
  rw [State.laneRun_of_at hat he ⟨rfl, rfl⟩, hpast]
  simp only [State.laneOuter, State.lane_setLane_self, Bool.false_eq_true, if_false, hran, Nat.add_sub_cancel]

end

/-- Settles O19: the result of each instruction over its moves and sequencing, and its one effect outside the lane. -/
theorem laneControlInstructions : Obligations.LaneControlInstructions := by
  refine ⟨?_, ?_, ?_, ?_, ?_, ?_, ?_, ?_, ?_, ?_, ?_⟩ <;> intro s l w hat
  · exact congrArg Host.Outcome.next (State.laneRun_inner hat rfl ⟨rfl, rfl, rfl, rfl, rfl, rfl, rfl, rfl⟩)
  · exact congrArg Host.Outcome.next (State.laneRun_end hat rfl)
  · exact congrArg Host.Outcome.next (State.laneRun_rep hat rfl)
  · exact congrArg Host.Outcome.next (State.laneRun_inner hat rfl ⟨rfl, rfl, rfl, rfl, rfl, rfl, rfl, rfl⟩)
  · exact congrArg Host.Outcome.next (State.laneRun_inner hat rfl ⟨rfl, rfl, rfl, rfl, rfl, rfl, rfl, rfl⟩)
  · exact congrArg Host.Outcome.next (State.laneRun_inner hat rfl ⟨rfl, rfl, rfl, rfl, rfl, rfl, rfl, rfl⟩)
  · exact congrArg Host.Outcome.next (State.laneRun_inner hat rfl ⟨rfl, rfl, rfl, rfl, rfl, rfl, rfl, rfl⟩)
  · refine congrArg Host.Outcome.next ?_
    by_cases hzero : s.opA l.val w = 0
    · rw [if_pos hzero]
      exact State.laneRun_inner hat (e := {}) (congrArg (fun m => ({ mflag := m } : LaneEff)) (if_pos hzero)) ⟨rfl, rfl, rfl, rfl, rfl, rfl, rfl, rfl⟩
    · rw [if_neg hzero]
      exact State.laneRun_of_at hat (e := { mflag := some (w.imm.toNat % 8) })
        (congrArg (fun m => ({ mflag := m } : LaneEff)) (if_neg hzero)) ⟨rfl, rfl⟩
  · intro hnone
    exact congrArg Host.Outcome.next (State.laneRun_lrd hat rfl hnone)
  · exact congrArg Host.Outcome.next (State.laneRun_lwr hat rfl)
  · exact congrArg Host.Outcome.next (State.laneRun_of_at hat (e := { life := some (w.imm.toNat % 8, (s.opA l.val w).toNat) }) rfl ⟨rfl, rfl⟩)

end Sys2Proof.Machine

/-! Moves, address generators and the sequencer around an instruction, on NOP (R219, R220, R225, R226). -/

namespace Sys2Proof.Machine

open Sys2Proof

/-! ### Lane registers and memory -/

theorem mReg_lt (m : BitVec 16) : mReg m < 8 := Nat.mod_lt _ (by decide)

section
variable (n : LaneSt)

theorem LaneSt.dreg_setD_self {r : Nat} (hr : r < 8) (v : Word) : (n.setD r v).dreg r = v := by
  rw [LaneSt.setD, if_pos hr]
  exact Tab.get_set_self _ _ _ _

theorem LaneSt.dreg_setD_ne {r k : Nat} (hne : k ≠ r) (v : Word) : (n.setD r v).dreg k = n.dreg k := by
  unfold LaneSt.setD
  split
  · exact Tab.get_set_ne _ _ _ _ _ _ hne
  · rfl

theorem LaneSt.setD_frame (r : Nat) (v : Word) :
    (n.setD r v).x = n.x ∧ (n.setD r v).y = n.y ∧ (n.setD r v).ag = n.ag ∧ (n.setD r v).acc = n.acc ∧ (n.setD r v).carry = n.carry := by
  unfold LaneSt.setD
  split <;> exact ⟨rfl, rfl, rfl, rfl, rfl⟩

theorem LaneSt.gen_setGen_self (k : Nat) (g : AddrGen) : (n.setGen k g).gen k = g := Tab.get_set_self _ _ _ _

theorem LaneSt.gen_setGen_ne {k j : Nat} (hne : j ≠ k) (g : AddrGen) : (n.setGen k g).gen j = n.gen j := Tab.get_set_ne _ _ _ _ _ _ hne

theorem LaneSt.rdX_wrX_self (a : Nat) (v : Word) : (n.wrX a v).rdX a = v := Tab.get_set_self _ _ _ _

theorem LaneSt.rdX_wrX_ne {a k : Nat} (hne : k % 16384 ≠ a % 16384) (v : Word) : (n.wrX a v).rdX k = n.rdX k :=
  Tab.get_set_ne _ _ _ _ _ _ hne

theorem LaneSt.rdY_wrY_self (a : Nat) (v : Word) : (n.wrY a v).rdY a = v := Tab.get_set_self _ _ _ _

theorem LaneSt.rdY_wrY_ne {a k : Nat} (hne : k % 16384 ≠ a % 16384) (v : Word) : (n.wrY a v).rdY k = n.rdY k :=
  Tab.get_set_ne _ _ _ _ _ _ hne

/-! ### Moves -/

theorem LaneSt.move_none (old : LaneSt) (y : Bool) {m : BitVec 16} (hkind : mKind m = 0) : old.move n y m = n := by
  simp only [LaneSt.move, hkind]

theorem LaneSt.move_loadX (old : LaneSt) {m : BitVec 16} (hkind : mKind m = 1) :
    old.move n false m = (n.setD (mReg m) (old.readX ((old.gen (mAg m)).ea (mOfs m)))).setGen (mAg m) ((old.gen (mAg m)).upd (mUpd m)) := by
  simp only [LaneSt.move, hkind]
  rfl

theorem LaneSt.move_storeX (old : LaneSt) {m : BitVec 16} (hkind : mKind m = 2) :
    old.move n false m = (n.wrX ((old.gen (mAg m)).ea (mOfs m)) (old.dreg (mReg m))).setGen (mAg m) ((old.gen (mAg m)).upd (mUpd m)) := by
  simp only [LaneSt.move, hkind]
  rfl

theorem LaneSt.move_storeY (old : LaneSt) {m : BitVec 16} (hkind : mKind m = 2) :
    old.move n true m = (n.wrY ((old.gen (4 + mAg m)).ea (mOfs m)) (old.dreg (mReg m))).setGen (4 + mAg m)
      ((old.gen (4 + mAg m)).upd (mUpd m)) := by
  simp only [LaneSt.move, hkind, Nat.add_comm 4]
  rfl

theorem LaneSt.move_frame (old : LaneSt) (y : Bool) (m : BitVec 16) : (old.move n y m).acc = n.acc ∧ (old.move n y m).carry = n.carry := by
  unfold LaneSt.move
  dsimp only
  split
  · exact ⟨(n.setD_frame _ _).2.2.2.1, (n.setD_frame _ _).2.2.2.2⟩
  · split <;> exact ⟨rfl, rfl⟩
  · exact ⟨rfl, rfl⟩

end

/-! ### Address generators -/

/-- A linear generator wraps in the memory. -/
theorem AddrGen.to_linear {g : AddrGen} (hlinear : g.l = 0) (p : Int) : (g.to p).p = (p % 16384).toNat := if_pos hlinear

/-- A circular generator wraps in its buffer. -/
theorem AddrGen.to_circular {g : AddrGen} (hring : 0 < g.l) (p : Int) : (g.to p).p = (g.b + (p - g.b) % g.l).toNat % 16384 :=
  if_neg (by omega)

theorem AddrGen.upd_linear {g : AddrGen} (hlinear : g.l = 0) :
    g.upd 0 = g ∧ (g.upd 1).p = (g.p + 1) % 16384 ∧ (g.upd 2).p = (((g.p : Int) + g.m) % 16384).toNat ∧
      (g.upd 3).p = (((g.p : Int) - 1) % 16384).toNat := by
  refine ⟨rfl, ?_, AddrGen.to_linear hlinear _, AddrGen.to_linear hlinear _⟩
  exact (AddrGen.to_linear hlinear _).trans (by omega)

theorem AddrGen.upd_circular {g : AddrGen} (hring : 0 < g.l) (hlo : g.b ≤ g.p) (hhi : g.p < g.b + g.l) (hfits : g.b + g.l ≤ 16384) :
    (g.upd 1).p = (if g.p + 1 = g.b + g.l then g.b else g.p + 1) ∧ (g.upd 3).p = (if g.p = g.b then g.b + g.l - 1 else g.p - 1) := by
  constructor
  · refine (AddrGen.to_circular hring _).trans ?_
    split
    · next hend =>
      rw [show (g.p : Int) + 1 - g.b = g.l by omega, Int.emod_self]
      omega
    · next hin =>
      rw [Int.emod_eq_of_lt (by omega) (by omega)]
      omega
  · refine (AddrGen.to_circular hring _).trans ?_
    split
    · next hstart =>
      rw [show (g.p : Int) - 1 - g.b = (g.l - 1) + g.l * (-1) by omega, Int.add_mul_emod_self_left, Int.emod_eq_of_lt (by omega) (by omega)]
      omega
    · next hin =>
      rw [Int.emod_eq_of_lt (by omega) (by omega)]
      omega

/-! ### NOP -/

section
variable {s : State} {l : Fin 16} {w : LaneWord} (hat : s.laneAt l.val 0x00 w)
include hat

/-- NOP leaves the moves and the sequencing in its lane. -/
theorem exec_laneNop_of_at :
    ∃ t : State, exec (.laneNop l w) s = .next t ∧
      t.lane l.val = (s.lane l.val).sequenced ((s.lane l.val).move ((s.lane l.val).move (s.lane l.val) false w.xm) true w.ym) ∧
      (∀ m, m ≠ l.val → t.lane m = s.lane m) ∧ t.regs = s.regs ∧ t.axes = s.axes ∧ t.mem = s.mem := by
  refine ⟨_, congrArg Host.Outcome.next (State.laneRun_inner hat (e := {}) rfl ⟨rfl, rfl, rfl, rfl, rfl, rfl, rfl, rfl⟩), ?_,
    fun m hm => State.lane_setLane_ne _ _ hm, rfl, rfl, rfl⟩
  rw [State.lane_setLane_self, State.lanePast_eq hat]
  rfl

end

/-- Settles O59: NOP leaves its moves and its sequencing, and each of these is one lemma. -/
theorem laneMoves : Obligations.LaneMoves := by
  refine ⟨?_, ?_, ?_, ?_, fun g => AddrGen.upd_linear, fun g => AddrGen.upd_circular⟩
  · intro s l w hat hx hy
    obtain ⟨t, hexec, hlane, -⟩ := exec_laneNop_of_at hat
    rw [LaneSt.move_none _ _ _ hy, LaneSt.move_loadX _ _ hx] at hlane
    obtain ⟨hmemX, hmemY, hag, -⟩ := (s.lane l.val).setD_frame (mReg w.xm) ((s.lane l.val).readX (((s.lane l.val).gen (mAg w.xm)).ea (mOfs w.xm)))
    refine ⟨t, hexec, ?_, ?_, ?_, ?_, ?_, ?_⟩ <;> rw [hlane]
    · exact LaneSt.dreg_setD_self _ (mReg_lt _) _
    · exact LaneSt.gen_setGen_self _ _ _
    · exact fun k hk => LaneSt.dreg_setD_ne _ hk _
    · intro k hk
      refine (LaneSt.gen_setGen_ne _ hk _).trans ?_
      rw [LaneSt.gen, hag]
      rfl
    · intro k
      exact congrArg (fun x => Tab.get (xDef (k % 0x4000)) x (k % 0x4000)) hmemX
    · intro k
      exact congrArg (fun y => Tab.get (yDef (k % 0x4000)) y (k % 0x4000)) hmemY
  · intro s l w hat hx hy
    obtain ⟨t, hexec, hlane, -⟩ := exec_laneNop_of_at hat
    rw [LaneSt.move_none _ _ _ hy, LaneSt.move_storeX _ _ hx] at hlane
    refine ⟨t, hexec, ?_, ?_, ?_, ?_⟩ <;> rw [hlane]
    · exact LaneSt.rdX_wrX_self _ _ _
    · exact fun k hk => LaneSt.rdX_wrX_ne _ hk _
    · exact fun k => rfl
    · exact fun k => rfl
  · intro s l w hat hx hy
    obtain ⟨t, hexec, hlane, -⟩ := exec_laneNop_of_at hat
    rw [LaneSt.move_none _ _ _ hx, LaneSt.move_storeY _ _ hy] at hlane
    refine ⟨t, hexec, ?_, ?_, ?_, ?_⟩ <;> rw [hlane]
    · exact LaneSt.rdY_wrY_self _ _ _
    · exact fun k hk => LaneSt.rdY_wrY_ne _ hk _
    · exact fun k => rfl
    · exact fun k => rfl
  · intro s l w hat
    obtain ⟨t, hexec, hlane, hothers, hregs, haxes, hmem⟩ := exec_laneNop_of_at hat
    obtain ⟨haccX, hcarryX⟩ := (s.lane l.val).move_frame (s.lane l.val) false w.xm
    obtain ⟨haccY, hcarryY⟩ := ((s.lane l.val).move (s.lane l.val) false w.xm).move_frame (s.lane l.val) true w.ym
    refine ⟨t, hexec, ?_, ?_, ?_, hothers, hregs, haxes, hmem, ?_, ?_, ?_⟩ <;> rw [hlane]
    · exact haccY.trans haccX
    · exact hcarryY.trans hcarryX
    · rfl
    · intro hrep
      simp only [LaneSt.sequenced, hrep, repNext]
      exact ⟨trivial, trivial⟩
    · intro r q hrep hlast hleft
      simp only [LaneSt.sequenced, hrep, repNext, hlast, if_true, Nat.ne_of_gt hleft, if_false]
      exact ⟨trivial, trivial⟩
    · intro r hrep hlast hleft
      simp only [LaneSt.sequenced, hrep, repNext, hlast, if_true, hleft]
      exact ⟨trivial, trivial⟩

end Sys2Proof.Machine

/-! An occurrence of an event source (R527 to R531): what is noted of it stays noted. -/

namespace Sys2Proof.Machine

open Sys2Proof

/-! ### What an event only adds to -/

/-- What an edge of the dispatcher keeps: its own state and the thread blocks' registers are all that it changes. -/
theorem State.tokenEdge_keeps {P : State → Prop} {s : State} (hcpu : ∀ (u : State) c, P u → P { u with cpu := c })
    (hthread : ∀ (u : State) (t k : Nat) (w : Word), k < 0x40 → P u → P (u.setRg (thCfg t + k) w)) (hs : P s) (ev : Option Nat) :
    P (s.tokenEdge ev) := by
  have hfinish (u : State) (w : Wait) (hu : P u) : P (u.finishWait w) := by
    have hdone (v : Nat) : P ((u.setFld (thCfg w.thread + 0x10) 3 0 v).incFld (thCfg w.thread + 0x28) 31 0 1) :=
      hthread _ _ 0x28 _ (by decide) (hthread _ _ 0x10 _ (by decide) hu)
    unfold State.finishWait
    exact iteInduction (fun _ => hthread _ _ 0x2C _ (by decide) (hdone _)) (fun _ => hdone _)
  have hready (u : State) (t : Nat) (hu : P u) : P (u.makeReady t false) := by
    unfold State.makeReady
    exact iteInduction (fun _ => hcpu _ _ hu) (fun _ => hu)
  unfold State.tokenEdge
  refine List.foldlRecOn _ _ ?_ (fun u hu w _ => hready _ _ (hfinish u w hu))
  exact List.foldlRecOn _ _ (hcpu _ _ hs) (fun u hu m _ => hthread u _ 0x14 _ (by decide) hu)

/-- From `r` to `t` no event that waits for a hart or a stream is forgotten, and no bit of the block EVT is cleared. -/
structure EvtGrows (r t : State) : Prop where
  hpend : r.evt.hpend ⊆ t.evt.hpend
  acq : r.evt.acq ⊆ t.evt.acq
  flag : ∀ o n, o / 0x10000 = 2 → r.flag o n = true → t.flag o n = true

namespace EvtGrows

variable {r s t : State}

theorem refl (s : State) : EvtGrows s s := ⟨List.Subset.refl _, List.Subset.refl _, fun _ _ _ h => h⟩

theorem trans (h : EvtGrows r s) (k : EvtGrows s t) : EvtGrows r t :=
  ⟨List.Subset.trans h.hpend k.hpend, List.Subset.trans h.acq k.acq, fun o n ho hf => k.flag o n ho (h.flag o n ho hf)⟩

theorem ite {c : Prop} [Decidable c] (h : EvtGrows r s) (k : EvtGrows r t) : EvtGrows r (if c then s else t) := by
  split <;> assumption

/-- What leaves the registers and the events alone. -/
theorem upd (hregs : s.regs = r.regs) (hevt : s.evt = r.evt) : EvtGrows r s := by
  refine ⟨hevt ▸ List.Subset.refl _, hevt ▸ List.Subset.refl _, fun o n _ hf => ?_⟩
  simpa only [State.flag, State.rg, hregs] using hf

/-- A register of another block. -/
theorem setRg (h : EvtGrows r s) {o : Nat} {w : Word} (ho : o / 0x10000 ≠ 2) : EvtGrows r (s.setRg o w) :=
  h.trans ⟨List.Subset.refl _, List.Subset.refl _, fun p n hp hf => (State.flag_setRg_ne s w n (by rintro rfl; exact ho hp)).trans hf⟩

theorem emit (h : EvtGrows r s) (e : Emit) : EvtGrows r (s.emit e) := h.trans (upd rfl rfl)

theorem setFlag (s : State) (o : Nat) {m : Nat} (hm : m < 32) : EvtGrows s (s.setFlag o m) := by
  refine ⟨List.Subset.refl _, List.Subset.refl _, fun p n _ hf => ?_⟩
  by_cases hp : p = o
  · subst hp
    by_cases hn : n = m
    · rw [hn]
      exact State.flag_setFlag_self _ _ _ hm
    · exact (State.flag_setFlag_other _ _ _ _ hm hn).trans hf
  · exact (State.flag_setFlag_ne s m n hp).trans hf

theorem tokenEdge (s : State) (ev : Option Nat) : EvtGrows s (s.tokenEdge ev) := by
  refine State.tokenEdge_keeps (P := EvtGrows s) (fun u c hu => hu.trans (upd rfl rfl)) (fun u t k w hk hu => hu.setRg ?_) (refl s) ev
  simp only [thCfg, CPU_B]
  omega

theorem sendMsix (s : State) (v : Nat) : EvtGrows s (s.sendMsix v) := by
  unfold State.sendMsix
  exact ite (upd rfl rfl) (upd rfl rfl)

end EvtGrows

/-! ### Routing -/

theorem mem_insertBy {α : Type} {lt : α → α → Bool} {x y : α} {l : List α} : y ∈ insertBy lt x l ↔ y = x ∨ y ∈ l := by
  induction l with
  | nil => simp [insertBy]
  | cons z l ih =>
    unfold insertBy
    split
    · simp
    · simp only [List.mem_cons, ih]
      exact or_left_comm

theorem mem_addPair {p q : Nat × Nat} {l : List (Nat × Nat)} : q ∈ addPair p l ↔ q = p ∨ q ∈ l := by
  unfold addPair
  split
  · rename_i hin
    have hp : p ∈ l := by simpa using hin
    constructor
    · exact Or.inr
    · rintro (rfl | hq)
      · exact hp
      · exact hq
  · exact mem_insertBy

/-- The pairs that the route bits `b` add for a source: a fold that only adds, and adds every chosen one. -/
theorem mem_foldl_addPair {b : Nat → Bool} {src : Nat} {q : Nat × Nat} {ks : List Nat} {l : List (Nat × Nat)} :
    q ∈ ks.foldl (fun l k => if b k then addPair (k, src) l else l) l ↔ q ∈ l ∨ ∃ k ∈ ks, b k = true ∧ q = (k, src) := by
  induction ks generalizing l with
  | nil => simp
  | cons k ks ih =>
    rw [List.foldl_cons, ih]
    by_cases hb : b k = true
    · simp only [hb, if_true, mem_addPair, List.mem_cons, exists_eq_or_imp, true_and]
      exact or_assoc.trans or_left_comm
    · simp only [hb, if_false, List.mem_cons, exists_eq_or_imp, false_and, false_or, Bool.false_eq_true]

namespace State

variable (s : State) (src : Nat)

/-- The event noted: its bit in EVT_PEND, the harts, streams and soundings that its route names (R527). -/
def noteEvent : State :=
  let route := s.rg (evtRoute src)
  let hp := [0, 1, 2, 3].foldl (fun l h => if bit route (8 + h) then addPair (h, src) l else l) s.evt.hpend
  let aq := [0, 1, 2, 3, 4, 5, 6, 7].foldl (fun l n => if bit route (16 + n) then addPair (n, src) l else l) s.evt.acq
  { s.setFlag (EVT_B + 0x500 + src / 32 * 4) (src % 32) with
    evt := { s.evt with hpend := hp, acq := aq, sound := if bit route 13 then s.evt.sound ++ [src] else s.evt.sound } }

theorem routeEvent_eq : s.routeEvent src =
    let u := if bit (s.rg (evtRoute src)) 6 then (s.noteEvent src).sendMsix (bits (s.rg (evtRoute src)) 5 0) else s.noteEvent src
    if bit (s.rg (evtRoute src)) 12 then u.tokenEdge (some src) else u := rfl

/-- Noting an event leaves every register below the block EVT alone. -/
theorem rg_noteEvent {o : Nat} (ho : o < EVT_B) : (s.noteEvent src).rg o = s.rg o :=
  rg_setRg_ne s _ _ _ (by simp only [EVT_B] at ho ⊢; omega)

theorem ringRoom_noteEvent (r : Fin 32) : (s.noteEvent src).ringRoom r.val = s.ringRoom r.val := by
  have hreg (k : Nat) (hk : k < 0x20) : (s.noteEvent src).rg (rBase r.val + k) = s.rg (rBase r.val + k) :=
    s.rg_noteEvent src (by simp only [rBase, HOST_B, EVT_B]; omega)
  have hcfg : (s.noteEvent src).rg (rCfg r.val) = s.rg (rCfg r.val) := hreg 0x10 (by decide)
  have hidx : (s.noteEvent src).rg (rIdx r.val) = s.rg (rIdx r.val) := hreg 0x14 (by decide)
  have hstat : (s.noteEvent src).rg (rStat r.val) = s.rg (rStat r.val) := hreg 0x18 (by decide)
  have hringX : (s.noteEvent src).ringX r.val = s.ringX r.val := rfl
  unfold ringRoom resizeBlocks ringCount ringEn ringSize resizing prodIdx consIdx hostIdx cxmIdx flag fld
  rw [hringX, hcfg, hidx, hstat]

theorem noteEvent_grows : EvtGrows s (s.noteEvent src) :=
  (EvtGrows.setFlag s _ (Nat.mod_lt _ (by decide))).trans
    ⟨fun _ hq => mem_foldl_addPair.2 (Or.inl hq), fun _ hq => mem_foldl_addPair.2 (Or.inl hq), fun _ _ _ hf => hf⟩

/-- After the event is noted, a message and the dispatcher's edge add only. -/
theorem routeEvent_growsNoted : EvtGrows (s.noteEvent src) (s.routeEvent src) := by
  rw [routeEvent_eq]
  have hmsg : EvtGrows (s.noteEvent src)
      (if bit (s.rg (evtRoute src)) 6 then (s.noteEvent src).sendMsix (bits (s.rg (evtRoute src)) 5 0) else s.noteEvent src) :=
    EvtGrows.ite (EvtGrows.sendMsix _ _) (EvtGrows.refl _)
  exact EvtGrows.ite (hmsg.trans (EvtGrows.tokenEdge _ _)) hmsg

theorem routeEvent_grows : EvtGrows s (s.routeEvent src) := (s.noteEvent_grows src).trans (s.routeEvent_growsNoted src)

/-- Without a hart edge and without a message, routing an event is noting it. -/
theorem routeEvent_quiet (hmsix : bit (s.rg (evtRoute src)) 6 = false) (hedge : bit (s.rg (evtRoute src)) 12 = false) :
    s.routeEvent src = s.noteEvent src := by
  rw [routeEvent_eq, hmsix, hedge]
  rfl

theorem routeEvent_message (hmsix : bit (s.rg (evtRoute src)) 6 = true) (hedge : bit (s.rg (evtRoute src)) 12 = false) :
    s.routeEvent src = (s.noteEvent src).sendMsix (bits (s.rg (evtRoute src)) 5 0) := by
  rw [routeEvent_eq, hmsix, hedge]
  rfl

theorem tokenEdge_evt (ev : Option Nat) : (s.tokenEdge ev).evt = s.evt :=
  tokenEdge_keeps (P := fun u => u.evt = s.evt) (fun _ _ hu => hu) (fun _ _ _ _ _ hu => hu) rfl ev

theorem sendMsix_evt (v : Nat) : (s.sendMsix v).evt = s.evt := by
  unfold sendMsix
  exact iteInduction (motive := fun u : State => u.evt = s.evt) (fun _ => rfl) (fun _ => rfl)

theorem routeEvent_lost : (s.routeEvent src).evt.lost = s.evt.lost := by
  rw [routeEvent_eq]
  split <;> split <;> simp only [tokenEdge_evt, sendMsix_evt] <;> rfl

/-! ### The record of ring 26 -/

theorem append_grows (recd : List Byte) : EvtGrows s (s.append 26 recd) := by
  unfold append writeback ringRefresh putFlag setFld
  exact ((((EvtGrows.refl s).emit _).setRg (by decide)).setRg (by decide)).emit _

theorem ringEventBare_grows (r : Nat) : EvtGrows s (s.ringEventBare r) := by
  unfold ringEventBare
  exact EvtGrows.ite (EvtGrows.refl s) (EvtGrows.trans (EvtGrows.upd (s := s.setRingX r _) rfl rfl) (routeEvent_grows _ r))

theorem ringFlagBare_grows {r n : Nat} (hn : n < 32) : EvtGrows s (s.ringFlagBare r n) := by
  unfold ringFlagBare
  exact EvtGrows.ite (EvtGrows.refl s) ((EvtGrows.setFlag s _ hn).trans (ringEventBare_grows _ r))

/-- The event's record lost: counted by the event unit and by the ring (R529). -/
def loseRecord : State :=
  (({ s with evt := { s.evt with lost := s.evt.lost + 1 } }.setFlag EVT_B 1).incFld (rStat 26) 31 16 1).ringFlagBare 26 5

theorem eventRecord_of_full {arg : Nat} (hfull : s.ringRoom 26 = false) : s.eventRecord src arg = s.loseRecord := by
  unfold eventRecord
  rw [if_neg (ne_true_of_eq_false hfull)]
  rfl

theorem loseRecord_growsFlagged : EvtGrows (s.setFlag EVT_B 1) s.loseRecord := by
  have hcounted : EvtGrows (s.setFlag EVT_B 1) ({ s with evt := { s.evt with lost := s.evt.lost + 1 } }.setFlag EVT_B 1) :=
    ⟨List.Subset.refl _, List.Subset.refl _, fun _ _ _ hf => hf⟩
  have hring : rStat 26 / 0x10000 ≠ 2 := by decide
  unfold loseRecord incFld setFld
  exact (hcounted.setRg hring).trans (ringFlagBare_grows _ (by decide))

theorem eventRecord_grows (arg : Nat) : EvtGrows s (s.eventRecord src arg) := by
  cases hroom : s.ringRoom 26 with
  | false =>
    rw [eventRecord_of_full s src hroom]
    exact (EvtGrows.setFlag s EVT_B (by decide)).trans s.loseRecord_growsFlagged
  | true =>
    unfold eventRecord
    rw [if_pos hroom]
    have hcount (t : State) : EvtGrows t ({ t with evt := { t.evt with lost := 0 } }.countRing 26).1 :=
      ⟨List.Subset.refl _, List.Subset.refl _, fun _ _ _ hf => hf⟩
    exact (s.append_grows _).trans (EvtGrows.ite ((hcount _).trans (ringEventBare_grows _ 26)) (hcount _))

theorem loseRecord_lost : s.loseRecord.evt.lost = s.evt.lost + 1 := by
  unfold loseRecord ringFlagBare ringEventBare
  split
  · rfl
  · split
    · rfl
    · exact routeEvent_lost _ 26

/-- An occurrence, once it is noted, only adds. -/
theorem raise_growsNoted (arg : Nat) : EvtGrows (s.noteEvent src) (s.raise src arg) := by
  unfold raise
  exact EvtGrows.ite ((s.routeEvent_growsNoted src).trans (eventRecord_grows _ src arg)) (s.routeEvent_growsNoted src)

theorem raise_of_noRecord {arg : Nat} (hrecord : bit (s.rg (evtRoute src)) 7 = false) : s.raise src arg = s.routeEvent src := by
  unfold raise
  exact if_neg (ne_true_of_eq_false hrecord)

theorem raise_of_record {arg : Nat} (hrecord : bit (s.rg (evtRoute src)) 7 = true) :
    s.raise src arg = (s.routeEvent src).eventRecord src arg := by
  unfold raise
  exact if_pos hrecord

theorem sendMsix_of_open {v : Nat} (hmask : (s.msixV v).masked = false) (hon : s.host.msixOn = true) :
    s.sendMsix v = s.emit (.msix v (s.msixV v).addr (s.msixV v).data) := by
  unfold sendMsix
  simp [hmask, hon]

theorem sendMsix_of_masked {v : Nat} (hmask : (s.msixV v).masked = true) :
    s.sendMsix v = { s with host := { s.host with msix := Tab.set {} s.host.msix v { s.msixV v with pba := true } } } := by
  unfold sendMsix
  simp [hmask]

end State

/-- Two route bits from the field that holds them. -/
theorem bit_of_bits_7_6 {w : Word} {n : Nat} (h : bits w 7 6 = n) : bit w 6 = n.testBit 0 ∧ bit w 7 = n.testBit 1 := by
  rw [← h, testBit_bits, testBit_bits]
  simp [bit]

/-- Settles O57: the event of a corrected error is source 246, and an occurrence is noted first and only added to afterwards. -/
theorem eventOccurrence : Obligations.EventOccurrence := by
  have hecc (s : State) (m : Fin 8) (b : BitVec 16) (g : BitVec 19) (x : Option (Fin 4)) :
      exec (.memoryEccError m b g true x) s = .next (s.raise 246 (m.val + b.toNat % 0x10000 * 0x10000)) := rfl
  refine ⟨fun s m b g x => ?_, fun s m b g x hroute hedge => ?_, fun s m b g x v hroute hedge hv hmask hon => ?_,
    fun s m b g x v hroute hedge hv hmask => ?_, fun s m b g x hroute hedge hfull => ?_⟩
  · have hgrows := s.raise_growsNoted 246 (m.val + b.toNat % 0x10000 * 0x10000)
    refine ⟨_, hecc .., hgrows.flag _ _ (by decide) (State.flag_setFlag_self s _ _ (by decide)), fun h hh hb => hgrows.hpend ?_,
      fun h hh hb => hgrows.acq ?_, ?_, ?_⟩
    · refine mem_foldl_addPair.2 (Or.inr ⟨h, ?_, hb, rfl⟩)
      simp only [List.mem_cons, List.not_mem_nil]
      omega
    · refine mem_foldl_addPair.2 (Or.inr ⟨h, ?_, hb, rfl⟩)
      simp only [List.mem_cons, List.not_mem_nil]
      omega
    · rw [List.all_eq_true]
      exact fun p hp => List.contains_iff_mem.2 (((s.noteEvent_grows 246).trans hgrows).hpend hp)
    · simp
  · obtain ⟨hmsix, hrecord⟩ := bit_of_bits_7_6 hroute
    refine ⟨_, (hecc ..).trans (congrArg _ ((s.raise_of_noRecord 246 hrecord).trans (s.routeEvent_quiet 246 hmsix hedge))), ?_⟩
    exact ⟨rfl, rfl, rfl, rfl⟩
  · obtain ⟨hmsix, hrecord⟩ := bit_of_bits_7_6 hroute
    subst hv
    refine ⟨_, (hecc ..).trans (congrArg _ ((s.raise_of_noRecord 246 hrecord).trans ((s.routeEvent_message 246 hmsix hedge).trans
      ((s.noteEvent 246).sendMsix_of_open hmask hon)))), ?_⟩
    exact ⟨rfl, rfl, rfl⟩
  · obtain ⟨hmsix, hrecord⟩ := bit_of_bits_7_6 hroute
    subst hv
    refine ⟨_, (hecc ..).trans (congrArg _ ((s.raise_of_noRecord 246 hrecord).trans ((s.routeEvent_message 246 hmsix hedge).trans
      ((s.noteEvent 246).sendMsix_of_masked hmask)))), ?_⟩
    exact ⟨rfl, congrArg MsixV.pba (Tab.get_set_self _ _ _ _), rfl⟩
  · obtain ⟨hmsix, hrecord⟩ := bit_of_bits_7_6 hroute
    have hroom : (s.noteEvent 246).ringRoom 26 = false := (s.ringRoom_noteEvent 246 26).trans hfull
    refine ⟨_, (hecc ..).trans (congrArg _ ((s.raise_of_record 246 hrecord).trans ((congrArg (State.eventRecord · 246 _)
      (s.routeEvent_quiet 246 hmsix hedge)).trans ((s.noteEvent 246).eventRecord_of_full 246 hroom)))), ?_⟩
    exact ⟨(s.noteEvent 246).loseRecord_lost,
      (s.noteEvent 246).loseRecord_growsFlagged.flag _ _ (by decide) (State.flag_setFlag_self _ _ _ (by decide))⟩

end Sys2Proof.Machine

/-! Motion commands: segments, group starts, stops, resumes, homing and group membership as they are accepted (R379, R380, R386, R387,
R390). -/

namespace Sys2Proof.Machine

open Sys2Proof

section
variable {s : State} {src : Src} {d : Desc}

/-- MOVE_SEG past the shared checks. -/
theorem State.moveSeg_of_error {e : St} (hpre : s.precheck src 0x40 d = none) (herr : s.segError d = some e) :
    s.moveSeg src d = s.complete src 0x40 d e := by
  rw [State.moveSeg, State.cmd_of_precheck_none hpre]
  simp only [herr]

theorem State.moveSeg_of_full (hpre : s.precheck src 0x40 d = none) (herr : s.segError d = none) (hfull : 16 ≤ (s.prof d.tgt).q.length) :
    s.moveSeg src d = s := by
  have hroom : s.segRoom d.tgt = false := decide_eq_false (Nat.not_lt.2 hfull)
  rw [State.moveSeg, State.cmd_of_precheck_none hpre]
  simp only [herr, hroom, Bool.false_eq_true, if_false]

/-- A segment behind others is not fresh. -/
theorem State.moveSeg_of_room (hpre : s.precheck src 0x40 d = none) (herr : s.segError d = none) (hroom : (s.prof d.tgt).q.length < 16)
    (hbehind : (s.prof d.tgt).q ≠ []) :
    s.moveSeg src d = (s.setProf d.tgt { s.prof d.tgt with q := (s.prof d.tgt).q ++ [segOf d false] }).complete src 0x40 d .ok := by
  have hroom' : s.segRoom d.tgt = true := decide_eq_true hroom
  have hfresh : (s.prof d.tgt).q.isEmpty = false := List.isEmpty_eq_false_iff.2 hbehind
  rw [State.moveSeg, State.cmd_of_precheck_none hpre]
  simp only [herr, hroom', hfresh, Bool.false_and, if_true]

theorem State.segError_of_undriven (hpass : s.hasPass d.tgt = true) (hidle : s.driven d.tgt = false) : s.segError d = some .busy := by
  simp only [State.segError, hpass, hidle, Bool.not_true, Bool.not_false, Bool.true_or, Bool.false_eq_true, if_false, if_true]

/-- A group start armed (R387). -/
def State.armStart (s : State) (src : Src) (d : Desc) : State :=
  let t := ((s.setFlag (pgReg d.tgt 8) 0).putFlag (pgReg d.tgt 8) 1 false).setRg (pgReg d.tgt 0xC) d.op5
  { t with mem := { t.mem with starts := t.mem.starts ++ [(d.tgt, src, d)] } }

theorem State.moveStartGroup_of_free (hpre : s.precheck src 0x41 d = none) (htgt : d.tgt < 32) (hmembers : s.members d.tgt ≠ [])
    (hfree : s.flag (pgReg d.tgt 8) 0 = false) (hop : d.op0 = 0) : s.moveStartGroup src d = s.armStart src d := by
  have hsome : (s.members d.tgt).isEmpty = false := List.isEmpty_eq_false_iff.2 hmembers
  have hmode : bits d.op0 31 1 = 0 ∧ bit d.op0 0 = false := by
    rw [hop]
    decide
  rw [State.moveStartGroup, State.cmd_of_precheck_none hpre]
  simp only [Nat.not_le.2 htgt, hsome, hfree, hmode.1, hmode.2, Bool.false_eq_true, Bool.false_and, if_false, State.armStart,
    ne_eq, not_true_eq_false, decide_false, Bool.or_self]

theorem State.moveStartGroup_of_noGroup (hpre : s.precheck src 0x41 d = none) (htgt : 32 ≤ d.tgt) :
    s.moveStartGroup src d = s.complete src 0x41 d .badTarget := by
  rw [State.moveStartGroup, State.cmd_of_precheck_none hpre]
  exact if_pos (by simp [htgt])

theorem State.armStart_facts :
    (s.armStart src d).flag (pgReg d.tgt 8) 0 = true ∧ (s.armStart src d).flag (pgReg d.tgt 8) 1 = false ∧
    (s.armStart src d).rg (pgReg d.tgt 0xC) = d.op5 ∧ (s.armStart src d).mem.starts = s.mem.starts ++ [(d.tgt, src, d)] := by
  have hne : pgReg d.tgt 8 ≠ pgReg d.tgt 0xC := by simp only [pgReg, PROF_B]; omega
  refine ⟨?_, ?_, State.rg_setRg_self _ _ _, rfl⟩
  · exact (State.flag_setRg_ne _ _ _ hne).trans ((State.flag_putFlag_other _ _ _ _ _ (by decide) (by decide)).trans
      (State.flag_setFlag_self _ _ _ (by decide)))
  · exact (State.flag_setRg_ne _ _ _ hne).trans (State.flag_putFlag_self _ _ _ _ (by decide))

theorem State.moveTargets_of_axis (htgt : d.tgt < 256) : s.moveTargets d.tgt = some [d.tgt] := if_pos htgt

/-- A command that waits for the boundary of the next cycle. -/
def State.nextBoundary (s : State) (src : Src) (opc : Nat) (d : Desc) : State :=
  s.defer { cyc := s.cycle + 1, src := src, opc := opc, desc := d }

theorem State.moveStop_waits (hacc : s.accepts src 0x42 d) (htgt : d.tgt < 256) (hlo : 1 ≤ d.op0.toNat) (hhi : d.op0.toNat ≤ 3) :
    s.moveStop src d = s.nextBoundary src 0x42 d := by
  rw [State.moveStop, State.cmd_of_precheck_none hacc.1]
  simp only [State.moveTargets_of_axis htgt, Option.isNone_some, Bool.false_eq_true, if_false, Nat.not_lt.2 hlo, Nat.not_lt.2 hhi,
    decide_false, Bool.or_self, State.atBoundary_of_noCycle hacc.2, State.nextBoundary]

theorem State.moveResume_waits (hacc : s.accepts src 0x43 d) (htgt : d.tgt < 256) : s.moveResume src d = s.nextBoundary src 0x43 d := by
  rw [State.moveResume, State.cmd_of_precheck_none hacc.1]
  simp only [State.moveTargets_of_axis htgt, Option.isNone_some, Bool.false_eq_true, if_false, State.atBoundary_of_noCycle hacc.2,
    State.nextBoundary]

theorem State.homeStart_waits (hacc : s.accepts src 0x44 d) (herr : s.homeError d = none) :
    s.homeStart src d = s.nextBoundary src 0x44 d := by
  rw [State.homeStart, State.cmd_of_precheck_none hacc.1]
  simp only [herr, State.atBoundary_of_noCycle hacc.2, State.nextBoundary]

theorem State.homeStart_of_error {e : St} (hacc : s.accepts src 0x44 d) (herr : s.homeError d = some e) :
    s.homeStart src d = s.complete src 0x44 d e := by
  rw [State.homeStart, State.cmd_of_precheck_none hacc.1]
  simp only [herr]

theorem State.groupSet_waits (hacc : s.accepts src 0x45 d) (htgt : d.tgt < 32) (haxis : d.op0.toNat < 256) (hjoin : d.op1.toNat < 2) :
    s.groupSet src d = s.nextBoundary src 0x45 d := by
  rw [State.groupSet, State.cmd_of_precheck_none hacc.1]
  simp only [Nat.not_le.2 htgt, Nat.not_le.2 haxis, Nat.not_le.2 hjoin, if_false, decide_false, Bool.or_self, Bool.false_eq_true,
    State.atBoundary_of_noCycle hacc.2, State.nextBoundary]

theorem State.groupSet_of_noGroup (hacc : s.accepts src 0x45 d) (htgt : 32 ≤ d.tgt) : s.groupSet src d = s.complete src 0x45 d .badTarget := by
  rw [State.groupSet, State.cmd_of_precheck_none hacc.1]
  exact if_pos htgt

end

/-- Settles O28: each command past its own checks enters its queue, arms its start, or waits for the next boundary. -/
theorem motionCommands : Obligations.MotionCommands := by
  refine ⟨fun s src d hpre herr hroom hbehind => congrArg _ (State.moveSeg_of_room hpre herr hroom hbehind),
    fun s src d hpre herr hfull => congrArg _ (State.moveSeg_of_full hpre herr hfull),
    fun s src d hpre hpass hidle => congrArg _ (State.moveSeg_of_error hpre (State.segError_of_undriven hpass hidle)),
    fun s src d hpre htgt hmembers hfree hop => ?_, fun s src d hpre htgt => congrArg _ (State.moveStartGroup_of_noGroup hpre htgt),
    fun s src d hacc htgt hlo hhi => congrArg _ (State.moveStop_waits hacc htgt hlo hhi),
    fun s src d hacc htgt => congrArg _ (State.moveResume_waits hacc htgt),
    fun s src d hacc herr => congrArg _ (State.homeStart_waits hacc herr),
    fun s src d e hacc herr => congrArg _ (State.homeStart_of_error hacc herr),
    fun s src d hacc htgt haxis hjoin => congrArg _ (State.groupSet_waits hacc htgt haxis hjoin),
    fun s src d hacc htgt => congrArg _ (State.groupSet_of_noGroup hacc htgt)⟩
  obtain ⟨harmed, htime, hcycle, hstarts⟩ := State.armStart_facts (s := s) (src := src) (d := d)
  exact ⟨_, congrArg Host.Outcome.next (State.moveStartGroup_of_free hpre htgt hmembers hfree hop), harmed, htime, hcycle, hstarts, rfl, rfl⟩

end Sys2Proof.Machine

/-! Drive cartridges: the host's commands and the tag's events (R408, R410, R422, R423, R425, R428, R429). -/

namespace Sys2Proof.Machine

open Sys2Proof

/-! ### Commands -/

section
variable {s : State} {src : Src} {d : Desc}

/-- CART_AUTH on an axis, past the shared checks. -/
theorem State.cartAuth_of_holder (hacc : s.accepts src 0x70 d) (htgt : d.tgt < 256) (hholder : s.holder = true)
    (hchan : (s.cartChan d.tgt).isSome = true) :
    (s.cmd src 0x70 d fun s => s.cartAuth src d) = s.cartEnqueue d.tgt { kind := .auth, cmd := some (src, d) } := by
  have hnone : (s.cartChan d.tgt).isNone = false := Option.isNone_eq_false_iff.2 hchan
  refine (State.cmd_soon_of_accepts hacc).trans ?_
  simp only [Nat.not_le.2 htgt, hholder, hnone, Bool.not_true, Bool.false_eq_true, if_false]

theorem State.cartAuth_of_standby (hacc : s.accepts src 0x70 d) (htgt : d.tgt < 256) (hstandby : s.holder = false) :
    (s.cmd src 0x70 d fun s => s.cartAuth src d) = s.complete src 0x70 d .ok (s.fld (cartReg d.tgt 0) 2 0) := by
  refine (State.cmd_soon_of_accepts hacc).trans ?_
  simp only [Nat.not_le.2 htgt, hstandby, Bool.not_false, if_false, if_true, State.cartClass]

/-- Behind a transaction a host command waits. -/
theorem State.cartEnqueue_of_busy {a : Nat} {j job : CartJob} (hjob : (s.cax a).job = some job) (hcmd : j.cmd.isNone = false)
    (hkind : j.kind ≠ .writeBack) : s.cartEnqueue a j = s.setCax a { s.cax a with queue := (s.cax a).queue ++ [j] } := by
  have hwb : (decide (j.kind = .writeBack) && (s.cax a).queue.any (fun q => q.kind == .writeBack)) = false := by
    rw [decide_eq_false hkind, Bool.false_and]
  have hcax : ((s.setCax a { s.cax a with queue := (s.cax a).queue ++ [j] }).cax a).job = some job :=
    (congrArg CartAx.job (Tab.get_set_self _ _ _ _)).trans hjob
  simp only [State.cartEnqueue, hwb, hcmd, Bool.false_eq_true, if_false, State.cartNext, hcax]

theorem State.cartRead_of_range (hacc : s.accepts src 0x71 d) (htgt : d.tgt < 256) (hchan : (s.cartChan d.tgt).isSome = true)
    (hsome : 1 ≤ d.op1.toNat) (hrange : d.op0.toNat + d.op1.toNat ≤ 1024) :
    (s.cmd src 0x71 d fun s => s.cartRead src d) =
      s.cartEnqueue d.tgt { kind := .read, cmd := some (src, d), off := d.op0.toNat, len := d.op1.toNat } := by
  have hnone : (s.cartChan d.tgt).isNone = false := Option.isNone_eq_false_iff.2 hchan
  have hlen : ¬ 1024 < d.op1.toNat := by omega
  refine (State.cmd_soon_of_accepts hacc).trans ?_
  simp only [Nat.not_le.2 htgt, hnone, Nat.not_lt.2 hsome, hlen, Nat.not_lt.2 hrange, decide_false, Bool.or_self, Bool.false_eq_true, if_false]

theorem State.cartRead_of_outside (hacc : s.accepts src 0x71 d) (htgt : d.tgt < 256) (hchan : (s.cartChan d.tgt).isSome = true)
    (hout : 1024 < d.op0.toNat + d.op1.toNat) :
    (s.cmd src 0x71 d fun s => s.cartRead src d) = s.complete src 0x71 d .badOperand := by
  have hnone : (s.cartChan d.tgt).isNone = false := Option.isNone_eq_false_iff.2 hchan
  refine (State.cmd_soon_of_accepts hacc).trans ?_
  simp only [Nat.not_le.2 htgt, hnone, hout, decide_false, decide_true, Bool.or_self, Bool.or_true, Bool.false_eq_true, if_false, if_true]

/-- CART_WRITE of bytes of the user area: it runs on an authenticated tag only. -/
theorem State.cartWrite_of_range {l : List Byte} (hacc : s.accepts src 0x72 d) (htgt : d.tgt < 256)
    (hchan : (s.cartChan d.tgt).isSome = true) (hsome : 1 ≤ d.op1.toNat) (hlo : 0xC0 ≤ d.op0.toNat)
    (hhi : d.op0.toNat + d.op1.toNat ≤ 0x400) :
    (s.cmd src 0x72 d fun s => s.cartWrite src d l) = if (s.cax d.tgt).auth then s.cartEnqueue d.tgt
      { kind := .write, cmd := some (src, d), off := d.op0.toNat, len := d.op1.toNat, data := slice l 0 d.op1.toNat }
      else s.complete src 0x72 d .authFail := by
  have hnone : (s.cartChan d.tgt).isNone = false := Option.isNone_eq_false_iff.2 hchan
  refine (State.cmd_soon_of_accepts hacc).trans ?_
  simp only [Nat.not_le.2 htgt, hnone, Nat.not_lt.2 hsome, Nat.not_lt.2 hlo, Nat.not_lt.2 hhi, decide_false, Bool.or_self,
    Bool.false_eq_true, if_false]
  cases (s.cax d.tgt).auth <;> rfl

/-- A policy table is judged at once and takes effect at the boundary. -/
theorem State.cartPolicy_of_table {t : List Byte} (hacc : s.accepts src 0x73 d) :
    execCartPolicy src d (some t) s = .next (if policyOk (slice t 0 64) then
      s.defer { cyc := s.cycle + 1, src := src, opc := 0x73, desc := d, data := slice t 0 64 } else s.complete src 0x73 d .badOperand) := by
  have heff : s.effCycle d = s.cycle + 1 := if_neg (ne_true_of_eq_false hacc.2)
  refine congrArg Host.Outcome.next ((State.cmd_of_precheck_none hacc.1).trans ?_)
  simp only [State.atBoundary, heff]

/-- CART_FLUSH on the holder: the authenticated tags of its target. -/
theorem State.cartFlush_of_holder (hacc : s.accepts src 0x74 d) (htgt : d.tgt < 256 ∨ d.tgt = 0xFFFF) (hholder : s.holder = true) {l : List Nat}
    (hl : ((s.cart.ax.filter (fun e => e.2.auth)).map (fun e => e.1)).filter (fun a => d.tgt == 0xFFFF || a == d.tgt) = l) :
    (s.cmd src 0x74 d fun s => s.cartFlush src d) = if l.isEmpty then s.complete src 0x74 d .ok else
      l.foldl (fun s a => s.askWb a) { s with cart := { s.cart with flushes := s.cart.flushes ++ [(src, d, l, false)] } } := by
  have hknown : (decide (256 ≤ d.tgt) && decide (d.tgt ≠ 0xFFFF)) = false := by
    rcases htgt with h | h
    · rw [decide_eq_false (Nat.not_le.2 h), Bool.false_and]
    · rw [decide_eq_false (not_not_intro h), Bool.and_false]
  refine (State.cmd_soon_of_accepts hacc).trans ?_
  simp only [hknown, hholder, hl, Bool.not_true, Bool.false_eq_true, if_false]

end

/-- Settles O30: past its checks each command joins the transactions of its cartridge, waits for the boundary, or is turned away. -/
theorem cartridgeCommands : Obligations.CartridgeCommands := by
  refine ⟨fun s src d j hacc htgt hholder hchan hjob => ?_,
    fun s src d hacc htgt hholder hchan => congrArg _ (State.cartAuth_of_holder hacc htgt hholder hchan),
    fun s src d hacc htgt hstandby => congrArg _ (State.cartAuth_of_standby hacc htgt hstandby),
    fun s src d hacc htgt hchan hsome hrange => congrArg _ (State.cartRead_of_range hacc htgt hchan hsome hrange),
    fun s src d hacc htgt hchan hout => congrArg _ (State.cartRead_of_outside hacc htgt hchan hout),
    fun s src d l hacc htgt hchan hsome hlo hhi hauth =>
      congrArg _ ((State.cartWrite_of_range hacc htgt hchan hsome hlo hhi).trans (if_pos hauth)),
    fun s src d l hacc htgt hchan hsome hlo hhi hauth =>
      congrArg _ ((State.cartWrite_of_range hacc htgt hchan hsome hlo hhi).trans (if_neg (ne_true_of_eq_false hauth))),
    fun s src d hacc => congrArg _ (State.cmd_of_precheck_none hacc.1),
    fun s src d t hacc hok => (State.cartPolicy_of_table hacc).trans (congrArg _ (if_pos hok)),
    fun s src d t hacc hbad => (State.cartPolicy_of_table hacc).trans (congrArg _ (if_neg (ne_true_of_eq_false hbad))),
    fun s src d hacc htgt hholder hnone => ?_, fun s src d a x hacc htgt hholder hax hauth => ?_⟩
  · exact congrArg _ ((State.cartAuth_of_holder hacc htgt hholder hchan).trans (State.cartEnqueue_of_busy hjob rfl nofun))
  · have hnil : s.cart.ax.filter (fun e => e.2.auth) = [] := by
      simpa [List.filter_eq_nil_iff] using hnone
    exact congrArg _ (State.cartFlush_of_holder (l := []) hacc htgt hholder (by rw [hnil]; rfl))
  · refine congrArg _ (State.cartFlush_of_holder (l := [a]) hacc (Or.inr htgt) hholder ?_)
    simp [hax, hauth, htgt]

/-! ### Events of the tag -/

namespace State

variable {s : State} {a : Nat}

theorem tagResponse_of_idle {m : List Byte} (hidle : (s.cax a).job = none) : s.tagResponse a m = s := by
  simp only [tagResponse, hidle]

theorem tagResponse_of_other {m : List Byte} {j : CartJob} (hjob : (s.cax a).job = some j) (hother : leAt m 0 1 ≠ leAt (s.cax a).msg 0 1 + 0x80) :
    s.tagResponse a m = s := by
  simp only [tagResponse, hjob, hother, decide_false, Bool.and_false, Bool.false_and, Bool.false_eq_true, if_false]

/-- The answer to a read that one message brings whole. -/
theorem tagResponse_of_read {m : List Byte} {j : CartJob} (hjob : (s.cax a).job = some j) (hkind : j.kind = .read) (hasked : (s.cax a).msg ≠ [])
    (hcode : leAt m 0 1 = leAt (s.cax a).msg 0 1 + 0x80) (hcount : leAt m 1 1 = j.len + 1) (hlen : m.length = j.len + 3) (hsome : 1 ≤ j.len)
    (hok : leAt (m.drop 2) 0 1 = 0) (hfirst : (s.cax a).got = []) (hown : j.cmd = none) :
    s.tagResponse a m = (s.cartReply j .ok 0).cartEnd a := by
  have hrest : (m.drop 2).length = j.len + 1 := by rw [List.length_drop]; omega
  have hbody : (m.drop 2).take (j.len + 1) = m.drop 2 := List.take_of_length_le (Nat.le_of_eq hrest)
  have hmsg : (s.cax a).msg.isEmpty = false := List.isEmpty_eq_false_iff.2 hasked
  have hnonempty : (m.drop 2).isEmpty = false := List.isEmpty_eq_false_iff.2 (List.ne_nil_of_length_pos (by omega))
  have hgot : ((m.drop 2).drop 1).length = j.len := by rw [List.length_drop]; omega
  have hlong : ¬ j.len + 1 ≤ 1 := by omega
  have hstep : s.cartStep a j (m.drop 2) = (s.cartReply j .ok 0).cartEnd a := by
    simp only [cartStep, hkind, hok, hfirst, hown, hrest, hlong, hgot, List.nil_append, ne_eq, not_true_eq_false, decide_false, Bool.or_self,
      Bool.false_eq_true, if_false, Nat.le_refl, if_true]
  simp only [tagResponse, hjob, hbody, hmsg, hcode, hrest, hcount, hnonempty, Bool.not_false, decide_true, Bool.and_self, if_true, hstep]

theorem tagTimeout_repeats {j : CartJob} (hjob : (s.cax a).job = some j) (hfew : (s.cax a).sends < 3) :
    s.tagTimeout a = (s.setCax a { s.cax a with sends := (s.cax a).sends + 1 }).cartTx a := by
  simp only [tagTimeout, hjob, Nat.not_le.2 hfew, if_false]

theorem tagTimeout_fails {j : CartJob} (hjob : (s.cax a).job = some j) (hmany : 3 ≤ (s.cax a).sends) (hkind : j.kind = .read) :
    s.tagTimeout a = (s.cartReply j .timeout 0).cartEnd a := by
  simp only [tagTimeout, hjob, hmany, if_true, cartFail, hkind]

theorem tagPresence_comes (hgone : s.cartPresent a = false) (hmanual : s.flag CART_CFG 0 = false) :
    s.tagPresence a true = s.putFlag (cartReg a 0) 7 true := by
  have hne : CART_CFG ≠ cartReg a 0 := by simp only [CART_CFG, cartReg, CART_B]; omega
  have hcfg : (s.putFlag (cartReg a 0) 7 true).flag CART_CFG 0 = false := (flag_putFlag_ne s _ _ _ hne).trans hmanual
  have hnew : (false == true) = false := rfl
  simp only [tagPresence, hgone, hnew, hcfg, Bool.false_and, Bool.false_eq_true, if_false, if_true]

/-- A tag without a transaction goes. -/
theorem tagPresence_goes (hhere : s.cartPresent a = true) (hjob : (s.cax a).job = none) (hqueue : (s.cax a).queue = []) :
    s.tagPresence a false = (((((s.putFlag (cartReg a 0) 7 false).setCax a { s.cax a with
      job := none, queue := [], msg := [], sends := 0, after := none }).cartState a 0).unAuth a).setClass a 1 false).cartRec a 3 0 := by
  have hgone : (true == false) = false := rfl
  have hcax : (s.putFlag (cartReg a 0) 7 false).cax a = s.cax a := rfl
  simp only [tagPresence, hhere, hgone, Bool.false_eq_true, if_false, cartAbort, hcax, hjob, hqueue, List.append_nil, List.foldl_nil]

theorem removalWarning_of_noAxis {n : Nat} (hstandby : s.holder = false) (hnone : ∀ p ∈ s.pilot.act.axes, p.node ≠ n) :
    s.removalWarning n = s := by
  have hhere : s.pilot.act.axes.filter (fun p => !p.isLocal && p.node == n && s.cartPresent p.axis) = [] :=
    List.filter_eq_nil_iff.2 fun p hp => by simp [hnone p hp]
  simp only [removalWarning, hhere, List.map_nil, List.foldl_nil, hstandby, Bool.not_false, if_true]

/-- With one axis and its tag on the node, the warning raises event 212 for it. -/
theorem removalWarning_of_one {n : Nat} {p : PlanAxis} (hone : s.pilot.act.axes = [p]) (hwire : p.isLocal = false) (hnode : p.node = n)
    (hhere : s.cartPresent p.axis = true) :
    s.removalWarning n = let t := s.raise 212 p.axis
      if !t.holder then t else if (t.authAxes n).isEmpty then
        t.updNode n (fun x => { x with ncmd := if bit (ofNat x.ncmd) 1 then x.ncmd else x.ncmd + 2 })
      else
        let u := t.updNode n (fun x => { x with ncmd := if bit (ofNat x.ncmd) 1 then x.ncmd - 2 else x.ncmd })
        (t.authAxes n).foldl (fun s a => s.askWb a) { u with cart := { u.cart with removals := u.cart.removals ++ [(n, t.authAxes n)] } } := by
  have haxes : s.pilot.act.axes.filter (fun p => !p.isLocal && p.node == n && s.cartPresent p.axis) = [p] := by
    simp [hone, hwire, hnode, hhere]
  simp only [removalWarning, haxes, List.map_cons, List.map_nil, List.foldl_cons, List.foldl_nil]

theorem holder_raise (src arg : Nat) (hsrc : src < 256) : (s.raise src arg).holder = s.holder :=
  congrArg (· == 3) (s.helmState_raise arg hsrc)

end State

/-- Settles O31: an event that answers nothing is ignored; a read's answer ends its transaction; a tag that goes ends what runs. -/
theorem cartridgeEvents : Obligations.CartridgeEvents := by
  refine ⟨fun s a m hidle => congrArg _ (State.tagResponse_of_idle hidle),
    fun s a m j hjob hother => congrArg _ (State.tagResponse_of_other hjob hother),
    fun s a m j hjob hkind hasked hcode hcount hlen hsome hok hfirst hown =>
      congrArg _ (State.tagResponse_of_read hjob hkind hasked hcode hcount hlen hsome hok hfirst hown),
    fun s a j hjob hfew => congrArg _ (State.tagTimeout_repeats hjob hfew),
    fun s a j hjob hmany hkind => congrArg _ (State.tagTimeout_fails hjob hmany hkind),
    fun s a b hchan => ?_, fun s a hchan hgone hmanual => ?_, fun s a hchan hhere hjob hqueue => ?_,
    fun s n hstandby hnone => congrArg _ (State.removalWarning_of_noAxis hstandby hnone), fun s a hoff => ?_,
    fun s a hon hdone hauth hholder => ?_, fun s n p hstandby hone hwire hnode hhere => ?_,
    fun s n p hholder hone hwire hnode hhere hauth hncmd => ?_⟩
  · exact congrArg _ (if_neg (by simp [hchan]))
  · exact congrArg _ ((if_pos hchan).trans (State.tagPresence_comes hgone hmanual))
  · exact congrArg _ ((if_pos hchan).trans (State.tagPresence_goes hhere hjob hqueue))
  · exact congrArg _ (if_pos (by simp [hoff]))
  · exact congrArg _ ((if_neg (by simp [hon, hdone])).trans ((if_pos hauth).trans (if_pos hholder)))
  · refine congrArg _ ((State.removalWarning_of_one hone hwire hnode hhere).trans ?_)
    simp only [State.holder_raise 212 _ (by decide), hstandby, Bool.not_false, if_true]
  · have hcax : (s.raise 212 p.axis).cax p.axis = s.cax p.axis := by
      simp [State.cax]
    have haxes : (s.raise 212 p.axis).authAxes n = [] := by
      simp [State.authAxes, hone, hcax, hauth]
    have hsame : (s.raise 212 p.axis).node n = s.node n := by
      simp [State.node]
    refine congrArg _ ((State.removalWarning_of_one hone hwire hnode hhere).trans ?_)
    simp only [State.holder_raise 212 _ (by decide), hholder, haxes, Bool.not_true, Bool.false_eq_true, if_false, List.isEmpty_nil, if_true,
      State.updNode, hsame, hncmd]

end Sys2Proof.Machine

/-! The safety channels: filtered inputs, test pulses and the cycle (R434, R446 to R449), acknowledge, delays, outputs and faults (R435,
R450, R452 to R457, R460, R465). -/

namespace Sys2Proof.Machine

open Sys2Proof

theorem testBit_maskOf (n : Nat) (f : Nat → Bool) (k : Nat) : (maskOf n f).testBit k = (decide (k < n) && f k) := by
  have hbound (n : Nat) : maskOf n f < 2 ^ n := by
    induction n with
    | zero => exact Nat.one_pos
    | succ n ih =>
      have hstep : maskOf (n + 1) f = if f n then maskOf n f + 2 ^ n else maskOf n f := by
        simp only [maskOf, List.range_succ, List.foldl_append, List.foldl_cons, List.foldl_nil]
      rw [hstep, Nat.pow_succ]
      split <;> omega
  induction n with
  | zero => simp [maskOf]
  | succ n ih =>
    have hstep : maskOf (n + 1) f = if f n then 2 ^ n + maskOf n f else maskOf n f := by
      simp only [maskOf, List.range_succ, List.foldl_append, List.foldl_cons, List.foldl_nil, Nat.add_comm]
    rw [hstep]
    by_cases hk : k = n
    · subst hk
      cases hf : f k with
      | false => simp [ih]
      | true => simp [Nat.testBit_two_pow_add_eq, ih]
    · have hsplit : decide (k < n + 1) = decide (k < n) := decide_eq_decide.2 (by omega)
      cases hf : f n with
      | false => simp only [Bool.false_eq_true, if_false, ih, hsplit]
      | true =>
        rcases Nat.lt_or_gt_of_ne hk with hlt | hgt
        · simp only [if_true, Nat.testBit_two_pow_add_gt hlt, ih, hsplit]
        · have hsum : 2 ^ n + maskOf n f < 2 ^ k :=
            calc 2 ^ n + maskOf n f < 2 ^ n + 2 ^ n := Nat.add_lt_add_left (hbound n) _
              _ = 2 ^ (n + 1) := by rw [Nat.pow_succ]; omega
              _ ≤ 2 ^ k := Nat.pow_le_pow_right (by decide) hgt
          have hout : ¬ k < n + 1 := by omega
          simp only [if_true, Nat.testBit_lt_two_pow hsum, hout, decide_false, Bool.false_and]

namespace State

variable {s : State} {b : Bool}

@[simp] theorem sch_setSch_self (s : State) (b : Bool) (c : SafeCh) : (s.setSch b c).sch b = c := by
  cases b <;> rfl

theorem safeRegs_sch (s : State) (b b' : Bool) : (s.safeRegs b).sch b' = s.sch b' := rfl

/-! ### Inputs -/

/-- A channel with one input's filtered level changed. -/
def filtered (s : State) (b : Bool) (k : Nat) (lv : Bool) : SafeCh :=
  { s.sch b with filt := maskOf 16 (fun n => if n = k then lv else (s.sch b).filt.testBit n) }

theorem inputFilter_of_on {k : Nat} {lv : Bool} (hstate : s.safeState b ≠ 0) (hon : s.chanOn b = true) :
    s.inputFilter b k lv = (s.setSch b { s.filtered b k lv with discDem := demSeen (s.filtered b k lv) }).safeRegs b := by
  simp only [inputFilter, hstate, hon, decide_false, Bool.not_true, Bool.or_self, Bool.false_eq_true, if_false]
  rfl

theorem testBit_filtered {k : Nat} {lv : Bool} {n : Nat} (hn : n < 16) :
    (s.filtered b k lv).filt.testBit n = if n = k then lv else (s.sch b).filt.testBit n := by
  simp only [filtered, testBit_maskOf, hn, decide_true, Bool.true_and]

theorem discrepancy_of_differ {j : Nat} (hrun : s.safeState b = 3) (hpair : imgPairEn (s.sch b).img j = true)
    (heq : imgAnti (s.sch b).img j = false) (hdiffer : (s.sch b).filt.testBit (2 * j) ≠ (s.sch b).filt.testBit (2 * j + 1))
    (hnew : (s.sch b).disc.testBit j = false) :
    s.discrepancy b j = (s.setSch b { s.sch b with
      disc := (s.sch b).disc + 2 ^ j
      discDem := maskOf 8 (fun n => (s.sch b).discDem.testBit n && n != j) }).safeExt b j 167 j := by
  have hne : ((s.sch b).filt.testBit (2 * j) != (s.sch b).filt.testBit (2 * j + 1)) = true := bne_iff_ne.2 hdiffer
  simp only [discrepancy, hrun, hpair, heq, hne, hnew, decide_true, Bool.false_eq_true, if_false, Bool.not_false, Bool.and_self, if_true]

theorem testPulse_of_stopped {k x y : Nat} (hstopped : s.safeState (decide (2 ≤ k)) ≠ 3) : s.testPulse k x y = s := if_pos hstopped

/-- A source that no input uses: the pulse alone. -/
theorem testPulse_of_unused {k x y : Nat} (hrun : s.safeState (decide (2 ≤ k)) = 3)
    (hunused : ∀ n : Fin 16, imgSrc (s.sch (decide (2 ≤ k))).img n.val ≠ k + 1) :
    s.testPulse k x y = (s.emit (.pin 12 k 0)).emit (.pin 12 k 1) := by
  have hsch : ((s.emit (.pin 12 k 0)).emit (.pin 12 k 1)).sch (decide (2 ≤ k)) = s.sch (decide (2 ≤ k)) := by
    cases decide (2 ≤ k) <;> rfl
  refine (if_neg (not_not_intro hrun)).trans ?_
  refine List.foldlRecOn _ _ (motive := fun u => u = (s.emit (.pin 12 k 0)).emit (.pin 12 k 1)) rfl (fun u hu n hn => ?_)
  rw [hu]
  exact if_pos (by rw [hsch]; exact hunused ⟨n, List.mem_range.1 hn⟩)

/-- The channel's cycle begins: number, raw samples and SOFB levels. -/
def sampled (s : State) (b : Bool) (x y : Nat) : State :=
  s.setSch b { s.sch b with cyc := ((s.sch b).cyc + 1) % 2 ^ 32, raw := x, sofb := y }

/-- Functions, outputs and PDU of a cycle without a new image. -/
def outputCycle (u : State) (b : Bool) : State := ((u.evalFuncs b).applyOutputs b).writePdu b

/-- The result word goes to the partner, then the two are compared. -/
def compared (v : State) (b : Bool) : State := (v.setSch b { v.sch b with word := v.resultWord b }).crossCheck b

/-- The cycle's end: the filtered inputs are the next image; a stuck acknowledge and a partner's answer are followed. -/
def cycleEnd (w : State) (b : Bool) : SafeCh :=
  let c := w.sch b
  let low := match imgAck c.img with | some k => c.ackStuck && (c.ackLow || (!c.image.testBit k && !c.filt.testBit k)) | none => false
  let aw := match c.ackWait with | some x => if (w.sch (!b)).word.acks = x.2 then some x else none | none => none
  { c with image := c.filt, ackLow := low, ackWait := aw }

theorem safetyCycle_of_off {x y : Nat} (hoff : s.safeState b = 0) : s.safetyCycle b x y = s := if_pos (by simp [hoff])

theorem safetyCycle_of_on {x y : Nat} (hstate : s.safeState b ≠ 0) (hon : s.chanOn b = true) (himg : (s.sch b).newImg = none) :
    s.safetyCycle b x y = ((((s.sampled b x y).outputCycle b).compared b).setSch b
      ((((s.sampled b x y).outputCycle b).compared b).cycleEnd b)).safeRegs b := by
  have hno : ((s.safeState b = 2 || s.safeState b = 3) && (s.sch b).newImg.isSome) = false := by
    rw [himg]
    exact Bool.and_false _
  refine (if_neg (by simp [hstate, hon])).trans ?_
  rw [hno]
  rfl

end State

/-- Settles O33: a channel's inputs change its filtered levels and fault bits alone; a cycle runs functions, outputs, PDU and comparison. -/
theorem safetyInputs : Obligations.SafetyInputs := by
  refine ⟨fun s b k lv hstate hon => ?_,
    fun s b j hrun hpair heq hdiffer hnew => congrArg _ (State.discrepancy_of_differ hrun hpair heq hdiffer hnew),
    fun s k x y hstopped => congrArg _ (State.testPulse_of_stopped hstopped),
    fun s k x y hrun hunused => congrArg _ (State.testPulse_of_unused hrun hunused),
    fun s b x y hoff => congrArg _ (State.safetyCycle_of_off hoff), fun s b x y hstate hon himg => ?_⟩
  · refine ⟨_, congrArg _ (State.inputFilter_of_on hstate hon), rfl, fun n => ?_, fun j => ?_⟩
    · simp only [State.testBit_filtered n.isLt, Fin.ext_iff]
    · have hdem (c : SafeCh) (j : Fin 8) : (demSeen c).testBit j.val = (c.disc.testBit j.val && (c.discDem.testBit j.val ||
          (!c.filt.testBit (2 * j.val) && (c.filt.testBit (2 * j.val + 1) == imgAnti c.img j.val)))) := by
        simp only [demSeen, testBit_maskOf, j.isLt, decide_true, Bool.true_and]
        cases imgAnti c.img j.val <;> simp
      exact hdem (s.filtered b k.val lv) j
  · exact ⟨s.sampled b x.toNat y.toNat, _, _, rfl, rfl, rfl, _, congrArg _ (State.safetyCycle_of_on hstate hon himg),
      rfl, rfl, rfl, rfl, rfl, rfl⟩

/-! ### Acknowledge and faults -/

namespace State

variable {s : State} {b : Bool}

theorem ackAccept_of_agreed (hrun : s.safeState b = 3) (hack : (imgAck (s.sch b).img).isSome = true) (hfree : (s.sch b).ackStuck = false)
    (hpartner : (s.sch (!b)).word.acks = (s.sch b).acks + 1) : s.ackAccept b =
      (((((s.setSch b { s.sch b with wait := 0, acks := (s.sch b).acks + 1, ackStuck := false, ackLow := false, ackWait := none }).raise 164
        (b2n b)).safeRec b 3 0).clearFaults b).safeRegs b) := by
  have hsome : (imgAck (s.sch b).img).isNone = false := Option.isNone_eq_false_iff.2 hack
  simp only [ackAccept, hrun, hsome, hfree, hpartner, ne_eq, not_true_eq_false, decide_false, Bool.false_and, Bool.or_self,
    Bool.false_eq_true, if_false, if_true]

theorem ackStuckAt_of_high {k : Nat} (hrun : s.safeState b = 3) (hack : imgAck (s.sch b).img = some k)
    (hhigh : (s.sch b).filt.testBit k = true) (hnew : (s.sch b).ackStuck = false) :
    s.ackStuckAt b = (s.setSch b { s.sch b with ackStuck := true, ackLow := false }).safeExt b 12 165 3 := by
  simp only [ackStuckAt, hrun, hack, hhigh, hnew, decide_true, Bool.not_false, Bool.and_self, if_true]

theorem ackSplit_of_waiting {w : Nat × Nat} (hwait : (s.sch b).ackWait = some w) : s.ackSplit b =
    ((((s.setSch b { s.sch b with wait := (s.sch b).wait ||| w.1, acks := (s.sch b).acks - 1, ackWait := none }).setFlag
      (safeB b + 0x14) 13).raise 165 (4 + b2n b * 0x10000)).safeRec b 4 0).safeRegs b := by
  simp only [ackSplit, hwait]

theorem ackSplit_of_none (hwait : (s.sch b).ackWait = none) : s.ackSplit b = s := by
  simp only [ackSplit, hwait]

theorem outFail_of_new {m : Nat} (hrun : s.safeState b = 3) (hnew : (s.sch b).outF.testBit m = false) :
    s.outFail b m = (s.setSch b { s.sch b with outF := (s.sch b).outF + 2 ^ m }).safeExt b (8 + m) 168 m := if_neg (by simp [hrun, hnew])

theorem darkTest_of_high {m : Nat} (hrun : s.safeState b = 3) (hused : imgB (s.sch b).img (0xB0 + 4 * m) % 2 = 1)
    (hhigh : (s.sch b).side.testBit m = true) :
    s.darkTest b m true = (s.emit (.pin 13 (2 * m + b2n b) 0)).emit (.pin 13 (2 * m + b2n b) 1) := if_pos (by simp [hrun, hused, hhigh])

theorem darkTest_of_low {m : Nat} {x : Bool} (hlow : (s.sch b).side.testBit m = false) : s.darkTest b m x = s := if_neg (by simp [hlow])

theorem safeDown_sch (s : State) (b : Bool) : ((s.safeDown b).sch b).side = 0 ∧ ((s.safeDown b).sch b).stog = 0 ∧ ((s.safeDown b).sch b).rel = 0 := by
  unfold safeDown
  simp only [safeRegs_sch, sch_setSch_self, and_self]

/-- A fault that has no event of its own. -/
theorem safeFault_of_on {code : Nat} (hstate : s.safeState b ≠ 0) (hnew : s.safeState b ≠ 4) (hcross : code ≠ 0x10) (hpartner : code ≠ 0x11) :
    s.safeFault b code = ((((s.safeDown b).setFld (safeB b) 15 8 code).safeRec b 7 code).safeEnter b 4).safeDrop := by
  simp only [safeFault, hstate, hnew, hcross, hpartner, decide_false, Bool.or_self, Bool.false_eq_true, if_false]

theorem stoCheck_of_stopped {g : Nat} (hstopped : s.safeState false ≠ 3) : s.stoCheck g = s := if_neg (by simp [hstopped])

theorem stoCheck_of_silent {g : Nat} {p : PlanAxis} (hrun : s.safeState false = 3) (hdem : s.safe.p.stog.testBit g = false)
    (hone : s.pilot.act.axes = [p]) (hwire : p.isLocal = false) (hgroup : imgAxg s.safe.p.img p.axis = some g)
    (hsilent : bit (ofNat (s.node p.node).nstat) 1 = false) : s.stoCheck g = s.raise 173 p.node := by
  have hnodes : ((s.pilot.act.axes.filter (fun p => !p.isLocal && imgAxg s.safe.p.img p.axis == some g)).map (fun p => p.node)).eraseDups =
      [p.node] := by
    simp [hone, hwire, hgroup, List.eraseDups_cons]
  refine (if_pos (by simp [hrun, hdem])).trans ?_
  rw [hnodes]
  exact if_neg (ne_true_of_eq_false hsilent)

end State

/-- Settles O34: each event acts in the channel's state that R452 to R465 name, and leaves the channel alone otherwise. -/
theorem safetyEvents : Obligations.SafetyEvents := by
  refine ⟨fun s b hrun hack hfree hpartner => ⟨_, rfl, congrArg _ (State.ackAccept_of_agreed hrun hack hfree hpartner)⟩,
    fun s b k hrun hack hhigh hnew => congrArg _ (State.ackStuckAt_of_high hrun hack hhigh hnew),
    fun s b w hwait => congrArg _ (State.ackSplit_of_waiting hwait), fun s b hwait => congrArg _ (State.ackSplit_of_none hwait),
    fun s b f => ⟨_, rfl, ?_, fun n hn hne => ?_, rfl⟩, fun s b m hrun hnew => congrArg _ (State.outFail_of_new hrun hnew),
    fun s b m hrun hused hhigh => congrArg _ (State.darkTest_of_high hrun hused hhigh),
    fun s b m x hlow => congrArg _ (State.darkTest_of_low hlow), fun s hinit => ?_, fun s hinit => ?_,
    fun s b hstate hnew => ?_, fun s b c hfault => congrArg _ (if_pos (by simp [hfault])),
    fun s g hstopped => congrArg _ (State.stoCheck_of_stopped hstopped),
    fun s g p hrun hdem hone hwire hgroup hsilent => congrArg _ (State.stoCheck_of_silent hrun hdem hone hwire hgroup hsilent)⟩
  · simp [testBit_maskOf]
  · simp [testBit_maskOf, hn, hne]
  · refine congrArg _ ((if_neg (by simp [hinit, State.chanOn])).trans ((if_pos rfl).trans ?_))
    exact if_neg (by rw [hinit]; decide)
  · exact congrArg _ ((if_neg (by simp [hinit, State.chanOn])).trans (if_neg (by decide)))
  · obtain ⟨hside, hstog, hrel⟩ := s.safeDown_sch b
    exact ⟨_, hside, hstog, hrel, congrArg _ (State.safeFault_of_on hstate hnew (by decide) (by decide))⟩

end Sys2Proof.Machine

/-! Acquisition: the commands of the LOG streams and of SOUNDING (R475 to R495, R500), samples, re-arming, pages and the latch of a
sounding (R480, R483, R490, R495, R498). -/

namespace Sys2Proof.Machine

open Sys2Proof

/-- A stream with a new list and decimation: its masks stay where the list still has their word. -/
def LogSt.relist (l : LogSt) (ws : List (Nat × Bool × Nat × Bool)) (n : Nat) : LogSt :=
  let l' : LogSt := { l with list := ws, dec := n, prev := none }
  { l' with m0 := keepMask l' l'.m0, m1 := keepMask l' l'.m1 }

namespace State

variable {s : State}

@[simp] theorem log_setLog_self (s : State) (n : Nat) (l : LogSt) : (s.setLog n l).log n = l := Tab.get_set_self _ _ _ _

theorem log_setLog_ne (s : State) {n k : Nat} (l : LogSt) (hne : k ≠ n) : (s.setLog n l).log k = s.log k := Tab.get_set_ne _ _ _ _ _ _ hne

theorem log_logRegs (s : State) (n k : Nat) : (s.logRegs n).log k = s.log k := rfl

/-! ### Commands -/

section
variable {src : Src} {d : Desc}

/-- LOG_CONFIG of a stopped stream with a list that spells (R478, R493). -/
def configured (s : State) (d : Desc) (ws : List (Nat × Bool × Nat × Bool)) : State :=
  ((s.setLog d.tgt ((s.log d.tgt).relist ws d.op2.toNat)).setRg (logReg d.tgt 0x2C) (ofNat (d.op2.toNat + ws.length * 65536))).logRegs d.tgt

theorem execLogConfig_of_list {m : List Byte} {ws : List (Nat × Bool × Nat × Bool)} (hacc : s.accepts src 0x50 d) (htgt : d.tgt < 8)
    (hstopped : (s.log d.tgt).st = 0) (hlist : probeList 64 (slice m 0 256) = some ws) (hlen : ws.length ≤ 64) (hlo : 1 ≤ d.op2.toNat)
    (hhi : d.op2.toNat ≤ 0xFFFF) : execLogConfig src d (some m) s = .next ((s.configured d ws).complete src 0x50 d .ok) := by
  have hdec : d.op2.toNat ≠ 0 := by omega
  refine congrArg Host.Outcome.next ((State.cmd_soon_of_accepts hacc).trans ?_)
  simp only [Nat.not_le.2 htgt, hstopped, hlist, Nat.not_lt.2 hlen, hdec, Nat.not_lt.2 hhi, ne_eq, not_true_eq_false, decide_false,
    Bool.or_self, Bool.false_eq_true, if_false, configured, LogSt.relist]

theorem configured_log (s : State) (d : Desc) (ws : List (Nat × Bool × Nat × Bool)) :
    ((s.configured d ws).log d.tgt).list = ws ∧ ((s.configured d ws).log d.tgt).dec = d.op2.toNat ∧
    ((s.configured d ws).log d.tgt).st = (s.log d.tgt).st ∧ ∀ n, n ≠ d.tgt → (s.configured d ws).log n = s.log n := by
  have hlog (n : Nat) : (s.configured d ws).log n = (s.setLog d.tgt ((s.log d.tgt).relist ws d.op2.toNat)).log n :=
    log_logRegs (State.setRg _ _ _) _ _
  rw [hlog, log_setLog_self]
  exact ⟨rfl, rfl, rfl, fun n hn => (hlog n).trans (s.log_setLog_ne _ hn)⟩

theorem execLogConfig_of_running {m : List Byte} (hacc : s.accepts src 0x50 d) (htgt : d.tgt < 8) (hrun : (s.log d.tgt).st ≠ 0) :
    execLogConfig src d (some m) s = .next (s.complete src 0x50 d .busy) := by
  refine congrArg Host.Outcome.next ((State.cmd_soon_of_accepts hacc).trans ?_)
  simp only [Nat.not_le.2 htgt, hrun, ne_eq, not_false_eq_true, if_false, if_true]

theorem execLogStart_waits (hacc : s.accepts src 0x51 d) (htgt : d.tgt < 8) :
    execLogStart src d s = .next (s.nextBoundary src 0x51 d) := by
  refine congrArg Host.Outcome.next ((State.cmd_of_precheck_none hacc.1).trans ?_)
  exact (if_neg (Nat.not_le.2 htgt)).trans (State.atBoundary_of_noCycle hacc.2)

theorem execLogStop_waits (hacc : s.accepts src 0x52 d) (htgt : d.tgt < 8) :
    execLogStop src d s = .next (s.nextBoundary src 0x52 d) := by
  refine congrArg Host.Outcome.next ((State.cmd_of_precheck_none hacc.1).trans ?_)
  exact (if_neg (Nat.not_le.2 htgt)).trans (State.atBoundary_of_noCycle hacc.2)

/-- LOG_MASK_LOAD of mask 0, whose window does not run. -/
theorem execLogMaskLoad_of_idle {m : List Byte} (hacc : s.accepts src 0x53 d) (htgt : d.tgt < 8) (hidx : d.op2.toNat < 64)
    (hword : oneWord (s.log d.tgt) d.op2.toNat = true) (hidle : (s.log d.tgt).m0.win = none) :
    execLogMaskLoad src d (some m) s = .next (((s.setLog d.tgt { s.log d.tgt with
      m0 := { loaded := true, idx := d.op2.toNat, table := slice m 0 8192 } }).logRegs d.tgt).complete src 0x53 d .ok) := by
  have hmask : d.op2.toNat / 64 % 2 = 0 := by omega
  have hi : d.op2.toNat % 64 = d.op2.toNat := Nat.mod_eq_of_lt hidx
  have hsmall : ¬ 128 ≤ d.op2.toNat := by omega
  refine congrArg Host.Outcome.next ((State.cmd_soon_of_accepts hacc).trans ?_)
  simp only [Nat.not_le.2 htgt, hmask, hi, hsmall, hword, hidle, LogSt.mask, LogSt.setMask, decide_false, Bool.not_true, Bool.or_self,
    Bool.false_eq_true, if_false, if_true, Option.isSome_none]

theorem execLogTrigger_of_stream (hacc : s.accepts src 0x54 d) (htgt : d.tgt < 8) :
    execLogTrigger src d s = .next ((s.logMark d.tgt s.cycle { time := s.ntime, code := 1, arg := d.op0.toNat % 65536, src := 1 }).complete
      src 0x54 d .ok) := by
  refine congrArg Host.Outcome.next ((State.cmd_soon_of_accepts hacc).trans ?_)
  exact if_neg (Nat.not_le.2 htgt)

theorem execLogTrigger_of_noStream (hacc : s.accepts src 0x54 d) (htgt : 8 ≤ d.tgt) :
    execLogTrigger src d s = .next (s.complete src 0x54 d .badTarget) := by
  refine congrArg Host.Outcome.next ((State.cmd_soon_of_accepts hacc).trans ?_)
  exact if_pos htgt

theorem serveSound_of_none (hnone : s.evt.sound = []) : s.serveSound = s := by
  unfold serveSound
  rw [hnone, List.foldl_nil, ← hnone]

/-- SOUND_FIRE of the unit alone, at a time that R495 allows. -/
theorem execSoundFire_of_time (hacc : s.accepts src 0x55 d) (hline : s.evt.sound = []) (hfree : s.acq.sound = none)
    (hgrid : op64 d.op0 d.op1 % 8 = 0) (hlo : s.ntime + 1000 ≤ op64 d.op0 d.op1) (hhi : op64 d.op0 d.op1 ≤ s.ntime + 1000000000)
    (hstandby : s.holder = false) :
    execSoundFire src d s = .next (s.acceptSound { t := op64 d.op0 d.op1, workers := false, cmd := some (src, d) }) := by
  refine congrArg Host.Outcome.next ((State.cmd_soon_of_accepts hacc).trans ?_)
  simp only [soundFire, serveSound_of_none hline, hgrid, Nat.not_lt.2 hhi, Nat.not_lt.2 hlo, hfree, hstandby, ne_eq, not_true_eq_false,
    decide_false, Bool.or_self, Bool.and_false, Bool.false_eq_true, if_false, Option.isSome_none]

theorem execSoundFire_of_pending {x : Sounding} (hacc : s.accepts src 0x55 d) (hline : s.evt.sound = []) (hbusy : s.acq.sound = some x)
    (hgrid : op64 d.op0 d.op1 % 8 = 0) (hhi : op64 d.op0 d.op1 ≤ s.ntime + 1000000000) :
    execSoundFire src d s = .next (s.complete src 0x55 d .busy) := by
  refine congrArg Host.Outcome.next ((State.cmd_soon_of_accepts hacc).trans ?_)
  simp only [soundFire, serveSound_of_none hline, hgrid, Nat.not_lt.2 hhi, hbusy, ne_eq, not_true_eq_false, decide_false, Bool.or_self,
    Bool.false_eq_true, if_false, if_true, Option.isSome_some]

theorem acceptSound_time (s : State) (x : Sounding) : (s.acceptSound x).rg (SOUND_B + 8) = ofNat x.t :=
  (State.rg_setFld_ne _ _ _ _ _ _ (by decide)).trans ((State.rg_setRg_ne _ _ _ _ (by decide)).trans (State.rg_setRg_self _ _ _))

theorem execSnapDump_of_noBlock (hacc : s.accepts src 0x56 d) (htgt : d.tgt = 7 ∨ 0x14 < d.tgt) :
    execSnapDump src d s = .next (s.complete src 0x56 d .badTarget) := by
  refine congrArg Host.Outcome.next ((State.cmd_soon_of_accepts hacc).trans ?_)
  exact if_pos (by simpa using htgt)

/-- What SNAP_DUMP sends: the window's header, then its words. -/
def dumpJob (s : State) (src : Src) (d : Desc) : DumpJob :=
  let b := d.tgt
  let w := snapBase (if b = 8 then 6 else b)
  let now := (s.rg (SOUND_B + 0x10)).toNat
  let seq := (now + 2 ^ 32 - (now + 2 ^ 16 - s.fld w 31 16) % 2 ^ 16) % 2 ^ 32
  let ws := s.dumpWords b
  let hd := leBytes 1 b ++ [0] ++ leBytes 2 ws.length ++ leBytes 4 seq ++ leBytes 4 (s.rg (w + 4)).toNat ++ leBytes 4 (s.rg (w + 8)).toNat
  { src := src, desc := d, rest := hd ++ (ws.map (fun x => leBytes 4 x.toNat)).flatten, n := 0, seq := seq }

theorem dumpDrain_of_noRoom {j : DumpJob} {r : List DumpJob} (hjob : s.acq.dumps = j :: r) (hrest : j.rest ≠ []) (hroom : s.ringRoom 31 = false)
    (f : Nat) : State.dumpDrain (f + 1) s = s := by
  have hmore : j.rest.isEmpty = false := List.isEmpty_eq_false_iff.2 hrest
  simp only [dumpDrain, hjob, hmore, hroom, Bool.false_eq_true, if_false]

theorem dumpJob_rest (s : State) (src : Src) (d : Desc) : ∃ l, (s.dumpJob src d).rest = leBytes 1 d.tgt ++ l := by
  simp only [dumpJob, List.append_assoc]
  exact ⟨_, rfl⟩

theorem execSnapDump_of_noRoom (hacc : s.accepts src 0x56 d) (hlo : d.tgt ≤ 0x14) (hlane : d.tgt ≠ 7) (hroom : s.ringRoom 31 = false)
    (hnone : s.acq.dumps = []) :
    execSnapDump src d s = .next { s with acq := { s.acq with dumps := [s.dumpJob src d] } } := by
  have hknown : (decide (d.tgt = 7) || decide (0x14 < d.tgt)) = false := by simp [hlane, hlo]
  obtain ⟨l, hl⟩ := s.dumpJob_rest src d
  have hrest : (s.dumpJob src d).rest ≠ [] := by
    rw [hl]
    exact List.append_ne_nil_of_left_ne_nil (List.cons_ne_nil _ _) _
  have hqueue : s.acq.dumps ++ [s.dumpJob src d] = [s.dumpJob src d] := by rw [hnone, List.nil_append]
  refine congrArg Host.Outcome.next ((State.cmd_soon_of_accepts hacc).trans ((if_neg (ne_true_of_eq_false hknown)).trans ?_))
  rw [← hqueue]
  exact dumpDrain_of_noRoom (s := { s with acq := { s.acq with dumps := s.acq.dumps ++ [s.dumpJob src d] } }) hqueue hrest hroom 599

end

end State

/-- Settles O35: past its checks each command changes its stream or the pending sounding, or waits, and is turned away otherwise. -/
theorem acquisitionCommands : Obligations.AcquisitionCommands := by
  refine ⟨fun s src d m ws hacc htgt hstopped hlist hlen hlo hhi => ?_,
    fun s src d m hacc htgt hrun => State.execLogConfig_of_running hacc htgt hrun,
    fun s src d hacc => congrArg _ (State.cmd_of_precheck_none hacc.1), fun s src d hacc htgt => State.execLogStart_waits hacc htgt,
    fun s src d hacc htgt => State.execLogStop_waits hacc htgt, fun s src d m hacc htgt hidx hword hidle => ?_,
    fun s src d hacc htgt => State.execLogTrigger_of_stream hacc htgt, fun s src d hacc htgt => State.execLogTrigger_of_noStream hacc htgt,
    fun s src d hacc hline hfree hgrid hlo hhi hstandby => ?_,
    fun s src d x hacc hline hbusy hgrid hhi => State.execSoundFire_of_pending hacc hline hbusy hgrid hhi,
    fun s src d hacc htgt => State.execSnapDump_of_noBlock hacc htgt, fun s src d hacc hlo hlane hroom hnone => ?_⟩
  · obtain ⟨hlist', hdec, hst, hothers⟩ := s.configured_log d ws
    exact ⟨_, State.execLogConfig_of_list hacc htgt hstopped hlist hlen hlo hhi, hlist', hdec, hst.trans hstopped, rfl, rfl, hothers⟩
  · exact ⟨_, State.execLogMaskLoad_of_idle hacc htgt hidx hword hidle, by rw [State.log_logRegs, State.log_setLog_self],
      by rw [State.log_logRegs, State.log_setLog_self], rfl⟩
  · exact ⟨_, State.execSoundFire_of_time hacc hline hfree hgrid hlo hhi hstandby, rfl, rfl, State.acceptSound_time _ _⟩
  · obtain ⟨l, hl⟩ := s.dumpJob_rest src d
    refine ⟨_, State.execSnapDump_of_noRoom hacc hlo hlane hroom hnone, rfl, rfl, rfl, ?_⟩
    rw [hl]
    rfl

end Sys2Proof.Machine

/-! Events of the LOG streams and the latch of a sounding (R480, R483, R490, R495, R498). -/

namespace Sys2Proof.Machine

open Sys2Proof

namespace State

variable {s : State} {n : Nat}

/-! ### Streams -/

theorem logSample_of_none (hnone : (s.log n).cyc = []) : s.logSample n = s := by
  simp only [logSample, hnone, List.find?_nil]

/-- An open cycle stays. -/
theorem logFlush_of_open {x : LogCyc} (hone : (s.log n).cyc = [x]) (hopen : x.closed = false) (f : Nat) : s.logFlush n f = s := by
  cases f with
  | zero => rfl
  | succ f => simp only [logFlush, hone, hopen, Bool.false_and, Bool.false_eq_true, if_false]

theorem logSample_of_open {x : LogCyc} (hone : (s.log n).cyc = [x]) (hsample : x.sample = true) (hnew : x.words = none)
    (hopen : x.closed = false) :
    s.logSample n = (s.setLog n { s.log n with cyc := [{ x with words := some (s.probeWords (s.log n)) }] }).logRegs n := by
  have hfind : [x].find? (fun x => x.sample && x.words.isNone) = some x := List.find?_cons_of_pos (by rw [hsample, hnew]; rfl)
  have hflush : (s.setLog n { s.log n with cyc := [{ x with words := some (s.probeWords (s.log n)) }] }).logFlush n 4 =
      s.setLog n { s.log n with cyc := [{ x with words := some (s.probeWords (s.log n)) }] } :=
    logFlush_of_open (by rw [log_setLog_self]) (x := { x with words := some (s.probeWords (s.log n)) }) hopen 4
  simp only [logSample, hfind, hone, List.map_cons, List.map_nil, if_true, hflush]

theorem logRearm_of_count (hrun : 2 ≤ (s.log n).st) (hfired : (s.log n).armed = false) (hmode : s.flag (logReg n 4) 5 = true)
    (hcount : (s.rg (logReg n 0xC)).toNat ≤ (s.log n).ignored) :
    s.logRearm n = (s.setLog n { s.log n with armed := true }).logRegs n := by
  simp only [logRearm, hrun, hfired, hmode, hcount, decide_true, Bool.not_false, Bool.and_self, if_true]

theorem logRearm_of_armed (harmed : (s.log n).armed = true) : s.logRearm n = s := by
  simp only [logRearm, harmed, Bool.not_true, Bool.and_false, Bool.false_and, Bool.false_eq_true, if_false]

theorem logResize_of_none (hnone : (s.log n).next = none) : s.logResize n = s := by
  simp only [logResize, hnone]

/-- No other stream holds a page of the list. -/
def pagesApart (s : State) (n : Nat) (ps : List Nat) : Prop := ∀ k, k < 8 → k ≠ n → ∀ p ∈ (s.log k).pages, p ∉ ps

theorem pagesFree_of_apart {ps : List Nat} (hapart : s.pagesApart n ps) : s.pagesFree n ps = true := by
  refine List.all_eq_true.2 fun k hk => ?_
  by_cases hkn : k = n
  · simp [hkn]
  · have hfree : (s.log k).pages.all (fun p => !ps.contains p) = true :=
      List.all_eq_true.2 fun p hp => by simpa using hapart k (List.mem_range.1 hk) hkn p hp
    rw [hfree, Bool.or_true, Bool.true_or]

theorem logResize_of_apart {ps : List Nat} (hnext : (s.log n).next = some ps) (hdrained : (s.log n).staged = []) (hrun : (s.log n).st = 2)
    (hapart : s.pagesApart n ps) :
    s.logResize n = (s.setLog n { s.log n with pages := ps, next := none, why := 2 }).logRegs n := by
  have hothers : (List.range 8).foldl (fun (s : State) k =>
      if k ≠ n && (s.log k).st = 0 && (s.log k).pages.any (fun p => ps.contains p) then
        (s.setLog k { s.log k with pages := [] }).logRegs k else s) s = s := by
    refine List.foldlRecOn _ _ (motive := fun u => u = s) rfl (fun u hu k hk => ?_)
    rw [hu]
    refine if_neg fun hc => ?_
    simp only [Bool.and_eq_true, decide_eq_true_eq, List.any_eq_true, List.contains_iff_mem] at hc
    obtain ⟨⟨hkn, -⟩, p, hp, hin⟩ := hc
    exact hapart k (List.mem_range.1 hk) hkn p hp hin
  have hstart : ¬ (2 : Nat) = 1 := by decide
  simp only [logResize, hnext, hdrained, List.isEmpty_nil, pagesFree_of_apart hapart, Bool.and_self, if_true, hothers, log_setLog_self,
    hrun, hstart, if_false]

end State

/-! ### The latch of a sounding -/

/-- From `s` to `t` only windows and latch registers have changed. -/
structure WindowsOnly (s t : State) : Prop where
  acq : t.acq = s.acq
  out : t.out = s.out
  sound : ∀ o, SOUND_B ≤ o → o < SOUND_B + 0x100 → t.rg o = s.rg o

namespace WindowsOnly

variable {s t u : State}

theorem refl (s : State) : WindowsOnly s s := ⟨rfl, rfl, fun _ _ _ => rfl⟩

theorem trans (h : WindowsOnly s t) (k : WindowsOnly t u) : WindowsOnly s u :=
  ⟨k.acq.trans h.acq, k.out.trans h.out, fun o hlo hhi => (k.sound o hlo hhi).trans (h.sound o hlo hhi)⟩

theorem setRg (s : State) {o : Nat} (w : Word) (ho : ¬ (SOUND_B ≤ o ∧ o < SOUND_B + 0x100)) : WindowsOnly s (s.setRg o w) :=
  ⟨rfl, rfl, fun p hlo hhi => State.rg_setRg_ne s o p w (by rintro rfl; exact ho ⟨hlo, hhi⟩)⟩

theorem foldl {α : Type} {f : State → α → State} {l : List α} (hf : ∀ s, ∀ x ∈ l, WindowsOnly s (f s x)) (s : State) :
    WindowsOnly s (l.foldl f s) :=
  List.foldlRecOn l f (motive := WindowsOnly s) (refl s) (fun u hu x hx => hu.trans (hf u x hx))

end WindowsOnly

/-- A window lies in the upper part of its block. -/
theorem not_sound_window {b k : Nat} (hk : k < 0x1000) : ¬ (SOUND_B ≤ snapBase b + k ∧ snapBase b + k < SOUND_B + 0x100) := by
  simp only [snapBase, SOUND_B]
  omega

theorem snapList_length : ∀ b ∈ snapBlocks, (snapList b).length ≤ 0x180 := by
  decide +kernel

theorem latchBlock_windows (s : State) (v : Nat → Word) {b : Nat} (hb : b ∈ snapBlocks) (seq t skew : Nat) :
    WindowsOnly s (s.latchBlock v b seq t skew) := by
  have hrow (s : State) (k : Nat) (w : Word) (hk : k < 0x1000) : WindowsOnly s (s.setRg (snapBase b + k) w) :=
    WindowsOnly.setRg s w (not_sound_window hk)
  have hon : WindowsOnly s (s.latchOn v b seq t skew) := by
    unfold State.latchOn
    refine WindowsOnly.trans ((hrow _ 0 _ (by decide)).trans ((hrow _ 4 _ (by decide)).trans ((hrow _ 8 _ (by decide)).trans
      (hrow _ 12 _ (by decide))))) (WindowsOnly.foldl (fun u e he => ?_) _)
    have hidx : e.2 < (snapList b).length := by
      have := List.snd_lt_of_mem_zipIdx he
      simpa using this
    have hlen := snapList_length b hb
    rw [Nat.add_assoc]
    exact hrow _ _ _ (by omega)
  unfold State.latchBlock
  cases snapDomain b with
  | none => exact hon
  | some c =>
    show WindowsOnly s (if s.powered c then _ else _)
    split
    · exact hon
    · exact hrow s 0 _ (by decide)

namespace State

variable {s : State}

/-- SOUND_SKEW of the clock domains. -/
def skewed (s : State) (skews : List Byte) : State :=
  [true, true, true, true, s.powered 5, true, s.powered 7, false].zipIdx.foldl
    (fun s e => s.setRg (SOUND_B + 0x100 + 4 * e.2) (skewWord e.1 (skewOf e.2 skews))) s

/-- SOUND_SKEW of the receivers. -/
def rxSkewed (s : State) (skews : List Byte) : State :=
  let rx (p : Nat) : Bool := if p < 16 then s.powered (if p < 8 then 3 else 4) else s.flag HELM_STAT (6 + (p - 16))
  (List.range 18).foldl (fun s p => s.setRg (SOUND_B + 0x140 + 4 * p) (skewWord (rx p) (skews.getD (8 + p) 0).toNat)) s

/-- The windows of the blocks, the axes and the threads. -/
def windowed (s : State) (skews : List Byte) (seq t : Nat) : State :=
  let v (o : Nat) : Word := s.value o
  let u := snapBlocks.foldl (fun s b => s.latchBlock v b seq t (skewOf (clockOf b) skews)) s
  let u := (List.range 256).foldl (fun s a => axSnap.zipIdx.foldl (fun s e => s.setRg (axReg a (0x80 + 4 * e.2)) (v (axReg a e.1))) s) u
  (List.range 1024).foldl (fun s k => s.setRg (CPU_B + 0x8000 + 4 * k) (v (thCfg (k / 4) + 0x20 + 4 * (k % 4)))) u

/-- Every domain has latched (R498). -/
def latched (s : State) (skews : List Byte) (seq t : Nat) : State := ((s.skewed skews).rxSkewed skews).windowed skews seq t

theorem skewed_windows (s : State) (skews : List Byte) : WindowsOnly s (s.skewed skews) := by
  refine WindowsOnly.foldl (fun u e _ => WindowsOnly.setRg u _ ?_) _
  simp only [SOUND_B]
  omega

theorem rxSkewed_windows (s : State) (skews : List Byte) : WindowsOnly s (s.rxSkewed skews) := by
  refine WindowsOnly.foldl (fun u p _ => WindowsOnly.setRg u _ ?_) _
  simp only [SOUND_B]
  omega

theorem windowed_windows (s : State) (skews : List Byte) (seq t : Nat) : WindowsOnly s (s.windowed skews seq t) := by
  refine WindowsOnly.trans (WindowsOnly.foldl (fun u b hb => latchBlock_windows u _ hb _ _ _) _) (WindowsOnly.trans
    (WindowsOnly.foldl (fun u a ha => WindowsOnly.foldl (fun u e he => WindowsOnly.setRg u _ ?_) _) _)
    (WindowsOnly.foldl (fun u k hk => WindowsOnly.setRg u _ ?_) _))
  · have hplace := List.snd_lt_of_mem_zipIdx he
    have haxis := List.mem_range.1 ha
    have hlen : axSnap.length = 8 := rfl
    simp only [axReg, AXIS_B, SOUND_B]
    omega
  · simp only [CPU_B, SOUND_B]
    omega

theorem latched_windows (s : State) (skews : List Byte) (seq t : Nat) : WindowsOnly s (s.latched skews seq t) :=
  (s.skewed_windows skews).trans ((rxSkewed_windows _ _).trans (windowed_windows _ _ _ _))

/-- The sounding's number advances. -/
def counted (s : State) (x : Sounding) : State :=
  { s with ntime := max s.ntime x.t }.setRg (SOUND_B + 0x10) (ofNat (((s.rg (SOUND_B + 0x10)).toNat + 1) % 2 ^ 32))

/-- The sounding is no longer pending. -/
def unpended (s : State) : State := { s with acq := { s.acq with sound := none } }.setFld SOUND_STAT 2 0 0

/-- The state in which the latch has happened and event 200 is raised. -/
def sounded (s : State) (x : Sounding) (skews : List Byte) : State :=
  ((s.counted x).latched skews (((s.rg (SOUND_B + 0x10)).toNat + 1) % 2 ^ 32) x.t).unpended

theorem tearDumps_of_none (hnone : s.acq.dumps = []) : s.tearDumps = s := by
  unfold tearDumps
  rw [hnone, List.foldl_nil, ← hnone]

theorem rg_unpended (u : State) {o : Nat} (hne : o ≠ SOUND_STAT) : u.unpended.rg o = u.rg o := rg_setFld_ne _ _ _ _ _ _ hne

/-- The low registers of SOUNDING after the latch, but for SOUND_STAT, are those of the count. -/
theorem rg_sounded (x : Sounding) (l : List Byte) {o : Nat} (hlo : SOUND_B ≤ o) (hhi : o < SOUND_B + 0x100) (hne : o ≠ SOUND_STAT) :
    (s.sounded x l).rg o = (s.counted x).rg o :=
  (rg_unpended _ hne).trans ((latched_windows (s.counted x) l (((s.rg (SOUND_B + 0x10)).toNat + 1) % 2 ^ 32) x.t).sound o hlo hhi)

theorem rg_counted_ne (x : Sounding) {o : Nat} (hne : o ≠ SOUND_B + 0x10) : (s.counted x).rg o = s.rg o := rg_setRg_ne _ _ _ _ hne

theorem flag_sounded_cfg (x : Sounding) (l : List Byte) : (s.sounded x l).flag SOUND_CFG 1 = s.flag SOUND_CFG 1 := by
  have hrg : (s.sounded x l).rg SOUND_CFG = s.rg SOUND_CFG :=
    (rg_sounded x l (by decide) (by decide) (by decide)).trans (rg_counted_ne x (by decide))
  unfold flag
  rw [hrg]

/-- What follows the latch of a sounding: marks in the streams, event 200, the completion. -/
def soundEnd (u : State) (x : Sounding) (seq : Nat) : State :=
  let s := if u.flag SOUND_CFG 1 then (List.range 8).foldl (fun s n =>
      if 2 ≤ (s.log n).st then s.logMark n s.cycle { time := x.t, code := 0x20, arg := seq } else s) u
    else u
  let s := s.raise 200 0
  match x.cmd with
  | some (src, d) => s.complete src 0x55 d .ok
  | none => s

theorem soundEnd_of_own {u : State} {x : Sounding} {seq : Nat} (hmarks : u.flag SOUND_CFG 1 = false) (hown : x.cmd = none) :
    u.soundEnd x seq = u.raise 200 0 := by
  simp only [soundEnd, hown, hmarks, Bool.false_eq_true, if_false]

/-- The latch, once the dumps are torn. -/
def latchAt (s : State) (l : List Byte) (x : Sounding) : State :=
  let seq := ((s.rg (SOUND_B + 0x10)).toNat + 1) % 2 ^ 32
  (((s.setRg (SOUND_B + 0x10) (ofNat seq)).latched l seq x.t).unpended).soundEnd x seq

theorem soundLatch_of_pending {l : List Byte} {x : Sounding} (hpend : s.acq.sound = some x) :
    s.soundLatch l = if s.bnd + s.tCyc ≤ x.t then s else { s with ntime := max s.ntime x.t }.tearDumps.latchAt l x := by
  delta soundLatch latchAt latched skewed rxSkewed windowed unpended soundEnd
  rw [hpend] <;> with_reducible_and_instances rfl

theorem soundLatch_of_due {l : List Byte} {x : Sounding} (hpend : s.acq.sound = some x) (hdue : x.t < s.bnd + s.tCyc)
    (hdumps : s.acq.dumps = []) : s.soundLatch l = (s.sounded x l).soundEnd x (((s.rg (SOUND_B + 0x10)).toNat + 1) % 2 ^ 32) := by
  have htear : { s with ntime := max s.ntime x.t }.tearDumps = { s with ntime := max s.ntime x.t } := tearDumps_of_none hdumps
  refine (soundLatch_of_pending hpend).trans ((if_neg (Nat.not_le.2 hdue)).trans ?_)
  rw [htear]
  rfl

theorem unpended_sound (u : State) : u.unpended.acq.sound = none := rfl
theorem unpended_log (u : State) : u.unpended.acq.log = u.acq.log := rfl
theorem unpended_out (u : State) : u.unpended.out = u.out := rfl
theorem unpended_stat (u : State) : u.unpended.fld SOUND_STAT 2 0 = 0 := fld_setFld_self _ _ _ _ _ (by decide) (by decide)

theorem ofNat_mod_word (n : Nat) : ofNat (n % 2 ^ 32) = ofNat n := BitVec.eq_of_toNat_eq (by simp [ofNat])

end State

/-- Settles O36: a stream's event acts when its cycle, its count or its pages allow it; the latch changes windows and counts itself. -/
theorem acquisitionEvents : Obligations.AcquisitionEvents := by
  refine ⟨fun s n hnone => congrArg _ (State.logSample_of_none hnone),
    fun s n x hone hsample hnew hopen => congrArg _ (State.logSample_of_open hone hsample hnew hopen),
    fun s n hrun hfired hmode hcount => congrArg _ (State.logRearm_of_count hrun hfired hmode hcount),
    fun s n harmed => congrArg _ (State.logRearm_of_armed harmed), fun s n hnone => congrArg _ (State.logResize_of_none hnone),
    fun s n ps hnext hdrained hrun hapart => congrArg _ (State.logResize_of_apart hnext hdrained hrun
      (fun k hk hkn => hapart ⟨k, hk⟩ (fun he => hkn (congrArg Fin.val he)))),
    fun s l hnone => ?_, fun s l x hpend hdue hown hdumps hmarks => ?_⟩
  · refine congrArg Host.Outcome.next ?_
    simp only [State.soundLatch, hnone]
  · have hlatched := State.latched_windows (s.counted x) l (((s.rg (SOUND_B + 0x10)).toNat + 1) % 2 ^ 32) x.t
    have hcfg := (State.flag_sounded_cfg x l).trans hmarks
    have hlatch := (State.soundLatch_of_due (l := l) hpend hdue hdumps).trans (State.soundEnd_of_own hcfg hown)
    refine ⟨_, congrArg _ hlatch, State.unpended_sound _, ?_, State.unpended_stat _,
      (State.unpended_out _).trans hlatched.out, (State.unpended_log _).trans (congrArg AcqSt.log hlatched.acq)⟩
    exact (State.rg_sounded x l (by decide) (by decide) (by decide)).trans
      ((State.rg_setRg_self _ _ _).trans (State.ofNat_mod_word _))

end Sys2Proof.Machine

/-! Planning commands (R69, R192 to R196, R204): PREPARE, COMMIT, ABORT and REPORT. -/

namespace Sys2Proof.Machine

open Sys2Proof

namespace State

variable {s : State} {src : Src} {d : Desc}

/-- PREPARE in a state of the migration that allows it (R194). -/
theorem planPrepare_of_free (hidle : s.planState = 0 ∨ s.planState = 3) (hpd : s.boot.pdJobs.any (fun j => j.2.tgt ≤ 1) = false) (m : Nat) :
    s.planPrepare src d m = { s with pilot := { s.pilot with autoCommit := false } }.startPrepare (some (src, d)) m := by
  have hfree : (decide (s.planState = 1) || decide (s.planState = 2) || decide (s.planState = 4)) = false := by
    rcases hidle with h | h <;> rw [h] <;> rfl
  simp only [planPrepare, hfree, hpd, Bool.or_self, Bool.false_eq_true, if_false]

/-- A PREPARE uses every PLAN value that is staged, those of a discarded plan among them (R69). -/
theorem startPrepare_planValues (cmd : Option (Src × Desc)) {m : Nat} (hall : ∀ x ∈ s.host.planUsed ++ s.host.plan, x.seq < m) :
    (s.startPrepare cmd m).host.planUsed = s.host.planUsed ++ s.host.plan ∧ (s.startPrepare cmd m).host.plan = [] := by
  have huse (l : List Staged) (hl : ∀ x ∈ l, x.seq < m) :
      l.filter (fun x => decide (x.seq < m)) = l ∧ l.filter (fun x => decide (m ≤ x.seq)) = [] :=
    ⟨List.filter_eq_self.2 fun x hx => decide_eq_true (hl x hx),
      List.filter_eq_nil_iff.2 fun x hx => by simpa using hl x hx⟩
  unfold startPrepare
  by_cases hthree : s.planState = 3
  · obtain ⟨hin, hout⟩ := huse _ hall
    rw [if_pos hthree]
    exact ⟨hin, hout⟩
  · obtain ⟨hin, hout⟩ := huse s.host.plan fun x hx => hall x (List.mem_append_right _ hx)
    rw [if_neg hthree]
    exact ⟨congrArg (s.host.planUsed ++ ·) hin, hout⟩

theorem startPrepare_frame (cmd : Option (Src × Desc)) (m : Nat) :
    (s.startPrepare cmd m).host.cyc = s.host.cyc ∧ (s.startPrepare cmd m).out = s.out := by
  unfold startPrepare
  by_cases hthree : s.planState = 3
  · rw [if_pos hthree]
    exact ⟨rfl, rfl⟩
  · rw [if_neg hthree]
    exact ⟨rfl, rfl⟩

theorem execPlanPrepare_of_accepts (hacc : s.accepts src 0x20 d) : execPlanPrepare src d s = .next (s.planPrepare src d s.host.planSeq) := by
  refine congrArg Host.Outcome.next ((cmd_of_precheck_none hacc.1).trans ?_)
  simp only [hacc.2, Bool.false_and, Bool.false_eq_true, if_false]

theorem planPrepare_of_busy (hbusy : s.planState = 1 ∨ s.planState = 2 ∨ s.planState = 4) (m : Nat) :
    s.planPrepare src d m = s.complete src 0x20 d .busy := by
  refine if_pos ?_
  rcases hbusy with h | h | h <;> simp [h]

/-- COMMIT of the prepared plan at a cycle that R196 and R148 allow. -/
theorem planCommit_of_prepared {p : Plan} (hprep : s.planState = 3) (hnamed : d.atCycle = true) (hlead : 16 ≤ (d.op5 - s.cycle).toNat)
    (hhalf : (d.op5 - s.cycle).toNat < 2 ^ 31) (hnew : s.pilot.new = some p) (hid : d.op0.toNat = p.id) (hrate : s.rateOk d.op5 p.rate = true) :
    s.planCommit src d = s.announce d.op5 (some (src, d)) := by
  have hfuture : isFuture d.op5 s.cycle = true := by
    rw [← Bool.not_eq_false, isFuture_eq_false_iff]
    omega
  simp only [planCommit, hprep, hnamed, hfuture, hnew, hid, hlead, hrate, Nat.reduceEqDiff, decide_false, decide_true, Bool.or_self, Bool.and_self,
    Bool.not_true, Bool.false_eq_true, if_false, if_true]

theorem announce_of_new {p : Plan} (hnew : s.pilot.new = some p) (n : BitVec 32) (cmd : Option (Src × Desc)) :
    s.announce n cmd = (({ s.cartUnbind p with pilot := { (s.cartUnbind p).pilot with
      commitAt := n, commitCmd := cmd, switched := false, markerSent := false } }.setPlanState 4).setRg (PILOT_B + 0x20) n).emit
        (.chain 4 [3, n.toNat]) := by
  simp only [announce, hnew]

theorem planCommit_of_past (hprep : s.planState = 3) (hnamed : d.atCycle = true) (hpast : isFuture d.op5 s.cycle = false) :
    s.planCommit src d = s.complete src 0x21 d .cyclePast := by
  simp only [planCommit, hprep, hnamed, hpast, Nat.reduceEqDiff, decide_false, Bool.or_self, Bool.not_true, Bool.not_false, Bool.false_eq_true,
    if_false, if_true]

/-- ABORT of the prepared plan (R195). -/
theorem planAbort_of_prepared {p : Plan} (hprep : s.planState = 3) (hnew : s.pilot.new = some p) (hid : d.op0.toNat = p.id) (hne : p.id ≠ 0) :
    s.planAbort src d = ({ (s.setFld PILOT_STAT 15 8 0).returnPlanValues with
      pilot := { s.pilot with new := none, loaded := none } }.planIdle).complete src 0x22 d .ok := by
  have hid' : (p.id != 0) = true := bne_iff_ne.2 hne
  simp only [planAbort, hprep, hnew, hid, hid', Option.map_some, Option.getD_some, Nat.reduceEqDiff, if_false, decide_true, Bool.and_self, if_true]
  rfl

/-- ABORT of a preparation in progress: it ends at its next step. -/
theorem planAbort_of_preparing (hrun : s.planState = 1 ∨ s.planState = 2) (hop : d.op0 = 0) :
    s.planAbort src d = { s with pilot := { s.pilot with stop := true, stopReq := s.pilot.stopReq ++ [(src, d)] } } := by
  have hfour : s.planState ≠ 4 := by omega
  have hthree : s.planState ≠ 3 := by omega
  have hstep : (decide (s.planState = 1) || decide (s.planState = 2)) = true := by simpa using hrun
  simp only [planAbort, hfour, hthree, hstep, hop, if_false, decide_false, Bool.false_and, Bool.false_eq_true, Bool.true_and]
  exact if_pos rfl

end State

/-- Settles O21: what each planning command does follows from the migration's state in PILOT_STAT. -/
theorem planCommands : Obligations.PlanCommands := by
  refine ⟨fun s src d hacc hidle hpd hall => ?_,
    fun s src d hacc hbusy => (State.execPlanPrepare_of_accepts hacc).trans (congrArg _ (State.planPrepare_of_busy hbusy _)),
    fun s src d p hpre hprep hnamed hlead hhalf hnew hid hrate => congrArg _ ((State.cmd_of_precheck_none hpre).trans
      ((State.planCommit_of_prepared hprep hnamed hlead hhalf hnew hid hrate).trans (State.announce_of_new hnew _ _))),
    fun s src d hpre hprep hnamed hpast =>
      congrArg _ ((State.cmd_of_precheck_none hpre).trans (State.planCommit_of_past hprep hnamed hpast)),
    fun s src d p hacc hprep hnew hid hne =>
      congrArg _ ((State.cmd_soon_of_accepts hacc).trans (State.planAbort_of_prepared hprep hnew hid hne)),
    fun s src d hacc hrun hop => congrArg _ ((State.cmd_soon_of_accepts hacc).trans (State.planAbort_of_preparing hrun hop)),
    fun s src d p hacc hplace => ?_, fun s src d hacc hplace => ?_⟩
  · obtain ⟨hused, hstaged⟩ := State.startPrepare_planValues (s := { s with pilot := { s.pilot with autoCommit := false } }) (some (src, d)) hall
    obtain ⟨hcyc, hout⟩ := State.startPrepare_frame (s := { s with pilot := { s.pilot with autoCommit := false } }) (some (src, d)) s.host.planSeq
    have hpilot := State.startPrepare_pilot { s with pilot := { s.pilot with autoCommit := false } } (some (src, d)) s.host.planSeq
    exact ⟨_, (State.execPlanPrepare_of_accepts hacc).trans (congrArg _ (State.planPrepare_of_free hidle hpd _)),
      State.planState_startPrepare _ _ _, hused, hstaged, congrArg PilotSt.cmd hpilot, congrArg PilotSt.snapWait hpilot,
      congrArg PilotSt.new hpilot, (congrArg PilotSt.act hpilot).trans rfl, hcyc, hout⟩
  · refine congrArg _ ((State.cmd_soon_of_accepts hacc).trans ?_)
    simp only [State.planReport, hplace]
  · refine congrArg _ ((State.cmd_soon_of_accepts hacc).trans ?_)
    simp only [State.planReport, hplace]

end Sys2Proof.Machine

/-! What the standby takes from CHAIN (R567, R571). -/

namespace Sys2Proof.Machine

open Sys2Proof

/-- A standby that follows its partner, both lanes of CHAIN up, in SHADOW, and has been told of a COMMIT for cycle 8. -/
def toldStandby : State := { State.reset.setRg HELM_STAT 0x2C0 with pilot := { chainAt := some 8 } }

theorem toldStandby_follows : toldStandby.follows = true := by decide +kernel

/-- The boundary record of cycle 0, whose SAIL frame carried the marker. -/
theorem toldStandby_boundary : exec (.boundaryRecordReceive 0 0 [] [] []) toldStandby = .next (toldStandby.rxBoundary 0 0 [] []) := rfl

theorem toldStandby_marker : (toldStandby.rxBoundary 0 0 [] []).pilot.markerSent = true := by decide +kernel

/-- Refutes O46: the boundary record of cycle N − 8 also sets the mark that the COMMIT marker has been sent, which the first clause
excludes. -/
theorem not_standbyFollows : ¬ Obligations.StandbyFollows := by
  unfold Obligations.StandbyFollows
  intro h
  have hnext := toldStandby_boundary.symm.trans (h.1 toldStandby 0 0 [] [] [] toldStandby_follows)
  have hstate := Host.Outcome.next.inj hnext
  exact absurd ((congrArg (fun s : State => s.pilot.markerSent) hstate).symm.trans toldStandby_marker) (by decide)

end Sys2Proof.Machine

/-! What events, records and completions cannot touch, whatever the state. -/

namespace Sys2Proof.Machine

open Sys2Proof

/-- A property blind to all that events and completions touch: the dispatcher's lists, the registers of HOST, EVT and CPU and above,
the host side, the pending lines and the outputs. -/
structure Blind (P : State → Prop) : Prop where
  cpu : ∀ (u : State) ready readyAt waits sem mbx, P u →
    P { u with cpu := { u.cpu with ready := ready, readyAt := readyAt, waits := waits, sem := sem, mbx := mbx } }
  reg : ∀ (u : State) (o : Nat) (w : Word), 0x10000 ≤ o → P u → P (u.setRg o w)
  host : ∀ (u : State) (h : HostSt), P u → P { u with host := h }
  evt : ∀ (u : State) (e : EvtSt), P u → P { u with evt := e }
  emit : ∀ (u : State) (e : Emit), P u → P (u.emit e)

namespace Blind

variable {P : State → Prop} (h : Blind P) {s : State}

include h

theorem setRingX (hs : P s) (r : Nat) (x : RingX) : P (s.setRingX r x) := h.host _ _ hs

theorem tokenEdge (hs : P s) (ev : Option Nat) : P (s.tokenEdge ev) := by
  have hthread (u : State) (t k : Nat) (w : Word) (hu : P u) : P (u.setRg (thCfg t + k) w) :=
    h.reg _ _ _ (by simp only [thCfg, CPU_B]; omega) hu
  have hfinish (u : State) (w : Wait) (hu : P u) : P (u.finishWait w) := by
    have hdone (v : Nat) : P ((u.setFld (thCfg w.thread + 0x10) 3 0 v).incFld (thCfg w.thread + 0x28) 31 0 1) :=
      hthread _ _ 0x28 _ (hthread _ _ 0x10 _ hu)
    unfold State.finishWait
    exact iteInduction (fun _ => hthread _ _ 0x2C _ (hdone _)) (fun _ => hdone _)
  have hready (u : State) (t : Nat) (hu : P u) : P (u.makeReady t false) := by
    unfold State.makeReady
    exact iteInduction (fun _ => h.cpu _ _ _ _ _ _ hu) (fun _ => hu)
  unfold State.tokenEdge
  refine List.foldlRecOn _ _ ?_ (fun u hu w _ => hready _ _ (hfinish u w hu))
  exact List.foldlRecOn _ _ (h.cpu _ _ _ _ _ _ hs) (fun u hu m _ => hthread u m.1 0x14 _ hu)

theorem sendMsix (hs : P s) (v : Nat) : P (s.sendMsix v) := by
  unfold State.sendMsix
  exact iteInduction (fun _ => h.host _ _ hs) (fun _ => h.emit _ _ hs)

theorem noteEvent (hs : P s) (src : Nat) : P (s.noteEvent src) := by
  unfold State.noteEvent
  exact h.evt _ _ (h.reg _ _ _ (by simp only [EVT_B]; omega) hs)

theorem routeEvent (hs : P s) (src : Nat) : P (s.routeEvent src) := by
  have hmsg : P (if bit (s.rg (evtRoute src)) 6 then (s.noteEvent src).sendMsix (bits (s.rg (evtRoute src)) 5 0) else s.noteEvent src) :=
    iteInduction (fun _ => h.sendMsix (h.noteEvent hs src) _) (fun _ => h.noteEvent hs src)
  rw [State.routeEvent_eq]
  exact iteInduction (fun _ => h.tokenEdge hmsg _) (fun _ => hmsg)

theorem append (hs : P s) (r : Nat) (recd : List Byte) : P (s.append r recd) :=
  h.emit _ _ (h.reg _ _ _ (by simp only [rStat, rBase, HOST_B]; omega) (h.reg _ _ _ (by simp only [rIdx, rBase, HOST_B]; omega) (h.emit _ _ hs)))

theorem countRing (hs : P s) (r : Nat) : P (s.countRing r).1 := h.setRingX hs _ _

theorem setStat (hs : P s) (r n : Nat) : P (s.setFlag (rStat r) n) := h.reg _ _ _ (by simp only [rStat, rBase, HOST_B]; omega) hs

theorem ringEventBare (hs : P s) (r : Nat) : P (s.ringEventBare r) := by
  unfold State.ringEventBare
  exact iteInduction (fun _ => hs) (fun _ => h.routeEvent (h.setRingX hs _ _) _)

theorem ringFlagBare (hs : P s) (r n : Nat) : P (s.ringFlagBare r n) := by
  unfold State.ringFlagBare
  exact iteInduction (fun _ => hs) (fun _ => h.ringEventBare (h.setStat hs _ _) _)

theorem eventRecord (hs : P s) (src arg : Nat) : P (s.eventRecord src arg) := by
  have hrec (recd : List Byte) (e : EvtSt) : P (({ s.append 26 recd with evt := e } : State).countRing 26).1 :=
    h.countRing (h.evt _ e (h.append hs 26 recd)) 26
  have hlost (e : EvtSt) : P ((({ s with evt := e } : State).setFlag EVT_B 1).incFld (rStat 26) 31 16 1) :=
    h.reg _ _ _ (by decide) (h.reg _ _ _ (by decide) (h.evt _ e hs))
  unfold State.eventRecord
  exact iteInduction (fun _ => iteInduction (fun _ => h.ringEventBare (hrec _ _) 26) (fun _ => hrec _ _))
    (fun _ => h.ringFlagBare (hlost _) 26 5)

theorem raise (hs : P s) (src arg : Nat) : P (s.raise src arg) := by
  unfold State.raise
  exact iteInduction (fun _ => h.eventRecord (h.routeEvent hs _) _ _) (fun _ => h.routeEvent hs _)

theorem ringEvent (hs : P s) (r : Nat) : P (s.ringEvent r) := by
  unfold State.ringEvent
  exact iteInduction (fun _ => hs) (fun _ => h.raise (h.setRingX hs _ _) _ _)

theorem ringFlag (hs : P s) (r n : Nat) : P (s.ringFlag r n) := by
  unfold State.ringFlag
  exact iteInduction (fun _ => hs) (fun _ => h.ringEvent (h.setStat hs _ _) _)

theorem pushRing (hs : P s) (r : Nat) (recd : List Byte) : P (s.pushRing r recd) := by
  have hrec := h.countRing (h.append hs r recd) r
  unfold State.pushRing
  exact iteInduction (fun _ => h.ringEvent hrec r) (fun _ => hrec)

theorem loseRing (hs : P s) (r : Nat) : P (s.loseRing r) :=
  h.ringFlag (h.reg _ _ _ (by simp only [rStat, rBase, HOST_B]; omega) hs) r 5

theorem flagEvent (hs : P s) {off : Nat} (hoff : 0x10000 ≤ off) (n src arg : Nat) : P (s.flagEvent off n src arg) := by
  unfold State.flagEvent
  exact iteInduction (fun _ => hs) (fun _ => h.raise (h.reg _ _ _ hoff hs) _ _)

theorem complete (hs : P s) (src : Src) (opc : Nat) (d : Desc) (st : St) (lo hi : Nat) : P (s.complete src opc d st lo hi) := by
  have hrel : P (s.release src opc d) := h.host _ _ hs
  cases src with
  | ring r =>
    unfold State.complete
    refine iteInduction (fun _ => h.host _ _ hrel) (fun _ => iteInduction (fun _ => ?_) (fun _ => hrel))
    have hrec := h.countRing (h.append hrel (s.slotOf (.ring r) opc d) (complBytes d.tag opc st r.val lo hi)) (s.slotOf (.ring r) opc d)
    exact iteInduction (fun _ => h.ringEvent hrec _) (fun _ => hrec)
  | port n =>
    have hport (u : State) (k : Nat) (w : Word) (hu : P u) : P (u.setRg (cPort n.val + k) w) :=
      h.reg _ _ _ (by simp only [cPort, CPU_B]; omega) hu
    unfold State.complete
    exact h.raise (hport _ 0x30 _ (hport _ 0x30 _ (hport _ 0x2C _ (hport _ 0x28 _ (hport _ 0x24 _ (hport _ 0x20 _ hrel)))))) _ _

end Blind

end Sys2Proof.Machine

/-! The plan in force: what events, completions, slot writes, cartridges and streams leave of it (R197). -/

namespace Sys2Proof.Machine

open Sys2Proof

namespace State

variable (s : State)

/-- A state reached by a fold keeps what each step keeps. -/
theorem pilot_foldl {α : Type} {f : State → α → State} (hf : ∀ s x, (f s x).pilot = s.pilot) (l : List α) : (l.foldl f s).pilot = s.pilot :=
  List.foldlRecOn l f (motive := fun u => u.pilot = s.pilot) rfl (fun u hu x _ => (hf u x).trans hu)

theorem pilot_ite {c : Prop} [Decidable c] {t u r : State} (ht : t.pilot = r.pilot) (hu : u.pilot = r.pilot) :
    (if c then t else u).pilot = r.pilot := by
  split <;> assumption

/-! ### Events and completions -/

theorem blind_pilot (x : PilotSt) : Blind fun u => u.pilot = x :=
  ⟨fun _ _ _ _ _ _ hu => hu, fun _ _ _ _ hu => hu, fun _ _ hu => hu, fun _ _ hu => hu, fun _ _ hu => hu⟩

@[simp] theorem pilot_raise (src arg : Nat) : (s.raise src arg).pilot = s.pilot := (blind_pilot _).raise rfl _ _

@[simp] theorem pilot_pushRing (r : Nat) (recd : List Byte) : (s.pushRing r recd).pilot = s.pilot := (blind_pilot _).pushRing rfl _ _

@[simp] theorem pilot_loseRing (r : Nat) : (s.loseRing r).pilot = s.pilot := (blind_pilot _).loseRing rfl _

@[simp] theorem pilot_flagEvent (off n src arg : Nat) : (s.flagEvent off n src arg).pilot = s.pilot := by
  unfold flagEvent
  exact pilot_ite rfl (pilot_raise _ _ _)

@[simp] theorem pilot_complete (src : Src) (opc : Nat) (d : Desc) (st : St) (lo hi : Nat) : (s.complete src opc d st lo hi).pilot = s.pilot :=
  (blind_pilot _).complete rfl _ _ _ _ _ _

/-! ### Slots and parameters -/

@[simp] theorem pilot_setXw (a o : Nat) (w : Word) : (s.setXw a o w).pilot = s.pilot := by
  unfold setXw
  split <;> rfl

@[simp] theorem pilot_setYw (a o : Nat) (w : Word) : (s.setYw a o w).pilot = s.pilot := by
  unfold setYw
  split <;> rfl

@[simp] theorem pilot_setXi (a o : Nat) (v : Int) : (s.setXi a o v).pilot = s.pilot := pilot_setXw _ _ _ _

@[simp] theorem pilot_putPar (a id : Nat) (w : Word) : (s.putPar a id w).pilot = s.pilot := by
  have hloc (r : ParRow) : (match r.loc with
      | .x o => s.setXw a o w
      | .y o => s.setYw a o w
      | .held => s.setAxis a { s.axis a with par := Tab.set r.defWord (s.axis a).par id w }).pilot = s.pilot := by
    split <;> simp
  unfold putPar
  split
  · rfl
  · rename_i r _
    exact pilot_ite (((pilot_setXi _ _ _ _).trans (pilot_setXi _ _ _ _)).trans (pilot_ite ((pilot_setXi _ _ _ _).trans (hloc r)) (hloc r)))
      (pilot_ite ((pilot_setXi _ _ _ _).trans (hloc r)) (hloc r))

@[simp] theorem pilot_setPar (a id : Nat) (w : Word) : (s.setPar a id w).pilot = s.pilot :=
  (pilot_putPar _ _ _ _).trans (pilot_ite rfl rfl)

@[simp] theorem pilot_applyWrite (x : Staged) : (s.applyWrite x).pilot = s.pilot := pilot_ite (pilot_setPar _ _ _ _) rfl

@[simp] theorem pilot_inSlot (a : Nat) (q : Option PlanAxis) {f : State → State} (hf : ∀ s, (f s).pilot = s.pilot) :
    (s.inSlot a q f).pilot = s.pilot := hf _

@[simp] theorem pilot_slotWrite (a k : Nat) (w : Word) : (s.slotWrite a k w).pilot = s.pilot :=
  pilot_ite (pilot_setPar _ _ _ _) (pilot_ite (pilot_setXw _ _ _ _) (pilot_ite (pilot_setYw _ _ _ _) (pilot_setXw _ _ _ _)))

@[simp] theorem pilot_copyWrite (a k : Nat) (w : Word) : (s.copyWrite a k w).pilot = s.pilot := by
  unfold copyWrite
  split
  · exact pilot_inSlot _ _ _ (fun s => pilot_ite (pilot_putPar _ _ _ _) (pilot_slotWrite _ _ _ _))
  · rfl

@[simp] theorem pilot_axWrite (a k : Nat) (w : Word) : (s.axWrite a k w).pilot = s.pilot :=
  pilot_ite (pilot_inSlot _ _ _ (fun s => pilot_slotWrite s _ _ _)) (pilot_ite rfl ((pilot_copyWrite _ _ _ _).trans (pilot_slotWrite _ _ _ _)))

@[simp] theorem pilot_writeSetp (a : Nat) : (s.writeSetp a).pilot = s.pilot := by
  unfold writeSetp
  split
  · refine pilot_ite ?_ rfl
    simp only [pilot_axWrite]
  · rfl

@[simp] theorem pilot_flushWrites (a : Nat) : (s.flushWrites a).pilot = s.pilot :=
  pilot_foldl _ (f := fun s (e : Nat × Word) => (s.slotWrite a e.1 e.2).copyWrite a e.1 e.2)
    (fun s e => (pilot_copyWrite (s.slotWrite a e.1 e.2) a e.1 e.2).trans (pilot_slotWrite s a e.1 e.2)) _

@[simp] theorem pilot_setSlot (a : Nat) (e : Nat × Word) : (s.setSlot a e).pilot = s.pilot := pilot_ite (pilot_setXw _ _ _ _) (pilot_setYw _ _ _ _)

@[simp] theorem pilot_clearF (a : Nat) : (s.clearF a).pilot = s.pilot := by
  unfold clearF
  split <;> simp

@[simp] theorem pilot_bringFlags (a : Nat) (q : Option PlanAxis) (m f : Word) : (s.bringFlags a q m f).pilot = s.pilot :=
  pilot_inSlot _ _ _ (fun _ => pilot_ite ((pilot_setXw _ _ _ _).trans (pilot_setXw _ _ _ _)) (pilot_setXw _ _ _ _))

@[simp] theorem pilot_parkAxis (a : Nat) (l : List (Nat × Word)) : (s.parkAxis a l).pilot = s.pilot :=
  pilot_foldl _ (fun s _ => pilot_setSlot s _ _) _

@[simp] theorem pilot_enterSlot (a : Nat) (old : Option (Nat × Nat)) (st : List (Nat × Word)) : (s.enterSlot a old st).pilot = s.pilot := by
  have hcopy : (if sameLane old (s.place a) || old.isNone then s else st.foldl (fun s e => s.setSlot a e) s).pilot = s.pilot :=
    pilot_ite rfl (pilot_foldl _ (fun s _ => pilot_setSlot s _ _) _)
  exact pilot_ite ((pilot_clearF _ _).trans hcopy) hcopy

@[simp] theorem pilot_moveAxis (a : Nat) : (s.moveAxis a).pilot = s.pilot :=
  pilot_ite ((pilot_enterSlot _ _ _ _).trans (pilot_bringFlags _ _ _ _ _)) ((pilot_parkAxis _ _ _).trans (pilot_flushWrites _ _))

/-- A migration, first part: the axes of the old plan stay where they are. -/
def stayIn (old : Plan) : State := old.axes.foldl (fun s p => s.setAxis p.axis { s.axis p.axis with stay := some p }) s

/-- One axis of the new plan enters its slot, unless the old plan had it. -/
def enterIfNew (old : Plan) (p : PlanAxis) : State :=
  if old.axes.any (fun q => q.axis == p.axis) then s else (s.hallStart p.axis).enterSlot p.axis none []

/-- One axis of the old plan moves, unless a pass of it is due. -/
def moveIfFree (was : State) (old : Plan) (p : PlanAxis) : State := if was.wakeDue (tCycle old.rate) p.axis then s else s.moveAxis p.axis

theorem pilot_stayIn (old : Plan) : (s.stayIn old).pilot = s.pilot :=
  pilot_foldl s (f := fun s (p : PlanAxis) => s.setAxis p.axis { s.axis p.axis with stay := some p }) (fun _ _ => rfl) old.axes

theorem pilot_hallStart (a : Nat) : (s.hallStart a).pilot = s.pilot := rfl

theorem pilot_enterIfNew (old : Plan) (p : PlanAxis) : (s.enterIfNew old p).pilot = s.pilot :=
  pilot_ite rfl ((pilot_enterSlot _ _ _ _).trans (pilot_hallStart s _))

theorem pilot_moveIfFree (was : State) (old : Plan) (p : PlanAxis) : (s.moveIfFree was old p).pilot = s.pilot :=
  pilot_ite rfl (pilot_moveAxis s _)

/-- The new plan is in force in the banks too. -/
theorem act_moveLanes (old new : Plan) : (s.moveLanes old new).pilot.act = new := by
  obtain ⟨u, was, hact, heq⟩ : ∃ u was : State, u.pilot.act = new ∧ s.moveLanes old new =
      old.axes.foldl (fun s p => s.moveIfFree was old p) (new.axes.foldl (fun s p => s.enterIfNew old p) (u.stayIn old)) := ⟨_, _, rfl, rfl⟩
  rw [heq, pilot_foldl _ (fun s p => pilot_moveIfFree s was old p), pilot_foldl _ (fun s p => pilot_enterIfNew s old p), pilot_stayIn, hact]

@[simp] theorem pilot_activatePlanRegs : s.activatePlanRegs.pilot = s.pilot := pilot_foldl _ (fun s _ => pilot_applyWrite s _) _

@[simp] theorem pilot_activatePlanPars : s.activatePlanPars.pilot = s.pilot := pilot_foldl _ (fun s _ => pilot_axWrite s _ _ _) _

/-! ### What follows a switch -/

@[simp] theorem pilot_xflag (a n : Nat) : (s.xflag a n).pilot = s.pilot :=
  pilot_ite (pilot_flagEvent _ _ _ _ _) (pilot_ite (pilot_raise _ _ _) rfl)

@[simp] theorem pilot_clearLearn (a : Nat) : (s.clearLearn a).pilot = s.pilot := by
  unfold clearLearn
  split
  · exact (pilot_xflag _ _ _).trans (pilot_clearF _ _)
  · rfl

@[simp] theorem pilot_setHealth (a h : Nat) : (s.setHealth a h).pilot = s.pilot := by
  unfold setHealth
  exact pilot_ite rfl (pilot_ite (pilot_raise _ _ _) (pilot_ite (pilot_raise _ _ _) rfl))

@[simp] theorem pilot_worsen (a h : Nat) : (s.worsen a h).pilot = s.pilot := pilot_ite (pilot_setHealth _ _ _) rfl

/-- The gates of a local axis close and its trip is reported, when its period does not fit the cycle. -/
def closeGates (n a : Nat) : State :=
  (((List.range 6).foldl (fun (s : State) k => s.emit (s.gatePin n k 0)) s).flagEvent (LOCAL_B + 0xC) 1 116 0).worsen a 2

theorem pilot_closeGates (n a : Nat) : (s.closeGates n a).pilot = s.pilot :=
  (pilot_worsen _ _ _).trans ((pilot_flagEvent _ _ _ _ _).trans (pilot_foldl s (f := fun s k => s.emit (s.gatePin n k 0)) (fun _ _ => rfl) _))

@[simp] theorem pilot_afterSwitch (old new : Plan) : (s.afterSwitch old new).pilot = s.pilot := by
  refine pilot_foldl s (fun s p => ?_) _
  have hone := pilot_axWrite s p.axis 0x1E (ofInt (divRnd ((p.lat : Int) * 2 ^ 24) (tCycle new.rate) + (p.div : Int) * 2 ^ 23))
  refine pilot_ite ?_ ?_
  · refine pilot_ite ((pilot_closeGates _ _ _).trans ?_) ?_ <;>
      exact (pilot_ite (r := s) hone ((pilot_clearLearn _ _).trans hone))
  · exact pilot_ite (r := s) hone ((pilot_clearLearn _ _).trans hone)

/-! ### Cartridges -/

@[simp] theorem pilot_wbEnded (a : Nat) (ok : Bool) : (s.wbEnded a ok).pilot = s.pilot := by
  unfold wbEnded
  refine (pilot_foldl _ (fun s _ => pilot_complete s _ _ _ _ _ _) _).trans ?_
  exact pilot_foldl _ (f := fun s (r : Nat × List Nat) => s.updNode r.1 (fun n => { n with ncmd := if bit (ofNat n.ncmd) 1 then n.ncmd else n.ncmd + 2 }))
    (fun _ _ => rfl) _

@[simp] theorem pilot_cartPush (a : Nat) (recd : List Byte) : (s.cartPush a recd).pilot = s.pilot :=
  pilot_ite (pilot_pushRing _ _ _) (pilot_ite (pilot_flagEvent _ _ _ _ _) (pilot_loseRing _ _))

@[simp] theorem pilot_cartRec (a kind st : Nat) : (s.cartRec a kind st).pilot = s.pilot := pilot_cartPush _ _ _

@[simp] theorem pilot_wbLost (a st : Nat) : (s.wbLost a st).pilot = s.pilot :=
  (pilot_wbEnded _ _ _).trans ((pilot_raise _ _ _).trans (pilot_cartRec _ _ _ _))

@[simp] theorem pilot_cartReply (j : CartJob) (st : St) (lo : Nat) : (s.cartReply j st lo).pilot = s.pilot := by
  unfold cartReply
  split <;> simp

@[simp] theorem pilot_cartAbort (a : Nat) : (s.cartAbort a).pilot = s.pilot :=
  pilot_foldl _ (fun s _ => pilot_ite (pilot_wbLost s _ _) (pilot_cartReply _ _ _ _)) _

@[simp] theorem pilot_derate (a : Nat) : (s.derate a).pilot = s.pilot := rfl

@[simp] theorem pilot_setClass (a c : Nat) (ev : Bool) : (s.setClass a c ev).pilot = s.pilot := pilot_ite (pilot_raise _ _ _) rfl

@[simp] theorem pilot_setCax (a : Nat) (x : CartAx) : (s.setCax a x).pilot = s.pilot := rfl

@[simp] theorem pilot_cartWord (a o : Nat) (w : Word) : (s.cartWord a o w).pilot = s.pilot := rfl

@[simp] theorem pilot_deriveLife (a : Nat) : (s.deriveLife a).pilot = s.pilot := by
  simp only [deriveLife, pilot_cartWord, pilot_setCax]
  exact pilot_ite rfl rfl

@[simp] theorem pilot_cartLoose (a c : Nat) : (s.cartLoose a c).pilot = s.pilot := by
  unfold cartLoose
  refine (pilot_deriveLife _ _).trans ((pilot_setClass _ _ _ _).trans ?_)
  split
  · exact pilot_ite (r := s) rfl (pilot_cartAbort _ _)
  · rfl

@[simp] theorem pilot_cartTx (a : Nat) : (s.cartTx a).pilot = s.pilot := pilot_ite rfl rfl

@[simp] theorem pilot_cartAsk (a step : Nat) (msg : List Byte) : (s.cartAsk a step msg).pilot = s.pilot := pilot_cartTx _ _

@[simp] theorem pilot_cartBegin (a : Nat) (j : CartJob) : (s.cartBegin a j).pilot = s.pilot := by
  unfold cartBegin
  split
  · rfl
  · split <;> refine (pilot_cartAsk _ _ _ _).trans ?_
    · exact pilot_setClass _ _ _ _
    all_goals rfl

@[simp] theorem pilot_cartNext (a f : Nat) : (s.cartNext a f).pilot = s.pilot := by
  induction f generalizing s with
  | zero => rfl
  | succ f ih =>
    unfold cartNext
    dsimp only
    split
    · split
      · exact (ih _).trans (pilot_ite (pilot_wbLost _ _ _) (pilot_cartReply _ _ _ _))
      · exact pilot_cartBegin _ _ _
    · rfl

@[simp] theorem pilot_cartEnqueue (a : Nat) (j : CartJob) : (s.cartEnqueue a j).pilot = s.pilot := pilot_ite rfl (pilot_cartNext _ _ _)

@[simp] theorem pilot_unAuth (a : Nat) : (s.unAuth a).pilot = s.pilot := pilot_ite (pilot_deriveLife _ _) rfl

@[simp] theorem pilot_tagPresence (a : Nat) (on : Bool) : (s.tagPresence a on).pilot = s.pilot := by
  refine pilot_ite rfl (pilot_ite (pilot_ite (pilot_cartEnqueue _ _ _) rfl) ?_)
  exact (pilot_cartRec _ _ _ _).trans ((pilot_setClass _ _ _ _).trans ((pilot_unAuth _ _).trans (pilot_cartAbort _ _)))

@[simp] theorem pilot_cartSwitch (old new : Plan) : (s.cartSwitch old new).pilot = s.pilot := by
  unfold cartSwitch
  refine (pilot_foldl _ (fun s p => ?_) _).trans (pilot_foldl _ (fun s p => pilot_ite rfl (pilot_cartLoose s _ _)) _)
  dsimp only
  split
  · exact pilot_ite rfl (pilot_deriveLife _ _)
  · split
    · exact (pilot_tagPresence _ _ _).trans (pilot_cartLoose _ _ _)
    · exact pilot_cartLoose _ _ _

/-! ### Streams -/

@[simp] theorem pilot_logRegs (n : Nat) : (s.logRegs n).pilot = s.pilot := rfl

@[simp] theorem pilot_setLog (n : Nat) (l : LogSt) : (s.setLog n l).pilot = s.pilot := rfl

@[simp] theorem pilot_logMark (n : Nat) (c : BitVec 32) (m : LogMark) : (s.logMark n c m).pilot = s.pilot := pilot_ite rfl rfl

@[simp] theorem pilot_logBegin (n : Nat) : (s.logBegin n).pilot = s.pilot := by
  refine (pilot_foldl _ (fun s _ => pilot_complete s _ _ _ _ _ _) _).trans ?_
  simp only [pilot_logRegs, pilot_logMark, pilot_setLog]

/-- A stopped stream gives up pages that stream n receives. -/
def givePages (n : Nat) (ps : List Nat) (k : Nat) : State :=
  if k ≠ n && (s.log k).st = 0 && (s.log k).pages.any (fun p => ps.contains p) then (s.setLog k { s.log k with pages := [] }).logRegs k else s

theorem pilot_givePages (n : Nat) (ps : List Nat) (k : Nat) : (s.givePages n ps k).pilot = s.pilot :=
  pilot_ite (pilot_logRegs _ _) rfl

@[simp] theorem pilot_logResize (n : Nat) : (s.logResize n).pilot = s.pilot := by
  unfold logResize
  dsimp only
  split
  · rename_i ps _
    have hgive := pilot_foldl s (fun s k => pilot_givePages s n ps k) (List.range 8)
    refine pilot_ite (pilot_ite ((pilot_logBegin _ _).trans ?_) ((pilot_logRegs _ _).trans ?_)) rfl <;> rw [pilot_setLog] <;> exact hgive
  · rfl

@[simp] theorem pilot_acqSwitch (p : Plan) : (s.acqSwitch p).pilot = s.pilot := by
  unfold acqSwitch
  refine (pilot_foldl _ (fun s n => ?_) _).trans (pilot_foldl _ (fun s n => ?_) _)
  · exact pilot_ite ((pilot_logRegs _ _).trans (pilot_logResize _ _)) (pilot_logRegs _ _)
  · exact pilot_ite (pilot_ite rfl rfl) (pilot_ite rfl rfl)

/-- After a switch the plan switched to is in force (R197). -/
theorem act_switchTo (p : Plan) : (s.switchTo p).pilot.act = p := by
  have hset (u : State) : (p.axes.foldl (fun s q => s.writeSetp q.axis) u).pilot = u.pilot := pilot_foldl u (fun s _ => pilot_writeSetp s _) _
  simp only [switchTo, pilot_raise, pilot_acqSwitch, pilot_cartSwitch, pilot_afterSwitch, hset, pilot_activatePlanPars, act_moveLanes]

theorem helm_takeMigration : s.takeMigration.helm = s.helm := by
  unfold takeMigration
  split
  · split <;> rfl
  · rfl

end State

end Sys2Proof.Machine

/-! The helm interlock and how the helm is given up: O43, O44 (chapter 16). -/

namespace Sys2Proof.Machine

open Sys2Proof

/-! ### Registers of the block through an event -/

section
variable (s : State) {src o : Nat} (arg : Nat)

theorem State.rg_raise_ne (hsrc : src < 256) (hhost : o / 0x10000 ≠ 1) (hevt : o / 0x10000 ≠ 2) (hcpu : o / 0x10000 ≠ 0x12) :
    (s.raise src arg).rg o = s.rg o :=
  State.rg_raise s src arg o hsrc (by unfold hostSide; omega)

theorem State.flag_raise_ne (n : Nat) (hsrc : src < 256) (hhost : o / 0x10000 ≠ 1) (hevt : o / 0x10000 ≠ 2) (hcpu : o / 0x10000 ≠ 0x12) :
    (s.raise src arg).flag o n = s.flag o n :=
  congrArg (bit · n) (State.rg_raise_ne s arg hsrc hhost hevt hcpu)

theorem State.fld_raise_ne (hi lo : Nat) (hsrc : src < 256) (hhost : o / 0x10000 ≠ 1) (hevt : o / 0x10000 ≠ 2) (hcpu : o / 0x10000 ≠ 0x12) :
    (s.raise src arg).fld o hi lo = s.fld o hi lo :=
  congrArg (bits · hi lo) (State.rg_raise_ne s arg hsrc hhost hevt hcpu)

end

/-! ### The line driven (Table 16.1) -/

section
variable (s : State) (v : Nat) (on : Bool)

theorem State.helmState_driveHelm : (s.driveHelm on).helmState = s.helmState :=
  State.fld_putFlag_other _ _ _ _ _ (by decide) (by decide)

theorem State.line_driveHelm : (s.driveHelm on).flag HELM_STAT 3 = on := State.flag_putFlag_self _ _ _ _ (by decide)

theorem State.flag_driveHelm {n : Nat} (hn : n ≠ 3) : (s.driveHelm on).flag HELM_STAT n = s.flag HELM_STAT n :=
  State.flag_putFlag_other _ _ _ _ _ (by decide) hn

theorem State.rg_driveHelm {o : Nat} (ho : o ≠ HELM_STAT) : (s.driveHelm on).rg o = s.rg o := State.rg_putFlag_ne _ _ _ ho

theorem State.helmState_setHelm (hv : v < 8) : (s.setHelm v).helmState = v :=
  (State.fld_setFld_self s HELM_STAT 2 0 v (by decide) (by decide)).trans (Nat.mod_eq_of_lt hv)

theorem State.flag_setHelm {n : Nat} (hn : 2 < n) : (s.setHelm v).flag HELM_STAT n = s.flag HELM_STAT n :=
  State.flag_setFld_other _ _ _ _ _ _ (by decide) (by decide) (Or.inr hn)

theorem State.rg_setHelm {o : Nat} (ho : o ≠ HELM_STAT) : (s.setHelm v).rg o = s.rg o := State.rg_setFld_ne _ _ _ _ _ _ ho

/-- A transition that drives the line: the new state, the line as driven, and the partner's line as it was. -/
theorem State.driveHelm_setHelm (hv : v < 8) : ((s.setHelm v).driveHelm on).helmState = v ∧ ((s.setHelm v).driveHelm on).flag HELM_STAT 3 = on ∧
    ((s.setHelm v).driveHelm on).out = s.out ++ [.pin 2 (if s.roleA then 0 else 1) (b2n on)] ∧
    ((s.setHelm v).driveHelm on).peerOn = s.peerOn ∧ ((s.setHelm v).driveHelm on).host = s.host ∧ ((s.setHelm v).driveHelm on).helm = s.helm :=
  ⟨(State.helmState_driveHelm _ _).trans (s.helmState_setHelm v hv), State.line_driveHelm _ _, rfl,
    (State.flag_driveHelm _ _ (by decide)).trans (s.flag_setHelm v (by decide)), rfl, rfl⟩

end

/-! ### The transitions -/

section
variable {s : State} {st : Nat}

theorem State.helmClaimFrom_of_free (hst : s.helmState = st) (hel : s.eligible = true) (hpeer : s.peerOn = false) :
    s.helmClaimFrom st = (s.setHelm 1).driveHelm true := by
  simp only [State.helmClaimFrom, hst, hel, hpeer, decide_true, Bool.and_self, Bool.not_false, if_true]

theorem State.helmClaimFrom_of_barred (hbar : s.helmState ≠ st ∨ s.eligible = false ∨ s.peerOn = true) : s.helmClaimFrom st = s := by
  refine if_neg ?_
  rcases hbar with hst | hel | hpeer
  · simp only [hst, decide_false, Bool.false_and, Bool.false_eq_true, not_false_eq_true]
  · simp only [hel, Bool.and_false, Bool.false_and, Bool.false_eq_true, not_false_eq_true]
  · simp only [hpeer, Bool.not_true, Bool.and_false, Bool.false_eq_true, not_false_eq_true]

theorem State.helmTake_of_barred (hbar : s.helmState ≠ 1 ∨ s.flag HELM_STAT 3 = false ∨ s.peerOn = true) : s.helmTake = s := by
  refine if_neg ?_
  rcases hbar with hst | hline | hpeer
  · simp only [hst, decide_false, Bool.false_and, Bool.false_eq_true, not_false_eq_true]
  · simp only [hline, Bool.and_false, Bool.false_and, Bool.false_eq_true, not_false_eq_true]
  · simp only [hpeer, Bool.not_true, Bool.and_false, Bool.false_eq_true, not_false_eq_true]

/-- The helm is taken: HELM, and event 224. -/
def State.taken (s : State) : State := (s.setHelm 3).raise 224 0

theorem State.flag_taken {n : Nat} (hn : 2 < n) : s.taken.flag HELM_STAT n = s.flag HELM_STAT n :=
  (State.flag_helm_raise _ _ n (by decide) (by decide)).trans (s.flag_setHelm 3 hn)

theorem State.syncState_taken : s.taken.syncState = s.syncState :=
  (State.fld_raise_ne _ _ _ _ (by decide) (by decide) (by decide) (by decide)).trans
    (State.fld_setFld_other _ _ _ _ _ _ _ (by decide) (by decide) (by decide))

/-- A unit that had a partner goes on under the mirror plan (R565). -/
def State.goOn (s : State) : State :=
  let s := s.takeMigration
  let s := match s.helm.mirror with
    | some m => if s.pilot.act.id = m.id then s.setFld PILOT_STAT 7 0 m.id else s.switchTo m
    | none => s
  ({ s with helm := { s.helm with mirror := none } }.setFlag TIME_STAT 1).setRg (HELM_B + 0x14) 0

theorem State.helmTake_of_free (hst : s.helmState = 1) (hline : s.flag HELM_STAT 3 = true) (hpeer : s.peerOn = false) :
    s.helmTake = if s.flag HELM_STAT 5 = true ∧ s.syncState = 3 then s.taken.goOn else s.taken := by
  have hfree : (s.helmState = 1 && s.flag HELM_STAT 3 && !s.peerOn) = true := by
    simp only [hst, hline, hpeer, decide_true, Bool.and_self, Bool.not_false]
  refine (if_pos hfree).trans ?_
  have hhad := s.flag_taken (n := 5) (by decide)
  have hsync := s.syncState_taken
  by_cases hgo : s.flag HELM_STAT 5 = true ∧ s.syncState = 3
  · have hboth : (s.taken.flag HELM_STAT 5 && s.taken.syncState = 3) = true := by
      simp only [hhad, hsync, hgo.1, hgo.2, decide_true, Bool.and_self]
    exact (if_pos hboth).trans (if_pos hgo).symm
  · have hnot : ¬(s.taken.flag HELM_STAT 5 && s.taken.syncState = 3) = true := by
      simpa only [hhad, hsync, Bool.and_eq_true, decide_eq_true_eq] using hgo
    exact (if_neg hnot).trans (if_neg hgo).symm

theorem State.goOn_frame : s.goOn.flag TIME_STAT 1 = true ∧ s.goOn.rg (HELM_B + 0x14) = 0 ∧ s.goOn.helm.mirror = none :=
  ⟨(State.flag_setRg_ne _ _ _ (by decide)).trans (State.flag_setFlag_self _ _ _ (by decide)), State.rg_setRg_self _ _ _, rfl⟩

theorem State.act_goOn {m : Plan} (hmirror : s.helm.mirror = some m) : s.goOn.pilot.act.id = m.id := by
  have hmir : s.takeMigration.helm.mirror = some m := (congrArg HelmSt.mirror s.helm_takeMigration).trans hmirror
  simp only [State.goOn, hmir]
  by_cases hsame : s.takeMigration.pilot.act.id = m.id
  · rw [if_pos hsame]
    exact hsame
  · rw [if_neg hsame]
    exact congrArg Plan.id (s.takeMigration.act_switchTo m)

end

/-! ### A failed check (R573, R574) -/

section
variable (s : State) (code : Nat)

/-- A failed check is reported: HELM_DIAG and event 233. -/
def State.diagnosed : State := ((s.setFld (HELM_B + 0xC) 7 0 code).incFld (HELM_B + 0xC) 31 16 1).raise 233 code

theorem State.rg_diagnosed {o : Nat} (ho : o ≠ HELM_B + 0xC) (hhost : o / 0x10000 ≠ 1) (hevt : o / 0x10000 ≠ 2) (hcpu : o / 0x10000 ≠ 0x12) :
    (s.diagnosed code).rg o = s.rg o :=
  (State.rg_raise_ne _ _ (by decide) hhost hevt hcpu).trans ((State.rg_incFld_ne _ _ _ _ ho).trans (State.rg_setFld_ne _ _ _ _ _ _ ho))

theorem State.helmState_diagnosed : (s.diagnosed code).helmState = s.helmState :=
  congrArg (bits · 2 0) (s.rg_diagnosed code (by decide) (by decide) (by decide) (by decide))

theorem State.holder_diagnosed : (s.diagnosed code).holder = s.holder := congrArg (· == 3) (s.helmState_diagnosed code)

theorem State.helm_diagnosed : (s.diagnosed code).helm = s.helm := State.raise_helm _ _ _ (by decide)

theorem State.cycle_diagnosed : (s.diagnosed code).cycle = s.cycle := State.raise_cycle _ _ _ (by decide)

theorem State.partnerReady_diagnosed : (s.diagnosed code).partnerReady = s.partnerReady := by
  have hflag : (s.diagnosed code).flag HELM_STAT 11 = s.flag HELM_STAT 11 :=
    congrArg (bit · 11) (s.rg_diagnosed code (by decide) (by decide) (by decide) (by decide))
  rw [State.partnerReady, State.partnerReady, s.helm_diagnosed code, hflag]

theorem State.code_diagnosed (hcode : code < 256) : (s.diagnosed code).fld (HELM_B + 0xC) 7 0 = code :=
  calc (s.diagnosed code).fld (HELM_B + 0xC) 7 0
    _ = ((s.setFld (HELM_B + 0xC) 7 0 code).incFld (HELM_B + 0xC) 31 16 1).fld (HELM_B + 0xC) 7 0 :=
        State.fld_raise_ne _ _ _ _ (by decide) (by decide) (by decide) (by decide)
    _ = (s.setFld (HELM_B + 0xC) 7 0 code).fld (HELM_B + 0xC) 7 0 :=
        State.fld_setFld_other _ _ _ _ _ _ _ (by decide) (by decide) (by decide)
    _ = code := (State.fld_setFld_self _ _ _ _ _ (by decide) (by decide)).trans (Nat.mod_eq_of_lt hcode)

/-- The helm is given up now: state and line, the time's origin, and HELM_DIAG as it stands. -/
theorem State.giveUpNow_frame {st : Nat} (hst : st < 8) : (s.giveUpNow st).helmState = st ∧ (s.giveUpNow st).flag HELM_STAT 3 = false ∧
    (s.giveUpNow st).flag TIME_STAT 1 = false ∧ (s.giveUpNow st).fld (HELM_B + 0xC) 7 0 = s.fld (HELM_B + 0xC) 7 0 ∧
    (s.giveUpNow st).helm = s.helm := by
  obtain ⟨hstate, hline, -⟩ := s.driveHelm_setHelm st false hst
  refine ⟨?_, ?_, ?_, ?_, State.raise_helm _ _ _ (by decide)⟩
  · exact (State.helmState_raise _ _ (by decide)).trans ((congrArg (bits · 2 0) (State.rg_clrFlag_ne _ _ _ _ (by decide))).trans hstate)
  · exact (State.flag_helm_raise _ _ _ (by decide) (by decide)).trans ((State.flag_clrFlag_ne _ _ _ (by decide)).trans hline)
  · exact (State.flag_raise_ne _ _ _ (by decide) (by decide) (by decide) (by decide)).trans (State.flag_clrFlag_self _ _ _ (by decide))
  · exact (State.fld_raise_ne _ _ _ _ (by decide) (by decide) (by decide) (by decide)).trans ((State.fld_clrFlag_ne _ _ _ _ (by decide)).trans
      (congrArg (bits · 7 0) ((State.rg_driveHelm _ _ (by decide)).trans (State.rg_setHelm _ _ (by decide)))))

theorem State.diagFail_of_passive (hcode : code ≠ 0) (hholder : s.holder = false) : s.diagFail code = s.diagnosed code := by
  refine (if_neg hcode).trans (if_pos ?_)
  exact congrArg not ((s.holder_diagnosed code).trans hholder)

theorem State.diagFail_of_holder (hcode : code ≠ 0) (hholder : s.holder = true) : s.diagFail code =
    if code = 1 || code = 9 || code = 0xA then (s.diagnosed code).giveUpNow 4
    else if code = 2 then (s.diagnosed code).giveUpNow 4
    else if code = 0xB || s.partnerReady then
      { s.diagnosed code with helm := { s.helm with giveUp := some (s.cycle + 1, code) } }
    else s.diagnosed code := by
  refine (if_neg hcode).trans ((if_neg ?_).trans ?_)
  · exact fun h => absurd ((congrArg not ((s.holder_diagnosed code).trans hholder)).symm.trans h) Bool.false_ne_true
  · rw [← s.partnerReady_diagnosed code, ← s.helm_diagnosed code, ← s.cycle_diagnosed code]
    rfl

/-- A check that gates at once: the holder's state is GATED, and HELM_DIAG names the check. -/
theorem State.diagFail_gates (hcode : code = 1 ∨ code = 2 ∨ code = 9 ∨ code = 10) (hholder : s.holder = true) :
    (s.diagFail code).helmState = 4 ∧ (s.diagFail code).flag HELM_STAT 3 = false ∧ (s.diagFail code).flag TIME_STAT 1 = false ∧
    (s.diagFail code).fld (HELM_B + 0xC) 7 0 = code ∧ (s.diagFail code).helm = s.helm := by
  have hgive : s.diagFail code = (s.diagnosed code).giveUpNow 4 := by
    rw [s.diagFail_of_holder code (by omega) hholder]
    rcases hcode with rfl | rfl | rfl | rfl <;> rfl
  obtain ⟨hstate, hline, horigin, hdiag, hhelm⟩ := (s.diagnosed code).giveUpNow_frame (st := 4) (by decide)
  rw [hgive]
  exact ⟨hstate, hline, horigin, hdiag.trans (s.code_diagnosed code (by omega)), hhelm.trans (s.helm_diagnosed code)⟩

/-- A check that gives up at the next give-up instant when the partner is ready. -/
theorem State.diagFail_of_later (hcode : 3 ≤ code ∧ code ≤ 8) (hholder : s.holder = true) : s.diagFail code =
    if s.partnerReady = true then { s.diagnosed code with helm := { s.helm with giveUp := some (s.cycle + 1, code) } } else s.diagnosed code := by
  have hnow : (code = 1 || code = 9 || code = 0xA) = false := by
    simp only [Bool.or_eq_false_iff, decide_eq_false_iff_not]
    omega
  have hline : ¬code = 2 := by omega
  have hrole : (code = 0xB || s.partnerReady) = s.partnerReady := by
    rw [decide_eq_false (show ¬code = 0xB by omega), Bool.false_or]
  rw [s.diagFail_of_holder code (by omega) hholder, hnow, hrole, if_neg hline]
  rfl

end

/-! ### The partner's line (R563, R576) -/

section
variable {s : State} {level : Bool}

/-- The partner's line has changed: the pin's copy, and event 226. -/
def State.peerSeen (s : State) (level : Bool) : State := (s.putFlag HELM_STAT 4 level).raise 226 (b2n level)

theorem State.partnerHelm_of_same (hsame : s.peerOn = level) : s.partnerHelm level = s := by
  rw [State.partnerHelm, hsame, beq_self_eq_true, if_pos rfl]

theorem State.partnerHelm_rise (hoff : s.peerOn = false) : s.partnerHelm true =
    if s.helmState = 3 then ((s.peerSeen true).setFlag HELM_STAT 5).setFlag HELM_FLAGS 1 else (s.peerSeen true).setFlag HELM_STAT 5 := by
  have hstate : ((s.peerSeen true).setFlag HELM_STAT 5).helmState = s.helmState :=
    (State.fld_setFlag_other _ _ _ _ (by decide) (by decide)).trans ((State.helmState_raise _ _ (by decide)).trans
      (State.fld_putFlag_other _ _ _ _ _ (by decide) (by decide)))
  refine (if_neg ?_).trans ?_
  · rw [hoff]
    decide
  · rw [← hstate]
    rfl

theorem State.partnerHelm_fall (hon : s.peerOn = true) : s.partnerHelm false = (s.peerSeen false).dropRelays := by
  refine if_neg ?_
  rw [hon]
  decide

theorem State.helmState_peerSeen : (s.peerSeen level).helmState = s.helmState :=
  (State.helmState_raise _ _ (by decide)).trans (State.fld_putFlag_other _ _ _ _ _ (by decide) (by decide))

theorem State.peerOn_peerSeen : (s.peerSeen level).peerOn = level :=
  (State.flag_helm_raise _ _ _ (by decide) (by decide)).trans (State.flag_putFlag_self _ _ _ _ (by decide))

theorem State.contest_peerSeen : (s.peerSeen level).flag HELM_FLAGS 1 = s.flag HELM_FLAGS 1 :=
  (State.flag_helm_raise _ _ _ (by decide) (by decide)).trans (State.flag_putFlag_ne _ _ _ _ (by decide))

/-- The line rises: a partner has been seen, and a holder is contested. -/
theorem State.partnerHelm_rise_frame (hoff : s.peerOn = false) : (s.partnerHelm true).peerOn = true ∧ (s.partnerHelm true).flag HELM_STAT 5 = true ∧
    (s.partnerHelm true).helmState = s.helmState ∧ (s.partnerHelm true).flag HELM_FLAGS 1 = (s.flag HELM_FLAGS 1 || s.helmState == 3) := by
  have hpeer : ((s.peerSeen true).setFlag HELM_STAT 5).peerOn = true :=
    (State.flag_setFlag_other _ _ _ _ (by decide) (by decide)).trans State.peerOn_peerSeen
  have hhad : ((s.peerSeen true).setFlag HELM_STAT 5).flag HELM_STAT 5 = true := State.flag_setFlag_self _ _ _ (by decide)
  have hstate : ((s.peerSeen true).setFlag HELM_STAT 5).helmState = s.helmState :=
    (State.fld_setFlag_other _ _ _ _ (by decide) (by decide)).trans State.helmState_peerSeen
  rw [State.partnerHelm_rise hoff]
  by_cases hholds : s.helmState = 3
  · rw [if_pos hholds, hholds, beq_self_eq_true, Bool.or_true]
    exact ⟨(State.flag_setFlag_ne _ _ _ (by decide)).trans hpeer, (State.flag_setFlag_ne _ _ _ (by decide)).trans hhad,
      (State.fld_setFlag_ne _ _ _ _ (by decide)).trans (hstate.trans hholds), State.flag_setFlag_self _ _ _ (by decide)⟩
  · rw [if_neg hholds, beq_eq_false_iff_ne.2 hholds, Bool.or_false]
    exact ⟨hpeer, hhad, hstate, (State.flag_setFlag_ne _ _ _ (by decide)).trans State.contest_peerSeen⟩

end

theorem State.peerOn_setRelay (s : State) (b : Nat) (on : Bool) : (s.setRelay b on).peerOn = s.peerOn := by
  by_cases hsame : s.flag HELM_RELAY b = on
  · rw [State.setRelay_of_same hsame]
  · rw [State.setRelay_of_change hsame]
    exact (State.flag_helm_raise _ _ _ (by decide) (by decide)).trans (State.flag_putFlag_ne _ _ _ _ (by decide))

theorem State.peerOn_dropRelays (s : State) : s.dropRelays.peerOn = s.peerOn :=
  List.foldlRecOn _ _ (motive := fun u => State.peerOn u = s.peerOn) rfl (fun u hu b _ => (u.peerOn_setRelay b false).trans hu)

/-- Settles O43: each transition by its equation, and the line by the frame of `driveHelm`. -/
theorem helmInterlock : Obligations.HelmInterlock := by
  refine ⟨?_, ?_, ?_, ?_, ?_, ?_, ?_, ?_, ?_, ?_, ?_, ?_, ?_⟩
  · intro s hst hel hpeer
    obtain ⟨hstate, hline, hout, hpeer', hhost, hhelm⟩ := s.driveHelm_setHelm 1 true (by decide)
    exact ⟨_, congrArg Host.Outcome.next (State.helmClaimFrom_of_free hst hel hpeer), hstate, hline, hout, hpeer'.trans hpeer, hhost, hhelm⟩
  · intro s hbar
    exact congrArg Host.Outcome.next (State.helmClaimFrom_of_barred hbar)
  · intro s hst hpeer
    obtain ⟨hstate, hline, hout, hpeer', hhost, hhelm⟩ := s.driveHelm_setHelm 2 false (by decide)
    refine ⟨_, congrArg Host.Outcome.next (if_pos ?_), hstate, hline, hout, hpeer'.trans hpeer, hhost, hhelm⟩
    simp only [hst, hpeer, decide_true, Bool.and_self]
  · intro s hst hel hpeer
    obtain ⟨hstate, hline, hout, -⟩ := s.driveHelm_setHelm 1 true (by decide)
    exact ⟨_, congrArg Host.Outcome.next (State.helmClaimFrom_of_free hst hel hpeer), hstate, hline, hout⟩
  · intro s hst hpeer
    refine congrArg Host.Outcome.next (if_pos ?_)
    simp only [hst, hpeer, decide_true, Bool.and_self]
  · intro s hst hline hpeer hhad
    refine congrArg Host.Outcome.next ((State.helmTake_of_free hst hline hpeer).trans (if_neg ?_))
    rw [hhad]
    exact fun h => Bool.false_ne_true h.1
  · intro s hst hline hpeer hhad hsync
    obtain ⟨horigin, hrelay, hmirror⟩ := State.goOn_frame (s := s.taken)
    refine ⟨_, congrArg Host.Outcome.next ((State.helmTake_of_free hst hline hpeer).trans (if_pos ⟨hhad, hsync⟩)), horigin, hrelay, hmirror, ?_⟩
    intro m hm
    exact State.act_goOn ((congrArg HelmSt.mirror (State.raise_helm _ _ _ (by decide))).trans hm)
  · intro s hbar
    exact congrArg Host.Outcome.next (State.helmTake_of_barred hbar)
  · intro s hst
    have hholder : (s.clrFlag HELM_STAT 3).holder = true :=
      beq_iff_eq.2 ((State.fld_clrFlag_other _ _ _ _ (by decide) (by decide)).trans hst)
    obtain ⟨hstate, hline, horigin, hdiag, -⟩ := (s.clrFlag HELM_STAT 3).diagFail_gates 2 (by decide) hholder
    exact ⟨_, congrArg Host.Outcome.next (if_pos hst), hstate, hline, horigin, hdiag⟩
  · intro s hst
    exact congrArg Host.Outcome.next (if_neg hst)
  · intro s hoff
    exact ⟨_, rfl, State.partnerHelm_rise_frame hoff⟩
  · intro s hon
    have hframe := (State.foldl_setRelay_frame (List.range 16) (s.peerSeen false)).2
    refine ⟨_, congrArg Host.Outcome.next (State.partnerHelm_fall hon), (State.peerOn_dropRelays _).trans State.peerOn_peerSeen, ?_,
      hframe.trans State.helmState_peerSeen⟩
    intro b hb
    exact State.flag_dropRelays _ hb
  · intro s b hsame
    exact congrArg Host.Outcome.next (State.partnerHelm_of_same hsame)

end Sys2Proof.Machine

/-! Resets: O44's forced reset, and O47 (chapters 16 and 17). -/

namespace Sys2Proof.Machine

open Sys2Proof

/-! ### Pins a reset drives (Table 17.1, R103, R324) -/

/-- From `s` to `t` pins are driven: outputs are only added, and what a reset carries over stands. -/
structure Drives (s t : State) : Prop where
  pending : t.pending = s.pending
  free : t.free = s.free
  boot : t.boot = s.boot
  net : t.net = s.net
  safe : t.safe = s.safe
  rg : ∀ o, o ≠ HELM_STAT → t.rg o = s.rg o
  out : s.out <+: t.out

theorem Drives.refl (s : State) : Drives s s := ⟨rfl, rfl, rfl, rfl, rfl, fun _ _ => rfl, List.prefix_refl _⟩

theorem Drives.trans {s t u : State} (h : Drives s t) (k : Drives t u) : Drives s u :=
  ⟨k.pending.trans h.pending, k.free.trans h.free, k.boot.trans h.boot, k.net.trans h.net, k.safe.trans h.safe,
    fun o ho => (k.rg o ho).trans (h.rg o ho), h.out.trans k.out⟩

theorem Drives.emitted (s : State) (l : List Emit) : Drives s { s with out := s.out ++ l } :=
  ⟨rfl, rfl, rfl, rfl, rfl, fun _ _ => rfl, List.prefix_append _ _⟩

theorem Drives.ite {s t u : State} {c : Prop} [Decidable c] (ht : Drives s t) (hu : Drives s u) : Drives s (if c then t else u) := by
  split <;> assumption

section
variable (s : State)

theorem State.foldl_emit {α : Type} (f : α → Emit) (l : List α) : l.foldl (fun s x => s.emit (f x)) s = { s with out := s.out ++ l.map f } := by
  induction l generalizing s with
  | nil => simp only [List.foldl_nil, List.map_nil, List.append_nil]
  | cons x l ih =>
    rw [List.foldl_cons, ih]
    simp only [State.emit, List.map_cons, List.append_assoc, List.singleton_append]

theorem State.gatesAll_eq (v : Int) :
    s.gatesAll v = { s with out := s.out ++ (List.range 48).map (fun k => .pin 10 (k / 6 * 8 + k % 6) v) } := s.foldl_emit _ _

theorem State.portsOff_eq (l : List Nat) :
    s.portsOff l = { s with out := s.out ++ (l.filter (fun p => s.portEn p)).map (fun p => .pin 15 p 1) } := s.foldl_emit _ _

theorem State.drives_gatesAll (v : Int) : Drives s (s.gatesAll v) := by
  rw [s.gatesAll_eq v]
  exact Drives.emitted _ _

theorem State.drives_portsOff (l : List Nat) : Drives s (s.portsOff l) := by
  rw [s.portsOff_eq l]
  exact Drives.emitted _ _

theorem State.drives_driveSides (st : Bool) (old new : Nat) : Drives s (s.driveSides st old new) :=
  List.foldlRecOn _ _ (motive := fun u => Drives s u) (Drives.refl s) fun u hu _ _ => Drives.ite hu (hu.trans (Drives.emitted u _))

theorem State.drives_driveHelm (on : Bool) : Drives s (s.driveHelm on) :=
  ⟨rfl, rfl, rfl, rfl, rfl, fun _ ho => State.rg_driveHelm s on ho, List.prefix_append _ _⟩

theorem State.driveSides_same (st : Bool) (v : Nat) : s.driveSides st v v = s :=
  List.foldlRecOn _ _ (motive := fun u => u = s) rfl fun u hu m _ => by
    rw [beq_self_eq_true, if_pos rfl]
    exact hu

theorem State.gate_mem_gatesAll (v : Int) (n : Fin 8) (k : Fin 6) : .pin 10 (n.val * 8 + k.val) v ∈ (s.gatesAll v).out := by
  rw [s.gatesAll_eq v]
  refine List.mem_append_right _ (List.mem_map.2 ⟨n.val * 6 + k.val, List.mem_range.2 (by omega), ?_⟩)
  rw [show (n.val * 6 + k.val) / 6 = n.val by omega, show (n.val * 6 + k.val) % 6 = k.val by omega]

theorem State.port_mem_portsOff {p : Nat} (hp : p < 16) (hen : s.portEn p = true) : .pin 15 p 1 ∈ (s.portsOff (List.range 16)).out := by
  rw [s.portsOff_eq]
  exact List.mem_append_right _ (List.mem_map.2 ⟨p, List.mem_filter.2 ⟨List.mem_range.2 hp, hen⟩, rfl⟩)

end

/-! ### A reset of everything (codes 0x1, 0x2, 0x7, 0x9) -/

section
variable (s : State)

/-- The sides of both channels and the own line go low. -/
def State.linesOff : State :=
  let t := (s.driveSides false s.safe.p.side 0).driveSides true s.safe.s.side 0
  if s.flag HELM_STAT 3 then t.driveHelm false else t

/-- What leaves the chip as everything is reset: sides and line low, transmitters off, gates floating. -/
def State.pinsOff : State :=
  if (s.linesOff.portsOff (List.range 16)).powered 6 then (s.linesOff.portsOff (List.range 16)).gatesAll (-1)
  else s.linesOff.portsOff (List.range 16)

/-- What everything is after a reset: the partner's line is a pin, and so kept. -/
def State.peerKept (peer : Bool) : State := if peer then (s.setFlag HELM_STAT 4).setFlag HELM_STAT 5 else s

theorem State.clearAll_eq : s.clearAll = (s.keelInterrupted.pinsOff.blank.keelLoad).peerKept (s.keelInterrupted.flag HELM_STAT 4) := by
  delta State.clearAll State.peerKept State.pinsOff State.linesOff
  with_reducible_and_instances rfl

theorem State.drives_linesOff : Drives s s.linesOff :=
  have hsides := (s.drives_driveSides false s.safe.p.side 0).trans (State.drives_driveSides _ true _ 0)
  Drives.ite (hsides.trans (State.drives_driveHelm _ false)) hsides

theorem State.drives_pinsOff : Drives s s.pinsOff :=
  have hports := s.drives_linesOff.trans (State.drives_portsOff _ (List.range 16))
  Drives.ite (hports.trans (State.drives_gatesAll _ (-1))) hports

theorem State.powered_linesOff (l : List Nat) (c : Nat) : (s.linesOff.portsOff l).powered c = s.powered c :=
  congrArg (bit · c) ((s.drives_linesOff.trans (State.drives_portsOff _ l)).rg TOP_PDSTAT (by decide))

theorem pCfg_ne_helmStat {p : Nat} (hp : p < 16) : pCfg p ≠ HELM_STAT := by
  simp only [pCfg, HELM_STAT, NET_B, HELM_B]
  omega

theorem State.portEn_linesOff {p : Nat} (hp : p < 16) : s.linesOff.portEn p = s.portEn p :=
  congrArg (bit · 0) (s.drives_linesOff.rg _ (pCfg_ne_helmStat hp))

theorem State.prefix_pinsOff : (s.linesOff.portsOff (List.range 16)).out <+: s.pinsOff.out := by
  unfold State.pinsOff
  split
  · exact (State.drives_gatesAll _ _).out
  · exact List.prefix_refl _

theorem State.line_mem_pinsOff (hline : s.flag HELM_STAT 3 = true) : .pin 2 (if s.roleA then 0 else 1) 0 ∈ s.pinsOff.out := by
  have hsides := (s.drives_driveSides false s.safe.p.side 0).trans (State.drives_driveSides _ true s.safe.s.side 0)
  have hrole : ((s.driveSides false s.safe.p.side 0).driveSides true s.safe.s.side 0).roleA = s.roleA := by
    simp only [State.roleA, State.role, State.fuse2, hsides.boot]
  refine s.prefix_pinsOff.subset ((State.drives_portsOff _ _).out.subset ?_)
  rw [State.linesOff, if_pos hline]
  refine List.mem_append_right _ ?_
  rw [hrole]
  exact List.mem_singleton.2 rfl

theorem State.gate_mem_pinsOff (hpd : s.powered 6 = true) (n : Fin 8) (k : Fin 6) : .pin 10 (n.val * 8 + k.val) (-1) ∈ s.pinsOff.out := by
  rw [State.pinsOff, if_pos ((s.powered_linesOff _ 6).trans hpd)]
  exact State.gate_mem_gatesAll _ _ n k

theorem State.port_mem_pinsOff {p : Nat} (hp : p < 16) (hen : s.portEn p = true) : .pin 15 p 1 ∈ s.pinsOff.out :=
  s.prefix_pinsOff.subset (State.port_mem_portsOff _ hp ((s.portEn_linesOff hp).trans hen))

theorem State.portsOff_of_none {l : List Nat} (hnone : ∀ p ∈ l, s.portEn p = false) : s.portsOff l = s := by
  have hfil : l.filter (fun p => s.portEn p) = [] := List.filter_eq_nil_iff.2 fun p hp => by rw [hnone p hp]; decide
  rw [State.portsOff, hfil, List.foldl_nil]

theorem State.pinsOff_of_quiet (hline : s.flag HELM_STAT 3 = false) (hp : s.safe.p.side = 0) (hs : s.safe.s.side = 0) (hpd : s.powered 6 = false)
    (hports : ∀ p : Fin 16, s.portEn p.val = false) : s.pinsOff = s := by
  have hlines : s.linesOff = s := by
    simp only [State.linesOff, hp, hs, State.driveSides_same, hline, Bool.false_eq_true, if_false]
  have hoff : s.portsOff (List.range 16) = s := s.portsOff_of_none fun p hp => hports ⟨p, List.mem_range.1 hp⟩
  simp only [State.pinsOff, hlines, hoff, hpd, Bool.false_eq_true, if_false]

end

/-! ### The state everything returns to (R602) -/

section
variable (s : State)

/-- What every reset of everything leaves of `s` in `t`. -/
structure Cleared (s t : State) : Prop where
  host : t.host = {}
  evt : t.evt = {}
  cpu : t.cpu = {}
  net : t.net = { ({} : NetSt) with sfp := s.net.sfp }
  tim : t.tim = {}
  pilot : t.pilot = {}
  helm : t.helm = {}
  lanes : t.lanes = []
  mem : t.mem = {}
  axes : t.axes = []
  loc : t.loc = {}
  cart : t.cart = {}
  safe : t.safe = {}
  acq : t.acq = {}
  can : t.can = {}
  cycle : t.cycle = 0
  bnd : t.bnd = 0
  ntime : t.ntime = 0
  pending : t.pending = s.pending
  out : t.out = s.out
  free : t.free = s.free
  porHeld : t.boot.porHeld = true
  fuseT : t.boot.fuseT = s.boot.fuseT
  fuseC : t.boot.fuseC = s.boot.fuseC
  rg : ∀ o, o < KEEL_B ∨ KEEL_B + 0x1000 ≤ o → o ≠ HELM_STAT → t.rg o = resetWord o
  helmState : t.helmState = 0

theorem State.rg_loadFused (p : Nat → Bool) {o : Nat} (ho : o < KEEL_B ∨ KEEL_B + 0x1000 ≤ o) : (s.loadFused p).rg o = s.rg o := by
  have hdebug : o ≠ KEEL_B + 0xC := by omega
  have haccess : o ≠ KEEL_ACCESS := by
    simp only [KEEL_ACCESS]
    omega
  unfold State.loadFused
  dsimp only
  split <;> split <;> simp only [State.rg_setRg_ne _ _ _ _ haccess, State.rg_setRg_ne _ _ _ _ hdebug]

theorem State.rg_withBoot (b : BootSt) (o : Nat) : ({ s with boot := b } : State).rg o = s.rg o := rfl

theorem State.rg_keelLoad {o : Nat} (ho : o < KEEL_B ∨ KEEL_B + 0x1000 ≤ o) : s.keelLoad.rg o = s.rg o := by
  unfold State.keelLoad
  exact (State.rg_loadFused _ _ ho).trans (s.rg_withBoot _ o)

theorem State.cleared_blank : Cleared s s.blank := by
  refine ⟨rfl, rfl, rfl, rfl, rfl, rfl, rfl, rfl, rfl, rfl, rfl, rfl, rfl, rfl, rfl, rfl, rfl, rfl, rfl, rfl, rfl, rfl, rfl, rfl, fun _ _ _ => rfl, ?_⟩
  show bits (resetWord HELM_STAT) 2 0 = 0
  decide +kernel

theorem State.loadFused_eq (p : Nat → Bool) : ∃ r, s.loadFused p = { s with regs := r } := by
  unfold State.loadFused
  dsimp only
  split <;> split <;> exact ⟨_, rfl⟩

/-- A load of the fuses classifies the words: the raw bits and the rest of the chip stand. -/
theorem State.keelLoad_eq : ∃ c v r, s.keelLoad = { s with boot := { s.boot with kcls := c, kval := v }, regs := r } := by
  unfold State.keelLoad
  obtain ⟨r, hr⟩ := State.loadFused_eq { s with boot := { s.boot with
    kcls := (List.range 64).foldl (fun t w => Tab.set 0 t w (s.wordClass w)) []
    kval := (List.range 64).foldl (fun t w => Tab.set 0 t w (s.wordVal w)) [] } } (fun _ => true)
  exact ⟨_, _, r, hr⟩

theorem State.helmState_keelLoad : s.keelLoad.helmState = s.helmState := congrArg (bits · 2 0) (s.rg_keelLoad (by decide))

theorem Cleared.keelLoad {t : State} (h : Cleared s t) : Cleared s t.keelLoad := by
  have hrg := fun o ho hne => (t.rg_keelLoad (o := o) ho).trans (h.rg o ho hne)
  have hstate := t.helmState_keelLoad.trans h.helmState
  obtain ⟨c, v, r, heq⟩ := t.keelLoad_eq
  rw [heq] at hrg hstate ⊢
  exact { h with rg := hrg, helmState := hstate }

theorem Cleared.peerKept {t : State} (h : Cleared s t) (peer : Bool) : Cleared s (t.peerKept peer) := by
  cases peer with
  | false => exact h
  | true =>
    have hrg (o : Nat) (ho : o < KEEL_B ∨ KEEL_B + 0x1000 ≤ o) (hne : o ≠ HELM_STAT) : (t.peerKept true).rg o = resetWord o :=
      (State.rg_setFlag_ne _ _ _ _ hne).trans ((State.rg_setFlag_ne _ _ _ _ hne).trans (h.rg o ho hne))
    have hstate : (t.peerKept true).helmState = 0 :=
      (State.fld_setFlag_other _ _ _ _ (by decide) (by decide)).trans
        ((State.fld_setFlag_other _ _ _ _ (by decide) (by decide)).trans h.helmState)
    exact { h with rg := hrg, helmState := hstate }

/-- A reset of everything leaves the state of power-on, with the pins, the queue and the module presence kept. -/
theorem State.cleared_clearAll : Cleared s.keelInterrupted.pinsOff s.clearAll := by
  rw [s.clearAll_eq]
  exact Cleared.peerKept _ (Cleared.keelLoad _ (State.cleared_blank _)) _

theorem State.keelInterrupted_of_none (hnone : s.boot.keelJob = none) : s.keelInterrupted = s := by
  unfold State.keelInterrupted
  rw [hnone]

/-- An interrupted KEEL_PROGRAM touches fuses and the free values alone. -/
theorem State.keelInterrupted_eq : ∃ t c j f, s.keelInterrupted = { s with boot := { s.boot with fuseT := t, fuseC := c, keelJob := j }, free := f } := by
  unfold State.keelInterrupted
  split <;> exact ⟨_, _, _, _, rfl⟩

/-! ### Start-up (Table 17.2) -/

/-- Outputs of a chip that starts: every gate inactive. -/
def gatesLow : List Emit := (List.range 48).map (fun k => .pin 10 (k / 6 * 8 + k % 6) 0)

/-- Clocks, domains and rails as they stand once the chip has started, and where the boot source comes from (Table 17.2). -/
def State.powerUp : State :=
  let s := (s.setRg TOP_CLK 0x1F).setFlag TIME_STAT 0
  let s := s.setRg TOP_PDSTAT (if s.variant == 2 then 0x7F else 0xFF)
  let s := s.setRg TOP_SUPPLY (if s.boot.vpp then 0xFF else 0x7F)
  (s.setFld TOP_BOOT 6 5 s.boot.bootsel).setFld TOP_BOOT 2 0 (if s.boot.bootsel = 1 then 2 else 1)

/-- Harts 0 and 1 run. -/
def State.supervised : State := { s with cpu := { s.cpu with running := [0, 1] } }

theorem State.setRg_eq {t : State} (h : ∃ r, t = { s with regs := r }) (o : Nat) (w : Word) : ∃ r, t.setRg o w = { s with regs := r } := by
  obtain ⟨r, rfl⟩ := h
  exact ⟨_, rfl⟩

theorem State.powerUp_eq : ∃ r, s.powerUp = { s with regs := r } :=
  s.setRg_eq (s.setRg_eq (s.setRg_eq (s.setRg_eq (s.setRg_eq (s.setRg_eq ⟨_, rfl⟩ _ _) _ _) _ _) _ _) _ _) _ _

theorem State.startSafety_eq : ∃ r, s.startSafety = { s with regs := r } := by
  unfold State.startSafety
  split <;> exact ⟨_, rfl⟩

theorem State.rg_startSafety {o : Nat} (hp : o ≠ SAFEP_B) (hs : o ≠ SAFES_B) : s.startSafety.rg o = s.rg o := by
  unfold State.startSafety
  split
  · rfl
  · exact (State.rg_setFld_ne _ _ _ _ _ _ hs).trans (State.rg_setFld_ne _ _ _ _ _ _ hp)

theorem State.rg_powerUp {o : Nat} (hclk : o ≠ TOP_CLK) (htime : o ≠ TIME_STAT) (hpd : o ≠ TOP_PDSTAT) (hsup : o ≠ TOP_SUPPLY) (hboot : o ≠ TOP_BOOT) :
    s.powerUp.rg o = s.rg o :=
  (State.rg_setFld_ne _ _ _ _ _ _ hboot).trans ((State.rg_setFld_ne _ _ _ _ _ _ hboot).trans ((State.rg_setRg_ne _ _ _ _ hsup).trans
    ((State.rg_setRg_ne _ _ _ _ hpd).trans ((State.rg_setFlag_ne _ _ _ _ htime).trans (State.rg_setRg_ne _ _ _ _ hclk)))))

/-- The state once the supplies and harts are up, before the gates go low. -/
def State.started : State := s.keelLoad.powerUp.supervised.startSafety

theorem State.rg_supervised (o : Nat) : s.supervised.rg o = s.rg o := rfl

theorem State.rg_started {o : Nat} (hp : o ≠ SAFEP_B) (hs : o ≠ SAFES_B) : s.started.rg o = s.keelLoad.powerUp.rg o := by
  unfold State.started
  exact (State.rg_startSafety _ hp hs).trans (State.rg_supervised _ o)

/-- A start-up loads the fuses, sets registers and starts harts 0 and 1: the rest stands. -/
theorem State.started_eq : ∃ c v r, s.started = { s with boot := { s.boot with kcls := c, kval := v }, regs := r, cpu := { s.cpu with running := [0, 1] } } := by
  obtain ⟨c, v, r, hload⟩ := s.keelLoad_eq
  obtain ⟨r', hpower⟩ := s.keelLoad.powerUp_eq
  obtain ⟨r'', hsafe⟩ := s.keelLoad.powerUp.supervised.startSafety_eq
  exact ⟨c, v, r'', by rw [State.started, hsafe, State.supervised, hpower, hload]⟩

theorem State.startUp_eq : s.startUp = { s.started with out := s.started.out ++ gatesLow } := by
  have hgates : s.startUp = s.started.gatesAll 0 := by
    delta State.startUp State.started State.supervised State.powerUp
    with_reducible_and_instances rfl
  rw [hgates, State.gatesAll_eq, gatesLow]

theorem State.rg_withOut (l : List Emit) (o : Nat) : ({ s with out := l } : State).rg o = s.rg o := rfl

theorem State.rg_startUp (o : Nat) : s.startUp.rg o = s.started.rg o :=
  (congrArg (State.rg · o) s.startUp_eq).trans (State.rg_withOut _ _ o)

/-- A register that a start-up does not set. -/
theorem State.rg_startUp_ne {o : Nat} (hkeel : o < KEEL_B ∨ KEEL_B + 0x1000 ≤ o) (hclk : o ≠ TOP_CLK) (htime : o ≠ TIME_STAT) (hpd : o ≠ TOP_PDSTAT)
    (hsup : o ≠ TOP_SUPPLY) (hboot : o ≠ TOP_BOOT) (hp : o ≠ SAFEP_B) (hs : o ≠ SAFES_B) : s.startUp.rg o = s.rg o :=
  (s.rg_startUp o).trans ((s.rg_started hp hs).trans ((State.rg_powerUp _ hclk htime hpd hsup hboot).trans (s.rg_keelLoad hkeel)))

/-! ### A full reset (codes 0x2, 0x7 and 0x9) -/

/-- A full reset before the chip starts: TOP_RSTCAUSE and what was sampled at the release of POR are kept. -/
def State.released : State :=
  { s.clearAll.setRg TOP_RSTCAUSE (s.rg TOP_RSTCAUSE) with
    boot := { (s.clearAll.setRg TOP_RSTCAUSE (s.rg TOP_RSTCAUSE)).boot with porHeld := false, vppBoot := s.boot.vppBoot, bootsel := s.boot.bootsel } }

theorem State.fullReset_of_released (code : Nat) (hpor : s.boot.porHeld = false) : s.fullReset code = s.released.startUp.recordReset code := by
  refine (if_neg ?_).trans rfl
  rw [hpor]
  decide

theorem State.rg_released (o : Nat) (ho : o ≠ TOP_RSTCAUSE) : s.released.rg o = s.clearAll.rg o := State.rg_setRg_ne _ _ _ _ ho

/-- What a full reset leaves before it is recorded. -/
theorem State.restart_frame : s.released.startUp.rg TOP_RSTCAUSE = s.rg TOP_RSTCAUSE ∧ s.released.startUp.host = {} ∧
    s.released.startUp.net = { ({} : NetSt) with sfp := s.net.sfp } ∧ s.released.startUp.pilot = {} ∧ s.released.startUp.helm = {} ∧
    s.released.startUp.axes = [] ∧ s.released.startUp.mem = {} ∧ s.released.startUp.cycle = 0 ∧ s.released.startUp.pending = s.pending ∧
    s.released.startUp.helmState = 0 ∧ s.released.startUp.out = s.keelInterrupted.pinsOff.out ++ gatesLow := by
  have hclear := s.cleared_clearAll
  have hpins := s.keelInterrupted.drives_pinsOff
  obtain ⟨tr, c, j, f, hkeel⟩ := s.keelInterrupted_eq
  have hnet : s.keelInterrupted.pinsOff.net.sfp = s.net.sfp := by rw [hpins.net, hkeel]
  have hpend : s.keelInterrupted.pinsOff.pending = s.pending := by rw [hpins.pending, hkeel]
  have hcause : s.released.startUp.rg TOP_RSTCAUSE = s.rg TOP_RSTCAUSE :=
    (State.rg_startUp_ne _ (by decide) (by decide) (by decide) (by decide) (by decide) (by decide) (by decide) (by decide)).trans
      (State.rg_setRg_self _ _ _)
  have hstate : s.released.startUp.helmState = 0 :=
    (congrArg (bits · 2 0) ((State.rg_startUp_ne _ (by decide) (by decide) (by decide) (by decide) (by decide) (by decide) (by decide)
      (by decide)).trans (s.rg_released _ (by decide)))).trans hclear.helmState
  obtain ⟨kc, kv, r, hstart⟩ := s.released.started_eq
  refine ⟨hcause, ?_, ?_, ?_, ?_, ?_, ?_, ?_, ?_, hstate, ?_⟩ <;> rw [State.startUp_eq, hstart]
  · exact hclear.host
  · exact hclear.net.trans (by rw [hnet])
  · exact hclear.pilot
  · exact hclear.helm
  · exact hclear.axes
  · exact hclear.mem
  · exact hclear.cycle
  · exact hclear.pending.trans hpend
  · exact congrArg (· ++ gatesLow) hclear.out

end

/-- Settles O44: the checks by `diagFail`'s cases, the handover and the give-up by theirs, the forced reset by what a full reset leaves. -/
theorem helmGivenUp : Obligations.HelmGivenUp := by
  refine ⟨?_, ?_, ?_, ?_, ?_, ?_, ?_, ?_, ?_, ?_, ?_, ?_, ?_, ?_⟩
  · intro s
    rfl
  · intro s c hc hpassive
    exact congrArg Host.Outcome.next (s.diagFail_of_passive c.val hc hpassive)
  · intro s c hc hholder
    obtain ⟨hstate, hline, horigin, hdiag, -⟩ := s.diagFail_gates c.val (by omega) hholder
    exact ⟨_, rfl, hstate, hline, horigin, hdiag⟩
  · intro s c hc hholder hready
    have heq := (s.diagFail_of_later c.val (by omega) hholder).trans (if_pos hready)
    exact ⟨_, congrArg Host.Outcome.next heq, rfl, (s.helmState_diagnosed c.val).trans (beq_iff_eq.1 hholder), s.code_diagnosed c.val (by omega)⟩
  · intro s c hc hholder halone
    refine congrArg Host.Outcome.next ((s.diagFail_of_later c.val (by omega) hholder).trans (if_neg ?_))
    rw [halone]
    exact Bool.false_ne_true
  · intro s p f hholder hrole hen htopo hown htype
    have hconf : s.sailConflict p.val f = s.diagFail 0xB := by
      simp only [State.sailConflict, hholder, hrole, hen, htopo, hown, htype, Bool.not_false, beq_self_eq_true, Bool.and_self, if_true]
    have heq := hconf.trans (s.diagFail_of_holder 0xB (by decide) hholder)
    exact ⟨_, congrArg Host.Outcome.next heq, rfl, (s.helmState_diagnosed 0xB).trans (beq_iff_eq.1 hholder), s.code_diagnosed 0xB (by decide)⟩
  · intro s p f hrole
    refine congrArg Host.Outcome.next (if_neg ?_)
    rw [hrole, Bool.not_true, Bool.and_false, Bool.false_and, Bool.false_and, Bool.false_and, Bool.false_and]
    exact Bool.false_ne_true
  · intro s src d hpre hholder hready hfree
    refine congrArg Host.Outcome.next ((State.cmd_of_precheck_none hpre).trans (if_neg ?_))
    rw [hholder, hready, hfree]
    decide
  · intro s src d hpre halone
    refine congrArg Host.Outcome.next ((State.cmd_of_precheck_none hpre).trans (if_pos ?_))
    rw [halone, Bool.not_false, Bool.or_true, Bool.true_or]
  · intro s c k hholder hgive hdue
    have heq : s.giveUp = ({ s with helm := { s.helm with giveUp := none } } : State).giveUpNow 4 := by
      simp only [State.giveUp, hholder, hgive, hdue, if_true, Bool.false_eq_true, if_false]
    obtain ⟨hstate, hline, horigin, -, hhelm⟩ := State.giveUpNow_frame { s with helm := { s.helm with giveUp := none } } (st := 4) (by decide)
    exact ⟨_, congrArg Host.Outcome.next heq, hstate, hline, horigin, hhelm⟩
  · intro s src d hholder hgive hhand hdue
    have heq : s.giveUp = (s.giveUpNow 0).setFld HELM_STAT 10 8 3 := by
      simp only [State.giveUp, hholder, hgive, hhand, hdue, if_true, Bool.false_eq_true, if_false]
    obtain ⟨hstate, hline, horigin, -, hhelm⟩ := s.giveUpNow_frame (st := 0) (by decide)
    refine ⟨_, congrArg Host.Outcome.next heq, ?_, ?_, ?_, hhelm⟩
    · exact (State.fld_setFld_other _ _ _ _ _ _ _ (by decide) (by decide) (by decide)).trans hstate
    · exact (State.flag_setFld_other _ _ _ _ _ _ (by decide) (by decide) (by decide)).trans hline
    · exact (State.flag_setFld_ne _ _ _ _ _ (by decide)).trans horigin
  · intro s hpassive
    refine congrArg Host.Outcome.next (if_neg ?_)
    rw [hpassive]
    exact Bool.false_ne_true
  · intro s hgated hms hpor
    obtain ⟨hcause, hhost, hnet, hpilot, -, haxes, hmem, hcycle, hpend, hstate, -⟩ := s.restart_frame
    have hdue : (s.helmState = 4 && s.fld TOP_RSTCTL 15 8 != 0) = true := by
      rw [decide_eq_true hgated, bne_iff_ne.2 hms, Bool.and_self]
    exact ⟨_, congrArg Host.Outcome.next ((if_pos hdue).trans (s.fullReset_of_released 7 hpor)), hstate, hcause, hhost, hnet, hpilot, haxes, hmem,
      hcycle, hpend⟩
  · intro s hbar
    refine congrArg Host.Outcome.next ?_
    by_cases hdue : (s.helmState = 4 && s.fld TOP_RSTCTL 15 8 != 0) = true
    · have hheld : s.boot.porHeld = true := by
        simp only [Bool.and_eq_true, decide_eq_true_eq, bne_iff_ne] at hdue
        obtain ⟨hgated, hms⟩ := hdue
        exact (hbar.resolve_left (not_not_intro hgated)).resolve_left hms
      exact (if_pos hdue).trans (if_pos hheld)
    · exact if_neg hdue

end Sys2Proof.Machine

/-! O47: what each reset clears, keeps and records (Tables 17.1, 17.2, 17.4). -/

namespace Sys2Proof.Machine

open Sys2Proof

/-! ### Power-on and full resets -/

section
variable (s : State)

/-- What a KEEL_PROGRAM in progress does not change as a reset cuts it short. -/
structure KeelOnly (s t : State) : Prop where
  regs : t.regs = s.regs
  net : t.net = s.net
  safe : t.safe = s.safe
  pending : t.pending = s.pending
  out : t.out = s.out
  role : t.roleA = s.roleA

theorem State.keelInterrupted_only : KeelOnly s s.keelInterrupted := by
  obtain ⟨t, c, j, f, heq⟩ := s.keelInterrupted_eq
  rw [heq]
  exact ⟨rfl, rfl, rfl, rfl, rfl, rfl⟩

theorem KeelOnly.rg {s t : State} (h : KeelOnly s t) (o : Nat) : t.rg o = s.rg o := congrArg (fun r => Tab.get (resetWord o) r o) h.regs

/-- The pins a reset of everything drives, from the state before it. -/
theorem State.pins_clearAll : (s.flag HELM_STAT 3 = true → .pin 2 (if s.roleA then 0 else 1) 0 ∈ s.clearAll.out) ∧
    (s.powered 6 = true → ∀ (n : Fin 8) (k : Fin 6), .pin 10 (n.val * 8 + k.val) (-1) ∈ s.clearAll.out) ∧
    (∀ p : Fin 16, s.portEn p.val = true → .pin 15 p.val 1 ∈ s.clearAll.out) ∧
    (s.flag HELM_STAT 3 = false → s.safe.p.side = 0 → s.safe.s.side = 0 → s.powered 6 = false → (∀ p : Fin 16, s.portEn p.val = false) →
      s.keelInterrupted.pinsOff.out = s.out) := by
  have hkeel := s.keelInterrupted_only
  have hflag (o n : Nat) : s.keelInterrupted.flag o n = s.flag o n := congrArg (bit · n) (hkeel.rg o)
  rw [s.cleared_clearAll.out]
  refine ⟨fun hline => ?_, fun hpd n k => ?_, fun p hen => ?_, fun hline hp hs hpd hports => ?_⟩
  · rw [← hkeel.role]
    exact State.line_mem_pinsOff _ ((hflag _ 3).trans hline)
  · exact State.gate_mem_pinsOff _ ((hflag _ 6).trans hpd) n k
  · exact State.port_mem_pinsOff _ p.isLt ((hflag _ 0).trans hen)
  · rw [State.pinsOff_of_quiet _ ((hflag _ 3).trans hline) (by rw [hkeel.safe]; exact hp) (by rw [hkeel.safe]; exact hs) ((hflag _ 6).trans hpd)
      (fun p => (hflag _ 0).trans (hports p))]
    exact hkeel.out

theorem State.peer_clearAll : s.clearAll.flag HELM_STAT 4 = s.flag HELM_STAT 4 := by
  rw [s.clearAll_eq, show s.keelInterrupted.flag HELM_STAT 4 = s.flag HELM_STAT 4 from congrArg (bit · 4) (s.keelInterrupted_only.rg _)]
  cases hpeer : s.flag HELM_STAT 4 with
  | false =>
    refine (congrArg (bit · 4) (State.rg_keelLoad _ (by decide))).trans ?_
    show bit (resetWord HELM_STAT) 4 = false
    decide +kernel
  | true => exact (State.flag_setFlag_other _ _ _ _ (by decide) (by decide)).trans (State.flag_setFlag_self _ _ _ (by decide))

end

/-! ### The host side (R53) -/

section
variable (s : State)

theorem State.rg_clearRange (lo hi o : Nat) :
    ({ s with regs := Tab.clearRange s.regs lo hi } : State).rg o = if lo ≤ o ∧ o < hi then resetWord o else s.rg o :=
  Tab.get_clearRange _ _ _ _ _

theorem State.rg_clearHost (o : Nat) : s.clearHost.rg o = if HOST_B ≤ o ∧ o < HOST_B + 0x10000 then resetWord o else s.rg o :=
  Tab.get_clearRange _ _ _ _ _

theorem State.rg_clearHost_host {o : Nat} (hlo : HOST_B ≤ o) (hhi : o < HOST_B + 0x10000) : s.clearHost.rg o = resetWord o :=
  (s.rg_clearHost o).trans (if_pos ⟨hlo, hhi⟩)

theorem State.rg_clearHost_other {o : Nat} (ho : o < HOST_B ∨ HOST_B + 0x10000 ≤ o) : s.clearHost.rg o = s.rg o :=
  (s.rg_clearHost o).trans (if_neg (by omega))

/-- What a function-level reset leaves before it is recorded: the host side cleared, the link's training state kept. -/
def State.flrCleared (s : State) : State :=
  { s.clearHost with host := { s.clearHost.host with linkUp := s.host.linkUp } }.setRg (HOST_B + 0x18) (s.rg (HOST_B + 0x18))

theorem State.rg_flrCleared_ne {o : Nat} (ho : o ≠ HOST_B + 0x18) : s.flrCleared.rg o = s.clearHost.rg o := State.rg_setRg_ne _ _ _ _ ho

/-- HOST_LINK shows the speed and the width it was loaded with (Table 2.5). -/
theorem State.fld_setFld_link (speed width : Nat) (hspeed : speed < 4) (hwidth : width < 32) :
    (s.setFld (HOST_B + 0x18) 8 0 (speed + 16 * width)).fld (HOST_B + 0x18) 3 0 = speed ∧
    (s.setFld (HOST_B + 0x18) 8 0 (speed + 16 * width)).fld (HOST_B + 0x18) 8 4 = width := by
  have hload := State.fld_setFld_self s (HOST_B + 0x18) 8 0 (speed + 16 * width) (by decide) (by decide)
  have hlow (w : Word) : bits w 3 0 = bits w 8 0 % 16 := by
    simp only [bits, field]
    omega
  have hhigh (w : Word) : bits w 8 4 = bits w 8 0 / 16 := by
    simp only [bits, field]
    omega
  simp only [State.fld] at hload ⊢
  rw [hlow, hhigh, hload]
  omega

/-! ### One domain (R598) -/

theorem State.rg_foldl_clearRange (f : Nat → Nat) (w : Nat) (l : List Nat) (o : Nat) :
    (l.foldl (fun s p => ({ s with regs := Tab.clearRange s.regs (f p) (f p + w) } : State)) s).rg o =
      if ∃ p ∈ l, f p ≤ o ∧ o < f p + w then resetWord o else s.rg o := by
  induction l generalizing s with
  | nil => exact (if_neg (by rintro ⟨p, hp, -⟩; exact List.not_mem_nil hp)).symm
  | cons q l ih =>
    rw [List.foldl_cons, ih, State.rg_clearRange]
    by_cases hl : ∃ p ∈ l, f p ≤ o ∧ o < f p + w
    · obtain ⟨p, hp, hin⟩ := hl
      rw [if_pos ⟨p, hp, hin⟩, if_pos ⟨p, List.mem_cons_of_mem q hp, hin⟩]
    · by_cases hq : f q ≤ o ∧ o < f q + w
      · rw [if_neg hl, if_pos hq, if_pos ⟨q, List.mem_cons_self, hq⟩]
      · have hnone : ¬∃ p ∈ q :: l, f p ≤ o ∧ o < f p + w := by
          rintro ⟨p, hp, hin⟩
          rcases List.mem_cons.1 hp with rfl | hp
          · exact hq hin
          · exact hl ⟨p, hp, hin⟩
        rw [if_neg hl, if_neg hq, if_neg hnone]

theorem State.foldl_clearRange_eq (f : Nat → Nat) (w : Nat) (l : List Nat) :
    ∃ r, l.foldl (fun s p => ({ s with regs := Tab.clearRange s.regs (f p) (f p + w) } : State)) s = { s with regs := r } :=
  List.foldlRecOn _ _ (motive := fun u => ∃ r, u = { s with regs := r }) ⟨_, rfl⟩ fun u hu p _ => by
    obtain ⟨r, rfl⟩ := hu
    exact ⟨_, rfl⟩

theorem State.runStops_eq : ∃ r, s.runStops = { s with regs := r } := by
  unfold State.runStops
  split <;> exact ⟨_, rfl⟩

theorem State.rg_runStops {o : Nat} (ho : o ≠ TIME_STAT) : s.runStops.rg o = s.rg o := by
  unfold State.runStops
  split
  · rfl
  · exact State.rg_clrFlag_ne _ _ _ _ ho

/-- The registers of ports 0 to 7 cleared. -/
def State.portRegsCleared (s : State) : State :=
  (List.range 8).foldl (fun s p => { s with regs := Tab.clearRange s.regs (pCfg p) (pCfg p + 0x20) }) s

theorem State.clearDomain_portsLow : s.clearDomain 3 = (s.portsOff (List.range 8)).portRegsCleared.runStops := rfl

theorem State.rg_portsLow {o : Nat} (ho : o ≠ TIME_STAT) : (s.clearDomain 3).rg o =
    if ∃ p ∈ List.range 8, pCfg p ≤ o ∧ o < pCfg p + 0x20 then resetWord o else s.rg o := by
  rw [s.clearDomain_portsLow, State.rg_runStops _ ho]
  refine (State.rg_foldl_clearRange _ pCfg 0x20 _ o).trans ?_
  rw [s.portsOff_eq, State.rg_withOut]

/-- Ports 0 to 7 are reset: registers and outputs alone change. -/
theorem State.portsLow_eq : ∃ r, s.clearDomain 3 = { s.portsOff (List.range 8) with regs := r } := by
  obtain ⟨r, hclear⟩ := State.foldl_clearRange_eq (s.portsOff (List.range 8)) pCfg 0x20 (List.range 8)
  obtain ⟨r', hstop⟩ := (s.portsOff (List.range 8)).portRegsCleared.runStops_eq
  refine ⟨r', ?_⟩
  rw [s.clearDomain_portsLow, hstop, State.portRegsCleared, hclear]

theorem State.domainReset_of_some {w : Word} (hsome : (List.range 8).filter (fun c => w.getLsbD c && s.powered c && c != 2 && c != 7) ≠ []) :
    s.domainReset w = (((List.range 8).filter (fun c => w.getLsbD c && s.powered c && c != 2 && c != 7)).foldl
      State.clearDomain s).recordReset 8 :=
  if_neg (fun hnone => hsome (List.isEmpty_iff.1 hnone))

end

/-! ### The release of POR (Table 17.2) -/

section
variable (s : State)

theorem State.rg_startUp_low {o : Nat} (ho : o < 0x10000) : s.startUp.rg o = s.keelLoad.powerUp.rg o :=
  (s.rg_startUp o).trans (s.rg_started (by simp only [SAFEP_B]; omega) (by simp only [SAFES_B]; omega))

theorem State.boot_startUp : s.startUp.boot = s.keelLoad.boot := by
  obtain ⟨r, hpower⟩ := s.keelLoad.powerUp_eq
  obtain ⟨r', hsafe⟩ := s.keelLoad.powerUp.supervised.startSafety_eq
  rw [s.startUp_eq, State.started, hsafe, State.supervised, hpower]

theorem State.variant_congr {t u : State} (h : t.boot = u.boot) : t.variant = u.variant := by
  rw [State.variant, State.variant, State.fuse2, State.fuse2, h]

theorem State.clocks_powerUp : s.powerUp.rg TOP_CLK = 0x1F :=
  (State.rg_setFld_ne _ _ _ _ _ _ (by decide)).trans ((State.rg_setFld_ne _ _ _ _ _ _ (by decide)).trans ((State.rg_setRg_ne _ _ _ _ (by decide)).trans
    ((State.rg_setRg_ne _ _ _ _ (by decide)).trans ((State.rg_setFlag_ne _ _ _ _ (by decide)).trans (State.rg_setRg_self _ _ _)))))

theorem State.domains_powerUp : s.powerUp.rg TOP_PDSTAT = if s.variant = 2 then 0x7F else 0xFF :=
  (State.rg_setFld_ne _ _ _ _ _ _ (by decide)).trans ((State.rg_setFld_ne _ _ _ _ _ _ (by decide)).trans ((State.rg_setRg_ne _ _ _ _ (by decide)).trans
    ((State.rg_setRg_self _ _ _).trans (ite_congr (propext beq_iff_eq) (fun _ => rfl) fun _ => rfl))))

theorem State.bootsel_powerUp : s.powerUp.fld TOP_BOOT 6 5 = s.boot.bootsel % 4 :=
  (State.fld_setFld_other _ _ _ _ _ _ _ (by decide) (by decide) (by decide)).trans (State.fld_setFld_self _ _ _ _ _ (by decide) (by decide))

theorem State.source_powerUp : s.powerUp.fld TOP_BOOT 2 0 = if s.boot.bootsel = 1 then 2 else 1 := by
  refine (State.fld_setFld_self _ _ _ _ _ (by decide) (by decide)).trans ?_
  show (if s.boot.bootsel = 1 then 2 else 1) % 8 = _
  split <;> rfl

/-- The chip as POR releases it. -/
def State.porReleased (b : Nat) (v : Bool) : State :=
  { s with boot := { s.boot with porHeld := false, vpp := v, vppBoot := v, bootsel := b, tries := 0 } }

/-- KEEL's flag of a programming voltage present at the release of POR. -/
def State.vppFlagged (v : Bool) : State := if v then s.setFlag KEEL_FLAGS 1 else s

theorem State.porRelease_of_held (b : Nat) (v : Bool) (hheld : s.boot.porHeld = true) :
    s.porRelease b v = (((s.porReleased b v).startUp.vppFlagged v).raise 251 (((s.porReleased b v).startUp.vppFlagged v).fld TOP_RSTCAUSE 3 0)) := by
  refine (if_neg ?_).trans ?_
  · rw [hheld]
    decide
  · delta State.porReleased State.vppFlagged
    with_reducible_and_instances rfl

theorem State.rg_vppFlagged (v : Bool) {o : Nat} (ho : o ≠ KEEL_FLAGS) : (s.vppFlagged v).rg o = s.rg o := by
  unfold State.vppFlagged
  split
  · exact State.rg_setFlag_ne _ _ _ _ ho
  · rfl

theorem State.boot_vppFlagged (v : Bool) : (s.vppFlagged v).boot = s.boot := by
  unfold State.vppFlagged
  split <;> rfl

theorem State.cpu_vppFlagged (v : Bool) : (s.vppFlagged v).cpu = s.cpu := by
  unfold State.vppFlagged
  split <;> rfl

theorem State.out_vppFlagged (v : Bool) : (s.vppFlagged v).out = s.out := by
  unfold State.vppFlagged
  split <;> rfl

theorem blind_running (x : List Nat) : Blind fun u => u.cpu.running = x :=
  ⟨fun _ _ _ _ _ _ hu => hu, fun _ _ _ _ hu => hu, fun _ _ hu => hu, fun _ _ hu => hu, fun _ _ hu => hu⟩

theorem State.running_startUp : s.startUp.cpu.running = [0, 1] := by
  obtain ⟨c, v, r, hstart⟩ := s.started_eq
  rw [s.startUp_eq, hstart]

theorem State.gate_mem_startUp (n : Fin 8) (k : Fin 6) : .pin 10 (n.val * 8 + k.val) 0 ∈ s.startUp.out := by
  rw [s.startUp_eq]
  refine List.mem_append_right _ ?_
  have hmem := State.gate_mem_gatesAll { s with out := [] } 0 n k
  rw [State.gatesAll_eq, List.nil_append] at hmem
  exact hmem

/-- What the release of POR leaves, whatever the event of its reset does. -/
theorem State.porRelease_frame (b : Nat) (v : Bool) (hb : b < 4) (hheld : s.boot.porHeld = true) :
    (s.porRelease b v).boot.porHeld = false ∧ (s.porRelease b v).boot.vpp = v ∧ (s.porRelease b v).rg TOP_CLK = 0x1F ∧
    (s.porRelease b v).rg TOP_PDSTAT = (if (s.porRelease b v).variant = 2 then 0x7F else 0xFF) ∧ (s.porRelease b v).fld TOP_BOOT 6 5 = b ∧
    (s.porRelease b v).fld TOP_BOOT 2 0 = (if b = 1 then 2 else 1) ∧ (s.porRelease b v).cpu.running = [0, 1] ∧
    (s.porRelease b v).helmState = s.helmState ∧ (∀ (n : Fin 8) (k : Fin 6), .pin 10 (n.val * 8 + k.val) 0 ∈ (s.porRelease b v).out) := by
  have hlow (o : Nat) (ho : o < 0x10000) : (s.porRelease b v).rg o = (s.porReleased b v).keelLoad.powerUp.rg o := by
    rw [s.porRelease_of_held b v hheld, State.rg_raise_ne _ _ (by decide) (by omega) (by omega) (by omega),
      State.rg_vppFlagged _ _ (by simp only [KEEL_FLAGS, KEEL_B]; omega), State.rg_startUp_low _ ho]
  have hboot : (s.porRelease b v).boot = (s.porReleased b v).keelLoad.boot := by
    rw [s.porRelease_of_held b v hheld, State.raise_boot _ _ _ (by decide), State.boot_vppFlagged, ← State.boot_startUp]
  have hkept : (s.porReleased b v).keelLoad.boot.porHeld = false ∧ (s.porReleased b v).keelLoad.boot.vpp = v ∧
      (s.porReleased b v).keelLoad.boot.bootsel = b := by
    obtain ⟨c, w, r, hload⟩ := (s.porReleased b v).keelLoad_eq
    rw [hload]
    exact ⟨rfl, rfl, rfl⟩
  obtain ⟨hheld', hvpp, hsel⟩ := hkept
  refine ⟨(congrArg BootSt.porHeld hboot).trans hheld', (congrArg BootSt.vpp hboot).trans hvpp, (hlow _ (by decide)).trans (State.clocks_powerUp _), ?_,
    ?_, ?_, ?_, ?_, fun n k => ?_⟩
  · rw [hlow _ (by decide), State.domains_powerUp, State.variant_congr hboot]
  · refine (congrArg (bits · 6 5) (hlow TOP_BOOT (by decide))).trans ((State.bootsel_powerUp _).trans ?_)
    rw [hsel, Nat.mod_eq_of_lt hb]
  · refine (congrArg (bits · 2 0) (hlow TOP_BOOT (by decide))).trans ((State.source_powerUp _).trans ?_)
    rw [hsel]
  · rw [s.porRelease_of_held b v hheld]
    exact (blind_running _).raise ((congrArg CpuSt.running (State.cpu_vppFlagged _ v)).trans (State.running_startUp _)) _ _
  · rw [s.porRelease_of_held b v hheld, State.helmState_raise _ _ (by decide)]
    exact congrArg (bits · 2 0) ((State.rg_vppFlagged _ _ (by decide)).trans
      (State.rg_startUp_ne _ (by decide) (by decide) (by decide) (by decide) (by decide) (by decide) (by decide) (by decide)))
  · rw [s.porRelease_of_held b v hheld]
    refine (State.raise_kept _ _ _ (Kept.refl _)).out.subset ?_
    rw [State.out_vppFlagged]
    exact State.gate_mem_startUp _ n k

end

/-! ### Harts 0 and 1 restart (R586) -/

section
variable (s : State)

/-- Harts 0 and 1 stop, leave their threads and begin at address 0 with the supervisor section of the booted image. -/
def State.superRestarted : State :=
  let img := s.boot.booted
  let sup := leAt img 12 4
  let mem := wordCells 0 (sup / 4 + 1) 0 ((img.drop 256).take sup) ++ s.cpu.sram.filter (fun e => 0x40000 ≤ e.1)
  (({ s with cpu := { s.cpu with sram := mem, run := Tab.set 256 (Tab.set 256 s.cpu.run 0 256) 1 256 } } : State).hartAt 0 0).hartAt 1 0

theorem State.superReset_of_unplanned (hpassive : s.holder = false) (hone : s.planState ≠ 1) (htwo : s.planState ≠ 2) :
    s.superReset = (s.diagnosed 3).superRestarted.recordReset 5 := by
  have hdiag := s.diagFail_of_passive 3 (by decide) hpassive
  have hplan : (s.diagnosed 3).superRestarted.planState = s.planState :=
    congrArg (bits · 18 16) (s.rg_diagnosed 3 (by decide) (by decide) (by decide) (by decide))
  have hidle : ¬((s.diagnosed 3).superRestarted.planState = 1 || (s.diagnosed 3).superRestarted.planState = 2) = true := by
    rw [hplan, decide_eq_false hone, decide_eq_false htwo]
    decide
  rw [State.superReset, hdiag]
  exact congrArg (State.recordReset · 5) (if_neg hidle)

theorem State.run_superRestarted : Tab.get 256 s.superRestarted.cpu.run 0 = 256 ∧ Tab.get 256 s.superRestarted.cpu.run 1 = 256 :=
  ⟨(Tab.get_set_ne _ _ _ _ _ _ (by decide)).trans (Tab.get_set_self _ _ _ _), Tab.get_set_self _ _ _ _⟩

theorem State.hart_superRestarted : s.superRestarted.hart 0 = {} ∧ s.superRestarted.hart 1 = {} :=
  ⟨(Tab.get_set_ne _ _ _ _ _ _ (by decide)).trans (Tab.get_set_self _ _ _ _), Tab.get_set_self _ _ _ _⟩

end

/-- Settles O47: a reset of everything by `Cleared`, a full reset by what `startUp` sets, the host side and a domain by the ranges cleared. -/
theorem resets : Obligations.Resets := by
  refine ⟨?_, ?_, ?_, ?_, ?_, ?_, ?_, ?_, ?_, ?_, ?_, ?_, ?_, ?_, ?_⟩
  · intro s
    have hclear := s.cleared_clearAll
    have hpins := s.keelInterrupted.drives_pinsOff
    have hkeel := s.keelInterrupted_only
    obtain ⟨hline, hgates, hports, hquiet⟩ := s.pins_clearAll
    have hnet := hclear.net
    rw [hpins.net, hkeel.net] at hnet
    exact ⟨_, rfl, hclear.rg _ (by decide) (by decide), hclear.host, hclear.evt, hclear.cpu, hnet, hclear.tim, hclear.pilot, hclear.helm, hclear.lanes,
      hclear.mem, hclear.axes, hclear.loc, hclear.cart, hclear.safe, hclear.acq, hclear.can, hclear.cycle, hclear.bnd, hclear.ntime,
      hclear.pending.trans (hpins.pending.trans hkeel.pending), hclear.porHeld, hclear.helmState, s.peer_clearAll, hline, hgates, hports,
      fun h1 h2 h3 h4 h5 => hclear.out.trans (hquiet h1 h2 h3 h4 h5), hclear.rg⟩
  · intro s hnone
    have hclear := s.cleared_clearAll
    have hpins := s.keelInterrupted.drives_pinsOff
    have hkeel := s.keelInterrupted_of_none hnone
    rw [hkeel] at hclear hpins
    exact ⟨_, rfl, hclear.fuseT.trans (by rw [hpins.boot]), hclear.fuseC.trans (by rw [hpins.boot]), hclear.free.trans hpins.free⟩
  · intro s hpor
    obtain ⟨hcause, hhost, hnet, hpilot, hhelm, haxes, hmem, hcycle, hpend, hstate, hout⟩ := s.restart_frame
    obtain ⟨-, -, -, hquiet⟩ := s.pins_clearAll
    refine ⟨_, congrArg Host.Outcome.next (s.fullReset_of_released 2 hpor), hcause, hhost, hnet, hpilot, hhelm, haxes, hmem, hcycle, hpend, hstate,
      fun n k => State.gate_mem_startUp _ n k, fun h1 h2 h3 h4 h5 => ?_⟩
    rw [hout, hquiet h1 h2 h3 h4 h5, gatesLow]
  · intro s hheld
    exact congrArg Host.Outcome.next (if_pos hheld)
  · intro s w hpor hkey hchip
    obtain ⟨hcause, hhost, hnet, hpilot, hhelm, haxes, hmem, hcycle, hpend, hstate, -⟩ := s.restart_frame
    have hreset : s.chipReset w = s.released.startUp.recordReset 9 := by
      refine (if_pos ?_).trans (s.fullReset_of_released 9 hpor)
      rw [decide_eq_true hkey, Bool.true_and]
      exact hchip
    exact ⟨_, congrArg Host.Outcome.next hreset, hcause, hhost, hnet, hpilot, hhelm, haxes, hmem, hcycle, hpend, hstate⟩
  · intro s w hbar
    refine congrArg Host.Outcome.next (if_neg ?_)
    rcases hbar with hkey | hchip
    · rw [decide_eq_false hkey, Bool.false_and]
      exact Bool.false_ne_true
    · rw [show bit w 0 = false from hchip, Bool.and_false]
      exact Bool.false_ne_true
  · intro s
    exact ⟨s.clearHost, rfl, rfl, rfl, rfl, rfl, rfl, rfl, rfl, fun o => s.rg_clearHost_host, fun o => s.rg_clearHost_other, rfl, rfl, rfl, rfl, rfl⟩
  · intro s
    refine ⟨s.flrCleared, rfl, rfl, rfl, rfl, State.rg_setRg_self _ _ _, fun o hlo hhi hne => ?_, fun o ho => ?_, rfl, rfl, rfl⟩
    · exact (s.rg_flrCleared_ne hne).trans (s.rg_clearHost_host hlo hhi)
    · exact (s.rg_flrCleared_ne (by omega)).trans (s.rg_clearHost_other ho)
  · intro s v w hpd
    obtain ⟨hspeed, hwidth⟩ := State.fld_setFld_link { s with host := { s.host with linkUp := true } } v.val w.val v.isLt (by omega)
    exact ⟨_, congrArg Host.Outcome.next (if_pos hpd), rfl, hspeed, hwidth, rfl, rfl⟩
  · intro s h hpassive hone htwo
    obtain ⟨hrun0, hrun1⟩ := (s.diagnosed 3).run_superRestarted
    obtain ⟨hhart0, hhart1⟩ := (s.diagnosed 3).hart_superRestarted
    exact ⟨_, congrArg Host.Outcome.next (s.superReset_of_unplanned hpassive hone htwo), hrun0, hrun1, hhart0, hhart1, s.helmState_diagnosed 3,
      State.raise_net _ _ _ (by decide), State.raise_axes _ _ _ (by decide)⟩
  · intro s w hpd hfil
    have hreset := s.domainReset_of_some (w := w) (by rw [hfil]; exact List.cons_ne_nil _ _)
    rw [hfil] at hreset
    obtain ⟨r, heq⟩ := s.portsLow_eq
    refine ⟨s.clearDomain 3, congrArg Host.Outcome.next hreset, fun p o ho => ?_, fun o ho hne => ?_, ?_, fun hports => ?_⟩
    · refine (s.rg_portsLow ?_).trans (if_pos ⟨p.val, List.mem_range.2 p.isLt, by omega, by omega⟩)
      simp only [pCfg, NET_B, TIME_STAT, TIME_B]
      omega
    · refine (s.rg_portsLow hne).trans (if_neg ?_)
      rintro ⟨p, hp, hlo, hhi⟩
      rcases ho ⟨p, List.mem_range.1 hp⟩ with hbelow | habove
      · exact absurd hlo (Nat.not_le.2 hbelow)
      · exact absurd hhi (Nat.not_lt.2 habove)
    · rw [heq, s.portsOff_eq]
    · rw [heq, s.portsOff_of_none fun p hp => hports ⟨p, List.mem_range.1 hp⟩]
  · intro s w hsome
    exact ⟨_, congrArg Host.Outcome.next (s.domainReset_of_some hsome), rfl⟩
  · intro s w hoff
    refine congrArg Host.Outcome.next (if_pos (List.isEmpty_iff.2 (List.filter_eq_nil_iff.2 fun c hc => ?_)))
    have hbit := hoff ⟨c, List.mem_range.1 hc⟩
    simp only [Bool.and_eq_true, bne_iff_ne, not_and, ne_eq, Decidable.not_not]
    rintro ⟨⟨hset, hpd⟩, hstbd⟩
    refine Decidable.byContradiction fun hmon => ?_
    exact Bool.false_ne_true ((hbit hstbd hmon hset).symm.trans hpd)
  · intro s b v hheld
    obtain ⟨hheld', hvpp, hclk, hpd, hsel, hsource, hrun, hstate, hgates⟩ := s.porRelease_frame b.toNat v b.isLt hheld
    have hone : (if b.toNat = 1 then 2 else 1) = if b = 1 then 2 else 1 :=
      ite_congr (propext (BitVec.toNat_inj (y := (1 : BitVec 2)))) (fun _ => rfl) fun _ => rfl
    exact ⟨_, rfl, hheld', hvpp, hclk, hpd, hsel, hsource.trans hone, hrun, hstate, hgates⟩
  · intro s b v hheld
    refine congrArg Host.Outcome.next (if_pos ?_)
    rw [hheld]
    rfl

end Sys2Proof.Machine

/-! O48: a completion slot is any number, and its ring's event may land in the register of a channel's state. -/

namespace Sys2Proof.Machine

open Sys2Proof

/-- The ring whose pending bit is bit 0 of the state register of channel P. -/
def farRing : Nat := 32 * ((SAFEP_B - (EVT_B + 0x500)) / 4)

def sideDesc : Desc := { flags := 4, target := 0, tag := 0, op0 := 0, op1 := 0, op2 := 0, op3 := 0, op4 := 0, op5 := 0 }

/-- Channel P runs while an image is on its way for a command that holds a slot of that ring. -/
def loading : State :=
  { State.reset with
    regs := [(TOP_SUPPLY, 4), (SAFEP_B, 3), (rCfg farRing, 1), (rStat farRing, 1)]
    host := { taken := [{ src := .ring 3, opcode := 0x80, desc := sideDesc, cq := farRing }] }
    safe := { load := some (.ring 3, sideDesc, []) } }

/-- The dropped image completes BUSY: the event of its ring sets bit 0 of a state that has just become FAULT. -/
theorem safeState_supplyTrip_loading : (loading.supplyTrip 2).safeState false = 5 := by decide +kernel

/-- Refutes O48: VDD_STBD trips while an image is on its way, and channel P ends in 5 instead of FAULT. -/
theorem not_clocksAndSupplies : ¬ Obligations.ClocksAndSupplies := by
  rintro ⟨-, -, -, -, -, -, -, hstbd, -⟩
  obtain ⟨t, hexec, -, -, hfault, -⟩ := hstbd loading (by decide +kernel) (by decide +kernel)
  have ht : loading.supplyTrip 2 = t := Host.Outcome.next.inj hexec
  have hend := hfault (by decide +kernel)
  rw [← ht, safeState_supplyTrip_loading] at hend
  exact absurd hend (by decide)

end Sys2Proof.Machine

/-! Power domains and in-service tests: O49 (Tables 16.7 and 17.4a). -/

namespace Sys2Proof.Machine

open Sys2Proof

/-! ### Domains (R597, R598) -/

section
variable {s : State} {src : Src} {d : Desc}

theorem State.foldl_keeps {α : Type} {P : State → Prop} {f : State → α → State} (hf : ∀ s x, P s → P (f s x)) (l : List α) {s : State} (hs : P s) :
    P (l.foldl f s) :=
  List.foldlRecOn l f (motive := P) hs fun u hu x _ => hf u x hu

theorem Blind.canEnd {P : State → Prop} (h : Blind P) (hcan : ∀ (u : State) c, P u → P { u with can := c }) {s : State} (hs : P s)
    (n b : Nat) (st : St) (lo hi : Nat) : P (s.canEnd n b st lo hi) := by
  have hreg (u : State) (o : Nat) (w : Word) (hu : P u) : P (u.setRg (canReg n o) w) := h.reg _ _ _ (by simp only [canReg, CAN_B]; omega) hu
  have hbuf (u : State) (x : CanBuf) (hu : P u) : P (u.setCanB n b x) := hreg _ _ _ (hreg _ _ _ (hcan _ _ hu))
  unfold State.canEnd
  split
  · exact hs
  · exact h.complete (iteInduction (fun _ => hreg _ 4 _ (hbuf _ _ hs)) (fun _ => hbuf _ _ hs)) _ _ _ _ _ _

theorem Blind.canFlush {P : State → Prop} (h : Blind P) (hcan : ∀ (u : State) c, P u → P { u with can := c }) {s : State} (hs : P s) : P s.canFlush := by
  refine State.foldl_keeps (fun u n hu => ?_) _ hs
  have hend := State.foldl_keeps (P := P) (f := fun (s : State) (e : Nat × CanBuf) => s.canEnd n e.1 .pdOff 0 0)
    (fun v e hv => h.canEnd hcan hv n e.1 .pdOff 0 0) (u.canC n).bufs hu
  dsimp only
  split <;> split
  · exact h.complete (h.complete (hcan _ _ hend) _ _ _ _ _ _) _ _ _ _ _ _
  · exact h.complete (hcan _ _ hend) _ _ _ _ _ _
  · exact h.complete (hcan _ _ hend) _ _ _ _ _ _
  · exact hcan _ _ hend

/-- The lanes and lane registers of a domain, cleared. -/
def State.lanesBlank (s : State) (lo : Nat) : State :=
  { (s.clearLanes lo (lo + 8)) with regs := Tab.clearRange s.regs (LANEN_B + lo * 0x1000) (LANEN_B + (lo + 8) * 0x1000) }

def State.pagesCopied (s : State) (lo : Nat) (pages : Tab Nat) : State :=
  (List.range 8).foldl (fun s k => s.setLane (lo + k) { s.lane (lo + k) with man := pages }) s

def State.listsUnchecked (s : State) : State := (List.range 48).foldl (fun s k => s.setFld (LANE_B + 0x840 + 4 * k) 19 16 0xF) s

theorem State.clearLaneDom_eq (lo other : Nat) : s.clearLaneDom lo other =
    if (s.lanesBlank lo).powered (other / 8) then
      (s.lanesBlank lo).pagesCopied lo (((s.lanesBlank lo).lane other).man.filter (fun e => 0x1000 ≤ e.1))
    else (s.lanesBlank lo).listsUnchecked := by
  delta State.clearLaneDom State.pagesCopied State.listsUnchecked State.lanesBlank
  with_reducible_and_instances rfl

theorem State.boot_pagesCopied (s : State) (lo : Nat) (pages : Tab Nat) : (s.pagesCopied lo pages).boot = s.boot :=
  State.foldl_keeps (P := fun u => u.boot = s.boot) (f := fun (s : State) k => s.setLane (lo + k) { s.lane (lo + k) with man := pages })
    (fun _ _ hu => hu) _ rfl

theorem State.boot_listsUnchecked (s : State) : s.listsUnchecked.boot = s.boot :=
  State.foldl_keeps (P := fun u => u.boot = s.boot) (f := fun (s : State) k => s.setFld (LANE_B + 0x840 + 4 * k) 19 16 0xF) (fun _ _ hu => hu) _ rfl

theorem State.boot_clearLaneDom (lo other : Nat) : (s.clearLaneDom lo other).boot = s.boot := by
  rw [State.clearLaneDom_eq]
  split
  · exact State.boot_pagesCopied _ _ _
  · exact State.boot_listsUnchecked _

theorem blind_boot (x : BootSt) : Blind fun u => u.boot = x :=
  ⟨fun _ _ _ _ _ _ hu => hu, fun _ _ _ _ hu => hu, fun _ _ hu => hu, fun _ _ hu => hu, fun _ _ hu => hu⟩

/-- The local blocks cleared. -/
def State.localBlank (s : State) : State :=
  let s := { s with loc := {}, can := {}, regs := Tab.clearRange (Tab.clearRange s.regs LOCAL_B (LOCAL_B + 0x10000)) CAN_B (CAN_B + 0x10000) }
  { s with regs := Tab.clearRange s.regs (FB_B + 0x100) (FB_B + 0x200) }

theorem State.boot_localBlank (s : State) : s.localBlank.boot = s.boot := rfl

theorem State.clearLocal_eq : s.clearLocal = (s.gatesAll (-1)).localBlank.gatesAll 0 := by
  delta State.clearLocal State.localBlank
  with_reducible_and_instances rfl

theorem State.boot_clearLocal : s.clearLocal.boot = s.boot := by
  rw [State.clearLocal_eq, (State.drives_gatesAll _ 0).boot, State.boot_localBlank, (s.drives_gatesAll (-1)).boot]

/-- A domain's reset leaves the boot block alone. -/
theorem State.boot_clearDomain (c : Nat) : (s.clearDomain c).boot = s.boot := by
  have hports (l : List Nat) (f : Nat → Nat) : ((List.range 8).foldl (fun s p => ({ s with regs := Tab.clearRange s.regs (f p) (f p + 0x20) } : State))
      (s.portsOff l)).runStops.boot = s.boot := by
    obtain ⟨r, hclear⟩ := State.foldl_clearRange_eq (s.portsOff l) f 0x20 (List.range 8)
    obtain ⟨r', hstop⟩ := State.runStops_eq ((List.range 8).foldl (fun s p => ({ s with regs := Tab.clearRange s.regs (f p) (f p + 0x20) } : State))
      (s.portsOff l))
    rw [hstop, hclear]
    exact (s.drives_portsOff l).boot
  match c with
  | 0 => exact State.boot_clearLaneDom 0 8
  | 1 => exact State.boot_clearLaneDom 8 0
  | 2 => rfl
  | 3 => exact hports _ pCfg
  | 4 => exact hports _ fun p => pCfg (8 + p)
  | 5 => rfl
  | 6 => exact State.boot_clearLocal.trans ((blind_boot _).canFlush (fun _ _ hu => hu) rfl)
  | 7 => exact (s.drives_driveSides true s.safe.s.side 0).boot
  | _ + 8 => rfl

/-- The job of a domain is done: PDSTAT shows its new state. -/
def State.pdSet (s : State) (c : Nat) (on : Bool) : State := { s with boot := { s.boot with pdJobs := [] } }.putFlag TOP_PDSTAT c on

/-- What follows the switch of a domain. -/
def State.pdReset (s : State) (c : Nat) (on : Bool) : State :=
  if on then (s.clearDomain c).recordReset 8 else if c = 5 then s.clearHost else if c = 6 then s.canFlush.gatesAll (-1) else s

theorem State.pdDone_of_job {c : Nat} (hjob : s.boot.pdJobs = [(src, d)]) (htgt : d.tgt = c) : s.pdDone c =
    (((s.pdSet c (d.op0.toNat == 1)).pdReset c (d.op0.toNat == 1)).raise 240 (c + b2n (d.op0.toNat == 1) * 0x10000)).complete src 0x95 d .ok := by
  have hfind : s.boot.pdJobs.find? (fun j => j.2.tgt == c) = some (src, d) := by
    rw [hjob]
    exact List.find?_cons_of_pos (beq_iff_eq.2 htgt)
  have hfil : s.boot.pdJobs.filter (fun j => j.2.tgt != c) = [] := by
    rw [hjob, List.filter_cons_of_neg (by simp only [htgt, bne_self_eq_false, Bool.false_eq_true, not_false_eq_true]), List.filter_nil]
  simp only [State.pdDone, hfind, hfil] <;> rfl

theorem State.powered_pdSet {c : Nat} (hc : c < 8) (on : Bool) : (s.pdSet c on).powered c = on := State.flag_putFlag_self _ _ _ _ (by omega)

theorem State.pdSwitch_badTarget (hbad : 8 ≤ d.tgt ∨ d.tgt = 2) : s.pdSwitch src d = s.complete src 0x95 d .badTarget := by
  refine if_pos ?_
  rcases hbad with hbig | hstbd
  · rw [decide_eq_true hbig, Bool.true_or, Bool.true_or]
  · rw [decide_eq_true hstbd, Bool.or_true, Bool.true_or]

/-- A switch of a domain that software may switch: what is left to judge is its state and the jobs in progress. -/
theorem State.pdSwitch_of_own {on : Bool} (hlt : d.tgt < 7) (hstbd : d.tgt ≠ 2) (hpcie : d.tgt ≠ 5) (hop : d.op0.toNat = b2n on)
    (hpd : s.powered d.tgt = !on) : s.pdSwitch src d =
    if s.boot.pdJobs.any (fun j => j.2.tgt == d.tgt) || (!on && !s.offAllowed d.tgt) then s.complete src 0x95 d .busy
    else { s with boot := { s.boot with pdJobs := s.boot.pdJobs ++ [(src, d)] } } := by
  have htarget : ¬(8 ≤ d.tgt || d.tgt = 2 || (d.tgt = 7 && !s.isIC)) = true := by
    rw [decide_eq_false (show ¬8 ≤ d.tgt by omega), decide_eq_false hstbd, decide_eq_false (show ¬d.tgt = 7 by omega), Bool.false_and]
    decide
  have haccess (p : Bool) : ¬(d.tgt = 7 || (d.tgt = 5 && p)) = true := by
    rw [decide_eq_false (show ¬d.tgt = 7 by omega), decide_eq_false hpcie, Bool.false_and]
    decide
  have hrange : ¬1 < d.op0.toNat := by
    rw [hop]
    cases on <;> decide
  have hchange : ¬(s.powered d.tgt == (d.op0.toNat == 1)) = true := by
    rw [hop, hpd]
    cases on <;> decide
  have hoff : decide (d.op0.toNat = 0) = !on := by
    rw [hop]
    cases on <;> rfl
  refine (if_neg htarget).trans ((if_neg (haccess _)).trans ((if_neg hrange).trans ((if_neg hchange).trans ?_)))
  rw [hoff]

/-! ### In-service tests (R581, R582) -/

theorem State.startTest_of_free {opc : Nat} {okTarget pre : Bool} (htarget : okTarget = true) (hpre : pre = true)
    (hfree : s.boot.tests.any (fun t => t.opc == opc && t.desc.tgt == d.tgt) = false) : s.startTest src opc d okTarget pre =
    { s with boot := { s.boot with tests := s.boot.tests ++ [{ src := src, opc := opc, desc := d }] } } := by
  simp only [State.startTest, htarget, hpre, hfree, Bool.not_true, Bool.false_or, Bool.false_eq_true, if_false]

theorem State.startTest_of_busy {opc : Nat} {okTarget pre : Bool} (htarget : okTarget = true) (hpre : pre = false) :
    s.startTest src opc d okTarget pre = s.complete src opc d .busy := by
  simp only [State.startTest, htarget, hpre, Bool.not_true, Bool.not_false, Bool.true_or, Bool.false_eq_true, if_false, if_true]

theorem State.startTest_of_badTarget {opc : Nat} {okTarget pre : Bool} (htarget : okTarget = false) :
    s.startTest src opc d okTarget pre = s.complete src opc d .badTarget := by
  simp only [State.startTest, htarget, Bool.not_false, if_true]

/-- The test has ended: its job is gone, and a hart under test returns to dispatch. -/
def State.tested (s : State) (opc tgt : Nat) : State :=
  { s with boot := { s.boot with tests := [] }
           cpu := { s.cpu with testing := s.cpu.testing.filter (fun h => !(opc == 0x93 && h == tgt)) } }

theorem State.testDone_of_job {x : TestJob} {opc : Nat} (r : Nat) (hjob : s.boot.tests = [x]) (hopc : x.opc = opc) :
    s.testDone opc x.desc.tgt r =
      ((if opc = 0x92 && !testPassed opc x.desc r then (s.tested opc x.desc.tgt).dropLane x.desc.tgt else s.tested opc x.desc.tgt).raise
        (if testPassed opc x.desc r then 235 else 236) opc).complete x.src opc x.desc .ok r := by
  have hfind : s.boot.tests.find? (fun t => t.opc == opc && t.desc.tgt == x.desc.tgt) = some x := by
    rw [hjob]
    exact List.find?_cons_of_pos (by rw [hopc, beq_self_eq_true, beq_self_eq_true, Bool.and_self])
  have herase : s.boot.tests.erase x = [] := by rw [hjob, List.erase_cons_head]
  simp only [State.testDone, hfind, herase] <;> rfl

theorem State.testDone_of_other {x : TestJob} {opc : Nat} (r : Nat) (hjob : s.boot.tests = [x]) (hopc : x.opc = opc) (hlane : opc ≠ 0x92) :
    s.testDone opc x.desc.tgt r =
      ((s.tested opc x.desc.tgt).raise (if testPassed opc x.desc r then 235 else 236) opc).complete x.src opc x.desc .ok r := by
  rw [s.testDone_of_job r hjob hopc, decide_eq_false hlane, Bool.false_and, if_neg Bool.false_ne_true]

theorem State.testDone_of_none {opc tgt r : Nat} (hnone : s.boot.tests = []) : s.testDone opc tgt r = s := by
  simp only [State.testDone, hnone, List.find?_nil]

/-- TEST_HART takes a customer hart out of dispatch (R520). -/
theorem State.testHart_of_free (htgt : d.tgt = 2 ∨ d.tgt = 3) (hfree : s.boot.tests = []) (htesting : s.cpu.testing = []) : s.testHart src d =
    { s with
      boot := { s.boot with tests := [{ src := src, opc := 0x93, desc := d }] }
      cpu := { s.cpu with testing := [d.tgt] } } := by
  have htarget : (d.tgt == 2 || d.tgt == 3) = true := by
    rcases htgt with htgt | htgt <;> rw [htgt] <;> rfl
  have hstart := State.startTest_of_free (s := s) (src := src) (d := d) (opc := 0x93) htarget (pre := true) rfl (by rw [hfree]; rfl)
  simp only [State.testHart, hstart, hfree, htesting, List.nil_append, List.any_cons, List.any_nil, Bool.or_false, beq_self_eq_true, Bool.and_self,
    List.contains_nil, Bool.not_false, if_true]

/-! ### Memory errors (R508, Table 14.7) -/

theorem State.bank_arg (m : Nat) (b : BitVec 16) : m + b.toNat % 0x10000 * 0x10000 = m + b.toNat * 0x10000 := by
  rw [Nat.mod_eq_of_lt b.isLt]

theorem State.eccError_of_soft (m : Nat) (b : BitVec 16) (word : Nat) (hart : Option (Fin 4)) :
    s.eccError m b.toNat word true hart = s.raise 246 (m + b.toNat * 0x10000) :=
  congrArg (s.raise 246) (State.bank_arg m b)

/-- What an uncorrectable error asks for, by the memory it is in. -/
def State.eccTaken (s : State) (m word : Nat) (hart : Option (Fin 4)) : State :=
  if m = 0 then s.diagFail 4
  else if m = 1 then (match hart with | some h => s.hartTrap h.val 5 (ofNat (0x10100000 + word % 2 ^ 18 * 4)) | none => s)
  else if m = 2 then { s with mem := { s.mem with learn := Tab.set 0 s.mem.learn word 0 } }.diagFail 5
  else if m = 3 || m = 5 || m = 6 then s.diagFail 5
  else s

theorem State.eccError_of_hard (m : Nat) (b : BitVec 16) (word : Nat) (hart : Option (Fin 4)) :
    s.eccError m b.toNat word false hart = (s.raise 247 (m + b.toNat * 0x10000)).eccTaken m word hart := by
  rw [← State.bank_arg]
  rfl

theorem State.eccTaken_customer (word : Nat) (h : Fin 4) :
    s.eccTaken 1 word (some h) = s.hartTrap h.val 5 (ofNat (0x10100000 + word % 2 ^ 18 * 4)) := rfl

/-- A learning bin that cannot be corrected reads 0 (R266). -/
def State.binLost (s : State) (word : Nat) : State := { s with mem := { s.mem with learn := Tab.set 0 s.mem.learn word 0 } }

theorem State.eccTaken_learn (word : Nat) (hart : Option (Fin 4)) :
    s.eccTaken 2 word hart = (s.binLost word).diagFail 5 := rfl

theorem State.eccTaken_checked {m : Nat} (word : Nat) (hart : Option (Fin 4)) (hm : m = 0 ∨ m = 3 ∨ m = 5 ∨ m = 6) :
    s.eccTaken m word hart = s.diagFail (if m = 0 then 4 else 5) := by
  rcases hm with rfl | rfl | rfl | rfl <;> rfl

theorem State.eccTaken_quiet {m : Nat} (word : Nat) (hart : Option (Fin 4)) (hm : m = 4 ∨ m = 7) : s.eccTaken m word hart = s := by
  rcases hm with rfl | rfl <;> rfl

end

/-- Settles O49: domains by their job, tests by theirs, memory errors by their class. -/
theorem domainsAndTests : Obligations.DomainsAndTests := by
  refine ⟨?_, ?_, ?_, ?_, ?_, ?_, ?_, ?_, ?_, ?_, ?_, ?_, ?_, ?_, ?_, ?_, ?_, ?_, ?_, ?_, ?_, ?_, ?_, ?_, ?_⟩
  · intro s src d hacc hlt hstbd hpcie hop hpd hfree
    have hsw := State.pdSwitch_of_own (s := s) (src := src) (on := true) hlt hstbd hpcie (congrArg BitVec.toNat hop) hpd
    rw [hfree] at hsw
    exact congrArg Host.Outcome.next ((State.cmd_soon_of_accepts hacc).trans (hsw.trans (if_neg Bool.false_ne_true)))
  · intro s src d hacc hlt hstbd hpcie hop hpd hfree hallowed
    have hsw := State.pdSwitch_of_own (s := s) (src := src) (on := false) hlt hstbd hpcie (congrArg BitVec.toNat hop) hpd
    rw [hfree, hallowed] at hsw
    exact congrArg Host.Outcome.next ((State.cmd_soon_of_accepts hacc).trans (hsw.trans (if_neg Bool.false_ne_true)))
  · intro s src d hacc hlt hstbd hpcie hop hpd hallowed
    have hsw := State.pdSwitch_of_own (s := s) (src := src) (on := false) hlt hstbd hpcie (congrArg BitVec.toNat hop) hpd
    rw [hallowed] at hsw
    exact congrArg Host.Outcome.next ((State.cmd_soon_of_accepts hacc).trans (hsw.trans (if_pos (Bool.or_true _))))
  · intro s src d hacc hbad
    exact congrArg Host.Outcome.next ((State.cmd_soon_of_accepts hacc).trans (State.pdSwitch_badTarget hbad))
  · intro s c src d hjob htgt hpcie hlocal hop
    have heq := State.pdDone_of_job hjob htgt
    have hreset : (s.pdSet c.val false).pdReset c.val false = s.pdSet c.val false :=
      (if_neg Bool.false_ne_true).trans ((if_neg hpcie).trans (if_neg hlocal))
    rw [show (d.op0.toNat == 1) = false by rw [hop]; rfl, hreset] at heq
    exact ⟨_, congrArg Host.Outcome.next heq, State.powered_pdSet c.isLt false, rfl, rfl, rfl⟩
  · intro s c src d hjob htgt hop
    have heq := State.pdDone_of_job hjob htgt
    rw [show (d.op0.toNat == 1) = true by rw [hop]; rfl] at heq
    have hreset : (s.pdSet c.val true).pdReset c.val true = ((s.pdSet c.val true).clearDomain c.val).recordReset 8 := if_pos rfl
    rw [hreset] at heq
    exact ⟨_, congrArg Host.Outcome.next heq, congrArg BootSt.pdJobs (State.boot_clearDomain c.val)⟩
  · intro s c src d hjob htgt hlocal hop
    have heq := State.pdDone_of_job hjob htgt
    have hreset : (s.pdSet c.val false).pdReset c.val false = (s.pdSet c.val false).canFlush.gatesAll (-1) :=
      (if_neg Bool.false_ne_true).trans ((if_neg (by omega)).trans (if_pos hlocal))
    rw [show (d.op0.toNat == 1) = false by rw [hop]; rfl, hreset] at heq
    have hblind : Blind fun u => u.rg TOP_PDSTAT = (s.pdSet c.val false).rg TOP_PDSTAT :=
      ⟨fun _ _ _ _ _ _ hu => hu, fun _ _ _ ho hu => (State.rg_setRg_ne _ _ _ _ (by simp only [TOP_PDSTAT, TOP_B]; omega)).trans hu, fun _ _ hu => hu,
        fun _ _ hu => hu, fun _ _ hu => hu⟩
    refine ⟨_, congrArg Host.Outcome.next heq, ?_, ?_, fun n k => State.gate_mem_gatesAll _ _ n k⟩
    · refine (congrArg (bit · c.val) (((State.drives_gatesAll _ (-1)).rg _ (by decide)).trans
        (hblind.canFlush (fun _ _ hu => hu) rfl))).trans (State.powered_pdSet c.isLt false)
    · exact congrArg BootSt.pdJobs ((State.drives_gatesAll _ (-1)).boot.trans ((blind_boot _).canFlush (fun _ _ hu => hu) rfl))
  · intro s c src d hjob htgt hpcie hop
    have heq := State.pdDone_of_job hjob htgt
    have hreset : (s.pdSet c.val false).pdReset c.val false = (s.pdSet c.val false).clearHost :=
      (if_neg Bool.false_ne_true).trans (if_pos hpcie)
    rw [show (d.op0.toNat == 1) = false by rw [hop]; rfl, hreset] at heq
    refine ⟨_, congrArg Host.Outcome.next heq, ?_, rfl, rfl, rfl, rfl⟩
    exact (congrArg (bit · c.val) (State.rg_clearHost_other _ (Or.inl (by decide)))).trans (State.powered_pdSet c.isLt false)
  · intro s c hnone
    refine congrArg Host.Outcome.next ?_
    simp only [State.pdDone, hnone, List.find?_nil]
  · intro s src d hacc hlt hpd hjobs hplan hfree
    refine congrArg Host.Outcome.next ((State.cmd_soon_of_accepts hacc).trans ?_)
    refine (if_neg (by omega)).trans ((if_neg (by rw [hpd]; decide)).trans ((State.startTest_of_free rfl ?_ ?_).trans ?_))
    · rw [hplan, hjobs]
      rfl
    · rw [hfree]
      rfl
    · rw [hfree]
      rfl
  · intro s src d hacc hlt hpd hplan
    refine congrArg Host.Outcome.next ((State.cmd_soon_of_accepts hacc).trans ?_)
    refine (if_neg (by omega)).trans ((if_neg (by rw [hpd]; decide)).trans (State.startTest_of_busy rfl ?_))
    rw [hplan]
    rfl
  · intro s src d hacc htgt hfree htesting
    refine congrArg Host.Outcome.next ((State.cmd_soon_of_accepts hacc).trans ?_)
    exact State.testHart_of_free htgt hfree htesting
  · intro s src d hacc hbank hfree
    refine congrArg Host.Outcome.next ((State.cmd_soon_of_accepts hacc).trans ((State.startTest_of_free (decide_eq_true hbank) ?_ ?_).trans ?_))
    · rw [hfree]
      rfl
    · rw [hfree]
      rfl
    · rw [hfree]
      rfl
  · intro s src d hacc hbank
    exact congrArg Host.Outcome.next ((State.cmd_soon_of_accepts hacc).trans
      (State.startTest_of_badTarget (decide_eq_false (Nat.not_le.2 hbank))))
  · intro s src d hacc hlt hpd hop hplan hfree
    refine congrArg Host.Outcome.next ((State.cmd_soon_of_accepts hacc).trans ?_)
    refine (if_neg (by omega)).trans ((if_neg (by rw [hpd]; decide)).trans ((if_neg (by omega)).trans ((State.startTest_of_free rfl ?_ ?_).trans ?_)))
    · rw [hplan]
      rfl
    · rw [hfree]
      rfl
    · rw [hfree]
      rfl
  · intro s x r hjob hopc
    have heq := State.testDone_of_other r.toNat hjob hopc (by decide)
    refine ⟨s.tested 0x93 x.desc.tgt, congrArg Host.Outcome.next (heq.trans ?_), rfl, ?_, rfl, rfl⟩
    · rw [show (if testPassed 0x93 x.desc r.toNat = true then 235 else 236) = if r.toNat % 8 = 7 then 235 else 236 from ite_congr (propext beq_iff_eq) (fun _ => rfl) fun _ => rfl]
    · refine List.filter_congr fun h _ => ?_
      rw [beq_self_eq_true, Bool.true_and]
      rfl
  · intro s x o r hjob hopc hhart hlane
    have heq := State.testDone_of_other r.toNat hjob hopc (fun h => hlane (BitVec.toNat_inj.1 h))
    exact ⟨s.tested o.toNat x.desc.tgt, congrArg Host.Outcome.next heq, rfl, rfl, rfl⟩
  · intro s x r hjob hopc hpass
    have hok : testPassed 0x92 x.desc r.toNat = true := beq_iff_eq.2 hpass
    have heq := State.testDone_of_job r.toNat hjob hopc
    rw [hok] at heq
    exact ⟨s.tested 0x92 x.desc.tgt, congrArg Host.Outcome.next heq, rfl, rfl, rfl⟩
  · intro s x r hjob hopc hfail
    have hbad : testPassed 0x92 x.desc r.toNat = false := beq_eq_false_iff_ne.2 hfail
    have heq := State.testDone_of_job r.toNat hjob hopc
    rw [hbad] at heq
    exact ⟨s.tested 0x92 x.desc.tgt, rfl, rfl, congrArg Host.Outcome.next heq⟩
  · intro s o t r hnone
    exact congrArg Host.Outcome.next (State.testDone_of_none hnone)
  · intro s m b w h
    exact congrArg Host.Outcome.next (State.eccError_of_soft m.val b w.toNat h)
  · intro s b w h
    have hexec : exec (.memoryEccError 1 b w false (some h)) s = .next (s.eccError 1 b.toNat w.toNat false (some h)) := rfl
    rw [hexec, State.eccError_of_hard, State.eccTaken_customer]
  · intro s b w h
    have hexec : exec (.memoryEccError 2 b w false h) s = .next (s.eccError 2 b.toNat w.toNat false h) := rfl
    rw [hexec, State.eccError_of_hard, State.eccTaken_learn]
    refine ⟨(s.raise 247 (2 + b.toNat * 0x10000)).binLost w.toNat, ?_, rfl, rfl⟩
    exact congrArg (fun m : MemSt => { m with learn := Tab.set 0 m.learn w.toNat 0 }) (State.raise_mem s 247 _ (by decide))
  · intro s m b w h hm
    exact congrArg Host.Outcome.next ((State.eccError_of_hard m.val b w.toNat h).trans (State.eccTaken_checked w.toNat h hm))
  · intro s m b w h hm
    exact congrArg Host.Outcome.next ((State.eccError_of_hard m.val b w.toNat h).trans (State.eccTaken_quiet w.toNat h hm))

end Sys2Proof.Machine

/-! Images and fuses: O50 (Tables 17.5, 17.6 and 17.11). -/

namespace Sys2Proof.Machine

open Sys2Proof

/-! ### Numbers in an image -/

theorem ofLE_lt (l : List Byte) : ofLE l < 2 ^ (8 * l.length) := by
  induction l with
  | nil => decide
  | cons b l ih =>
    have hb := b.isLt
    rw [List.length_cons, Nat.mul_add, Nat.pow_add]
    simp only [ofLE]
    omega

theorem leAt_lt (l : List Byte) (off n : Nat) : leAt l off n < 2 ^ (8 * n) := by
  refine Nat.lt_of_lt_of_le (ofLE_lt _) (Nat.pow_le_pow_right (by decide) ?_)
  simp only [slice, List.length_append, List.length_replicate, List.length_take]
  omega

/-- A failure code of Table 17.4 fits its field. -/
theorem verifyImage_le (w : Nat) (h img : List Byte) : verifyImage w h img ≤ 5 := by
  unfold verifyImage
  dsimp only
  split
  · decide
  · split
    · decide
    · split
      · decide
      · split
        · decide
        · split <;> decide

/-! ### A boot (R592) -/

section
variable (s : State) (l : List Byte)

/-- The sections of an image in SRAM, and the harts that run it. -/
def State.imageLoaded : State :=
  let sup := leAt l 12 4
  let cust := leAt l 20 4
  let body := l.drop 256
  let mem := wordCells 0 (sup / 4 + 1) 0 (body.take sup) ++ wordCells 0x40000 (cust / 4 + 1) 0 ((body.drop sup).take cust)
  let run := if cust = 0 then [0, 1] else [0, 1, 2, 3]
  { s with boot := { s.boot with booted := l }, cpu := { s.cpu with sram := mem, running := run, custImage := decide (cust ≠ 0) } }

/-- Harts 0 and 1 begin at the supervisor's entry, harts 2 and 3 at the customer's, when there is one. -/
def State.hartsEntered : State :=
  let t := (s.hartAt 0 (0x10000000 + leAt l 16 4)).hartAt 1 (0x10000000 + leAt l 16 4)
  if leAt l 20 4 = 0 then t else (t.hartAt 2 t.custEntry).hartAt 3 (t.hartAt 2 t.custEntry).custEntry

/-- TOP_BOOT shows what runs. -/
def State.bootShown (slot fallback : Bool) : State :=
  let s := ((s.setFld TOP_BOOT 2 0 3).setFld TOP_BOOT 3 3 (b2n slot)).setFld TOP_BOOT 7 7 (b2n fallback)
  let s := s.setFld TOP_BOOT 4 4 (b2n (s.groupState 6 == 0))
  s.setFld TOP_BOOT 31 16 (leAt l 6 2)

theorem State.bootImage_eq (slot fallback : Bool) :
    s.bootImage l slot fallback = ((s.imageLoaded l).hartsEntered l).bootShown l slot fallback := rfl

/-- The harts' own state is set. -/
def State.withHarts (h : List (Nat × HartSt)) : State := { s with cpu := { s.cpu with harts := h } }

theorem State.hartAt_withHarts (n p : Nat) {t : State} (ht : ∃ h, t = s.withHarts h) : ∃ h, t.hartAt n p = s.withHarts h := by
  obtain ⟨h, rfl⟩ := ht
  exact ⟨Tab.set {} h n { pc := ofNat p }, rfl⟩

/-- The entry of the harts touches the harts' own state alone. -/
theorem State.hartsEntered_eq : ∃ h, s.hartsEntered l = s.withHarts h := by
  have hsup := s.hartAt_withHarts 1 (0x10000000 + leAt l 16 4) (s.hartAt_withHarts 0 (0x10000000 + leAt l 16 4) ⟨s.cpu.harts, rfl⟩)
  unfold State.hartsEntered
  exact iteInduction (motive := fun t : State => ∃ h, t = s.withHarts h) (fun _ => hsup)
    (fun _ => s.hartAt_withHarts 3 _ (s.hartAt_withHarts 2 _ hsup))

theorem State.pc_supervisor : ((s.hartsEntered l).hart 0).pc = ofNat (0x10000000 + leAt l 16 4) := by
  unfold State.hartsEntered
  dsimp only
  have hentry (t : State) (p : Nat) : (t.hartAt 0 p).hart 0 = { pc := ofNat p } := Tab.get_set_self _ _ _ _
  have hother (t : State) {h : Nat} (p : Nat) (hne : 0 ≠ h) : (t.hartAt h p).hart 0 = t.hart 0 := Tab.get_set_ne _ _ _ _ _ _ hne
  split
  · rw [hother _ _ (by decide), hentry]
  · rw [hother _ _ (by decide), hother _ _ (by decide), hother _ _ (by decide), hentry]

theorem State.pc_customer (hcust : leAt l 20 4 ≠ 0) : (((s.imageLoaded l).hartsEntered l).hart 2).pc = ofNat (0x10100000 + leAt l 24 4) := by
  unfold State.hartsEntered
  dsimp only
  rw [if_neg hcust]
  exact congrArg HartSt.pc ((Tab.get_set_ne _ _ _ _ _ _ (by decide)).trans (Tab.get_set_self _ _ _ _))

theorem State.bootShown_fields (slot fallback : Bool) : (s.bootShown l slot fallback).fld TOP_BOOT 2 0 = 3 ∧
    (s.bootShown l slot fallback).flag TOP_BOOT 3 = slot ∧ (s.bootShown l slot fallback).fld TOP_BOOT 31 16 = leAt l 6 2 := by
  refine ⟨?_, ?_, ?_⟩
  · refine (State.fld_setFld_other _ _ _ _ _ _ _ (by decide) (by decide) (by decide)).trans ((State.fld_setFld_other _ _ _ _ _ _ _ (by decide) (by decide)
      (by decide)).trans ((State.fld_setFld_other _ _ _ _ _ _ _ (by decide) (by decide) (by decide)).trans ((State.fld_setFld_other _ _ _ _ _ _ _
        (by decide) (by decide) (by decide)).trans (State.fld_setFld_self _ _ _ _ _ (by decide) (by decide)))))
  · refine (State.flag_setFld_other _ _ _ _ _ _ (by decide) (by decide) (by decide)).trans ((State.flag_setFld_other _ _ _ _ _ _ (by decide) (by decide)
      (by decide)).trans ((State.flag_setFld_other _ _ _ _ _ _ (by decide) (by decide) (by decide)).trans (State.flag_putFlag_self _ _ _ _ (by decide))))
  · exact (State.fld_setFld_self _ _ _ _ _ (by decide) (by decide)).trans (Nat.mod_eq_of_lt (leAt_lt l 6 2))

/-- What a boot leaves: the image's harts, its entries and version, and nothing else of the chip moved. -/
theorem State.bootImage_frame (slot fallback : Bool) : (s.bootImage l slot fallback).fld TOP_BOOT 2 0 = 3 ∧
    (s.bootImage l slot fallback).flag TOP_BOOT 3 = slot ∧ (s.bootImage l slot fallback).fld TOP_BOOT 31 16 = leAt l 6 2 ∧
    (s.bootImage l slot fallback).boot = { s.boot with booted := l } ∧
    (s.bootImage l slot fallback).cpu.running = (if leAt l 20 4 = 0 then [0, 1] else [0, 1, 2, 3]) ∧
    (s.bootImage l slot fallback).cpu.custImage = decide (leAt l 20 4 ≠ 0) ∧
    ((s.bootImage l slot fallback).hart 0).pc = ofNat (0x10000000 + leAt l 16 4) ∧
    (leAt l 20 4 ≠ 0 → ((s.bootImage l slot fallback).hart 2).pc = ofNat (0x10100000 + leAt l 24 4)) ∧
    (s.bootImage l slot fallback).net = s.net ∧ (s.bootImage l slot fallback).out = s.out := by
  rw [s.bootImage_eq l slot fallback]
  obtain ⟨hstate, hslot, hver⟩ := ((s.imageLoaded l).hartsEntered l).bootShown_fields l slot fallback
  have hshown (t : State) : (t.bootShown l slot fallback).boot = t.boot ∧ (t.bootShown l slot fallback).cpu = t.cpu ∧
      (t.bootShown l slot fallback).net = t.net ∧ (t.bootShown l slot fallback).out = t.out := ⟨rfl, rfl, rfl, rfl⟩
  obtain ⟨hboot, hcpu, hnet, hout⟩ := hshown ((s.imageLoaded l).hartsEntered l)
  have hhart (h : Nat) : (((s.imageLoaded l).hartsEntered l).bootShown l slot fallback).hart h = ((s.imageLoaded l).hartsEntered l).hart h :=
    congrArg (fun c : CpuSt => Tab.get ({} : HartSt) c.harts h) hcpu
  rw [hhart 0, hhart 2, hboot, hcpu, hnet, hout]
  refine ⟨hstate, hslot, hver, ?_, ?_, ?_, State.pc_supervisor _ l, s.pc_customer l, ?_, ?_⟩ <;>
    obtain ⟨h, heq⟩ := (s.imageLoaded l).hartsEntered_eq l <;> rw [heq] <;> rfl

end

/-! ### Verification and staging (R593, R594, R596) -/

section
variable {s : State} {src : Src} {d : Desc}

theorem State.imageVerify_of_good {b : Bool} {l : List Byte} (hwait : s.fld TOP_BOOT 2 0 = 1) (hgood : s.checkImage l = 0) :
    s.imageVerify b (some l) = s.bootImage l b (b != s.boot.prefB) := by
  simp only [State.imageVerify, hwait, hgood, bne_self_eq_false, Bool.false_eq_true, if_false, if_true, Option.getD_some]

/-- A source that fails: the code is shown and the attempt is counted. -/
def State.sourceFailed (s : State) (code : Nat) : State :=
  { s.setFld TOP_BOOT 15 8 code with boot := { s.boot with tries := s.boot.tries + 1 } }

/-- The failure code of a source: no image reads as 6. -/
def State.sourceCode (s : State) (l : Option (List Byte)) : Nat := (l.map s.checkImage).getD 6

theorem State.sourceCode_le (l : Option (List Byte)) : s.sourceCode l ≤ 6 := by
  cases l with
  | none => exact Nat.le_refl 6
  | some l => exact Nat.le_trans (verifyImage_le _ _ _) (by decide)

theorem State.imageVerify_of_bad {b : Bool} {l : Option (List Byte)} (hwait : s.fld TOP_BOOT 2 0 = 1) (hbad : s.sourceCode l ≠ 0)
    (hfirst : s.boot.tries = 0) : s.imageVerify b l = s.sourceFailed (s.sourceCode l) := by
  have hlater : ¬2 ≤ (s.sourceFailed (s.sourceCode l)).boot.tries := by
    show ¬2 ≤ s.boot.tries + 1
    rw [hfirst]
    decide
  have hstay : ¬(s.fld TOP_BOOT 2 0 != 1) = true := by
    rw [hwait]
    decide
  cases l with
  | none => exact (if_neg hstay).trans ((if_neg hbad).trans (if_neg hlater))
  | some l => exact (if_neg hstay).trans ((if_neg hbad).trans (if_neg hlater))

/-- The image that FW_STAGE takes: its length is OP2, as far as the data reach. -/
abbrev stagedImage (d : Desc) (l : List Byte) : List Byte := slice l 0 (min d.op2.toNat l.length)

theorem State.fwStage_of_good {l : List Byte} (hfree : s.boot.fwJob = none) (hrun : s.fld TOP_BOOT 2 0 ≠ 2) (hflash : s.boot.hasFlash = true)
    (hgood : s.checkImage (stagedImage d l) = 0) :
    s.fwStage src d (some l) = { s with boot := { s.boot with fwJob := some (src, d, stagedImage d l) } } := by
  simp only [State.fwStage, hfree, beq_eq_false_iff_ne.2 hrun, hflash, hgood, Option.isSome_none, Bool.not_false, Bool.not_true, Bool.true_and,
    bne_self_eq_false, Bool.false_eq_true, if_false]

theorem State.fwStage_of_wait {l : List Byte} (hfree : s.boot.fwJob = none) (hwait : s.fld TOP_BOOT 2 0 = 2)
    (hgood : s.checkImage (stagedImage d l) = 0) :
    s.fwStage src d (some l) = (s.bootImage (stagedImage d l) false false).complete src 0xA1 d .ok := by
  simp only [State.fwStage, hfree, hwait, hgood, Option.isSome_none, beq_self_eq_true, Bool.not_true, Bool.false_and, bne_self_eq_false,
    Bool.false_eq_true, if_false, if_true]

theorem State.fwStage_of_bad {l : List Byte} (hfree : s.boot.fwJob = none) (hrun : s.fld TOP_BOOT 2 0 ≠ 2) (hflash : s.boot.hasFlash = true)
    (hbad : s.checkImage (stagedImage d l) ≠ 0) : s.fwStage src d (some l) =
    (s.setFld TOP_BOOT 15 8 (s.checkImage (stagedImage d l))).complete src 0xA1 d .authFail (s.checkImage (stagedImage d l)) := by
  simp only [State.fwStage, hfree, beq_eq_false_iff_ne.2 hrun, hflash, bne_iff_ne.2 hbad, Option.isSome_none, Bool.not_false, Bool.not_true,
    Bool.and_false, Bool.false_eq_true, if_false, if_true]

theorem State.fwStage_of_unread (hfree : s.boot.fwJob = none) (hrun : s.fld TOP_BOOT 2 0 ≠ 2) (hflash : s.boot.hasFlash = true) :
    s.fwStage src d none = s.complete src 0xA1 d .dmaFail := by
  simp only [State.fwStage, hfree, beq_eq_false_iff_ne.2 hrun, hflash, Option.isSome_none, Bool.not_false, Bool.not_true, Bool.and_false,
    Bool.false_eq_true, if_false]

/-- The slot that is not booted is written. -/
def State.slotWritten (s : State) (l : List Byte) : State :=
  ({ s with boot := { s.boot with fwJob := none } } : State).emit (.flash (if !s.flag TOP_BOOT 3 then 0x080000 else 0) l)

theorem State.fwStageDone_of_job {l : List Byte} {readback : Bool} (hjob : s.boot.fwJob = some (src, d, l)) : s.fwStageDone readback =
    if readback then
      (({ s.slotWritten l with boot := { (s.slotWritten l).boot with prefB := !s.flag TOP_BOOT 3 } } : State).emit
        (.flash 0x0FF0000 (leBytes 4 (b2n (!s.flag TOP_BOOT 3))))).complete src 0xA1 d .ok
    else (s.slotWritten l).complete src 0xA1 d .authFail 6 := by
  simp only [State.fwStageDone, hjob] <;> rfl

theorem State.fwStageDone_of_none {readback : Bool} (hnone : s.boot.fwJob = none) : s.fwStageDone readback = s := by
  simp only [State.fwStageDone, hnone]

/-! ### Fuses (R600, R604, R605) -/

theorem State.keelProgram_of_free {g : Nat} (hgroup : groupOf d.tgt = some g) (hg0 : g ≠ 0) (hg7 : g ≠ 7) (hfree : s.boot.keelJob = none) :
    s.keelProgram src d =
    if !s.boot.vpp || s.boot.vppBoot then s.keelEnd src d 1 .busy
    else if s.wordClass d.tgt != 0 then s.keelEnd src d 2 .badOperand
    else if s.groupState g = 2 then s.keelEnd src d 3 .badOperand
    else if 0x30 ≤ d.tgt && (d.op0.toNat != lockMagic || !(groupWords g).all (fun x => s.wordClass x == 1)) then s.keelEnd src d 5 .badOperand
    else ({ s with boot := { s.boot with keelJob := some (src, d) } }).setRg KEEL_PROG (ofNat (1 + d.tgt % 64 * 256)) := by
  simp only [State.keelProgram, hgroup, hg0, hg7, hfree, decide_false, Bool.or_self, Option.isSome_none, Bool.false_eq_true, if_false]

/-- The fuses of the word as they were found set. -/
def State.fusesRead (s : State) (d : Desc) (t c : Word) : State :=
  { s with boot := { s.boot with keelJob := none, fuseT := Tab.set 0 s.boot.fuseT d.tgt t.toNat, fuseC := Tab.set 0 s.boot.fuseC d.tgt c.toNat } }

/-- A group that its lock word has locked shows its fused value (R20). -/
def State.lockShown (s : State) (d : Desc) : State := s.loadFused (fun g => d.tgt == 0x30 + g && s.groupState g == 2)

theorem State.keelDone_of_job {t c : Word} (hjob : s.boot.keelJob = some (src, d)) : s.keelDone t c =
    if ((s.fusesRead d t c).lockShown d).wordClass d.tgt = 1 && ((s.fusesRead d t c).lockShown d).wordVal d.tgt = d.op0.toNat then
      ((s.fusesRead d t c).lockShown d).keelEnd src d 0 .ok
    else ((s.fusesRead d t c).lockShown d).keelEnd src d 4 .timeout := by
  simp only [State.keelDone, hjob] <;> rfl

theorem State.boot_lockShown : (s.lockShown d).boot = s.boot := by
  obtain ⟨r, heq⟩ := s.loadFused_eq (fun g => d.tgt == 0x30 + g && s.groupState g == 2)
  rw [State.lockShown, heq]

theorem State.out_lockShown : (s.lockShown d).out = s.out := by
  obtain ⟨r, heq⟩ := s.loadFused_eq (fun g => d.tgt == 0x30 + g && s.groupState g == 2)
  rw [State.lockShown, heq]

theorem State.fuses_fusesRead (t c : Word) : Tab.get 0 ((s.fusesRead d t c).lockShown d).boot.fuseT d.tgt = t.toNat ∧
    Tab.get 0 ((s.fusesRead d t c).lockShown d).boot.fuseC d.tgt = c.toNat := by
  rw [State.boot_lockShown]
  exact ⟨Tab.get_set_self _ _ _ _, Tab.get_set_self _ _ _ _⟩

theorem State.keelEnd_of_word {code : Nat} {st : St} (htgt : d.tgt < 64) : s.keelEnd src d code st =
    ((s.setRg KEEL_PROG (ofNat (d.tgt * 256 + code * 65536))).raise 250 (d.tgt + code * 65536)).complete src 0xA0 d st code := by
  rw [State.keelEnd, Nat.mod_eq_of_lt htgt, Nat.mod_eq_of_lt (show d.tgt < 0x10000 by omega)]

/-- A word and its complement are a valid pair (R600). -/
theorem fuseClass_compl (w : Word) : fuseClass w.toNat (~~~w).toNat = 1 := by
  have hsum : w.toNat + (~~~w).toNat = 2 ^ 32 - 1 := by
    rw [BitVec.toNat_not]
    have := w.isLt
    omega
  have hand : w.toNat &&& (~~~w).toNat = 0 := by
    rw [← BitVec.toNat_and, BitVec.and_not_self]
    rfl
  unfold fuseClass
  have hset : ¬(w.toNat = 0 && (~~~w).toNat = 0) = true := by
    simp only [Bool.and_eq_true, decide_eq_true_eq, not_and]
    omega
  rw [if_neg hset, hsum, hand]
  rfl

theorem State.wordClass_of_fuses {w t c : Nat} (ht : Tab.get 0 s.boot.fuseT w = t) (hc : Tab.get 0 s.boot.fuseC w = c) :
    s.wordClass w = fuseClass t c := by rw [State.wordClass, ht, hc]

theorem State.wordVal_of_valid {w : Nat} (hvalid : s.wordClass w = 1) : s.wordVal w = Tab.get 0 s.boot.fuseT w := if_pos hvalid

end

/-- Settles O50: images by `bootImage`'s frame, staging by its cases, fuses by the class of a word and its complement. -/
theorem imagesAndFuses : Obligations.ImagesAndFuses := by
  refine ⟨?_, ?_, ?_, ?_, ?_, ?_, ?_, ?_, ?_, ?_, ?_, ?_, ?_, ?_, ?_, ?_⟩
  · intro s b l hwait hgood
    obtain ⟨hstate, hslot, hver, hboot, hrun, hcust, hpc0, hpc2, hnet, hout⟩ := s.bootImage_frame l b (b != s.boot.prefB)
    exact ⟨_, congrArg Host.Outcome.next (State.imageVerify_of_good hwait hgood), hstate, hslot, hver, congrArg BootSt.booted hboot, hrun, hcust, hpc0,
      hpc2, hnet, hout⟩
  · intro s b l k hwait hk hbad hfirst
    have hcode : s.sourceCode l = k := by
      rw [hk]
      cases l <;> rfl
    have hle := s.sourceCode_le l
    refine ⟨_, congrArg Host.Outcome.next (State.imageVerify_of_bad hwait (hcode ▸ hbad) hfirst), ?_, ?_, ?_, rfl, rfl⟩
    · rw [← hcode]
      exact (State.fld_setFld_self _ _ _ _ _ (by decide) (by decide)).trans (Nat.mod_eq_of_lt (by omega))
    · exact congrArg (· + 1) hfirst
    · exact (State.fld_setFld_other _ _ _ _ _ _ _ (by decide) (by decide) (by decide)).trans hwait
  · intro s b l hwait
    exact congrArg Host.Outcome.next (if_pos (bne_iff_ne.2 hwait))
  · intro s src d l hacc hfree hrun hflash hgood
    exact congrArg Host.Outcome.next ((State.cmd_soonData_of_accepts hacc).trans (State.fwStage_of_good hfree hrun hflash hgood))
  · intro s src d l hacc hfree hwait hgood
    obtain ⟨hstate, -, -, hboot, -, -, -, -, hnet, hout⟩ := s.bootImage_frame (stagedImage d l) false false
    exact ⟨_, congrArg Host.Outcome.next ((State.cmd_soonData_of_accepts hacc).trans (State.fwStage_of_wait hfree hwait hgood)), hstate,
      congrArg BootSt.booted hboot, (congrArg BootSt.fwJob hboot).trans hfree, hnet, hout⟩
  · intro s src d l k hacc hfree hrun hflash hk hbad
    subst hk
    exact congrArg Host.Outcome.next ((State.cmd_soonData_of_accepts hacc).trans (State.fwStage_of_bad hfree hrun hflash hbad))
  · intro s src d hacc hfree hrun hflash
    exact congrArg Host.Outcome.next ((State.cmd_soonData_of_accepts hacc).trans (State.fwStage_of_unread hfree hrun hflash))
  · intro s src d l hjob
    refine ⟨_, congrArg Host.Outcome.next ((State.fwStageDone_of_job hjob).trans (if_pos rfl)), rfl, rfl, ?_, rfl⟩
    cases hslot : s.flag TOP_BOOT 3 <;> simp only [State.slotWritten, State.emit, hslot, List.append_assoc, List.singleton_append] <;> rfl
  · intro s src d l hjob
    refine ⟨_, congrArg Host.Outcome.next ((State.fwStageDone_of_job hjob).trans (if_neg Bool.false_ne_true)), rfl, rfl, ?_, rfl⟩
    cases hslot : s.flag TOP_BOOT 3 <;> simp only [State.slotWritten, State.emit, hslot] <;> rfl
  · intro s b hnone
    exact congrArg Host.Outcome.next (State.fwStageDone_of_none hnone)
  · intro s src d g hacc hgroup hg0 hg7 hfree hvpp hboot hclass hlocked hlock
    refine congrArg Host.Outcome.next ((State.cmd_soon_of_accepts hacc).trans ((State.keelProgram_of_free hgroup hg0 hg7 hfree).trans ?_))
    have hlockOk : ¬(0x30 ≤ d.tgt && (d.op0.toNat != lockMagic || !(groupWords g).all (fun x => s.wordClass x == 1))) = true := by
      rw [Bool.and_eq_true, decide_eq_true_eq]
      rintro ⟨hword, hbad⟩
      obtain ⟨hmagic, hall⟩ := hlock hword
      rw [hmagic, hall, bne_self_eq_false] at hbad
      exact Bool.false_ne_true hbad
    rw [hvpp, hboot, hclass]
    exact (if_neg Bool.false_ne_true).trans ((if_neg (by decide)).trans ((if_neg hlocked).trans (if_neg hlockOk)))
  · intro s src d g hacc hgroup hg0 hg7 hfree hbar
    have hbar' : (!s.boot.vpp || s.boot.vppBoot) = true := by
      rcases hbar with hvpp | hboot
      · rw [hvpp]
        rfl
      · rw [hboot, Bool.or_true]
    refine ⟨_, ?_, congrArg Host.Outcome.next ((State.cmd_soon_of_accepts hacc).trans ((State.keelProgram_of_free hgroup hg0 hg7 hfree).trans
      ((if_pos hbar').trans rfl)))⟩
    rfl
  · intro s src d hacc hgroup
    refine congrArg Host.Outcome.next ((State.cmd_soon_of_accepts hacc).trans ?_)
    simp only [State.keelProgram, hgroup]
  · intro s src d hjob htgt
    obtain ⟨ht, hc⟩ := State.fuses_fusesRead (s := s) (d := d) d.op0 (~~~d.op0)
    have hvalid := (State.wordClass_of_fuses ht hc).trans (fuseClass_compl d.op0)
    have hval := (State.wordVal_of_valid hvalid).trans ht
    have hok : (((s.fusesRead d d.op0 (~~~d.op0)).lockShown d).wordClass d.tgt = 1 &&
        ((s.fusesRead d d.op0 (~~~d.op0)).lockShown d).wordVal d.tgt = d.op0.toNat) = true := by
      rw [decide_eq_true hvalid, decide_eq_true hval]
      rfl
    have hend := State.keelEnd_of_word (s := (s.fusesRead d d.op0 (~~~d.op0)).lockShown d) (src := src) (code := 0) (st := .ok) htgt
    rw [Nat.zero_mul, Nat.add_zero, Nat.add_zero] at hend
    refine ⟨_, congrArg Host.Outcome.next ((State.keelDone_of_job hjob).trans ((if_pos hok).trans hend)), ?_, ht, hc,
      State.rg_setRg_self _ _ _, State.out_lockShown⟩
    exact congrArg BootSt.keelJob State.boot_lockShown
  · intro s src d t c hjob htgt hne
    obtain ⟨ht, hc⟩ := State.fuses_fusesRead (s := s) (d := d) t c
    have hbad : ¬(((s.fusesRead d t c).lockShown d).wordClass d.tgt = 1 && ((s.fusesRead d t c).lockShown d).wordVal d.tgt = d.op0.toNat) = true := by
      rw [Bool.and_eq_true, decide_eq_true_eq, decide_eq_true_eq]
      rintro ⟨hvalid, hval⟩
      exact hne (BitVec.toNat_inj.1 (ht.symm.trans ((State.wordVal_of_valid hvalid).symm.trans hval)))
    refine ⟨_, congrArg Host.Outcome.next ((State.keelDone_of_job hjob).trans ((if_neg hbad).trans (State.keelEnd_of_word htgt))), ?_, ht, hc,
      State.out_lockShown⟩
    exact congrArg BootSt.keelJob State.boot_lockShown
  · intro s t c hnone
    refine congrArg Host.Outcome.next ?_
    simp only [State.keelDone, hnone]

end Sys2Proof.Machine

/-! The CAN controllers: buffers, states and attempts, one rule for each operation (chapter 15). -/

namespace Sys2Proof.Machine

open Sys2Proof

/-! ### Registers of a controller -/

theorem canReg_ne {n a b : Nat} (h : a ≠ b) : canReg n a ≠ canReg n b := by
  simp only [canReg]
  omega

/-- A register below the buffers' is no buffer's status. -/
theorem canReg_ne_mbStat {n a b : Nat} (h : a < 0x10C) : canReg n a ≠ mbStat n b := canReg_ne (by omega)

theorem mbCfg_ne_mbStat {n b c : Nat} : mbCfg n b ≠ mbStat n c := canReg_ne (by omega)

section
variable (s : State) (n b : Nat)

/-! ### Controllers and buffers -/

theorem State.canC_setCanC (c : CanCtl) : (s.setCanC n c).canC n = c := Tab.get_set_self _ _ _ _

theorem State.canC_setCanC_ne {m : Nat} (c : CanCtl) (hne : m ≠ n) : (s.setCanC n c).canC m = s.canC m := Tab.get_set_ne _ _ _ _ _ _ hne

theorem State.canC_setCanB (x : CanBuf) : (s.setCanB n b x).canC n = { s.canC n with bufs := Tab.set {} (s.canC n).bufs b x } :=
  s.canC_setCanC n _

theorem State.canC_setCanB_ne {m : Nat} (x : CanBuf) (hne : m ≠ n) : (s.setCanB n b x).canC m = s.canC m := s.canC_setCanC_ne n _ hne

theorem State.canB_setCanB (x : CanBuf) : (s.setCanB n b x).canB n b = x := by
  rw [State.canB, State.canC_setCanB]
  exact Tab.get_set_self _ _ _ _

theorem State.canB_setCanB_ne {c : Nat} (x : CanBuf) (hne : c ≠ b) : (s.setCanB n b x).canB n c = s.canB n c := by
  rw [State.canB, State.canC_setCanB]
  exact Tab.get_set_ne _ _ _ _ _ _ hne

theorem State.rg_setCanB (x : CanBuf) {o : Nat} (ho : o ≠ mbStat n b) : (s.setCanB n b x).rg o = s.rg o :=
  (State.rg_setFld_ne _ _ _ _ _ _ ho).trans (State.rg_setFld_ne _ _ _ _ _ _ ho)

theorem State.canReg_setCanB (x : CanBuf) {a : Nat} (ha : a < 0x10C) : (s.setCanB n b x).rg (canReg n a) = s.rg (canReg n a) :=
  s.rg_setCanB n b x (canReg_ne_mbStat ha)

theorem State.canAct_setCanB (x : CanBuf) : (s.setCanB n b x).canAct n = s.canAct n :=
  congrArg (bits · 4 2) (s.canReg_setCanB n b x (by decide))

theorem State.canEst_setCanB (x : CanBuf) : (s.setCanB n b x).canEst n = s.canEst n :=
  congrArg (bits · 1 0) (s.canReg_setCanB n b x (by decide))

theorem State.canTec_setCanB (x : CanBuf) : (s.setCanB n b x).canTec n = s.canTec n :=
  congrArg (bits · 8 0) (s.canReg_setCanB n b x (by decide))

theorem State.stat_setCanB (x : CanBuf) (m : Nat) : (s.setCanB n b x).flag (canStat n) m = s.flag (canStat n) m :=
  congrArg (bit · m) (s.canReg_setCanB n b x (by decide))

theorem State.flag_setFld_in (o hi lo v m : Nat) (hlo : lo ≤ m) (hhi : m ≤ hi) (hlt : hi < 32) : (s.setFld o hi lo v).flag o m = v.testBit (m - lo) := by
  simp only [State.flag, State.rg_setFld_self, bit]
  rw [getLsbD_putBits _ _ _ _ _ (Nat.le_trans hlo hhi) hlt, if_pos ⟨hlo, hhi⟩]

/-- Whether a buffer is full shows in its status. -/
theorem State.full_setCanB (x : CanBuf) : (s.setCanB n b x).flag (mbStat n b) 0 = (x.front.isSome || x.tx.isSome) := by
  refine (State.flag_setFld_other _ _ _ _ _ _ (by decide) (by decide) (by decide)).trans
    ((State.flag_setFld_in _ _ _ _ _ _ (by decide) (by decide) (by decide)).trans ?_)
  rw [Nat.testBit_zero]
  cases x.front.isSome || x.tx.isSome <;> simp only [b2n, Bool.false_eq_true, if_false, if_true, decide_eq_true_eq, decide_eq_false_iff_not] <;> omega

/-! ### States of a controller -/

theorem State.canAct_setCanAct {v : Nat} (hv : v < 8) : (s.setCanAct n v).canAct n = v :=
  (State.fld_setFld_self _ _ _ _ _ (by decide) (by decide)).trans (Nat.mod_eq_of_lt hv)

theorem State.rg_setCanAct (v : Nat) {o : Nat} (ho : o ≠ canStat n) : (s.setCanAct n v).rg o = s.rg o := State.rg_setFld_ne _ _ _ _ _ _ ho

theorem State.canEst_setCanAct (v : Nat) : (s.setCanAct n v).canEst n = s.canEst n :=
  State.fld_setFld_other _ _ _ _ _ _ _ (by decide) (by decide) (by decide)

theorem State.stat_setCanAct (v : Nat) {m : Nat} (hm : m < 2 ∨ 4 < m) : (s.setCanAct n v).flag (canStat n) m = s.flag (canStat n) m :=
  State.flag_setFld_other _ _ _ _ _ _ (by decide) (by decide) (by omega)

theorem State.canInit_setCanAct (v : Nat) : (s.setCanAct n v).canInit n = s.canInit n :=
  congrArg (bit · 0) (s.rg_setCanAct n v (canReg_ne (by decide)))

/-! ### Attempts (R547, R548) -/

theorem State.canKick_of_busy (hbusy : s.canAct n ≠ 2) : s.canKick n = s := by
  simp only [State.canKick, hbusy, decide_false, Bool.false_and, Bool.false_eq_true, if_false]

theorem State.canPick_of_none (hnone : s.canReady n = []) : s.canPick n = none := by
  simp only [State.canPick, hnone, List.find?_nil, ite_self]
  rfl

theorem State.canKick_of_none (hnone : s.canReady n = []) : s.canKick n = s := by
  unfold State.canKick
  rw [s.canPick_of_none n hnone]
  exact ite_self _

/-- The only frame that is ready arbitrates, reserved or not (R548, R552). -/
theorem State.canPick_of_one {e : Nat × CanTx} (hone : s.canReady n = [e]) : s.canPick n = some e := by
  have hsort (f : Nat × CanTx → Nat × CanTx → Bool) : (sortBy f [e]).head? = some e := rfl
  unfold State.canPick
  rw [hone]
  cases hres : (e.1 == s.fld (canStat n) 12 7) with
  | true =>
    have hfind : [e].find? (fun e => e.1 == s.fld (canStat n) 12 7) = some e := List.find?_cons_of_pos hres
    cases hst : s.flag (canStat n) 6 <;> simp only [hfind, hsort, if_true, Bool.false_eq_true, if_false]
  | false =>
    have hfind : [e].find? (fun e => e.1 == s.fld (canStat n) 12 7) = none := by
      rw [List.find?_cons_of_neg (by rw [hres]; exact Bool.false_ne_true), List.find?_nil]
    simp only [hfind, hsort, ite_self]

end

end Sys2Proof.Machine

/-! CAN_TX and the way of its frame over the bus: O39 (R541, R546 to R549, R553). -/

namespace Sys2Proof.Machine

open Sys2Proof

/-! ### A frame held for the bus -/

section
variable {s : State} {n b : Nat} {x : CanTx}

/-- The buffer of a frame that has ended. -/
def CanBuf.freed (y : CanBuf) (st : St) : CanBuf := { y with tx := none, colls := if st = .ok then 0 else y.colls }

/-- A frame without a reservation ends: the buffer is freed and the command completes. -/
theorem State.canEnd_of_tx {st : St} {lo hi : Nat} (htx : (s.canB n b).tx = some x) (hres : s.flag (canStat n) 6 = false) :
    s.canEnd n b st lo hi = (s.setCanB n b ((s.canB n b).freed st)).complete x.src 0x60 x.desc st lo hi := by
  have hnone : ((s.setCanB n b ((s.canB n b).freed st)).flag (canStat n) 6 &&
      (s.setCanB n b ((s.canB n b).freed st)).fld (canStat n) 12 7 = b) = false := by
    rw [s.stat_setCanB n b _ 6, hres, Bool.false_and]
  unfold State.canEnd
  rw [htx]
  exact congrArg (State.complete · x.src 0x60 x.desc st lo hi) (if_neg (fun h => Bool.false_ne_true (hnone.symm.trans h)))

/-- A word of at most 8 has no bit above the fourth. -/
theorem bit_of_le_eight {w : Word} (hw : w.toNat ≤ 8) {m : Nat} (hm : 4 ≤ m) : bit w m = false := by
  have hlt : w.toNat < 2 ^ m := Nat.lt_of_lt_of_le (by omega) (Nat.pow_le_pow_right (by decide) hm)
  exact Nat.testBit_lt_two_pow hlt

theorem bit_of_bits_zero {w : Word} {hi lo m : Nat} (hzero : bits w hi lo = 0) (hlo : lo ≤ m) (hhi : m ≤ hi) : bit w m = false := by
  have hbit := testBit_bits w hi lo (m - lo)
  rw [hzero, Nat.zero_testBit, decide_eq_true (show m - lo < hi + 1 - lo by omega), Bool.true_and, Nat.add_sub_cancel' hlo] at hbit
  exact hbit.symm

theorem bits_of_le_eight {w : Word} (hw : w.toNat ≤ 8) : bits w 6 0 = w.toNat := by
  simp only [bits, field, Nat.shiftRight_zero]
  omega

theorem bits_high_of_le_eight {w : Word} (hw : w.toNat ≤ 8) : bits w 31 10 = 0 := by
  simp only [bits, field, Nat.shiftRight_eq_div_pow]
  omega

/-- The data of a descriptor, operands 2 to 5 (R546). -/
def inlineData (d : Desc) : List Byte := leBytes 4 d.op2.toNat ++ leBytes 4 d.op3.toNat ++ leBytes 4 d.op4.toNat ++ leBytes 4 d.op5.toNat

/-- A classic frame of at most 8 bytes as its descriptor gives it. -/
def classicFrame (src : Src) (d : Desc) : CanTx :=
  { src := src, desc := d, idw := d.op0.toNat, len := d.op1.toNat, rtr := false, single := false, data := slice (inlineData d) 0 d.op1.toNat }

/-- A buffer that holds the frame of a descriptor. -/
def State.canHeld (s : State) (n b : Nat) (src : Src) (d : Desc) : State := s.setCanB n b { s.canB n b with tx := some (classicFrame src d) }

/-- CAN_TX of a classic frame with its data inline, to an enabled transmit buffer: a full buffer takes nothing (R546). -/
theorem State.canTx_of_classic {src : Src} {d : Desc} (hn : (src.ringNo - 18) % 4 = n) (hpd : s.powered 6 = true) (htgt : d.tgt < 64)
    (hen : s.flag (mbCfg n d.tgt) 0 = true) (hdir : s.flag (mbCfg n d.tgt) 1 = true) (hnow : d.atCycle = false) (hclassic : bits d.op0 31 30 = 0)
    (hid : d.op0.getLsbD 29 = true ∨ bits d.op0 17 0 = 0) (hlen : d.op1.toNat ≤ 8) : s.canTx src d none =
    if (s.canB n d.tgt).tx.isSome then s
    else (s.canHeld n d.tgt src d).canKick n := by
  have hfd := bit_of_bits_zero hclassic (show 30 ≤ 30 by decide) (by decide)
  have hbrs := bit_of_bits_zero hclassic (show 30 ≤ 31 by decide) (by decide)
  have hident : (!bit d.op0 29 && bits d.op0 17 0 != 0) = false := by
    rcases hid with hext | hzero
    · rw [show bit d.op0 29 = true from hext]
      rfl
    · rw [hzero]
      exact Bool.and_false _
  have hlenOk : canLenOk false d.op1.toNat = true := by
    rw [canLenOk, decide_eq_true hlen, Bool.true_or]
  have htarget : (decide (64 ≤ d.tgt) || !s.flag (mbCfg n d.tgt) 0 || !s.flag (mbCfg n d.tgt) 1) = false := by
    rw [decide_eq_false (by omega), hen, hdir]
    rfl
  simp only [State.canTx, hn, hpd, hfd, hbrs, hident, hlenOk, htarget, hnow, bits_of_le_eight hlen, bits_high_of_le_eight hlen,
    bit_of_le_eight hlen (show 4 ≤ 7 by decide), bit_of_le_eight hlen (show 4 ≤ 8 by decide), bit_of_le_eight hlen (show 4 ≤ 9 by decide),
    bne_self_eq_false, Bool.not_true, Bool.not_false, Bool.true_and, Bool.false_and, Bool.or_false, Bool.false_eq_true, if_false,
    show decide (16 < d.op1.toNat) = false from decide_eq_false (by omega)] <;> rfl

/-- CAN_TX with PD_LOCAL off (R546). -/
theorem State.canTx_of_off {src : Src} {d : Desc} {l : Option (List Byte)} (hpd : s.powered 6 = false) :
    s.canTx src d l = s.complete src 0x60 d .pdOff := by
  simp only [State.canTx, hpd, Bool.not_false, if_true]

/-- CAN_TX to a receive buffer (R546). -/
theorem State.canTx_of_receive {src : Src} {d : Desc} {l : Option (List Byte)} (hpd : s.powered 6 = true)
    (hdir : s.flag (mbCfg ((src.ringNo - 18) % 4) d.tgt) 1 = false) : s.canTx src d l = s.complete src 0x60 d .badTarget := by
  simp only [State.canTx, hpd, hdir, Bool.not_true, Bool.not_false, Bool.or_true, Bool.false_eq_true, if_false, if_true]

/-- The frame of an attempt that begins. -/
def CanTx.started (x : CanTx) : CanTx := { x with active := true, att := min 255 (x.att + 1) }

/-- The attempt of a frame begins: the controller transmits it. -/
def State.canBegun (s : State) (n b : Nat) (x : CanTx) : State :=
  ((s.setCanB n b { s.canB n b with tx := some x.started }).setCanAct n 4).emit (.can n x.idw (x.len + 128 * b2n x.rtr) x.data)

theorem State.canAct_emit (s : State) (n : Nat) (e : Emit) : (s.emit e).canAct n = s.canAct n := rfl

theorem State.out_canBegun : (s.canBegun n b x).out = s.out ++ [.can n x.idw (x.len + 128 * b2n x.rtr) x.data] := rfl

theorem State.host_canBegun : (s.canBegun n b x).host = s.host := rfl

theorem State.out_canHeld {src : Src} {d : Desc} : (s.canHeld n b src d).out = s.out := rfl

theorem State.host_canHeld {src : Src} {d : Desc} : (s.canHeld n b src d).host = s.host := rfl

theorem State.canAct_canBegun : (s.canBegun n b x).canAct n = 4 := (State.canAct_emit _ n _).trans (State.canAct_setCanAct _ n (by decide))

/-- An idle controller with one frame to send begins its attempt: the frame goes to the bus (R548). -/
theorem State.canKick_of_one (hidle : s.canAct n = 2) (hest : s.canEst n = 0) (htec : s.canTec n < 256) (hmon : s.flag (canStat n) 5 = false)
    (hhelm : s.holder = true) (hawake : (s.canC n).sleep = none) (hone : s.canReady n = [(b, x)]) : s.canKick n =
    s.canBegun n b x := by
  have hnormal : (decide (s.canAct n = 2) && s.canEst n != 2 && s.canTec n < 256 && !s.flag (canStat n) 5 && s.holder && (s.canC n).sleep.isNone) = true := by
    rw [hidle, hest, decide_eq_true htec, hmon, hhelm, hawake]
    rfl
  have hactive : ((s.setCanB n b { s.canB n b with tx := some x.started }).canEst n == 1) = false := by
    rw [s.canEst_setCanB n b, hest]
    rfl
  have hword : x.len + 128 * b2n x.rtr + 256 * b2n (field x.idw 30 30 == 1 && (s.setCanB n b { s.canB n b with tx := some x.started }).canEst n == 1) =
      x.len + 128 * b2n x.rtr := by
    rw [hactive, Bool.and_false, show b2n false = 0 from rfl, Nat.mul_zero, Nat.add_zero]
  unfold State.canKick State.canBegun
  rw [if_pos hnormal, s.canPick_of_one n hone]
  exact congrArg (fun w => State.emit _ (.can n x.idw w x.data)) hword

/-- The frame just taken is the only one ready, in a controller that held none. -/
theorem State.canReady_canHeld {src : Src} {d : Desc} (hbufs : (s.canC n).bufs = []) (hnow : d.atCycle = false) :
    (s.canHeld n b src d).canReady n = [(b, classicFrame src d)] := by
  have hctl : ((s.canHeld n b src d).canC n).bufs = [(b, ({ tx := some (classicFrame src d) } : CanBuf))] := by
    have hempty : s.canB n b = {} := by
      rw [State.canB, hbufs]
      rfl
    rw [State.canHeld, State.canC_setCanB, hempty, hbufs]
    have hheld : ({ tx := some (classicFrame src d) } : CanBuf) ≠ {} := fun h => Option.some_ne_none _ (congrArg CanBuf.tx h)
    rw [Tab.set, if_neg hheld]
    rfl
  unfold State.canReady
  rw [hctl]
  simp only [List.filterMap_cons, List.filterMap_nil, classicFrame, hnow, Bool.false_and, Bool.or_self, Bool.false_eq_true, if_false]

/-- An idle controller without frames sends the frame of a descriptor at once. -/
theorem State.canKick_canHeld {src : Src} {d : Desc} (hbufs : (s.canC n).bufs = []) (hnow : d.atCycle = false) (hidle : s.canAct n = 2)
    (hest : s.canEst n = 0) (htec : s.canTec n < 256) (hmon : s.flag (canStat n) 5 = false) (hhelm : s.holder = true)
    (hawake : (s.canC n).sleep = none) : (s.canHeld n b src d).canKick n = (s.canHeld n b src d).canBegun n b (classicFrame src d) := by
  refine State.canKick_of_one ?_ ?_ ?_ ?_ ?_ ?_ (State.canReady_canHeld hbufs hnow)
  · exact (s.canAct_setCanB n b _).trans hidle
  · exact (s.canEst_setCanB n b _).trans hest
  · exact Nat.lt_of_le_of_lt (Nat.le_of_eq (s.canTec_setCanB n b _)) htec
  · exact (s.stat_setCanB n b _ 5).trans hmon
  · exact (congrArg (fun w => bits w 2 0 == 3) (s.rg_setCanB n b _ (by simp only [mbStat, canReg, CAN_B, HELM_STAT, HELM_B]; omega))).trans hhelm
  · exact (congrArg CanCtl.sleep (s.canC_setCanB n b _)).trans hawake

end

/-! ### Error counters (R550) -/

section
variable (s : State) (n tec recv : Nat)

/-- TEC and REC as counted, with CAN_ECNT that shows them. -/
def State.canCounted : State :=
  (s.setCanC n { s.canC n with recv := recv }).setRg (canEcnt n)
    (ofNat (min 511 tec + min 127 recv * 2 ^ 16 + b2n (decide (128 ≤ recv)) * 2 ^ 23))

theorem State.rg_canCounted {o : Nat} (ho : o ≠ canEcnt n) : (s.canCounted n tec recv).rg o = s.rg o := State.rg_setRg_ne _ _ _ _ ho

theorem State.canReg_canCounted {a : Nat} (ha : a ≠ 0x14) : (s.canCounted n tec recv).rg (canReg n a) = s.rg (canReg n a) :=
  s.rg_canCounted n tec recv (canReg_ne ha)

theorem State.canEst_canCounted : (s.canCounted n tec recv).canEst n = s.canEst n := congrArg (bits · 1 0) (s.canReg_canCounted n tec recv (by decide))

theorem State.canC_canCounted : (s.canCounted n tec recv).canC n = { s.canC n with recv := recv } := s.canC_setCanC n _

theorem State.canB_canCounted (b : Nat) : (s.canCounted n tec recv).canB n b = s.canB n b := by
  rw [State.canB, s.canC_canCounted n tec recv]
  rfl

theorem State.out_canCounted : (s.canCounted n tec recv).out = s.out := rfl

theorem State.host_canCounted : (s.canCounted n tec recv).host = s.host := rfl

theorem State.canTec_canCounted (htec : tec < 512) : (s.canCounted n tec recv).canTec n = tec := by
  rw [State.canTec, State.fld, State.canCounted, State.rg_setRg_self]
  simp only [bits, field, ofNat, BitVec.toNat_ofNat, Nat.shiftRight_zero]
  omega

/-- CAN_ECNT shows REC while it is below 128. -/
theorem State.rec_canCounted (hrec : recv < 128) : (s.canCounted n tec recv).fld (canEcnt n) 23 16 = recv := by
  rw [State.fld, State.canCounted, State.rg_setRg_self, decide_eq_false (show ¬128 ≤ recv by omega)]
  simp only [bits, field, ofNat, BitVec.toNat_ofNat, Nat.shiftRight_eq_div_pow, b2n, Bool.false_eq_true, if_false]
  omega

theorem State.canCount_of_same (hsame : s.canEst n = if 128 ≤ tec || 128 ≤ recv then 1 else 0) : s.canCount n tec recv = s.canCounted n tec recv := by
  refine if_pos ?_
  rw [show ((s.setCanC n { s.canC n with recv := recv }).setRg (canEcnt n)
    (ofNat (min 511 tec + min 127 recv * 2 ^ 16 + b2n (decide (128 ≤ recv)) * 2 ^ 23))).canEst n = s.canEst n from s.canEst_canCounted n tec recv,
    hsame, decide_eq_true rfl, Bool.or_true]

end

/-- A field of the whole word. -/
theorem putBits_whole (w : Word) (v : Nat) : putBits w 31 0 v = ofNat v := by
  refine BitVec.eq_of_getLsbD_eq fun i hi => ?_
  rw [getLsbD_putBits _ _ _ _ _ (by decide) (by decide), if_pos ⟨Nat.zero_le i, by omega⟩, ofNat, BitVec.getLsbD_ofNat, decide_eq_true hi]
  rfl

/-- A count that fills its register goes up by 1, up to its largest value. -/
theorem State.rg_incFld_whole (s : State) (o : Nat) : (s.incFld o 31 0 1).rg o = ofNat (satAdd (2 ^ 32 - 1) (s.rg o).toNat 1) := by
  have hfld : s.fld o 31 0 = (s.rg o).toNat := by
    simp only [State.fld, bits, field, Nat.shiftRight_zero]
    exact Nat.mod_eq_of_lt (s.rg o).isLt
  rw [State.incFld, State.rg_setFld_self, hfld]
  exact putBits_whole _ _

/-! ### The end of an attempt -/

section
variable {s : State} {n b : Nat} {x : CanTx}

/-- The counts of a classic frame sent by an error-active controller. -/
def State.canSentCount (s : State) (n : Nat) : State :=
  (s.incFld (canReg n 0x1C) 31 0 1).canCounted n (s.canTec n - 1) (s.canC n).recv

/-- CAN_FRAME_SENT of a classic frame, without loopback: it is counted, its buffer freed, its command complete. -/
theorem State.canSent_of_classic {ts cyc : Word} {delay : Nat} (hact : s.canActive n = some (b, x)) (hidw : x.idw < 2 ^ 30)
    (hloop : s.flag (canReg n 0) 8 = false) (hest : s.canEst n = 0) (htec : s.canTec n < 128) (hrec : (s.canC n).recv < 128) :
    s.canSent n ts cyc delay = ((s.canSentCount n).canEnd n b .ok ts.toNat (min 255 x.att)).canIdle n := by
  have hinc {a : Nat} (ha : a ≠ 0x1C) : (s.incFld (canReg n 0x1C) 31 0 1).rg (canReg n a) = s.rg (canReg n a) := s.rg_incFld_ne _ _ _ (canReg_ne ha)
  have hcount : (s.incFld (canReg n 0x1C) 31 0 1).canCount n ((s.incFld (canReg n 0x1C) 31 0 1).canTec n - 1)
      ((s.incFld (canReg n 0x1C) 31 0 1).canC n).recv = s.canSentCount n := by
    rw [show (s.incFld (canReg n 0x1C) 31 0 1).canTec n = s.canTec n from congrArg (bits · 8 0) (hinc (by decide))]
    refine State.canCount_of_same _ _ _ _ ?_
    rw [show (s.incFld (canReg n 0x1C) 31 0 1).canEst n = s.canEst n from congrArg (bits · 1 0) (hinc (by decide)), hest,
      decide_eq_false (by omega),
      show decide (128 ≤ ((s.incFld (canReg n 0x1C) 31 0 1).canC n).recv) = false from decide_eq_false (show ¬128 ≤ (s.canC n).recv by omega)]
    rfl
  have hloop' : (s.canSentCount n).flag (canReg n 0) 8 = false :=
    (congrArg (bit · 8) ((State.canReg_canCounted _ _ _ _ (by decide)).trans (hinc (by decide)))).trans hloop
  unfold State.canSent
  rw [hact]
  simp only [show decide (3 ≤ x.idw / 2 ^ 30) = false from decide_eq_false (by omega), Bool.false_and, Bool.false_eq_true, if_false, hcount, hloop']

/-- The counts of a frame sent, with its buffer free again. -/
def State.canSentOk (s : State) (n b : Nat) : State := (s.canSentCount n).setCanB n b ((s.canB n b).freed .ok)

theorem State.canEnd_sentCount {lo hi : Nat} (htx : (s.canB n b).tx = some x) (hres : s.flag (canStat n) 6 = false) :
    (s.canSentCount n).canEnd n b .ok lo hi = (s.canSentOk n b).complete x.src 0x60 x.desc .ok lo hi := by
  have hkeep : (s.canSentCount n).canB n b = s.canB n b := State.canB_canCounted _ _ _ _ _
  have hstat : (s.canSentCount n).flag (canStat n) 6 = false :=
    (congrArg (bit · 6) ((State.canReg_canCounted _ _ _ _ (by decide)).trans (State.rg_incFld_ne _ _ _ _ (canReg_ne (by decide))))).trans hres
  rw [State.canEnd_of_tx ((congrArg CanBuf.tx hkeep).trans htx) hstat, hkeep]
  rfl

theorem State.canB_canSentOk : (s.canSentOk n b).canB n b = (s.canB n b).freed .ok := State.canB_setCanB _ n b _

theorem State.empty_canSentOk (hfront : (s.canB n b).front = none) : (s.canSentOk n b).flag (mbStat n b) 0 = false := by
  rw [State.canSentOk, State.full_setCanB, CanBuf.freed, hfront]
  rfl

theorem State.out_setCanB (s : State) (y : CanBuf) : (s.setCanB n b y).out = s.out := rfl

theorem State.host_setCanB (s : State) (y : CanBuf) : (s.setCanB n b y).host = s.host := rfl

theorem State.out_canSentOk : (s.canSentOk n b).out = s.out := (State.out_setCanB _ _).trans (State.out_canCounted _ n _ _)

theorem State.host_canSentOk : (s.canSentOk n b).host = s.host := (State.host_setCanB _ _).trans (State.host_canCounted _ n _ _)

theorem State.canTec_canSentOk (htec : s.canTec n < 128) : (s.canSentOk n b).canTec n = s.canTec n - 1 :=
  (State.canTec_setCanB _ _ _ _).trans (State.canTec_canCounted _ _ _ _ (by omega))

theorem State.sentCount_canSentOk :
    (s.canSentOk n b).rg (canReg n 0x1C) = ofNat (satAdd (2 ^ 32 - 1) (s.rg (canReg n 0x1C)).toNat 1) :=
  (State.canReg_setCanB _ _ _ _ (by decide)).trans ((State.canReg_canCounted _ _ _ _ (by decide)).trans (s.rg_incFld_whole _))

/-- An attempt that loses arbitration or meets an error waits again, unless it was the only one or is aborted (R549, R551). -/
theorem State.canFailed_of_again {cause : Nat} (hact : s.canActive n = some (b, x)) (hsingle : x.single = false) (habort : x.abort = false) :
    s.canFailed n cause = s.setCanB n b { s.canB n b with tx := some { x with active := false } } := by
  unfold State.canFailed
  rw [hact]
  simp only [hsingle, habort, Bool.false_eq_true, if_false]

/-- A single attempt that failed ends with its cause. -/
theorem State.canFailed_of_single {cause : Nat} (hact : s.canActive n = some (b, x)) (hsingle : x.single = true) :
    s.canFailed n cause = s.canEnd n b .timeout 0 (cause * 2 ^ 28) := by
  unfold State.canFailed
  rw [hact]
  simp only [hsingle, if_true]

theorem State.canArbLost_of_active (hact : s.canActive n = some (b, x)) : s.canArbLost n = (s.canFailed n 1).setCanAct n 3 :=
  if_pos (by rw [hact]; rfl)

theorem State.canAbort_of_waiting (htx : (s.canB n b).tx = some x) (hwait : x.active = false) : s.canAbort n b = s.canEnd n b .busy 0 (2 ^ 31) := by
  unfold State.canAbort
  rw [htx]
  simp only [hwait, Bool.false_eq_true, if_false]

theorem State.canAbort_of_active (htx : (s.canB n b).tx = some x) (hact : x.active = true) :
    s.canAbort n b = s.setCanB n b { s.canB n b with tx := some { x with abort := true } } := by
  unfold State.canAbort
  rw [htx]
  simp only [hact, if_true]

end

/-- Settles O39: an enabled buffer takes its frame, an idle controller sends it at once, and an end of the attempt completes the command. -/
theorem canTransmission : Obligations.CanTransmission := by
  unfold Obligations.CanTransmission
  have hring {n : Fin 4} {r : Fin 32} (hr : r.val = 18 + n.val) : ((Src.ring r).ringNo - 18) % 4 = n.val := by
    show (r.val - 18) % 4 = n.val
    omega
  refine ⟨fun s n r d hr hacc hpd htgt hen hdir htx hbusy hclassic hid hlen => ?taken,
    fun s n r d hr hacc hpd htgt hen hdir hbufs hidle hest htec hmon hholder hawake hclassic hid hlen => ?sent,
    fun s n r d x hr hacc hpd htgt hen hdir htx hclassic hid hlen => ?full,
    fun s n r d l hr hacc hpd htgt hdir => ?receive, fun s n r d l hr hacc hpd => ?off,
    fun s n ts cyc k b x hact htx hfront hidw hloop hest htec hrec hres hb => ?ended,
    fun s n b x hact hsingle habort => ?again, fun s n b x hact htx hsingle hres => ?single,
    fun s n v x hpd htx hwait hres => ?aborted, fun s n v x hpd htx hact => ?aborting, fun s n b hback hbusy => ?backoff⟩
  case taken =>
    have heq : exec (.canTx (.ring r) d none) s =
        .next (s.canHeld n.val d.tgt (.ring r) d) := by
      refine congrArg Host.Outcome.next ((State.cmd_of_precheck_none hacc.1).trans ?_)
      rw [State.canTx_of_classic (hring hr) hpd htgt hen hdir hacc.2 hclassic hid hlen, htx]
      exact State.canKick_of_busy _ _ (mt (s.canAct_setCanB _ _ _).symm.trans hbusy)
    refine ⟨_, heq, State.out_canHeld, State.host_canHeld, (s.full_setCanB _ _ _).trans (Bool.or_true _), congrArg CanBuf.tx (s.canB_setCanB _ _ _),
      fun b hb => s.canB_setCanB_ne _ _ _ hb, fun m hm => s.canC_setCanB_ne _ _ _ hm⟩
  case sent =>
    have heq : exec (.canTx (.ring r) d none) s = .next ((s.canHeld n.val d.tgt (.ring r) d).canBegun n.val d.tgt (classicFrame (.ring r) d)) := by
      refine congrArg Host.Outcome.next ((State.cmd_of_precheck_none hacc.1).trans ?_)
      rw [State.canTx_of_classic (hring hr) hpd htgt hen hdir hacc.2 hclassic hid hlen, State.canB, hbufs]
      exact State.canKick_canHeld hbufs hacc.2 hidle hest htec hmon hholder hawake
    exact ⟨_, heq, State.canAct_canBegun, State.host_canBegun.trans State.host_canHeld, State.out_canBegun.trans (congrArg (· ++ _) State.out_canHeld)⟩
  case full =>
    refine congrArg Host.Outcome.next ((State.cmd_of_precheck_none hacc.1).trans ?_)
    rw [State.canTx_of_classic (hring hr) hpd htgt hen hdir hacc.2 hclassic hid hlen, htx]
    rfl
  case receive =>
    refine congrArg Host.Outcome.next ((State.cmd_of_precheck_none hacc.1).trans (State.canTx_of_receive hpd ?_))
    rw [hring hr]
    exact hdir
  case off =>
    exact congrArg Host.Outcome.next ((State.cmd_of_precheck_none hacc.1).trans (State.canTx_of_off hpd))
  case ended =>
    have heq : exec (.canFrameSent n ts cyc k) s = .next (((s.canSentOk n.val b).complete x.src 0x60 x.desc .ok ts.toNat (min 255 x.att)).canIdle n.val) :=
      congrArg Host.Outcome.next ((State.canSent_of_classic hact hidw hloop hest htec hrec).trans (congrArg (State.canIdle · n.val)
        (State.canEnd_sentCount htx hres)))
    exact ⟨_, heq, congrArg CanBuf.tx State.canB_canSentOk, congrArg CanBuf.colls State.canB_canSentOk, State.empty_canSentOk hfront,
      State.canTec_canSentOk htec, State.sentCount_canSentOk, State.out_canSentOk, State.host_canSentOk⟩
  case again =>
    exact congrArg Host.Outcome.next ((State.canArbLost_of_active hact).trans (congrArg (State.setCanAct · n.val 3) (State.canFailed_of_again hact hsingle habort)))
  case single =>
    exact congrArg Host.Outcome.next ((State.canArbLost_of_active hact).trans (congrArg (State.setCanAct · n.val 3)
      ((State.canFailed_of_single hact hsingle).trans (State.canEnd_of_tx htx hres))))
  case aborted =>
    exact congrArg Host.Outcome.next ((if_pos hpd).trans ((State.canAbort_of_waiting htx hwait).trans (State.canEnd_of_tx htx hres)))
  case aborting =>
    exact congrArg Host.Outcome.next ((if_pos hpd).trans (State.canAbort_of_active htx hact))
  case backoff =>
    exact congrArg Host.Outcome.next ((if_pos hback).trans (State.canKick_of_busy _ _ (mt (s.canAct_setCanB _ _ _).symm.trans hbusy)))

end Sys2Proof.Machine

/-! Errors, bus-off and recovery of the CAN controllers: O40 (R550 to R552). -/

namespace Sys2Proof.Machine

open Sys2Proof

section
variable {s : State} {n b : Nat} {x : CanTx}

/-- Controllers and buffers are part of the CAN state. -/
theorem State.canC_congr {s t : State} (hcan : t.can = s.can) (n : Nat) : t.canC n = s.canC n :=
  congrArg (fun c : CanSt => Tab.get ({} : CanCtl) c.ctl n) hcan

theorem State.canB_congr {s t : State} (hcan : t.can = s.can) (n b : Nat) : t.canB n b = s.canB n b :=
  congrArg (fun c : CanCtl => Tab.get ({} : CanBuf) c.bufs b) (State.canC_congr hcan n)

/-! ### Errors -/

/-- A bus error is counted before the error counters follow it. -/
def State.canErrCounted (s : State) (n : Nat) : State := s.incFld (canReg n 0x28) 31 0 1

theorem State.canReg_canErrCounted {a : Nat} (ha : a ≠ 0x28) : (s.canErrCounted n).rg (canReg n a) = s.rg (canReg n a) :=
  s.rg_incFld_ne _ _ _ (canReg_ne ha)

theorem State.canEst_canErrCounted : (s.canErrCounted n).canEst n = s.canEst n := congrArg (bits · 1 0) (State.canReg_canErrCounted (by decide))

theorem State.canTec_canErrCounted : (s.canErrCounted n).canTec n = s.canTec n := congrArg (bits · 8 0) (State.canReg_canErrCounted (by decide))

theorem State.canC_canErrCounted : (s.canErrCounted n).canC n = s.canC n := rfl

theorem State.monitor_canErrCounted : (s.canErrCounted n).flag (canStat n) 5 = s.flag (canStat n) 5 :=
  congrArg (bit · 5) (State.canReg_canErrCounted (by decide))

theorem State.canActive_canCounted (s : State) (tec recv : Nat) : (s.canCounted n tec recv).canActive n = s.canActive n := by
  unfold State.canActive
  rw [s.canC_canCounted]

/-- A reception error of an error-active controller: REC goes up by 1. -/
theorem State.canError_of_rx (hpd : s.powered 6 = true) (hidle : s.canAct n = 2) (hest : s.canEst n = 0) (hact : s.canActive n = none)
    (htec : s.canTec n < 128) (hrec : (s.canC n).recv < 127) (hmon : s.flag (canStat n) 5 = false) :
    s.canError n .rx = (s.canErrCounted n).canCounted n (s.canTec n) ((s.canC n).recv + 1) := by
  have hcount : (s.canErrCounted n).canCount n (s.canTec n) ((s.canC n).recv + 1) =
      (s.canErrCounted n).canCounted n (s.canTec n) ((s.canC n).recv + 1) := by
    refine State.canCount_of_same _ _ _ _ ?_
    rw [State.canEst_canErrCounted, hest, decide_eq_false (by omega), decide_eq_false (by omega)]
    rfl
  have hnone : ((s.canErrCounted n).canCounted n (s.canTec n) ((s.canC n).recv + 1)).canActive n = none :=
    (State.canActive_canCounted _ _ _).trans hact
  have hnot : (s.canErrCounted n).flag (canStat n) 5 = false := State.monitor_canErrCounted.trans hmon
  have hlow : decide (128 ≤ (s.canC n).recv) = false := decide_eq_false (by omega)
  unfold State.canError
  rw [show s.incFld (canReg n 0x28) 31 0 1 = s.canErrCounted n from rfl]
  simp only [hpd, hidle, hest, hmon, show (CanErr.rx == CanErr.tx) = false from rfl, show (CanErr.rx == CanErr.txData) = false from rfl,
    show (CanErr.rx == CanErr.txQuiet) = false from rfl, reduceCtorEq, decide_false, Bool.or_self, Bool.not_true, Bool.false_and,
    Bool.false_eq_true, if_false, if_true, State.canTec_canErrCounted, State.canC_canErrCounted, hnot, hlow, Nat.reduceBEq, Nat.add_zero, hcount, hnone,
    Bool.and_false]

/-- A controller that turns error-passive. -/
def State.canPassive (s : State) (n tec recv : Nat) : State :=
  ((s.canCounted n tec recv).setFld (canStat n) 1 0 1).setFlag (canFlags n) 2

theorem State.canCount_of_passive {tec recv : Nat} (hest : s.canEst n = 0) (htec : 128 ≤ tec) :
    s.canCount n tec recv = (s.canPassive n tec recv).raise (176 + 4 * n) 1 := by
  have hkeep : (s.canCounted n tec recv).canEst n = 0 := (s.canEst_canCounted n tec recv).trans hest
  unfold State.canCounted at hkeep
  unfold State.canCount
  simp only [hkeep, decide_eq_true htec, Bool.true_or, if_true]
  rfl

theorem State.canPassive_fields {tec recv : Nat} (htec : tec < 512) : (s.canPassive n tec recv).canEst n = 1 ∧
    (s.canPassive n tec recv).flag (canFlags n) 2 = true ∧ (s.canPassive n tec recv).canTec n = tec ∧ (s.canPassive n tec recv).out = s.out ∧
    (s.canPassive n tec recv).canB n b = s.canB n b := by
  have hkeep (hi lo : Nat) {a : Nat} (hflags : a ≠ 0x18) (hstat : a ≠ 4) :
      (s.canPassive n tec recv).fld (canReg n a) hi lo = (s.canCounted n tec recv).fld (canReg n a) hi lo :=
    congrArg (bits · hi lo) ((State.rg_setFlag_ne _ _ _ _ (canReg_ne hflags)).trans (State.rg_setFld_ne _ _ _ _ _ _ (canReg_ne hstat)))
  have hcan : (s.canPassive n tec recv).can = (s.canCounted n tec recv).can := (State.setFlag_can _ _ _).trans (State.setFld_can _ _ _ _ _)
  refine ⟨?_, State.flag_setFlag_self _ _ _ (by decide), (hkeep 8 0 (by decide) (by decide)).trans (s.canTec_canCounted n tec recv htec),
    (State.setFlag_out _ _ _).trans ((State.setFld_out _ _ _ _ _).trans (s.out_canCounted n tec recv)), ?_⟩
  · refine (congrArg (bits · 1 0) (State.rg_setFlag_ne _ _ _ _ (canReg_ne (by decide)))).trans ?_
    exact State.fld_setFld_self _ _ _ _ _ (by decide) (by decide)
  · exact (State.canB_congr hcan n b).trans (s.canB_canCounted n tec recv b)

/-- A transmission error that takes the controller to error-passive ends the attempt. -/
theorem State.canError_of_tx (hpd : s.powered 6 = true) (hact : s.canAct n = 4) (hest : s.canEst n = 0) (hown : s.canActive n = some (b, x))
    (hhigh : 120 ≤ s.canTec n) (htec : s.canTec n < 128) (hrec : (s.canC n).recv < 128) (hmon : s.flag (canStat n) 5 = false) :
    s.canError n .tx = (((((s.canErrCounted n).canPassive n (s.canTec n + 8) (s.canC n).recv).raise (176 + 4 * n) 1).canFailed n 2).canIdle n) := by
  have hcount : (s.canErrCounted n).canCount n (s.canTec n + 8) (s.canC n).recv =
      ((s.canErrCounted n).canPassive n (s.canTec n + 8) (s.canC n).recv).raise (176 + 4 * n) 1 :=
    State.canCount_of_passive (State.canEst_canErrCounted.trans hest) (by omega)
  have hnot : (s.canErrCounted n).flag (canStat n) 5 = false := State.monitor_canErrCounted.trans hmon
  have hlow : decide (128 ≤ (s.canC n).recv) = false := decide_eq_false (by omega)
  have hend : decide (s.canTec n + 8 < 256) = true := decide_eq_true (by omega)
  unfold State.canError
  rw [show s.incFld (canReg n 0x28) 31 0 1 = s.canErrCounted n from rfl]
  simp only [hpd, hact, hest, hmon, hown, show (CanErr.tx == CanErr.tx) = true from rfl, show (CanErr.tx == CanErr.txDominant) = false from rfl,
    show (CanErr.tx == CanErr.rxDominant) = false from rfl, reduceCtorEq, decide_false, decide_true, Bool.or_self, Bool.or_false,
    Bool.true_or, Bool.true_and, Bool.not_true, Bool.false_and, Option.isNone_some, Bool.false_eq_true, if_false, if_true, State.canTec_canErrCounted,
    State.canC_canErrCounted, hnot, hlow, hend, Nat.reduceBEq, Nat.add_zero, hcount]
  split <;> rfl

/-! ### Bus-off and recovery (R552) -/

/-- A controller in bus-off: it recovers by itself when CAN_CTL says so. -/
def State.canOff (s : State) (n : Nat) : State :=
  let s := (s.setFld (canStat n) 1 0 2).setFlag (canFlags n) 3
  s.setCanAct n (if s.canInit n then 0 else if s.flag (canReg n 0) 4 then 6 else 2)

theorem State.canReg_before_act {a : Nat} (hflags : a ≠ 0x18) (hstat : a ≠ 4) :
    ((s.setFld (canStat n) 1 0 2).setFlag (canFlags n) 3).rg (canReg n a) = s.rg (canReg n a) :=
  (State.rg_setFlag_ne _ _ _ _ (canReg_ne hflags)).trans (State.rg_setFld_ne _ _ _ _ _ _ (canReg_ne hstat))

theorem State.canEst_canOff : (s.canOff n).canEst n = 2 := by
  refine (State.canEst_setCanAct _ _ _).trans ((congrArg (bits · 1 0) (State.rg_setFlag_ne _ _ _ _ (canReg_ne (by decide)))).trans ?_)
  exact State.fld_setFld_self _ _ _ _ _ (by decide) (by decide)

theorem State.flag_canOff : (s.canOff n).flag (canFlags n) 3 = true :=
  (congrArg (bit · 3) (State.rg_setCanAct _ _ _ (canReg_ne (by decide)))).trans (State.flag_setFlag_self _ _ _ (by decide))

theorem State.out_canOff : (s.canOff n).out = s.out :=
  (State.setFld_out _ _ _ _ _).trans ((State.setFlag_out _ _ _).trans (State.setFld_out _ _ _ _ _))

theorem State.host_canOff : (s.canOff n).host = s.host :=
  (State.setFld_host _ _ _ _ _).trans ((State.setFlag_host _ _ _).trans (State.setFld_host _ _ _ _ _))

theorem State.can_canOff : (s.canOff n).can = s.can :=
  (State.setFld_can _ _ _ _ _).trans ((State.setFlag_can _ _ _).trans (State.setFld_can _ _ _ _ _))

/-- The other bits of the status stay. -/
theorem State.stat_canOff {m : Nat} (hm : 4 < m) : (s.canOff n).flag (canStat n) m = s.flag (canStat n) m := by
  refine (State.stat_setCanAct _ _ _ (Or.inr hm)).trans ((congrArg (bit · m) (State.rg_setFlag_ne _ _ _ _ (canReg_ne (by decide)))).trans ?_)
  exact State.flag_setFld_other _ _ _ _ _ _ (by decide) (by decide) (by omega)

theorem State.kept_canOff {hi lo : Nat} (hlo : 4 < lo) :
    (s.canOff n).fld (canStat n) hi lo = s.fld (canStat n) hi lo := by
  have hact (u : State) (v : Nat) : (u.setCanAct n v).fld (canStat n) hi lo = u.fld (canStat n) hi lo :=
    State.fld_setFld_other _ _ _ _ _ _ _ (by decide) (by decide) (by omega)
  refine (hact _ _).trans
    ((congrArg (bits · hi lo) (State.rg_setFlag_ne _ _ _ _ (canReg_ne (by decide)))).trans ?_)
  exact State.fld_setFld_other _ _ _ _ _ _ _ (by decide) (by decide) (by omega)

theorem State.canAct_canOff (hinit : s.canInit n = false) : (s.canOff n).canAct n = if s.flag (canReg n 0) 4 = true then 6 else 2 := by
  have hinit' : ((s.setFld (canStat n) 1 0 2).setFlag (canFlags n) 3).canInit n = false :=
    (congrArg (bit · 0) (State.canReg_before_act (by decide) (by decide))).trans hinit
  have hauto : ((s.setFld (canStat n) 1 0 2).setFlag (canFlags n) 3).flag (canReg n 0) 4 = s.flag (canReg n 0) 4 :=
    congrArg (bit · 4) (State.canReg_before_act (by decide) (by decide))
  unfold State.canOff
  dsimp only
  rw [hinit', hauto, if_neg Bool.false_ne_true]
  exact State.canAct_setCanAct _ _ (by split <;> decide)

/-- Bus-off with nothing held. -/
theorem State.canBusOff_of_none (htec : 256 ≤ s.canTec n) (hest : s.canEst n ≠ 2) (hact : s.canActive n = none) (hready : s.canReady n = []) :
    s.canBusOff n = ((s.canOff n).raise (176 + 4 * n) 2).canDropSleep n := by
  unfold State.canBusOff
  rw [if_neg (by simp only [Bool.or_eq_true, decide_eq_true_eq]; omega), hact, s.canPick_of_none n hready]
  rfl

/-- The frame on the bus waits for the controller to be back: its buffer is reserved. -/
def State.canReserved (s : State) (n b : Nat) (x : CanTx) : State :=
  ((s.setCanB n b { s.canB n b with tx := some { x with active := false } }).setFlag (canStat n) 6).setFld (canStat n) 12 7 b

theorem State.canBusOff_of_active (htec : 256 ≤ s.canTec n) (hest : s.canEst n ≠ 2) (hact : s.canActive n = some (b, x)) :
    s.canBusOff n = (((s.canReserved n b x).canOff n).raise (176 + 4 * n) 2).canDropSleep n := by
  unfold State.canBusOff
  rw [if_neg (by simp only [Bool.or_eq_true, decide_eq_true_eq]; omega), hact]
  rfl

theorem State.out_canReserved : (s.canReserved n b x).out = s.out :=
  (State.setFld_out _ _ _ _ _).trans ((State.setFlag_out _ _ _).trans (State.out_setCanB _ _))

theorem State.can_canReserved :
    (s.canReserved n b x).can = (s.setCanB n b { s.canB n b with tx := some { x with active := false } }).can :=
  (State.setFld_can _ _ _ _ _).trans (State.setFlag_can _ _ _)

/-- Recovery is complete: the counters are 0, the controller error-active and idle. -/
def State.canBack (s : State) (n : Nat) : State :=
  (((s.setCanC n { s.canC n with recv := 0, recover := none }).setRg (canEcnt n) 0).setFld (canStat n) 1 0 0).setCanAct n 2

theorem State.canRecovered_of_command {src : Src} {d : Desc} (hact : s.canAct n = 6) (hcmd : (s.canC n).recover = some (src, d)) :
    s.canRecovered n = (((s.canBack n).raise (176 + 4 * n) 0).complete src 0x61 d .ok 0).canKick n := by
  refine (if_pos hact).trans ?_
  dsimp only
  rw [hcmd]
  rfl

theorem State.canEst_canBack : (s.canBack n).canEst n = 0 :=
  (State.canEst_setCanAct _ _ _).trans (State.fld_setFld_self _ _ _ _ _ (by decide) (by decide))

theorem State.canEcnt_canBack : (s.canBack n).rg (canEcnt n) = 0 :=
  (State.rg_setCanAct _ _ _ (canReg_ne (by decide))).trans ((State.rg_setFld_ne _ _ _ _ _ _ (canReg_ne (by decide))).trans (State.rg_setRg_self _ _ _))

theorem State.can_canBack : (s.canBack n).can = (s.setCanC n { s.canC n with recv := 0, recover := none }).can :=
  (State.setFld_can _ _ _ _ _).trans ((State.setFld_can _ _ _ _ _).trans (State.setRg_can _ _ _))

theorem State.out_canBack : (s.canBack n).out = s.out :=
  (State.setFld_out _ _ _ _ _).trans ((State.setFld_out _ _ _ _ _).trans (State.setRg_out _ _ _))

theorem State.host_canBack : (s.canBack n).host = s.host :=
  (State.setFld_host _ _ _ _ _).trans ((State.setFld_host _ _ _ _ _).trans (State.setRg_host _ _ _))

end

/-- Settles O40: errors move the counters and the error state, bus-off keeps the frame on the bus reserved, recovery answers its command. -/
theorem canErrors : Obligations.CanErrors := by
  unfold Obligations.CanErrors
  refine ⟨fun s n hpd hidle hest hact htec hrec hmon => ?rx, fun s n b x hpd hact hest hown hhigh htec hrec hmon hsingle habort => ?tx,
    fun s n htec hest hact hready hinit => ?off, fun s n b x hb htec hest hact => ?reserved, fun s n src d hact hcmd => ?recovered,
    fun s src d hacc htgt hpd hest hawake hidle hnone hinit => ?begun, fun s src d hacc htgt hpd hest hawake hidle hnone => ?needless,
    fun s src d hacc htgt hpd hbusy => ?busy⟩
  case rx =>
    refine ⟨_, congrArg Host.Outcome.next (State.canError_of_rx hpd hidle hest hact htec hrec hmon), ?_, ?_, ?_, ?_, ?_, ?_⟩
    · rw [State.canC_canCounted]
    · exact State.rec_canCounted _ _ _ _ (by omega)
    · exact State.canTec_canCounted _ _ _ _ (by omega)
    · exact (State.canReg_canCounted _ _ _ _ (by decide)).trans (State.rg_incFld_whole _ _)
    · exact State.out_canCounted _ _ _ _
    · exact (State.canEst_canCounted _ _ _ _).trans (State.canEst_canErrCounted.trans hest)
  case tx =>
    obtain ⟨hpassive, hflag, hcount, hout, hbuf⟩ := State.canPassive_fields (s := s.canErrCounted n.val) (n := n.val) (b := b)
      (tec := s.canTec n.val + 8) (recv := (s.canC n.val).recv) (by omega)
    exact ⟨_, congrArg Host.Outcome.next (State.canError_of_tx hpd hact hest hown hhigh htec hrec hmon), hpassive, hflag, hcount, hout, hbuf⟩
  case off =>
    exact ⟨_, congrArg Host.Outcome.next (State.canBusOff_of_none htec hest hact hready), State.canEst_canOff, State.flag_canOff,
      State.canAct_canOff hinit, State.out_canOff, State.host_canOff, State.can_canOff⟩
  case reserved =>
    refine ⟨_, congrArg Host.Outcome.next (State.canBusOff_of_active htec hest hact), State.canEst_canOff, ?_, ?_, ?_,
      State.out_canOff.trans State.out_canReserved⟩
    · exact (State.stat_canOff (by decide)).trans ((State.flag_setFld_other _ _ _ _ _ _ (by decide) (by decide) (by decide)).trans
        (State.flag_setFlag_self _ _ _ (by decide)))
    · exact (State.kept_canOff (by decide)).trans
        ((State.fld_setFld_self _ _ _ _ _ (by decide) (by decide)).trans (Nat.mod_eq_of_lt hb))
    · exact congrArg CanBuf.tx ((State.canB_congr (State.can_canOff.trans State.can_canReserved) _ _).trans (State.canB_setCanB _ _ _ _))
  case recovered =>
    refine ⟨_, congrArg Host.Outcome.next (State.canRecovered_of_command hact hcmd), State.canAct_setCanAct _ _ (by decide), State.canEst_canBack,
      State.canEcnt_canBack, ?_, State.out_canBack, State.host_canBack⟩
    exact (State.canC_congr State.can_canBack _).trans (State.canC_setCanC _ _ _)
  case begun =>
    refine congrArg Host.Outcome.next ((State.cmd_soon_of_accepts hacc).trans ?_)
    simp only [State.canRecover, show ¬4 ≤ d.tgt by omega, hpd, hest, hawake, hidle, hnone, Bool.not_true, Bool.false_eq_true, if_false, Option.isSome_none, decide_false, Bool.or_self,
      bne_self_eq_false, show (s.setCanC d.tgt { s.canC d.tgt with recover := some (src, d) }).canInit d.tgt = false from hinit]
  case needless =>
    refine congrArg Host.Outcome.next ((State.cmd_soon_of_accepts hacc).trans ?_)
    simp only [State.canRecover, show ¬4 ≤ d.tgt by omega, hpd, hest, hawake, hidle, hnone, Bool.not_true, Bool.false_eq_true, if_false, Option.isSome_none, decide_false, Bool.or_self,
      bne_iff_ne, ne_eq, not_false_eq_true, if_true]
  case busy =>
    refine congrArg Host.Outcome.next ((State.cmd_soon_of_accepts hacc).trans ?_)
    simp only [State.canRecover, show ¬4 ≤ d.tgt by omega, hpd, Bool.not_true, Bool.false_eq_true, if_false]
    refine if_pos ?_
    rcases hbusy with hasleep | hrecovering
    · rw [hasleep]
      rfl
    · rw [hrecovering]
      rfl

end Sys2Proof.Machine

/-! Reception of the CAN controllers and the receive buffers: O41 (R541 to R545). -/

namespace Sys2Proof.Machine

open Sys2Proof

section
variable {s : State} {n b : Nat} {f : CanFrame}

/-! ### Frames of ring buffers -/

/-- Nothing moves to the receive ring when no ring buffer holds a frame. -/
theorem State.canDrain_of_none {k : Nat} (hnone : (s.canC n).bufs.find? (fun e => e.2.front.isSome && s.flag (mbCfg n e.1) 2) = none) :
    s.canDrain n k = s := by
  cases k with
  | zero => rfl
  | succ k =>
    unfold State.canDrain
    rw [hnone]

/-- One frame moves to the receive ring (R545). -/
def State.canMoved (s : State) (n b : Nat) (f : CanFrame) : State :=
  ((chunks (s.esize (22 + n)) 16 (canRecord b (s.canC n).lostRec f)).foldl (fun (s : State) e => s.pushRing (22 + n) e)
    (s.setCanC n { s.canC n with lostRec := 0 })).canPop n b

theorem State.canDrain_succ {k : Nat} {x : CanBuf} (hfirst : (s.canC n).bufs.find? (fun e => e.2.front.isSome && s.flag (mbCfg n e.1) 2) = some (b, x))
    (hfront : x.front = some f) (hroom : s.ringRoomN (22 + n) (chunks (s.esize (22 + n)) 16 (canRecord b (s.canC n).lostRec f)).length = true) :
    s.canDrain n (k + 1) = (s.canMoved n b f).canDrain n k := by
  rw [State.canDrain, hfirst]
  dsimp only
  rw [hfront]
  exact if_pos hroom

/-- Records leave the controllers alone. -/
theorem State.can_pushes (u : State) (r : Nat) (l : List (List Byte)) : (l.foldl (fun (s : State) e => s.pushRing r e) u).can = u.can := by
  have hblind : Blind fun v : State => v.can = u.can :=
    ⟨fun _ _ _ _ _ _ hu => hu, fun _ _ _ _ hu => hu, fun _ _ hu => hu, fun _ _ hu => hu, fun _ _ hu => hu⟩
  exact List.foldlRecOn _ _ (motive := fun v : State => v.can = u.can) rfl fun v hv e _ => hblind.pushRing hv r e

theorem Tab.set_alone {α : Type} [DecidableEq α] (d : α) (k : Nat) (x y : α) : Tab.set d [(k, x)] k y = if y = d then [] else [(k, y)] := by
  simp only [Tab.set, List.filter_cons, List.filter_nil, Nat.lt_irrefl, decide_false, Bool.false_eq_true, if_false, List.nil_append]

/-- A buffer alone in its controller. -/
theorem State.canB_of_alone {x : CanBuf} (hbufs : (s.canC n).bufs = [(b, x)]) : s.canB n b = x := by
  rw [State.canB, hbufs, Tab.get, List.find?_cons_of_pos (by exact beq_self_eq_true b)]

/-- A buffer without shadow that gives up its front holds none. -/
theorem State.bufs_canMoved {x : CanBuf} (hbufs : (s.canC n).bufs = [(b, x)]) (hshadow : x.shadow = none) :
    ((s.canMoved n b f).canC n).bufs = [] ∨ ∃ y : CanBuf, y.front = none ∧ ((s.canMoved n b f).canC n).bufs = [(b, y)] := by
  let t := (chunks (s.esize (22 + n)) 16 (canRecord b (s.canC n).lostRec f)).foldl (fun (s : State) e => s.pushRing (22 + n) e)
    (s.setCanC n { s.canC n with lostRec := 0 })
  have hctl : (t.canC n).bufs = [(b, x)] := by
    rw [State.canC_congr (State.can_pushes _ _ _) n, State.canC_setCanC, hbufs]
  have hpop : (t.canPop n b).canC n = { t.canC n with bufs := Tab.set {} (t.canC n).bufs b { x with front := x.shadow, shadow := none, locked := false } } := by
    rw [State.canPop, State.canB_of_alone hctl]
    exact State.canC_setCanB _ _ _ _
  show ((t.canPop n b).canC n).bufs = [] ∨ ∃ y : CanBuf, y.front = none ∧ ((t.canPop n b).canC n).bufs = [(b, y)]
  rw [hpop, hctl, Tab.set_alone]
  split
  · exact Or.inl rfl
  · exact Or.inr ⟨_, hshadow, rfl⟩

theorem State.canDrain_of_alone {k : Nat} {x : CanBuf} (hbufs : (s.canC n).bufs = [(b, x)]) (hfront : x.front = some f) (hshadow : x.shadow = none)
    (hring : s.flag (mbCfg n b) 2 = true) (hroom : s.ringRoomN (22 + n) (chunks (s.esize (22 + n)) 16 (canRecord b (s.canC n).lostRec f)).length = true) :
    s.canDrain n (k + 1) = s.canMoved n b f := by
  have hfirst : (s.canC n).bufs.find? (fun e => e.2.front.isSome && s.flag (mbCfg n e.1) 2) = some (b, x) := by
    rw [hbufs]
    exact List.find?_cons_of_pos (by rw [hfront, hring]; rfl)
  rw [State.canDrain_succ hfirst hfront hroom]
  refine State.canDrain_of_none ?_
  rcases State.bufs_canMoved (f := f) hbufs hshadow with hnone | ⟨y, hempty, hone⟩
  · rw [hnone, List.find?_nil]
  · rw [hone, List.find?_cons_of_neg (by rw [hempty]; exact Bool.false_ne_true), List.find?_nil]

/-! ### Storing a frame (R541, R542) -/

/-- A frame no buffer admits sets NO_MATCH. -/
theorem State.canStore_of_none (hnone : (List.range 64).find? (fun b => s.canMatch n b f) = none) : s.canStore n f = s.setFlag (canFlags n) 9 := by
  unfold State.canStore
  rw [hnone]

/-- A frame stored in the empty buffer that admits it. -/
def State.canStored (s : State) (n b : Nat) (f : CanFrame) : State :=
  (s.setCanB n b { s.canB n b with front := some f }).incFld (canReg n 0x20) 31 0 1

theorem State.bufs_canStored (hbufs : (s.canC n).bufs = []) : ((s.canStored n b f).canC n).bufs = [(b, ({ front := some f } : CanBuf))] := by
  have hempty : s.canB n b = {} := by
    rw [State.canB, hbufs]
    rfl
  have hheld : ({ front := some f } : CanBuf) ≠ {} := fun h => Option.some_ne_none _ (congrArg CanBuf.front h)
  have hctl : (s.canStored n b f).canC n = (s.setCanB n b { s.canB n b with front := some f }).canC n :=
    State.canC_congr (State.setFld_can _ _ _ _ _) n
  rw [hctl, State.canC_setCanB, hempty, hbufs, Tab.set, if_neg hheld]
  rfl

theorem State.can_canStored : (s.canStored n b f).can = (s.setCanB n b { s.canB n b with front := some f }).can := State.setFld_can _ _ _ _ _

theorem State.canC_canStored : (s.canStored n b f).canC n =
    { s.canC n with bufs := Tab.set {} (s.canC n).bufs b { s.canB n b with front := some f } } :=
  (State.canC_congr State.can_canStored n).trans (s.canC_setCanB n b _)

theorem State.canB_canStored : (s.canStored n b f).canB n b = { s.canB n b with front := some f } :=
  (State.canB_congr State.can_canStored n b).trans (s.canB_setCanB n b _)

theorem State.full_canStored : (s.canStored n b f).flag (mbStat n b) 0 = true :=
  (congrArg (bit · 0) (State.rg_incFld_ne _ _ _ _ (canReg_ne_mbStat (by decide)).symm)).trans ((s.full_setCanB n b _).trans (Bool.true_or _))

theorem State.out_canStored : (s.canStored n b f).out = s.out := (State.setFld_out _ _ _ _ _).trans (State.out_setCanB _ _)

theorem State.host_canStored : (s.canStored n b f).host = s.host := (State.setFld_host _ _ _ _ _).trans (State.host_setCanB _ _)

/-- A received frame is no frame to send. -/
theorem State.canReady_canStored (hbufs : (s.canC n).bufs = []) : (s.canStored n b f).canReady n = [] := by
  unfold State.canReady
  rw [State.bufs_canStored hbufs]
  rfl

theorem State.canStore_of_empty (hmatch : (List.range 64).find? (fun b => s.canMatch n b f) = some b) (hbufs : (s.canC n).bufs = [])
    (hring : s.flag (mbCfg n b) 2 = false) : s.canStore n f = s.canStored n b f := by
  have hempty : s.canB n b = {} := by
    rw [State.canB, hbufs]
    rfl
  have hkeep : (s.canStored n b f).flag (mbCfg n b) 2 = false :=
    (congrArg (bit · 2) ((State.rg_incFld_ne _ _ _ _ (canReg_ne (by omega))).trans (s.rg_setCanB n b _ mbCfg_ne_mbStat))).trans hring
  have hone := State.bufs_canStored (f := f) (b := b) hbufs
  have hnone : ((s.canStored n b f).canC n).bufs.find? (fun e => e.2.front.isSome && (s.canStored n b f).flag (mbCfg n e.1) 2) = none := by
    rw [hone, List.find?_cons_of_neg (by rw [hkeep, Bool.and_false]; exact Bool.false_ne_true), List.find?_nil]
  unfold State.canStore
  rw [hmatch]
  dsimp only
  rw [if_pos (show (s.canB n b).front.isNone = true by rw [hempty]; rfl)]
  exact State.canDrain_of_none hnone

/-- What is kept of a frame that is lost, before its event. -/
def State.canLost (s : State) (n b : Nat) : State :=
  let s := (s.incFld (canReg n 0x24) 31 0 1).incFld (mbStat n b) 23 16 1
  let s := if s.flag (mbCfg n b) 2 then s.setCanC n { s.canC n with lostRec := (s.canC n).lostRec + 1 } else s
  (s.setFlag (mbStat n b) 7).setFlag (canFlags n) 4

theorem State.canLose_eq : s.canLose n b = (s.canLost n b).raise (179 + 4 * n) b := rfl

/-- Front and shadow full, without overwriting: the frame is lost (R542). -/
theorem State.canStore_of_full {g h : CanFrame} (hmatch : (List.range 64).find? (fun b => s.canMatch n b f) = some b)
    (hfront : (s.canB n b).front = some g) (hshadow : (s.canB n b).shadow = some h) (hkeep : s.flag (mbCfg n b) 3 = false) :
    s.canStore n f = s.canLose n b := by
  unfold State.canStore
  rw [hmatch]
  dsimp only
  rw [hfront, hshadow, hkeep]
  rfl

/-- Whether the buffer is a ring's, its controller changes by a count alone. -/
theorem State.canC_canLost : ∃ l, (s.canLost n b).canC n = { s.canC n with lostRec := l } := by
  have hflags (u : State) : ((u.setFlag (mbStat n b) 7).setFlag (canFlags n) 4).canC n = u.canC n :=
    State.canC_congr ((State.setFlag_can _ _ _).trans (State.setFlag_can _ _ _)) n
  unfold State.canLost
  dsimp only
  rw [hflags]
  split
  · exact ⟨_, State.canC_setCanC _ _ _⟩
  · exact ⟨_, rfl⟩

theorem State.canB_canLost : (s.canLost n b).canB n b = s.canB n b := by
  obtain ⟨l, hctl⟩ := State.canC_canLost (s := s) (n := n) (b := b)
  rw [State.canB, hctl]
  rfl

theorem State.recv_canLost : ((s.canLost n b).canC n).recv = (s.canC n).recv := by
  obtain ⟨l, hctl⟩ := State.canC_canLost (s := s) (n := n) (b := b)
  rw [hctl]

/-- The registers a loss moves are its counts and its flags. -/
theorem State.rg_canLost {o : Nat} (ho : o ≠ canReg n 0x18) (hstat : o ≠ mbStat n b) :
    (s.canLost n b).rg o = (s.incFld (canReg n 0x24) 31 0 1).rg o := by
  have hring (u : State) (c : Bool) (l : Nat) : (if c = true then u.setCanC n { u.canC n with lostRec := l } else u).rg o = u.rg o := by
    cases c <;> rfl
  refine (State.rg_setFlag_ne _ _ _ _ ho).trans ((State.rg_setFlag_ne _ _ _ _ hstat).trans ((hring _ _ _).trans ?_))
  exact State.rg_incFld_ne _ _ _ _ hstat

theorem State.canLost_fields : (s.canLost n b).flag (mbStat n b) 7 = true ∧ (s.canLost n b).flag (canFlags n) 4 = true ∧
    (s.canLost n b).rg (canReg n 0x24) = ofNat (satAdd (2 ^ 32 - 1) (s.rg (canReg n 0x24)).toNat 1) ∧ (s.canLost n b).out = s.out := by
  refine ⟨?_, State.flag_setFlag_self _ _ _ (by decide), ?_, ?_⟩
  · exact (congrArg (bit · 7) (State.rg_setFlag_ne _ _ _ _ (canReg_ne_mbStat (by decide)).symm)).trans (State.flag_setFlag_self _ _ _ (by decide))
  · exact (State.rg_canLost (canReg_ne (by decide)) (canReg_ne_mbStat (by decide))).trans (s.rg_incFld_whole _)
  · have hring (u : State) (c : Bool) (l : Nat) : (if c = true then u.setCanC n { u.canC n with lostRec := l } else u).out = u.out := by
      cases c <;> rfl
    exact (State.setFlag_out _ _ _).trans ((State.setFlag_out _ _ _).trans (hring _ _ _))

/-! ### The frame received -/

theorem State.canRxOk_of_zero (hzero : (s.canC n).recv = 0) : s.canRxOk n = s := by
  unfold State.canRxOk
  dsimp only
  rw [if_pos (by rw [hzero]; exact Bool.or_true _)]

/-- A controller that takes part in the bus stores the frame it received; in its own attempt it goes on with it. -/
theorem State.canReceived_of_active {x : CanBits} {a : Nat} (hpd : s.powered 6 = true) (hact : s.canAct n = a) (ha : a = 2 ∨ a = 4)
    (hest : s.canEst n ≠ 2) (hclassic : x.idw.getLsbD 30 = false) {t : State} (hstore : s.canStore n (frameOf x false) = t)
    (hzero : (t.canC n).recv = 0) : s.canReceived n x = if a = 4 then t else (t.setCanAct n 3).canIdle n := by
  have htakes : (s.powered 6 && (s.canAct n == 2 || s.canAct n == 3 || s.canAct n == 4) && s.canEst n != 2 &&
      (!bit x.idw 30 || s.flag (canReg n 0) 1)) = true := by
    rw [hpd, hact, bne_iff_ne.mpr hest, show bit x.idw 30 = false from hclassic]
    rcases ha with rfl | rfl <;> rfl
  unfold State.canReceived
  dsimp only
  rw [if_pos htakes, hstore, State.canRxOk_of_zero hzero, hact]

/-- A controller idle again after a reception. -/
def State.canIdled (s : State) (n : Nat) : State := (s.setCanAct n 3).setCanAct n 2

theorem State.canAct_canIdled : (s.canIdled n).canAct n = 2 := (s.setCanAct n 3).canAct_setCanAct n (by decide)

theorem State.rg_canIdled {o : Nat} (ho : o ≠ canStat n) : (s.canIdled n).rg o = s.rg o :=
  ((s.setCanAct n 3).rg_setCanAct n 2 ho).trans (s.rg_setCanAct n 3 ho)

theorem State.can_canIdled : (s.canIdled n).can = s.can := (State.setFld_can _ _ _ _ _).trans (State.setFld_can _ _ _ _ _)

theorem State.out_canIdled : (s.canIdled n).out = s.out := (State.setFld_out _ _ _ _ _).trans (State.setFld_out _ _ _ _ _)

theorem State.host_canIdled : (s.canIdled n).host = s.host := (State.setFld_host _ _ _ _ _).trans (State.setFld_host _ _ _ _ _)

/-- An attempt or a reception ends in an idle controller that holds nothing. -/
theorem State.canIdle_of_none (hinit : s.canInit n = false) (hready : s.canReady n = []) : (s.setCanAct n 3).canIdle n = s.canIdled n := by
  have hact : ((s.setCanAct n 3).canAct n = 3 || (s.setCanAct n 3).canAct n = 4) = true := by
    rw [s.canAct_setCanAct n (by decide)]
    rfl
  unfold State.canIdle
  rw [if_pos hact, (s.canInit_setCanAct n 3).trans hinit, if_neg Bool.false_ne_true]
  exact State.canKick_of_none _ _ hready

/-- A receive buffer of the host's that holds a frame is locked or released. -/
theorem State.canMb_of_full {g : CanFrame} {k : State → State} (hdir : s.flag (mbCfg n b) 1 = false) (hring : s.flag (mbCfg n b) 2 = false)
    (hfront : (s.canB n b).front = some g) : s.canMb n b k = k s := by
  unfold State.canMb
  rw [hdir, hring, hfront]
  rfl

theorem State.canMb_of_wrong {k : State → State} (hwrong : s.flag (mbCfg n b) 1 = true ∨ (s.canB n b).front = none) :
    s.canMb n b k = s.setFlag (canFlags n) 1 := by
  refine if_pos ?_
  rcases hwrong with hdir | hempty
  · rw [hdir, Bool.true_or, Bool.true_or]
  · rw [hempty]
    exact Bool.or_true _

end

/-- Settles O41: a frame goes to the first buffer that admits it, or is counted as lost; ring buffers drain, host buffers are locked and released. -/
theorem canReception : Obligations.CanReception := by
  unfold Obligations.CanReception
  refine ⟨fun s n f b hpd hact hest hclassic hzero hbufs hinit hmatch hring => ?stored,
    fun s n f hpd hact hest hclassic hzero hnone => ?unmatched,
    fun s n f g h x b hpd hact hest hclassic hzero hf hmatch hfront hshadow hkeep => ?lost,
    fun s n b x f hbufs hfront hshadow hring hroom => ?drained, fun s n v f hpd hdir hring hfront => ?taken, fun s n v hpd hwrong => ?wrong⟩
  case stored =>
    have hready := State.canReady_canStored (f := frameOf f false) (b := b) hbufs
    have hkeep {a : Nat} (ha : a ≠ 0x20) (hlow : a < 0x10C) : (s.canStored n.val b (frameOf f false)).rg (canReg n.val a) = s.rg (canReg n.val a) :=
      (State.rg_incFld_ne _ _ _ _ (canReg_ne ha)).trans (s.canReg_setCanB _ _ _ hlow)
    have heq : exec (.canFrameReceived n f) s = .next ((s.canStored n.val b (frameOf f false)).canIdled n.val) :=
      congrArg Host.Outcome.next ((State.canReceived_of_active hpd hact (Or.inl rfl) hest hclassic (State.canStore_of_empty hmatch hbufs hring)
        ((congrArg CanCtl.recv (State.canC_canStored (n := n.val))).trans hzero)).trans ((if_neg (by decide)).trans
          (State.canIdle_of_none ((congrArg (bit · 0) (hkeep (by decide) (by decide))).trans hinit) hready)))
    refine ⟨_, heq, congrArg CanBuf.front ((State.canB_congr State.can_canIdled _ _).trans State.canB_canStored),
      (congrArg (bit · 0) (State.rg_canIdled (canReg_ne_mbStat (by decide)).symm)).trans State.full_canStored, ?_, State.canAct_canIdled,
      State.out_canIdled.trans State.out_canStored, State.host_canIdled.trans State.host_canStored⟩
    exact (State.rg_canIdled (canReg_ne (by decide))).trans ((State.rg_incFld_whole _ _).trans
      (congrArg (fun w : Word => ofNat (satAdd (2 ^ 32 - 1) w.toNat 1)) (s.canReg_setCanB _ _ _ (by decide))))
  case unmatched =>
    exact congrArg Host.Outcome.next ((State.canReceived_of_active hpd hact (Or.inr rfl) hest hclassic (State.canStore_of_none hnone) hzero).trans (if_pos rfl))
  case lost =>
    subst hf
    obtain ⟨hflag, hflags, hcount, hout⟩ := State.canLost_fields (s := s) (n := n.val) (b := b)
    refine ⟨s.canLost n.val b, congrArg Host.Outcome.next ((State.canReceived_of_active hpd hact (Or.inr rfl) hest hclassic
      ((State.canStore_of_full hmatch hfront hshadow hkeep).trans State.canLose_eq) ?_).trans (if_pos rfl)), hflag, hflags, hcount, State.canB_canLost, hout⟩
    rw [State.canC_congr (State.raise_can _ _ _ (by omega)), State.recv_canLost, hzero]
  case drained =>
    exact congrArg Host.Outcome.next (State.canDrain_of_alone hbufs hfront hshadow hring hroom)
  case taken =>
    refine ⟨congrArg Host.Outcome.next ((if_pos hpd).trans (State.canMb_of_full hdir hring hfront)),
      congrArg Host.Outcome.next ((if_pos hpd).trans (State.canMb_of_full hdir hring hfront))⟩
  case wrong =>
    exact ⟨congrArg Host.Outcome.next ((if_pos hpd).trans (State.canMb_of_wrong hwrong)),
      congrArg Host.Outcome.next ((if_pos hpd).trans (State.canMb_of_wrong hwrong))⟩

end Sys2Proof.Machine

/-! INIT, integration, the helm, sleep and wake of the CAN controllers: O42 (R532 to R534, R538, R554 to R557). -/

namespace Sys2Proof.Machine

open Sys2Proof

/-! ### Words written to CAN_CTL -/

theorem putBits_zero_zero (v : Word) : putBits v 0 0 0 = v &&& 0xFFFFFFFE := BitVec.or_zero

theorem putBits_zero_one (v : Word) : putBits v 0 0 1 = v &&& 0xFFFFFFFE ||| 1 := rfl

/-- The word of CAN_INIT_LEAVE without its INIT and its reserved bits. -/
theorem leaveWord_eq (v : Word) : putBits v 0 0 0 &&& 0xFFFF01FF = v &&& 0xFFFF01FE := by
  rw [putBits_zero_zero, BitVec.and_assoc]
  rfl

theorem leaveWord_one (v : Word) : putBits (v &&& 0xFFFF01FE) 0 0 1 = v &&& 0xFFFF01FE ||| 1 := by
  rw [putBits_zero_one, BitVec.and_assoc]
  rfl

theorem bit_leaveWord (v : Word) (m : Nat) : bit (v &&& 0xFFFF01FE) m = (v.getLsbD m && (0xFFFF01FE : Word).getLsbD m) := BitVec.getLsbD_and

theorem bits_leaveWord (v : Word) : bits (v &&& 0xFFFF01FE) 31 16 = bits v 31 16 := by
  have hmask : ∀ i : Fin 32, 16 ≤ i.val → (0xFFFF01FE : Word).getLsbD i.val = true := by decide
  refine bits_congr fun i hlo hhi => ?_
  rw [BitVec.getLsbD_and, hmask ⟨i, by omega⟩ hlo, Bool.and_true]

theorem putBits_bits (w : Word) {hi lo : Nat} (hle : lo ≤ hi) (hlt : hi < 32) : putBits w hi lo (bits w hi lo) = w := by
  refine BitVec.eq_of_getLsbD_eq fun i hi => ?_
  rw [getLsbD_putBits _ _ _ _ _ hle hlt]
  split
  case isTrue hin =>
    rw [testBit_bits, decide_eq_true (by omega), Bool.true_and, Nat.add_sub_cancel' hin.1]
  · rfl

section
variable {s : State} {n : Nat}

/-! ### INIT (R538) -/

/-- CAN_CTL as CAN_INIT_LEAVE writes it with settings in order, and the mode the controller will run in. -/
def State.canSet (s : State) (n : Nat) (v : Word) : State :=
  (s.setRg (canReg n 0) (v &&& 0xFFFF01FE)).putFlag (canStat n) 5 ((s.setRg (canReg n 0) (v &&& 0xFFFF01FE)).canMonWant n)

theorem State.canCtl_canSet {v : Word} : (s.canSet n v).rg (canReg n 0) = v &&& 0xFFFF01FE :=
  (State.rg_putFlag_ne _ _ _ (canReg_ne (by decide))).trans (State.rg_setRg_self _ _ _)

theorem State.fld_canSet {v : Word} {hi lo : Nat} (happart : hi < 5 ∨ 5 < lo) : (s.canSet n v).fld (canStat n) hi lo = s.fld (canStat n) hi lo :=
  (State.fld_setFld_other _ _ _ _ _ _ _ (by decide) (by decide) happart).trans
    (congrArg (bits · hi lo) (State.rg_setRg_ne _ _ _ _ (canReg_ne (by decide))))

theorem State.monitor_canSet {v : Word} : (s.canSet n v).flag (canStat n) 5 = (s.setRg (canReg n 0) (v &&& 0xFFFF01FE)).canMonWant n :=
  State.flag_putFlag_self _ _ _ _ (by decide)

/-- The mode wanted: bus monitoring as CAN_CTL says, or without the helm. -/
theorem State.canMonWant_setRg {v : Word} (hn : n < 4) :
    (s.setRg (canReg n 0) (v &&& 0xFFFF01FE)).canMonWant n = (v.getLsbD 3 || !s.holder) := by
  have hmode : (s.setRg (canReg n 0) (v &&& 0xFFFF01FE)).flag (canReg n 0) 3 = v.getLsbD 3 := by
    rw [State.flag, State.rg_setRg_self, bit_leaveWord, show (0xFFFF01FE : Word).getLsbD 3 = true from rfl, Bool.and_true]
  have hhelm : (s.setRg (canReg n 0) (v &&& 0xFFFF01FE)).holder = s.holder :=
    congrArg (fun w => bits w 2 0 == 3) (State.rg_setRg_ne _ _ _ _ (by simp only [canReg, CAN_B, HELM_STAT, HELM_B]; omega))
  rw [State.canMonWant, hmode, hhelm]

section
variable {v : Word} (hinit : s.canInit n = true) (htime : bits v 31 16 ≠ 0)

include hinit htime

/-- CAN_INIT_LEAVE with settings in order: the controller integrates. -/
theorem State.canCtlWrite_of_valid (hvalid : s.canTiming n (v.getLsbD 1) = true) (hact : s.canAct n = 0) (hest : s.canEst n ≠ 2) :
    s.canCtlWrite n (putBits v 0 0 0) = (s.canSet n v).setCanAct n 1 := by
  have hsame : putBits (v &&& 0xFFFF01FE) 31 16 (bits v 31 16) = v &&& 0xFFFF01FE := by
    rw [← bits_leaveWord]
    exact putBits_bits _ (by decide) (by decide)
  have hleave : bit (v &&& 0xFFFF01FE) 0 = false := (bit_leaveWord v 0).trans (Bool.and_false _)
  have hfdoe : bit (v &&& 0xFFFF01FE) 1 = v.getLsbD 1 := (bit_leaveWord v 1).trans (Bool.and_true _)
  have hact' : (s.canSet n v).canAct n = 0 := (State.fld_canSet (by decide)).trans hact
  have hest' : (s.canSet n v).canEst n ≠ 2 := mt (State.fld_canSet (by decide)).symm.trans hest
  unfold State.canCtlWrite
  rw [leaveWord_eq]
  unfold State.canSet at *
  simp only [hinit, bits_leaveWord, htime, hsame, hleave, hfdoe, hvalid, hact', hest', if_false, if_true, Bool.not_true, Bool.false_and, Bool.not_false,
    Bool.false_eq_true, beq_eq_false_iff_ne.mpr hest', Bool.and_self]

/-- CAN_INIT_LEAVE with settings out of order: INIT stays (R538). -/
theorem State.canCtlWrite_of_invalid (hinvalid : s.canTiming n (v.getLsbD 1) = false) :
    s.canCtlWrite n (putBits v 0 0 0) = (s.setRg (canReg n 0) (v &&& 0xFFFF01FE ||| 1)).setFlag (canFlags n) 1 := by
  have hsame : putBits (v &&& 0xFFFF01FE) 31 16 (bits v 31 16) = v &&& 0xFFFF01FE := by
    rw [← bits_leaveWord]
    exact putBits_bits _ (by decide) (by decide)
  have hleave : bit (v &&& 0xFFFF01FE) 0 = false := (bit_leaveWord v 0).trans (Bool.and_false _)
  have hfdoe : bit (v &&& 0xFFFF01FE) 1 = v.getLsbD 1 := (bit_leaveWord v 1).trans (Bool.and_true _)
  unfold State.canCtlWrite
  rw [leaveWord_eq]
  simp only [hinit, bits_leaveWord, htime, hsame, hleave, hfdoe, hinvalid, if_false, if_true, Bool.not_true, Bool.false_and, Bool.not_false,
    Bool.true_and, Bool.false_eq_true, leaveWord_one]
  rfl

end

/-! ### Integration and attempts (R538) -/

/-- An attempt is all an idle controller can begin: the host's side stays. -/
theorem State.canKick_cases : (s.canKick n).host = s.host ∧ ((s.canKick n).canAct n = s.canAct n ∨ (s.canKick n).canAct n = 4) := by
  unfold State.canKick
  split
  · split
    · exact ⟨rfl, Or.inr ((State.canAct_emit _ n _).trans (State.canAct_setCanAct _ n (by decide)))⟩
    · exact ⟨rfl, Or.inl rfl⟩
  · exact ⟨rfl, Or.inl rfl⟩

theorem State.canIntegrated_of_one (hact : s.canAct n = 1) : s.canIntegrated n = (s.setCanAct n 2).canKick n := if_pos hact

/-! ### Sleep and wake (R554 to R557) -/

/-- The transceiver's line of a controller (R533). -/
theorem State.canStb_eq {a : Nat} {mode ctl : Bool} (hact : s.canAct n = a) (hmode : s.flag (canStat n) 23 = mode) (hctl : s.flag (canReg n 0) 7 = ctl) :
    s.canStb n = s.emit (.pin 14 n (b2n (a == 5 && !mode && ctl))) := by
  rw [State.canStb, hact, hmode, hctl]

/-- A controller that falls asleep. -/
def State.canDozed (s : State) (n : Nat) (mode : Bool) : State :=
  ((s.setCanC n { s.canC n with sleep := none }).setCanAct n 5).putFlag (canStat n) 23 mode

/-- A controller that wakes. -/
def State.canWoken (s : State) (n : Nat) : State := (s.setFlag (canFlags n) 6).setCanAct n 1

theorem State.canAct_canDozed {mode : Bool} : (s.canDozed n mode).canAct n = 5 :=
  (State.fld_setFld_other _ _ _ _ _ _ _ (by decide) (by decide) (by decide)).trans (State.canAct_setCanAct _ n (by decide))

theorem State.canAsleep_of_idle {src : Src} {d : Desc} {mode : Bool} (hcmd : (s.canC n).sleep = some (src, d, mode)) (hidle : s.canAct n = 2) :
    s.canAsleep n = ((s.canDozed n mode).emit (.pin 14 n (b2n (!mode && s.flag (canReg n 0) 7)))).complete src 0x62 d .ok := by
  have hstb : (s.canDozed n mode).canStb n = (s.canDozed n mode).emit (.pin 14 n (b2n (!mode && s.flag (canReg n 0) 7))) :=
    State.canStb_eq State.canAct_canDozed (State.flag_putFlag_self _ _ _ _ (by decide))
      (congrArg (bit · 7) ((State.rg_putFlag_ne _ _ _ (canReg_ne (by decide))).trans (State.rg_setCanAct _ _ _ (canReg_ne (by decide)))))
  unfold State.canAsleep
  rw [hcmd]
  dsimp only
  rw [if_neg (not_not_intro hidle)]
  exact congrArg (State.complete · src 0x62 d .ok) hstb

theorem State.canDozed_fields {mode : Bool} : (s.canDozed n mode).flag (canStat n) 23 = mode ∧ (s.canDozed n mode).out = s.out ∧
    (s.canDozed n mode).host = s.host ∧ (s.canDozed n mode).canC n = { s.canC n with sleep := none } := by
  refine ⟨State.flag_putFlag_self _ _ _ _ (by decide), (State.setFld_out _ _ _ _ _).trans (State.setFld_out _ _ _ _ _),
    (State.setFld_host _ _ _ _ _).trans (State.setFld_host _ _ _ _ _), ?_⟩
  exact (State.canC_congr ((State.setFld_can _ _ _ _ _).trans (State.setFld_can _ _ _ _ _)) n).trans (s.canC_setCanC n _)

theorem State.canWake_eq : s.canWake n = ((s.canWoken n).emit (.pin 14 n 0)).raise (178 + 4 * n) 0 :=
  congrArg (State.raise · (178 + 4 * n) 0) (State.canStb_eq (State.canAct_setCanAct _ n (by decide)) rfl rfl)

theorem State.canWoken_fields : (s.canWoken n).canAct n = 1 ∧ (s.canWoken n).flag (canFlags n) 6 = true ∧ (s.canWoken n).out = s.out ∧
    (s.canWoken n).can = s.can ∧ (s.canWoken n).host = s.host := by
  refine ⟨State.canAct_setCanAct _ n (by decide), ?_, (State.setFld_out _ _ _ _ _).trans (State.setFlag_out _ _ _),
    (State.setFld_can _ _ _ _ _).trans (State.setFlag_can _ _ _), (State.setFld_host _ _ _ _ _).trans (State.setFlag_host _ _ _)⟩
  exact (congrArg (bit · 6) (State.rg_setCanAct _ _ _ (canReg_ne (by decide)))).trans (State.flag_setFlag_self _ _ _ (by decide))

/-- What a line driven leaves as it was. -/
theorem State.flag_emit (s : State) (e : Emit) (o m : Nat) : (s.emit e).flag o m = s.flag o m := rfl

theorem State.out_emit (s : State) (e : Emit) : (s.emit e).out = s.out ++ [e] := rfl

theorem State.can_emit (s : State) (e : Emit) : (s.emit e).can = s.can := rfl

theorem State.host_emit (s : State) (e : Emit) : (s.emit e).host = s.host := rfl

/-! ### CAN_SLEEP (R554) -/

section
variable {src : Src} {d : Desc} (htgt : d.tgt < 4) (hpd : s.powered 6 = true)

include htgt hpd

theorem State.canSleep_of_asleep (hasleep : s.canAct d.tgt = 5) : s.canSleep src d = s.complete src 0x62 d .ok := by
  simp only [State.canSleep, show ¬4 ≤ d.tgt by omega, hpd, hasleep, Bool.not_true, Bool.false_eq_true, if_false, if_true]

theorem State.canSleep_of_awake (hawake : s.canAct d.tgt ≠ 5) : s.canSleep src d =
    if s.canInit d.tgt || s.canAct d.tgt = 6 || s.canEst d.tgt = 2 || (s.canC d.tgt).sleep.isSome then s.complete src 0x62 d .busy
    else s.setCanC d.tgt { s.canC d.tgt with sleep := some (src, d, d.op0.getLsbD 0) } := by
  simp only [State.canSleep, show ¬4 ≤ d.tgt by omega, hpd, hawake, Bool.not_true, Bool.false_eq_true, if_false]
  rfl

end

end

/-- Settles O42: INIT is left with settings in order; integration, the helm and protocol exceptions; sleep and the two ways to wake. -/
theorem canModes : Obligations.CanModes := by
  unfold Obligations.CanModes
  refine ⟨fun s n v hpd hinit hact hest hvalid htime => ?left, fun s n v hpd hinit hinvalid htime => ?stays, fun s n hact hready => ?idle,
    fun s n hact => ?begins, fun s n hinit hbusy => ?helm, fun s n hact hest hown hpxe hinit => ?exception,
    fun s src d hacc htgt hpd hinit hawake hrec hest hfree => ?dozes, fun s src d hacc htgt hpd hasleep => ?asleep,
    fun s src d hacc htgt hpd hawake hbusy => ?busy, fun s n src d m hcmd hidle => ?entered, fun s n hasleep hmode => ?edge,
    fun s n f hasleep hmode hwakes => ?frame, fun s n f hasleep hmode => ?deaf⟩
  case left =>
    refine ⟨_, congrArg Host.Outcome.next ((if_pos hpd).trans (State.canCtlWrite_of_valid hinit htime hvalid hact hest)),
      State.canAct_setCanAct _ _ (by decide), (State.rg_setCanAct _ _ _ (canReg_ne (by decide))).trans State.canCtl_canSet, ?_,
      (State.setFld_out _ _ _ _ _).trans (State.setFld_out _ _ _ _ _), (State.setFld_can _ _ _ _ _).trans (State.setFld_can _ _ _ _ _),
      (State.setFld_host _ _ _ _ _).trans (State.setFld_host _ _ _ _ _)⟩
    exact (State.stat_setCanAct _ _ _ (by decide)).trans (State.monitor_canSet.trans (State.canMonWant_setRg n.isLt))
  case stays =>
    exact congrArg Host.Outcome.next ((if_pos hpd).trans (State.canCtlWrite_of_invalid hinit htime hinvalid))
  case idle =>
    exact congrArg Host.Outcome.next ((State.canIntegrated_of_one hact).trans (State.canKick_of_none _ _ hready))
  case begins =>
    obtain ⟨hhost, hstate⟩ := State.canKick_cases (s := s.setCanAct n.val 2) (n := n.val)
    refine ⟨_, congrArg Host.Outcome.next (State.canIntegrated_of_one hact), ?_, hhost.trans (State.setFld_host _ _ _ _ _)⟩
    rwa [s.canAct_setCanAct n.val (by decide)] at hstate
  case helm =>
    refine congrArg Host.Outcome.next ((if_neg hinit).trans (State.canKick_of_busy _ _ ?_))
    exact mt (State.fld_putFlag_other _ _ _ _ _ (by decide) (by decide)).symm.trans hbusy
  case exception =>
    have hfail : s.canFailed n.val 1 = s := by
      unfold State.canFailed
      rw [hown]
    refine congrArg Host.Outcome.next ?_
    simp only [State.canException, hact, beq_eq_false_iff_ne.mpr hest, hpxe, hinit, hfail]
    rfl
  case dozes =>
    refine congrArg Host.Outcome.next ((State.cmd_soon_of_accepts hacc).trans ((State.canSleep_of_awake htgt hpd hawake).trans (if_neg ?_)))
    simp only [hinit, hrec, hest, hfree, Option.isSome_none, decide_false, Bool.or_self, Bool.false_eq_true, not_false_eq_true]
  case asleep =>
    exact congrArg Host.Outcome.next ((State.cmd_soon_of_accepts hacc).trans (State.canSleep_of_asleep htgt hpd hasleep))
  case busy =>
    refine congrArg Host.Outcome.next ((State.cmd_soon_of_accepts hacc).trans ((State.canSleep_of_awake htgt hpd hawake).trans (if_pos ?_)))
    rcases hbusy with hinit | hrec | hoff
    · rw [hinit]
      rfl
    · simp only [hrec, decide_true, Bool.or_true, Bool.true_or]
    · simp only [hoff, decide_true, Bool.or_true, Bool.true_or]
  case entered =>
    obtain ⟨hflag, hout, hhost, hctl⟩ := State.canDozed_fields (s := s) (n := n.val) (mode := m)
    refine ⟨_, congrArg Host.Outcome.next (State.canAsleep_of_idle hcmd hidle), (State.canAct_emit _ _ _).trans State.canAct_canDozed,
      (State.flag_emit _ _ _ _).trans hflag, (State.out_emit _ _).trans (congrArg (· ++ _) hout), (State.host_emit _ _).trans hhost, ?_, ?_⟩ <;> rw [State.canC_congr (State.can_emit _ _) _, hctl]
  case edge =>
    obtain ⟨hact, hflag, hout, hcan, hhost⟩ := State.canWoken_fields (s := s) (n := n.val)
    refine ⟨_, congrArg Host.Outcome.next ((if_pos ?_).trans State.canWake_eq), (State.canAct_emit _ _ _).trans hact, (State.flag_emit _ _ _ _).trans hflag,
      (State.out_emit _ _).trans (congrArg (· ++ _) hout), (State.can_emit _ _).trans hcan, (State.host_emit _ _).trans hhost⟩
    rw [hasleep, hmode]
    rfl
  case frame =>
    obtain ⟨hact, hflag, hout, hcan, hhost⟩ := State.canWoken_fields (s := s) (n := n.val)
    refine ⟨_, congrArg Host.Outcome.next ((if_pos ?_).trans (congrArg (State.canStore · n.val (frameOf f true)) State.canWake_eq)),
      (State.canAct_emit _ _ _).trans hact, (State.flag_emit _ _ _ _).trans hflag,
      (State.out_emit _ _).trans (congrArg (· ++ _) hout), (State.can_emit _ _).trans hcan, (State.host_emit _ _).trans hhost⟩
    rw [hasleep, hmode, hwakes]
    rfl
  case deaf =>
    refine congrArg Host.Outcome.next (if_neg ?_)
    rw [hmode, Bool.and_false, Bool.false_and]
    exact Bool.false_ne_true

end Sys2Proof.Machine

/-! The dispatcher's CSRs: O37 (R514 to R521, R527). -/

namespace Sys2Proof.Machine

open Sys2Proof

section
variable {s : State} {h t : Nat}

/-! ### Writes of XDSP (R518, R521) -/

/-- A thread in service at the head or the tail of the ready list. -/
theorem State.makeReady_of_enabled (hen : s.thEn t = true) (head : Bool) : s.makeReady t head = { s with cpu := { s.cpu with
    ready := if head then t :: s.cpu.ready.filter (fun x => x != t) else s.cpu.ready.filter (fun x => x != t) ++ [t],
    readyAt := Tab.set 0 s.cpu.readyAt t s.ntime } } := if_pos hen

/-- Without a running thread a write of XDSP does nothing. -/
theorem State.xdspWrite_of_none {code : Nat} (hnone : 256 ≤ s.runOf h) : s.xdspWrite h code = s := if_pos hnone

section
variable (hrun : s.runOf h < 256)

include hrun

/-- PREEMPT counts and puts the thread at the head of its list. -/
theorem State.xdspWrite_preempt (hen : s.thEn (s.runOf h) = true) :
    s.xdspWrite h 0 = ((s.setRun h 256).incFld (thCfg (s.runOf h) + 0x24) 31 0 1).makeReady (s.runOf h) true := by
  have hkeep : ((s.setRun h 256).incFld (thCfg (s.runOf h) + 0x24) 31 0 1).thEn (s.runOf h) = true :=
    (congrArg (bit · 13) ((s.setRun h 256).rg_incFld_ne _ _ _ (by omega))).trans hen
  refine (if_neg (by omega)).trans ?_
  rw [if_pos rfl, hkeep]
  rfl

theorem State.xdspWrite_enabled {code : Nat} (hcode : code ≠ 0) (hen : s.thEn (s.runOf h) = true) : s.xdspWrite h code = match code with
    | 1 => (s.setRun h 256).makeReady (s.runOf h) false
    | 2 => (s.setRun h 256).registerWait (s.runOf h)
    | _ => s.setRun h 256 := by
  have hkeep : (s.setRun h 256).thEn (s.runOf h) = true := hen
  refine (if_neg (by omega)).trans ?_
  rw [if_neg hcode, hkeep]
  match code, hcode with
  | 1, _ => rfl
  | 2, _ => rfl
  | n + 3, _ => rfl

/-- STOP: the thread leaves its hart and enters no list. -/
theorem State.xdspWrite_stop : s.xdspWrite h 3 = s.setRun h 256 := by
  exact (if_neg (by omega)).trans (ite_self _)

end

/-! ### Waits (R514) -/

/-- The wait of a thread's four tokens. -/
def State.waitOf (s : State) (t : Nat) : Wait :=
  { thread := t, toks := s.tokens t, matched := [false, false, false, false], any := s.flag (thCfg t) 12, wake := (s.rg (thCfg t + 0xC)).toNat }

theorem State.registerWait_of_invalid (hbad : waitInvalid t (s.tokens t) = true) : s.registerWait t = s.setFlag CPU_FLAGS 5 := if_pos hbad

theorem State.registerWait_of_valid (hok : waitInvalid t (s.tokens t) = false) (hsome : (s.tokens t).all (fun k => tokKind k == 0) = false) :
    s.registerWait t = ({ s with cpu := { s.cpu with waits := s.cpu.waits ++ [s.waitOf t] } } : State).tokenEdge none :=
  (if_neg (by rw [hok]; exact Bool.false_ne_true)).trans (if_neg (by rw [hsome]; exact Bool.false_ne_true))

/-! ### A read of XDSP (R519) -/

/-- The hart is given a thread: it leaves the lists, and its block counts the start and its delay. -/
def State.given (s : State) (h t : Nat) : State :=
  let s' := ((s.unlist t).setRun h t).incFld (thCfg t + 0x20) 31 0 1
  s'.setFld (thCfg t + 0x30) 15 0 (max (min 0xFFFF (s.ntime - Tab.get 0 s.cpu.readyAt t)) (s'.fld (thCfg t + 0x30) 15 0))

theorem State.dispatch_of_thread (hserved : s.hartServed h = true) (hbest : s.bestThread h = some t) :
    s.dispatch h = (s.given h t).csrOut h 0x7C0 ((s.given h t).xrun h) := by
  unfold State.dispatch
  rw [hserved, hbest]
  rfl

theorem State.runOf_given : (s.given h t).runOf h = t := Tab.get_set_self _ _ _ _

theorem State.xrun_given (ht : t < 256) : (s.given h t).xrun h = t + (s.given h t).prio t * 256 + 2 ^ 31 := by
  unfold State.xrun
  rw [State.runOf_given]
  exact if_neg (by omega)

theorem State.not_ready_given : t ∉ (s.given h t).cpu.ready := by
  have hready : (s.given h t).cpu.ready = s.cpu.ready.filter (fun x => x != t) := rfl
  rw [hready, List.mem_filter]
  exact fun hmem => absurd hmem.2 (by rw [bne_self_eq_false]; exact Bool.false_ne_true)

theorem State.out_given : (s.given h t).out = s.out := rfl

theorem State.dispatch_of_none (hnone : s.hartServed h = false ∨ s.bestThread h = none) : s.dispatch h = s.csrOut h 0x7C0 0 := by
  unfold State.dispatch
  rcases hnone with hnone | hnone
  · rw [hnone]
    rfl
  · rw [hnone]
    exact ite_self _

end

/-- Settles O37: writes of XDSP by their code, XDSP's thread, XEVTCLAIM's event, and the latches of XWDT and XNTIMEL. -/
theorem dispatcherCsrs : Obligations.DispatcherCsrs := by
  unfold Obligations.DispatcherCsrs
  refine ⟨fun s h hnone => ?idle, fun s h hrun hen => ?preempt, fun s h hrun hen => ?yield, fun s h hrun hen hbad => ?invalid,
    fun s h hrun hen hok hsome => ?wait, fun s h hrun => ?stop, fun s h t hserved hbest ht => ?given, fun s h hnone => ?none,
    fun s h e r hpend hother => ?claim, fun s h hother => ?unclaimed, fun s h => rfl, fun s h => rfl⟩
  case idle =>
    have hsame (code : Nat) := congrArg (Host.Outcome.next (φ := Fault) (ρ := Refusal)) (State.xdspWrite_of_none (code := code) hnone)
    exact ⟨hsame 0, hsame 1, hsame 2, hsame 3⟩
  case preempt =>
    refine ⟨_, rfl, congrArg Host.Outcome.next ((State.xdspWrite_preempt hrun hen).trans ?_)⟩
    exact State.makeReady_of_enabled ((congrArg (bit · 13) ((s.setRun h.val 256).rg_incFld_ne _ _ _ (by omega))).trans hen) true
  case yield =>
    exact congrArg Host.Outcome.next ((State.xdspWrite_enabled hrun (by decide) hen).trans (State.makeReady_of_enabled (s := s.setRun h.val 256) hen false))
  case invalid =>
    exact congrArg Host.Outcome.next ((State.xdspWrite_enabled hrun (by decide) hen).trans (State.registerWait_of_invalid (s := s.setRun h.val 256) hbad))
  case wait =>
    exact congrArg Host.Outcome.next ((State.xdspWrite_enabled hrun (by decide) hen).trans
      (State.registerWait_of_valid (s := s.setRun h.val 256) hok hsome))
  case stop =>
    exact congrArg Host.Outcome.next (State.xdspWrite_stop hrun)
  case given =>
    refine ⟨s.given h.val t, congrArg Host.Outcome.next ?_, State.runOf_given, State.not_ready_given, State.out_given⟩
    rw [State.dispatch_of_thread hserved hbest, State.xrun_given ht]
    rfl
  case none =>
    exact congrArg Host.Outcome.next (State.dispatch_of_none hnone)
  case claim =>
    have hrest : ((h.val, e) :: r).filter (fun q => q != (h.val, e)) = r := by
      rw [List.filter_cons_of_neg (by rw [bne_self_eq_false]; exact Bool.false_ne_true)]
      exact List.filter_eq_self.mpr fun q hq => bne_iff_ne.mpr fun heq => hother (heq ▸ hq)
    refine congrArg Host.Outcome.next ?_
    unfold State.evtClaim
    rw [hpend, List.find?_cons_of_pos (by exact beq_self_eq_true h.val)]
    dsimp only
    rw [hrest]
    rfl
  case unclaimed =>
    refine congrArg Host.Outcome.next ?_
    unfold State.evtClaim
    rw [List.find?_eq_none.mpr fun p hp => by rw [beq_iff_eq]; exact hother p hp]
    rfl

end Sys2Proof.Machine

/-! Edges, threads, semaphores, mailboxes and command ports, customer harts, and a cycle of a hart: O38 (R504 to R511, R513 to R525). -/

namespace Sys2Proof.Machine

open Sys2Proof

/-! ### Edges (R515, R523) -/

/-- Without a wait an edge changes nothing. -/
theorem State.tokenEdge_of_noWait {s : State} (hnone : s.cpu.waits = []) (ev : Option Nat) : s.tokenEdge ev = s := by
  unfold State.tokenEdge
  rw [hnone]
  show ({ s with cpu := { s.cpu with waits := [] } } : State) = s
  rw [← hnone]

/-- On an edge without an event a wait for events matches nothing. -/
theorem matchWait_of_events {e : Edge} {w : Wait} {a : MatchAcc} (hev : e.ev = none) (hkind : w.toks.all (fun k => tokKind k == 1) = true)
    (hfresh : w.matched = [false, false, false, false]) (hlen : w.toks.length = 4) : matchWait e w a = (w, a, false) := by
  obtain ⟨thread, toks, matched, any, wake⟩ := w
  dsimp only at hkind hfresh hlen
  subst hfresh
  match toks, hlen, hkind with
  | [i, j, k, l], _, hkind =>
    simp only [List.all_cons, List.all_nil, Bool.and_true, Bool.and_eq_true, beq_iff_eq] at hkind
    obtain ⟨hi, hj, hk, hl⟩ := hkind
    have hplain : matchPlain e wake [i, j, k, l] [false, false, false, false] a = ([false, false, false, false], a) := by
      simp [matchPlain, hi, hj, hk, hl, hev]
    have hsems : matchSems [i, j, k, l] [false, false, false, false] a = ([false, false, false, false], a) := by
      simp [matchSems, hi, hj, hk, hl]
    have hdone (b : Bool) : waitDone b [i, j, k, l] [false, false, false, false] = false := by
      cases b <;> simp [waitDone, hi, hj, hk, hl]
    cases any <;> simp [matchWait, hplain, hsems, hdone]

/-- An edge without an event leaves a wait for events as it is. -/
theorem State.tokenEdge_of_eventWait {s : State} {w : Wait} (hone : s.cpu.waits = [w]) (hkind : w.toks.all (fun k => tokKind k == 1) = true)
    (hfresh : w.matched = [false, false, false, false]) (hlen : w.toks.length = 4) : s.tokenEdge none = s := by
  unfold State.tokenEdge
  rw [hone]
  simp only [List.zipIdx_cons, List.zipIdx_nil, sortBy, insertBy, List.foldl_cons, List.foldl_nil, List.nil_append,
    matchWait_of_events (e := { ev := none, tick := s.tick }) rfl hkind hfresh hlen, List.filter_cons, List.filter_nil, List.map_cons, List.map_nil,
    Bool.not_false, if_true, Bool.false_eq_true, if_false]
  rw [← hone]

section
variable {s : State}

/-! ### Semaphores and mailboxes (R524) -/

/-- A word that its agent may write. -/
theorem State.ifSuper_of_may {a : Agent} {n m off : Nat} {k : State → State} (hmay : m ≤ n ∨ isSuper a = true) :
    s.ifSuper a (n < m) off k = k s := by
  refine if_neg ?_
  rcases hmay with hhigh | hsuper
  · rw [decide_eq_false (by omega), Bool.false_and]
    exact Bool.false_ne_true
  · rw [hsuper, Bool.not_true, Bool.and_false]
    exact Bool.false_ne_true

theorem State.ifSuper_of_denied {a : Agent} {n m off : Nat} {k : State → State} (hlow : n < m) (hcustomer : isSuper a = false) :
    s.ifSuper a (n < m) off k = s.accessErr a .denied off := by
  refine if_pos ?_
  rw [decide_eq_true hlow, hcustomer]
  rfl

theorem State.semPost_of_may {a : Agent} {n v : Nat} (hmay : 128 ≤ n ∨ isSuper a = true) (hnone : s.cpu.waits = [])
    (hfits : Tab.get 0 s.cpu.sem n + v ≤ 65535) :
    s.semPost a n v = { s with cpu := { s.cpu with sem := Tab.set 0 s.cpu.sem n (Tab.get 0 s.cpu.sem n + v) } } := by
  unfold State.semPost
  rw [State.ifSuper_of_may hmay]
  dsimp only
  rw [if_neg (by omega), Nat.min_eq_right hfits]
  refine State.tokenEdge_of_noWait ?_ none
  exact hnone

theorem State.mbxAppend_of_room {a : Agent} {m w : Nat} (hmay : 32 ≤ m ∨ isSuper a = true) (hnone : s.cpu.waits = [])
    (hroom : (Tab.get [] s.cpu.mbx m).length < 8) :
    s.mbxAppend a m w = { s with cpu := { s.cpu with mbx := Tab.set [] s.cpu.mbx m (Tab.get [] s.cpu.mbx m ++ [w]) } } := by
  unfold State.mbxAppend
  rw [State.ifSuper_of_may hmay]
  refine (if_neg (by omega)).trans (State.tokenEdge_of_noWait ?_ none)
  exact hnone

theorem State.mbxAppend_of_full {a : Agent} {m w : Nat} (hmay : 32 ≤ m ∨ isSuper a = true) (hfull : 8 ≤ (Tab.get [] s.cpu.mbx m).length) :
    s.mbxAppend a m w = s.setFlag CPU_FLAGS 7 := by
  unfold State.mbxAppend
  rw [State.ifSuper_of_may hmay]
  exact if_pos hfull

/-! ### Thread blocks (R513, R521) -/

/-- A token of an existing kind as a token word keeps it (R18). -/
theorem tokWrite_of_valid {old new : Nat} (hkind : tokKind new ≤ 4) : tokWrite old new = new / 4096 * 4096 + new % 256 := if_pos hkind

/-- A token of a reserved kind leaves the old one (R24). -/
theorem tokWrite_of_reserved {old new : Nat} (hkind : 4 < tokKind new) : tokWrite old new = old := if_neg (by omega)

theorem bits_lt (w : Word) (hi lo : Nat) : bits w hi lo < 2 ^ (hi + 1 - lo) := Nat.mod_lt _ (Nat.two_pow_pos _)

theorem tokWrite_lt {old new : Nat} (hold : old < 65536) (hnew : new < 65536) : tokWrite old new < 65536 := by
  unfold tokWrite tokIdx
  split <;> omega

/-- The tokens of a word by their fields. -/
theorem bits_token_low (v : Word) : bits v 7 0 = bits v 15 0 % 256 ∧ bits v 11 8 = bits v 15 0 / 256 % 16 ∧ bits v 15 12 = tokKind (bits v 15 0) := by
  simp only [tokKind, bits, field, Nat.shiftRight_eq_div_pow]
  omega

theorem bits_token_high (v : Word) :
    bits v 23 16 = bits v 31 16 % 256 ∧ bits v 27 24 = bits v 31 16 / 256 % 16 ∧ bits v 31 28 = tokKind (bits v 31 16) := by
  simp only [tokKind, bits, field, Nat.shiftRight_eq_div_pow]
  omega

theorem bits_two_tokens {a b : Nat} (ha : a < 65536) (hb : b < 65536) :
    bits (ofNat (a + b * 2 ^ 16)) 15 0 = a ∧ bits (ofNat (a + b * 2 ^ 16)) 31 16 = b := by
  simp only [bits, field, Nat.shiftRight_eq_div_pow, ofNat, BitVec.toNat_ofNat]
  omega

/-- The word a token word takes (Table 14.4). -/
def tokenPair (old v : Word) : Word :=
  ofNat (tokWrite (bits old 15 0) (bits v 15 0) + tokWrite (bits old 31 16) (bits v 31 16) * 2 ^ 16)

theorem tokenPair_halves (old v : Word) : bits (tokenPair old v) 15 0 = tokWrite (bits old 15 0) (bits v 15 0) ∧
    bits (tokenPair old v) 31 16 = tokWrite (bits old 31 16) (bits v 31 16) :=
  bits_two_tokens (tokWrite_lt (bits_lt old 15 0) (bits_lt v 15 0)) (tokWrite_lt (bits_lt old 31 16) (bits_lt v 31 16))

theorem tokenPair_low {old v : Word} (hkind : bits v 15 12 ≤ 4) :
    bits (tokenPair old v) 7 0 = bits v 7 0 ∧ bits (tokenPair old v) 11 8 = 0 ∧ bits (tokenPair old v) 15 12 = bits v 15 12 := by
  have hlt := bits_lt v 15 0
  obtain ⟨hidx, -, hkindV⟩ := bits_token_low v
  obtain ⟨hidxW, hrsvW, hkindW⟩ := bits_token_low (tokenPair old v)
  rw [(tokenPair_halves old v).1, tokWrite_of_valid (hkindV ▸ hkind)] at hidxW hrsvW hkindW
  unfold tokKind at hkindV hkindW
  omega

theorem tokenPair_high {old v : Word} (hkind : bits v 31 28 ≤ 4) :
    bits (tokenPair old v) 23 16 = bits v 23 16 ∧ bits (tokenPair old v) 27 24 = 0 ∧ bits (tokenPair old v) 31 28 = bits v 31 28 := by
  have hlt := bits_lt v 31 16
  obtain ⟨hidx, -, hkindV⟩ := bits_token_high v
  obtain ⟨hidxW, hrsvW, hkindW⟩ := bits_token_high (tokenPair old v)
  rw [(tokenPair_halves old v).2, tokWrite_of_valid (hkindV ▸ hkind)] at hidxW hrsvW hkindW
  unfold tokKind at hkindV hkindW
  omega

/-- A token word written by an agent that may write its block. -/
theorem State.tokenWord_of_valid {off : Nat} {v : Word} (hlow : bits v 15 12 ≤ 4) (hhigh : bits v 31 28 ≤ 4) :
    s.tokenWord off v = s.setRg off (tokenPair (s.rg off) v) := by
  have hgood : (decide (4 < tokKind (bits v 15 0)) || decide (4 < tokKind (bits v 31 16))) = false := by
    have hlowKind : ¬4 < tokKind (bits v 15 0) := Nat.not_lt.mpr ((bits_token_low v).2.2 ▸ hlow)
    have hhighKind : ¬4 < tokKind (bits v 31 16) := Nat.not_lt.mpr ((bits_token_high v).2.2 ▸ hhigh)
    rw [decide_eq_false hlowKind, decide_eq_false hhighKind, Bool.or_self]
  unfold State.tokenWord
  rw [hgood]
  rfl

theorem State.tokenWord_of_reserved {off : Nat} {v : Word} (hlow : 4 < bits v 15 12) :
    s.tokenWord off v = (s.setFlag CPU_FLAGS 0).setRg off (tokenPair (s.rg off) v) := by
  have hbad : (decide (4 < tokKind (bits v 15 0)) || decide (4 < tokKind (bits v 31 16))) = true := by
    rw [decide_eq_true ((bits_token_low v).2.2 ▸ hlow), Bool.true_or]
  unfold State.tokenWord
  rw [hbad]
  rfl

theorem State.threadWrite_tokens {a : Agent} {t : Nat} {v : Word} (hmay : 128 ≤ t ∨ isSuper a = true) :
    s.threadWrite a t 1 v = s.tokenWord (thCfg t + 4) v := by
  unfold State.threadWrite
  exact (State.ifSuper_of_may hmay).trans rfl

theorem State.threadWrite_denied {a : Agent} {t k : Nat} {v : Word} (hlow : t < 128) (hcustomer : isSuper a = false) :
    s.threadWrite a t k v = s.accessErr a .denied (thCfg t + k * 4) := by
  unfold State.threadWrite
  rw [State.ifSuper_of_denied hlow hcustomer]

/-- A write that takes a block out of service unlists its thread. -/
theorem State.threadWrite_off {a : Agent} {t : Nat} {v : Word} (hmay : 128 ≤ t ∨ isSuper a = true) (hoff : v.getLsbD 13 = false) :
    s.threadWrite a t 0 v = (s.setRg (thCfg t) (v &&& 0x3F1F)).unlist t := by
  have hcfg : (s.setRg (thCfg t) (v &&& 0x3F1F)).thEn t = false := by
    rw [State.thEn, State.flag, State.rg_setRg_self, bit, BitVec.getLsbD_and, hoff, Bool.false_and]
  unfold State.threadWrite
  rw [State.ifSuper_of_may hmay]
  refine if_pos ?_
  rw [Nat.zero_mul, Nat.add_zero, hcfg]
  rfl

/-! ### Command ports (R525) -/

theorem State.portWrite_of_free {p : Nat} {v : Word} (hfree : s.flag (cPort p + 0x30) 0 = false) : s.portWrite p 7 v = ({ s with cpu := { s.cpu with
    portQ := s.cpu.portQ ++ [(p, (s.portDesc p v).1, (s.portDesc p v).2)] } } : State).setFlag (cPort p + 0x30) 0 :=
  (if_neg (by rw [hfree]; exact Bool.false_ne_true)).trans (if_pos rfl)

/-! ### Customer harts (R509) -/

/-- The record of a reset, before its event. -/
def State.resetNoted (s : State) (code : Nat) : State :=
  ((s.setFld TOP_RSTCAUSE 3 0 code).setFlag TOP_RSTCAUSE (7 + code)).incFld TOP_RSTCAUSE 31 24 1

theorem State.recordReset_eq (code : Nat) : s.recordReset code = (s.resetNoted code).raise 251 code := rfl

theorem State.cpu_resetNoted (code : Nat) : (s.resetNoted code).cpu = s.cpu := rfl

theorem State.custImage_recordReset (code : Nat) : (s.recordReset code).cpu.custImage = s.cpu.custImage := by
  have hblind : Blind fun u : State => u.cpu.custImage = s.cpu.custImage :=
    ⟨fun _ _ _ _ _ _ hu => hu, fun _ _ _ _ hu => hu, fun _ _ hu => hu, fun _ _ hu => hu, fun _ _ hu => hu⟩
  rw [State.recordReset_eq]
  exact hblind.raise (congrArg CpuSt.custImage (s.cpu_resetNoted code)) 251 code

/-- A customer hart without a verified image stays at its entry. -/
theorem State.hartReset_of_noImage {h : Nat} (hnone : s.cpu.custImage = false) :
    s.hartReset h = ((s.setRun h 256).hartAt h s.custEntry).recordReset 6 := by
  have hkeep : (((s.setRun h 256).hartAt h s.custEntry).recordReset 6).cpu.custImage = false := (State.custImage_recordReset 6).trans hnone
  unfold State.hartReset
  exact if_neg (by rw [hkeep]; exact Bool.false_ne_true)

/-- The bit of a hart's reset moves nothing that its reset reads. -/
theorem State.hrstWrite_of_two {v : Word} (htwo : v.getLsbD 2 = true) (hthree : v.getLsbD 3 = false) :
    s.hrstWrite v = (s.setFlag (CPU_B + 0x10) 2).hartReset 2 := by
  have hfold : s.hrstWrite v = if bit v 3 then ((if bit v 2 then (s.setFlag (CPU_B + 0x10) 2).hartReset 2 else s).setFlag (CPU_B + 0x10) 3).hartReset 3
      else (if bit v 2 then (s.setFlag (CPU_B + 0x10) 2).hartReset 2 else s) := rfl
  rw [hfold, show bit v 3 = false from hthree, show bit v 2 = true from htwo]
  rfl

/-! ### A cycle of a hart (R504 to R511) -/

theorem State.hartStep_of_stopped {h : Nat} (hstopped : s.hartClocked h = false) : s.hartStep h = s := by
  unfold State.hartStep
  rw [hstopped]
  rfl

/-- A hart that counts a cycle. -/
def State.counting (s : State) (h : Nat) : State := s.setHart h { s.hart h with mcycle := ((s.hart h).mcycle + 1) % 2 ^ 64 }

/-- A hart out of WFI. -/
def State.roused (s : State) (h : Nat) : State := s.setHart h { s.hart h with wfi := false }

/-- Without an interrupt pending the next instruction runs. -/
theorem State.hartStep_of_quiet {h : Nat} (hclock : s.hartClocked h = true) (hquiet : (s.counting h).irqs h = 0) (hwfi : ((s.counting h).hart h).wfi = false) :
    s.hartStep h = match ((s.counting h).roused h).runFetched h with
      | .ok t => t.setHart h { t.hart h with minstret := ((t.hart h).minstret + 1) % 2 ^ 64 }
      | .trap t cause tval => t.hartTrap h cause tval := by
  unfold State.hartStep
  rw [if_neg (by rw [hclock]; exact Bool.false_ne_true)]
  unfold State.counting at hquiet hwfi
  dsimp only at hquiet hwfi ⊢
  rw [hquiet, hwfi]
  rfl

/-- An enabled interrupt is taken: the event interrupt before the dispatch interrupt. -/
theorem State.hartStep_of_irq {h : Nat} (hclock : s.hartClocked h = true) (hirq : (s.counting h).irqs h ≠ 0)
    (hopen : (((s.counting h).roused h).hart h).machine = false ∨ bit (((s.counting h).roused h).hart h).mstatus 3 = true) :
    s.hartStep h = ((s.counting h).roused h).setHart h
      ((((s.counting h).roused h).hart h).trap true (if bit ((s.counting h).irqs h) 17 then 17 else 16) 0) := by
  have htaken : ((s.counting h).irqs h != 0 &&
      (!(((s.counting h).roused h).hart h).machine || bit (((s.counting h).roused h).hart h).mstatus 3)) = true := by
    rw [bne_iff_ne.mpr hirq, Bool.true_and]
    rcases hopen with huser | hopen
    · rw [huser]
      rfl
    · rw [hopen, Bool.or_true]
  have hrun : (((s.counting h).hart h).wfi && decide ((s.counting h).irqs h = 0)) = false := by
    rw [decide_eq_false hirq, Bool.and_false]
  unfold State.hartStep
  rw [if_neg (by rw [hclock]; exact Bool.false_ne_true)]
  exact (if_neg (fun h => Bool.false_ne_true (hrun.symm.trans h))).trans (if_pos htaken)

/-- ADDI. -/
theorem State.runInstr_addi {h : Nat} {w next : Word} (hopc : bits w 6 0 = 0x13) (hf3 : bits w 14 12 = 0) :
    s.runInstr h w next = s.ranX h (bits w 11 7) ((s.hart h).getX (bits w 19 15) + ofInt (immI w)) next := by
  have hparts : bits w 1 0 = 3 ∧ bits w 6 2 = 4 := by
    simp only [bits, field, Nat.shiftRight_eq_div_pow] at hopc ⊢
    omega
  obtain ⟨hlow, hmid⟩ := hparts
  unfold State.runInstr
  simp only [hlow, hmid, ne_eq, not_true_eq_false, if_false]
  unfold State.runAlu
  simp only [hmid, hf3, if_true]
  rfl

/-! ### Stores in CPU SRAM (R504) -/

/-- What a hart's caches and its reservation keep of a word stored by hart h. -/
def State.seen (s : State) (h addr v g : Nat) : State :=
  if g = h then
    s.setHart g { s.hart g with dcache := (s.hart g).dcache.map (fun e => if e.1 == addr / 32 then (e.1, e.2.set (addr / 4 % 8) v) else e) }
  else
    s.setHart g { s.hart g with dcache := (s.hart g).dcache.filter (fun e => e.1 != addr / 32),
                                resv := if (s.hart g).resv = some ((addr - 0x10000000) / 4) then none else (s.hart g).resv }

/-- A word in CPU SRAM. -/
def State.stored (s : State) (addr v : Nat) : State :=
  { s with cpu := { s.cpu with sram := Tab.set 0 s.cpu.sram ((addr - 0x10000000) / 4) v } }

theorem State.sramStore_eq (h addr v : Nat) :
    s.sramStore h addr v = ((((s.stored addr v).seen h addr v 0).seen h addr v 1).seen h addr v 2).seen h addr v 3 := rfl

theorem State.sram_seen (h addr v g : Nat) : (s.seen h addr v g).cpu.sram = s.cpu.sram := by
  unfold State.seen
  split <;> rfl

theorem State.hart_setHart (g : Nat) (x : HartSt) : (s.setHart g x).hart g = x := Tab.get_set_self _ _ _ _

theorem State.hart_setHart_ne {g k : Nat} (x : HartSt) (hne : g ≠ k) : (s.setHart k x).hart g = s.hart g := Tab.get_set_ne _ _ _ _ _ _ hne

theorem State.hart_seen_ne {h addr v g k : Nat} (hne : g ≠ k) : (s.seen h addr v k).hart g = s.hart g := by
  unfold State.seen
  split <;> exact State.hart_setHart_ne _ hne

/-- Another hart's line and reservation of the word end. -/
def HartSt.forgets (x : HartSt) (addr : Nat) : Prop := (∀ l ∈ x.dcache, l.1 ≠ addr / 32) ∧ x.resv ≠ some ((addr - 0x10000000) / 4)

theorem State.forgets_seen {h addr v g : Nat} (hne : g ≠ h) : ((s.seen h addr v g).hart g).forgets addr := by
  unfold State.seen
  rw [if_neg hne, State.hart_setHart]
  refine ⟨fun l hl => bne_iff_ne.mp (List.mem_filter.mp hl).2, ?_⟩
  show (if (s.hart g).resv = some ((addr - 0x10000000) / 4) then none else (s.hart g).resv) ≠ some ((addr - 0x10000000) / 4)
  split
  · exact nofun
  · assumption

theorem State.forgets_sramStore {h addr v : Nat} (g : Fin 4) (hne : g.val ≠ h) : ((s.sramStore h addr v).hart g.val).forgets addr := by
  rw [State.sramStore_eq]
  match g, hne with
  | 0, hne =>
    rw [State.hart_seen_ne (by decide), State.hart_seen_ne (by decide), State.hart_seen_ne (by decide)]
    exact State.forgets_seen hne
  | 1, hne =>
    rw [State.hart_seen_ne (by decide), State.hart_seen_ne (by decide)]
    exact State.forgets_seen hne
  | 2, hne =>
    rw [State.hart_seen_ne (by decide)]
    exact State.forgets_seen hne
  | 3, hne => exact State.forgets_seen hne

theorem State.sramWord_sramStore (h addr v : Nat) : (s.sramStore h addr v).sramWord addr = v := by
  rw [State.sramStore_eq, State.sramWord, State.sram_seen, State.sram_seen, State.sram_seen, State.sram_seen]
  exact Tab.get_set_self _ _ _ _

end

/-- Settles O38: edges without a match, threads started, stopped and configured, semaphores, mailboxes and ports, customer harts, and a hart's cycle. -/
theorem clusterCommands : Obligations.ClusterCommands := by
  unfold Obligations.ClusterCommands
  refine ⟨fun s hnone => congrArg Host.Outcome.next (State.tokenEdge_of_noWait hnone none),
    fun s w hone hkind hfresh hlen => congrArg Host.Outcome.next (State.tokenEdge_of_eventWait hone hkind hfresh hlen),
    fun s hnone => congrArg Host.Outcome.next (State.tokenEdge_of_noWait (by exact hnone) none), fun s v hstopped hen => ?started,
    fun s v hlisted => congrArg Host.Outcome.next (if_neg (by rw [hlisted]; exact Bool.false_ne_true)), fun s v => rfl,
    fun s a n v hmay hnone hfits => congrArg Host.Outcome.next (State.semPost_of_may hmay hnone hfits),
    fun s n v hlow => congrArg Host.Outcome.next (State.ifSuper_of_denied hlow rfl),
    fun s a m v hmay hnone hroom => congrArg Host.Outcome.next (State.mbxAppend_of_room hmay hnone hroom),
    fun s a m v hmay hfull => congrArg Host.Outcome.next (State.mbxAppend_of_full hmay hfull),
    fun s a t v hmay hlow hhigh => ?tokens, fun s a t v hmay hlow hhigh => ?reserved, fun s a t v hmay hoff => ?off, fun s h t k v hlow => ?denied,
    fun s p v hfree => congrArg Host.Outcome.next (State.portWrite_of_free hfree),
    fun s p v hbusy => congrArg Host.Outcome.next (if_pos hbusy), fun s v htwo hthree hnone => ?reset, fun s h hdog hnone => ?watchdog,
    fun s h hoff => ?unwatched, fun s h hstopped => ?unclocked, fun s u v h hclock hu hv hquiet hwfi => ?runs,
    fun s u v h hclock hu hv hirq hopen => ?traps, fun s h w next hopc hf3 => ?addi, fun s h g addr v => ?store⟩
  case started =>
    exact congrArg Host.Outcome.next ((if_pos hstopped).trans (State.makeReady_of_enabled hen false))
  case tokens =>
    obtain ⟨hidx, hrsv, hkind⟩ := tokenPair_low (old := s.rg (thCfg t.val + 4)) hlow
    obtain ⟨hidx', hrsv', hkind'⟩ := tokenPair_high (old := s.rg (thCfg t.val + 4)) hhigh
    exact ⟨_, congrArg Host.Outcome.next ((State.threadWrite_tokens hmay).trans (State.tokenWord_of_valid hlow hhigh)), hidx, hrsv, hkind, hidx', hrsv', hkind'⟩
  case reserved =>
    obtain ⟨hidx', -, hkind'⟩ := tokenPair_high (old := s.rg (thCfg t.val + 4)) hhigh
    refine ⟨_, congrArg Host.Outcome.next ((State.threadWrite_tokens hmay).trans (State.tokenWord_of_reserved hlow)), ?_, hidx', hkind'⟩
    exact (tokenPair_halves _ v).1.trans (tokWrite_of_reserved ((bits_token_low v).2.2 ▸ hlow))
  case off =>
    refine ⟨_, congrArg Host.Outcome.next (State.threadWrite_off hmay hoff), State.rg_setRg_self _ _ _, fun hmem => ?_, fun w hw => ?_⟩
    · exact absurd (List.mem_filter.mp hmem).2 (by rw [bne_self_eq_false]; exact Bool.false_ne_true)
    · exact bne_iff_ne.mp (List.mem_filter.mp hw).2
  case denied =>
    match h with
    | 0 => exact congrArg Host.Outcome.next (State.threadWrite_denied hlow rfl)
    | 1 => exact congrArg Host.Outcome.next (State.threadWrite_denied hlow rfl)
  case reset =>
    exact congrArg Host.Outcome.next ((State.hrstWrite_of_two htwo hthree).trans (State.hartReset_of_noImage hnone))
  case watchdog =>
    have hword : 2 + h.val - 2 = h.val := by omega
    refine congrArg Host.Outcome.next ((if_pos ?_).trans (congrArg (State.raise · 248 (2 + h.val)) (State.hartReset_of_noImage hnone)))
    rw [hword]
    exact hdog
  case unwatched =>
    have hword : 2 + h.val - 2 = h.val := by omega
    refine congrArg Host.Outcome.next (if_neg ?_)
    rw [hword, hoff]
    exact Bool.false_ne_true
  case unclocked =>
    exact congrArg (fun t : State => Host.Outcome.next (t.tokenEdge none)) (State.hartStep_of_stopped hstopped)
  case runs =>
    subst hv
    subst hu
    refine congrArg (fun t : State => Host.Outcome.next (t.tokenEdge none)) ((State.hartStep_of_quiet hclock hquiet hwfi).trans ?_)
    rfl
  case traps =>
    subst hv
    subst hu
    exact congrArg (fun t : State => Host.Outcome.next (t.tokenEdge none)) (State.hartStep_of_irq hclock hirq hopen)
  case addi =>
    exact State.runInstr_addi hopc hf3
  case store =>
    exact ⟨State.sramWord_sramStore _ _ _, fun hne => State.forgets_sramStore g (fun heq => hne (Fin.ext heq))⟩

end Sys2Proof.Machine

/-! Passes: what a pass keeps of its lane and its axes, and O20 (R30, R31, R230 to R240). -/

namespace Sys2Proof.Machine

open Sys2Proof

/-! ### What the work of a pass keeps -/

/-- A lane without its memories. -/
def LaneSt.bare (n : LaneSt) : LaneSt := { n with x := [], y := [], man := [] }

/-- From `r` to `t` lanes have changed in their memories only, and no pass has started. -/
structure PassKept (r t : State) : Prop where
  lane : ∀ l, (t.lane l).bare = (r.lane l).bare
  axis : ∀ a, (t.axis a).startedFor = (r.axis a).startedFor

namespace PassKept

variable {r s : State}

theorem refl (s : State) : PassKept s s := ⟨fun _ => rfl, fun _ => rfl⟩

theorem trans {t : State} (h : PassKept r s) (k : PassKept s t) : PassKept r t :=
  ⟨fun l => (k.lane l).trans (h.lane l), fun a => (k.axis a).trans (h.axis a)⟩

/-- Events, records and completions keep it. -/
theorem blind (r : State) : Blind fun t => PassKept r t :=
  ⟨fun _ _ _ _ _ _ hu => ⟨hu.lane, hu.axis⟩, fun _ _ _ _ hu => ⟨hu.lane, hu.axis⟩, fun _ _ hu => ⟨hu.lane, hu.axis⟩,
    fun _ _ hu => ⟨hu.lane, hu.axis⟩, fun _ _ hu => ⟨hu.lane, hu.axis⟩⟩

variable (h : PassKept r s)

include h

theorem setRg (o : Nat) (w : Word) : PassKept r (s.setRg o w) := ⟨h.lane, h.axis⟩

theorem setFld (o hi lo v : Nat) : PassKept r (s.setFld o hi lo v) := h.setRg o _

theorem incFld (o hi lo i : Nat) : PassKept r (s.incFld o hi lo i) := h.setRg o _

theorem raise (src arg : Nat) : PassKept r (s.raise src arg) := (blind r).raise h src arg

theorem flagEvent (off n src arg : Nat) : PassKept r (s.flagEvent off n src arg) := by
  unfold State.flagEvent
  exact iteInduction (fun _ => h) (fun _ => (h.setRg _ _).raise _ _)

theorem complete (src : Src) (opc : Nat) (d : Desc) (st : St) (lo hi : Nat) : PassKept r (s.complete src opc d st lo hi) :=
  (blind r).complete h src opc d st lo hi

theorem setLane {l : Nat} {n : LaneSt} (hn : n.bare = (s.lane l).bare) : PassKept r (s.setLane l n) := by
  refine ⟨fun k => ?_, h.axis⟩
  by_cases hk : k = l
  · subst hk
    exact (congrArg LaneSt.bare (Tab.get_set_self _ _ _ _)).trans (hn.trans (h.lane k))
  · exact (congrArg LaneSt.bare (Tab.get_set_ne _ _ _ _ _ _ hk)).trans (h.lane k)

theorem setAxis {a : Nat} {x : AxisSt} (hx : x.startedFor = (s.axis a).startedFor) : PassKept r (s.setAxis a x) := by
  refine ⟨h.lane, fun b => ?_⟩
  by_cases hb : b = a
  · subst hb
    exact (congrArg AxisSt.startedFor (Tab.get_set_self _ _ _ _)).trans (hx.trans (h.axis b))
  · exact (congrArg AxisSt.startedFor (Tab.get_set_ne _ _ _ _ _ _ hb)).trans (h.axis b)

theorem setCtl (a : Nat) (c : Ctl) : PassKept r (s.setCtl a c) := h.setAxis rfl

theorem setFb (a : Nat) (f : FbSt) : PassKept r (s.setFb a f) := h.setAxis rfl

theorem setXw (a o : Nat) (w : Word) : PassKept r (s.setXw a o w) := by
  unfold State.setXw
  split
  · exact h.setLane rfl
  · exact h.setAxis rfl

theorem laneFlag (l n : Nat) : PassKept r (s.laneFlag l n) := h.flagEvent _ _ _ _

theorem axFlag (a n : Nat) : PassKept r (s.axFlag a n) := h.setXw _ _ _

/-! ### The feedback of a pass that misses its frame (R31) -/

theorem emuHold (a : Nat) : PassKept r (s.emuHold a) := by
  unfold State.emuHold
  exact List.foldlRecOn _ _ h fun t ht e _ => flagEvent (s := t.setEmu e _) ⟨ht.lane, ht.axis⟩ _ _ _ _

theorem fbSet (a st cause : Nat) (latched : Bool) : PassKept r (s.fbSet a st cause latched) := by
  have hmirror (f : FbSt) : PassKept r ((s.setFb a f).fbMirror a) := (h.setFb a f).setRg _ _
  unfold State.fbSet
  refine iteInduction (fun _ => ?_) (fun _ => PassKept.raise ?_ _ _) <;>
  exact iteInduction (fun _ => (hmirror _).emuHold a) (fun _ => hmirror _)

theorem fbStatus (a : Nat) (causes : List Nat) : PassKept r (s.fbStatus a causes) := by
  have hnow (f : FbSt) := h.setFb a f
  unfold State.fbStatus
  refine iteInduction (fun _ => ?_) (fun _ => iteInduction (fun _ => ?_) (fun _ => iteInduction (fun _ => ?_) (fun _ => iteInduction (fun _ => ?_) (fun _ => ?_))))
  · exact iteInduction (fun _ => hnow _) (fun _ => (((hnow _).incFld _ _ _ _).setFb _ _).fbSet _ _ _ _)
  · exact iteInduction (fun _ => iteInduction (fun _ => hnow _) (fun _ => (hnow _).setFb _ _))
      (fun _ => (((hnow _).incFld _ _ _ _).setFb _ _).fbSet _ _ _ _)
  · exact iteInduction (fun _ => hnow _) (fun _ => (hnow _).setFb _ _)
  · exact (hnow _).fbSet _ _ _ _
  · exact hnow _

theorem fbMissing (a : Nat) : PassKept r (s.fbMissing a) := (h.setFb _ _).fbStatus _ _

/-! ### Injection marks and coasting -/

theorem injMark (a code typ point : Nat) : PassKept r (s.injMark a code typ point) := by
  have hmark (t : State) (n : Nat) (c : BitVec 32) (m : LogMark) (ht : PassKept r t) : PassKept r (t.logMark n c m) := by
    unfold State.logMark
    exact iteInduction (fun _ => ⟨ht.lane, ht.axis⟩) (fun _ => ⟨ht.lane, ht.axis⟩)
  unfold State.injMark
  exact List.foldlRecOn _ _ h fun t ht n _ => hmark t n _ _ ht

theorem commFlag (a n : Nat) : PassKept r (s.commFlag a n) := by
  unfold State.commFlag
  exact iteInduction (fun _ => h) (fun _ => (h.setXw _ _ _).raise _ _)

theorem setCst (a v : Nat) : PassKept r (s.setCst a v) := (h.setXw _ _ _).setCtl _ _

theorem startOk (a : Nat) : PassKept r (s.startOk a) := by
  unfold State.startOk
  dsimp only
  split
  · exact (h.setCtl _ _).complete _ _ _ _ _ _
  · exact h.setCtl _ _

theorem enterRamp (a : Nat) : PassKept r (s.enterRamp a) := by
  have hpre := (((h.setXw a 0x10 (ofInt 0)).setXw a 0x11 (ofInt 0)).setXw a 0x12 (ofInt 0)).setCst a 5
  unfold State.enterRamp
  exact iteInduction (fun _ => hpre.startOk a) (fun _ => hpre.setCtl _ _)

theorem coastStep (a : Nat) : PassKept r (s.coastStep a) := by
  unfold State.coastStep
  refine iteInduction (fun _ => (h.setCtl _ _).commFlag _ _) (fun _ => iteInduction (fun _ => ?_) (fun _ => h))
  exact iteInduction (fun _ => (h.setCtl _ _).enterRamp a)
    (fun _ => iteInduction (fun _ => (((h.setCtl _ _).setXw _ _ _).setXw _ _ _).setXw _ _ _) (fun _ => h.setCtl _ _))

end PassKept

/-! ### Memory errors of a pass (R236) -/

section
variable {s : State} {l a : Nat}

/-- The pass of a lane, with a fatal error or without. -/
def LaneSt.erred (n : LaneSt) (fatal : Bool) : LaneSt := { n with ecc := n.ecc || fatal }

theorem LaneSt.bare_erred {n m : LaneSt} (hbare : n.bare = m.bare) (fatal : Bool) : (n.erred fatal).bare = (m.erred fatal).bare :=
  congrArg (fun k : LaneSt => k.erred fatal) hbare

theorem State.lane_setLane (s : State) (l : Nat) (n : LaneSt) : (s.setLane l n).lane l = n := Tab.get_set_self _ _ _ _

/-- A memory error changes its lane's memories and marks the pass when it is fatal. -/
theorem State.lane_laneErr (e : LaneErr) : ((s.laneErr l a e).lane l).bare = ((s.lane l).erred e.fatal).bare := by
  unfold State.laneErr
  dsimp only
  split
  case isTrue hfatal =>
    have hmark (n : LaneSt) : PassKept (s.setLane l n)
        (((((s.setLane l n).incFld (laneReg l 0x14) 31 16 1).laneFlag l 4).axFlag a 4).raise 247 (8 + e.mem.val + l * 0x10000)) :=
      ((((PassKept.refl _).incFld _ _ _ _).laneFlag _ _).axFlag _ _).raise _ _
    refine ((hmark _).lane l).trans ((congrArg LaneSt.bare (s.lane_setLane l _)).trans ?_)
    rw [LaneSt.erred, hfatal, Bool.or_true]
    split <;> rfl
  case isFalse hsoft =>
    have hmark : PassKept s (((s.incFld (laneReg l 0x14) 15 0 1).laneFlag l 3).raise 246 (8 + e.mem.val + l * 0x10000)) :=
      (((PassKept.refl _).incFld _ _ _ _).laneFlag _ _).raise _ _
    refine (hmark.lane l).trans ?_
    rw [LaneSt.erred, Bool.eq_false_iff.mpr hsoft, Bool.or_false]

theorem State.lane_laneErrs (errs : List LaneErr) :
    ((errs.foldl (fun s e => s.laneErr l a e) s).lane l).bare = ((s.lane l).erred (errs.any fun e => e.fatal)).bare := by
  induction errs generalizing s with
  | nil => exact congrArg (fun b => LaneSt.bare { s.lane l with ecc := b }) (Bool.or_false _).symm
  | cons e errs ih =>
    refine (ih (s := s.laneErr l a e)).trans ((LaneSt.bare_erred (State.lane_laneErr e) _).trans ?_)
    exact congrArg (fun b => LaneSt.bare { s.lane l with ecc := b }) (Bool.or_assoc _ _ _)

/-! ### The start of a pass (R231, R232) -/

/-- A lane taken by a pass. -/
def LaneSt.taken (n : LaneSt) (x : AxisSt) (p : PlanAxis) (base : Nat) (c : BitVec 32) (miss : Bool) : LaneSt :=
  { n with
    d := [], acc := [], accOld := [], carry := false, rep := [], lrd := [], ran := 0, miss := miss, lwrAt := none
    moved := x.moved, isLocal := p.isLocal, pcyc := c, busy := true, axis := p.axis, base := base
    ag := [(0, { p := base }), (4, { p := base })]
    oldBase := x.oldBase, ecc := false, stdRun := false, mcyc := p.mcyc, late := false }

/-- The status of the lane shows the pass and its slack. -/
def State.passShown (s : State) (p : PlanAxis) (t : Int) : State :=
  let s := (s.setFld (laneReg p.lane 0) 13 8 p.pos).setFld (laneReg p.lane 0) 1 1 1
  s.setFld (laneReg p.lane 0x18) 13 0 (min (s.fld (laneReg p.lane 0x18) 13 0) (((p.start / 2500 : Nat) : Int) - t).toNat)

/-- The pass misses its frame. -/
def State.passMissed (s : State) (l a : Nat) (miss : Bool) : State :=
  let s := if miss then { s with helm := { s.helm with missed := s.helm.missed ++ [a] } } else s
  if miss then (((s.laneFlag l 2).incFld (laneReg l 0x10) 31 0 1).fbMissing a) else s

/-- An injection that has ended is marked. -/
def State.injNoted (s : State) (a : Nat) : State :=
  match (s.axis a).injEnd with
  | some e => (s.injMark a 0x11 e.1 e.2).setAxis a { (s.injMark a 0x11 e.1 e.2).axis a with injEnd := none }
  | none => s

/-- The axis's part of a start. -/
def State.passBegun (s : State) (a : Nat) (c : BitVec 32) : State :=
  let s := (s.setAxis a { s.axis a with startedFor := some c }).coastStep a
  s.setCtl a { s.ctl a with raising := [], learnNow := false, cstN := (s.ctl a).cstN + 1, limited := false,
                            ints := [0x0C, 0x10, 0x11, 0x12].map (s.xw a) }

/-- A pass that has its lane, before its sections. -/
def State.passOpened (s : State) (p : PlanAxis) (c : BitVec 32) (t : Int) (miss : Bool) (errs : List LaneErr) : State :=
  let base := ((s.place p.axis).map (fun q => q.2)).getD 0
  let s := s.adoptState p.axis c
  let s := s.setLane p.lane ((s.lane p.lane).taken (s.axis p.axis) p base c miss)
  let s := errs.foldl (fun s e => s.laneErr p.lane p.axis e) s
  (((s.passShown p t).passMissed p.lane p.axis miss).injNoted p.axis).passBegun p.axis c

/-- The sections of a pass, those of a pass without its frame with an offset of 8. -/
def State.passSections (s : State) (a : Nat) (miss : Bool) : List Nat := s.sections (s.entryList (s.pn a 0x40) (s.mode a + 8 * b2n miss))

theorem State.beginPass_eq (p : PlanAxis) (c : BitVec 32) (t : Int) (miss : Bool) (errs : List LaneErr) :
    s.beginPass p c t miss errs = ((s.passOpened p c t miss errs).setLane p.lane (((s.passOpened p c t miss errs).lane p.lane).carryOver
      ((s.passOpened p c t miss errs).passSections p.axis miss))).runSecs p.lane p.axis miss ((s.passOpened p c t miss errs).passSections p.axis miss) := rfl

theorem State.passShown_kept (p : PlanAxis) (t : Int) : PassKept s (s.passShown p t) := (((PassKept.refl s).setFld _ _ _ _).setFld _ _ _ _).setFld _ _ _ _

theorem State.passMissed_kept (miss : Bool) : PassKept s (s.passMissed l a miss) := by
  cases miss with
  | false => exact PassKept.refl s
  | true =>
    have hmissed : PassKept s { s with helm := { s.helm with missed := s.helm.missed ++ [a] } } := ⟨fun _ => rfl, fun _ => rfl⟩
    exact ((hmissed.laneFlag l 2).incFld _ _ _ _).fbMissing a

theorem State.injNoted_kept : PassKept s (s.injNoted a) := by
  unfold State.injNoted
  split
  · exact ((PassKept.refl s).injMark _ _ _ _).setAxis rfl
  · exact PassKept.refl s

theorem State.passBegun_started (c : BitVec 32) : ((s.passBegun a c).axis a).startedFor = some c := by
  have hstart : ((s.setAxis a { s.axis a with startedFor := some c }).axis a).startedFor = some c :=
    congrArg AxisSt.startedFor (Tab.get_set_self _ _ _ _)
  exact ((((PassKept.refl (s.setAxis a { s.axis a with startedFor := some c })).coastStep a).setCtl a _).axis a).trans hstart

theorem State.passBegun_lane (c : BitVec 32) : ((s.passBegun a c).lane l).bare = (s.lane l).bare :=
  (((PassKept.refl (s.setAxis a { s.axis a with startedFor := some c })).coastStep a).setCtl a _).lane l

/-- The lane of a pass that has started. -/
theorem State.lane_passOpened {p : PlanAxis} {c : BitVec 32} {t : Int} {miss : Bool} {errs : List LaneErr} :
    ∃ n x, ((s.passOpened p c t miss errs).lane p.lane).bare =
      ((LaneSt.taken n x p (((s.place p.axis).map (fun q => q.2)).getD 0) c miss).erred (errs.any fun e => e.fatal)).bare := by
  refine ⟨(s.adoptState p.axis c).lane p.lane, (s.adoptState p.axis c).axis p.axis, (State.passBegun_lane c).trans ((State.injNoted_kept.lane _).trans (((State.passMissed_kept miss).lane _).trans
    (((State.passShown_kept p t).lane _).trans (State.lane_laneErrs errs |>.trans ?_))))⟩
  exact LaneSt.bare_erred (congrArg LaneSt.bare (State.lane_setLane _ _ _)) _

theorem State.started_passOpened {p : PlanAxis} {c : BitVec 32} {t : Int} {miss : Bool} {errs : List LaneErr} :
    ((s.passOpened p c t miss errs).axis p.axis).startedFor = some c := State.passBegun_started c

/-- What a lane taken by a pass holds. -/
theorem LaneSt.taken_fields {m n : LaneSt} {x : AxisSt} {p : PlanAxis} {base : Nat} {c : BitVec 32} {miss fatal : Bool}
    (hlane : m.bare = ((n.taken x p base c miss).erred fatal).bare) : m.busy = true ∧ m.axis = p.axis ∧ m.pcyc = c ∧ m.ran = 0 ∧ m.mcyc = p.mcyc ∧
      m.miss = miss ∧ m.ecc = fatal ∧ (m.gen 0).p = base ∧ (m.gen 0).l = 0 :=
  ⟨(congrArg LaneSt.busy hlane :), (congrArg LaneSt.axis hlane :), (congrArg LaneSt.pcyc hlane :), (congrArg LaneSt.ran hlane :),
    (congrArg LaneSt.mcyc hlane :), (congrArg LaneSt.miss hlane :), ((congrArg LaneSt.ecc hlane).trans (Bool.false_or _) :),
    (congrArg (fun n : LaneSt => (n.gen 0).p) hlane :), (congrArg (fun n : LaneSt => (n.gen 0).l) hlane :)⟩

/-- What a started pass finds in its lane. -/
theorem State.passOpened_fields (p : PlanAxis) (c : BitVec 32) (t : Int) (miss : Bool) (errs : List LaneErr) :
    ((s.passOpened p c t miss errs).lane p.lane).busy = true ∧ ((s.passOpened p c t miss errs).lane p.lane).axis = p.axis ∧
    ((s.passOpened p c t miss errs).lane p.lane).pcyc = c ∧ ((s.passOpened p c t miss errs).lane p.lane).ran = 0 ∧
    ((s.passOpened p c t miss errs).lane p.lane).mcyc = p.mcyc ∧ ((s.passOpened p c t miss errs).lane p.lane).miss = miss ∧
    ((s.passOpened p c t miss errs).lane p.lane).ecc = errs.any (fun e => e.fatal) ∧
    (((s.passOpened p c t miss errs).lane p.lane).gen 0).p = ((s.place p.axis).map (fun q => q.2)).getD 0 ∧
    (((s.passOpened p c t miss errs).lane p.lane).gen 0).l = 0 := by
  obtain ⟨n, x, hlane⟩ := State.lane_passOpened (s := s) (p := p) (c := c) (t := t) (miss := miss) (errs := errs)
  exact LaneSt.taken_fields hlane

/-! ### PASS_START (R30, R31) -/

theorem State.useTailsFor_of_none (hnone : s.net.tailHeld = []) (a : Nat) : s.useTailsFor a = s := by
  have hsame : ({ s with net := { s.net with tailHeld := [] } } : State) = s := by rw [← hnone]
  unfold State.useTailsFor
  split
  · simp only [State.useTails, hnone, List.filter_nil, List.foldl_nil, hsame]
  · rfl

/-- A pass that may start begins. -/
theorem State.passStart_of_ready {p : PlanAxis} {t : Int} {miss : Bool} {errs : List LaneErr} (hplan : s.planAxis a = some p)
    (hstay : (s.axis a).stay = none) (hlane : p.lane = l) (hfree : (s.lane l).busy = false) (hphase : (s.passCycle a t).toNat % p.div = p.phase)
    (hnew : (s.axis a).startedFor ≠ some (s.passCycle a t))
    (hready : (if miss then !((s.fb a).arrivedAt == some (s.passCycle a t)) && decide ((p.start : Int) ≤ t * 2500)
      else (s.fb a).arrivedAt == some (s.passCycle a t)) = true)
    (horder : s.orderOk p (s.passCycle a t) = true) : s.passStart l a t miss errs = s.beginPass p (s.passCycle a t) t miss errs := by
  unfold State.passStart
  rw [hplan]
  refine if_pos ?_
  simp only [hlane, hstay, hfree, hphase, hready, horder, bne_iff_ne.mpr hnew, decide_true, Option.isNone_none, Bool.true_or, Bool.not_false,
    beq_self_eq_true, Bool.and_self]

theorem State.passStart_of_unplanned {t : Int} {miss : Bool} {errs : List LaneErr} (hplan : s.planAxis a = none) :
    (s.useTailsFor a).passStart l a t miss errs = s := by
  have htails : s.useTailsFor a = s := by
    unfold State.useTailsFor
    rw [hplan]
  rw [htails]
  unfold State.passStart
  rw [hplan]

/-! ### The end of a pass (R233, R235, R236) -/

/-- The flag of a pass that ran out of its time is set. -/
def State.overran (s : State) (l : Nat) : Prop := s.flag (laneReg l 4) 1 = true

section
variable (h : s.overran l)

include h

theorem State.overran_setRg {o : Nat} {w : Word} (ho : o ≠ laneReg l 4) : (s.setRg o w).overran l := (congrArg (bit · 1) (State.rg_setRg_ne s o _ w ho.symm)).trans h

theorem State.overran_congr {t : State} (hregs : t.regs = s.regs) : t.overran l :=
  (congrArg (fun r => bit (Tab.get (resetWord (laneReg l 4)) r (laneReg l 4)) 1) hregs).trans h

theorem State.overran_raise {src arg : Nat} (hsrc : src < 256) (hl : l < 16) : (s.raise src arg).overran l :=
  (congrArg (bit · 1) (State.rg_raise s src arg _ hsrc (by simp only [hostSide, laneReg, LANEN_B]; omega))).trans h

theorem State.overran_setXw (b o : Nat) (w : Word) : (s.setXw b o w).overran l := by
  unfold State.setXw
  split <;> exact h

theorem State.overran_worsen (b k : Nat) (hl : l < 16) : (s.worsen b k).overran l := by
  have hset : (s.setHealth b k).overran l := by
    have haxis (x : AxisSt) : (s.setAxis b x).overran l := State.overran_congr h rfl
    unfold State.setHealth
    dsimp only
    split
    · exact h
    · split
      · exact State.overran_raise (haxis _) (by decide) hl
      · split
        · exact State.overran_raise (haxis _) (by decide) hl
        · exact haxis _
  unfold State.worsen
  split
  · exact hset
  · exact h

theorem State.overran_dropLane (k : Nat) (hl : l < 16) : (s.dropLane k).overran l := by
  have hpilot {t : State} (k : Nat) (ht : t.overran l) : (t.setFlag PILOT_FLAGS k).overran l :=
    State.overran_setRg ht (by simp only [laneReg, LANEN_B, PILOT_FLAGS, PILOT_B]; omega)
  have hstage (x : Staged) : (s.stagePlan x).overran l := State.overran_congr h rfl
  have hmark {t : State} (p : PilotSt) (ht : t.overran l) : ({ t with pilot := p } : State).overran l := State.overran_congr ht rfl
  unfold State.dropLane State.pilotFlag
  refine State.overran_raise (hpilot 2 (hmark _ ?_)) (by decide) hl
  split
  · exact hpilot 0 h
  · exact hstage _

theorem State.overran_emuFlag {e : Nat} (k : Nat) (he : e < 4) (hl : l < 16) : (s.emuFlag e k).overran l := by
  refine iteInduction (motive := fun t : State => t.overran l) (fun _ => h) (fun _ => State.overran_raise ?_ (by omega) hl)
  exact State.overran_setRg h (by simp only [emuReg, laneReg, LANEN_B, FB_B]; omega)

end

theorem State.lt_of_mem_emusOf {e : Nat} (he : e ∈ s.emusOf a) : e < 4 := by
  have hmem := (List.mem_filter.mp he).1
  simp only [List.mem_cons, List.not_mem_nil, or_false] at hmem
  omega

theorem State.overran_emuPass (h : s.overran l) (stop : Int) (hl : l < 16) : (s.emuPass a stop).overran l := by
  have hhold : (s.emuHold a).overran l := by
    unfold State.emuHold
    exact List.foldlRecOn _ _ (motive := fun t : State => t.overran l) h fun t ht e he =>
      State.overran_emuFlag (s := t.setEmu e _) ht 1 (State.lt_of_mem_emusOf he) hl
  have hbegin (t : State) (e : Nat) (ht : t.overran l) (he : e < 4) : (t.emuBegin e).overran l := by
    unfold State.emuBegin
    dsimp only
    split
    · exact ht
    · exact iteInduction (motive := fun t : State => t.overran l) (fun _ => State.overran_emuFlag (s := t.setEmu e _) ht 0 he hl) (fun _ => ht)
  have hone (t : State) (e : Nat) (ht : t.overran l) (he : e < 4) : (t.emuPass1 a e stop).overran l := by
    unfold State.emuPass1
    exact iteInduction (motive := fun t : State => t.overran l) (fun _ => ht)
      (fun _ => iteInduction (motive := fun t : State => t.overran l) (fun _ => ht) (fun _ => hbegin t e ht he))
  unfold State.emuPass
  refine List.foldlRecOn _ _ (motive := fun t : State => t.overran l) ?_ fun t ht e he => hone t e ht (State.lt_of_mem_emusOf he)
  exact iteInduction (motive := fun t : State => t.overran l) (fun _ => hhold) (fun _ => h)

/-- A pass that ran out of its time ends without its gates (R235). -/
def State.passLate (s : State) (l a : Nat) : State :=
  let s := (((s.gateOff a).axFlag a 2).laneFlag l 1).worsen a 2
  s.setCtl a { s.ctl a with raising := 1 :: (s.ctl a).raising }

/-- A pass with a fatal memory error ends without its gates, and its lane is dropped (R236). -/
def State.passErred (s : State) (l a : Nat) : State :=
  let s := ((s.gateOff a).worsen a 2).dropLane l
  s.setCtl a { s.ctl a with raising := 2 :: (s.ctl a).raising }

/-- What a pass raised and learned passes to its axis (R233). -/
def State.passRaised (s : State) (a : Nat) : State :=
  s.setCtl a { s.ctl a with raised := (s.ctl a).raising, learning := (s.ctl a).learnNow }

/-- What a pass leaves to its axis (R233). -/
def State.passRecorded (s : State) (n : LaneSt) (img : List Byte) : State :=
  let a := n.axis
  let kept := if s.standby then (s.axis a).outRec else img
  s.setAxis a { s.axis a with outRec := kept, meas := s.measured a, lastPass := n.pcyc, moved := false, oldBase := none }

/-- The outputs of a pass: to its local channel and over CHAIN. -/
def State.passSent (s : State) (n : LaneSt) (img : List Byte) (carry : List Nat) (stop : Int) : State :=
  let a := n.axis
  let s := match (if s.standby then none else s.lxOf a) with
    | some x => { s with loc := { s.loc with lx := Tab.upd {} s.loc.lx x (fun (y : LxSt) => { y with wait := img, waitFrom := stop + 24000 }) } }
    | none => s
  if s.holder && s.fld HELM_STAT 7 6 != 0 then s.emit (.chain 2 (a :: n.pcyc.toNat % 65536 :: (s.xw a 0x36).toNat % 65536 :: carry)) else s

/-- The counters and the supervision of a pass that ends. -/
def State.passCounted (s : State) (l : Nat) (n : LaneSt) (stop : Int) : State :=
  let s := if n.miss then s.axFlag n.axis 3 else s
  ((s.incFld (laneReg l 8) 31 0 1).idPass n.axis).homePass n.axis |>.emuPass n.axis stop

/-- The lane is free again. -/
def State.passFreed (s : State) (l : Nat) : State :=
  let n := s.lane l
  let s := s.setLane l { n with busy := false, fetching := false, ended := n.ended + 1 }
  (s.setFld (laneReg l 0) 1 1 0).setFld (laneReg l 0) 23 16 (min 255 (n.ended + 1))

theorem State.overran_passLate (hl : l < 16) : (s.passLate l a).overran l := by
  have hflag (t : State) : (t.laneFlag l 1).overran l := by
    unfold State.laneFlag State.flagEvent
    split
    case isTrue hset => exact hset
    case isFalse => exact State.overran_raise (State.flag_setFlag_self _ _ _ (by decide)) (by omega) hl
  exact State.overran_congr (State.overran_worsen (hflag ((s.gateOff a).axFlag a 2)) a 2 hl) rfl

theorem State.overran_passErred (h : s.overran l) (k : Nat) (hl : l < 16) : (s.passErred k a).overran l := by
  have hgate : (s.gateOff a).overran l := State.overran_congr (State.overran_setXw h a 0x32 _) rfl
  exact State.overran_congr (State.overran_dropLane (State.overran_worsen hgate a 2 hl) k hl) rfl

theorem State.regs_passSent (n : LaneSt) (img : List Byte) (carry : List Nat) (stop : Int) : (s.passSent n img carry stop).regs = s.regs := by
  have houts (t : State) (b : Bool) (e : Emit) (ht : t.regs = s.regs) : (if b = true then t.emit e else t).regs = s.regs := by
    cases b <;> exact ht
  unfold State.passSent
  dsimp only
  refine houts _ _ _ ?_
  split <;> rfl

theorem State.overran_passCounted (h : s.overran l) (n : LaneSt) (stop : Int) (hl : l < 16) : (s.passCounted l n stop).overran l := by
  have hmiss : (if n.miss then s.axFlag n.axis 3 else s).overran l := by
    split
    · exact State.overran_setXw h _ _ _
    · exact h
  have hregs (t : State) : ((t.idPass n.axis).homePass n.axis).regs = t.regs := by
    have hid : (t.idPass n.axis).regs = t.regs := by
      unfold State.idPass
      dsimp only
      split <;> rfl
    refine Eq.trans ?_ hid
    unfold State.homePass
    dsimp only
    split <;> rfl
  have hcount : ((if n.miss then s.axFlag n.axis 3 else s).incFld (laneReg l 8) 31 0 1).overran l :=
    State.overran_setRg hmiss (by simp only [laneReg]; omega)
  exact State.overran_emuPass (State.overran_congr hcount (hregs _)) stop hl

theorem State.passFreed_fields : ((s.passFreed l).lane l).busy = false ∧ ((s.passFreed l).lane l).fetching = false ∧
    (s.passFreed l).flag (laneReg l 0) 1 = false ∧ (s.overran l → (s.passFreed l).overran l) := by
  have hlane : (s.passFreed l).lane l = { s.lane l with busy := false, fetching := false, ended := (s.lane l).ended + 1 } := s.lane_setLane l _
  refine ⟨congrArg LaneSt.busy hlane, congrArg LaneSt.fetching hlane, ?_, fun h => ?_⟩
  · exact (State.flag_setFld_other _ _ _ _ _ _ (by decide) (by decide) (by decide)).trans
      (State.flag_setFld_in _ _ _ _ _ _ (by decide) (by decide) (by decide))
  · refine State.overran_setRg (State.overran_setRg (State.overran_congr h rfl) ?_) ?_ <;> simp only [laneReg] <;> omega

/-- The outputs and the counters of a pass that ends, and its lane free again. -/
def State.passDone (s : State) (l : Nat) (n : LaneSt) : State :=
  let s := s.passRaised n.axis
  let img := s.outBytes n.axis
  let carry := (List.range 12).map (fun k => (s.xw n.axis (0x0C + k)).toNat)
  let s := s.passRecorded n img
  let stop := s.passStop n.axis n.pcyc
  ((s.passSent n img carry stop).passCounted l n stop).passFreed l

/-- A pass ends: its errors act, and its lane is free. -/
def State.passClosed (s : State) (l : Nat) : State :=
  let n := s.lane l
  let s := if n.fetching || n.late then s.passLate l n.axis else s
  (if n.ecc then s.passErred l n.axis else s).passDone l n

/-- Before its lane is free a pass has kept the flag of its overrun. -/
theorem State.passDone_eq (n : LaneSt) (hl : l < 16) : ∃ t : State, s.passDone l n = t.passFreed l ∧ (s.overran l → t.overran l) := by
  refine ⟨_, rfl, fun h => State.overran_passCounted ?_ n _ hl⟩
  have hraised : (s.passRaised n.axis).overran l := State.overran_congr h rfl
  have hrecorded (img : List Byte) : ((s.passRaised n.axis).passRecorded n img).overran l := State.overran_congr hraised rfl
  exact State.overran_congr (hrecorded _) (State.regs_passSent _ _ _ _)

theorem State.passDone_fields (n : LaneSt) (hl : l < 16) : ((s.passDone l n).lane l).busy = false ∧ ((s.passDone l n).lane l).fetching = false ∧
    (s.passDone l n).flag (laneReg l 0) 1 = false ∧ (s.overran l → (s.passDone l n).overran l) := by
  obtain ⟨t, heq, hlate⟩ := State.passDone_eq (s := s) n hl
  obtain ⟨hbusy, hfetch, hflag, hkeep⟩ := State.passFreed_fields (s := t) (l := l)
  rw [heq]
  exact ⟨hbusy, hfetch, hflag, fun h => hkeep (hlate h)⟩

theorem State.passEnd_of_busy (hbusy : (s.lane l).busy = true) :
    s.passEnd l = (((s.passClosed l).flagsToNew (s.lane l).axis).endStay (s.lane l).axis).flushWrites (s.lane l).axis := by
  unfold State.passEnd
  dsimp only
  rw [if_neg (by rw [hbusy]; exact Bool.false_ne_true)]
  rfl

/-- What the end of a pass leaves of its lane. -/
theorem State.passClosed_fields (hl : l < 16) : ((s.passClosed l).lane l).busy = false ∧ ((s.passClosed l).lane l).fetching = false ∧
    (s.passClosed l).flag (laneReg l 0) 1 = false ∧
    ((s.lane l).fetching = true ∨ (s.lane l).late = true → (s.passClosed l).flag (laneReg l 4) 1 = true) := by
  unfold State.passClosed
  dsimp only
  obtain ⟨hbusy, hfetch, hflag, hkeep⟩ := State.passDone_fields
    (s := if (s.lane l).ecc then (if (s.lane l).fetching || (s.lane l).late then s.passLate l (s.lane l).axis else s).passErred l (s.lane l).axis
      else if (s.lane l).fetching || (s.lane l).late then s.passLate l (s.lane l).axis else s) (s.lane l) hl
  refine ⟨hbusy, hfetch, hflag, fun hlate => hkeep ?_⟩
  have hout : ((s.lane l).fetching || (s.lane l).late) = true := by
    rcases hlate with h | h
    · rw [h, Bool.true_or]
    · rw [h, Bool.or_true]
  rw [if_pos hout]
  split
  · exact State.overran_passErred (State.overran_passLate hl) l hl
  · exact State.overran_passLate hl

end

/-- Settles O20: a pass that may start takes its lane, its generators and its sections; a pass that ends frees the lane. -/
theorem passes : Obligations.Passes := by
  unfold Obligations.Passes
  refine ⟨fun s l a t e p hplan hstay hlane hfree hphase hnew hhere horder haxis htails => ?started,
    fun s l a t e p hplan hstay hlane hfree hphase hnew hmissing hlate horder haxis htails => ?missed,
    fun s l a t e hplan => congrArg Host.Outcome.next (State.passStart_of_unplanned hplan), fun s l hbusy => ?ended, fun s l hidle => ?idle⟩
  case started =>
    obtain ⟨hbusy, hax, hcycle, hran, hmcyc, hmiss, hecc, hgen, hlevel⟩ := State.passOpened_fields (s := s) p (s.passCycle a.val t) t false e
    have hready : ((s.fb a.val).arrivedAt == some (s.passCycle a.val t)) = true := beq_iff_eq.mpr hhere
    rw [haxis] at hax hgen
    refine ⟨s.passOpened p (s.passCycle a.val t) t false e, _, congrArg Host.Outcome.next ?_, rfl, hlane ▸ hbusy, hlane ▸ hax, hlane ▸ hcycle, hlane ▸ hran,
      hlane ▸ hmcyc, hlane ▸ hmiss, hlane ▸ hecc, hlane ▸ hgen, hlane ▸ hlevel, haxis ▸ State.started_passOpened⟩
    rw [State.useTailsFor_of_none htails, State.passStart_of_ready (miss := false) hplan hstay hlane hfree hphase hnew hready horder, State.beginPass_eq, hlane, haxis]
    rfl
  case missed =>
    obtain ⟨hbusy, -, -, -, -, hmiss, -⟩ := State.passOpened_fields (s := s) p (s.passCycle a.val t) t true e
    have hready : (!((s.fb a.val).arrivedAt == some (s.passCycle a.val t)) && decide ((p.start : Int) ≤ t * 2500)) = true := by
      rw [beq_eq_false_iff_ne.mpr hmissing, decide_eq_true hlate]
      rfl
    refine ⟨s.passOpened p (s.passCycle a.val t) t true e, _, congrArg Host.Outcome.next ?_, rfl, hlane ▸ hbusy, hlane ▸ hmiss,
      haxis ▸ State.started_passOpened⟩
    rw [State.useTailsFor_of_none htails, State.passStart_of_ready (miss := true) hplan hstay hlane hfree hphase hnew hready horder, State.beginPass_eq, hlane, haxis]
    rfl
  case ended =>
    exact ⟨s.passClosed l.val, congrArg Host.Outcome.next (State.passEnd_of_busy hbusy), State.passClosed_fields l.isLt⟩
  case idle =>
    exact congrArg Host.Outcome.next (if_pos (by rw [hidle]; rfl))

end Sys2Proof.Machine

/-! Deferred axis commands at their boundary: O25 (R268, R273, R285 to R291, R306). -/

namespace Sys2Proof.Machine

open Sys2Proof

/-! ### A parameter's words (R298) -/

section
variable {s : State} {a id : Nat} {w : Word} {r : ParRow}

/-- A parameter's own word. -/
def State.putLoc (s : State) (a id : Nat) (w : Word) (r : ParRow) : State :=
  match r.loc with
  | .x o => s.setXw a o w
  | .y o => s.setYw a o w
  | .held => s.setAxis a { s.axis a with par := Tab.set r.defWord (s.axis a).par id w }

/-- The words that follow a parameter. -/
def State.putFollows (s : State) (a id : Nat) (w : Word) : State :=
  let s := if id = 0x101 then s.setXi a 0x70 (lvStart w.toNat s.tCyc) else s
  if id = 0x101 || id = 0x102 then
    let e := elecOf (s.pn a 0x102) (s.pn a 0x101)
    (s.setXi a 0x74 (e % 2 ^ 32)).setXi a 0x75 (e / 2 ^ 32)
  else s

theorem State.putPar_of_none (hrow : parRow id = none) : s.putPar a id w = s := by
  unfold State.putPar
  rw [hrow]

theorem State.putPar_of_some (hrow : parRow id = some r) : s.putPar a id w = (s.putLoc a id w r).putFollows a id w := by
  unfold State.putPar
  rw [hrow]
  rfl

end

/-! ### States that differ in how their axes are listed -/

def State.withAxes (s : State) (m : Tab AxisSt) : State := { s with axes := m }

/-- Two states with the same axes in different tables: nothing the model computes tells them apart. -/
def SameAxes (s t : State) : Prop := ∃ m : Tab AxisSt, t = s.withAxes m ∧ ∀ b, (s.withAxes m).axis b = s.axis b

namespace SameAxes

variable {s t : State}

/-- An axis set to the value it has. -/
theorem of_setAxis (s : State) {a : Nat} {x : AxisSt} (hx : x = s.axis a) : SameAxes s (s.setAxis a x) := by
  refine ⟨_, rfl, fun b => ?_⟩
  by_cases hb : b = a
  · subst hb
    exact (Tab.get_set_self _ _ _ _).trans hx
  · exact Tab.get_set_ne _ _ _ _ _ _ hb

variable (h : SameAxes s t)

include h

theorem axis (b : Nat) : t.axis b = s.axis b := by
  obtain ⟨m, rfl, hm⟩ := h
  exact hm b

theorem trans {u : State} (k : SameAxes t u) : SameAxes s u := by
  obtain ⟨m, rfl, -⟩ := id h
  obtain ⟨n, rfl, hn⟩ := k
  exact ⟨n, rfl, fun b => (hn b).trans (h.axis b)⟩

/-- What is read outside the axes is the same. -/
theorem eq_of {α : Type} {f : State → α} (hf : ∀ m, f (s.withAxes m) = f s) : f t = f s := by
  obtain ⟨m, rfl, -⟩ := h
  exact hf m

theorem setAxis (a : Nat) (x : AxisSt) : SameAxes (s.setAxis a x) (t.setAxis a x) := by
  obtain ⟨m, rfl, hm⟩ := h
  refine ⟨Tab.set {} m a x, rfl, fun b => ?_⟩
  by_cases hb : b = a
  · subst hb
    exact (Tab.get_set_self _ _ _ _).trans (Tab.get_set_self _ _ _ _).symm
  · exact (Tab.get_set_ne _ _ _ _ _ _ hb).trans ((hm b).trans (Tab.get_set_ne _ _ _ _ _ _ hb).symm)

theorem setLane (l : Nat) (n : LaneSt) : SameAxes (s.setLane l n) (t.setLane l n) := by
  obtain ⟨m, rfl, hm⟩ := h
  exact ⟨m, rfl, hm⟩

theorem place (a : Nat) : t.place a = s.place a := by
  have hmem : t.mem = s.mem := h.eq_of fun _ => rfl
  have hact : t.actAxis a = s.actAxis a := h.eq_of (f := fun u => u.actAxis a) fun _ => rfl
  unfold State.place
  rw [h.axis, hmem, hact]

theorem lane (l : Nat) : t.lane l = s.lane l := h.eq_of (f := fun u => u.lane l) fun _ => rfl

theorem xw (a o : Nat) : t.xw a o = s.xw a o := by
  unfold State.xw
  rw [h.place]
  split
  · rw [h.lane]
  · rw [h.axis]

theorem yw (a o : Nat) : t.yw a o = s.yw a o := by
  unfold State.yw
  rw [h.place]
  split
  · rw [h.lane]
  · rw [h.axis]

theorem setXw (a o : Nat) (w : Word) : SameAxes (s.setXw a o w) (t.setXw a o w) := by
  unfold State.setXw
  rw [h.place]
  split
  · rw [h.lane]
    exact h.setLane _ _
  · rw [h.axis]
    exact h.setAxis _ _

theorem setYw (a o : Nat) (w : Word) : SameAxes (s.setYw a o w) (t.setYw a o w) := by
  unfold State.setYw
  rw [h.place]
  split
  · rw [h.lane]
    exact h.setLane _ _
  · rw [h.axis]
    exact h.setAxis _ _

theorem par (a id : Nat) : t.par a id = s.par a id := by
  unfold State.par
  split
  · rfl
  · split
    · exact h.xw _ _
    · exact h.yw _ _
    · rw [h.axis]

theorem putLoc (a id : Nat) (w : Word) (r : ParRow) : SameAxes (s.putLoc a id w r) (t.putLoc a id w r) := by
  unfold State.putLoc
  split
  · exact h.setXw _ _ _
  · exact h.setYw _ _ _
  · rw [h.axis]
    exact h.setAxis _ _

theorem putFollows (a id : Nat) (w : Word) : SameAxes (s.putFollows a id w) (t.putFollows a id w) := by
  have htcyc : t.tCyc = s.tCyc := h.eq_of fun _ => rfl
  have hstart : SameAxes (if id = 0x101 then s.setXi a 0x70 (lvStart w.toNat s.tCyc) else s)
      (if id = 0x101 then t.setXi a 0x70 (lvStart w.toNat t.tCyc) else t) := by
    rw [htcyc]
    split
    · exact h.setXw _ _ _
    · exact h
  unfold State.putFollows
  dsimp only
  split
  · unfold State.pn
    rw [hstart.par, hstart.par]
    exact (hstart.setXw _ _ _).setXw _ _ _
  · exact hstart

theorem putPar (a id : Nat) (w : Word) : SameAxes (s.putPar a id w) (t.putPar a id w) := by
  cases hrow : parRow id with
  | none =>
    rw [State.putPar_of_none hrow, State.putPar_of_none hrow]
    exact h
  | some r =>
    rw [State.putPar_of_some hrow, State.putPar_of_some hrow]
    exact (h.putLoc a id w r).putFollows a id w

theorem setPar (a id : Nat) (w : Word) : SameAxes (s.setPar a id w) (t.setPar a id w) := by
  have hfold (old new : Nat) : SameAxes (s.foldRevs a old new) (t.foldRevs a old new) := by
    obtain ⟨m, rfl, hm⟩ := h
    exact ⟨m, rfl, hm⟩
  unfold State.setPar State.pn
  rw [h.par]
  split
  · exact (hfold _ _).putPar a id w
  · exact h.putPar a id w

theorem slotWrite (a k : Nat) (w : Word) : SameAxes (s.slotWrite a k w) (t.slotWrite a k w) := by
  unfold State.slotWrite
  split
  · exact h.setPar a k w
  · split
    · exact h.setXw _ _ _
    · split
      · exact h.setYw _ _ _
      · rw [h.xw]
        exact h.setXw _ _ _

theorem slotWrites (a : Nat) (l : List (Nat × Word)) :
    SameAxes (l.foldl (fun s e => s.slotWrite a e.1 e.2) s) (l.foldl (fun s e => s.slotWrite a e.1 e.2) t) := by
  induction l generalizing s t with
  | nil => exact h
  | cons e l ih => exact ih (h.slotWrite a e.1 e.2)

theorem goesNew (a : Nat) : t.goesNew a = s.goesNew a := by
  have hpilot : t.pilot = s.pilot := h.eq_of fun _ => rfl
  have hact : t.actAxis a = s.actAxis a := h.eq_of (f := fun u => u.actAxis a) fun _ => rfl
  have hstate : t.planState = s.planState := h.eq_of fun _ => rfl
  have hcycle : t.cycle = s.cycle := h.eq_of fun _ => rfl
  have hentry : t.newEntry a = s.newEntry a := h.eq_of (f := fun u => u.newEntry a) fun _ => rfl
  unfold State.goesNew
  rw [hpilot, h.axis, hact, hstate, hcycle, hentry]

theorem upToDate (a : Nat) : SameAxes (s.upToDate a) (t.upToDate a) := by
  have hhome : t.newHome a = s.newHome a := h.eq_of (f := fun u => u.newHome a) fun _ => rfl
  unfold State.upToDate
  rw [h.goesNew, hhome, h.axis]
  split
  · exact h.setAxis _ _
  · exact h.slotWrites _ _

theorem modeNow (a : Nat) : t.modeNow a = s.modeNow a := congrArg (bits · 2 0) ((h.upToDate a).xw a 0x30)

theorem sless (a : Nat) : t.sless a = s.sless a := congrArg (bit · 0) (h.par a 0x200)

theorem planAxis (a : Nat) : t.planAxis a = s.planAxis a := by
  have hact : t.actAxis a = s.actAxis a := h.eq_of (f := fun u => u.actAxis a) fun _ => rfl
  unfold State.planAxis
  rw [h.axis, hact]

theorem stepperOk (a m : Nat) : t.stepperOk a m = s.stepperOk a m := by
  have haxis (n : Nat) : t.axisOfLx n = s.axisOfLx n := h.eq_of (f := fun u => u.axisOfLx n) fun _ => rfl
  unfold State.stepperOk State.lxOf
  simp only [h.planAxis, haxis]

theorem modeError (a cur : Nat) (op0 : Word) : t.modeError a cur op0 = s.modeError a cur op0 := by
  have hpass : t.hasPass a = s.hasPass a := h.eq_of (f := fun u => u.hasPass a) fun _ => rfl
  have hcart : t.cartRefused a = s.cartRefused a := h.eq_of (f := fun u => u.cartRefused a) fun _ => rfl
  unfold State.modeError
  dsimp only
  rw [hpass, hcart, h.stepperOk a (bits op0 2 0), h.axis]

end SameAxes

/-! ### A mode change at its boundary (R268, R273) -/

section
variable {s : State} {a : Nat} {src : Src} {d : Desc}

/-- The state in which a boundary's mode changes are judged: requests and faults are taken. -/
def State.modeTaken (s : State) (a : Nat) : State :=
  let u := s.setCtl a { s.ctl a with req := none }
  u.setAxis a { u.axis a with faulted := false }

theorem State.modeTaken_same (hreq : (s.ctl a).req = none) (hfault : (s.axis a).faulted = false) : SameAxes s (s.modeTaken a) := by
  have hctl : SameAxes s (s.setCtl a { s.ctl a with req := none }) := by
    refine SameAxes.of_setAxis s ?_
    rw [← hreq]
    rfl
  refine hctl.trans (SameAxes.of_setAxis _ ?_)
  rw [hctl.axis, ← hfault]

/-- Without a change by hardware one host change is judged alone. -/
theorem State.modeStep_of_one (hhealth : (s.axis a).health ≠ 2) (hfault : (s.axis a).faulted = false) (hreq : (s.ctl a).req = none)
    {t : State} (hmode : (s.modeTaken a).hostMode a none src d = (t, none)) :
    s.modeStep a [(src, d)] = if (t.axis a).health = 2 && t.cst a ≠ 0 && t.modeNow a = 0 then t.startFailed a else t := by
  have hhw : s.hwMode a = none := by
    unfold State.hwMode
    rw [decide_eq_false hhealth, hfault, hreq]
    rfl
  unfold State.modeTaken at hmode
  unfold State.modeStep
  dsimp only at hmode ⊢
  rw [hhw, List.foldl_cons, List.foldl_nil, hmode]

/-- A mode change with an error completes with it. -/
theorem State.hostMode_of_error {e : St} (herr : s.modeError a (s.modeNow a) d.op0 = some e) :
    s.hostMode a none src d = (s.complete src 0x10 d e, none) := by
  unfold State.hostMode
  rw [herr]
  cases e <;> rfl

/-- A mode change without a start procedure comes into force. -/
theorem State.hostMode_of_ok (hok : s.modeError a (s.modeNow a) d.op0 = none)
    (hstart : (s.modeNow a = 0 && isLoop (bits d.op0 2 0) && s.sless a) = false) : s.hostMode a none src d =
    (((s.setXw a 0x2D (putBits (s.xw a 0x2D) 6 4 (bits d.op0 2 0))).applyMode a (bits d.op0 2 0) (bits d.op0 15 8)).complete src 0x10 d .ok, none) := by
  unfold State.hostMode
  rw [hok]
  exact if_neg (by rw [hstart]; exact Bool.false_ne_true)

/-! ### Parameters at their boundary (R287, R291, R306) -/

variable {id : Nat} {v : Word}

/-- A parameter without a rule of its own takes its value. -/
theorem State.hostPar_of_plain (hadapt : adaptPars.contains id = false) (hidx : id ≠ 0x108) (htq : id ≠ 0x1F) : s.hostPar a id v = s.axWrite a id v := by
  unfold State.hostPar
  rw [hadapt, if_neg Bool.false_ne_true, if_neg hidx, if_neg htq]

/-- Whether a host write of an adaptation parameter meets the ramp that moves it. -/
def State.meetsRamp (s : State) (a id : Nat) : Bool :=
  !s.rampFrozen a && (s.axis a).sup.targets.any (fun t => t.1 == id && t.2 != sgn (s.parNow a id))

/-- A host write of an adaptation parameter locks the adaptation (R287). -/
theorem State.hostPar_of_adapt (hadapt : adaptPars.contains id = true) {u : State} (hu : (if s.meetsRamp a id then s.xflag a 0 else s) = u) :
    s.hostPar a id v = (u.setAxis a { u.axis a with
      sup := { (s.axis a).sup with lock := true, hostW := id :: (s.axis a).sup.hostW } }).axWrite a id v := by
  subst hu
  unfold State.hostPar
  rw [hadapt, if_pos rfl]
  rfl

/-- A host write of IDX_REF is noted with its time; one that meets a load of it is flagged (R306). -/
theorem State.hostPar_of_index {u : State} (hu : (if (s.fb a).loadRef = some s.ntime then s.setFlag FB_B 0 else s) = u) :
    s.hostPar a 0x108 v = (u.setFb a { u.fb a with hostRef := some u.ntime }).axWrite a 0x108 v := by
  subst hu
  unfold State.hostPar
  rw [show adaptPars.contains 0x108 = false from rfl, if_neg Bool.false_ne_true, if_pos rfl]

theorem State.hostPar_of_torque : s.hostPar a 0x1F v = (s.setProf a { s.prof a with tqHost := true }).axWrite a 0x1F v := rfl

/-- A CYC parameter's write at its boundary. -/
theorem State.runDue_param (c : BitVec 32) :
    s.runDue { cyc := c, src := src, opc := 0x11, desc := d } = (s.hostPar d.tgt d.op0.toNat d.op1).complete src 0x11 d .ok := rfl

end

/-- Settles O25: locks, parameters, learning and modes take effect at the boundary, and their commands complete. -/
theorem axisBoundaryEffects : Obligations.AxisBoundaryEffects := by
  unfold Obligations.AxisBoundaryEffects
  refine ⟨fun s src d c x htgt => rfl, fun s src d c hadapt htq hidx => ?plain, fun s src d c => rfl,
    fun s src d a hhealth hfault hreq hok hstart => ?mode, fun s src d a e hhealth hfault hreq herr => ?refused,
    fun s src d c hadapt hfrozen => ?locked, fun s src d c v hadapt hfrozen htarget hmoves => ?meets,
    fun s src d c hidx hload => ?index, fun s src d c hidx hload => ?both, fun s src d c htq => ?torque⟩
  case plain =>
    rw [State.runDue_param, State.hostPar_of_plain hadapt hidx htq]
  case mode =>
    have hsame := State.modeTaken_same hreq hfault
    refine ⟨_, _, rfl, rfl, State.modeStep_of_one hhealth hfault hreq (State.hostMode_of_ok ?_ ?_)⟩
    · rw [hsame.modeNow, hsame.modeError, hok]
    · rw [hsame.modeNow, hsame.sless]
      cases hoff : (decide (s.modeNow a = 0) && isLoop (bits d.op0 2 0)) with
      | false => exact Bool.false_and _
      | true =>
        obtain ⟨hmode, hloop⟩ := Bool.and_eq_true_iff.mp hoff
        exact (Bool.true_and _).trans (hstart (of_decide_eq_true hmode) hloop)
  case refused =>
    have hsame := State.modeTaken_same hreq hfault
    refine ⟨_, _, _, rfl, rfl, rfl, State.modeStep_of_one hhealth hfault hreq (State.hostMode_of_error ?_)⟩
    rw [hsame.modeNow, hsame.modeError, herr]
  case locked =>
    have hfree : s.meetsRamp d.tgt d.op0.toNat = false := by
      unfold State.meetsRamp
      rcases hfrozen with hfrozen | hnone
      · rw [hfrozen]
        rfl
      · rw [hnone]
        exact Bool.and_false _
    rw [State.runDue_param, State.hostPar_of_adapt hadapt (if_neg (by rw [hfree]; exact Bool.false_ne_true))]
  case meets =>
    have hmeets : s.meetsRamp d.tgt d.op0.toNat = true := by
      unfold State.meetsRamp
      rw [hfrozen, htarget, List.any_cons, beq_self_eq_true, bne_iff_ne.mpr hmoves]
      rfl
    refine ⟨_, rfl, ?_⟩
    rw [State.runDue_param, State.hostPar_of_adapt hadapt (if_pos hmeets)]
  case index =>
    rw [State.runDue_param, hidx, State.hostPar_of_index (if_neg hload)]
  case both =>
    refine ⟨_, rfl, ?_⟩
    rw [State.runDue_param, hidx, State.hostPar_of_index (if_pos hload)]
  case torque =>
    rw [State.runDue_param, htq, State.hostPar_of_torque]

end Sys2Proof.Machine

/-! Timed and computed events of an axis: O26 (R280 to R282, R300, R316, R351 to R356, R365). -/

namespace Sys2Proof.Machine

open Sys2Proof

section
variable {s : State} {a : Nat}

/-! ### Feedback (R300, R316) -/

theorem State.fb_setFb (s : State) (a : Nat) (f : FbSt) : (s.setFb a f).fb a = f := congrArg AxisSt.fb (Tab.get_set_self _ _ _ _)

/-- A word of the slot leaves the feedback as it is. -/
theorem State.fb_setXw (b o : Nat) (w : Word) : (s.setXw b o w).fb a = s.fb a := by
  unfold State.setXw
  split
  · rfl
  · by_cases hb : a = b
    · subst hb
      exact (congrArg AxisSt.fb (Tab.get_set_self _ _ _ _)).trans rfl
    · exact congrArg AxisSt.fb (Tab.get_set_ne _ _ _ _ _ _ hb)

/-- A feedback that leaves LOST. -/
def FbSt.left (f : FbSt) (st cause : Nat) : FbSt := { f with st := st, cause := cause, latched := false, hti := none, hcnt := 0, hdir := 0 }

/-- A lost feedback becomes VALID with a cause of its own: its event. -/
theorem State.fbSet_valid_of_lost {c : Nat} (hlost : (s.fb a).st = 2) :
    s.fbSet a 0 c false = ((s.setFb a ((s.fb a).left 0 c)).fbMirror a).raise 98 (a + c * 0x10000) := by
  unfold State.fbSet
  dsimp only
  rw [hlost]
  rfl

/-- A lost feedback is lost again: its emulators hold, no event. -/
theorem State.fbSet_lost_of_lost {c : Nat} {b : Bool} (hlost : (s.fb a).st = 2) :
    s.fbSet a 2 c b = ((s.setFb a { s.fb a with st := 2, cause := c, latched := b }).fbMirror a).emuHold a := by
  unfold State.fbSet
  dsimp only
  rw [hlost]
  rfl

/-- A recovery to VALID restores the remembered cause and raises its event. -/
theorem State.fbRecover_of_valid (hlost : (s.fb a).st = 2) (hopen : (s.fb a).latched = false) (hclean : s.pn a 0x115 ≤ (s.fb a).clean)
    (hmem : (s.fb a).mem.1 = 0) : s.fbRecover a =
      (((s.setFb a ((s.fb a).left 0 (s.fb a).mem.2)).fbMirror a).raise 98 (a + (s.fb a).mem.2 * 0x10000)).fbShow a := by
  have hcond : ((s.fb a).st = 2 && !(s.fb a).latched && decide (s.pn a 0x115 ≤ (s.fb a).clean)) = true := by
    rw [hlost, hopen, decide_eq_true hclean]
    rfl
  refine (if_pos hcond).trans (congrArg (State.fbShow · a) ?_)
  rw [hmem]
  exact State.fbSet_valid_of_lost hlost

/-- An emulator's hold leaves the axes as they are. -/
theorem State.axes_emuHold : (s.emuHold a).axes = s.axes := by
  unfold State.emuHold
  refine List.foldlRecOn _ _ (motive := fun t : State => t.axes = s.axes) rfl fun t ht e he => ?_
  have hlt := State.lt_of_mem_emusOf he
  unfold State.emuFlag State.flagEvent
  refine iteInduction (motive := fun t : State => t.axes = s.axes) (fun _ => ht) (fun _ => ?_)
  exact (State.raise_axes _ _ _ (by omega)).trans ht

theorem State.out_emuHold (hnone : s.emusOf a = []) : (s.emuHold a).out = s.out := by
  rw [State.emuHold, hnone]
  rfl

/-- The emulators of an axis are told by the emulators and their own registers. -/
theorem State.emusOf_congr {t : State} (hloc : t.loc = s.loc) (hrg : ∀ e, t.rg (emuReg e 0) = s.rg (emuReg e 0)) : t.emusOf a = s.emusOf a := by
  unfold State.emusOf State.emu State.fld
  simp only [hloc, hrg]

theorem State.fb_emuHold : (s.emuHold a).fb a = s.fb a := by
  unfold State.fb State.axis
  rw [State.axes_emuHold]

theorem State.fb_fbShow : (s.fbShow a).fb a = s.fb a := State.fb_setXw _ _ _

theorem State.out_fbShow : (s.fbShow a).out = s.out := by
  unfold State.fbShow State.setXw
  dsimp only
  split <;> rfl

/-- A loss that lasts, as it is counted and its index withdrawn. -/
def State.lossCounted (s : State) (a : Nat) : State := (s.incFld (fbReg a 8) 31 16 1).setFb a { s.fb a with idxValid := false }

theorem State.fb_lossCounted : (s.lossCounted a).fb a = { s.fb a with idxValid := false } := State.fb_setFb _ _ _

/-- A loss that is latched, before its emulators hold. -/
def State.lossLatched (s : State) (a : Nat) : State :=
  ((s.lossCounted a).setFb a { s.fb a with idxValid := false, st := 2, cause := 0x0D, latched := true }).fbMirror a

theorem State.fb_lossLatched : (s.lossLatched a).fb a = { s.fb a with idxValid := false, st := 2, cause := 0x0D, latched := true } :=
  State.fb_setFb (s.lossCounted a) a _

theorem State.emusOf_lossLatched : (s.lossLatched a).emusOf a = s.emusOf a := by
  refine State.emusOf_congr rfl fun e => ?_
  have hmirror : emuReg e 0 ≠ fbReg a 0xC := by unfold emuReg fbReg FB_B; omega
  have hcount : emuReg e 0 ≠ fbReg a 8 := by unfold emuReg fbReg FB_B; omega
  exact (State.rg_setRg_ne _ _ _ _ hmirror).trans (State.rg_incFld_ne s _ _ _ hcount)

/-- A loss that lasts is latched: its emulators hold. -/
theorem State.fbPersist_of_due (hlost : (s.fb a).st = 2) (hopen : (s.fb a).latched = false) (hdue : s.pn a 0x116 ≤ (s.fb a).trans) :
    s.fbPersist a = ((s.lossLatched a).emuHold a).fbShow a := by
  have hcond : ((s.fb a).st = 2 && !(s.fb a).latched && decide (s.pn a 0x116 ≤ (s.fb a).trans)) = true := by
    rw [hlost, hopen, decide_eq_true hdue]
    rfl
  have hst : ((s.lossCounted a).fb a).st = 2 := (congrArg FbSt.st State.fb_lossCounted).trans hlost
  refine (if_pos hcond).trans (congrArg (State.fbShow · a) ?_)
  refine (State.fbSet_lost_of_lost hst).trans ?_
  rw [State.fb_lossCounted]
  rfl

/-! ### Time limits of the commutation (R351, R353, R355) -/

/-- Whether the time limit of a handover or of a loss has run out. -/
def State.relockDue (s : State) (a limit : Nat) : Bool :=
  match s.cst a, (s.ctl a).reachT, (s.ctl a).hand with
  | 4, some t, none => decide (t + limit ≤ s.ntime)
  | 8, _, _ => decide ((s.ctl a).lossT + limit ≤ s.ntime)
  | _, _, _ => false

theorem State.relockTmo_of_due (hdue : s.relockDue a (s.pn a 0x209 * 1000000) = true) : s.relockTmo a = s.commExpired a := if_pos hdue

theorem State.relockDue_of_handover {t limit : Nat} (hcst : s.cst a = 4) (hreach : (s.ctl a).reachT = some t) (hhand : (s.ctl a).hand = none)
    (hdue : t + limit ≤ s.ntime) : s.relockDue a limit = true := by
  rw [State.relockDue, hcst, hreach, hhand]
  exact decide_eq_true hdue

theorem State.relockDue_of_loss {limit : Nat} (hcst : s.cst a = 8) (hdue : (s.ctl a).lossT + limit ≤ s.ntime) : s.relockDue a limit = true := by
  rw [State.relockDue, hcst]
  exact decide_eq_true hdue

theorem and_decide_eq_true {p : Prop} [Decidable p] {b : Bool} (hb : b = true) (hp : p) : (b && decide p) = true := by
  rw [hb, decide_eq_true hp]
  rfl

/-! ### Identification and scheduling (R280 to R283) -/

theorem State.scheduleAxis_of_idle (hidle : (s.axis a).sup.valid = false ∨ bit (s.par a 0x30) 1 = false ∨ s.rampFrozen a = true) :
    s.scheduleAxis a = s := by
  refine if_pos ?_
  rcases hidle with hvalid | hoff | hfrozen
  · rw [hvalid]
    rfl
  · rw [hoff, Bool.not_false, Bool.or_true, Bool.true_or]
  · rw [hfrozen, Bool.or_true]

/-- An identification block as it begins anew. -/
def State.blockTaken (s : State) (a : Nat) (accepted : Bool) : State :=
  s.setAxis a { s.axis a with sup := { (s.axis a).sup with
    n := 0, prevV := some (s.axis a).sup.sumV, prevOk := accepted, sumV := 0, sumI := 0, ok := true } }

/-- Whether a full block is accepted: in range, moving, and after an accepted block or accelerated enough. -/
def State.blockAccepts (s : State) (a : Nat) : Bool :=
  let u := (s.axis a).sup
  u.ok && decide (u.sumV ≠ 0) && (match u.prevV with
    | some p => u.prevOk || decide (s.pz a 0x3B * 64 * s.kr a ≤ absI (u.sumV - p) * 256)
    | none => false) && u.prevV.isSome

theorem State.idBlock_of_full (hfull : 8 ≤ (s.axis a).sup.n) : s.idBlock a =
    (if s.blockAccepts a = true then
      (s.blockTaken a (s.blockAccepts a)).idFit a (((s.axis a).sup.sumV - (s.axis a).sup.prevV.getD 0) * (8 / (s.kr a : Nat)))
        (signI (s.axis a).sup.sumV) (s.axis a).sup.sumV (s.axis a).sup.sumI
    else s.blockTaken a (s.blockAccepts a)).judgeJ a :=
  if_neg (by omega)

theorem State.idBlock_of_bad (hfull : 8 ≤ (s.axis a).sup.n) (hbad : (s.axis a).sup.ok = false) : s.idBlock a = (s.blockTaken a false).judgeJ a := by
  have hacc : s.blockAccepts a = false := by
    unfold State.blockAccepts
    dsimp only
    rw [hbad]
    rfl
  rw [State.idBlock_of_full hfull, hacc, if_neg Bool.false_ne_true]

theorem State.idBlock_of_accepted {p : Int} (hfull : 8 ≤ (s.axis a).sup.n) (hok : (s.axis a).sup.ok = true) (hmoving : (s.axis a).sup.sumV ≠ 0)
    (hprev : (s.axis a).sup.prevV = some p)
    (haccel : (s.axis a).sup.prevOk = true ∨ s.pz a 0x3B * 64 * s.kr a ≤ absI ((s.axis a).sup.sumV - p) * 256) : s.idBlock a =
      ((s.blockTaken a true).idFit a (((s.axis a).sup.sumV - p) * (8 / (s.kr a : Nat))) (signI (s.axis a).sup.sumV) (s.axis a).sup.sumV
        (s.axis a).sup.sumI).judgeJ a := by
  have hfast : ((s.axis a).sup.prevOk || decide (s.pz a 0x3B * 64 * s.kr a ≤ absI ((s.axis a).sup.sumV - p) * 256)) = true := by
    rcases haccel with hbefore | hnow
    · rw [hbefore, Bool.true_or]
    · rw [decide_eq_true hnow, Bool.or_true]
  have hacc : s.blockAccepts a = true := by
    unfold State.blockAccepts
    dsimp only
    rw [hok, decide_eq_true hmoving, hprev]
    dsimp only
    rw [hfast]
    rfl
  rw [State.idBlock_of_full hfull, hacc, if_pos rfl, hprev, Option.getD_some]

/-! ### The ledger of a bus group (R365) -/

theorem State.ledgerCompute_of_empty {g : Nat} (hnone : s.groupAxes g = []) : s.ledgerCompute g = s := by
  unfold State.ledgerCompute
  rw [hnone]

/-- A group's ledger is computed once the last pass of its cycle has ended. -/
theorem State.ledgerCompute_of_ended {g : Nat} {p : PlanAxis} {r : List PlanAxis} (hg : g ≠ 0) (hgroup : s.groupAxes g = p :: r)
    (hended : ∀ q ∈ p :: r, (s.axis q.axis).lastPass = (s.axis p.axis).lastPass ∧ (s.axis q.axis).startedFor = some (s.axis p.axis).lastPass)
    (hnew : Tab.get 0 s.mem.ledAt g ≠ (s.axis p.axis).lastPass.toNat + 1) : s.ledgerCompute g = s.ledgerRun g (p :: r) (s.axis p.axis).lastPass := by
  have hall : (p :: r).all (fun q => (s.axis q.axis).lastPass == (s.axis p.axis).lastPass &&
      (s.axis q.axis).startedFor == some (s.axis p.axis).lastPass) = true := by
    rw [List.all_eq_true]
    intro q hq
    obtain ⟨hlast, hstart⟩ := hended q hq
    rw [hlast, hstart, beq_self_eq_true, beq_self_eq_true, Bool.and_self]
  unfold State.ledgerCompute
  rw [hgroup]
  dsimp only
  rw [hall, decide_eq_false hg, decide_eq_false hnew]
  rfl

theorem State.mem_flagEvent {o n src arg : Nat} (hsrc : src < 256) : (s.flagEvent o n src arg).mem = s.mem := by
  unfold State.flagEvent
  exact iteInduction (motive := fun t : State => t.mem = s.mem) (fun _ => rfl) (fun _ => State.raise_mem _ _ _ hsrc)

theorem mem_ledgerNoted {u : State} (hu : u.mem = s.mem) (e : List (BitVec 32 × Nat × Word × Bool)) (g k : Nat) :
    ({ u with mem := { u.mem with ledger := u.mem.ledger ++ e, ledAt := Tab.set 0 u.mem.ledAt g k } } : State).mem =
      { s.mem with ledger := s.mem.ledger ++ e, ledAt := Tab.set 0 s.mem.ledAt g k } := by
  rw [← hu]

/-- What the ledger of a group of one axis leaves in memory. -/
theorem State.ledgerRun_of_one {g : Nat} {p : PlanAxis} {c : BitVec 32} : ∃ w : Word × Bool, (s.ledgerRun g [p] c).mem =
    { s.mem with ledger := s.mem.ledger ++ [(c + 2, p.axis, w.1, w.2)], ledAt := Tab.set 0 s.mem.ledAt g (c.toNat + 1) } := by
  have hflag {u : State} {b : Bool} {n src : Nat} (hsrc : src < 256) (hu : u.mem = s.mem) :
      (if b = true then u.flagEvent (grpReg g 0x1C) n src g else u).mem = s.mem := by
    cases b
    · exact hu
    · exact (State.mem_flagEvent hsrc).trans hu
  unfold State.ledgerRun
  extract_lets cfg pe mot braking pbm vmax chop pch vlim trip kc adm rgf tripped resume coastOf coasts limiting u1 w10 u2 u3 u4 u5 new
  have hmem : u5.mem = s.mem := hflag (by decide) (hflag (by decide) (hflag (by decide) rfl))
  exact ⟨(ofInt rgf, coastOf p), mem_ledgerNoted hmem _ g _⟩

end

/-- Settles O26: each event is its function of the axis (or of the group), whose guard the clause fixes. -/
theorem axisEvents : Obligations.AxisEvents := by
  unfold Obligations.AxisEvents
  refine ⟨fun s a hfrz => ?_, fun s a hmove hobs => ?_, fun s a hlost hopen hclean hmem => ?_, fun s a hlost hopen hdue => ?_,
    fun s a hcst hdue => ?_, fun s a hcst hdue => ?_, fun s a hcst hdue => ?_, fun s haxes => ?_, fun s => rfl, fun s a => State.scheduleAxis_of_idle,
    fun s a x haxes => ?_, fun s a t hcst hreach hhand hdue => ?_, fun s a hfull hbad => ?_, fun s a p hfull hok hmoving hprev haccel => ?_,
    fun s a hopen => ?_, fun s g hnone => ?_, fun s g p r hg hgroup hended hnew => ?_, fun s g p hg hgroup hstart hnew => ?_⟩
  · exact congrArg Host.Outcome.next (if_pos hfrz)
  · exact congrArg Host.Outcome.next ((if_neg (by omega)).trans (if_pos hobs))
  · have hfb : (((s.setFb a ((s.fb a).left 0 (s.fb a).mem.2)).fbMirror a).fb a) = (s.fb a).left 0 (s.fb a).mem.2 := State.fb_setFb s _ _
    exact ⟨_, congrArg Host.Outcome.next (State.fbRecover_of_valid hlost hopen hclean hmem), congrArg FbSt.st hfb, congrArg FbSt.cause hfb,
      congrArg FbSt.latched hfb⟩
  · have hfb := (State.fb_fbShow (s := (s.lossLatched a).emuHold a)).trans (State.fb_emuHold.trans State.fb_lossLatched)
    exact ⟨_, congrArg Host.Outcome.next (State.fbPersist_of_due hlost hopen hdue), congrArg FbSt.st hfb, congrArg FbSt.cause hfb,
      congrArg FbSt.latched hfb, congrArg FbSt.idxValid hfb,
      fun hnone => State.out_fbShow.trans (State.out_emuHold (State.emusOf_lossLatched.trans hnone))⟩
  · exact congrArg Host.Outcome.next (if_pos (and_decide_eq_true (decide_eq_true hcst) hdue))
  · exact congrArg Host.Outcome.next (State.relockTmo_of_due (State.relockDue_of_loss hcst hdue))
  · exact congrArg Host.Outcome.next (if_pos (and_decide_eq_true (decide_eq_true hcst) hdue))
  · exact congrArg (fun l : List (Nat × AxisSt) => Host.Outcome.next (l.foldl (fun t e => t.scheduleAxis e.1) s)) haxes
  · exact congrArg (fun l : List (Nat × AxisSt) => Host.Outcome.next (l.foldl (fun t e => t.scheduleAxis e.1) s)) haxes
  · exact congrArg Host.Outcome.next (State.relockTmo_of_due (State.relockDue_of_handover hcst hreach hhand hdue))
  · exact congrArg Host.Outcome.next (State.idBlock_of_bad hfull hbad)
  · exact congrArg Host.Outcome.next (State.idBlock_of_accepted hfull hok hmoving hprev haccel)
  · exact congrArg Host.Outcome.next (if_pos hopen)
  · exact congrArg Host.Outcome.next (State.ledgerCompute_of_empty hnone)
  · exact congrArg Host.Outcome.next (State.ledgerCompute_of_ended hg hgroup hended hnew)
  · have hended : ∀ q ∈ [p], (s.axis q.axis).lastPass = (s.axis p.axis).lastPass ∧ (s.axis q.axis).startedFor = some (s.axis p.axis).lastPass := by
      intro q hq
      rw [List.mem_singleton.1 hq]
      exact ⟨rfl, hstart⟩
    obtain ⟨w, hmem⟩ := State.ledgerRun_of_one (s := s) (g := g) (p := p) (c := (s.axis p.axis).lastPass)
    refine ⟨_, congrArg Host.Outcome.next (State.ledgerCompute_of_ended hg hgroup hended hnew), ?_, w, ?_⟩
    · rw [hmem]
      exact Tab.get_set_self _ _ _ _
    · rw [hmem]

end Sys2Proof.Machine

/-! Gates and fault inputs of the local axes, for O27 (R324, R329, R338). -/

namespace Sys2Proof.Machine

open Sys2Proof

section
variable {s : State} {n : Nat}

/-! ### Gates -/

/-- What driving the gates of LXn emits. -/
def State.gatesOut (s : State) (n : Nat) : List Emit := (s.gateVals n).map (fun e => s.gatePin n e.2 e.1)

/-- Several outputs at once. -/
def State.emits (s : State) (l : List Emit) : State := { s with out := s.out ++ l }

theorem State.emits_nil : s.emits [] = s := congrArg (fun o : List Emit => ({ s with out := o } : State)) (List.append_nil _)

theorem State.emits_emits (l m : List Emit) : (s.emits l).emits m = s.emits (l ++ m) :=
  congrArg (fun o : List Emit => ({ s with out := o } : State)) (List.append_assoc _ _ _)

theorem State.foldl_emit_gatePin (l : List (Nat × Nat)) (t : State) :
    l.foldl (fun t e => t.emit (t.gatePin n e.2 e.1)) t = t.emits (l.map (fun e => t.gatePin n e.2 e.1)) := by
  induction l generalizing t with
  | nil => exact State.emits_nil.symm
  | cons e l ih => exact (ih (t.emit (t.gatePin n e.2 e.1))).trans (State.emits_emits [t.gatePin n e.2 e.1] _)

theorem State.driveGates_of_on (hon : s.powered 6 = true) : s.driveGates n = s.emits (s.gatesOut n) :=
  (if_pos hon).trans (State.foldl_emit_gatePin _ _)

/-- Driving gates only emits. -/
theorem State.exists_driveGates : ∃ l, s.driveGates n = s.emits l := by
  by_cases hon : s.powered 6 = true
  · exact ⟨_, State.driveGates_of_on hon⟩
  · exact ⟨[], (if_neg hon).trans State.emits_nil.symm⟩

theorem State.rg_driveGates (o : Nat) : (s.driveGates n).rg o = s.rg o := by
  obtain ⟨out, hout⟩ := State.exists_driveGates (s := s) (n := n)
  rw [hout]
  rfl

theorem State.loc_driveGates : (s.driveGates n).loc = s.loc := by
  obtain ⟨out, hout⟩ := State.exists_driveGates (s := s) (n := n)
  rw [hout]
  rfl

theorem State.foldl_driveGates_of_on (hon : s.powered 6 = true) (l : List Nat) :
    l.foldl (fun (t : State) n => t.driveGates n) s = s.emits (l.flatMap s.gatesOut) := by
  induction l generalizing s with
  | nil => exact State.emits_nil.symm
  | cons n l ih =>
    rw [List.foldl_cons, State.driveGates_of_on hon, ih (s := s.emits (s.gatesOut n)) hon]
    exact State.emits_emits _ _

theorem State.lx_congr {t : State} (hloc : t.loc = s.loc) : t.lx n = s.lx n := by
  unfold State.lx
  rw [hloc]

/-- Gates that are forced inactive are driven low. -/
theorem State.gatePin_mem_gatesOut (hforced : s.gatesForced n = true) (k : Fin 6) : s.gatePin n k.val 0 ∈ s.gatesOut n := by
  have hvals : s.gateVals n = [(0, 0), (0, 1), (0, 2), (0, 3), (0, 4), (0, 5)] := if_pos hforced
  refine List.mem_map.2 ⟨(0, k.val), ?_, rfl⟩
  rw [hvals]
  revert k
  decide

/-! ### A fault input trips (R329) -/

/-- Local axes that a fault input trips. -/
def State.tripHits (s : State) (i : Nat) : List Nat := (List.range 8).filter (fun n => s.flag (LOCAL_B + 4 + i / 4 * 4) (8 * (i % 4) + n))

/-- The latch and the level of a fault input that trips. -/
def State.tripFlags (s : State) (i : Nat) : State := (s.setFlag LOCAL_FLT i).setFlag LOCAL_FLT (8 + i)

/-- Hits of a fault input are noted for the cycle. -/
def State.withHits (s : State) (hits : List Nat) : State := { s with loc := { s.loc with tripNow := s.loc.tripNow ++ hits } }

/-- A trip as it is latched, before the outputs follow. -/
def State.tripNoted (s : State) (i : Nat) : State :=
  (s.tripFlags i).withHits (s.tripHits i)

theorem State.rg_tripFlags {i o : Nat} (ho : o ≠ LOCAL_FLT) : (s.tripFlags i).rg o = s.rg o :=
  (State.rg_setFlag_ne _ _ _ _ ho).trans (State.rg_setFlag_ne _ _ _ _ ho)

theorem tripMap_ne_flt (i : Nat) : LOCAL_B + 4 + i / 4 * 4 ≠ LOCAL_FLT := by
  unfold LOCAL_FLT
  omega

theorem State.tripHits_tripFlags {i : Nat} : (s.tripFlags i).tripHits i = s.tripHits i := by
  unfold State.tripHits State.flag
  rw [State.rg_tripFlags (tripMap_ne_flt i)]

theorem State.tripLatch_eq (i : Nat) : s.tripLatch i = (((s.tripFlags i).tripHits i).foldl (fun (t : State) n => t.driveGates n)
    ((s.tripFlags i).withHits ((s.tripFlags i).tripHits i))).raise (100 + i) 0 := rfl

/-- A trip: the latch, then the outputs of the local axes that the input maps to, then its event. -/
theorem State.fltTrip_of_on {i : Nat} (hon : s.powered 6 = true) :
    s.fltTrip i = ((s.tripNoted i).emits ((s.tripHits i).flatMap (s.tripNoted i).gatesOut)).raise (100 + i) 0 := by
  have hpd : (s.tripNoted i).powered 6 = true := (congrArg (bit · 6) (State.rg_tripFlags (by decide))).trans hon
  refine (if_pos hon).trans (State.tripLatch_eq i |>.trans ?_)
  rw [State.tripHits_tripFlags]
  exact congrArg (State.raise · (100 + i) 0) (State.foldl_driveGates_of_on hpd _)

theorem State.flag_tripFlags_latch {i : Nat} (hi : i < 8) : (s.tripFlags i).flag LOCAL_FLT i = true :=
  (State.flag_setFlag_other _ _ _ _ (by omega) (by omega)).trans (State.flag_setFlag_self _ _ _ (by omega))

theorem State.flag_tripFlags_level {i : Nat} (hi : i < 8) : (s.tripFlags i).flag LOCAL_FLT (8 + i) = true := State.flag_setFlag_self _ _ _ (by omega)

/-- The outputs of a local axis that a fault input maps to are forced inactive. -/
theorem State.gatesForced_tripNoted {i m : Nat} (hi : i < 8) (hmap : s.flag (LOCAL_B + 4 + i / 4 * 4) (8 * (i % 4) + m) = true) :
    (s.tripNoted i).gatesForced m = true := by
  have hmap' : (s.tripFlags i).flag (LOCAL_B + 4 + i / 4 * 4) (8 * (i % 4) + m) = true :=
    (congrArg (bit · (8 * (i % 4) + m)) (State.rg_tripFlags (tripMap_ne_flt i))).trans hmap
  have htrip : (s.tripNoted i).tripped m = true :=
    List.any_eq_true.2 ⟨i, List.mem_range.2 hi, Bool.and_eq_true_iff.2 ⟨State.flag_tripFlags_latch hi, hmap'⟩⟩
  unfold State.gatesForced
  rw [htrip, Bool.true_or, Bool.true_or]

/-- The polarity of an output stands outside LOCAL_FLT. -/
theorem State.gatePin_tripNoted {i m k v : Nat} : (s.tripNoted i).gatePin m k v = s.gatePin m k v := by
  have hpol : lxReg m 0 ≠ LOCAL_FLT := by
    unfold lxReg LOCAL_FLT
    omega
  have hflag : (s.tripNoted i).flag (lxReg m 0) (18 + k % 2) = s.flag (lxReg m 0) (18 + k % 2) :=
    congrArg (bit · (18 + k % 2)) (State.rg_tripFlags hpol)
  unfold State.gatePin
  rw [hflag]

/-! ### Latches of the fault inputs are cleared (R329, R338) -/

theorem State.rg_gatesBack (o : Nat) : (s.gatesBack n).rg o = s.rg o := by
  refine (State.rg_driveGates o).trans ?_
  exact iteInduction (motive := fun t : State => t.rg o = s.rg o) (fun _ => rfl) (fun _ => rfl)

theorem State.loc_gatesBack (hpos : (s.lx n).dirNeg = false) : (s.gatesBack n).loc = s.loc := by
  refine State.loc_driveGates.trans (congrArg State.loc (if_neg ?_))
  rw [hpos, Bool.and_false, Bool.false_and]
  exact Bool.false_ne_true

/-- Latches that a write of LOCAL_FLT.LATCH clears. -/
def State.latchesOff (s : State) (v : Nat) : List Nat :=
  (List.range 8).filter (fun i => v / 2 ^ i % 2 = 1 && s.fld LOCAL_FLT 15 8 / 2 ^ i % 2 = 0 && s.flag LOCAL_FLT i)

/-- The outputs of the local axes whose trip ends come back. -/
def State.heldBack (s : State) (held : List Nat) : State := held.foldl (fun t n => if t.tripped n then t else t.gatesBack n) s

def State.latchesCleared (s : State) (l : List Nat) : State := l.foldl (fun t i => t.clrFlag LOCAL_FLT i) s

theorem State.fltClear_eq (v : Nat) :
    s.fltClear v = (s.latchesCleared (s.latchesOff v)).heldBack ((List.range 8).filter s.tripped) := rfl

theorem State.rg_heldBack (held : List Nat) (o : Nat) : (s.heldBack held).rg o = s.rg o := by
  refine List.foldlRecOn _ _ (motive := fun t : State => t.rg o = s.rg o) rfl fun t ht m _ => ?_
  exact iteInduction (motive := fun u : State => u.rg o = s.rg o) (fun _ => ht) (fun _ => (State.rg_gatesBack o).trans ht)

theorem State.loc_heldBack {held : List Nat} (hpos : ∀ m ∈ held, (s.lx m).dirNeg = false) : (s.heldBack held).loc = s.loc := by
  refine List.foldlRecOn _ _ (motive := fun t : State => t.loc = s.loc) rfl fun t ht m hm => ?_
  have hdir : (t.lx m).dirNeg = false := (congrArg LxSt.dirNeg (State.lx_congr ht)).trans (hpos m hm)
  exact iteInduction (motive := fun u : State => u.loc = s.loc) (fun _ => ht) (fun _ => (State.loc_gatesBack hdir).trans ht)

theorem State.loc_latchesCleared (l : List Nat) : (s.latchesCleared l).loc = s.loc :=
  List.foldlRecOn _ _ (motive := fun t : State => t.loc = s.loc) rfl fun _ ht _ _ => ht

theorem State.fld_latchesCleared {l : List Nat} (hl : ∀ i ∈ l, i < 8) : (s.latchesCleared l).fld LOCAL_FLT 15 8 = s.fld LOCAL_FLT 15 8 :=
  List.foldlRecOn _ _ (motive := fun t : State => t.fld LOCAL_FLT 15 8 = s.fld LOCAL_FLT 15 8) rfl fun t ht i hi =>
    (State.fld_clrFlag_other t i 15 8 (by have := hl i hi; omega) (Or.inr (hl i hi))).trans ht

theorem State.flag_latchesCleared_of_notMem {l : List Nat} (hl : ∀ i ∈ l, i < 8) {i : Nat} (hi : i ∉ l) :
    (s.latchesCleared l).flag LOCAL_FLT i = s.flag LOCAL_FLT i :=
  List.foldlRecOn _ _ (motive := fun t : State => t.flag LOCAL_FLT i = s.flag LOCAL_FLT i) rfl fun t ht j hj =>
    (State.flag_clrFlag_other t LOCAL_FLT j i (by have := hl j hj; omega) (fun heq => hi (heq ▸ hj))).trans ht

theorem State.flag_latchesCleared_of_mem {l : List Nat} (hl : ∀ i ∈ l, i < 8) {i : Nat} (hi : i ∈ l) :
    (s.latchesCleared l).flag LOCAL_FLT i = false := by
  induction l generalizing s with
  | nil => exact absurd hi List.not_mem_nil
  | cons j l ih =>
    have hl' : ∀ k ∈ l, k < 8 := fun k hk => hl k (List.mem_cons_of_mem _ hk)
    by_cases hmem : i ∈ l
    · exact ih (s := s.clrFlag LOCAL_FLT j) hl' hmem
    · have hij : i = j := (List.mem_cons.1 hi).resolve_right hmem
      subst hij
      have hi8 : i < 8 := hl i hi
      exact (State.flag_latchesCleared_of_notMem (s := s.clrFlag LOCAL_FLT i) hl' hmem).trans
        (State.flag_clrFlag_self s LOCAL_FLT i (by omega))

theorem State.lt_of_mem_latchesOff {v : Nat} : ∀ i ∈ s.latchesOff v, i < 8 := fun _ hi => List.mem_range.1 (List.mem_filter.1 hi).1

/-- The levels of the fault inputs are taken. -/
def State.levelsTaken (s : State) (active : Nat) : State := s.setFld LOCAL_FLT 15 8 active

/-- The state after a write of LOCAL_FLT.LATCH. -/
theorem State.latchClear_of_on {v active : Nat} (hon : s.powered 6 = true) : s.latchClear v active =
    ((s.levelsTaken active).latchesCleared ((s.levelsTaken active).latchesOff v)).heldBack ((List.range 8).filter (s.levelsTaken active).tripped) :=
  (if_pos hon).trans (State.fltClear_eq _)

variable {act : Byte}

theorem State.fld_levelsTaken : (s.levelsTaken act.toNat).fld LOCAL_FLT 15 8 = act.toNat :=
  (State.fld_setFld_self _ _ _ _ _ (by decide) (by decide)).trans (Nat.mod_eq_of_lt act.isLt)

theorem State.flag_levelsTaken {i : Nat} (hi : i < 8) : (s.levelsTaken act.toNat).flag LOCAL_FLT i = s.flag LOCAL_FLT i :=
  State.flag_setFld_other _ _ _ _ _ _ (by decide) (by decide) (Or.inl hi)

theorem getLsbD_eq_div_mod {w : Nat} (x : BitVec w) (i : Nat) : x.getLsbD i = decide (x.toNat / 2 ^ i % 2 = 1) := by
  rw [BitVec.getLsbD, Nat.testBit_eq_decide_div_mod_eq]

theorem State.mem_latchesOff {v : Byte} {i : Nat} (hi : i < 8) : i ∈ (s.levelsTaken act.toNat).latchesOff v.toNat ↔
    v.getLsbD i = true ∧ act.getLsbD i = false ∧ s.flag LOCAL_FLT i = true := by
  have hlow : (decide (act.toNat / 2 ^ i % 2 = 0)) = !act.getLsbD i := by
    rw [getLsbD_eq_div_mod]
    rcases Nat.mod_two_eq_zero_or_one (act.toNat / 2 ^ i) with h | h <;> rw [h] <;> rfl
  unfold State.latchesOff
  rw [List.mem_filter, State.fld_levelsTaken, State.flag_levelsTaken hi, hlow, ← getLsbD_eq_div_mod]
  simp only [List.mem_range, hi, true_and, Bool.and_eq_true, Bool.not_eq_true', and_assoc]

/-- A latch whose input is active stays. -/
theorem State.flag_latchClear_of_active {v : Byte} {i : Nat} (hi : i < 8) (hlatch : s.flag LOCAL_FLT i = true) (hactive : act.getLsbD i = true) :
    (s.latchClear v.toNat act.toNat).flag LOCAL_FLT i = true := by
  by_cases hon : s.powered 6 = true
  · have hkept : i ∉ (s.levelsTaken act.toNat).latchesOff v.toNat := fun hmem => by
      obtain ⟨-, hlow, -⟩ := (State.mem_latchesOff hi).1 hmem
      exact Bool.false_ne_true (hlow.symm.trans hactive)
    rw [State.latchClear_of_on hon]
    exact (congrArg (bit · i) (State.rg_heldBack _ _)).trans
      ((State.flag_latchesCleared_of_notMem State.lt_of_mem_latchesOff hkept).trans ((State.flag_levelsTaken hi).trans hlatch))
  · exact (congrArg (State.flag · LOCAL_FLT i) (if_neg hon)).trans hlatch

/-- A latch whose input is inactive is cleared by a one. -/
theorem State.flag_latchClear_of_inactive {v : Byte} {i : Nat} (hi : i < 8) (hon : s.powered 6 = true) (hone : v.getLsbD i = true)
    (hlow : act.getLsbD i = false) : (s.latchClear v.toNat act.toNat).flag LOCAL_FLT i = false := by
  rw [State.latchClear_of_on hon]
  refine (congrArg (bit · i) (State.rg_heldBack _ _)).trans ?_
  cases hlatch : s.flag LOCAL_FLT i
  · have hkept : i ∉ (s.levelsTaken act.toNat).latchesOff v.toNat := fun hmem => by
      obtain ⟨-, -, hset⟩ := (State.mem_latchesOff hi).1 hmem
      exact Bool.false_ne_true (hlatch.symm.trans hset)
    exact (State.flag_latchesCleared_of_notMem State.lt_of_mem_latchesOff hkept).trans ((State.flag_levelsTaken hi).trans hlatch)
  · exact State.flag_latchesCleared_of_mem State.lt_of_mem_latchesOff ((State.mem_latchesOff hi).2 ⟨hone, hlow, hlatch⟩)

theorem State.fld_latchClear {v : Nat} (hon : s.powered 6 = true) : (s.latchClear v act.toNat).fld LOCAL_FLT 15 8 = act.toNat := by
  rw [State.latchClear_of_on hon]
  exact (congrArg (bits · 15 8) (State.rg_heldBack _ _)).trans
    ((State.fld_latchesCleared State.lt_of_mem_latchesOff).trans State.fld_levelsTaken)

theorem State.loc_latchClear {v active : Nat} (hon : s.powered 6 = true) (hpos : ∀ m < 8, (s.lx m).dirNeg = false) :
    (s.latchClear v active).loc = s.loc := by
  have hloc := State.loc_latchesCleared (s := s.levelsTaken active) ((s.levelsTaken active).latchesOff v)
  rw [State.latchClear_of_on hon]
  refine (State.loc_heldBack fun m hm => ?_).trans hloc
  exact (congrArg LxSt.dirNeg (State.lx_congr hloc)).trans (hpos m (List.mem_range.1 (List.mem_filter.1 hm).1))

end

end Sys2Proof.Machine

/-! Conversions, updates, steps and emulators of the local axes: O27 (R302, R314, R320, R327 to R338, R344). -/

namespace Sys2Proof.Machine

open Sys2Proof

section
variable {s : State} {n a : Nat}

theorem State.lx_setLx (x : LxSt) : (s.setLx n x).lx n = x := Tab.get_set_self _ _ _ _

/-! ### Conversions (R330 to R332, R339, R344) -/

/-- A conversion on some cores is under way. -/
def State.converted (s : State) (cores : List Nat) : State := (s.convert cores).1

/-- What LXn has sampled at its trigger. -/
def State.lxSampled (s : State) (n a : Nat) (opened : Bool) : LxSt :=
  { s.lx n with conv := some s.ntime, held := ((s.localPos n a s.ntime).1, (s.localPos n a s.ntime).2, (s.fb a).sn),
                zs := (s.fb a).zq.map (fun z => z - (s.fb a).cnt), opened := opened }

theorem State.adcTrigger_of_free {b : Bool} (hax : s.axisOfLx n = some a) (hon : s.powered 6 = true)
    (hfree : ((s.chans n).map (fun c => c / 8)).any s.coreBusy = false) : s.adcTrigger n b =
      (s.converted ((s.chans n).map (fun c => c / 8))).setLx n (s.lxSampled n a (bit (s.par a 0x117) 5 && b == bit (s.par a 0x117) 6)) := by
  unfold State.adcTrigger
  rw [hax]
  dsimp only
  rw [hon, hfree]
  rfl

theorem State.adcTrigger_of_off {b : Bool} (hoff : s.powered 6 = false) : s.adcTrigger n b = s := by
  unfold State.adcTrigger
  split
  · rfl
  · rw [hoff]
    rfl

theorem State.adcDone_of_none {ia ib vb : Nat} (hnone : s.axisOfLx n = none ∨ (s.lx n).conv = none) : s.adcDone n ia ib vb = s := by
  unfold State.adcDone
  dsimp only
  rcases hnone with hax | hconv
  · rw [hax]
  · rw [hconv]
    split
    · next h => exact absurd h (by simp)
    · rfl

/-- The codes of a conversion of LXn are taken. -/
def State.codesTaken (s : State) (n ia ib vb : Nat) : State :=
  (((s.adcCode ((s.chans n).getD 0 0) ia).adcCode ((s.chans n).getD 1 0) ib).adcCode ((s.chans n).getD 2 0) vb).setLx n { s.lx n with
    conv := none, probe := none, probeMiss := false, ssi := none, zs := [], samples := (s.lx n).samples + 1 }

theorem State.adcDone_of_miss {ia ib vb trig : Nat} (hax : s.axisOfLx n = some a) (hconv : (s.lx n).conv = some trig)
    (hmiss : (s.lx n).probeMiss = true) : s.adcDone n ia ib vb = (s.codesTaken n ia ib vb).setFb a
      { (s.codesTaken n ia ib vb).fb a with noted := if (s.lx n).opened then [0x08] else [] } := by
  unfold State.adcDone
  dsimp only
  rw [hax, hconv]
  exact if_pos hmiss

/-- Position fields of a sample of a quadrature or Hall feedback. -/
theorem State.localFields_of_edges {x : LxSt} (hkind : s.fbKind a = 1 ∨ s.fbKind a = 2) :
    s.localFields x a = some (x.held.1, x.held.2.1, false, 0) := by
  unfold State.localFields
  rcases hkind with h | h <;> simp only [h]

/-- The record of LXn with its position fields and currents (R339). -/
def State.localRecord (s : State) (n a : Nat) (x : LxSt) (p : Nat × Nat × Bool × Nat) (i : Int × Int × Bool) : List Byte :=
  leBytes 4 p.1 ++ leBytes 4 p.2.1 ++ leBytes 2 (i.1 % 65536).toNat ++ leBytes 2 (i.2.1 % 65536).toNat ++
    leBytes 2 (1 + b2n (!(decide (leAt x.img 6 1 / 8 % 2 = 1) && !s.gatesForced n)) * 4 + b2n i.2.2 * 8 + b2n x.opened * 16 + b2n p.2.2.1 * 32 +
      s.fbKind a * 256 + x.samples % 16 * 4096) ++ [0, 0] ++ leBytes 4 p.2.2.2

/-- A sample with its position fields reaches the feedback; edges that went into it are taken from the counts. -/
def State.sampleIn (s : State) (n a : Nat) (x : LxSt) (p : Nat × Nat × Bool × Nat) (i : Int × Int × Bool) (vbus : Nat) : State :=
  let edges := s.fbKind a = 1 || s.fbKind a = 2
  let skips := if edges then x.held.2.2 else 0
  (if edges then s.setFb a { s.fb a with sn := (s.fb a).sn - skips, zq := (s.fb a).zq.drop x.zs.length } else s).fbSample a
    (s.localRecord n a x p i) vbus 0 true skips x.zs
    (if s.fbKind a = 4 then
      (if edges then s.setFb a { s.fb a with sn := (s.fb a).sn - skips, zq := (s.fb a).zq.drop x.zs.length } else s).ssiComp a else 0)

theorem State.sampleIn_of_edges {x : LxSt} {p : Nat × Nat × Bool × Nat} {i : Int × Int × Bool} {vbus : Nat} (hkind : s.fbKind a = 1 ∨ s.fbKind a = 2) :
    s.sampleIn n a x p i vbus = (s.setFb a { s.fb a with sn := (s.fb a).sn - x.held.2.2, zq := (s.fb a).zq.drop x.zs.length }).fbSample a
      (s.localRecord n a x p i) vbus 0 true x.held.2.2 x.zs 0 := by
  have hedges : (decide (s.fbKind a = 1) || decide (s.fbKind a = 2)) = true := by
    rcases hkind with h | h <;> rw [h] <;> rfl
  unfold State.sampleIn
  dsimp only
  rw [if_pos hedges, if_pos hedges, if_neg (show s.fbKind a ≠ 4 by omega)]

theorem State.adcDone_of_sample {ia ib vb trig : Nat} {p : Nat × Nat × Bool × Nat} (hax : s.axisOfLx n = some a)
    (hconv : (s.lx n).conv = some trig) (hmiss : (s.lx n).probeMiss = false) (hprobe : (s.lx n).probe = none)
    (hfields : (s.codesTaken n ia ib vb).localFields (s.lx n) a = some p) : s.adcDone n ia ib vb = (s.codesTaken n ia ib vb).sampleIn n a (s.lx n) p
      (s.current ((s.chans n).getD 0 0) ia, s.current ((s.chans n).getD 1 0) ib,
        s.clips ((s.chans n).getD 0 0) ia || s.clips ((s.chans n).getD 1 0) ib)
      (clampI 0 65535 ((s.codesTaken n ia ib vb).adcValue ((s.chans n).getD 2 0) vb)).toNat := by
  unfold State.codesTaken at hfields
  unfold State.adcDone
  dsimp only
  rw [hax, hconv, hmiss, hprobe]
  dsimp only
  refine (if_neg Bool.false_ne_true).trans ?_
  rw [hfields]
  rfl

/-- A channel is sampled by the background scan. -/
def State.scanned (s : State) (c : Nat) : State :=
  { s.converted [c / 8] with loc := { (s.converted [c / 8]).loc with scanPtr := Tab.set (c / 8 * 8 + 7) s.loc.scanPtr (c / 8) c } }

theorem State.adcScan_of_turn {c code : Nat} (hon : s.powered 6 = true) (hnext : s.scanNext (c / 8) = some c) (hfree : s.coreBusy (c / 8) = false) :
    s.adcScan c code = (s.scanned c).adcCode c code := by
  refine if_pos ?_
  rw [hon, hnext, hfree, beq_self_eq_true]
  rfl

theorem State.adcScan_of_other {c code : Nat} (hnext : s.scanNext (c / 8) ≠ some c) : s.adcScan c code = s := by
  refine if_neg ?_
  rw [beq_false_of_ne hnext, Bool.and_false, Bool.false_and]
  exact Bool.false_ne_true

/-! ### SSI (R314) -/

theorem State.ssiBurst_of_first {w trig : Nat} (hax : s.axisOfLx n = some a) (hconv : (s.lx n).conv = some trig) (hkind : s.fbKind a = 4)
    (hfirst : Tab.get none s.loc.ssiAt (bits (s.par a 0x100) 5 4) = none) (hcrc : bits (s.par a 0x10F) 24 21 = 0) :
    s.ssiBurst n w = (({ s with loc := { s.loc with
        ssiAt := Tab.set none s.loc.ssiAt (bits (s.par a 0x100) 5 4) (some ((trig : Int) + 200)) } } : State).emit
          (.pin 16 (bits (s.par a 0x100) 5 4) (s.ssiBits a : Nat))).setLx n { s.lx n with
      ssi := some (w % 2 ^ (bits (s.par a 0x10F) 5 0 + bits (s.par a 0x10F) 11 9) / 2 ^ bits (s.par a 0x10F) 11 9, false) } := by
  unfold State.ssiBurst
  rw [hax, hconv]
  dsimp only
  rw [hfirst, hcrc, if_neg (not_not_intro hkind), Nat.pow_zero, Nat.div_one]
  rfl

theorem State.ssiBurst_of_early {w trig : Nat} {e : Int} (hax : s.axisOfLx n = some a) (hconv : (s.lx n).conv = some trig) (hkind : s.fbKind a = 4)
    (hlast : Tab.get none s.loc.ssiAt (bits (s.par a 0x100) 5 4) = some e)
    (hearly : (trig : Int) + 200 - s.ssiNs a < e + s.fld (LOCAL_B + 0x700 + bits (s.par a 0x100) 5 4 * 8) 23 16 * 1000) :
    s.ssiBurst n w = s.setLx n { s.lx n with ssi := none } := by
  unfold State.ssiBurst
  rw [hax, hconv]
  dsimp only
  rw [hlast, if_neg (not_not_intro hkind)]
  exact if_neg (fun h => absurd (of_decide_eq_true h) (Int.not_le.2 hearly))

/-! ### Update points and steps (R327, R336 to R338) -/

theorem State.updatePoint_of_none {t : Nat} (hnone : s.isUpdate n t = false ∨ ((s.bnd + t : Nat) : Int) * 1000 + 999 < (s.lx n).waitFrom) :
    s.updatePoint n t = s := by
  refine if_pos ?_
  rcases hnone with hno | hearly
  · rw [hno, Bool.not_false, Bool.or_true, Bool.true_or]
  · rw [decide_eq_true hearly, Bool.or_true]

/-- The waiting image of LXn comes into force; it is neither a stepper's nor of a step axis. -/
def State.imageIn (s : State) (n : Nat) : State :=
  s.setLx n { s.lx n with
    img := (s.lx n).wait, wait := [], rate1 := 0,
    gates := s.gateTimes n (s.lx n).wait [leAt (s.lx n).wait 0 2, leAt (s.lx n).wait 2 2, leAt (s.lx n).wait 4 2] }

theorem State.updatePoint_of_due {t : Nat} (hwait : (s.lx n).wait ≠ []) (hstep : leAt (s.lx n).wait 6 1 % 8 ≠ 4) (hpair : leAt (s.lx n).wait 6 1 % 8 ≠ 5)
    (hupd : s.isUpdate n t = true) (hdue : (s.lx n).waitFrom ≤ ((s.bnd + t : Nat) : Int) * 1000 + 999) :
    s.updatePoint n t = (s.imageIn n).driveGates n := by
  have hgo : ¬((s.lx n).wait.isEmpty || !s.isUpdate n t || decide (((s.bnd + t : Nat) : Int) * 1000 + 999 < (s.lx n).waitFrom)) = true := by
    rw [List.isEmpty_eq_false_iff.2 hwait, hupd, decide_eq_false (Int.not_lt.2 hdue)]
    exact Bool.false_ne_true
  refine (if_neg hgo).trans ?_
  dsimp only
  rw [if_neg hstep, if_neg hpair, if_neg hpair, decide_eq_false hstep, Bool.false_and, Bool.false_and]
  rfl

theorem State.stepPulse_of_ended (hend : s.inInterval n s.nowCyc = false) : s.stepPulse n = s := by
  refine if_pos ?_
  rw [hend, Bool.not_false, Bool.or_true]

theorem State.gatePin_setLx (x : LxSt) {k v : Nat} : (s.setLx n x).gatePin n k v = s.gatePin n k v := rfl

/-- CK_CORE cycles until the next step of LXn may follow. -/
def State.stepDelta (s : State) (n : Nat) : Nat :=
  max (divRnd (s.passCycles n * 2 ^ 32) (s.stepRate n s.nowCyc)).toNat (2 * s.fld (lxReg n 0x10) 9 0)

/-- LXn takes a step up. -/
def State.steppedUp (s : State) (n : Nat) : State :=
  (s.setLx n { s.lx n with
    steps := wrapS 32 ((s.lx n).steps + 1), stepEnd := s.nowCyc + s.fld (lxReg n 0x10) 9 0, nextStep := s.nowCyc + s.stepDelta n }).setRg (lxReg n 0x18)
      (ofInt (wrapS 32 ((s.lx n).steps + 1)))

theorem State.stepPulse_of_up (hmode : leAt (s.lx n).img 6 1 % 16 = 12) (hfree : s.gatesForced n = false)
    (hup : (s.lx n).steps < wrapS 32 (leAt (s.lx n).img 0 4)) (hrate : 0 < s.stepRate n s.nowCyc) (hdue : (s.lx n).nextStep ≤ s.nowCyc)
    (hin : s.inInterval n s.nowCyc = true) (hdir : (s.lx n).dirNeg = false) (hsetup : (s.lx n).dirAt + s.fld (lxReg n 0x10) 25 16 ≤ s.nowCyc) :
    s.stepPulse n = (s.steppedUp n).emit (s.gatePin n 0 (s.fld (lxReg n 0x10) 9 0)) := by
  have hneg : decide (wrapS 32 (leAt (s.lx n).img 0 4) < (s.lx n).steps) = false := decide_eq_false (Int.not_lt.2 (Int.le_of_lt hup))
  have hstay : (false != (s.lx n).dirNeg) = false := by
    rw [hdir]
    rfl
  unfold State.stepPulse
  dsimp only
  rw [decide_eq_false (not_not_intro hmode), hfree, decide_eq_false (show wrapS 32 (leAt (s.lx n).img 0 4) ≠ (s.lx n).steps from Int.ne_of_gt hup),
    decide_eq_false (Int.not_le.2 hrate), decide_eq_false (Nat.not_lt.2 hdue), hin, hneg, hstay, decide_eq_false (Nat.not_lt.2 hsetup)]
  refine (if_neg Bool.false_ne_true).trans ((if_neg Bool.false_ne_true).trans ((if_neg Bool.false_ne_true).trans ?_))
  rw [if_neg Bool.false_ne_true]
  exact congrArg (State.emit (s.steppedUp n)) (State.gatePin_setLx _)

/-! ### Emulators (R320, R321) -/

/-- No interval waits: the one in force stays, and its edge is emitted when it is due. -/
theorem State.emuEdge_of_idle {e t : Nat} (hidle : (s.emu e).next = none) : s.emuEdge e t =
    if (s.powered 6 && (s.emu e).due (((s.bnd + t : Nat) : Int) * 1000 + 999)) = true then (s.setEmu e (s.emu e).stepped).emuDrive e else s := by
  unfold State.emuEdge
  rw [hidle]
  rfl

theorem State.emu_setEmu {e : Nat} (x : Emu) : (s.setEmu e x).emu e = x := Tab.get_set_self _ _ _ _

theorem Emu.due_of_lost {x : Emu} {now : Int} (hlost : x.lost = true) : x.due now = false := by
  unfold Emu.due
  rw [hlost, Bool.not_true, Bool.and_false, Bool.false_and, Bool.false_and, Bool.false_and, Bool.false_and]

theorem Emu.on_of_due {x : Emu} {now : Int} (hdue : x.due now = true) : x.on = true := by
  unfold Emu.due at hdue
  simp only [Bool.and_eq_true] at hdue
  obtain ⟨⟨⟨⟨⟨hon, -⟩, -⟩, -⟩, -⟩, -⟩ := hdue
  exact hon

theorem Emu.stepped_of_up {x : Emu} (hup : x.out < x.tgt) : x.stepped = { x with out := x.out + 1, phase := (x.phase + 1) % 4, sent := x.sent + 1 } := by
  unfold Emu.stepped
  rw [decide_eq_true hup]
  rfl

theorem State.mem_out_emuDrive {e : Nat} :
    .pin 11 (e * 4) (b2n ((s.emu e).on && (decide ((s.emu e).phase = 1) || decide ((s.emu e).phase = 2))) : Nat) ∈ (s.emuDrive e).out :=
  List.mem_append_left _ (List.mem_append_left _ (List.mem_append_right _ (List.mem_singleton_self _)))

/-! ### Reference inputs and feedback pins (R302, R335) -/

theorem State.refLoss_of_pin {r : Nat} (hmode : 2 ≤ s.fld (refCfg r) 1 0) (hclear : s.flag (refStat r) 0 = false) :
    s.refLoss r = (s.setFlag (refStat r) 0).raise (108 + r) 0x10000 := by
  unfold State.refLoss
  dsimp only
  rw [decide_eq_false (show s.fld (refCfg r) 1 0 ≠ 0 by omega), decide_eq_false (show s.fld (refCfg r) 1 0 ≠ 1 by omega)]
  refine (if_neg ?_).trans (if_neg ?_)
  · exact Bool.false_ne_true
  · exact fun h => Bool.false_ne_true (hclear.symm.trans h)

theorem State.feedbackEdge_of_off {l : Nat} (hoff : s.powered 6 = false) : s.feedbackEdge n l = s := if_neg (by rw [hoff]; exact Bool.false_ne_true)

theorem State.feedbackEdge_of_noAxis {l : BitVec 6} (hon : s.powered 6 = true) (hnone : s.axisOfLx n = none) :
    s.feedbackEdge n l.toNat = s.setLx n { s.lx n with pins := l.toNat } := by
  have hnone' : (s.setLx n { s.lx n with pins := l.toNat }).axisOfLx n = none := hnone
  refine (if_pos hon).trans ?_
  unfold State.edgeTaken
  dsimp only
  rw [Nat.mod_eq_of_lt l.isLt, hnone']

/-- A rises while B is low: the count goes up by one. -/
theorem State.feedbackEdge_of_rise {l : BitVec 6} (hon : s.powered 6 = true) (hax : s.axisOfLx n = some a) (hkind : s.fbKind a = 1)
    (hrest : l.toNat / 4 = (s.lx n).pins / 4) (hnew : l.toNat % 4 = 1) (hold : (s.lx n).pins % 4 = 0) :
    s.feedbackEdge n l.toNat = (s.setLx n { s.lx n with pins := l.toNat }).setFb a { s.fb a with cnt := (s.fb a).cnt + 1 } := by
  have hax' : (s.setLx n { s.lx n with pins := l.toNat }).axisOfLx n = some a := hax
  have hkind' : (s.setLx n { s.lx n with pins := l.toNat }).fbKind a = 1 := hkind
  refine (if_pos hon).trans ?_
  unfold State.edgeTaken
  dsimp only
  rw [Nat.mod_eq_of_lt l.isLt, hax']
  dsimp only
  rw [hkind', hnew, hold, hrest, decide_eq_false (not_not_intro rfl), Bool.false_and]
  rfl

/-! ### The end of a probe pulse (R344) -/

theorem State.probeEnd_of_busy {ia ib : Nat} (hbusy : s.coreBusy ((s.chans n).getD 0 0 / 8) = true ∨ s.coreBusy ((s.chans n).getD 1 0 / 8) = true) :
    s.probeEnd n ia ib = s.setLx n { s.lx n with probe := none, probeMiss := true } :=
  if_pos (Bool.or_eq_true_iff.2 hbusy)

/-- The two currents at the end of a probe pulse are converted. -/
def State.probeCodes (s : State) (n ia ib : Nat) : State :=
  ((s.converted [(s.chans n).getD 0 0 / 8, (s.chans n).getD 1 0 / 8]).adcCode ((s.chans n).getD 0 0) ia).adcCode ((s.chans n).getD 1 0) ib

theorem State.probeEnd_of_free {ia ib : Nat} (ha : s.coreBusy ((s.chans n).getD 0 0 / 8) = false) (hb : s.coreBusy ((s.chans n).getD 1 0 / 8) = false) :
    s.probeEnd n ia ib = (s.probeCodes n ia ib).setLx n { s.lx n with
      probe := some ((s.probeCodes n ia ib).current ((s.chans n).getD 0 0) ia, (s.probeCodes n ia ib).current ((s.chans n).getD 1 0) ib,
        (s.probeCodes n ia ib).clips ((s.chans n).getD 0 0) ia || (s.probeCodes n ia ib).clips ((s.chans n).getD 1 0) ib), probeMiss := false } := by
  refine if_neg ?_
  rw [ha, hb]
  exact Bool.false_ne_true

/-- Results of conversions leave a channel's scale alone. -/
theorem State.adcValue_adcCode {c c' code code' : Nat} (hc : c < 32) : (s.adcCode c code).adcValue c' code' = s.adcValue c' code' := by
  have hzero : LOCAL_B + 0x200 + c' * 8 ≠ LOCAL_B + 0x100 + c * 4 := by omega
  have hscale : LOCAL_B + 0x204 + c' * 8 ≠ LOCAL_B + 0x100 + c * 4 := by omega
  unfold State.adcValue State.adcCode State.fld
  dsimp only
  rw [State.rg_setRg_ne _ _ _ _ hzero, State.rg_setRg_ne _ _ _ _ hscale]
  rfl

theorem State.chan_lt (k : Fin 2) : (s.chans n).getD k.val 0 < 32 := by
  match k with
  | 0 => exact bits_lt _ _ _
  | 1 => exact bits_lt _ _ _

theorem State.adcValue_probeCodes {ia ib c code : Nat} : (s.probeCodes n ia ib).adcValue c code = s.adcValue c code :=
  (State.adcValue_adcCode (State.chan_lt 1)).trans (State.adcValue_adcCode (State.chan_lt 0))

theorem State.current_probeCodes {ia ib c code : Nat} : (s.probeCodes n ia ib).current c code = s.current c code :=
  congrArg (sat 16) State.adcValue_probeCodes

theorem State.clips_probeCodes {ia ib c code : Nat} : (s.probeCodes n ia ib).clips c code = s.clips c code := by
  unfold State.clips
  rw [State.current_probeCodes, State.adcValue_probeCodes]

end

/-- Settles O27: a trip, a clear, a conversion, an update, a step and an edge are each their function of the axis (or emulator), whose guard
the clause fixes; each clause's registers and outputs follow from the registers that the function writes. -/
theorem localAxes : Obligations.LocalAxes := by
  unfold Obligations.LocalAxes
  refine ⟨fun s i hon => ?_, fun s i hoff => ?_, fun s v act hoff => ?_, fun s v act i hon hone hlow => ?_, fun s v act i hlatch hactive => ?_,
    fun s n t b a hax hon hfree => ?_, fun s n t b hoff => ?_, fun s n ia ib vb hnone => ?_, fun s n ia ib vb a trig hax hconv hmiss => ?_,
    fun s n ia ib vb a trig hax hconv hmiss hprobe hkind => ?_, fun s c x hon hnext hfree => ?_, fun s c x hnext => ?_,
    fun s n w a trig hax hconv hkind hfirst hcrc => ?_, fun s n w a trig e hax hconv hkind hlast hearly => ?_,
    fun s n t hwait hstep hpair hupd hdue => ?_, fun s n t hnone => ?_, fun s n t hmode hfree hup hrate hdue hin hdir hsetup => ?_,
    fun s n t hend => ?_, fun s e t hon hidle hdue hup => ?_, fun s e t hidle hlost => ?_, fun s r hmode hclear => ?_, fun s r => rfl,
    fun s n l t hoff => ?_, fun s n l t hon hnone => ?_, fun s n l t a hon hax hkind hrest hnew hold => ?_, fun s n t ia ib hbusy => ?_,
    fun s n t ia ib ha hb => ?_⟩
  · refine ⟨_, congrArg Host.Outcome.next (State.fltTrip_of_on hon), State.flag_tripFlags_latch i.isLt, State.flag_tripFlags_level i.isLt, rfl,
      fun o ho => State.rg_tripFlags ho, fun n k hmap => ?_⟩
    have hhit : n.val ∈ s.tripHits i.val := List.mem_filter.2 ⟨List.mem_range.2 n.isLt, hmap⟩
    have hpin : (s.tripNoted i.val).gatePin n.val k.val 0 = s.gatePin n.val k.val 0 := State.gatePin_tripNoted
    exact List.mem_append_right _ (List.mem_flatMap.2
      ⟨n.val, hhit, hpin ▸ State.gatePin_mem_gatesOut (State.gatesForced_tripNoted i.isLt hmap) k⟩)
  · exact congrArg Host.Outcome.next (if_neg (by rw [hoff]; exact Bool.false_ne_true))
  · exact congrArg Host.Outcome.next (if_neg (by rw [hoff]; exact Bool.false_ne_true))
  · refine ⟨_, rfl, State.flag_latchClear_of_inactive i.isLt hon hone hlow, State.fld_latchClear hon, fun hpos => ?_⟩
    refine State.loc_latchClear hon fun m hm => ?_
    have hall := List.all_eq_true.1 hpos m (List.mem_range.2 hm)
    rwa [Bool.not_eq_true'] at hall
  · exact ⟨_, rfl, State.flag_latchClear_of_active i.isLt hlatch hactive⟩
  · have hlx := State.lx_setLx (s := (s.at_ t).converted (((s.at_ t).chans n.val).map (fun c => c / 8))) (n := n.val)
      ((s.at_ t).lxSampled n.val a (bit ((s.at_ t).par a 0x117) 5 && b == bit ((s.at_ t).par a 0x117) 6))
    exact ⟨_, congrArg Host.Outcome.next (State.adcTrigger_of_free hax hon hfree), congrArg LxSt.conv hlx, congrArg LxSt.zs hlx, rfl, rfl⟩
  · exact congrArg Host.Outcome.next (State.adcTrigger_of_off hoff)
  · exact congrArg Host.Outcome.next (State.adcDone_of_none hnone)
  · exact ⟨_, rfl, congrArg Host.Outcome.next (State.adcDone_of_miss hax hconv hmiss)⟩
  · exact ⟨_, rfl, congrArg Host.Outcome.next
      ((State.adcDone_of_sample hax hconv hmiss hprobe (State.localFields_of_edges hkind)).trans (State.sampleIn_of_edges hkind))⟩
  · exact ⟨_, congrArg Host.Outcome.next (State.adcScan_of_turn hon hnext hfree), State.rg_setRg_self _ _ _, Tab.get_set_self _ _ _ _,
      Tab.get_set_self _ _ _ _, rfl⟩
  · exact congrArg Host.Outcome.next (State.adcScan_of_other hnext)
  · exact ⟨_, rfl, congrArg Host.Outcome.next (State.ssiBurst_of_first hax hconv hkind hfirst hcrc)⟩
  · exact congrArg Host.Outcome.next (State.ssiBurst_of_early hax hconv hkind hlast hearly)
  · exact congrArg Host.Outcome.next (State.updatePoint_of_due hwait hstep hpair hupd hdue)
  · exact congrArg Host.Outcome.next (State.updatePoint_of_none hnone)
  · have hlx := State.lx_setLx (s := s.at_ t) (n := n.val) { s.lx n.val with
      steps := wrapS 32 ((s.lx n.val).steps + 1), stepEnd := (s.at_ t).nowCyc + s.fld (lxReg n.val 0x10) 9 0,
      nextStep := (s.at_ t).nowCyc + (s.at_ t).stepDelta n.val }
    exact ⟨_, congrArg Host.Outcome.next (State.stepPulse_of_up (s := s.at_ t) hmode hfree hup hrate hdue hin hdir hsetup),
      congrArg LxSt.steps hlx, State.rg_setRg_self _ _ _, rfl, fun o ho => State.rg_setRg_ne _ _ _ _ ho⟩
  · exact congrArg Host.Outcome.next (State.stepPulse_of_ended hend)
  · have hcond : ((s.at_ t).powered 6 && ((s.at_ t).emu e.val).due ((((s.at_ t).bnd + t : Nat) : Int) * 1000 + 999)) = true :=
      Bool.and_eq_true_iff.2 ⟨hon, hdue⟩
    have hemu := (State.emu_setEmu (s := s.at_ t) (e := e.val) (s.emu e.val).stepped).trans (Emu.stepped_of_up hup)
    have hpin := State.mem_out_emuDrive (s := (s.at_ t).setEmu e.val (s.emu e.val).stepped) (e := e.val)
    rw [hemu] at hpin
    refine ⟨_, congrArg Host.Outcome.next ((State.emuEdge_of_idle (s := s.at_ t) hidle).trans (if_pos hcond)), hemu, rfl, ?_⟩
    rw [Emu.on_of_due hdue, Bool.true_and, ← Bool.decide_or] at hpin
    exact hpin
  · refine congrArg Host.Outcome.next ((State.emuEdge_of_idle (s := s.at_ t) hidle).trans (if_neg ?_))
    rw [Emu.due_of_lost (x := (s.at_ t).emu e.val) hlost, Bool.and_false]
    exact Bool.false_ne_true
  · exact congrArg Host.Outcome.next (State.refLoss_of_pin hmode hclear)
  · exact congrArg Host.Outcome.next (State.feedbackEdge_of_off hoff)
  · exact congrArg Host.Outcome.next (State.feedbackEdge_of_noAxis hon hnone)
  · exact congrArg Host.Outcome.next (State.feedbackEdge_of_rise hon hax hkind hrest hnew hold)
  · exact congrArg Host.Outcome.next (State.probeEnd_of_busy hbusy)
  · have hlx := State.lx_setLx (s := (s.at_ t).probeCodes n.val ia.toNat ib.toNat) (n := n.val) { s.lx n.val with
      probe := some (((s.at_ t).probeCodes n.val ia.toNat ib.toNat).current (((s.at_ t).chans n.val).getD 0 0) ia.toNat,
        ((s.at_ t).probeCodes n.val ia.toNat ib.toNat).current (((s.at_ t).chans n.val).getD 1 0) ib.toNat,
        ((s.at_ t).probeCodes n.val ia.toNat ib.toNat).clips (((s.at_ t).chans n.val).getD 0 0) ia.toNat ||
          ((s.at_ t).probeCodes n.val ia.toNat ib.toNat).clips (((s.at_ t).chans n.val).getD 1 0) ib.toNat), probeMiss := false }
    refine ⟨_, congrArg Host.Outcome.next (State.probeEnd_of_free (s := s.at_ t) ha hb), (congrArg LxSt.probe hlx).trans ?_,
      congrArg LxSt.probeMiss hlx, State.rg_setRg_self _ _ _, rfl⟩
    dsimp only
    rw [State.current_probeCodes, State.current_probeCodes, State.clips_probeCodes, State.clips_probeCodes]

end Sys2Proof.Machine
